-- ==== Sys2Proof/Word.lean ====
section
/-! DEFINITION. The smallest units of data: a byte, and the few words the manual names as bit patterns (00_scope R6, R7). -/
namespace Sys2Proof

/-- One byte; bits are numbered from 0, the least significant (R6). -/
abbrev Byte := BitVec 8

/-- A 16-bit word, as the dictionary's U16 bit maps use it. -/
abbrev Word16 := BitVec 16

/-- A 32-bit word, as the CRC-32C (R30) and the dictionary's U32 bit maps use it. -/
abbrev Word32 := BitVec 32

/-- A 64-bit word: identities, a memory block's data (R397). -/
abbrev Word64 := BitVec 64

end Sys2Proof
end

