-- ==== Sys2Proof/Config.lean ====
section
/-! DEFINITION. What an implementation fixes and what the manual leaves open: the shape of a dictionary
entry (10_object_dictionary R243 to R246), the constants set at manufacture (R4, R380, R432), and the free values, which
have no body, so that no proof can see what they are. -/
namespace Sys2Proof

/-- The types of Table 10-1, in the order of their codes 0x01 to 0x0C. -/
inductive Ty where
  | bool | u8 | u16 | u32 | u64 | s16 | s32 | f32 | enum8 | str | octets | time64
  deriving DecidableEq, Repr, Inhabited

/-- The access classes of Table 10-2, in the order of their codes 0 to 5. -/
inductive Access where
  | ro | rw | rwc | rwi | wo | saf
  deriving DecidableEq, Repr, Inhabited

/-- The persistence classes of Table 10-3, in the order of their codes 0 to 2. -/
inductive Persist where
  | vol | per | mir
  deriving DecidableEq, Repr, Inhabited

/-- A value of an entry: a number (two's complement already resolved) or raw bytes. -/
inductive Val where
  | num   (v : Int)
  | bytes (bs : List Byte)
  deriving DecidableEq, Repr, Inhabited

/-- The range column of an entry. Rules that link several entries are checked apart. -/
inductive Range where
  | any                       -- every value of the type
  | between (lo hi : Int)     -- lo to hi, both included (R5)
  | zeroOr  (lo hi : Int)     -- 0, or lo to hi
  | orVal   (v lo hi : Int)   -- the value v, or lo to hi
  | length  (lo hi : Nat)     -- a STR or OCTETS of lo to hi bytes
  deriving DecidableEq, Repr, Inhabited

/-- One row of a dictionary table (R243). An entry that repeats stands at `index + istep * k`, `sub + sstep * k` for
k from 0 to `count - 1`; `first` is the manual's number of instance 0. -/
structure Entry where
  index  : Nat
  sub    : Nat
  name   : String
  ty     : Ty
  access : Access
  persist : Persist
  unit   : String
  dflt   : Val
  range  : Range
  count  : Nat := 1
  istep  : Nat := 0
  sstep  : Nat := 0
  first  : Nat := 0
  deriving DecidableEq, Repr, Inhabited

namespace Config

/-- FREE VALUE: the quotient of a division whose divisor is 0, where the manual's pseudocode states no result. -/
opaque divByZero : Int → Int

/-- FREE VALUE: what the manual leaves undefined and calls for once: the argument is a fresh number (State.freeNo). -/
opaque freeValue : Nat → Int

/-- Set at manufacture (R4, Table 10-12): the major issue less 1, so that it lies in 1 to 255. -/
opaque hwMajor : Fin 255

/-- Set at manufacture (R4, Table 10-12): the minor issue. -/
opaque hwMinor : Byte

/-- SYS_HW_ISSUE (Table 10-12): the major issue in bits 15-8, the minor issue in bits 7-0. -/
def hwIssue : Word16 := BitVec.ofNat 16 ((hwMajor.val + 1) * 256 + hwMinor.toNat)

/-- Set at manufacture (R4, Table 10-12): the four digits YYWW of SYS_SERIAL. -/
opaque serialDate : Vector (Fin 10) 4

/-- Set at manufacture (R4, Table 10-12): the other 8 characters of SYS_SERIAL, 0 to 9 as their digits and A to Z as 10 to 35. -/
opaque serialUnit : Vector (Fin 36) 8

/-- The ASCII byte of a digit or a letter. -/
def alnumByte (n : Nat) : Byte := BitVec.ofNat 8 (if n < 10 then 48 + n else 55 + n)

/-- SYS_SERIAL (Table 10-12): 12 characters. -/
def serial : List Byte := serialDate.toList.map (fun d => alnumByte d.val) ++ serialUnit.toList.map (fun d => alnumByte d.val)

/-- Factory (Table 11-3): the 6 bytes of NET_MAC. -/
opaque macBytes : Vector Byte 6

/-- NET_MAC as a list. -/
def mac : List Byte := macBytes.toList

/-- Factory (Table 19-5): SUP_IDCODE. -/
opaque idcode : Nat

/-- Factory (Table 19-5): SUP_SCAN_MAP, the chain length of each island in bits. -/
opaque scanMap : Nat → Nat

/-- Factory fuse map (R404): spare rows switched in from the fuses. -/
opaque sparesFused : Nat

/-- Factory fuse map (R404): whether the fuse map names this row of this macro. -/
opaque fusedRow : Nat → Nat → Bool

/-- The four P-256 public keys fused at manufacture (R380), by KEY_ID. -/
opaque fusedKey : Nat → List Byte

/-- What manufacture put into a flash bank (R379): bank, byte address. -/
opaque flashFactory : Nat → Nat → Byte

/-- FIPS 186-5 ECDSA P-256 verification of (public key, SHA-256 digest, signature) (R380): the cited standard's function. -/
opaque ecdsaValid : List Byte → List Byte → List Byte → Bool

/-- The SHA-256 digest of a list of bytes (R379, R382): the cited standard's function. -/
opaque sha256 : List Byte → List Byte

/-- What a scan chain shifts out for an island at a bit position while frozen (R432): implementation contents. -/
opaque scanBit : Nat → Nat → Bool

/-- FREE VALUE: the fixed time from the peak to the end of the SAMPLE frame at the module's connector, ns (R159). The manual states
only its upper limit. -/
opaque stageDelivery : Nat

/-- FREE VALUE: the measured current of a field output at an instant, mA (DIO_DQ_CURRENT, DIO_SQ_CURRENT): safe output or standard,
output number, plant time. The manual names no command that brings it. -/
opaque outputCurrent : Bool → Nat → Nat → Nat

/-- FREE VALUE: a field of DESCRIBE that the manual does not state: DEFAULT (0), MIN (1) or MAX (2) of a STR or OCTETS entry, by
index * 256 + subindex. -/
opaque describeField : Nat → Nat → List Byte

/-- FREE VALUE: the status that answers a READ whose value does not fit a message (more than 1,400 bytes), by index * 256 +
subindex. The manual states none. -/
opaque longReadStatus : Nat → Nat

end Config
end Sys2Proof
end

