-- ==== Sys2Proof/Syntax.lean ====
section
/-! DEFINITION. The commands the module takes from outside: the operand types and the one inductive type of commands, one
constructor per row of the table of operations and events. Times `t` are plant time in ns. -/
namespace Sys2Proof

/-- The two radios of the chain (R22). -/
inductive Radio where
  | a | b
  deriving DecidableEq, Repr, Inhabited

/-- The two plant LANs. -/
inductive Lan where
  | a | b
  deriving DecidableEq, Repr, Inhabited

/-- Lane 0 or lane 1 of the Stage link or of the mirror link. -/
inductive Lane where
  | l0 | l1
  deriving DecidableEq, Repr, Inhabited

/-- The four Ethernet ports, ETH_A1, ETH_A2, ETH_B1, ETH_B2. -/
inductive Port where
  | a1 | a2 | b1 | b2
  deriving DecidableEq, Repr, Inhabited

/-- The two CAN channels. -/
inductive CanCh where
  | can1 | can2
  deriving DecidableEq, Repr, Inhabited

/-- The ten islands (Table 1-2). -/
inductive Island where
  | p | h | c | e | m | n | s | f | b | j
  deriving DecidableEq, Repr, Inhabited

/-- The external set-point sources (R168). -/
inductive ExtSource where
  | ai | pi
  deriving DecidableEq, Repr, Inhabited

/-- The six safety functions (Table 9-1). -/
inductive SafetyFn where
  | is | ov | uv | ot | oc | ms
  deriving DecidableEq, Repr, Inhabited

/-- What wakes the E island (R107). -/
inductive WakeCause where
  | current | can | command
  deriving DecidableEq, Repr, Inhabited

/-- Where a request of the object access protocol came from and where its reply goes (R247, R249): a UDP source address and
port, with `own` true for a request sent to the module's own address and false for one sent to the pair's service address. -/
inductive Via where
  | udp (ip : Word32) (port : Word16) (own : Bool)
  | can
  deriving DecidableEq, Repr, Inhabited

/-- The header fields of a request (Table 10-5) as received, less those that its row fixes. -/
structure Hdr where
  via    : Via
  ver    : Nat := 1
  kind   : Nat := 1
  flags  : Nat := 0
  status : Nat := 0
  ses    : Nat := 0
  seq    : Nat := 0
  rsv    : Nat := 0
  jseq   : Nat := 0
  crc    : Nat
  deriving DecidableEq, Repr, Inhabited

/-- A request of the object access protocol (Table 10-5). -/
structure Req where
  h       : Hdr
  op      : Nat
  index   : Nat
  sub     : Nat
  payload : List Byte
  deriving DecidableEq, Repr, Inhabited

/-- An ENUM_CLAIM an invitation drew (R26 step 3): the signal strength in dBm and the random token. -/
structure EnumClaim where
  rssi  : Int
  token : Nat
  deriving DecidableEq, Repr, Inhabited

/-- A CAN frame on the bus (R290, R293). -/
structure CanFrame where
  id   : Nat
  ext  : Bool
  fd   : Bool
  brs  : Bool
  rtr  : Bool
  data : List Byte
  deriving DecidableEq, Repr, Inhabited

/-- The kinds of CAN error of CAN_LAST_ERROR (Table 12-5), less ACK. -/
inductive CanErr where
  | stuff | form | bit1 | bit0 | crc
  deriving DecidableEq, Repr, Inhabited

/-- How a transmission attempt ends (R299). -/
inductive TxOutcome where
  | sent | lostArb | noAck | error (k : CanErr)
  deriving DecidableEq, Repr, Inhabited

/-- What a sleeping channel sees on its bus (R305): a dominant phase of some ns, a frame, or a frame-error count. -/
inductive WakeSign where
  | dominant (ns : Nat) | frame (f : CanFrame) | frameError
  deriving DecidableEq, Repr, Inhabited

/-- What a DI strobe measures at one input: its level and the results of its wire check (R312, R314). -/
structure DiReading where
  mv     : Int
  microA : Int
  deriving DecidableEq, Repr, Inhabited

/-- The field groups that are fenced alone (R310). -/
inductive FieldGroup where
  | di (g : Fin 4) | dq (g : Fin 4) | ai | pi
  deriving DecidableEq, Repr, Inhabited

/-- The results of the checks a start makes (R341, R342, R389, R404, R413, R426): the islands whose spare rows, SRAM checker or march
test failed, the MRAM and flash checkers, the checks of the two copies of the bank pointer and of the
soft map, the safety cores' comparison, each LAN's port self-checks, the recorder records with failed copies (record, A, B), the
number of kept journal entries before a cut (R258), and the measured hold-up capacitance (µF). -/
structure StartChecks where
  spareFail  : List Island := []
  sramFail   : List Island := []
  marchFail  : List Island := []
  mramOk     : Bool := true
  flashOk    : Bool := true
  ptrAOk     : Bool := true
  ptrBOk     : Bool := true
  softAOk    : Bool := true
  softBOk    : Bool := true
  coresAgree : Bool := true
  lanAOk     : Bool := true
  lanBOk     : Bool := true
  recBad     : List (Nat × Bool × Bool) := []
  journalCut : Option Nat := none
  holdupUf   : Nat := 150
  deriving DecidableEq, Repr, Inhabited

/-- SYS_RESET_CAUSE (Table 14-5). -/
inductive ResetCause where
  | powerOn | brownOut | pwrEn | extraction | command | selftest | freeze | tap | pMemory
  deriving DecidableEq, Repr, Inhabited

/-- What starts a shutdown (R337): PWR_EN low for some ms, PRESENT_S lost, or a hold-up shortfall. -/
inductive ShutdownWhy where
  | pwrEn (lowMs : Nat) | presentS | holdup
  deriving DecidableEq, Repr, Inhabited

/-- The commands of the block: one constructor per row of the table of operations and events, in its order. -/
inductive Instr where
  /-- FRAME_TICK (R17): The 1 ms frame tick reaches every island, and the juggler starts the frame's host tasks in the fixed order of Table 1-3. -/
  | frameTick (alive : Bool)
  /-- FAULT_CLEAR (R466): A fault code clears for its instance when its cause has been absent for the clearing time of its owning table. -/
  | faultClear (code inst : Nat)
  /-- ISLAND_HANG (R428): An island that fails to acknowledge the frame tick in 3 consecutive frames is fenced. -/
  | islandHang (i : Island)
  /-- SWEEP_LAUNCH (R37): At the sweep period on a frame boundary, both radios launch beacons and the sweep counter advances. -/
  | sweepLaunch (t : Nat) (heard : List (Radio × List Byte))
  /-- TRAIN_RECEIVE (R35): A train reaching a radio is decoded into records, and the cell values go to the E, H and S islands. -/
  | trainReceive (radio : Radio) (t : Nat) (body : List Byte)
  /-- TRAIN_DEADLINE (R41): A radio's train deadline passes without a complete train, and its half is broken for the sweep. -/
  | trainDeadline (radio : Radio) (t : Nat)
  /-- RECOVERY_START (R42): 100 µs after its own train or deadline, the other radio sends a recovery beacon for the broken half. -/
  | recoveryStart (radio : Radio) (t : Nat)
  /-- RECOVERY_END (R42): The recovery ends at the arrival of the recovery train or at the recovery deadline; the sweep is marked SPLIT and undelivered nodes UNREACHED. -/
  | recoveryEnd (radio : Radio) (t : Nat)
  /-- DUTY_FRAME_SEND (R37): 100 µs after its train arrives, each radio sends a DUTY frame with the duties computed after the previous sweep. -/
  | dutyFrameSend (radio : Radio) (t : Nat)
  /-- SERVICE_EXCHANGE (R39): A queued COMMAND runs in the service window, or in place of the duty train when it does not fit. -/
  | serviceExchange (radio : Radio) (t : Nat) (heard : Option (List Byte))
  /-- READ_ID_REPLY (R122): A READ_ID reply gives a node's identity, which is compared with the learned record of each of its positions. -/
  | readIdReply (radio : Radio) (t : Nat) (sender : Option Word64) (body : List Byte)
  /-- READ_LEAD_STATUS_REPLY (R63): The reply names the open leads, whose adjoining positions are faulted in place of the whole node. -/
  | readLeadStatusReply (radio : Radio) (t : Nat) (body : List Byte)
  /-- CHN_ENUMERATE (R26): A command to enumerate the chain hop by hop from radio A; refused BUSY_PROTECTING unless PARKED. -/
  | chnEnumerate (h : Hdr) (payload : List Byte)
  /-- ENUMERATION_END (R27): Enumeration ends with TOPOLOGY and ENUM_CHECK, and the chain either runs or stays FAILED with every position silent. -/
  | enumerationEnd (rounds : List (List EnumClaim)) (mismatch bReaches : Bool)
  /-- AUTO_CHANNEL_EVAL (R49): After 100 sweeps of CRC counts, a radio with more than 5 % failures is moved to the best permitted channel. -/
  | autoChannelEval (radio : Radio)
  /-- IDENTITY_POLL (R122): Every 1,000 sweeps, the module reads node identities with READ_ID in the service window. -/
  | identityPoll
  /-- CHN_PACK_KEY_WRITE (R54): A write of the pack key while PARKED is loaded into the nodes with KEY_LOAD. -/
  | chnPackKeyWrite (h : Hdr) (payload : List Byte)
  /-- CHN_KEY_NODE (R54): A command to send the clear-text first KEY_LOAD to an unkeyed node. -/
  | chnKeyNode (h : Hdr) (payload : List Byte)
  /-- RADIO_FAULT (R47): A failed baseband fences its chain half, and the other radio serves all nodes in the single-radio topology. -/
  | radioFault (radio : Radio)
  /-- LEAD_LEARN_TRIPLE (R71): Every STR_LEAD_LEARN_INT sweeps, a QUIET-learning-QUIET triple is scheduled to learn lead resistances. -/
  | leadLearnTriple
  /-- LEAD_R_WRITE (R70): A write of CELL_LEAD_R_LO or CELL_LEAD_R_HI sets a shared inner lead in both entries with source CONFIGURED. -/
  | leadRWrite (h : Hdr) (pos : Fin 256) (hi : Bool) (payload : List Byte)
  /-- COULOMB_WORD (R81): A coulomb channel word is checked, stamped and delivered to the E, H and S islands. -/
  | coulombWord (bytes : List Byte) (t : Nat)
  /-- COUL_LOST (R83): No usable coulomb sample for 10 ms raises 0x3002, and the count moves to the stage current. -/
  | coulLost
  /-- SOURCE_NONE_TIMEOUT (R83): 1 s without any current source, outside PARKED, clears VALID on the contexts. -/
  | sourceNoneTimeout
  /-- REST_SECOND (R91): Once per second the mean current is formed and the rest and pseudo-rest timers are updated. -/
  | restSecond
  /-- TEMP_HOLD_EXPIRY (R90): 60 s without a VALID temperature turns the context COUNT_ONLY. -/
  | tempHoldExpiry (pos : Fin 256)
  /-- TABLE_PAGER_LOAD (R88): In the frame after a commit, the pager loads the new table data, checks its CRC and swaps at the next boundary. -/
  | tablePagerLoad (set : Fin 16) (crcOk : Bool)
  /-- CHECKPOINT_WRITE (R104): Every EST_CKPT_INT, all 256 contexts are written to alternating MRAM checkpoint copies. -/
  | checkpointWrite
  /-- CONTEXT_RESTORE (R105): After LIMITED, once plant time locks or 18 s pass, the contexts are restored from the checkpoint or the partner and reconciled. -/
  | contextRestore (aOk bOk : Bool)
  /-- E_HIBERNATE (R106): After EST_HIB_DELAY PARKED below the wake current, E writes a checkpoint and stops its clock. -/
  | eHibernate
  /-- E_WAKE (R107): A wake by current, by CAN, or by a command or write applies the accumulated charge and self-discharge and returns E to RUNNING. -/
  | eWake (cause : WakeCause)
  /-- E_TIMER_WAKE (R107): Every 15 min, the P timer wakes E to apply charge, then E checkpoints and hibernates again. -/
  | eTimerWake
  /-- EST_REST_REQ (R97): A command passing a rest-window request to dispatch. -/
  | estRestReq (h : Hdr) (payload : List Byte)
  /-- CAP_LEARN_COMPUTE (R114): After its journal commit, a learning pair is computed and either updates capacity and SOH or is refused. -/
  | capLearnCompute (pos : Fin 256)
  /-- CAP_RECORD_WRITE (R116): A learned-record write starts once the hold-up gauge allows it, and its completion is then journaled. -/
  | capRecordWrite (pos : Fin 256) (first second : Bool)
  /-- LEARN_DEFERRED (R116): A record write deferred for 60 s raises 0x3011. -/
  | learnDeferred (pos : Fin 256)
  /-- OPEN_LEARN_COMPLETION (R118): After restore and before FULL, every open CAP_LEARN entry is completed, discarded or recomputed in journal order. -/
  | openLearnCompletion (pos : Fin 256)
  /-- LEARNED_COPY_REWRITE (R112): A learned-record copy that fails its check is rewritten from the valid copy within 1 s. -/
  | learnedCopyRewrite (pos : Fin 256) (slotB : Bool)
  /-- RECORD_BATCH_HOURLY (R120): Every hour, throughput is moved into THRU, SOH_R and remaining life are recomputed, and all 256 records are written as one batch. -/
  | recordBatchHourly
  /-- CELL_ID_ACK (R128): A command acknowledging 0x200E for one position. -/
  | cellIdAck (h : Hdr) (pos : Fin 256) (payload : List Byte)
  /-- EST_ID_ACK_ALL (R128): A command acknowledging 0x200E for all positions. -/
  | estIdAckAll (h : Hdr) (payload : List Byte)
  /-- SAMPLE_FRAME (R141): A SAMPLE frame arriving by the sample deadline starts the period's computation. -/
  | sampleFrame (lane : Lane) (t : Nat) (bytes : List Byte) (computeNs : Nat)
  /-- SAMPLE_DEADLINE (R143): A SAMPLE frame not complete by the deadline is discarded, and the held duty is sent. -/
  | sampleDeadline (t : Nat)
  /-- DUTY_SEND (R141): At t_D, the DUTY frame leaves on every wired lane. -/
  | dutySend (t : Nat)
  /-- PWM_BOUNDARY (R142): At each reference valley, C latches the references, limits and mode written by H. -/
  | pwmBoundary (t : Nat)
  /-- DWELL_END (R175): At the end of the direction dwell, the direction flips and the new loop runs preloaded to d_z. -/
  | dwellEnd
  /-- SAMPLE_LOST (R144): CVT_SAMPLE_MISS_MAX periods without a usable SAMPLE raise 0x4003 and stop switching. -/
  | sampleLost
  /-- LANE_TRAINING (R139): A lane sees 16 consecutive valid characters and moves to TRAINING. -/
  | laneTraining (lane : Lane)
  /-- LANE_UP (R161): A lane reaches UP, and the module sends IDENT to the stage. -/
  | laneUp (lane : Lane)
  /-- LANE_DOWN (R139): A lane falls to DOWN, and the select moves to the other lane when it is UP. -/
  | laneDown (lane : Lane)
  /-- IDENT_REPLY (R161): The stage's IDENT reply fills CVT_STAGE_ and is checked against the configuration. -/
  | identReply (bytes : List Byte)
  /-- FAULTS_REPLY (R145): A FAULTS reply is stored in CVT_STAGE_FAULTS and raises 0x4006. -/
  | faultsReply (bytes : List Byte)
  /-- FAULT_CLEAR_REPLY (R145): A FAULT_CLEAR reply with FAULTS = 0 clears 0x4006. -/
  | faultClearReply (bytes : List Byte)
  /-- SYNC_IN_EDGE (R155): A SYNC_IN rising edge disciplines the timebase through its filter. -/
  | syncInEdge (t : Nat)
  /-- TB_SOURCE_LOSS (R157): Loss of the timebase source sends the timebase GLIDING towards the TCXO period. -/
  | tbSourceLoss (t : Nat)
  /-- TB_LOCKED (R158): After 16 periods within 20 ns of the source, the timebase reports LOCKED. -/
  | tbLocked
  /-- PHASE_IMBALANCE (R160): Imbalance beyond the warning or shed level for CVT_IMB_TIME warns or sheds the phase. -/
  | phaseImbalance (phase : Fin 12) (shed : Bool)
  /-- CVT_PHASE_RESTORE (R160): A command returning shed phases to service. -/
  | cvtPhaseRestore (h : Hdr) (payload : List Byte)
  /-- MODE_CMD_PARKED (R165): A mode command to PARKED runs the OPEN sequence. -/
  | modeCmdParked (h : Hdr) (payload : List Byte)
  /-- MODE_CMD_STANDBY (R165): A mode command to STANDBY runs PRECHARGE_CLOSE from PARKED, or ramps a running mode down to MODE OFF. -/
  | modeCmdStandby (h : Hdr) (payload : List Byte)
  /-- MODE_CMD_RUN (R165): A command to a running mode starts it from STANDBY or hands over from another running mode. -/
  | modeCmdRun (h : Hdr) (payload : List Byte)
  /-- AI_SP_SAMPLE (R169): An analog set-point sample is normalised, filtered and scaled to a target. -/
  | aiSpSample (t : Nat) (micro : Int) (openInput : Bool)
  /-- PI_SP_EDGE (R169): A pulse-input rising edge gives a frequency or duty value, which is filtered and scaled. -/
  | piSpEdge (t high : Nat)
  /-- LOSS_OF_SIGNAL (R170): A loss condition lasting SP_LOS_TIME declares loss of signal and applies the loss action. -/
  | lossOfSignal (src : ExtSource)
  /-- SIGNAL_RESTORED (R170): A source free of loss for 100 ms is restored, and the target follows it through the ramp. -/
  | signalRestored (src : ExtSource)
  /-- PHASE_SHED (R183): Load below the shed threshold for SP_SHED_DELAY disables the highest enabled phase. -/
  | phaseShed
  /-- REDISTRIBUTION_END (R185): After 16 steps, the phase angles reach their new positions. -/
  | redistributionEnd
  /-- SHED_HOLD_END (R187): The shed hold after a load step expires, and shedding resumes. -/
  | shedHoldEnd
  /-- XCHK_TIMEOUT (R195): A current-source disagreement lasting PROT_XCHK_T raises 0x500C and clamps the limits. -/
  | xchkTimeout
  /-- PROT_TRIP_RESET (R197): A command clearing the trip latch when no trip condition is present. -/
  | protTripReset (h : Hdr) (payload : List Byte)
  /-- SEQUENCE_TIMER (R200): A contactor-sequence step time expires, and the sequence moves to its next coil action. -/
  | sequenceTimer
  /-- DISCHARGE_WAIT_TIMEOUT (R200): V_STR not falling within PROT_DISCH_WAIT fails PRECHARGE_CLOSE with 0x5014. -/
  | dischargeWaitTimeout
  /-- PRECHARGE_TIMEOUT (R200): Precharge not reached within PROT_PRE_TIMEOUT opens all coils and raises 0x5013. -/
  | prechargeTimeout
  /-- OPEN_WAIT_TIMEOUT (R201): The OPEN sequence's current wait expires; the coils open under load and a break is counted. -/
  | openWaitTimeout
  /-- PROT_EMERGENCY_OPEN (R202): A command to drop all coils at once through S, before journaling. -/
  | protEmergencyOpen (h : Hdr) (payload : List Byte)
  /-- DSP_P_REQ (R206): A dispatch power request, answered at step 7 with its clamped grant. -/
  | dspPReq (h : Hdr) (payload : List Byte)
  /-- DSP_I_REQ (R206): A dispatch current request, answered at step 7 with its clamped grant. -/
  | dspIReq (h : Hdr) (payload : List Byte)
  /-- DISPATCH_TIMEOUT (R207): A silence of DSP_TIMEOUT raises 0x5017 and applies DSP_TIMEOUT_ACT. -/
  | dispatchTimeout
  /-- DSP_REST_GRANT (R209): A command granting a rest window, in which every grant is 0. -/
  | dspRestGrant (h : Hdr) (payload : List Byte)
  /-- REST_WINDOW_END (R209): The granted rest window runs out. -/
  | restWindowEnd
  /-- SAFETY_CYCLE (R219): Both safety cores evaluate every safety function and exchange their demand vectors. -/
  | safetyCycle (completed agree di31 : Bool)
  /-- SAFETY_DATA_FRAME (R224): A safety-layer DATA frame is checked for CRC, connection and sequence, paired with its copy, and its PERMIT is taken. -/
  | safetyDataFrame (bytes : List Byte) (t : Nat)
  /-- PARAM_WRITE (R228): A safety-layer PARAM_WRITE is stored and answered with a PARAM_REPLY. -/
  | paramWrite (bytes : List Byte) (t : Nat)
  /-- COPY_WINDOW_EXPIRY (R225): A lone copy held for 2 ms is discarded and counted. -/
  | copyWindowExpiry
  /-- SAFETY_WATCHDOG_EXPIRY (R227): The command watchdog expires, causing an SF-IS demand and raising 0x580C. -/
  | safetyWatchdogExpiry
  /-- STATUS_FRAME_SEND (R227): A status DATA frame is sent after an accepted command frame, or at SAF_WD/4. -/
  | statusFrameSend
  /-- SWITCH_SCAN (R229): Every 100 ms both cores read the rotary switches and DIP poles. -/
  | switchScan (addr dip : Byte)
  /-- SAFETY_RESET_PULSE (R234): The falling edge of a valid DI31 reset pulse clears a latched safe state when no demand is present. -/
  | safetyResetPulse
  /-- STUCK_RESET (R235): DI31 held high beyond 3 s raises 0x580F and blocks resets. -/
  | stuckReset
  /-- TR_EXCEEDS_PST (R240): A reaction time above its PST for 1 s raises 0x5811 as a demand. -/
  | trExceedsPst (f : SafetyFn)
  /-- READ (R245): A READ request returns an entry's value in force. -/
  | read (h : Hdr) (index : Word16) (sub : Byte)
  /-- WRITE (R245): A WRITE request to an entry with no row of its own is checked, journaled and applied by its access class. -/
  | write (h : Hdr) (index : Word16) (sub : Byte) (payload : List Byte)
  /-- DESCRIBE (R247): A DESCRIBE request returns an entry's type, access, persistence, name, unit, default and range. -/
  | describe (h : Hdr) (index : Word16) (sub : Byte)
  /-- BLOCK_READ (R264): A block read returns a chunk of a snapshot or live long value. -/
  | blockRead (h : Hdr) (index : Word16) (sub : Byte) (payload : List Byte)
  /-- BLOCK_WRITE (R265): A block chunk is gathered; the completing chunk is checked against VCRC and written. -/
  | blockWrite (h : Hdr) (index : Word16) (sub : Byte) (payload : List Byte)
  /-- COMMIT_NOW (R261): A commit checks the session's change set and applies it whole at the next frame boundary. -/
  | commitNow (h : Hdr)
  /-- COMMIT_AT_IDLE (R262): A commit queues the checked change set for application when the string is PARKED. -/
  | commitAtIdle (h : Hdr)
  /-- DISCARD (R260): A request emptying the session's change set. -/
  | discard (h : Hdr)
  /-- CANCEL_AT_IDLE (R262): A request removing a queued AT_IDLE set. -/
  | cancelAtIdle (h : Hdr) (payload : List Byte)
  /-- AT_IDLE_APPLY (R262): At the first boundary in PARKED with no sequence, the queued sets are rechecked and applied in JSEQ order. -/
  | atIdleApply
  /-- SESSION_OPEN (R250): A request creating a session, or finding the client's open session. -/
  | sessionOpen (h : Hdr) (payload : List Byte)
  /-- SESSION_CLOSE (R251): A request closing a session and discarding its set, held requests and cache. -/
  | sessionClose (h : Hdr)
  /-- SESSION_STATE (R250): A request returning a session's next expected number, held count and staged count. -/
  | sessionState (h : Hdr)
  /-- GAP_TIMEOUT (R253): A held request waiting SES_GAP_T draws SEQ_GAP for every held request. -/
  | gapTimeout (slot : Nat)
  /-- SESSION_IDLE_TIMEOUT (R251): A session without a request for SES_IDLE_T closes. -/
  | sessionIdleTimeout (slot : Nat)
  /-- SNAPSHOT_TIMEOUT (R264): A block-read snapshot idle for 10 s is released. -/
  | snapshotTimeout (slot : Nat)
  /-- CAN_SEGMENT (R249): A CAN segment of a protocol message is appended, and a complete message is processed. -/
  | canSegment (bytes : List Byte)
  /-- CAN_SEGMENT_TIMEOUT (R249): More than 50 ms between segments discards the unfinished message. -/
  | canSegmentTimeout
  /-- ETH_FRAME_RECEIVE (R269): An Ethernet frame is bridged within its LAN, queued by priority, or taken by the endpoint with PRP duplicate discard. -/
  | ethFrameReceive (port : Port) (frame : List Byte)
  /-- FDB_AGE_OUT (R269): A filtering-database entry ages out after NET_FDB_AGE. -/
  | fdbAgeOut (lan : Lan) (mac : List Byte)
  /-- PRP_SUPERVISION_SEND (R272): Every 2,000 ms, a PRP supervision frame is sent. -/
  | prpSupervisionSend
  /-- LAN_SILENT (R273): A LAN silent for NET_LAN_SILENT_T raises its fault. -/
  | lanSilent (lan : Lan)
  /-- ADDRESS_PROBE_END (R275): The RFC 5227 probe ends, and the address is used or 0x7009 is raised. -/
  | addressProbeEnd
  /-- DHCP_LEASE_EXPIRY (R275): A DHCP lease expires unrenewed; the address is kept and 0x700A is raised. -/
  | dhcpLeaseExpiry
  /-- GRATUITOUS_ARP (R277): A new active member sends three gratuitous ARP announcements for the service address at frame intervals. -/
  | gratuitousArp
  /-- PDELAY_REQ_SEND (R280): Every 1 s, each port sends Pdelay_Req to measure its link delay. -/
  | pdelayReqSend (port : Port) (t : Nat)
  /-- PDELAY_REQ_ANSWER (R280): A received Pdelay_Req is answered one-step. -/
  | pdelayReqAnswer (port : Port) (msg : List Byte) (t1 t2 : Nat)
  /-- PDELAY_RESP (R280): A peer-delay response completes an exchange and updates the port's capability. -/
  | pdelayResp (port : Port) (resp follow : List Byte) (t : Nat)
  /-- SYNC_MESSAGE (R281): A Sync is corrected and forwarded, and it is used by the instance's servo. -/
  | syncMessage (port : Port) (msg : List Byte) (t out : Nat)
  /-- FOLLOW_UP (R281): A Follow_Up matched to its Sync within 100 ms is corrected and forwarded. -/
  | followUp (port : Port) (msg : List Byte) (t : Nat)
  /-- ANNOUNCE (R282): An Announce message is forwarded and feeds best-master selection. -/
  | announce (port : Port) (msg : List Byte) (t : Nat)
  /-- SYNC_RECEIPT_TIMEOUT (R282): 3 sync intervals without a Sync make an instance unusable. -/
  | syncReceiptTimeout (i : Fin 4)
  /-- REVERT_TIMER (R283): A primary instance usable for PTP_REVERT_T becomes the reference again. -/
  | revertTimer
  /-- HOLDOVER_EXPIRY (R284): PTP_HOLDOVER_T in HOLDOVER moves the clock to FREE and raises 0x7013. -/
  | holdoverExpiry
  /-- CLOCK_STORE (R282): Every 1 s, the local clock is written to MRAM. -/
  | clockStore
  /-- DOMAIN_DISAGREE (R286): A domain difference above PTP_DOM_DIS for 10 s raises 0x7012. -/
  | domainDisagree (lans : Bool)
  /-- CAN_FRAME_RECEIVE (R294): A received CAN frame is filtered and stored into an RX buffer or the FIFO. -/
  | canFrameReceive (ch : CanCh) (f : CanFrame)
  /-- CAN_TX (R298): A command placing a frame in a TX buffer, which becomes PENDING. -/
  | canTx (h : Hdr) (ch : CanCh) (payload : List Byte)
  /-- CAN_TX_RESULT (R299): A transmission attempt ends SENT, LOST_ARB, NO_ACK or ERROR, and is retried or released. -/
  | canTxResult (ch : CanCh) (buf : Fin 64) (res : TxOutcome)
  /-- BUS_OFF (R301): TEC above 255 makes the channel bus-off and releases every pending buffer. -/
  | busOff (ch : CanCh)
  /-- CAN_RECOVER (R302): A command starting bus-off recovery. -/
  | canRecover (h : Hdr) (ch : CanCh) (payload : List Byte)
  /-- AUTO_RECOVERY_DELAY (R302): With AUTO, recovery starts CAN_RECOVERY_DELAY after bus-off. -/
  | autoRecoveryDelay (ch : CanCh)
  /-- RECOVERY_COMPLETE (R302): 128 occurrences of 11 recessive bits clear TEC and REC, and the channel is ACTIVE. -/
  | recoveryComplete (ch : CanCh)
  /-- TM_FRAME_SEND (R300): Every CAN_TM_PERIOD, the cooling demand frame is placed in buffer 62. -/
  | tmFrameSend
  /-- CAN_SLEEP (R305): A command putting the channel to sleep once its pending buffers have ended. -/
  | canSleep (h : Hdr) (ch : CanCh) (payload : List Byte)
  /-- CAN_WAKE_WRITE (R305): A write of 0 to CAN_SLEEP wakes the channel. -/
  | canWakeWrite (h : Hdr) (ch : CanCh) (payload : List Byte)
  /-- SLEEP_TIMEOUT (R305): Buffers still pending 100 ms after a sleep request are aborted, and the transceiver sleeps. -/
  | sleepTimeout (ch : CanCh)
  /-- CAN_WAKE (R306): A wake pattern or wake frame wakes the channel and signals H and E. -/
  | canWake (ch : CanCh) (sign : WakeSign)
  /-- TXD_TIMEOUT (R307): A TXD dominant time-out stops the frame; three within 1 s fence the channel. -/
  | txdTimeout (ch : CanCh)
  /-- DI_SAMPLE (R314): A DI group strobe measures each input and classifies its raw level and wire check. -/
  | diSample (group : Fin 4) (levels : List DiReading) (t : Nat)
  /-- DI_DEBOUNCE_EXPIRY (R315): The debounce count reaches its time, and the input's new state is confirmed. -/
  | diDebounceExpiry (n : Fin 32)
  /-- WIRE_FAULT_REPORT (R317): An open wire or a short to VF persisting for the debounce time and 10 ms is reported. -/
  | wireFaultReport (n : Fin 32) (t : Nat)
  /-- DIO_DQ_CMD (R318): A write of the standard output commands, applied at the next frame boundary. -/
  | dioDqCmd (h : Hdr) (payload : List Byte)
  /-- DIO_DQ_RETRY (R319): A command clearing a DQ latch-off. -/
  | dioDqRetry (h : Hdr) (payload : List Byte)
  /-- DQ_THERMAL_CYCLE (R319): A switch at its thermal threshold turns off; the third cycle in 10 s latches it off. -/
  | dqThermalCycle (k : Fin 16)
  /-- DQ_OPEN_LOAD (R320): An open load persisting for 10 ms raises 0x6022. -/
  | dqOpenLoad (k : Fin 16) (ma mv t : Nat)
  /-- DIO_SQ_CMD (R322): A write of the safe output commands not assigned to protection. -/
  | dioSqCmd (h : Hdr) (payload : List Byte)
  /-- SQ_OVERCURRENT (R323): A path at its current limit for 100 µs opens both switches and raises 0x6031. -/
  | sqOvercurrent (k : Fin 4) (ma t : Nat)
  /-- SQ_READBACK_FAULT (R323): An open load, or a read-back voltage while off, lasting 10 ms raises its fault. -/
  | sqReadbackFault (k : Fin 4) (ma : Nat) (high low : Int) (t : Nat)
  /-- TEST_PULSE_START (R324): A due test opens one switch of an ON safe output for DIO_SQ_TP_LEN. -/
  | testPulseStart (k : Fin 4) (t : Nat)
  /-- TEST_PULSE_END (R326): At the end of the pulse the read-back is evaluated; a failure opens the output until reset. -/
  | testPulseEnd (k : Fin 4) (mv : Int) (t : Nat)
  /-- VF_SAMPLE (R327): Every 100 µs, VF is measured and the field supply state is updated. -/
  | vfSample (mv : Int) (t : Nat)
  /-- VF_UNPOWERED (R327): VF below 15 V for 1 ms switches every driver off and invalidates the inputs. -/
  | vfUnpowered (t : Nat)
  /-- RETURNING_END (R328): After 20 ms of RETURNING, class A outputs return and the inputs revalidate. -/
  | returningEnd (t : Nat)
  /-- POWER_GOOD (R335): The power-good conditions have held for 10 ms, and the power-up sequence begins. -/
  | powerGood (st : StartChecks)
  /-- TIER_GUARD (R338): S and F run with all outputs off, and the module enters GUARD. -/
  | tierGuard
  /-- TIER_WATCH (R338): H has booted, enumeration has ended and the first sweep is done, and the module enters WATCH. -/
  | tierWatch
  /-- TIER_LIMITED (R338): The journal is replayed or taken from the partner, and the module enters LIMITED. -/
  | tierLimited
  /-- TIER_FULL (R338): Restore, records, identities and self-tests are complete, and the module enters FULL and lifts the cap. -/
  | tierFull
  /-- TIER_LATE (R340): A tier deadline passes unreached, raising 0x1021. -/
  | tierLate
  /-- SHUTDOWN_START (R337): A PWR_EN or PRESENT_S loss for 1 ms, or a hold-up shortfall, runs the orderly shutdown. -/
  | shutdownStart (why : ShutdownWhy)
  /-- MODULE_RESET (R344): A reset records its cause and drops work as Table 14-6 states. -/
  | moduleReset (cause : ResetCause)
  /-- SYS_RESET_CMD (R347): A command resetting the module after an ordered handover. -/
  | sysResetCmd (h : Hdr) (payload : List Byte)
  /-- SELFTEST_MEMORY (R348): A request for the memory checker test, deferred to the next start. -/
  | selftestMemory (h : Hdr) (payload : List Byte)
  /-- SELFTEST_INPUT_CAL (R348): A request for one full calibration rotation. -/
  | selftestInputCal (h : Hdr) (payload : List Byte)
  /-- SELFTEST_RESTART_TEST (R348): A request resetting the module while PARKED to run every start-up test. -/
  | selftestRestartTest (h : Hdr) (payload : List Byte)
  /-- CAL_ROTATION_START (R349): Every SYS_CAL_INT, a calibration rotation starts. -/
  | calRotationStart
  /-- CAL_ROTATION_STEP (R349): Every 200 ms, the spare converter channel takes over one channel, which is calibrated. -/
  | calRotationStep
  /-- MODULE_HIBERNATE (R350): In FULL, PARKED with E hibernating, the module hibernates on H0 with C stopped and a longer sweep. -/
  | moduleHibernate
  /-- MIRROR_DUTY (R361): A DUTY class payload forces the standby's tracking units. -/
  | mirrorDuty (lane : Lane) (frame : List Byte)
  /-- MIRROR_JOURNAL (R259): The standby commits the mirrored journal batch and returns JOURNAL_ACK. -/
  | mirrorJournal (lane : Lane) (frame : List Byte)
  /-- JOURNAL_ACK (R255): The partner's acknowledgement makes the batch's work accepted, and the replies are sent. -/
  | journalAck (lane : Lane) (frame : List Byte)
  /-- MIRROR_HEARTBEAT (R364): The partner's HEARTBEAT class reports its role and switch states. -/
  | mirrorHeartbeat (lane : Lane) (frame : List Byte)
  /-- MIRROR_STATE (R363): The STATE class gives the standby the output image and protection state to drive. -/
  | mirrorState (lane : Lane) (frame : List Byte)
  /-- MIRROR_CONTEXT (R360): The CONTEXT class updates the standby's contexts and chain counters. -/
  | mirrorContext (lane : Lane) (frame : List Byte)
  /-- MIRROR_RECORD (R360): The RECORD class updates the standby's learned records. -/
  | mirrorRecord (lane : Lane) (frame : List Byte)
  /-- MIRROR_BULK (R376): The BULK class gives a joining member the journal, records, checkpoint and configuration. -/
  | mirrorBulk (lane : Lane) (frame : List Byte)
  /-- ORDER_HANDOVER (R375): A HANDOVER order names the DUTY SEQ at which the partner takes the lane. -/
  | orderHandover (lane : Lane) (frame : List Byte)
  /-- REJOIN_REQ (R376): A rejoin request makes the active member send the BULK class. -/
  | rejoinReq (lane : Lane) (frame : List Byte)
  /-- REJOIN_DONE (R376): The active member releases FENCE_OUT, and the joining member becomes STANDBY_PAIR. -/
  | rejoinDone (lane : Lane) (frame : List Byte)
  /-- REJOIN_TIMEOUT (R376): A rejoin not complete in 10 s raises 0x780B and restarts after 60 s. -/
  | rejoinTimeout
  /-- MIRROR_SILENT (R372): The mirror link is silent for PAIR_MISS_MAX frames; the partner is marked DETACHED or a takeover is requested. -/
  | mirrorSilent
  /-- MIRROR_LANE_DOWN (R358): One mirror lane goes down, raising 0x7801. -/
  | mirrorLaneDown (lane : Lane)
  /-- ALIVE_LOST (R370): ALIVE_IN stops toggling for PAIR_MISS_MAX ticks. -/
  | aliveLost
  /-- WITNESS_DECISION (R368): At 700 µs, the witness decides RENEW, GRANT or REFUSE for each pair it serves. -/
  | witnessDecision (slot : Fin 4) (heard : List (Bool × List Byte))
  /-- LEASE_RENEW (R369): A RENEW lease extends the active member's lease. -/
  | leaseRenew (net : Bool) (frame : List Byte)
  /-- LEASE_GRANT (R374): A GRANT makes the member ACTIVE at the next frame boundary. -/
  | leaseGrant (net : Bool) (frame : List Byte)
  /-- LEASE_REFUSE (R370): A REFUSE makes a requesting standby DETACHED while ALIVE_IN toggles. -/
  | leaseRefuse (net : Bool) (frame : List Byte)
  /-- LEASE_EXPIRY (R369): The lease expires, and the active member goes to a self-lease or orders a handover. -/
  | leaseExpiry
  /-- GRANT_WAIT_TIMEOUT (R373): No GRANT within PAIR_GRANT_WAIT leads to a self-elected member, or a ramp to STANDBY and 0x7807. -/
  | grantWaitTimeout
  /-- PAIR_HANDOVER (R375): A command starting an ordered handover to a READY partner. -/
  | pairHandover (h : Hdr) (payload : List Byte)
  /-- PAIR_FORCE_ACTIVE (R373): A service-session command making the member ACTIVE with EPOCH plus 1. -/
  | pairForceActive (h : Hdr) (payload : List Byte)
  /-- FENCE_IN_ASSERT (R357): An asserted FENCE_IN unpowers the outputs, the Stage link and LANE_SEL within 10 µs. -/
  | fenceInAssert
  /-- FW_APPLY (R383): A command starting to build the stored delta into the inactive bank. -/
  | fwApply (h : Hdr) (payload : List Byte)
  /-- FW_BLOCK_DONE (R383): A written block is verified against BCRC and journaled, or rebuilt once. -/
  | fwBlockDone (got : List Byte)
  /-- FW_VERIFY_DONE (R380): The whole-package check ends with VERIFIED or REJECTED. -/
  | fwVerifyDone
  /-- FW_ABORT (R384): A command stopping an apply, or handing back during probation. -/
  | fwAbort (h : Hdr) (payload : List Byte)
  /-- FW_ACTIVATE_SELF (R386): A command activating the verified package in shadow on the reserve cores. -/
  | fwActivateSelf (h : Hdr) (payload : List Byte)
  /-- FW_ACTIVATE_PARTNER (R394): A command making the standby member run the activation. -/
  | fwActivatePartner (h : Hdr) (payload : List Byte)
  /-- SHADOW_HANDOVER (R386): At the first boundary after READY with a timely import, frame h runs on the new pair and probation begins. -/
  | shadowHandover (importNs : Nat)
  /-- SHADOW_TIMEOUT (R387): No READY within 2,000 frames, or a failed import, stops the shadow as REJECTED. -/
  | shadowTimeout (importFailed : Bool)
  /-- HEALTH_COMMIT (R388): An accepted health report flips the bank pointer and commits the new package. -/
  | healthCommit (clean : Bool)
  /-- HEALTH_TIMEOUT (R390): No accepted report by frame h + 1,000 hands back to the old image. -/
  | healthTimeout
  /-- FW_RECOVERY_CHUNK (R391): A recovery chunk is written directly to bank A; the last one checks the bank and resets. -/
  | fwRecoveryChunk (h : Hdr) (payload : List Byte)
  /-- SCRUB_STEP (R402): A scrubber engine reads and decodes one block in an idle cycle. -/
  | scrubStep (region : Fin 13) (t : Nat) (raw reread : List Byte)
  /-- LAP_END (R403): A scrub lap ends, and its length is recorded. -/
  | lapEnd (region : Fin 13)
  /-- LAP_LATE (R403): A lap running past its limit raises 0x1104. -/
  | lapLate (region : Fin 13)
  /-- REC_SECOND (R414): Each operating second, the recorder counts bins, counters and extremes. -/
  | recSecond
  /-- REC_COMMIT (R417): Every REC_COMMIT_INT, the pending increments are written to the records. -/
  | recCommit
  /-- REC_HOLD (R418): A command holding all recorder writes for a duration of 1–60 s. -/
  | recHold (h : Hdr) (payload : List Byte)
  /-- HOLD_END (R419): The hold ends, and the recorder merges its pending increments. -/
  | holdEnd
  /-- MERGE_END (R419): The pending records are written, and REC_STATE returns to RUNNING. -/
  | mergeEnd
  /-- DIE_TEMP_READ (R423): Every 10 ms, the die diode is read and the thresholds are applied. -/
  | dieTempRead (temp : Int) (t : Nat)
  /-- HOLDUP_GAUGE (R426): Every 100 µs, the hold-up energy and time are computed. -/
  | holdupGauge (vStore vbp power t : Nat)
  /-- HOLDUP_TEST (R426): Every hour, a 1 ms test load measures the store capacitance. -/
  | holdupTest (capUf : Nat)
  /-- VBP_LOW_ENTRY (R427): VBP below 33 V for 50 µs raises 0x1004 and triggers the checkpoint and record writes. -/
  | vbpLowEntry (t : Nat)
  /-- VBP_LOW_EXIT (R427): VBP above 34 V for 1 ms ends VBP_LOW. -/
  | vbpLowExit (t : Nat)
  /-- FRZ_ASSERT (R429): FRZ asserted for 1 ms starts a clock freeze, or raises 0x1008 without FRZ_EN. -/
  | frzAssert
  /-- CLOCK_STOP (R430): One PWM period after the safe outputs open, every island clock stops and the module is FROZEN. -/
  | clockStop (t : Nat)
  /-- FRZ_RELEASE (R430): FRZ released before the clocks stop abandons the freeze. -/
  | frzRelease
  /-- IDCODE (R432): A TAP instruction selecting the 32-bit IDCODE register. -/
  | idcode
  /-- SCAN_SEL (R432): A TAP instruction selecting an island's scan chain while frozen. -/
  | scanSel (i : Nat)
  /-- SCAN_DATA (R432): A TAP instruction shifting the selected chain non-destructively while frozen. -/
  | scanData (n : Nat)
  /-- TAP_RESET (R432): A TAP instruction whose Update-DR resets the module. -/
  | tapReset
  /-- BYPASS (R432): A TAP instruction selecting the 1-bit bypass register. -/
  | bypass
  /-- GA_READ (R443): Every 1 ms at start, GA0–GA8 are read until three readings agree, and the address is latched. -/
  | gaRead (reading : BitVec 9)
  /-- GA_CHECK (R443): Every 100 ms, the address reading is compared with the latched value; a difference for 100 ms raises 0x1031. -/
  | gaCheck (reading : BitVec 9)
  /-- ETH_LINK_CHANGE (R268): An Ethernet port gains or loses its 1000BASE-KX link through Clause 73 auto-negotiation, which sets NET_LINK and raises or clears 0x7001-0x7004. -/
  | ethLinkChange (port : Port) (up : Bool)
  /-- FENCE_IN_RELEASE (R357): FENCE_IN is deasserted by the party that asserted it, and power returns to the member's output stages, Stage link drivers and LANE_SEL drivers. -/
  | fenceInRelease
  /-- SVC_EN_RELEASE (R250): Releasing the SVC_EN contact closes the Fanan Workbench service session. -/
  | svcEnRelease
  /-- ANNOUNCE_RECEIPT_TIMEOUT (R278): An instance that receives no Announce for announceReceiptTimeout (3) announce intervals leaves its master and reruns best-master selection. -/
  | announceReceiptTimeout (i : Fin 4)
  /-- GM_QUAL_T_EXPIRY (R282): A grandmaster identity that has been unchanged for PTP_GM_QUAL_T qualifies, and the instance becomes usable, which can start SLEWING or the revert timer. -/
  | gmQualTExpiry (i : Fin 4)
  /-- DQ_CURRENT_LIMIT (R319): A standard output reaches its current limit, holds the current there and reports LIMITING with 0x6020. -/
  | dqCurrentLimit (k : Fin 16) (ma : Nat)
  /-- FIELD_GROUP_SELF_CHECK_FAIL (R310): A DI or DQ group self-check, or the AI_SP or PI_SP self-check, fails, and that group is fenced (0x6012, 0x6023, 0x6040, 0x6041). -/
  | fieldGroupSelfCheckFail (g : FieldGroup)
  /-- CAN_CONTROLLER_SELF_CHECK_FAIL (R307): A CAN controller fails its self-check, and its channel is fenced with the transceiver held recessive. -/
  | canControllerSelfCheckFail (ch : CanCh)
  deriving DecidableEq, Repr, Inhabited

end Sys2Proof
end

