-- ==== Sys2Proof/WellFormed.lean ====
section
/-! DEFINITION. The commands that the hardware can be given: every field fits the width the manual gives it. A meaning is total on
every other command too; nothing in the machine rests on these checks. -/
namespace Sys2Proof

/-- A number fits n bits. -/
def fitsBits (n x : Nat) : Bool := x < 2 ^ n

/-- A request header fits the fields of Table 10-5. -/
def Hdr.ok (h : Hdr) : Bool :=
  fitsBits 4 h.ver && fitsBits 4 h.kind && fitsBits 8 h.flags && fitsBits 8 h.status && fitsBits 32 h.ses && fitsBits 32 h.seq &&
    fitsBits 8 h.rsv && fitsBits 64 h.jseq && fitsBits 32 h.crc

/-- A payload fits LEN (Table 10-5). -/
def payloadOk (p : List Byte) : Bool := p.length < 65536

/-- The body of a chain frame a radio can hear: a train of at most 32 records is the longest (R35). -/
def airOk (b : List Byte) : Bool := 1 ≤ b.length && b.length ≤ 1548

/-- The claims of an enumeration: S16 signal strengths and 16-bit tokens (Table 2-4). -/
def claimsOk (rs : List (List EnumClaim)) : Bool :=
  rs.all fun r => r.all fun c => -32768 ≤ c.rssi && c.rssi ≤ 32767 && fitsBits 16 c.token

/-- An identifier fits its format, and the data its frame (R290, R293). -/
def canOk (f : CanFrame) : Bool := fitsBits (if f.ext then 29 else 11) f.id && f.data.length ≤ (if f.fd then 64 else 8)

/-- The sign that wakes a channel (R305). -/
def signOk : WakeSign → Bool
  | .dominant _ => true
  | .frame f => canOk f
  | .frameError => true

/-- A mirror frame: header, at most 4,096 bytes, CRC (R359). -/
def mirFrameOk (f : List Byte) : Bool := 12 ≤ f.length && f.length ≤ 4108

/-- A heartbeat or lease frame of the witness protocol (Tables 15-5 and 15-6). -/
def witFrameOk (f : List Byte) : Bool := f.length == 16

/-- An Ethernet port takes frames of up to 1,528 bytes and counts longer ones as drops (R271); a received one has bytes. -/
def frameOk (f : List Byte) : Bool := 14 ≤ f.length

/-- A block of memory as stored: 10 bytes (R397). -/
def blockOk (b : List Byte) : Bool := b.length == 10

/-- The checks of the commands of the chain, the estimator and the converter. -/
def Instr.okA : Instr → Bool
  | .faultClear code inst => fitsBits 16 code && fitsBits 16 inst
  | .sweepLaunch _ hs => hs.all fun x => airOk x.2
  | .trainReceive _ _ b => airOk b
  | .serviceExchange _ _ b => b.all airOk
  | .readIdReply _ _ _ b => airOk b
  | .readLeadStatusReply _ _ b => airOk b
  | .enumerationEnd rs _ _ => claimsOk rs
  | .coulombWord b _ => b.length == 8
  | .safetyDataFrame b _ => b.length ≤ 1500
  | .paramWrite b _ => b.length ≤ 1500
  | .gapTimeout slot => 1 ≤ slot && slot ≤ 65
  | .sessionIdleTimeout slot => 1 ≤ slot && slot ≤ 65
  | .snapshotTimeout slot => 1 ≤ slot && slot ≤ 65
  | .canSegment b => 1 ≤ b.length && b.length ≤ 64
  | .diSample _ ls _ => ls.length == 8
  | .fdbAgeOut _ mac => mac.length == 6
  | _ => true

/-- The checks of the commands of the network, the bus, the pair and the memories. -/
def Instr.okB : Instr → Bool
  | .ethFrameReceive _ f => frameOk f
  | .pdelayReqAnswer _ f _ _ => frameOk f
  | .syncMessage _ f _ _ => frameOk f
  | .followUp _ f _ => frameOk f
  | .announce _ f _ => frameOk f
  | .pdelayResp _ f g _ => frameOk f && (g.isEmpty || frameOk g)
  | .canFrameReceive _ f => canOk f
  | .canWake _ g => signOk g
  | .mirrorDuty _ f => mirFrameOk f
  | .mirrorJournal _ f => mirFrameOk f
  | .journalAck _ f => mirFrameOk f
  | .mirrorHeartbeat _ f => mirFrameOk f
  | .mirrorState _ f => mirFrameOk f
  | .mirrorContext _ f => mirFrameOk f
  | .mirrorRecord _ f => mirFrameOk f
  | .mirrorBulk _ f => mirFrameOk f
  | .orderHandover _ f => mirFrameOk f
  | .rejoinReq _ f => mirFrameOk f
  | .rejoinDone _ f => mirFrameOk f
  | .witnessDecision _ hs => hs.all fun h => witFrameOk h.2
  | .leaseRenew _ f => witFrameOk f
  | .leaseGrant _ f => witFrameOk f
  | .leaseRefuse _ f => witFrameOk f
  | .fwBlockDone x => x.length == 4096
  | .scrubStep _ _ x y => blockOk x && blockOk y
  | .scanSel i => i ≤ 9
  | _ => true

/-- The header and payload of a command that is a request. -/
def Instr.request : Instr → Option (Hdr × List Byte)
  | .chnEnumerate h p => some (h, p) | .chnPackKeyWrite h p => some (h, p) | .chnKeyNode h p => some (h, p)
  | .leadRWrite h _ _ p => some (h, p) | .estRestReq h p => some (h, p) | .cellIdAck h _ p => some (h, p)
  | .estIdAckAll h p => some (h, p) | .cvtPhaseRestore h p => some (h, p) | .modeCmdParked h p => some (h, p)
  | .modeCmdStandby h p => some (h, p) | .modeCmdRun h p => some (h, p) | .protTripReset h p => some (h, p)
  | .protEmergencyOpen h p => some (h, p) | .dspPReq h p => some (h, p) | .dspIReq h p => some (h, p)
  | .dspRestGrant h p => some (h, p) | .read h _ _ => some (h, []) | .write h _ _ p => some (h, p)
  | .describe h _ _ => some (h, []) | .blockRead h _ _ p => some (h, p) | .blockWrite h _ _ p => some (h, p)
  | .commitNow h => some (h, []) | .commitAtIdle h => some (h, []) | .discard h => some (h, [])
  | .cancelAtIdle h p => some (h, p) | .sessionOpen h p => some (h, p) | .sessionClose h => some (h, [])
  | .sessionState h => some (h, []) | .canTx h _ p => some (h, p) | .canRecover h _ p => some (h, p)
  | .canSleep h _ p => some (h, p) | .canWakeWrite h _ p => some (h, p) | .dioDqCmd h p => some (h, p)
  | .dioDqRetry h p => some (h, p) | .dioSqCmd h p => some (h, p) | .sysResetCmd h p => some (h, p)
  | .selftestMemory h p => some (h, p) | .selftestInputCal h p => some (h, p) | .selftestRestartTest h p => some (h, p)
  | .pairHandover h p => some (h, p) | .pairForceActive h p => some (h, p) | .fwApply h p => some (h, p)
  | .fwAbort h p => some (h, p) | .fwActivateSelf h p => some (h, p) | .fwActivatePartner h p => some (h, p)
  | .fwRecoveryChunk h p => some (h, p) | .recHold h p => some (h, p)
  | _ => none

/-- A command that the hardware can be given. -/
def WellFormed (i : Instr) : Bool :=
  i.okA && i.okB && match i.request with
    | some (h, p) => h.ok && payloadOk p
    | none => true

end Sys2Proof
end

