-- ==== Sys2Proof/Decode.lean ====
section
/-! DEFINITION. The command that a word of the table's bits spells. The table gives none of its rows any bits, so no word spells a
command (DESIGN CHOICE, log 53): commands reach the block as the messages, frames, pins and events of its interfaces. -/
namespace Sys2Proof

/-- The command a word spells: none. -/
def decodeTableWord (_nbits _w : Nat) : Option Instr := none

end Sys2Proof
end

