-- ==== Sys2Proof/Machine/Prim.lean ====
section
/-! DEFINITION. Helpers that know nothing of the machine's state: bounded arithmetic (R9), bytes in the manual's order (R6), the
CRC-32C of R30, and reads and writes of fixed vectors. -/
namespace Sys2Proof.Machine

/-! ### Fixed vectors and lists -/

/-- Read element `i`; an index outside the vector reads as the type's default (no caller passes one on a well-formed command). -/
def getAt {α : Type} {n : Nat} [Inhabited α] (v : Vector α n) (i : Nat) : α := v.toArray.getD i default

/-- Write element `i`; an index outside the vector changes nothing. -/
def setAt {α : Type} {n : Nat} (v : Vector α n) (i : Nat) (x : α) : Vector α n := v.setIfInBounds i x

/-- Change element `i` by a function. -/
def modAt {α : Type} {n : Nat} [Inhabited α] (v : Vector α n) (i : Nat) (f : α → α) : Vector α n :=
  setAt v i (f (getAt v i))

/-- The numbers from `lo` to `hi`, both included (R5); empty when `hi < lo`. -/
def upTo (lo hi : Nat) : List Nat := (List.range (hi + 1 - lo)).map (· + lo)

/-- The first element that satisfies `p`, counted from 0. -/
def firstIdx {α : Type} (p : α → Bool) : List α → Option Nat
  | [] => none
  | x :: xs => if p x then some 0 else (firstIdx p xs).map (· + 1)

/-- Sum of a list of integers. -/
def sumI (xs : List Int) : Int := xs.foldl (· + ·) 0

/-- Sum of a list of naturals. -/
def sumN (xs : List Nat) : Nat := xs.foldl (· + ·) 0

/-! ### Arithmetic of the declared formats (R9) -/

/-- Limit `x` to `lo`..`hi`: the manual's `clamp` and `sat()`. -/
def clampI (lo hi x : Int) : Int := max lo (min hi x)

/-- Division truncating towards zero (R9); the quotient by 0 is the free value `Config.divByZero`. -/
def divT (a b : Int) : Int := if b = 0 then Config.divByZero a else Int.tdiv a b

/-- Division of non-negative quantities in whole numbers; the quotient by 0 is the free value `Config.divByZero`. -/
def divN (a b : Nat) : Nat := if b = 0 then (Config.divByZero a).toNat else a / b

/-- Rounding of `a / b` to the nearest whole number. DEDUCED (log 12): halves go away from zero where the manual does not say. -/
def divRound (a b : Int) : Int :=
  if b = 0 then Config.divByZero a
  else if 0 ≤ a then Int.tdiv (2 * a + b.natAbs) (2 * b.natAbs) * b.sign
  else - (Int.tdiv (2 * (-a) + b.natAbs) (2 * b.natAbs)) * b.sign

/-- Wrap to an unsigned number of `w` bits (R9). -/
def wrapU (w : Nat) (x : Int) : Nat := (x % (2 ^ w : Int)).toNat

/-- Wrap to a two's complement number of `w` bits (R9). -/
def wrapS (w : Nat) (x : Int) : Int :=
  let m := x % (2 ^ w : Int)
  if m < 2 ^ (w - 1) then m else m - 2 ^ w

/-- Saturate to an unsigned number of `w` bits. -/
def satU (w : Nat) (x : Int) : Nat := (clampI 0 (2 ^ w - 1) x).toNat

/-- Saturate to a two's complement number of `w` bits. -/
def satS (w : Nat) (x : Int) : Int := clampI (-(2 ^ (w - 1))) (2 ^ (w - 1) - 1) x

/-- A saturating counter of 32 bits goes up by `k`. -/
def incSat32 (x : Nat) (k : Nat := 1) : Nat := min (x + k) 4294967295

/-- A saturating counter of 16 bits goes up by `k`. -/
def incSat16 (x : Nat) (k : Nat := 1) : Nat := min (x + k) 65535

/-- A saturating counter of 8 bits goes up by one. -/
def incSat8 (x : Nat) : Nat := min (x + 1) 255

/-- A truth value as the number 0 or 1. -/
def b2n (b : Bool) : Nat := if b then 1 else 0

/-- Bit `i` of a number. -/
def bitOf (x i : Nat) : Bool := x / 2 ^ i % 2 == 1

/-- A bit map with bit `i` set where `p i` holds, for `i < n`. -/
def bitMap (n : Nat) (p : Nat → Bool) : Nat :=
  (List.range n).foldl (fun acc i => if p i then acc + 2 ^ i else acc) 0

/-! ### Bytes, most significant first (R6) -/

/-- The `n` bytes of a number, most significant first (R6); higher bits are dropped. -/
def toBytes : Nat → Nat → List Byte
  | 0, _ => []
  | n + 1, x => BitVec.ofNat 8 (x / 256 ^ n) :: toBytes n x

/-- The `n` bytes of a two's complement number, most significant first (R6, R7). -/
def toBytesS (n : Nat) (x : Int) : List Byte := toBytes n (wrapU (8 * n) x)

/-- The unsigned number that bytes spell, most significant first (R6). -/
def ofBytes (bs : List Byte) : Nat := bs.foldl (fun acc b => acc * 256 + b.toNat) 0

/-- The two's complement number that bytes spell, most significant first (R6, R7). -/
def ofBytesS (bs : List Byte) : Int := if bs.isEmpty then 0 else wrapS (8 * bs.length) (ofBytes bs)

/-- `n` bytes from byte `o` on. -/
def slice (bs : List Byte) (o n : Nat) : List Byte := (bs.drop o).take n

/-- The unsigned field of `n` bytes at byte `o`. -/
def fieldU (bs : List Byte) (o n : Nat) : Nat := ofBytes (slice bs o n)

/-- The two's complement field of `n` bytes at byte `o`. -/
def fieldS (bs : List Byte) (o n : Nat) : Int := ofBytesS (slice bs o n)

/-- Replace the bytes from `o` on by `new`, growing the list with zeros where it is too short. -/
def splice (bs : List Byte) (o : Nat) (new : List Byte) : List Byte :=
  (bs ++ List.replicate (o + new.length - bs.length) 0).take o ++ new ++ bs.drop (o + new.length)

/-- The bytes of an ASCII text. -/
def textBytes (t : String) : List Byte := t.toList.map fun c => BitVec.ofNat 8 c.toNat

/-! ### CRC-32C and the plain CRC of shorter frames -/

/-- One bit step of a reflected CRC of 32 bits with polynomial `poly` (already reflected). -/
def crcBit (poly c : Word32) : Word32 := if c.getLsbD 0 then (c >>> 1) ^^^ poly else c >>> 1

/-- One byte into a reflected CRC of 32 bits. -/
def crcByte (poly c : Word32) (b : Byte) : Word32 :=
  (List.range 8).foldl (fun c _ => crcBit poly c) (c ^^^ BitVec.ofNat 32 b.toNat)

/-- CRC-32C over bytes (R30): polynomial 0x1EDC6F41 in its reflected form 0x82F63B78, initial value and final XOR all ones. -/
def crc32c (bs : List Byte) : Nat :=
  ((bs.foldl (crcByte 0x82F63B78#32) 0xFFFFFFFF#32) ^^^ 0xFFFFFFFF#32).toNat

/-- One bit step of a CRC-16 with polynomial 0x1021, most significant bit first. -/
def crc16Bit (c : Word16) : Word16 := if c.getLsbD 15 then (c <<< 1) ^^^ 0x1021#16 else c <<< 1

/-- CRC-16 over bytes (R81): polynomial 0x1021, initial value 0xFFFF, no reflection, no final XOR. -/
def crc16 (bs : List Byte) : Nat :=
  (bs.foldl (fun c b => (List.range 8).foldl (fun c _ => crc16Bit c) (c ^^^ (BitVec.ofNat 16 (b.toNat * 256)))) 0xFFFF#16).toNat

/-! ### TIME64 (Table 10-1) -/

/-- A plant time in nanoseconds as the number a TIME64 spells: seconds in bits 63-32, nanoseconds in bits 31-0. -/
def time64 (ns : Nat) : Nat := ns / 1000000000 * 4294967296 + ns % 1000000000

/-- The plant time in nanoseconds that a TIME64 spells. -/
def ofTime64 (t : Nat) : Nat := t / 4294967296 * 1000000000 + t % 4294967296

/-! ### Sorting -/

/-- Insert keeping `le` order; equal elements keep their order of arrival. -/
def insertBy {α : Type} (le : α → α → Bool) (x : α) : List α → List α
  | [] => [x]
  | y :: ys => if le y x then y :: insertBy le x ys else x :: y :: ys

/-- Stable insertion sort. -/
def sortBy {α : Type} (le : α → α → Bool) (xs : List α) : List α :=
  xs.foldl (fun acc x => insertBy le x acc) []

end Sys2Proof.Machine
end

