-- ==== Sys2Proof/Machine/Aes.lean ====
section
/-! DEFINITION. AES-128 (FIPS 197) in CCM mode (NIST SP 800-38C), with which 02_giton_chain R52 protects every unit of the chain: tag
length 4 bytes, L = 2, a nonce of 13 bytes. -/
namespace Sys2Proof.Machine
open Sys2Proof

/-! ### AES-128 -/

/-- The S-box, 32 entries a number, entry 0 in the least significant byte (FIPS 197, Figure 7). -/
def sboxWord : Nat → Nat
  | 0 => 0xC072A49CAFA2D4ADF04759FA7DC982CA76ABD7FE2B670130C56F6BF27B777C63
  | 1 => 0x75B227EBE28012079A059618C323C7041531D871F1E5A534CCF73F362693FDB7
  | 2 => 0xCF584C4A39BECB6A5BB1FC20ED00D153842FE329B3D63B52A05A6E1B1A2C8309
  | 3 => 0xD2F3FF1021DAB6BCF5389D928F40A351A89F3C507F02F94585334D43FBAAEFD0
  | 4 => 0xDB0B5EDE14B8EE4688902A22DC4F816073195D643D7EA7C41744975FEC130CCD
  | 5 => 0x08AE7A65EAF4566CA94ED58D6D37C8E779E4959162ACD3C25C2406490A3A32E0
  | 6 => 0x9E1DC186B95735610EF6034866B53E708A8BBD4B1F74DDE8C6B4A61C2E2578BA
  | _ => 0x16BB54B00F2D99416842E6BF0D89A18CDF2855CEE9871E9B948ED9691198F8E1

/-- SubBytes of one byte. -/
def subByte (b : Byte) : Byte := BitVec.ofNat 8 (sboxWord (b.toNat / 32) >>> (b.toNat % 32 * 8))

/-- A byte times x in the field of FIPS 197. -/
def xtime (b : Byte) : Byte := if b.getLsbD 7 then (b <<< 1) ^^^ 0x1B#8 else b <<< 1

/-- XOR of two lists of bytes, as long as the shorter. -/
def xorBytes (a b : List Byte) : List Byte := List.zipWith (· ^^^ ·) a b

/-- ShiftRows on the 16 bytes of a block, column by column. -/
def shiftRows (b : List Byte) : List Byte := (List.range 16).map fun i => b.getD (i % 4 + 4 * ((i / 4 + i) % 4)) 0

/-- MixColumns of one column. -/
def mixColumn (a b c d : Byte) : List Byte :=
  [xtime a ^^^ xtime b ^^^ b ^^^ c ^^^ d, a ^^^ xtime b ^^^ xtime c ^^^ c ^^^ d,
   a ^^^ b ^^^ xtime c ^^^ xtime d ^^^ d, xtime a ^^^ a ^^^ b ^^^ c ^^^ xtime d]

/-- MixColumns on the 16 bytes of a block. -/
def mixColumns (b : List Byte) : List Byte :=
  [0, 4, 8, 12].flatMap fun i => mixColumn (b.getD i 0) (b.getD (i + 1) 0) (b.getD (i + 2) 0) (b.getD (i + 3) 0)

/-- The next round key from the one before and the round constant. -/
def nextRoundKey (k : List Byte) (rcon : Byte) : List Byte :=
  let g := [subByte (k.getD 13 0) ^^^ rcon, subByte (k.getD 14 0), subByte (k.getD 15 0), subByte (k.getD 12 0)]
  let w0 := xorBytes g (slice k 0 4)
  let w1 := xorBytes w0 (slice k 4 4)
  let w2 := xorBytes w1 (slice k 8 4)
  w0 ++ w1 ++ w2 ++ xorBytes w2 (slice k 12 4)

/-- The rounds left after the block has been combined with a round key: `n` of them mix the columns, the last does not. -/
def aesRounds : Nat → Byte → List Byte → List Byte → List Byte
  | 0, rcon, k, b => xorBytes (shiftRows (b.map subByte)) (nextRoundKey k rcon)
  | n + 1, rcon, k, b =>
    let k := nextRoundKey k rcon
    aesRounds n (xtime rcon) k (xorBytes (mixColumns (shiftRows (b.map subByte))) k)

/-- AES-128 of one block of 16 bytes under a key of 16 bytes. -/
def aes (key b : List Byte) : List Byte := aesRounds 9 1#8 key (xorBytes b key)

/-! ### CCM -/

/-- Bytes cut into blocks of 16, the last filled up with zeros; `n` bounds the number of blocks. -/
def blocks : Nat → List Byte → List (List Byte)
  | 0, _ => []
  | n + 1, bs => if bs.isEmpty then [] else (bs ++ List.replicate 15 0).take 16 :: blocks n (bs.drop 16)

/-- The blocks of the associated data: its length in 2 bytes, then the data. -/
def aadBlocks (a : List Byte) : List (List Byte) :=
  if a.isEmpty then [] else blocks (a.length + 2) (toBytes 2 a.length ++ a)

/-- The CBC-MAC of the first block, the associated data and the payload. -/
def ccmMac (key nonce a p : List Byte) : List Byte :=
  let b0 := toBytes 1 (if a.isEmpty then 0x09 else 0x49) ++ nonce ++ toBytes 2 p.length
  (b0 :: aadBlocks a ++ blocks p.length p).foldl (fun x b => aes key (xorBytes x b)) (List.replicate 16 0)

/-- Key stream block i. -/
def ccmStream (key nonce : List Byte) (i : Nat) : List Byte := aes key (toBytes 1 1 ++ nonce ++ toBytes 2 i)

/-- The payload encrypted, or decrypted. -/
def ccmCrypt (key nonce p : List Byte) : List Byte :=
  (blocks p.length p).zipIdx.flatMap (fun x => xorBytes x.1 (ccmStream key nonce (x.2 + 1))) |>.take p.length

/-- The tag of 4 bytes. -/
def ccmTag (key nonce a p : List Byte) : List Byte := (xorBytes (ccmMac key nonce a p) (ccmStream key nonce 0)).take 4

/-- The encrypted payload and its tag (R52). -/
def ccmSeal (key nonce a p : List Byte) : List Byte := ccmCrypt key nonce p ++ ccmTag key nonce a p

/-- The payload of a unit whose tag verifies; none where it does not (R52, R53). -/
def ccmOpen (key nonce a c tag : List Byte) : Option (List Byte) :=
  let p := ccmCrypt key nonce c
  if ccmTag key nonce a p = tag then some p else none

/-- The nonce of a unit: SENDER in 8 bytes, COUNTER in 5 (R52, Table 2-11). -/
def ccmNonce (sender counter : Nat) : List Byte := toBytes 8 sender ++ toBytes 5 counter

end Sys2Proof.Machine
end

