-- ==== Sys2Proof/Machine/Entries.lean ====
section
/-! DEFINITION. The object dictionary: every row of the dictionary tables of chapters 02 to 22 (R243), each under its own name,
with its index, subindex, type, access, persistence, unit, factory default and range; and the list of all of them. -/
namespace Sys2Proof.Machine.Ent
open Sys2Proof


/-! Table 2-13 (02_giton_chain.md) -/
def CHN_NODE_COUNT : Entry := ⟨0x6000, 0x01, "CHN_NODE_COUNT", .u8, .rwi, .per, "", .num 0, .between 0 32, 1, 0, 0, 0⟩
def CHN_SPLIT : Entry := ⟨0x6000, 0x02, "CHN_SPLIT", .u8, .rwi, .per, "", .num 0, .between 0 32, 1, 0, 0, 0⟩
def CHN_SWEEP_PERIOD : Entry := ⟨0x6000, 0x03, "CHN_SWEEP_PERIOD", .u16, .rwc, .per, "ms", .num 20, .between 10 1000, 1, 0, 0, 0⟩
def CHN_CHAN_A : Entry := ⟨0x6000, 0x04, "CHN_CHAN_A", .u8, .rwc, .per, "", .num 3, .between (0) (15), 1, 0, 0, 0⟩
def CHN_CHAN_B : Entry := ⟨0x6000, 0x05, "CHN_CHAN_B", .u8, .rwc, .per, "", .num 11, .between (0) (15), 1, 0, 0, 0⟩
def CHN_CHAN_MASK : Entry := ⟨0x6000, 0x06, "CHN_CHAN_MASK", .u16, .rw, .per, "", .num 65535, .any, 1, 0, 0, 0⟩
def CHN_AUTO_CHANNEL : Entry := ⟨0x6000, 0x07, "CHN_AUTO_CHANNEL", .bool, .rw, .per, "", .num 1, .between 0 1, 1, 0, 0, 0⟩
def CHN_FILTER_CORNER : Entry := ⟨0x6000, 0x08, "CHN_FILTER_CORNER", .enum8, .rwc, .per, "", .num 2, .between 0 3, 1, 0, 0, 0⟩
def CHN_NOTCH_EN : Entry := ⟨0x6000, 0x09, "CHN_NOTCH_EN", .bool, .rwc, .per, "", .num 1, .between 0 1, 1, 0, 0, 0⟩
def CHN_ENUM_PWR : Entry := ⟨0x6000, 0x0A, "CHN_ENUM_PWR", .enum8, .rw, .per, "", .num 1, .between 0 3, 1, 0, 0, 0⟩
def CHN_AUTO_KEY : Entry := ⟨0x6000, 0x0B, "CHN_AUTO_KEY", .bool, .rw, .per, "", .num 0, .between 0 1, 1, 0, 0, 0⟩
def CHN_PACK_KEY : Entry := ⟨0x6000, 0x0C, "CHN_PACK_KEY", .octets, .wo, .mir, "", .bytes [], .length 16 16, 1, 0, 0, 0⟩
def CHN_ENUMERATE : Entry := ⟨0x6000, 0x0D, "CHN_ENUMERATE", .bool, .wo, .vol, "", .num 0, .between 0 1, 1, 0, 0, 0⟩
def CHN_KEY_NODE : Entry := ⟨0x6000, 0x0E, "CHN_KEY_NODE", .u8, .wo, .vol, "", .num 0, .between (1) (32), 1, 0, 0, 0⟩
def CHN_STATE : Entry := ⟨0x6000, 0x20, "CHN_STATE", .enum8, .ro, .vol, "", .num 0, .between 0 5, 1, 0, 0, 0⟩
def CHN_SWEEP_CTR : Entry := ⟨0x6000, 0x21, "CHN_SWEEP_CTR", .u64, .ro, .per, "", .num 0, .between 0 1099511627775, 1, 0, 0, 0⟩
def CHN_LAST_INSTANT : Entry := ⟨0x6000, 0x22, "CHN_LAST_INSTANT", .time64, .ro, .vol, "", .num 0, .any, 1, 0, 0, 0⟩
def CHN_SWEEP_FLAGS : Entry := ⟨0x6000, 0x23, "CHN_SWEEP_FLAGS", .u8, .ro, .vol, "", .num 0, .any, 1, 0, 0, 0⟩
def CHN_BREAK_LO : Entry := ⟨0x6000, 0x24, "CHN_BREAK_LO", .u8, .ro, .vol, "", .num 0, .between (0) (32), 1, 0, 0, 0⟩
def CHN_BREAK_HI : Entry := ⟨0x6000, 0x25, "CHN_BREAK_HI", .u8, .ro, .vol, "", .num 0, .between (1) (33), 1, 0, 0, 0⟩
def CHN_EFF_PERIOD : Entry := ⟨0x6000, 0x26, "CHN_EFF_PERIOD", .u16, .ro, .vol, "ms", .num 20, .any, 1, 0, 0, 0⟩
def CHN_H_MAX : Entry := ⟨0x6000, 0x27, "CHN_H_MAX", .u8, .ro, .vol, "", .num 0, .between (0) (32), 1, 0, 0, 0⟩
def CHN_CRC_ERR_A : Entry := ⟨0x6000, 0x28, "CHN_CRC_ERR_A", .u32, .ro, .per, "", .num 0, .any, 1, 0, 0, 0⟩
def CHN_CRC_ERR_B : Entry := ⟨0x6000, 0x29, "CHN_CRC_ERR_B", .u32, .ro, .per, "", .num 0, .any, 1, 0, 0, 0⟩
def CHN_MIC_ERR : Entry := ⟨0x6000, 0x2A, "CHN_MIC_ERR", .u32, .ro, .per, "", .num 0, .any, 1, 0, 0, 0⟩
def CHN_SPLIT_SWEEPS : Entry := ⟨0x6000, 0x2B, "CHN_SPLIT_SWEEPS", .u32, .ro, .per, "", .num 0, .any, 1, 0, 0, 0⟩
def CHN_CHAN_ACTIVE : Entry := ⟨0x6000, 0x2C, "CHN_CHAN_ACTIVE", .u16, .ro, .vol, "", .num 779, .any, 1, 0, 0, 0⟩
def CHN_MIN_PERIOD : Entry := ⟨0x6000, 0x2D, "CHN_MIN_PERIOD", .u16, .ro, .vol, "ms", .num 20, .between (10) (20), 1, 0, 0, 0⟩

/-! Table 2-14 (02_giton_chain.md) -/
def CHN_NODE_ID : Entry := ⟨0x6001, 0x01, "CHN_NODE_ID", .u64, .ro, .vol, "", .num 0, .any, 32, 1, 0, 1⟩
def CHN_NODE_STATE : Entry := ⟨0x6001, 0x02, "CHN_NODE_STATE", .enum8, .ro, .vol, "", .num 0, .between 0 4, 32, 1, 0, 1⟩
def CHN_NODE_HOP_B : Entry := ⟨0x6001, 0x03, "CHN_NODE_HOP_B", .u8, .ro, .vol, "", .num 0, .between (1) (32), 32, 1, 0, 1⟩
def CHN_NODE_CELLS : Entry := ⟨0x6001, 0x04, "CHN_NODE_CELLS", .u8, .ro, .vol, "", .num 0, .between (4) (16), 32, 1, 0, 1⟩
def CHN_NODE_RSSI : Entry := ⟨0x6001, 0x05, "CHN_NODE_RSSI", .s16, .ro, .vol, "dBm", .num 0, .between (-100) (0), 32, 1, 0, 1⟩
def CHN_NODE_LAST_SWEEP : Entry := ⟨0x6001, 0x06, "CHN_NODE_LAST_SWEEP", .u64, .ro, .vol, "", .num 0, .any, 32, 1, 0, 1⟩
def CHN_NODE_STATUS : Entry := ⟨0x6001, 0x07, "CHN_NODE_STATUS", .u16, .ro, .vol, "", .num 0, .any, 32, 1, 0, 1⟩
def CHN_NODE_FW : Entry := ⟨0x6001, 0x08, "CHN_NODE_FW", .u32, .ro, .vol, "", .num 0, .any, 32, 1, 0, 1⟩
def CHN_NODE_CORNER : Entry := ⟨0x6001, 0x09, "CHN_NODE_CORNER", .enum8, .rwc, .per, "", .num 4, .between 0 4, 32, 1, 0, 1⟩

/-! Table 3-5 (03_cell_sweeps_and_balancing.md) -/
def STR_POS_COUNT : Entry := ⟨0x3000, 0x10, "STR_POS_COUNT", .u16, .rwi, .per, "", .num 0, .between (0) (256), 1, 0, 0, 0⟩
def STR_CHAIN_DIR : Entry := ⟨0x3000, 0x11, "STR_CHAIN_DIR", .enum8, .rwi, .per, "", .num 0, .between 0 1, 1, 0, 0, 0⟩
def STR_BAL_MODE : Entry := ⟨0x3000, 0x12, "STR_BAL_MODE", .enum8, .rwc, .per, "", .num 0, .between 0 1, 1, 0, 0, 0⟩
def STR_BAL_ENABLE : Entry := ⟨0x3000, 0x13, "STR_BAL_ENABLE", .bool, .rw, .per, "", .num 1, .between 0 1, 1, 0, 0, 0⟩
def STR_BAL_TARGET : Entry := ⟨0x3000, 0x14, "STR_BAL_TARGET", .enum8, .rw, .per, "", .num 0, .between 0 1, 1, 0, 0, 0⟩
def STR_BAL_R : Entry := ⟨0x3000, 0x15, "STR_BAL_R", .u32, .rwi, .per, "mΩ", .num 27000, .between (10000) (100000), 1, 0, 0, 0⟩
def STR_BAL_HORIZON : Entry := ⟨0x3000, 0x16, "STR_BAL_HORIZON", .u16, .rw, .per, "h", .num 4, .between (1) (48), 1, 0, 0, 0⟩
def STR_BAL_DEADBAND : Entry := ⟨0x3000, 0x17, "STR_BAL_DEADBAND", .u32, .rw, .per, "mAh", .num 50, .between (10) (10000), 1, 0, 0, 0⟩
def STR_BAL_TMAX : Entry := ⟨0x3000, 0x18, "STR_BAL_TMAX", .s16, .rw, .per, "0.1 °C", .num 550, .between (0) (800), 1, 0, 0, 0⟩
def STR_BAL_VMIN : Entry := ⟨0x3000, 0x19, "STR_BAL_VMIN", .u16, .rw, .per, "100 µV", .num 30000, .between (0) (50000), 1, 0, 0, 0⟩
def STR_BAL_NODE_MAX : Entry := ⟨0x3000, 0x1A, "STR_BAL_NODE_MAX", .u16, .rw, .per, "1/64", .num 512, .between (64) (1008), 1, 0, 0, 0⟩
def STR_LEAD_LEARN : Entry := ⟨0x3000, 0x1B, "STR_LEAD_LEARN", .bool, .rw, .per, "", .num 1, .between 0 1, 1, 0, 0, 0⟩
def STR_LEAD_LEARN_INT : Entry := ⟨0x3000, 0x1C, "STR_LEAD_LEARN_INT", .u16, .rw, .per, "sweeps", .num 500, .between (50) (60000), 1, 0, 0, 0⟩
def STR_LEAD_R_MAX : Entry := ⟨0x3000, 0x1D, "STR_LEAD_R_MAX", .u32, .rw, .per, "µΩ", .num 200000, .between (1000) (1000000), 1, 0, 0, 0⟩
def STR_BAL_ACTIVE : Entry := ⟨0x3000, 0x1E, "STR_BAL_ACTIVE", .u16, .ro, .vol, "", .num 0, .between (0) (256), 1, 0, 0, 0⟩
def STR_LEAD_FAULTS : Entry := ⟨0x3000, 0x1F, "STR_LEAD_FAULTS", .u16, .ro, .vol, "", .num 0, .between (0) (256), 1, 0, 0, 0⟩
def STR_MAP_STATE : Entry := ⟨0x3000, 0x20, "STR_MAP_STATE", .enum8, .ro, .vol, "", .num 0, .between 0 2, 1, 0, 0, 0⟩

/-! Table 3-6 (03_cell_sweeps_and_balancing.md) -/
def CELL_VOLTAGE : Entry := ⟨0x3100, 0x01, "CELL_VOLTAGE", .u16, .ro, .vol, "100 µV", .num 65535, .orVal 65535 (0) (65534), 256, 1, 0, 0⟩
def CELL_V_QUAL : Entry := ⟨0x3100, 0x02, "CELL_V_QUAL", .u8, .ro, .vol, "", .num 0, .any, 256, 1, 0, 0⟩
def CELL_TEMP : Entry := ⟨0x3100, 0x03, "CELL_TEMP", .s16, .ro, .vol, "0.1 °C", .num (-32768), .orVal (-32768) (-400) (1500), 256, 1, 0, 0⟩
def CELL_T_QUAL : Entry := ⟨0x3100, 0x04, "CELL_T_QUAL", .u8, .ro, .vol, "", .num 0, .any, 256, 1, 0, 0⟩
def CELL_INSTANT : Entry := ⟨0x3100, 0x05, "CELL_INSTANT", .time64, .ro, .vol, "", .num 0, .any, 256, 1, 0, 0⟩
def CELL_V_RAW : Entry := ⟨0x3100, 0x06, "CELL_V_RAW", .u16, .ro, .vol, "100 µV", .num 65535, .any, 256, 1, 0, 0⟩
def CELL_V_CORR : Entry := ⟨0x3100, 0x07, "CELL_V_CORR", .s16, .ro, .vol, "100 µV", .num 0, .any, 256, 1, 0, 0⟩
def CELL_NODE : Entry := ⟨0x3100, 0x08, "CELL_NODE", .u8, .ro, .vol, "", .num 0, .between (1) (32), 256, 1, 0, 0⟩
def CELL_INPUT : Entry := ⟨0x3100, 0x09, "CELL_INPUT", .u8, .ro, .vol, "", .num 0, .between (0) (15), 256, 1, 0, 0⟩
def CELL_TEMP_SRC : Entry := ⟨0x3100, 0x0A, "CELL_TEMP_SRC", .enum8, .rwc, .per, "", .num 4, .between 0 4, 256, 1, 0, 0⟩
def CELL_BAL_DUTY : Entry := ⟨0x3100, 0x0B, "CELL_BAL_DUTY", .u8, .ro, .vol, "1/64", .num 0, .between (0) (63), 256, 1, 0, 0⟩
def CELL_BAL_INHIBIT : Entry := ⟨0x3100, 0x0C, "CELL_BAL_INHIBIT", .bool, .rw, .per, "", .num 0, .between 0 1, 256, 1, 0, 0⟩
def CELL_LEAD_R_LO : Entry := ⟨0x3100, 0x0D, "CELL_LEAD_R_LO", .u32, .rw, .per, "µΩ", .num 0, .between (0) (1000000), 256, 1, 0, 0⟩
def CELL_LEAD_R_HI : Entry := ⟨0x3100, 0x0E, "CELL_LEAD_R_HI", .u32, .rw, .per, "µΩ", .num 0, .between (0) (1000000), 256, 1, 0, 0⟩
def CELL_LEAD_SRC_LO : Entry := ⟨0x3100, 0x0F, "CELL_LEAD_SRC_LO", .enum8, .ro, .per, "", .num 0, .between 0 2, 256, 1, 0, 0⟩
def CELL_LEAD_SRC_HI : Entry := ⟨0x3100, 0x10, "CELL_LEAD_SRC_HI", .enum8, .ro, .per, "", .num 0, .between 0 2, 256, 1, 0, 0⟩
def CELL_FAULT : Entry := ⟨0x3100, 0x11, "CELL_FAULT", .u16, .ro, .vol, "", .num 0, .any, 256, 1, 0, 0⟩

/-! Table 4-5 (04_estimation_engine.md) -/
def EST_RATED_CAP : Entry := ⟨0x3000, 0x40, "EST_RATED_CAP", .u32, .rwi, .per, "mAh", .num 0, .zeroOr 1000 2000000, 1, 0, 0, 0⟩
def EST_SOC_MODE : Entry := ⟨0x3000, 0x41, "EST_SOC_MODE", .enum8, .rw, .per, "", .num 0, .between 0 1, 1, 0, 0, 0⟩
def EST_SOC_SLEW : Entry := ⟨0x3000, 0x42, "EST_SOC_SLEW", .u16, .rw, .per, "0.01 %/min", .num 50, .between (1) (200), 1, 0, 0, 0⟩
def EST_REST_TIME : Entry := ⟨0x3000, 0x43, "EST_REST_TIME", .u16, .rw, .per, "min", .num 30, .between (5) (240), 1, 0, 0, 0⟩
def EST_PSEUDO_TIME : Entry := ⟨0x3000, 0x44, "EST_PSEUDO_TIME", .u16, .rw, .per, "min", .num 10, .between (5) (60), 1, 0, 0, 0⟩
def EST_ANCHOR_TIME : Entry := ⟨0x3000, 0x45, "EST_ANCHOR_TIME", .u16, .rw, .per, "h", .num 72, .between (12) (720), 1, 0, 0, 0⟩
def EST_UNANCH_RATE : Entry := ⟨0x3000, 0x46, "EST_UNANCH_RATE", .u16, .rw, .per, "0.01 %/h", .num 10, .between (1) (100), 1, 0, 0, 0⟩
def EST_W_REST : Entry := ⟨0x3000, 0x47, "EST_W_REST", .u16, .rw, .per, "1/65,536", .num 32768, .between (1) (65535), 1, 0, 0, 0⟩
def EST_W_SWEEP : Entry := ⟨0x3000, 0x48, "EST_W_SWEEP", .u16, .rw, .per, "1/65,536", .num 131, .between (0) (65535), 1, 0, 0, 0⟩
def EST_GATE : Entry := ⟨0x3000, 0x49, "EST_GATE", .u16, .rw, .per, "0.01 %", .num 1000, .between (100) (5000), 1, 0, 0, 0⟩
def EST_SLOPE_REF : Entry := ⟨0x3000, 0x4A, "EST_SLOPE_REF", .u16, .rw, .per, "100 µV/%", .num 50, .between (1) (1000), 1, 0, 0, 0⟩
def EST_TAB_UNC : Entry := ⟨0x3000, 0x4B, "EST_TAB_UNC", .u16, .rw, .per, "0.01 %", .num 150, .between (10) (1000), 1, 0, 0, 0⟩
def EST_CNT_ERR : Entry := ⟨0x3000, 0x4C, "EST_CNT_ERR", .u16, .rw, .per, "ppm", .num 1000, .between (0) (50000), 1, 0, 0, 0⟩
def EST_STAGE_CNT_ERR : Entry := ⟨0x3000, 0x4D, "EST_STAGE_CNT_ERR", .u32, .rw, .per, "ppm", .num 10000, .between (0) (100000), 1, 0, 0, 0⟩
def EST_COUL_EFF : Entry := ⟨0x3000, 0x4E, "EST_COUL_EFF", .u16, .rw, .per, "1/10,000", .num 10000, .between (9500) (10000), 1, 0, 0, 0⟩
def EST_SELF_DIS : Entry := ⟨0x3000, 0x4F, "EST_SELF_DIS", .u16, .rw, .per, "ppm/day", .num 300, .between (0) (10000), 1, 0, 0, 0⟩
def EST_SHUNT_LSB : Entry := ⟨0x3000, 0x50, "EST_SHUNT_LSB", .u32, .rwi, .per, "µA", .num 200, .between (1) (10000), 1, 0, 0, 0⟩
def EST_SHUNT_LAT : Entry := ⟨0x3000, 0x51, "EST_SHUNT_LAT", .u16, .rwi, .per, "µs", .num 40, .between (0) (1000), 1, 0, 0, 0⟩
def EST_HIB_DELAY : Entry := ⟨0x3000, 0x52, "EST_HIB_DELAY", .u16, .rw, .per, "min", .num 10, .between (1) (1440), 1, 0, 0, 0⟩
def EST_WAKE_I : Entry := ⟨0x3000, 0x53, "EST_WAKE_I", .u32, .rw, .per, "mA", .num 0, .between 0 1000000, 1, 0, 0, 0⟩
def EST_CKPT_INT : Entry := ⟨0x3000, 0x54, "EST_CKPT_INT", .u16, .rw, .per, "s", .num 10, .between (1) (600), 1, 0, 0, 0⟩
def EST_REST_REQ : Entry := ⟨0x3000, 0x55, "EST_REST_REQ", .u16, .wo, .vol, "min", .num 0, .between 5 240, 1, 0, 0, 0⟩
def EST_STATE : Entry := ⟨0x3000, 0x58, "EST_STATE", .enum8, .ro, .vol, "", .num 0, .between 0 4, 1, 0, 0, 0⟩
def EST_STR_SOC : Entry := ⟨0x3000, 0x59, "EST_STR_SOC", .u16, .ro, .vol, "0.01 %", .num 65535, .orVal 65535 (0) (10000), 1, 0, 0, 0⟩
def EST_STR_UNC : Entry := ⟨0x3000, 0x5A, "EST_STR_UNC", .u16, .ro, .vol, "0.01 %", .num 10000, .between (0) (10000), 1, 0, 0, 0⟩
def EST_REST_STATE : Entry := ⟨0x3000, 0x5B, "EST_REST_STATE", .enum8, .ro, .vol, "", .num 0, .between 0 2, 1, 0, 0, 0⟩
def EST_REST_TIMER : Entry := ⟨0x3000, 0x5C, "EST_REST_TIMER", .u32, .ro, .vol, "s", .num 0, .any, 1, 0, 0, 0⟩
def EST_I_FRAME : Entry := ⟨0x3000, 0x5D, "EST_I_FRAME", .s32, .ro, .vol, "mA", .num 0, .any, 1, 0, 0, 0⟩
def EST_I_SOURCE : Entry := ⟨0x3000, 0x5E, "EST_I_SOURCE", .enum8, .ro, .vol, "", .num 2, .between 0 2, 1, 0, 0, 0⟩
def EST_FLAGS : Entry := ⟨0x3000, 0x5F, "EST_FLAGS", .u16, .ro, .vol, "", .num 0, .any, 1, 0, 0, 0⟩
def TBL_CACHE_USED : Entry := ⟨0x3000, 0x60, "TBL_CACHE_USED", .u8, .ro, .vol, "", .num 0, .between (0) (10), 1, 0, 0, 0⟩

/-! Table 4-6 (04_estimation_engine.md) -/
def EST_SOC_INT : Entry := ⟨0x3200, 0x01, "EST_SOC_INT", .u16, .ro, .mir, "0.01 %", .num 65535, .orVal 65535 (0) (10000), 256, 1, 0, 0⟩
def EST_SOC_REP : Entry := ⟨0x3200, 0x02, "EST_SOC_REP", .u16, .ro, .mir, "0.01 %", .num 65535, .orVal 65535 (0) (10000), 256, 1, 0, 0⟩
def EST_SOC_UNC : Entry := ⟨0x3200, 0x03, "EST_SOC_UNC", .u16, .ro, .mir, "0.01 %", .num 10000, .between (0) (10000), 256, 1, 0, 0⟩
def EST_CAP : Entry := ⟨0x3200, 0x04, "EST_CAP", .u32, .ro, .mir, "mAh", .num 0, .any, 256, 1, 0, 0⟩
def EST_CAP_AGE : Entry := ⟨0x3200, 0x05, "EST_CAP_AGE", .u32, .ro, .mir, "s", .num 0, .any, 256, 1, 0, 0⟩
def EST_RDC : Entry := ⟨0x3200, 0x06, "EST_RDC", .u32, .ro, .mir, "µΩ", .num 0, .any, 256, 1, 0, 0⟩
def EST_RDC_T : Entry := ⟨0x3200, 0x07, "EST_RDC_T", .u32, .ro, .vol, "µΩ", .num 0, .any, 256, 1, 0, 0⟩
def EST_SOH_C : Entry := ⟨0x3200, 0x08, "EST_SOH_C", .u16, .ro, .mir, "0.01 %", .num 10000, .between (0) (10000), 256, 1, 0, 0⟩
def EST_SOH_R : Entry := ⟨0x3200, 0x09, "EST_SOH_R", .u16, .ro, .mir, "0.01 %", .num 10000, .between (0) (10000), 256, 1, 0, 0⟩
def EST_TEMP : Entry := ⟨0x3200, 0x0A, "EST_TEMP", .s16, .ro, .vol, "0.1 °C", .num (-32768), .any, 256, 1, 0, 0⟩
def EST_TSET : Entry := ⟨0x3200, 0x0B, "EST_TSET", .u8, .rwc, .per, "", .num 0, .between (0) (15), 256, 1, 0, 0⟩
def EST_ANCHOR_AGE : Entry := ⟨0x3200, 0x0C, "EST_ANCHOR_AGE", .u32, .ro, .mir, "s", .num 0, .any, 256, 1, 0, 0⟩
def EST_QUAL : Entry := ⟨0x3200, 0x0D, "EST_QUAL", .u16, .ro, .vol, "", .num 0, .any, 256, 1, 0, 0⟩
def EST_RESID : Entry := ⟨0x3200, 0x0E, "EST_RESID", .s16, .ro, .vol, "100 µV", .num 0, .any, 256, 1, 0, 0⟩
def EST_R_COUNT : Entry := ⟨0x3200, 0x0F, "EST_R_COUNT", .u16, .ro, .mir, "", .num 0, .any, 256, 1, 0, 0⟩
def EST_CONTEXT : Entry := ⟨0x3200, 0x10, "EST_CONTEXT", .octets, .ro, .vol, "", .bytes [], .length 128 128, 256, 1, 0, 0⟩

/-! Table 4-7 (04_estimation_engine.md) -/
def TBL_NAME : Entry := ⟨0x3300, 0x01, "TBL_NAME", .str, .rwc, .per, "", .bytes [], .length 0 16, 16, 4, 0, 0⟩
def TBL_TAXIS_0 : Entry := ⟨0x3300, 0x02, "TBL_TAXIS_0", .s16, .rwc, .per, "0.1 °C", .num (-200), .between (-400) (800), 16, 4, 0, 0⟩
def TBL_TAXIS_1 : Entry := ⟨0x3300, 0x03, "TBL_TAXIS_1", .s16, .rwc, .per, "0.1 °C", .num (-100), .between (-400) (800), 16, 4, 0, 0⟩
def TBL_TAXIS_2 : Entry := ⟨0x3300, 0x04, "TBL_TAXIS_2", .s16, .rwc, .per, "0.1 °C", .num 0, .between (-400) (800), 16, 4, 0, 0⟩
def TBL_TAXIS_3 : Entry := ⟨0x3300, 0x05, "TBL_TAXIS_3", .s16, .rwc, .per, "0.1 °C", .num 100, .between (-400) (800), 16, 4, 0, 0⟩
def TBL_TAXIS_4 : Entry := ⟨0x3300, 0x06, "TBL_TAXIS_4", .s16, .rwc, .per, "0.1 °C", .num 200, .between (-400) (800), 16, 4, 0, 0⟩
def TBL_TAXIS_5 : Entry := ⟨0x3300, 0x07, "TBL_TAXIS_5", .s16, .rwc, .per, "0.1 °C", .num 300, .between (-400) (800), 16, 4, 0, 0⟩
def TBL_TAXIS_6 : Entry := ⟨0x3300, 0x08, "TBL_TAXIS_6", .s16, .rwc, .per, "0.1 °C", .num 400, .between (-400) (800), 16, 4, 0, 0⟩
def TBL_TAXIS_7 : Entry := ⟨0x3300, 0x09, "TBL_TAXIS_7", .s16, .rwc, .per, "0.1 °C", .num 500, .between (-400) (800), 16, 4, 0, 0⟩
def TBL_DATA : Entry := ⟨0x3300, 0x0A, "TBL_DATA", .octets, .rwc, .per, "", .bytes [], .length 3168 3168, 16, 4, 0, 0⟩
def TBL_RFACT_0 : Entry := ⟨0x3300, 0x0B, "TBL_RFACT_0", .u16, .rwc, .per, "1/4,096", .num 4096, .between (1) (65535), 16, 4, 0, 0⟩
def TBL_RFACT_1 : Entry := ⟨0x3300, 0x0C, "TBL_RFACT_1", .u16, .rwc, .per, "1/4,096", .num 4096, .between (1) (65535), 16, 4, 0, 0⟩
def TBL_RFACT_2 : Entry := ⟨0x3300, 0x0D, "TBL_RFACT_2", .u16, .rwc, .per, "1/4,096", .num 4096, .between (1) (65535), 16, 4, 0, 0⟩
def TBL_RFACT_3 : Entry := ⟨0x3300, 0x0E, "TBL_RFACT_3", .u16, .rwc, .per, "1/4,096", .num 4096, .between (1) (65535), 16, 4, 0, 0⟩
def TBL_RFACT_4 : Entry := ⟨0x3300, 0x0F, "TBL_RFACT_4", .u16, .rwc, .per, "1/4,096", .num 4096, .between (1) (65535), 16, 4, 0, 0⟩
def TBL_RFACT_5 : Entry := ⟨0x3300, 0x10, "TBL_RFACT_5", .u16, .rwc, .per, "1/4,096", .num 4096, .between (1) (65535), 16, 4, 0, 0⟩
def TBL_RFACT_6 : Entry := ⟨0x3300, 0x11, "TBL_RFACT_6", .u16, .rwc, .per, "1/4,096", .num 4096, .between (1) (65535), 16, 4, 0, 0⟩
def TBL_RFACT_7 : Entry := ⟨0x3300, 0x12, "TBL_RFACT_7", .u16, .rwc, .per, "1/4,096", .num 4096, .between (1) (65535), 16, 4, 0, 0⟩
def TBL_CRC : Entry := ⟨0x3300, 0x13, "TBL_CRC", .u32, .ro, .per, "", .num 0, .any, 16, 4, 0, 0⟩
def TBL_STATE : Entry := ⟨0x3300, 0x14, "TBL_STATE", .enum8, .ro, .vol, "", .num 0, .between 0 3, 16, 4, 0, 0⟩
def TBL_USERS : Entry := ⟨0x3300, 0x15, "TBL_USERS", .u16, .ro, .vol, "", .num 0, .between (0) (256), 16, 4, 0, 0⟩

/-! Table 5-5 (05_capacity_life_identity.md) -/
def EST_LEARN_DSOC : Entry := ⟨0x3000, 0x70, "EST_LEARN_DSOC", .u16, .rw, .per, "0.01 %", .num 4000, .between (2000) (8000), 1, 0, 0, 0⟩
def EST_LEARN_DT : Entry := ⟨0x3000, 0x71, "EST_LEARN_DT", .u16, .rw, .per, "0.1 K", .num 100, .between (10) (300), 1, 0, 0, 0⟩
def EST_LEARN_DEV : Entry := ⟨0x3000, 0x72, "EST_LEARN_DEV", .u16, .rw, .per, "0.01 %", .num 1500, .between (100) (5000), 1, 0, 0, 0⟩
def EST_STALE_UNC : Entry := ⟨0x3000, 0x73, "EST_STALE_UNC", .u16, .rw, .per, "0.01 %", .num 500, .between (0) (5000), 1, 0, 0, 0⟩
def EST_EOL_CAP : Entry := ⟨0x3000, 0x74, "EST_EOL_CAP", .u16, .rw, .per, "0.01 %", .num 8000, .between (5000) (9500), 1, 0, 0, 0⟩
def EST_EOL_R : Entry := ⟨0x3000, 0x75, "EST_EOL_R", .u16, .rw, .per, "0.01 %", .num 20000, .between (11000) (50000), 1, 0, 0, 0⟩
def EST_RDC_BOL : Entry := ⟨0x3000, 0x76, "EST_RDC_BOL", .u32, .rw, .per, "µΩ", .num 0, .between 0 1000000, 1, 0, 0, 0⟩
def EST_LIFE_MIN_DAYS : Entry := ⟨0x3000, 0x77, "EST_LIFE_MIN_DAYS", .u32, .ro, .vol, "d", .num 4294967295, .orVal 4294967295 (0) (4294967294), 1, 0, 0, 0⟩
def EST_STALE_COUNT : Entry := ⟨0x3000, 0x78, "EST_STALE_COUNT", .u16, .ro, .vol, "", .num 0, .between (0) (256), 1, 0, 0, 0⟩
def EST_ID_ACK_ALL : Entry := ⟨0x3000, 0x79, "EST_ID_ACK_ALL", .bool, .wo, .vol, "", .num 0, .between 0 1, 1, 0, 0, 0⟩

/-! Table 5-6 (05_capacity_life_identity.md) -/
def EST_CAP_N : Entry := ⟨0x3200, 0x11, "EST_CAP_N", .u16, .ro, .mir, "", .num 0, .any, 256, 1, 0, 0⟩
def EST_CAP_LAST : Entry := ⟨0x3200, 0x12, "EST_CAP_LAST", .u32, .ro, .mir, "mAh", .num 0, .any, 256, 1, 0, 0⟩
def EST_AGE : Entry := ⟨0x3200, 0x13, "EST_AGE", .u32, .ro, .mir, "s", .num 0, .any, 256, 1, 0, 0⟩
def EST_THRU : Entry := ⟨0x3200, 0x14, "EST_THRU", .u32, .ro, .mir, "Ah", .num 0, .any, 256, 1, 0, 0⟩
def EST_EFC : Entry := ⟨0x3200, 0x15, "EST_EFC", .u32, .ro, .mir, "0.01 cycle", .num 0, .any, 256, 1, 0, 0⟩
def EST_R_BOL : Entry := ⟨0x3200, 0x16, "EST_R_BOL", .u32, .ro, .mir, "µΩ", .num 0, .any, 256, 1, 0, 0⟩
def EST_LIFE_DAYS : Entry := ⟨0x3200, 0x17, "EST_LIFE_DAYS", .u32, .ro, .vol, "d", .num 4294967295, .any, 256, 1, 0, 0⟩
def EST_LIFE_EFC : Entry := ⟨0x3200, 0x18, "EST_LIFE_EFC", .u32, .ro, .vol, "0.01 cycle", .num 4294967295, .any, 256, 1, 0, 0⟩
def EST_LEARNED : Entry := ⟨0x3200, 0x19, "EST_LEARNED", .octets, .ro, .vol, "", .bytes [], .length 64 64, 256, 1, 0, 0⟩
def EST_LEARN_STATE : Entry := ⟨0x3200, 0x1A, "EST_LEARN_STATE", .enum8, .ro, .vol, "", .num 0, .between 0 3, 256, 1, 0, 0⟩
def EST_LEARN_LAST : Entry := ⟨0x3200, 0x1B, "EST_LEARN_LAST", .enum8, .ro, .vol, "", .num 0, .between 0 11, 256, 1, 0, 0⟩

/-! Table 5-7 (05_capacity_life_identity.md) -/
def CELL_MOD_ID : Entry := ⟨0x3100, 0x12, "CELL_MOD_ID", .u64, .ro, .mir, "", .num 0, .any, 256, 1, 0, 0⟩
def CELL_GEN : Entry := ⟨0x3100, 0x13, "CELL_GEN", .u16, .ro, .mir, "", .num 0, .any, 256, 1, 0, 0⟩
def CELL_ID_ACK : Entry := ⟨0x3100, 0x14, "CELL_ID_ACK", .bool, .wo, .vol, "", .num 0, .between 0 1, 256, 1, 0, 0⟩

/-! Table 6-8 (06_stage_link_and_control_engine.md) -/
def CVT_PHASES : Entry := ⟨0x4000, 0x01, "CVT_PHASES", .u8, .rwi, .per, "", .num 0, .between 0 12, 1, 0, 0, 0⟩
def CVT_PWM_FREQ : Entry := ⟨0x4000, 0x02, "CVT_PWM_FREQ", .u32, .rwi, .per, "Hz", .num 25000, .between (10000) (100000), 1, 0, 0, 0⟩
def CVT_TB_SOURCE : Entry := ⟨0x4000, 0x03, "CVT_TB_SOURCE", .enum8, .rw, .per, "", .num 0, .between 0 2, 1, 0, 0, 0⟩
def CVT_PHASE_OFFSET : Entry := ⟨0x4000, 0x04, "CVT_PHASE_OFFSET", .u16, .rw, .per, "1/65,536 period", .num 0, .between (0) (65535), 1, 0, 0, 0⟩
def CVT_SYNC_OUT_EN : Entry := ⟨0x4000, 0x05, "CVT_SYNC_OUT_EN", .bool, .rw, .per, "", .num 0, .between 0 1, 1, 0, 0, 0⟩
def CVT_DUTY_MIN : Entry := ⟨0x4000, 0x06, "CVT_DUTY_MIN", .u16, .rwc, .per, "1/65,536", .num 3277, .any, 1, 0, 0, 0⟩
def CVT_DUTY_MAX : Entry := ⟨0x4000, 0x07, "CVT_DUTY_MAX", .u16, .rwc, .per, "1/65,536", .num 62259, .any, 1, 0, 0, 0⟩
def CVT_IREF_LSB : Entry := ⟨0x4000, 0x08, "CVT_IREF_LSB", .u16, .rwi, .per, "mA", .num 50, .between (1) (1000), 1, 0, 0, 0⟩
def CVT_LANE_WIRING : Entry := ⟨0x4000, 0x09, "CVT_LANE_WIRING", .enum8, .rwi, .per, "", .num 0, .between 0 1, 1, 0, 0, 0⟩
def CVT_SAMPLE_MISS_MAX : Entry := ⟨0x4000, 0x0A, "CVT_SAMPLE_MISS_MAX", .u8, .rw, .per, "periods", .num 3, .between (1) (7), 1, 0, 0, 0⟩
def CVT_IMB_WARN : Entry := ⟨0x4000, 0x0B, "CVT_IMB_WARN", .u16, .rw, .per, "0.1 %", .num 100, .between (10) (1000), 1, 0, 0, 0⟩
def CVT_IMB_SHED : Entry := ⟨0x4000, 0x0C, "CVT_IMB_SHED", .u16, .rw, .per, "0.1 %", .num 250, .between 10 1000, 1, 0, 0, 0⟩
def CVT_IMB_TIME : Entry := ⟨0x4000, 0x0D, "CVT_IMB_TIME", .u16, .rw, .per, "ms", .num 100, .between (10) (10000), 1, 0, 0, 0⟩
def CVT_PHASE_RESTORE : Entry := ⟨0x4000, 0x0E, "CVT_PHASE_RESTORE", .u16, .wo, .vol, "", .num 0, .any, 1, 0, 0, 0⟩
def CVT_CU_MAP : Entry := ⟨0x4000, 0x0F, "CVT_CU_MAP", .u16, .rwc, .per, "", .num 528, .any, 1, 0, 0, 0⟩
def CVT_CU_SPARE_AUTO : Entry := ⟨0x4000, 0x10, "CVT_CU_SPARE_AUTO", .bool, .rw, .per, "", .num 1, .between 0 1, 1, 0, 0, 0⟩
def CVT_VBUS_LIMIT : Entry := ⟨0x4000, 0x11, "CVT_VBUS_LIMIT", .s32, .rwi, .per, "mV", .num 1600000, .between (400000) (1600000), 1, 0, 0, 0⟩
def CVT_VSTR_LIMIT : Entry := ⟨0x4000, 0x12, "CVT_VSTR_LIMIT", .s32, .rwi, .per, "mV", .num 1500000, .between (200000) (1500000), 1, 0, 0, 0⟩

/-! Table 6-9 (06_stage_link_and_control_engine.md) -/
def CVT_STAGE_ID : Entry := ⟨0x4000, 0x20, "CVT_STAGE_ID", .u64, .ro, .vol, "", .num 0, .any, 1, 0, 0, 0⟩
def CVT_STAGE_PHASES : Entry := ⟨0x4000, 0x21, "CVT_STAGE_PHASES", .u8, .ro, .vol, "", .num 0, .between (0) (12), 1, 0, 0, 0⟩
def CVT_STAGE_FSW_MIN : Entry := ⟨0x4000, 0x22, "CVT_STAGE_FSW_MIN", .u32, .ro, .vol, "Hz", .num 0, .any, 1, 0, 0, 0⟩
def CVT_STAGE_FSW_MAX : Entry := ⟨0x4000, 0x23, "CVT_STAGE_FSW_MAX", .u32, .ro, .vol, "Hz", .num 0, .any, 1, 0, 0, 0⟩
def CVT_STAGE_I_RATED : Entry := ⟨0x4000, 0x24, "CVT_STAGE_I_RATED", .u32, .ro, .vol, "mA", .num 0, .any, 1, 0, 0, 0⟩
def CVT_STAGE_VBUS_MAX : Entry := ⟨0x4000, 0x25, "CVT_STAGE_VBUS_MAX", .s32, .ro, .vol, "mV", .num 0, .any, 1, 0, 0, 0⟩
def CVT_STAGE_VSTR_MAX : Entry := ⟨0x4000, 0x26, "CVT_STAGE_VSTR_MAX", .s32, .ro, .vol, "mV", .num 0, .any, 1, 0, 0, 0⟩
def CVT_IPH_LSB : Entry := ⟨0x4000, 0x27, "CVT_IPH_LSB", .u16, .ro, .vol, "mA", .num 0, .any, 1, 0, 0, 0⟩
def CVT_STAGE_FW : Entry := ⟨0x4000, 0x28, "CVT_STAGE_FW", .u32, .ro, .vol, "", .num 0, .any, 1, 0, 0, 0⟩
def CVT_STAGE_FAULTS : Entry := ⟨0x4000, 0x29, "CVT_STAGE_FAULTS", .u32, .ro, .vol, "", .num 0, .any, 1, 0, 0, 0⟩
def CVT_LINK_STATE : Entry := ⟨0x4000, 0x2A, "CVT_LINK_STATE", .u8, .ro, .vol, "", .num 0, .any, 1, 0, 0, 0⟩
def CVT_LANE_ACTIVE : Entry := ⟨0x4000, 0x2B, "CVT_LANE_ACTIVE", .u8, .ro, .vol, "", .num 255, .any, 1, 0, 0, 0⟩
def CVT_TB_STATE : Entry := ⟨0x4000, 0x2C, "CVT_TB_STATE", .enum8, .ro, .vol, "", .num 0, .between 0 4, 1, 0, 0, 0⟩
def CVT_TB_PHASE_ERR : Entry := ⟨0x4000, 0x2D, "CVT_TB_PHASE_ERR", .s32, .ro, .vol, "ns", .num 0, .any, 1, 0, 0, 0⟩
def CVT_PWM_PERIOD : Entry := ⟨0x4000, 0x2E, "CVT_PWM_PERIOD", .u32, .ro, .vol, "ps", .num 40000000, .any, 1, 0, 0, 0⟩
def CVT_DUTY_SEQ : Entry := ⟨0x4000, 0x2F, "CVT_DUTY_SEQ", .u16, .ro, .vol, "", .num 0, .any, 1, 0, 0, 0⟩
def CVT_DUTY_APPLIED : Entry := ⟨0x4000, 0x30, "CVT_DUTY_APPLIED", .u16, .ro, .vol, "1/65,536", .num 0, .any, 1, 0, 0, 0⟩
def CVT_PHASE_EN : Entry := ⟨0x4000, 0x31, "CVT_PHASE_EN", .u16, .ro, .vol, "", .num 0, .any, 1, 0, 0, 0⟩
def CVT_PHASE_FAULTED : Entry := ⟨0x4000, 0x32, "CVT_PHASE_FAULTED", .u16, .ro, .per, "", .num 0, .any, 1, 0, 0, 0⟩
def CVT_V_STRING : Entry := ⟨0x4000, 0x33, "CVT_V_STRING", .s32, .ro, .vol, "mV", .num 0, .any, 1, 0, 0, 0⟩
def CVT_V_BUS : Entry := ⟨0x4000, 0x34, "CVT_V_BUS", .s32, .ro, .vol, "mV", .num 0, .any, 1, 0, 0, 0⟩
def CVT_I_STAGE : Entry := ⟨0x4000, 0x35, "CVT_I_STAGE", .s32, .ro, .vol, "mA", .num 0, .any, 1, 0, 0, 0⟩
def CVT_I_PHASE : Entry := ⟨0x4000, 0x36, "CVT_I_PHASE", .octets, .ro, .vol, "", .bytes [], .length 48 48, 1, 0, 0, 0⟩
def CVT_HS_TEMP : Entry := ⟨0x4000, 0x37, "CVT_HS_TEMP", .octets, .ro, .vol, "", .bytes [], .length 8 8, 1, 0, 0, 0⟩
def CVT_IMBALANCE : Entry := ⟨0x4000, 0x38, "CVT_IMBALANCE", .octets, .ro, .vol, "", .bytes [], .length 24 24, 1, 0, 0, 0⟩
def CVT_SAMPLE_LATE : Entry := ⟨0x4000, 0x39, "CVT_SAMPLE_LATE", .u32, .ro, .per, "", .num 0, .any, 1, 0, 0, 0⟩
def CVT_SAMPLE_CRC_ERR : Entry := ⟨0x4000, 0x3A, "CVT_SAMPLE_CRC_ERR", .u32, .ro, .per, "", .num 0, .any, 1, 0, 0, 0⟩
def CVT_DSEQ_ERR : Entry := ⟨0x4000, 0x3B, "CVT_DSEQ_ERR", .u32, .ro, .per, "", .num 0, .any, 1, 0, 0, 0⟩

/-! Table 6-10 (06_stage_link_and_control_engine.md) -/
def CU_ENGINE_STATE : Entry := ⟨0x4100, 0x01, "CU_ENGINE_STATE", .enum8, .ro, .vol, "", .num 0, .between 0 2, 1, 0, 0, 0⟩
def CU_COMPUTE_MAX : Entry := ⟨0x4100, 0x02, "CU_COMPUTE_MAX", .u16, .ro, .vol, "ns", .num 0, .any, 1, 0, 0, 0⟩
def CU_FENCED_MASK : Entry := ⟨0x4100, 0x03, "CU_FENCED_MASK", .u8, .ro, .vol, "", .num 0, .any, 1, 0, 0, 0⟩
def CU_TYPE : Entry := ⟨0x4100, 0x10, "CU_TYPE", .enum8, .rwc, .per, "", .num 0, .between 0 1, 8, 0, 16, 0⟩
def CU_B0 : Entry := ⟨0x4100, 0x11, "CU_B0", .s32, .rwc, .per, "Q2.30", .num 0, .any, 8, 0, 16, 0⟩
def CU_B1 : Entry := ⟨0x4100, 0x12, "CU_B1", .s32, .rwc, .per, "Q2.30", .num 0, .any, 8, 0, 16, 0⟩
def CU_B2 : Entry := ⟨0x4100, 0x13, "CU_B2", .s32, .rwc, .per, "Q2.30", .num 0, .any, 8, 0, 16, 0⟩
def CU_B3 : Entry := ⟨0x4100, 0x14, "CU_B3", .s32, .rwc, .per, "Q2.30", .num 0, .any, 8, 0, 16, 0⟩
def CU_A1 : Entry := ⟨0x4100, 0x15, "CU_A1", .s32, .rwc, .per, "Q2.30", .num 0, .any, 8, 0, 16, 0⟩
def CU_A2 : Entry := ⟨0x4100, 0x16, "CU_A2", .s32, .rwc, .per, "Q2.30", .num 0, .any, 8, 0, 16, 0⟩
def CU_A3 : Entry := ⟨0x4100, 0x17, "CU_A3", .s32, .rwc, .per, "Q2.30", .num 0, .any, 8, 0, 16, 0⟩
def CU_SHIFT : Entry := ⟨0x4100, 0x18, "CU_SHIFT", .u8, .rwc, .per, "", .num 8, .between (0) (32), 8, 0, 16, 0⟩
def CU_EMAX : Entry := ⟨0x4100, 0x19, "CU_EMAX", .u32, .rwc, .per, "loop unit", .num 100000, .between (1) (2000000000), 8, 0, 16, 0⟩
def CU_SAT_MAX : Entry := ⟨0x4100, 0x1A, "CU_SAT_MAX", .u16, .rwc, .per, "periods", .num 1000, .between (1) (65535), 8, 0, 16, 0⟩
def CU_STATE : Entry := ⟨0x4100, 0x1B, "CU_STATE", .enum8, .ro, .vol, "", .num 4, .between 0 4, 8, 0, 16, 0⟩
def CU_WRAPS : Entry := ⟨0x4100, 0x1C, "CU_WRAPS", .u32, .ro, .per, "", .num 0, .any, 8, 0, 16, 0⟩
def CU_SNAPSHOT : Entry := ⟨0x4100, 0x1D, "CU_SNAPSHOT", .octets, .ro, .vol, "", .bytes [], .length 30 30, 8, 0, 16, 0⟩
def CU_OUT : Entry := ⟨0x4100, 0x1E, "CU_OUT", .s32, .ro, .vol, "", .num 0, .any, 8, 0, 16, 0⟩

/-! Table 7-7 (07_setpoints_modes_droop.md) -/
def SP_MODE_CMD : Entry := ⟨0x4200, 0x01, "SP_MODE_CMD", .enum8, .wo, .vol, "", .num 0, .between 0 4, 1, 0, 0, 0⟩
def SP_MODE : Entry := ⟨0x4200, 0x02, "SP_MODE", .enum8, .ro, .mir, "", .num 0, .between 0 4, 1, 0, 0, 0⟩
def SP_STATE : Entry := ⟨0x4200, 0x03, "SP_STATE", .enum8, .ro, .vol, "", .num 0, .between 0 5, 1, 0, 0, 0⟩
def SP_STATUS : Entry := ⟨0x4200, 0x04, "SP_STATUS", .u16, .ro, .vol, "", .num 0, .any, 1, 0, 0, 0⟩
def SP_SOURCE : Entry := ⟨0x4200, 0x05, "SP_SOURCE", .enum8, .rwc, .per, "", .num 0, .between 0 2, 1, 0, 0, 0⟩
def SP_V_SET : Entry := ⟨0x4200, 0x06, "SP_V_SET", .s32, .rw, .mir, "mV", .num 800000, .between (400000) (1600000), 1, 0, 0, 0⟩
def SP_I_SET : Entry := ⟨0x4200, 0x07, "SP_I_SET", .s32, .rw, .mir, "mA", .num 0, .between (-2000000) (2000000), 1, 0, 0, 0⟩
def SP_P_SET : Entry := ⟨0x4200, 0x08, "SP_P_SET", .s32, .rw, .mir, "W", .num 0, .between (-3000000) (3000000), 1, 0, 0, 0⟩
def SP_R_LL : Entry := ⟨0x4200, 0x09, "SP_R_LL", .u32, .rw, .mir, "0.01 mΩ", .num 1000, .between (0) (100000), 1, 0, 0, 0⟩
def SP_DV_MAX : Entry := ⟨0x4200, 0x0A, "SP_DV_MAX", .u32, .rw, .per, "mV/ms", .num 10000, .between (1) (1000000), 1, 0, 0, 0⟩
def SP_DI_MAX : Entry := ⟨0x4200, 0x0B, "SP_DI_MAX", .u32, .rw, .per, "mA/ms", .num 100000, .between (1) (10000000), 1, 0, 0, 0⟩
def SP_DIR_DWELL : Entry := ⟨0x4200, 0x0C, "SP_DIR_DWELL", .u8, .rw, .per, "periods", .num 4, .between (2) (64), 1, 0, 0, 0⟩
def SP_DIR_HYST : Entry := ⟨0x4200, 0x0D, "SP_DIR_HYST", .u32, .rw, .per, "mA", .num 0, .between (0) (100000), 1, 0, 0, 0⟩
def SP_LL_TAU : Entry := ⟨0x4200, 0x0E, "SP_LL_TAU", .u32, .rw, .per, "µs", .num 1000, .between (0) (100000), 1, 0, 0, 0⟩
def SP_START_RULE : Entry := ⟨0x4200, 0x0F, "SP_START_RULE", .enum8, .rwi, .per, "", .num 0, .between 0 2, 1, 0, 0, 0⟩
def SP_START_DUTY : Entry := ⟨0x4200, 0x10, "SP_START_DUTY", .u16, .rwi, .per, "1/65,536", .num 32768, .any, 1, 0, 0, 0⟩
def SP_RAMP_VALUE : Entry := ⟨0x4200, 0x11, "SP_RAMP_VALUE", .s32, .ro, .vol, "mode unit", .num 0, .any, 1, 0, 0, 0⟩
def SP_I_REF : Entry := ⟨0x4200, 0x12, "SP_I_REF", .s32, .ro, .vol, "mA", .num 0, .any, 1, 0, 0, 0⟩
def SP_V_REF : Entry := ⟨0x4200, 0x13, "SP_V_REF", .s32, .ro, .vol, "mV", .num 0, .any, 1, 0, 0, 0⟩
def SP_I_BUS : Entry := ⟨0x4200, 0x14, "SP_I_BUS", .s32, .ro, .vol, "mA", .num 0, .any, 1, 0, 0, 0⟩

/-! Table 7-8 (07_setpoints_modes_droop.md) -/
def SP_AI_MODE : Entry := ⟨0x4200, 0x20, "SP_AI_MODE", .enum8, .rwi, .per, "", .num 1, .between 0 1, 1, 0, 0, 0⟩
def SP_AI_GAIN : Entry := ⟨0x4200, 0x21, "SP_AI_GAIN", .s32, .rw, .per, "mode unit", .num 0, .any, 1, 0, 0, 0⟩
def SP_AI_OFFSET : Entry := ⟨0x4200, 0x22, "SP_AI_OFFSET", .s32, .rw, .per, "mode unit", .num 0, .any, 1, 0, 0, 0⟩
def SP_AI_FILT : Entry := ⟨0x4200, 0x23, "SP_AI_FILT", .u32, .rw, .per, "µs", .num 1000, .between (0) (1000000), 1, 0, 0, 0⟩
def SP_AI_LOS_ACT : Entry := ⟨0x4200, 0x24, "SP_AI_LOS_ACT", .enum8, .rw, .per, "", .num 2, .between 0 2, 1, 0, 0, 0⟩
def SP_AI_LOS_VALUE : Entry := ⟨0x4200, 0x25, "SP_AI_LOS_VALUE", .s32, .rw, .per, "mode unit", .num 0, .any, 1, 0, 0, 0⟩
def SP_AI_X : Entry := ⟨0x4200, 0x26, "SP_AI_X", .s32, .ro, .vol, "1/65,536", .num 0, .any, 1, 0, 0, 0⟩
def SP_PI_MODE : Entry := ⟨0x4200, 0x28, "SP_PI_MODE", .enum8, .rwi, .per, "", .num 0, .between 0 1, 1, 0, 0, 0⟩
def SP_PI_F0 : Entry := ⟨0x4200, 0x29, "SP_PI_F0", .u32, .rw, .per, "Hz", .num 10000, .between (1) (200000), 1, 0, 0, 0⟩
def SP_PI_F1 : Entry := ⟨0x4200, 0x2A, "SP_PI_F1", .u32, .rw, .per, "Hz", .num 20000, .between (1) (200000), 1, 0, 0, 0⟩
def SP_PI_GAIN : Entry := ⟨0x4200, 0x2B, "SP_PI_GAIN", .s32, .rw, .per, "mode unit", .num 0, .any, 1, 0, 0, 0⟩
def SP_PI_OFFSET : Entry := ⟨0x4200, 0x2C, "SP_PI_OFFSET", .s32, .rw, .per, "mode unit", .num 0, .any, 1, 0, 0, 0⟩
def SP_PI_FILT : Entry := ⟨0x4200, 0x2D, "SP_PI_FILT", .u32, .rw, .per, "µs", .num 1000, .between (0) (1000000), 1, 0, 0, 0⟩
def SP_PI_LOS_ACT : Entry := ⟨0x4200, 0x2E, "SP_PI_LOS_ACT", .enum8, .rw, .per, "", .num 2, .between 0 2, 1, 0, 0, 0⟩
def SP_PI_LOS_VALUE : Entry := ⟨0x4200, 0x2F, "SP_PI_LOS_VALUE", .s32, .rw, .per, "mode unit", .num 0, .any, 1, 0, 0, 0⟩
def SP_PI_X : Entry := ⟨0x4200, 0x30, "SP_PI_X", .s32, .ro, .vol, "1/65,536", .num 0, .any, 1, 0, 0, 0⟩
def SP_LOS_TIME : Entry := ⟨0x4200, 0x31, "SP_LOS_TIME", .u16, .rw, .per, "ms", .num 10, .between (1) (2000), 1, 0, 0, 0⟩
def SP_SHED_EN : Entry := ⟨0x4200, 0x38, "SP_SHED_EN", .bool, .rw, .per, "", .num 1, .between 0 1, 1, 0, 0, 0⟩
def SP_SHED_ADD : Entry := ⟨0x4200, 0x39, "SP_SHED_ADD", .u16, .rw, .per, "0.1 %", .num 800, .between (100) (1000), 1, 0, 0, 0⟩
def SP_SHED_DELAY : Entry := ⟨0x4200, 0x3A, "SP_SHED_DELAY", .u16, .rw, .per, "ms", .num 20, .between (1) (10000), 1, 0, 0, 0⟩
def SP_SHED_HOLD : Entry := ⟨0x4200, 0x3B, "SP_SHED_HOLD", .u16, .rw, .per, "ms", .num 50, .between (10) (1000), 1, 0, 0, 0⟩
def SP_LSTEP : Entry := ⟨0x4200, 0x3C, "SP_LSTEP", .u16, .rw, .per, "0.1 %", .num 200, .between (10) (1000), 1, 0, 0, 0⟩
def SP_PHASE_MIN : Entry := ⟨0x4200, 0x3D, "SP_PHASE_MIN", .u8, .rw, .per, "", .num 1, .between 1 12, 1, 0, 0, 0⟩
def SP_PHASES_ON : Entry := ⟨0x4200, 0x3E, "SP_PHASES_ON", .u8, .ro, .vol, "", .num 0, .between (0) (12), 1, 0, 0, 0⟩
def SP_LOAD_STEPS : Entry := ⟨0x4200, 0x3F, "SP_LOAD_STEPS", .u32, .ro, .per, "", .num 0, .any, 1, 0, 0, 0⟩

/-! Table 8-5 (08_protection_and_dispatch.md) -/
def PROT_OV_WARN : Entry := ⟨0x5000, 0x01, "PROT_OV_WARN", .u16, .rwc, .per, "100 µV", .num 36000, .between (10000) (50000), 1, 0, 0, 0⟩
def PROT_OV_LIMIT : Entry := ⟨0x5000, 0x02, "PROT_OV_LIMIT", .u16, .rwc, .per, "100 µV", .num 36500, .between (10000) (50000), 1, 0, 0, 0⟩
def PROT_OV_TRIP : Entry := ⟨0x5000, 0x03, "PROT_OV_TRIP", .u16, .rwc, .per, "100 µV", .num 37000, .between (10000) (50000), 1, 0, 0, 0⟩
def PROT_UV_WARN : Entry := ⟨0x5000, 0x04, "PROT_UV_WARN", .u16, .rwc, .per, "100 µV", .num 27000, .between (5000) (40000), 1, 0, 0, 0⟩
def PROT_UV_LIMIT : Entry := ⟨0x5000, 0x05, "PROT_UV_LIMIT", .u16, .rwc, .per, "100 µV", .num 25000, .between (5000) (40000), 1, 0, 0, 0⟩
def PROT_UV_TRIP : Entry := ⟨0x5000, 0x06, "PROT_UV_TRIP", .u16, .rwc, .per, "100 µV", .num 23000, .between (5000) (40000), 1, 0, 0, 0⟩
def PROT_V_WARN_T : Entry := ⟨0x5000, 0x07, "PROT_V_WARN_T", .u16, .rwc, .per, "ms", .num 1000, .between (10) (60000), 1, 0, 0, 0⟩
def PROT_V_TRIP_T : Entry := ⟨0x5000, 0x08, "PROT_V_TRIP_T", .u16, .rwc, .per, "ms", .num 500, .between (0) (10000), 1, 0, 0, 0⟩
def PROT_OT_WARN : Entry := ⟨0x5000, 0x09, "PROT_OT_WARN", .s16, .rwc, .per, "0.1 °C", .num 500, .between (0) (900), 1, 0, 0, 0⟩
def PROT_OT_LIMIT : Entry := ⟨0x5000, 0x0A, "PROT_OT_LIMIT", .s16, .rwc, .per, "0.1 °C", .num 550, .between (0) (900), 1, 0, 0, 0⟩
def PROT_OT_TRIP : Entry := ⟨0x5000, 0x0B, "PROT_OT_TRIP", .s16, .rwc, .per, "0.1 °C", .num 600, .between (0) (900), 1, 0, 0, 0⟩
def PROT_T_TRIP_T : Entry := ⟨0x5000, 0x0C, "PROT_T_TRIP_T", .u16, .rwc, .per, "ms", .num 2000, .between (0) (60000), 1, 0, 0, 0⟩
def PROT_TD_START : Entry := ⟨0x5000, 0x0D, "PROT_TD_START", .s16, .rwc, .per, "0.1 °C", .num 450, .any, 1, 0, 0, 0⟩
def PROT_T_CHG_MIN : Entry := ⟨0x5000, 0x0E, "PROT_T_CHG_MIN", .s16, .rwc, .per, "0.1 °C", .num 0, .between (-400) (400), 1, 0, 0, 0⟩
def PROT_T_CHG_FULL : Entry := ⟨0x5000, 0x0F, "PROT_T_CHG_FULL", .s16, .rwc, .per, "0.1 °C", .num 100, .any, 1, 0, 0, 0⟩
def PROT_OC_DIS_WARN : Entry := ⟨0x5000, 0x10, "PROT_OC_DIS_WARN", .u32, .rwc, .per, "mA", .num 500000, .between (1000) (4000000), 1, 0, 0, 0⟩
def PROT_OC_DIS_TRIP : Entry := ⟨0x5000, 0x11, "PROT_OC_DIS_TRIP", .u32, .rwc, .per, "mA", .num 650000, .between (1000) (4000000), 1, 0, 0, 0⟩
def PROT_OC_CHG_WARN : Entry := ⟨0x5000, 0x12, "PROT_OC_CHG_WARN", .u32, .rwc, .per, "mA", .num 400000, .between (1000) (4000000), 1, 0, 0, 0⟩
def PROT_OC_CHG_TRIP : Entry := ⟨0x5000, 0x13, "PROT_OC_CHG_TRIP", .u32, .rwc, .per, "mA", .num 550000, .between (1000) (4000000), 1, 0, 0, 0⟩
def PROT_OC_TRIP_T : Entry := ⟨0x5000, 0x14, "PROT_OC_TRIP_T", .u16, .rwc, .per, "ms", .num 10, .between (1) (1000), 1, 0, 0, 0⟩
def PROT_XCHK_ABS : Entry := ⟨0x5000, 0x15, "PROT_XCHK_ABS", .u32, .rw, .per, "mA", .num 5000, .between (100) (100000), 1, 0, 0, 0⟩
def PROT_XCHK_REL : Entry := ⟨0x5000, 0x16, "PROT_XCHK_REL", .u16, .rw, .per, "0.1 %", .num 30, .between (0) (500), 1, 0, 0, 0⟩
def PROT_XCHK_T : Entry := ⟨0x5000, 0x17, "PROT_XCHK_T", .u16, .rw, .per, "ms", .num 100, .between (10) (10000), 1, 0, 0, 0⟩
def PROT_XCHK_I : Entry := ⟨0x5000, 0x18, "PROT_XCHK_I", .u32, .rw, .per, "mA", .num 50000, .between (0) (4000000), 1, 0, 0, 0⟩
def PROT_SILENCE_T : Entry := ⟨0x5000, 0x19, "PROT_SILENCE_T", .u16, .rwc, .per, "ms", .num 300, .between (40) (2000), 1, 0, 0, 0⟩
def PROT_FAULT_TRIP_T : Entry := ⟨0x5000, 0x1A, "PROT_FAULT_TRIP_T", .u16, .rwc, .per, "ms", .num 2000, .between (100) (60000), 1, 0, 0, 0⟩
def PROT_WELD_I : Entry := ⟨0x5000, 0x1B, "PROT_WELD_I", .u32, .rw, .per, "mA", .num 2000, .between (100) (100000), 1, 0, 0, 0⟩
def PROT_WELD_V : Entry := ⟨0x5000, 0x1C, "PROT_WELD_V", .s32, .rw, .per, "mV", .num 50000, .between (5000) (200000), 1, 0, 0, 0⟩
def PROT_WELD_T : Entry := ⟨0x5000, 0x1D, "PROT_WELD_T", .u16, .rw, .per, "ms", .num 100, .between (10) (5000), 1, 0, 0, 0⟩
def PROT_I_DIS_MAX : Entry := ⟨0x5000, 0x1E, "PROT_I_DIS_MAX", .u32, .rwc, .per, "mA", .num 600000, .between (0) (4000000), 1, 0, 0, 0⟩
def PROT_I_CHG_MAX : Entry := ⟨0x5000, 0x1F, "PROT_I_CHG_MAX", .u32, .rwc, .per, "mA", .num 500000, .between (0) (4000000), 1, 0, 0, 0⟩
def PROT_R_FALLBACK : Entry := ⟨0x5000, 0x20, "PROT_R_FALLBACK", .u32, .rw, .per, "µΩ", .num 1000, .between (10) (100000), 1, 0, 0, 0⟩
def PROT_SOC_MIN : Entry := ⟨0x5000, 0x21, "PROT_SOC_MIN", .u16, .rw, .per, "0.01 %", .num 500, .between (0) (5000), 1, 0, 0, 0⟩
def PROT_SOC_MAX : Entry := ⟨0x5000, 0x22, "PROT_SOC_MAX", .u16, .rw, .per, "0.01 %", .num 9500, .between (5000) (10000), 1, 0, 0, 0⟩
def PROT_SOC_TAPER : Entry := ⟨0x5000, 0x23, "PROT_SOC_TAPER", .u16, .rw, .per, "0.01 %", .num 1000, .between (1) (5000), 1, 0, 0, 0⟩
def PROT_SOP_RISE : Entry := ⟨0x5000, 0x24, "PROT_SOP_RISE", .u32, .rw, .per, "mA/frame", .num 10000, .between (1) (4000000), 1, 0, 0, 0⟩
def PROT_SQ_POS : Entry := ⟨0x5000, 0x25, "PROT_SQ_POS", .u8, .rwi, .per, "", .num 0, .between (0) (3), 1, 0, 0, 0⟩
def PROT_SQ_NEG : Entry := ⟨0x5000, 0x26, "PROT_SQ_NEG", .u8, .rwi, .per, "", .num 1, .between (0) (3), 1, 0, 0, 0⟩
def PROT_SQ_PRE : Entry := ⟨0x5000, 0x27, "PROT_SQ_PRE", .u8, .rwi, .per, "", .num 2, .between (0) (3), 1, 0, 0, 0⟩
def PROT_AUX_POS : Entry := ⟨0x5000, 0x28, "PROT_AUX_POS", .u8, .rwi, .per, "", .num 255, .orVal 255 (0) (30), 1, 0, 0, 0⟩
def PROT_AUX_NEG : Entry := ⟨0x5000, 0x29, "PROT_AUX_NEG", .u8, .rwi, .per, "", .num 255, .orVal 255 (0) (30), 1, 0, 0, 0⟩
def PROT_AUX_PRE : Entry := ⟨0x5000, 0x2A, "PROT_AUX_PRE", .u8, .rwi, .per, "", .num 255, .orVal 255 (0) (30), 1, 0, 0, 0⟩
def PROT_K_CLOSE_T : Entry := ⟨0x5000, 0x2B, "PROT_K_CLOSE_T", .u16, .rwi, .per, "ms", .num 50, .between (10) (1000), 1, 0, 0, 0⟩
def PROT_K_OPEN_T : Entry := ⟨0x5000, 0x2C, "PROT_K_OPEN_T", .u16, .rwi, .per, "ms", .num 30, .between (10) (1000), 1, 0, 0, 0⟩
def PROT_PRE_TIMEOUT : Entry := ⟨0x5000, 0x2D, "PROT_PRE_TIMEOUT", .u16, .rwi, .per, "ms", .num 5000, .between (1000) (30000), 1, 0, 0, 0⟩
def PROT_PRE_TOL : Entry := ⟨0x5000, 0x2E, "PROT_PRE_TOL", .u16, .rwi, .per, "0.1 %", .num 20, .between (5) (100), 1, 0, 0, 0⟩
def PROT_OPEN_I : Entry := ⟨0x5000, 0x2F, "PROT_OPEN_I", .u32, .rw, .per, "mA", .num 5000, .between (100) (100000), 1, 0, 0, 0⟩
def PROT_OPEN_WAIT : Entry := ⟨0x5000, 0x30, "PROT_OPEN_WAIT", .u16, .rw, .per, "ms", .num 500, .between (10) (5000), 1, 0, 0, 0⟩
def PROT_DISCH_WAIT : Entry := ⟨0x5000, 0x31, "PROT_DISCH_WAIT", .u16, .rwi, .per, "ms", .num 2000, .between (0) (60000), 1, 0, 0, 0⟩
def PROT_EMERGENCY_OPEN : Entry := ⟨0x5000, 0x32, "PROT_EMERGENCY_OPEN", .bool, .wo, .vol, "", .num 0, .between 0 1, 1, 0, 0, 0⟩
def PROT_TRIP_RESET : Entry := ⟨0x5000, 0x33, "PROT_TRIP_RESET", .bool, .wo, .vol, "", .num 0, .between 0 1, 1, 0, 0, 0⟩
def PROT_STATE : Entry := ⟨0x5000, 0x40, "PROT_STATE", .enum8, .ro, .mir, "", .num 0, .between 0 3, 1, 0, 0, 0⟩
def PROT_CAUSE : Entry := ⟨0x5000, 0x41, "PROT_CAUSE", .u16, .ro, .mir, "", .num 0, .any, 1, 0, 0, 0⟩
def PROT_SEQ : Entry := ⟨0x5000, 0x42, "PROT_SEQ", .enum8, .ro, .mir, "", .num 0, .between 0 3, 1, 0, 0, 0⟩
def PROT_SEQ_STEP : Entry := ⟨0x5000, 0x43, "PROT_SEQ_STEP", .u8, .ro, .mir, "", .num 0, .any, 1, 0, 0, 0⟩
def PROT_SEQ_RESULT : Entry := ⟨0x5000, 0x44, "PROT_SEQ_RESULT", .enum8, .ro, .mir, "", .num 0, .between 0 4, 1, 0, 0, 0⟩
def PROT_SEQ_RESUMED : Entry := ⟨0x5000, 0x45, "PROT_SEQ_RESUMED", .bool, .ro, .mir, "", .num 0, .between 0 1, 1, 0, 0, 0⟩
def PROT_SEQ_JSEQ : Entry := ⟨0x5000, 0x46, "PROT_SEQ_JSEQ", .u64, .ro, .mir, "", .num 0, .any, 1, 0, 0, 0⟩
def PROT_COILS : Entry := ⟨0x5000, 0x47, "PROT_COILS", .u8, .ro, .vol, "", .num 0, .any, 1, 0, 0, 0⟩
def PROT_BREAKS : Entry := ⟨0x5000, 0x48, "PROT_BREAKS", .u32, .ro, .per, "", .num 0, .any, 1, 0, 0, 0⟩
def PROT_K_OPS : Entry := ⟨0x5000, 0x49, "PROT_K_OPS", .u32, .ro, .per, "", .num 0, .any, 1, 0, 0, 0⟩
def PROT_TM_T0 : Entry := ⟨0x5000, 0x50, "PROT_TM_T0", .s16, .rw, .per, "0.1 °C", .num 200, .any, 1, 0, 0, 0⟩
def PROT_TM_T1 : Entry := ⟨0x5000, 0x51, "PROT_TM_T1", .s16, .rw, .per, "0.1 °C", .num 300, .any, 1, 0, 0, 0⟩
def PROT_TM_T2 : Entry := ⟨0x5000, 0x52, "PROT_TM_T2", .s16, .rw, .per, "0.1 °C", .num 400, .any, 1, 0, 0, 0⟩
def PROT_TM_T3 : Entry := ⟨0x5000, 0x53, "PROT_TM_T3", .s16, .rw, .per, "0.1 °C", .num 500, .any, 1, 0, 0, 0⟩
def PROT_TM_D0 : Entry := ⟨0x5000, 0x54, "PROT_TM_D0", .u16, .rw, .per, "0.1 %", .num 0, .between (0) (1000), 1, 0, 0, 0⟩
def PROT_TM_D1 : Entry := ⟨0x5000, 0x55, "PROT_TM_D1", .u16, .rw, .per, "0.1 %", .num 300, .between (0) (1000), 1, 0, 0, 0⟩
def PROT_TM_D2 : Entry := ⟨0x5000, 0x56, "PROT_TM_D2", .u16, .rw, .per, "0.1 %", .num 700, .between (0) (1000), 1, 0, 0, 0⟩
def PROT_TM_D3 : Entry := ⟨0x5000, 0x57, "PROT_TM_D3", .u16, .rw, .per, "0.1 %", .num 1000, .between (0) (1000), 1, 0, 0, 0⟩
def PROT_TM_DQ : Entry := ⟨0x5000, 0x58, "PROT_TM_DQ", .u16, .rw, .per, "", .num 0, .any, 1, 0, 0, 0⟩
def PROT_TM_ON : Entry := ⟨0x5000, 0x59, "PROT_TM_ON", .u16, .rw, .per, "0.1 %", .num 300, .between (0) (1000), 1, 0, 0, 0⟩
def PROT_TM_OFF : Entry := ⟨0x5000, 0x5A, "PROT_TM_OFF", .u16, .rw, .per, "0.1 %", .num 200, .between 0 1000, 1, 0, 0, 0⟩
def PROT_TM_DEMAND : Entry := ⟨0x5000, 0x5B, "PROT_TM_DEMAND", .u16, .ro, .vol, "0.1 %", .num 1000, .any, 1, 0, 0, 0⟩

/-! Table 8-6 (08_protection_and_dispatch.md) -/
def DSP_P_REQ : Entry := ⟨0x5000, 0x60, "DSP_P_REQ", .s32, .rw, .vol, "W", .num 0, .between (-3000000) (3000000), 1, 0, 0, 0⟩
def DSP_I_REQ : Entry := ⟨0x5000, 0x61, "DSP_I_REQ", .s32, .rw, .vol, "mA", .num 0, .between (-2000000) (2000000), 1, 0, 0, 0⟩
def DSP_P_GRANT : Entry := ⟨0x5000, 0x62, "DSP_P_GRANT", .s32, .ro, .vol, "W", .num 0, .any, 1, 0, 0, 0⟩
def DSP_I_GRANT : Entry := ⟨0x5000, 0x63, "DSP_I_GRANT", .s32, .ro, .vol, "mA", .num 0, .any, 1, 0, 0, 0⟩
def DSP_TIMEOUT : Entry := ⟨0x5000, 0x64, "DSP_TIMEOUT", .u16, .rw, .per, "ms", .num 0, .zeroOr 10 60000, 1, 0, 0, 0⟩
def DSP_TIMEOUT_ACT : Entry := ⟨0x5000, 0x65, "DSP_TIMEOUT_ACT", .enum8, .rw, .per, "", .num 1, .between 0 2, 1, 0, 0, 0⟩
def DSP_I_DIS_LIM : Entry := ⟨0x5000, 0x66, "DSP_I_DIS_LIM", .u32, .ro, .vol, "mA", .num 0, .any, 1, 0, 0, 0⟩
def DSP_I_CHG_LIM : Entry := ⟨0x5000, 0x67, "DSP_I_CHG_LIM", .u32, .ro, .vol, "mA", .num 0, .any, 1, 0, 0, 0⟩
def DSP_P_DIS_AVAIL : Entry := ⟨0x5000, 0x68, "DSP_P_DIS_AVAIL", .s32, .ro, .vol, "W", .num 0, .any, 1, 0, 0, 0⟩
def DSP_P_CHG_AVAIL : Entry := ⟨0x5000, 0x69, "DSP_P_CHG_AVAIL", .s32, .ro, .vol, "W", .num 0, .any, 1, 0, 0, 0⟩
def DSP_E_DIS_AVAIL : Entry := ⟨0x5000, 0x6A, "DSP_E_DIS_AVAIL", .u32, .ro, .vol, "Wh", .num 0, .any, 1, 0, 0, 0⟩
def DSP_E_CHG_AVAIL : Entry := ⟨0x5000, 0x6B, "DSP_E_CHG_AVAIL", .u32, .ro, .vol, "Wh", .num 0, .any, 1, 0, 0, 0⟩
def DSP_REST_REQ : Entry := ⟨0x5000, 0x6C, "DSP_REST_REQ", .u16, .ro, .vol, "min", .num 0, .any, 1, 0, 0, 0⟩
def DSP_REST_GRANT : Entry := ⟨0x5000, 0x6D, "DSP_REST_GRANT", .u16, .wo, .vol, "min", .num 0, .between (0) (240), 1, 0, 0, 0⟩
def DSP_REST_REMAIN : Entry := ⟨0x5000, 0x6E, "DSP_REST_REMAIN", .u16, .ro, .vol, "min", .num 0, .any, 1, 0, 0, 0⟩

/-! Table 9-12 (09_safety_functions.md) -/
def SAF_STATE : Entry := ⟨0x5800, 0x01, "SAF_STATE", .enum8, .ro, .vol, "", .num 0, .between 0 4, 1, 0, 0, 0⟩
def SAF_ADDR : Entry := ⟨0x5800, 0x02, "SAF_ADDR", .u8, .ro, .vol, "", .num 0, .any, 1, 0, 0, 0⟩
def SAF_DIP : Entry := ⟨0x5800, 0x03, "SAF_DIP", .u8, .ro, .vol, "", .num 0, .any, 1, 0, 0, 0⟩
def SAF_LAN_MODE : Entry := ⟨0x5800, 0x04, "SAF_LAN_MODE", .enum8, .ro, .vol, "", .num 0, .between 0 1, 1, 0, 0, 0⟩
def SAF_DEMAND : Entry := ⟨0x5800, 0x05, "SAF_DEMAND", .u8, .ro, .vol, "", .num 0, .any, 1, 0, 0, 0⟩
def SAF_LATCH_CAUSE : Entry := ⟨0x5800, 0x06, "SAF_LATCH_CAUSE", .u16, .ro, .per, "", .num 0, .any, 1, 0, 0, 0⟩
def SAF_PARAM_CRC : Entry := ⟨0x5800, 0x07, "SAF_PARAM_CRC", .u32, .ro, .vol, "", .num 0, .any, 1, 0, 0, 0⟩
def SAF_SEAL : Entry := ⟨0x5800, 0x08, "SAF_SEAL", .u32, .saf, .per, "", .num 0, .any, 1, 0, 0, 0⟩
def SAF_IS_EN : Entry := ⟨0x5800, 0x09, "SAF_IS_EN", .bool, .saf, .per, "", .num 1, .between 0 1, 1, 0, 0, 0⟩
def SAF_CONN_CMD : Entry := ⟨0x5800, 0x0A, "SAF_CONN_CMD", .u32, .saf, .per, "", .num 0, .between 0 4294967295, 1, 0, 0, 0⟩
def SAF_CONN_STAT : Entry := ⟨0x5800, 0x0B, "SAF_CONN_STAT", .u32, .saf, .per, "", .num 0, .between 0 4294967295, 1, 0, 0, 0⟩
def SAF_PEER_ADDR : Entry := ⟨0x5800, 0x0C, "SAF_PEER_ADDR", .u8, .saf, .per, "", .num 1, .between (1) (254), 1, 0, 0, 0⟩
def SAF_WD : Entry := ⟨0x5800, 0x0D, "SAF_WD", .u16, .saf, .per, "ms", .num 100, .between (10) (1000), 1, 0, 0, 0⟩
def SAF_OV_LEVEL : Entry := ⟨0x5800, 0x0E, "SAF_OV_LEVEL", .u16, .saf, .per, "100 µV", .num 37500, .between (10000) (50000), 1, 0, 0, 0⟩
def SAF_UV_LEVEL : Entry := ⟨0x5800, 0x0F, "SAF_UV_LEVEL", .u16, .saf, .per, "100 µV", .num 22000, .between (5000) (40000), 1, 0, 0, 0⟩
def SAF_OT_LEVEL : Entry := ⟨0x5800, 0x10, "SAF_OT_LEVEL", .s16, .saf, .per, "0.1 °C", .num 650, .between (0) (1000), 1, 0, 0, 0⟩
def SAF_OC_DIS : Entry := ⟨0x5800, 0x11, "SAF_OC_DIS", .u32, .saf, .per, "mA", .num 700000, .between (1000) (4000000), 1, 0, 0, 0⟩
def SAF_OC_CHG : Entry := ⟨0x5800, 0x12, "SAF_OC_CHG", .u32, .saf, .per, "mA", .num 600000, .between (1000) (4000000), 1, 0, 0, 0⟩
def SAF_OC_T : Entry := ⟨0x5800, 0x13, "SAF_OC_T", .u32, .saf, .per, "µs", .num 2000, .between (250) (100000), 1, 0, 0, 0⟩
def SAF_SILENCE_T : Entry := ⟨0x5800, 0x14, "SAF_SILENCE_T", .u16, .saf, .per, "ms", .num 300, .between (40) (2000), 1, 0, 0, 0⟩
def SAF_Q_MASK : Entry := ⟨0x5800, 0x15, "SAF_Q_MASK", .u8, .saf, .per, "", .num 15, .between 1 15, 1, 0, 0, 0⟩
def SAF_Q_FILTER : Entry := ⟨0x5800, 0x16, "SAF_Q_FILTER", .enum8, .saf, .per, "", .num 1, .between 0 2, 1, 0, 0, 0⟩
def SAF_START_RESET : Entry := ⟨0x5800, 0x17, "SAF_START_RESET", .bool, .saf, .per, "", .num 1, .between 0 1, 1, 0, 0, 0⟩
def SAF_PST_IS : Entry := ⟨0x5800, 0x18, "SAF_PST_IS", .u16, .saf, .per, "ms", .num 0, .between 0 60000, 1, 0, 0, 0⟩
def SAF_PST_OV : Entry := ⟨0x5800, 0x19, "SAF_PST_OV", .u16, .saf, .per, "ms", .num 0, .between 0 60000, 1, 0, 0, 0⟩
def SAF_PST_UV : Entry := ⟨0x5800, 0x1A, "SAF_PST_UV", .u16, .saf, .per, "ms", .num 0, .between 0 60000, 1, 0, 0, 0⟩
def SAF_PST_OT : Entry := ⟨0x5800, 0x1B, "SAF_PST_OT", .u16, .saf, .per, "ms", .num 0, .between 0 60000, 1, 0, 0, 0⟩
def SAF_PST_OC : Entry := ⟨0x5800, 0x1C, "SAF_PST_OC", .u16, .saf, .per, "ms", .num 0, .between 0 60000, 1, 0, 0, 0⟩
def SAF_PST_MS : Entry := ⟨0x5800, 0x1D, "SAF_PST_MS", .u16, .saf, .per, "ms", .num 0, .between 0 60000, 1, 0, 0, 0⟩
def SAF_TR_IS : Entry := ⟨0x5800, 0x20, "SAF_TR_IS", .u16, .ro, .vol, "ms", .num 0, .any, 1, 0, 0, 0⟩
def SAF_TR_OV : Entry := ⟨0x5800, 0x21, "SAF_TR_OV", .u16, .ro, .vol, "ms", .num 0, .any, 1, 0, 0, 0⟩
def SAF_TR_UV : Entry := ⟨0x5800, 0x22, "SAF_TR_UV", .u16, .ro, .vol, "ms", .num 0, .any, 1, 0, 0, 0⟩
def SAF_TR_OT : Entry := ⟨0x5800, 0x23, "SAF_TR_OT", .u16, .ro, .vol, "ms", .num 0, .any, 1, 0, 0, 0⟩
def SAF_TR_OC : Entry := ⟨0x5800, 0x24, "SAF_TR_OC", .u16, .ro, .vol, "ms", .num 0, .any, 1, 0, 0, 0⟩
def SAF_TR_MS : Entry := ⟨0x5800, 0x25, "SAF_TR_MS", .u16, .ro, .vol, "ms", .num 0, .any, 1, 0, 0, 0⟩
def SAF_RESET_LAST : Entry := ⟨0x5800, 0x26, "SAF_RESET_LAST", .enum8, .ro, .vol, "", .num 0, .between 0 5, 1, 0, 0, 0⟩
def SAF_RESET_COUNT : Entry := ⟨0x5800, 0x27, "SAF_RESET_COUNT", .u32, .ro, .per, "", .num 0, .any, 1, 0, 0, 0⟩
def SAF_FRAMES_OK : Entry := ⟨0x5800, 0x28, "SAF_FRAMES_OK", .u32, .ro, .per, "", .num 0, .any, 1, 0, 0, 0⟩
def SAF_FRAMES_BAD : Entry := ⟨0x5800, 0x29, "SAF_FRAMES_BAD", .u32, .ro, .per, "", .num 0, .any, 1, 0, 0, 0⟩
def SAF_COPY_MISMATCH : Entry := ⟨0x5800, 0x2A, "SAF_COPY_MISMATCH", .u32, .ro, .per, "", .num 0, .any, 1, 0, 0, 0⟩
def SAF_SINGLE_COPY : Entry := ⟨0x5800, 0x2B, "SAF_SINGLE_COPY", .u32, .ro, .per, "", .num 0, .any, 1, 0, 0, 0⟩
def SAF_WD_EXPIRED : Entry := ⟨0x5800, 0x2C, "SAF_WD_EXPIRED", .u32, .ro, .per, "", .num 0, .any, 1, 0, 0, 0⟩

/-! Table 10-12 (10_object_dictionary.md) -/
def SYS_VENDOR : Entry := ⟨0x1000, 0x01, "SYS_VENDOR", .str, .ro, .per, "", .bytes [], .length 0 255, 1, 0, 0, 0⟩
def SYS_PRODUCT : Entry := ⟨0x1000, 0x02, "SYS_PRODUCT", .str, .ro, .per, "", .bytes [], .length 0 255, 1, 0, 0, 0⟩
def SYS_HW_ISSUE : Entry := ⟨0x1000, 0x03, "SYS_HW_ISSUE", .u16, .ro, .per, "", .num 0, .any, 1, 0, 0, 0⟩
def SYS_SERIAL : Entry := ⟨0x1000, 0x04, "SYS_SERIAL", .str, .ro, .per, "", .bytes [], .length 12 12, 1, 0, 0, 0⟩
def SYS_FW_PACKAGE : Entry := ⟨0x1000, 0x05, "SYS_FW_PACKAGE", .u32, .ro, .per, "", .num 0, .any, 1, 0, 0, 0⟩
def SYS_DICT_VERSION : Entry := ⟨0x1000, 0x06, "SYS_DICT_VERSION", .u16, .ro, .per, "", .num 256, .any, 1, 0, 0, 0⟩
def SYS_PLANT_ADDR : Entry := ⟨0x1000, 0x10, "SYS_PLANT_ADDR", .u16, .ro, .vol, "", .num 0, .between (0) (511), 1, 0, 0, 0⟩
def SYS_CHASSIS : Entry := ⟨0x1000, 0x11, "SYS_CHASSIS", .u8, .ro, .vol, "", .num 0, .between (0) (31), 1, 0, 0, 0⟩
def SYS_SLOT : Entry := ⟨0x1000, 0x12, "SYS_SLOT", .u8, .ro, .vol, "", .num 0, .between (0) (15), 1, 0, 0, 0⟩
def SYS_TIER : Entry := ⟨0x1000, 0x20, "SYS_TIER", .enum8, .ro, .vol, "", .num 0, .between 0 3, 1, 0, 0, 0⟩

/-! Table 10-13 (10_object_dictionary.md) -/
def TIME_NOW : Entry := ⟨0x1100, 0x01, "TIME_NOW", .time64, .ro, .vol, "", .num 0, .any, 1, 0, 0, 0⟩
def TIME_OP_SECONDS : Entry := ⟨0x1100, 0x02, "TIME_OP_SECONDS", .u32, .ro, .per, "s", .num 0, .any, 1, 0, 0, 0⟩
def TIME_POWER_CYCLES : Entry := ⟨0x1100, 0x03, "TIME_POWER_CYCLES", .u32, .ro, .per, "", .num 0, .any, 1, 0, 0, 0⟩
def TIME_UPTIME : Entry := ⟨0x1100, 0x04, "TIME_UPTIME", .u32, .ro, .vol, "s", .num 0, .any, 1, 0, 0, 0⟩
def TIME_FRAME_CTR : Entry := ⟨0x1100, 0x05, "TIME_FRAME_CTR", .u64, .ro, .vol, "frames", .num 0, .any, 1, 0, 0, 0⟩

/-! Table 10-14 (10_object_dictionary.md) -/
def SES_IDLE_T : Entry := ⟨0x1200, 0x01, "SES_IDLE_T", .u16, .rw, .per, "s", .num 300, .between (10) (3600), 1, 0, 0, 0⟩
def SES_GAP_T : Entry := ⟨0x1200, 0x02, "SES_GAP_T", .u16, .rw, .per, "ms", .num 500, .between (50) (5000), 1, 0, 0, 0⟩
def SES_CAN_CHANNEL : Entry := ⟨0x1200, 0x03, "SES_CAN_CHANNEL", .enum8, .rwi, .per, "", .num 0, .between 0 2, 1, 0, 0, 0⟩
def SES_CAN_REQ_ID : Entry := ⟨0x1200, 0x04, "SES_CAN_REQ_ID", .u32, .rwi, .per, "", .num 1536, .between (0) (536870911), 1, 0, 0, 0⟩
def SES_CAN_RSP_ID : Entry := ⟨0x1200, 0x05, "SES_CAN_RSP_ID", .u32, .rwi, .per, "", .num 1408, .between (0) (536870911), 1, 0, 0, 0⟩
def SES_COUNT : Entry := ⟨0x1200, 0x10, "SES_COUNT", .u8, .ro, .vol, "", .num 0, .between (0) (65), 1, 0, 0, 0⟩
def SES_TABLE : Entry := ⟨0x1200, 0x11, "SES_TABLE", .octets, .ro, .vol, "", .bytes [], .length 1040 1040, 1, 0, 0, 0⟩
def SES_JSEQ : Entry := ⟨0x1200, 0x12, "SES_JSEQ", .u64, .ro, .per, "", .num 0, .any, 1, 0, 0, 0⟩
def SES_JOURNAL_FREE : Entry := ⟨0x1200, 0x13, "SES_JOURNAL_FREE", .u32, .ro, .vol, "bytes", .num 4194304, .between (0) (4194304), 1, 0, 0, 0⟩
def SES_IDLE_PEND : Entry := ⟨0x1200, 0x14, "SES_IDLE_PEND", .u8, .ro, .vol, "", .num 0, .between (0) (8), 1, 0, 0, 0⟩
def SES_IDLE_LAST : Entry := ⟨0x1200, 0x15, "SES_IDLE_LAST", .u8, .ro, .per, "", .num 0, .any, 1, 0, 0, 0⟩
def SES_IDLE_ENTRY : Entry := ⟨0x1200, 0x16, "SES_IDLE_ENTRY", .u32, .ro, .per, "", .num 0, .any, 1, 0, 0, 0⟩
def SES_GAPS : Entry := ⟨0x1200, 0x17, "SES_GAPS", .u32, .ro, .per, "", .num 0, .any, 1, 0, 0, 0⟩
def SES_REPLAYS : Entry := ⟨0x1200, 0x18, "SES_REPLAYS", .u32, .ro, .per, "", .num 0, .any, 1, 0, 0, 0⟩
def SES_CRC_ERR : Entry := ⟨0x1200, 0x19, "SES_CRC_ERR", .u32, .ro, .per, "", .num 0, .any, 1, 0, 0, 0⟩

/-! Table 11-3 (11_plant_network_and_time.md) -/
def NET_MAC : Entry := ⟨0x2300, 0x01, "NET_MAC", .octets, .ro, .per, "", .bytes [], .length 6 6, 1, 0, 0, 0⟩
def NET_IP_MODE : Entry := ⟨0x2300, 0x02, "NET_IP_MODE", .enum8, .rwc, .per, "", .num 0, .between 0 2, 1, 0, 0, 0⟩
def NET_IP : Entry := ⟨0x2300, 0x03, "NET_IP", .u32, .rwc, .per, "", .num 0, .any, 1, 0, 0, 0⟩
def NET_MASK : Entry := ⟨0x2300, 0x04, "NET_MASK", .u32, .rwc, .per, "", .num 4294966272, .any, 1, 0, 0, 0⟩
def NET_GW : Entry := ⟨0x2300, 0x05, "NET_GW", .u32, .rwc, .per, "", .num 0, .any, 1, 0, 0, 0⟩
def NET_IP_ACTIVE : Entry := ⟨0x2300, 0x06, "NET_IP_ACTIVE", .u32, .ro, .vol, "", .num 0, .any, 1, 0, 0, 0⟩
def NET_VLAN : Entry := ⟨0x2300, 0x07, "NET_VLAN", .u16, .rwc, .per, "", .num 0, .between 0 4094, 1, 0, 0, 0⟩
def NET_PCP_SAF : Entry := ⟨0x2300, 0x08, "NET_PCP_SAF", .u8, .rw, .per, "", .num 6, .between (0) (7), 1, 0, 0, 0⟩
def NET_PCP_OAP : Entry := ⟨0x2300, 0x09, "NET_PCP_OAP", .u8, .rw, .per, "", .num 4, .between (0) (7), 1, 0, 0, 0⟩
def NET_SVC_IP : Entry := ⟨0x2300, 0x0A, "NET_SVC_IP", .u32, .rwc, .per, "", .num 0, .any, 1, 0, 0, 0⟩
def NET_SVC_MAC : Entry := ⟨0x2300, 0x0B, "NET_SVC_MAC", .octets, .ro, .vol, "", .bytes [], .length 6 6, 1, 0, 0, 0⟩
def NET_SAF_PEER_IP : Entry := ⟨0x2300, 0x0C, "NET_SAF_PEER_IP", .u32, .rwc, .per, "", .num 0, .any, 1, 0, 0, 0⟩
def NET_FWD_EN : Entry := ⟨0x2300, 0x0D, "NET_FWD_EN", .u8, .rwc, .per, "", .num 3, .between 0 3, 1, 0, 0, 0⟩
def NET_FDB_AGE : Entry := ⟨0x2300, 0x0E, "NET_FDB_AGE", .u16, .rw, .per, "s", .num 300, .between (10) (3600), 1, 0, 0, 0⟩
def NET_BC_LIMIT : Entry := ⟨0x2300, 0x0F, "NET_BC_LIMIT", .u16, .rw, .per, "frames/ms", .num 20, .between (1) (1000), 1, 0, 0, 0⟩
def NET_LAN_SILENT_T : Entry := ⟨0x2300, 0x10, "NET_LAN_SILENT_T", .u16, .rw, .per, "ms", .num 6000, .between (100) (60000), 1, 0, 0, 0⟩
def NET_LINK : Entry := ⟨0x2300, 0x20, "NET_LINK", .u8, .ro, .vol, "", .num 0, .any, 1, 0, 0, 0⟩
def NET_LAN_STATE : Entry := ⟨0x2300, 0x21, "NET_LAN_STATE", .u8, .ro, .vol, "", .num 0, .any, 1, 0, 0, 0⟩
def NET_PORT_STATS : Entry := ⟨0x2300, 0x22, "NET_PORT_STATS", .octets, .ro, .vol, "", .bytes [], .length 64 64, 1, 0, 0, 0⟩
def NET_PRP_STATS : Entry := ⟨0x2300, 0x23, "NET_PRP_STATS", .octets, .ro, .vol, "", .bytes [], .length 32 32, 1, 0, 0, 0⟩
def NET_DROP_NOBUF : Entry := ⟨0x2300, 0x24, "NET_DROP_NOBUF", .u32, .ro, .per, "", .num 0, .any, 1, 0, 0, 0⟩
def NET_CELLS_FREE : Entry := ⟨0x2300, 0x25, "NET_CELLS_FREE", .u16, .ro, .vol, "", .num 4096, .between (0) (4096), 1, 0, 0, 0⟩
def NET_DHCP_LEASE : Entry := ⟨0x2300, 0x26, "NET_DHCP_LEASE", .u32, .ro, .vol, "s", .num 0, .any, 1, 0, 0, 0⟩

/-! Table 11-4 (11_plant_network_and_time.md) -/
def PTP_DOMAIN_P : Entry := ⟨0x2300, 0x40, "PTP_DOMAIN_P", .u8, .rwc, .per, "", .num 0, .between (0) (127), 1, 0, 0, 0⟩
def PTP_DOMAIN_S : Entry := ⟨0x2300, 0x41, "PTP_DOMAIN_S", .u8, .rwc, .per, "", .num 1, .between (0) (127), 1, 0, 0, 0⟩
def PTP_ENABLE : Entry := ⟨0x2300, 0x42, "PTP_ENABLE", .bool, .rwc, .per, "", .num 1, .between 0 1, 1, 0, 0, 0⟩
def PTP_GM_QUAL_T : Entry := ⟨0x2300, 0x43, "PTP_GM_QUAL_T", .u16, .rw, .per, "s", .num 10, .between (0) (600), 1, 0, 0, 0⟩
def PTP_REVERT_T : Entry := ⟨0x2300, 0x44, "PTP_REVERT_T", .u16, .rw, .per, "s", .num 60, .between 0 3600, 1, 0, 0, 0⟩
def PTP_CLASS_MAX : Entry := ⟨0x2300, 0x45, "PTP_CLASS_MAX", .u8, .rw, .per, "", .num 7, .between (6) (248), 1, 0, 0, 0⟩
def PTP_LOCK_NS : Entry := ⟨0x2300, 0x46, "PTP_LOCK_NS", .u32, .rw, .per, "ns", .num 1000, .between (50) (100000), 1, 0, 0, 0⟩
def PTP_SLEW_MAX : Entry := ⟨0x2300, 0x47, "PTP_SLEW_MAX", .u16, .rw, .per, "ppb", .num 10000, .between (1000) (10000), 1, 0, 0, 0⟩
def PTP_HOLDOVER_T : Entry := ⟨0x2300, 0x48, "PTP_HOLDOVER_T", .u32, .rw, .per, "s", .num 3600, .between (10) (86400), 1, 0, 0, 0⟩
def PTP_DOM_DIS : Entry := ⟨0x2300, 0x49, "PTP_DOM_DIS", .u32, .rw, .per, "ns", .num 1000, .between (50) (1000000), 1, 0, 0, 0⟩
def PTP_LAN_DIS : Entry := ⟨0x2300, 0x4A, "PTP_LAN_DIS", .u32, .rw, .per, "ns", .num 200, .between (50) (100000), 1, 0, 0, 0⟩
def PTP_LINK_DELAY_MAX : Entry := ⟨0x2300, 0x4B, "PTP_LINK_DELAY_MAX", .u32, .rw, .per, "ns", .num 1000, .between (10) (100000), 1, 0, 0, 0⟩
def PTP_ASYM : Entry := ⟨0x2300, 0x4C, "PTP_ASYM", .octets, .rw, .per, "", .bytes (List.replicate 16 0), .length 16 16, 1, 0, 0, 0⟩
def PTP_STATE : Entry := ⟨0x2300, 0x60, "PTP_STATE", .enum8, .ro, .vol, "", .num 0, .between 0 3, 1, 0, 0, 0⟩
def PTP_REF : Entry := ⟨0x2300, 0x61, "PTP_REF", .enum8, .ro, .vol, "", .num 255, .orVal 255 0 3, 1, 0, 0, 0⟩
def PTP_OFFSET : Entry := ⟨0x2300, 0x62, "PTP_OFFSET", .s32, .ro, .vol, "ns", .num 0, .any, 1, 0, 0, 0⟩
def PTP_FREQ : Entry := ⟨0x2300, 0x63, "PTP_FREQ", .s32, .ro, .vol, "ppb", .num 0, .any, 1, 0, 0, 0⟩
def PTP_GM_P : Entry := ⟨0x2300, 0x64, "PTP_GM_P", .u64, .ro, .vol, "", .num 0, .any, 1, 0, 0, 0⟩
def PTP_GM_S : Entry := ⟨0x2300, 0x65, "PTP_GM_S", .u64, .ro, .vol, "", .num 0, .any, 1, 0, 0, 0⟩
def PTP_INST_STATE : Entry := ⟨0x2300, 0x66, "PTP_INST_STATE", .u16, .ro, .vol, "", .num 0, .any, 1, 0, 0, 0⟩
def PTP_LINK_DELAY : Entry := ⟨0x2300, 0x67, "PTP_LINK_DELAY", .octets, .ro, .vol, "", .bytes [], .length 16 16, 1, 0, 0, 0⟩
def PTP_UTC_OFFSET : Entry := ⟨0x2300, 0x68, "PTP_UTC_OFFSET", .s16, .ro, .vol, "s", .num 0, .any, 1, 0, 0, 0⟩
def PTP_DOM_OFFSET : Entry := ⟨0x2300, 0x69, "PTP_DOM_OFFSET", .s32, .ro, .vol, "ns", .num 0, .any, 1, 0, 0, 0⟩
def PTP_HOLDOVER_S : Entry := ⟨0x2300, 0x6A, "PTP_HOLDOVER_S", .u32, .ro, .vol, "s", .num 0, .any, 1, 0, 0, 0⟩
def PTP_STEP_MS : Entry := ⟨0x2300, 0x6B, "PTP_STEP_MS", .s32, .ro, .vol, "ms", .num 0, .any, 1, 0, 0, 0⟩
def PTP_REF_CHANGES : Entry := ⟨0x2300, 0x6C, "PTP_REF_CHANGES", .u32, .ro, .per, "", .num 0, .any, 1, 0, 0, 0⟩

/-! Table 12-5 (12_message_bus.md) -/
def CAN_ENABLE : Entry := ⟨0x2200, 0x01, "CAN_ENABLE", .enum8, .rwi, .per, "", .num 0, .between 0 2, 2, 0, 64, 1⟩
def CAN_FD : Entry := ⟨0x2200, 0x02, "CAN_FD", .bool, .rwi, .per, "", .num 1, .between 0 1, 2, 0, 64, 1⟩
def CAN_NBR : Entry := ⟨0x2200, 0x03, "CAN_NBR", .u32, .rwi, .per, "bit/s", .num 500000, .between 125000 1000000, 2, 0, 64, 1⟩
def CAN_NSP : Entry := ⟨0x2200, 0x04, "CAN_NSP", .u16, .rwi, .per, "0.1 %", .num 875, .between (500) (900), 2, 0, 64, 1⟩
def CAN_NSJW : Entry := ⟨0x2200, 0x05, "CAN_NSJW", .u8, .rwi, .per, "tq", .num 10, .between (1) (64), 2, 0, 64, 1⟩
def CAN_DBR : Entry := ⟨0x2200, 0x06, "CAN_DBR", .u32, .rwi, .per, "bit/s", .num 2000000, .between 500000 5000000, 2, 0, 64, 1⟩
def CAN_DSP : Entry := ⟨0x2200, 0x07, "CAN_DSP", .u16, .rwi, .per, "0.1 %", .num 750, .between (500) (900), 2, 0, 64, 1⟩
def CAN_DSJW : Entry := ⟨0x2200, 0x08, "CAN_DSJW", .u8, .rwi, .per, "tq", .num 10, .between (1) (16), 2, 0, 64, 1⟩
def CAN_TERM : Entry := ⟨0x2200, 0x09, "CAN_TERM", .bool, .rw, .per, "", .num 0, .between 0 1, 2, 0, 64, 1⟩
def CAN_RECOVERY : Entry := ⟨0x2200, 0x0A, "CAN_RECOVERY", .enum8, .rw, .per, "", .num 0, .between 0 1, 2, 0, 64, 1⟩
def CAN_RECOVERY_DELAY : Entry := ⟨0x2200, 0x0B, "CAN_RECOVERY_DELAY", .u16, .rw, .per, "ms", .num 1000, .between (0) (60000), 2, 0, 64, 1⟩
def CAN_WAKE_MODE : Entry := ⟨0x2200, 0x0C, "CAN_WAKE_MODE", .enum8, .rw, .per, "", .num 0, .between 0 1, 2, 0, 64, 1⟩
def CAN_WAKE_FILT : Entry := ⟨0x2200, 0x0D, "CAN_WAKE_FILT", .u16, .rw, .per, "ns", .num 2000, .between (1000) (5000), 2, 0, 64, 1⟩
def CAN_WAKE_ID : Entry := ⟨0x2200, 0x0E, "CAN_WAKE_ID", .u32, .rw, .per, "", .num 0, .any, 2, 0, 64, 1⟩
def CAN_WAKE_ID_MASK : Entry := ⟨0x2200, 0x0F, "CAN_WAKE_ID_MASK", .u32, .rw, .per, "", .num 536870911, .between (0) (536870911), 2, 0, 64, 1⟩
def CAN_WAKE_DATA_MASK : Entry := ⟨0x2200, 0x10, "CAN_WAKE_DATA_MASK", .u64, .rw, .per, "", .num 0, .any, 2, 0, 64, 1⟩
def CAN_WAKE_DLC : Entry := ⟨0x2200, 0x11, "CAN_WAKE_DLC", .u8, .rw, .per, "", .num 8, .between (0) (8), 2, 0, 64, 1⟩
def CAN_MB_CFG : Entry := ⟨0x2200, 0x12, "CAN_MB_CFG", .octets, .rwc, .per, "", .bytes (List.replicate 256 0), .length 256 256, 2, 0, 64, 1⟩
def CAN_FILTERS : Entry := ⟨0x2200, 0x13, "CAN_FILTERS", .octets, .rwc, .per, "", .bytes (List.replicate 768 0), .length 768 768, 2, 0, 64, 1⟩
def CAN_TX : Entry := ⟨0x2200, 0x14, "CAN_TX", .octets, .wo, .vol, "", .bytes [], .length 6 70, 2, 0, 64, 1⟩
def CAN_RECOVER : Entry := ⟨0x2200, 0x15, "CAN_RECOVER", .bool, .wo, .vol, "", .num 0, .between 0 1, 2, 0, 64, 1⟩
def CAN_SLEEP : Entry := ⟨0x2200, 0x16, "CAN_SLEEP", .bool, .wo, .vol, "", .num 0, .between 0 1, 2, 0, 64, 1⟩
def CAN_STATE : Entry := ⟨0x2200, 0x20, "CAN_STATE", .enum8, .ro, .vol, "", .num 0, .between 0 6, 2, 0, 64, 1⟩
def CAN_TEC : Entry := ⟨0x2200, 0x21, "CAN_TEC", .u16, .ro, .vol, "", .num 0, .between (0) (256), 2, 0, 64, 1⟩
def CAN_REC : Entry := ⟨0x2200, 0x22, "CAN_REC", .u16, .ro, .vol, "", .num 0, .between (0) (255), 2, 0, 64, 1⟩
def CAN_MB_IMAGE : Entry := ⟨0x2200, 0x23, "CAN_MB_IMAGE", .octets, .ro, .vol, "", .bytes [], .length 5120 5120, 2, 0, 64, 1⟩
def CAN_ND_MAP : Entry := ⟨0x2200, 0x24, "CAN_ND_MAP", .u64, .ro, .vol, "", .num 0, .any, 2, 0, 64, 1⟩
def CAN_STATS : Entry := ⟨0x2200, 0x25, "CAN_STATS", .octets, .ro, .per, "", .bytes [], .length 32 32, 2, 0, 64, 1⟩
def CAN_LAST_ERROR : Entry := ⟨0x2200, 0x26, "CAN_LAST_ERROR", .enum8, .ro, .vol, "", .num 0, .between 0 6, 2, 0, 64, 1⟩
def CAN_WAKE_CAUSE : Entry := ⟨0x2200, 0x27, "CAN_WAKE_CAUSE", .enum8, .ro, .vol, "", .num 0, .between 0 4, 2, 0, 64, 1⟩

/-! Table 12-6 (12_message_bus.md) -/
def CAN_TM_CHANNEL : Entry := ⟨0x2200, 0x80, "CAN_TM_CHANNEL", .enum8, .rwc, .per, "", .num 0, .between 0 2, 1, 0, 0, 0⟩
def CAN_TM_ID : Entry := ⟨0x2200, 0x81, "CAN_TM_ID", .u32, .rwc, .per, "", .num 848, .between (0) (536870911), 1, 0, 0, 0⟩
def CAN_TM_PERIOD : Entry := ⟨0x2200, 0x82, "CAN_TM_PERIOD", .u16, .rw, .per, "ms", .num 1000, .between (10) (10000), 1, 0, 0, 0⟩

/-! Table 13-7 (13_field_io.md) -/
def DIO_DI_TYPE : Entry := ⟨0x2100, 0x01, "DIO_DI_TYPE", .u8, .rwi, .per, "", .num 0, .between 0 15, 1, 0, 0, 0⟩
def DIO_DI_MODE : Entry := ⟨0x2100, 0x02, "DIO_DI_MODE", .u8, .rwc, .per, "", .num 0, .between 0 15, 1, 0, 0, 0⟩
def DIO_DI_INTERVAL : Entry := ⟨0x2100, 0x03, "DIO_DI_INTERVAL", .octets, .rwc, .per, "µs", .bytes (List.replicate 4 [0, 100]).flatten, .length 8 8, 1, 0, 0, 0⟩
def DIO_DI_DEBOUNCE : Entry := ⟨0x2100, 0x04, "DIO_DI_DEBOUNCE", .octets, .rwc, .per, "µs", .bytes (List.replicate 32 [3, 232]).flatten, .length 64 64, 1, 0, 0, 0⟩
def DIO_DI_OW_EN : Entry := ⟨0x2100, 0x05, "DIO_DI_OW_EN", .u32, .rwc, .per, "", .num 0, .any, 1, 0, 0, 0⟩
def DIO_DI_INVERT : Entry := ⟨0x2100, 0x06, "DIO_DI_INVERT", .u32, .rw, .per, "", .num 0, .any, 1, 0, 0, 0⟩
def DIO_DI_STATE : Entry := ⟨0x2100, 0x10, "DIO_DI_STATE", .u32, .ro, .vol, "", .num 0, .any, 1, 0, 0, 0⟩
def DIO_DI_VALID : Entry := ⟨0x2100, 0x11, "DIO_DI_VALID", .u32, .ro, .vol, "", .num 0, .any, 1, 0, 0, 0⟩
def DIO_DI_RAW : Entry := ⟨0x2100, 0x12, "DIO_DI_RAW", .u32, .ro, .vol, "", .num 0, .any, 1, 0, 0, 0⟩
def DIO_DI_DIAG : Entry := ⟨0x2100, 0x13, "DIO_DI_DIAG", .octets, .ro, .vol, "", .bytes [], .length 32 32, 1, 0, 0, 0⟩
def DIO_DQ_CMD : Entry := ⟨0x2100, 0x20, "DIO_DQ_CMD", .u16, .rw, .vol, "", .num 0, .any, 1, 0, 0, 0⟩
def DIO_DQ_GROUPING : Entry := ⟨0x2100, 0x21, "DIO_DQ_GROUPING", .u8, .rwi, .per, "", .num 0, .any, 1, 0, 0, 0⟩
def DIO_DQ_CLASS : Entry := ⟨0x2100, 0x22, "DIO_DQ_CLASS", .u16, .rw, .per, "", .num 0, .any, 1, 0, 0, 0⟩
def DIO_DQ_OL_EN : Entry := ⟨0x2100, 0x23, "DIO_DQ_OL_EN", .u16, .rw, .per, "", .num 65535, .any, 1, 0, 0, 0⟩
def DIO_DQ_RETRY : Entry := ⟨0x2100, 0x24, "DIO_DQ_RETRY", .u16, .wo, .vol, "", .num 0, .any, 1, 0, 0, 0⟩
def DIO_DQ_STATE : Entry := ⟨0x2100, 0x28, "DIO_DQ_STATE", .u16, .ro, .vol, "", .num 0, .any, 1, 0, 0, 0⟩
def DIO_DQ_DIAG : Entry := ⟨0x2100, 0x29, "DIO_DQ_DIAG", .octets, .ro, .vol, "", .bytes [], .length 16 16, 1, 0, 0, 0⟩
def DIO_DQ_CURRENT : Entry := ⟨0x2100, 0x2A, "DIO_DQ_CURRENT", .octets, .ro, .vol, "mA", .bytes [], .length 32 32, 1, 0, 0, 0⟩
def DIO_SQ_CMD : Entry := ⟨0x2100, 0x30, "DIO_SQ_CMD", .u8, .rw, .vol, "", .num 0, .between 0 15, 1, 0, 0, 0⟩
def DIO_SQ_CLASS : Entry := ⟨0x2100, 0x31, "DIO_SQ_CLASS", .u8, .rw, .per, "", .num 15, .between 0 15, 1, 0, 0, 0⟩
def DIO_SQ_TP_INT : Entry := ⟨0x2100, 0x32, "DIO_SQ_TP_INT", .u16, .rw, .per, "s", .num 10, .between (1) (60), 1, 0, 0, 0⟩
def DIO_SQ_TP_LEN : Entry := ⟨0x2100, 0x33, "DIO_SQ_TP_LEN", .u16, .rw, .per, "µs", .num 300, .between (100) (400), 1, 0, 0, 0⟩
def DIO_SQ_STATE : Entry := ⟨0x2100, 0x38, "DIO_SQ_STATE", .u8, .ro, .vol, "", .num 0, .any, 1, 0, 0, 0⟩
def DIO_SQ_DIAG : Entry := ⟨0x2100, 0x39, "DIO_SQ_DIAG", .octets, .ro, .vol, "", .bytes [], .length 4 4, 1, 0, 0, 0⟩
def DIO_SQ_CURRENT : Entry := ⟨0x2100, 0x3A, "DIO_SQ_CURRENT", .octets, .ro, .vol, "mA", .bytes [], .length 8 8, 1, 0, 0, 0⟩
def DIO_SQ_TESTS : Entry := ⟨0x2100, 0x3B, "DIO_SQ_TESTS", .u32, .ro, .per, "", .num 0, .any, 1, 0, 0, 0⟩
def DIO_VF : Entry := ⟨0x2100, 0x40, "DIO_VF", .s32, .ro, .vol, "mV", .num 0, .any, 1, 0, 0, 0⟩
def DIO_VF_STATE : Entry := ⟨0x2100, 0x41, "DIO_VF_STATE", .enum8, .ro, .vol, "", .num 0, .between 0 5, 1, 0, 0, 0⟩
def DIO_GROUP_FENCED : Entry := ⟨0x2100, 0x42, "DIO_GROUP_FENCED", .u16, .ro, .vol, "", .num 0, .any, 1, 0, 0, 0⟩

/-! Table 14-10 (14_startup_and_service_tiers.md) -/
def SYS_RESET_CAUSE : Entry := ⟨0x1000, 0x21, "SYS_RESET_CAUSE", .enum8, .ro, .per, "", .num 0, .between 0 8, 1, 0, 0, 0⟩
def SYS_RESET_TIME : Entry := ⟨0x1000, 0x22, "SYS_RESET_TIME", .time64, .ro, .per, "", .num 0, .any, 1, 0, 0, 0⟩
def SYS_RESET_COUNT : Entry := ⟨0x1000, 0x23, "SYS_RESET_COUNT", .u32, .ro, .per, "", .num 0, .any, 1, 0, 0, 0⟩
def SYS_TIER_TIMES : Entry := ⟨0x1000, 0x24, "SYS_TIER_TIMES", .octets, .ro, .vol, "ms", .bytes [], .length 16 16, 1, 0, 0, 0⟩
def SYS_TIER_BLOCK : Entry := ⟨0x1000, 0x25, "SYS_TIER_BLOCK", .u16, .ro, .vol, "", .num 0, .any, 1, 0, 0, 0⟩
def SYS_SELFTEST : Entry := ⟨0x1000, 0x26, "SYS_SELFTEST", .u16, .ro, .vol, "", .num 0, .any, 1, 0, 0, 0⟩
def SYS_RESET_CMD : Entry := ⟨0x1000, 0x27, "SYS_RESET_CMD", .bool, .wo, .vol, "", .num 0, .between 0 1, 1, 0, 0, 0⟩
def SYS_SELFTEST_REQ : Entry := ⟨0x1000, 0x28, "SYS_SELFTEST_REQ", .enum8, .wo, .vol, "", .num 0, .between 1 3, 1, 0, 0, 0⟩
def SYS_CAL_INT : Entry := ⟨0x1000, 0x29, "SYS_CAL_INT", .u16, .rw, .per, "s", .num 3600, .between (60) (65535), 1, 0, 0, 0⟩
def SYS_CAL_LAST : Entry := ⟨0x1000, 0x2A, "SYS_CAL_LAST", .time64, .ro, .vol, "", .num 0, .any, 1, 0, 0, 0⟩
def SYS_HIB_EN : Entry := ⟨0x1000, 0x2B, "SYS_HIB_EN", .bool, .rw, .per, "", .num 1, .between 0 1, 1, 0, 0, 0⟩
def SYS_HIB_STATE : Entry := ⟨0x1000, 0x2C, "SYS_HIB_STATE", .enum8, .ro, .vol, "", .num 0, .between 0 1, 1, 0, 0, 0⟩
def SYS_BOOT_BANK : Entry := ⟨0x1000, 0x2D, "SYS_BOOT_BANK", .enum8, .ro, .vol, "", .num 0, .between 0 1, 1, 0, 0, 0⟩

/-! Table 15-9 (15_pair_operation.md) -/
def PAIR_ENABLE : Entry := ⟨0x2000, 0x01, "PAIR_ENABLE", .bool, .rwi, .per, "", .num 0, .between 0 1, 1, 0, 0, 0⟩
def PAIR_WIT_IP : Entry := ⟨0x2000, 0x02, "PAIR_WIT_IP", .u32, .rwc, .per, "", .num 0, .any, 1, 0, 0, 0⟩
def PAIR_WIT_BUS : Entry := ⟨0x2000, 0x03, "PAIR_WIT_BUS", .bool, .rwc, .per, "", .num 1, .between 0 1, 1, 0, 0, 0⟩
def PAIR_WIT_SERVE : Entry := ⟨0x2000, 0x04, "PAIR_WIT_SERVE", .octets, .rwc, .per, "", .bytes (List.replicate 8 255), .length 8 8, 1, 0, 0, 0⟩
def PAIR_LEASE_T : Entry := ⟨0x2000, 0x05, "PAIR_LEASE_T", .u16, .rw, .per, "ms", .num 20, .between (10) (100), 1, 0, 0, 0⟩
def PAIR_MISS_MAX : Entry := ⟨0x2000, 0x06, "PAIR_MISS_MAX", .u8, .rw, .per, "frames", .num 3, .between (2) (10), 1, 0, 0, 0⟩
def PAIR_GRANT_WAIT : Entry := ⟨0x2000, 0x07, "PAIR_GRANT_WAIT", .u16, .rw, .per, "frames", .num 10, .between (5) (1000), 1, 0, 0, 0⟩
def PAIR_REJOIN_FRAMES : Entry := ⟨0x2000, 0x08, "PAIR_REJOIN_FRAMES", .u16, .rw, .per, "frames", .num 100, .between (10) (10000), 1, 0, 0, 0⟩
def PAIR_AUTO_REJOIN : Entry := ⟨0x2000, 0x09, "PAIR_AUTO_REJOIN", .bool, .rw, .per, "", .num 1, .between 0 1, 1, 0, 0, 0⟩
def PAIR_HANDOVER : Entry := ⟨0x2000, 0x0A, "PAIR_HANDOVER", .bool, .wo, .vol, "", .num 0, .between 0 1, 1, 0, 0, 0⟩
def PAIR_FORCE_ACTIVE : Entry := ⟨0x2000, 0x0B, "PAIR_FORCE_ACTIVE", .bool, .wo, .vol, "", .num 0, .between 0 1, 1, 0, 0, 0⟩
def PAIR_MODE : Entry := ⟨0x2000, 0x20, "PAIR_MODE", .enum8, .ro, .vol, "", .num 0, .between 0 1, 1, 0, 0, 0⟩
def PAIR_ID : Entry := ⟨0x2000, 0x21, "PAIR_ID", .u16, .ro, .vol, "", .num 0, .between (0) (255), 1, 0, 0, 0⟩
def PAIR_ROLE : Entry := ⟨0x2000, 0x22, "PAIR_ROLE", .enum8, .ro, .vol, "", .num 0, .between 0 3, 1, 0, 0, 0⟩
def PAIR_PARTNER_ROLE : Entry := ⟨0x2000, 0x23, "PAIR_PARTNER_ROLE", .enum8, .ro, .vol, "", .num 255, .orVal 255 0 3, 1, 0, 0, 0⟩
def PAIR_EPOCH : Entry := ⟨0x2000, 0x24, "PAIR_EPOCH", .u16, .ro, .mir, "", .num 0, .between (0) (65535), 1, 0, 0, 0⟩
def PAIR_LEASE_STATE : Entry := ⟨0x2000, 0x25, "PAIR_LEASE_STATE", .enum8, .ro, .vol, "", .num 0, .between 0 3, 1, 0, 0, 0⟩
def PAIR_LEASE_LEFT : Entry := ⟨0x2000, 0x26, "PAIR_LEASE_LEFT", .u16, .ro, .vol, "ms", .num 0, .between (0) (100), 1, 0, 0, 0⟩
def PAIR_MIRROR_STATE : Entry := ⟨0x2000, 0x27, "PAIR_MIRROR_STATE", .u8, .ro, .vol, "", .num 0, .any, 1, 0, 0, 0⟩
def PAIR_WITNESS_SEEN : Entry := ⟨0x2000, 0x28, "PAIR_WITNESS_SEEN", .u8, .ro, .vol, "", .num 0, .any, 1, 0, 0, 0⟩
def PAIR_READY : Entry := ⟨0x2000, 0x29, "PAIR_READY", .bool, .ro, .vol, "", .num 0, .between 0 1, 1, 0, 0, 0⟩
def PAIR_LANE_HELD : Entry := ⟨0x2000, 0x2A, "PAIR_LANE_HELD", .bool, .ro, .vol, "", .num 0, .between 0 1, 1, 0, 0, 0⟩
def PAIR_FENCE : Entry := ⟨0x2000, 0x2B, "PAIR_FENCE", .u8, .ro, .vol, "", .num 0, .any, 1, 0, 0, 0⟩
def PAIR_FAILOVERS : Entry := ⟨0x2000, 0x2C, "PAIR_FAILOVERS", .u32, .ro, .per, "", .num 0, .any, 1, 0, 0, 0⟩
def PAIR_LAST_FAILOVER : Entry := ⟨0x2000, 0x2D, "PAIR_LAST_FAILOVER", .time64, .ro, .per, "", .num 0, .any, 1, 0, 0, 0⟩
def PAIR_LAST_GAP : Entry := ⟨0x2000, 0x2E, "PAIR_LAST_GAP", .u8, .ro, .per, "periods", .num 0, .any, 1, 0, 0, 0⟩
def PAIR_SERVED : Entry := ⟨0x2000, 0x2F, "PAIR_SERVED", .octets, .ro, .vol, "", .bytes [], .length 32 32, 1, 0, 0, 0⟩

/-! Table 16-5 (16_firmware_update.md) -/
def FW_DELTA : Entry := ⟨0x7800, 0x01, "FW_DELTA", .octets, .wo, .vol, "", .bytes [], .length 72 8388608, 1, 0, 0, 0⟩
def FW_APPLY : Entry := ⟨0x7800, 0x02, "FW_APPLY", .bool, .wo, .vol, "", .num 0, .between 0 1, 1, 0, 0, 0⟩
def FW_ACTIVATE : Entry := ⟨0x7800, 0x03, "FW_ACTIVATE", .enum8, .wo, .vol, "", .num 0, .between 1 2, 1, 0, 0, 0⟩
def FW_ABORT : Entry := ⟨0x7800, 0x04, "FW_ABORT", .bool, .wo, .vol, "", .num 0, .between 0 1, 1, 0, 0, 0⟩
def FW_HEALTH_MIN : Entry := ⟨0x7800, 0x05, "FW_HEALTH_MIN", .u16, .rw, .per, "frames", .num 100, .between (10) (900), 1, 0, 0, 0⟩
def FW_RECOVERY : Entry := ⟨0x7800, 0x06, "FW_RECOVERY", .octets, .wo, .vol, "", .bytes [], .length 4096 33554432, 1, 0, 0, 0⟩
def FW_STATE : Entry := ⟨0x7800, 0x20, "FW_STATE", .enum8, .ro, .vol, "", .num 0, .between 0 9, 1, 0, 0, 0⟩
def FW_BLOCK_NEXT : Entry := ⟨0x7800, 0x21, "FW_BLOCK_NEXT", .u16, .ro, .vol, "", .num 0, .between (0) (8192), 1, 0, 0, 0⟩
def FW_BLOCKS : Entry := ⟨0x7800, 0x22, "FW_BLOCKS", .u16, .ro, .vol, "", .num 0, .any, 1, 0, 0, 0⟩
def FW_TARGET_PKG : Entry := ⟨0x7800, 0x23, "FW_TARGET_PKG", .u32, .ro, .vol, "", .num 0, .any, 1, 0, 0, 0⟩
def FW_BANK_ACTIVE : Entry := ⟨0x7800, 0x24, "FW_BANK_ACTIVE", .enum8, .ro, .per, "", .num 0, .between 0 1, 1, 0, 0, 0⟩
def FW_BANK_PKG : Entry := ⟨0x7800, 0x25, "FW_BANK_PKG", .octets, .ro, .per, "", .bytes [], .length 8 8, 1, 0, 0, 0⟩
def FW_SCHEMA : Entry := ⟨0x7800, 0x26, "FW_SCHEMA", .u16, .ro, .vol, "", .num 0, .any, 1, 0, 0, 0⟩
def FW_RUNNING_PAIR : Entry := ⟨0x7800, 0x27, "FW_RUNNING_PAIR", .enum8, .ro, .vol, "", .num 0, .between 0 1, 1, 0, 0, 0⟩
def FW_PROBATION : Entry := ⟨0x7800, 0x28, "FW_PROBATION", .u16, .ro, .vol, "frames", .num 0, .between (0) (1000), 1, 0, 0, 0⟩
def FW_LAST_RESULT : Entry := ⟨0x7800, 0x29, "FW_LAST_RESULT", .enum8, .ro, .per, "", .num 0, .between 0 5, 1, 0, 0, 0⟩
def FW_ACTIVATIONS : Entry := ⟨0x7800, 0x2A, "FW_ACTIVATIONS", .u32, .ro, .per, "", .num 0, .any, 1, 0, 0, 0⟩

/-! Table 17-3 (17_memory_integrity.md) -/
def MEM_LAP_MAX_SRAM : Entry := ⟨0x7C00, 0x80, "MEM_LAP_MAX_SRAM", .u32, .rw, .per, "s", .num 60, .between (10) (3600), 1, 0, 0, 0⟩
def MEM_LAP_MAX_MRAM : Entry := ⟨0x7C00, 0x81, "MEM_LAP_MAX_MRAM", .u32, .rw, .per, "s", .num 3600, .between (600) (86400), 1, 0, 0, 0⟩
def MEM_LAP_MAX_FLASH : Entry := ⟨0x7C00, 0x82, "MEM_LAP_MAX_FLASH", .u32, .rw, .per, "s", .num 86400, .between (7200) (604800), 1, 0, 0, 0⟩
def MEM_CORR_WARN : Entry := ⟨0x7C00, 0x83, "MEM_CORR_WARN", .u16, .rw, .per, "per h", .num 100, .between (1) (65535), 1, 0, 0, 0⟩
def MEM_ROW_REPEAT : Entry := ⟨0x7C00, 0x84, "MEM_ROW_REPEAT", .u8, .rw, .per, "laps", .num 3, .between (2) (16), 1, 0, 0, 0⟩
def MEM_LAP_TIMES : Entry := ⟨0x7C00, 0x90, "MEM_LAP_TIMES", .octets, .ro, .vol, "s", .bytes [], .length 52 52, 1, 0, 0, 0⟩
def MEM_CORRECTED : Entry := ⟨0x7C00, 0x91, "MEM_CORRECTED", .octets, .ro, .per, "", .bytes [], .length 52 52, 1, 0, 0, 0⟩
def MEM_CHECKBIT : Entry := ⟨0x7C00, 0x92, "MEM_CHECKBIT", .octets, .ro, .per, "", .bytes [], .length 52 52, 1, 0, 0, 0⟩
def MEM_UNCORR : Entry := ⟨0x7C00, 0x93, "MEM_UNCORR", .octets, .ro, .per, "", .bytes [], .length 52 52, 1, 0, 0, 0⟩
def MEM_LAST_ERROR : Entry := ⟨0x7C00, 0x94, "MEM_LAST_ERROR", .octets, .ro, .per, "", .bytes [], .length 16 16, 1, 0, 0, 0⟩
def MEM_SPARES_FUSED : Entry := ⟨0x7C00, 0x95, "MEM_SPARES_FUSED", .u16, .ro, .vol, "rows", .num 0, .between (0) (768), 1, 0, 0, 0⟩
def MEM_SPARES_SOFT : Entry := ⟨0x7C00, 0x96, "MEM_SPARES_SOFT", .u16, .ro, .vol, "rows", .num 0, .between (0) (768), 1, 0, 0, 0⟩
def MEM_SPARES_PENDING : Entry := ⟨0x7C00, 0x97, "MEM_SPARES_PENDING", .u16, .ro, .vol, "rows", .num 0, .between (0) (768), 1, 0, 0, 0⟩
def MEM_SPARES_FREE : Entry := ⟨0x7C00, 0x98, "MEM_SPARES_FREE", .u16, .ro, .vol, "rows", .num 0, .between (0) (768), 1, 0, 0, 0⟩
def MEM_SOFT_MAP : Entry := ⟨0x7C00, 0x99, "MEM_SOFT_MAP", .octets, .ro, .per, "", .bytes [], .length 0 3072, 1, 0, 0, 0⟩

/-! Table 18-6 (18_lifetime_recorder.md) -/
def REC_COMMIT_INT : Entry := ⟨0x7000, 0x01, "REC_COMMIT_INT", .u16, .rw, .per, "s", .num 60, .between (10) (600), 1, 0, 0, 0⟩
def REC_HOLD : Entry := ⟨0x7000, 0x02, "REC_HOLD", .u16, .wo, .vol, "s", .num 0, .between 0 60, 1, 0, 0, 0⟩
def REC_DATA : Entry := ⟨0x7000, 0x10, "REC_DATA", .octets, .ro, .per, "", .bytes [], .length 181696 181696, 1, 0, 0, 0⟩
def REC_STATE : Entry := ⟨0x7000, 0x11, "REC_STATE", .enum8, .ro, .vol, "", .num 0, .between 0 3, 1, 0, 0, 0⟩
def REC_HOLD_LEFT : Entry := ⟨0x7000, 0x12, "REC_HOLD_LEFT", .u16, .ro, .vol, "s", .num 0, .between (0) (60), 1, 0, 0, 0⟩
def REC_HOLD_SES : Entry := ⟨0x7000, 0x13, "REC_HOLD_SES", .u32, .ro, .vol, "", .num 0, .any, 1, 0, 0, 0⟩
def REC_LAST_COMMIT : Entry := ⟨0x7000, 0x14, "REC_LAST_COMMIT", .u32, .ro, .per, "s", .num 0, .any, 1, 0, 0, 0⟩
def REC_INVALID : Entry := ⟨0x7000, 0x15, "REC_INVALID", .u16, .ro, .per, "", .num 0, .any, 1, 0, 0, 0⟩
def REC_SATURATED : Entry := ⟨0x7000, 0x16, "REC_SATURATED", .u16, .ro, .per, "", .num 0, .any, 1, 0, 0, 0⟩
def REC_LOST_S : Entry := ⟨0x7000, 0x17, "REC_LOST_S", .u32, .ro, .per, "s", .num 0, .any, 1, 0, 0, 0⟩
def REC_LAYOUT : Entry := ⟨0x7000, 0x18, "REC_LAYOUT", .u16, .ro, .per, "", .num 256, .any, 1, 0, 0, 0⟩

/-! Table 19-5 (19_supervision_and_freeze.md) -/
def SUP_DIE_TEMP : Entry := ⟨0x7C00, 0x01, "SUP_DIE_TEMP", .s16, .ro, .vol, "0.1 °C", .num 0, .between (-400) (1600), 1, 0, 0, 0⟩
def SUP_DIE_RATE : Entry := ⟨0x7C00, 0x02, "SUP_DIE_RATE", .s16, .ro, .vol, "0.01 K/s", .num 0, .any, 1, 0, 0, 0⟩
def SUP_DIE_STATE : Entry := ⟨0x7C00, 0x03, "SUP_DIE_STATE", .enum8, .ro, .vol, "", .num 0, .between 0 1, 1, 0, 0, 0⟩
def SUP_SHUTDOWNS : Entry := ⟨0x7C00, 0x04, "SUP_SHUTDOWNS", .u32, .ro, .per, "", .num 0, .any, 1, 0, 0, 0⟩
def SUP_LAST_SHUTDOWN : Entry := ⟨0x7C00, 0x05, "SUP_LAST_SHUTDOWN", .time64, .ro, .per, "", .num 0, .any, 1, 0, 0, 0⟩
def SUP_HOLDUP_E : Entry := ⟨0x7C00, 0x06, "SUP_HOLDUP_E", .u32, .ro, .vol, "mJ", .num 0, .any, 1, 0, 0, 0⟩
def SUP_HOLDUP_T : Entry := ⟨0x7C00, 0x07, "SUP_HOLDUP_T", .u32, .ro, .vol, "µs", .num 0, .any, 1, 0, 0, 0⟩
def SUP_HOLDUP_C : Entry := ⟨0x7C00, 0x08, "SUP_HOLDUP_C", .u32, .ro, .vol, "µF", .num 0, .any, 1, 0, 0, 0⟩
def SUP_VBP : Entry := ⟨0x7C00, 0x09, "SUP_VBP", .s32, .ro, .vol, "mV", .num 0, .any, 1, 0, 0, 0⟩
def SUP_VBP_STATE : Entry := ⟨0x7C00, 0x0A, "SUP_VBP_STATE", .enum8, .ro, .vol, "", .num 0, .between 0 2, 1, 0, 0, 0⟩
def SUP_FENCED : Entry := ⟨0x7C00, 0x0B, "SUP_FENCED", .u16, .ro, .vol, "", .num 0, .any, 1, 0, 0, 0⟩
def SUP_FENCE_CAUSE : Entry := ⟨0x7C00, 0x0C, "SUP_FENCE_CAUSE", .octets, .ro, .vol, "", .bytes [], .length 20 20, 1, 0, 0, 0⟩
def SUP_FRZ_IMMEDIATE : Entry := ⟨0x7C00, 0x0D, "SUP_FRZ_IMMEDIATE", .bool, .rw, .per, "", .num 0, .between 0 1, 1, 0, 0, 0⟩
def SUP_FRZ_STATE : Entry := ⟨0x7C00, 0x0E, "SUP_FRZ_STATE", .enum8, .ro, .vol, "", .num 0, .between 0 1, 1, 0, 0, 0⟩
def SUP_FREEZES : Entry := ⟨0x7C00, 0x0F, "SUP_FREEZES", .u32, .ro, .per, "", .num 0, .any, 1, 0, 0, 0⟩
def SUP_IDCODE : Entry := ⟨0x7C00, 0x10, "SUP_IDCODE", .u32, .ro, .per, "", .num 0, .any, 1, 0, 0, 0⟩
def SUP_SCAN_MAP : Entry := ⟨0x7C00, 0x11, "SUP_SCAN_MAP", .octets, .ro, .per, "bits", .bytes [], .length 40 40, 1, 0, 0, 0⟩

/-! Table 22-6 (22_fault_and_status_reference.md) -/
def FLT_SUMMARY : Entry := ⟨0x7F00, 0x01, "FLT_SUMMARY", .u16, .ro, .vol, "", .num 0, .any, 1, 0, 0, 0⟩
def FLT_ACTIVE_COUNT : Entry := ⟨0x7F00, 0x02, "FLT_ACTIVE_COUNT", .u16, .ro, .vol, "", .num 0, .between (0) (65535), 1, 0, 0, 0⟩
def FLT_ACTIVE : Entry := ⟨0x7F00, 0x03, "FLT_ACTIVE", .octets, .ro, .vol, "", .bytes [], .length 0 1024, 1, 0, 0, 0⟩
def FLT_ACTIVE_OVERFLOW : Entry := ⟨0x7F00, 0x04, "FLT_ACTIVE_OVERFLOW", .bool, .ro, .vol, "", .num 0, .between 0 1, 1, 0, 0, 0⟩
def FLT_LOG : Entry := ⟨0x7F00, 0x10, "FLT_LOG", .octets, .ro, .per, "", .bytes [], .length 1048576 1048576, 1, 0, 0, 0⟩
def FLT_LOG_SEQ : Entry := ⟨0x7F00, 0x11, "FLT_LOG_SEQ", .u32, .ro, .per, "", .num 0, .any, 1, 0, 0, 0⟩
def FLT_LOG_ENTRIES : Entry := ⟨0x7F00, 0x12, "FLT_LOG_ENTRIES", .u32, .ro, .per, "", .num 0, .between (0) (32768), 1, 0, 0, 0⟩
def FLT_SUPPRESS_MAX : Entry := ⟨0x7F00, 0x13, "FLT_SUPPRESS_MAX", .u8, .rw, .per, "per 60 s", .num 10, .between (1) (60), 1, 0, 0, 0⟩
def FLT_SUPPRESSED : Entry := ⟨0x7F00, 0x14, "FLT_SUPPRESSED", .u32, .ro, .per, "", .num 0, .any, 1, 0, 0, 0⟩

/-- The entries of Table 2-13. -/
def table2_13 : List Entry :=
  [CHN_NODE_COUNT, CHN_SPLIT, CHN_SWEEP_PERIOD, CHN_CHAN_A, CHN_CHAN_B, CHN_CHAN_MASK, CHN_AUTO_CHANNEL, CHN_FILTER_CORNER, CHN_NOTCH_EN, CHN_ENUM_PWR, CHN_AUTO_KEY, CHN_PACK_KEY, CHN_ENUMERATE, CHN_KEY_NODE, CHN_STATE, CHN_SWEEP_CTR, CHN_LAST_INSTANT, CHN_SWEEP_FLAGS, CHN_BREAK_LO, CHN_BREAK_HI, CHN_EFF_PERIOD, CHN_H_MAX, CHN_CRC_ERR_A, CHN_CRC_ERR_B]
/-- More entries of Table 2-13. -/
def table2_13_b : List Entry :=
  [CHN_MIC_ERR, CHN_SPLIT_SWEEPS, CHN_CHAN_ACTIVE, CHN_MIN_PERIOD]
/-- The entries of Table 2-14. -/
def table2_14 : List Entry :=
  [CHN_NODE_ID, CHN_NODE_STATE, CHN_NODE_HOP_B, CHN_NODE_CELLS, CHN_NODE_RSSI, CHN_NODE_LAST_SWEEP, CHN_NODE_STATUS, CHN_NODE_FW, CHN_NODE_CORNER]
/-- The entries of Table 3-5. -/
def table3_5 : List Entry :=
  [STR_POS_COUNT, STR_CHAIN_DIR, STR_BAL_MODE, STR_BAL_ENABLE, STR_BAL_TARGET, STR_BAL_R, STR_BAL_HORIZON, STR_BAL_DEADBAND, STR_BAL_TMAX, STR_BAL_VMIN, STR_BAL_NODE_MAX, STR_LEAD_LEARN, STR_LEAD_LEARN_INT, STR_LEAD_R_MAX, STR_BAL_ACTIVE, STR_LEAD_FAULTS, STR_MAP_STATE]
/-- The entries of Table 3-6. -/
def table3_6 : List Entry :=
  [CELL_VOLTAGE, CELL_V_QUAL, CELL_TEMP, CELL_T_QUAL, CELL_INSTANT, CELL_V_RAW, CELL_V_CORR, CELL_NODE, CELL_INPUT, CELL_TEMP_SRC, CELL_BAL_DUTY, CELL_BAL_INHIBIT, CELL_LEAD_R_LO, CELL_LEAD_R_HI, CELL_LEAD_SRC_LO, CELL_LEAD_SRC_HI, CELL_FAULT]
/-- The entries of Table 4-5. -/
def table4_5 : List Entry :=
  [EST_RATED_CAP, EST_SOC_MODE, EST_SOC_SLEW, EST_REST_TIME, EST_PSEUDO_TIME, EST_ANCHOR_TIME, EST_UNANCH_RATE, EST_W_REST, EST_W_SWEEP, EST_GATE, EST_SLOPE_REF, EST_TAB_UNC, EST_CNT_ERR, EST_STAGE_CNT_ERR, EST_COUL_EFF, EST_SELF_DIS, EST_SHUNT_LSB, EST_SHUNT_LAT, EST_HIB_DELAY, EST_WAKE_I, EST_CKPT_INT, EST_REST_REQ, EST_STATE, EST_STR_SOC]
/-- More entries of Table 4-5. -/
def table4_5_b : List Entry :=
  [EST_STR_UNC, EST_REST_STATE, EST_REST_TIMER, EST_I_FRAME, EST_I_SOURCE, EST_FLAGS, TBL_CACHE_USED]
/-- The entries of Table 4-6. -/
def table4_6 : List Entry :=
  [EST_SOC_INT, EST_SOC_REP, EST_SOC_UNC, EST_CAP, EST_CAP_AGE, EST_RDC, EST_RDC_T, EST_SOH_C, EST_SOH_R, EST_TEMP, EST_TSET, EST_ANCHOR_AGE, EST_QUAL, EST_RESID, EST_R_COUNT, EST_CONTEXT]
/-- The entries of Table 4-7. -/
def table4_7 : List Entry :=
  [TBL_NAME, TBL_TAXIS_0, TBL_TAXIS_1, TBL_TAXIS_2, TBL_TAXIS_3, TBL_TAXIS_4, TBL_TAXIS_5, TBL_TAXIS_6, TBL_TAXIS_7, TBL_DATA, TBL_RFACT_0, TBL_RFACT_1, TBL_RFACT_2, TBL_RFACT_3, TBL_RFACT_4, TBL_RFACT_5, TBL_RFACT_6, TBL_RFACT_7, TBL_CRC, TBL_STATE, TBL_USERS]
/-- The entries of Table 5-5. -/
def table5_5 : List Entry :=
  [EST_LEARN_DSOC, EST_LEARN_DT, EST_LEARN_DEV, EST_STALE_UNC, EST_EOL_CAP, EST_EOL_R, EST_RDC_BOL, EST_LIFE_MIN_DAYS, EST_STALE_COUNT, EST_ID_ACK_ALL]
/-- The entries of Table 5-6. -/
def table5_6 : List Entry :=
  [EST_CAP_N, EST_CAP_LAST, EST_AGE, EST_THRU, EST_EFC, EST_R_BOL, EST_LIFE_DAYS, EST_LIFE_EFC, EST_LEARNED, EST_LEARN_STATE, EST_LEARN_LAST]
/-- The entries of Table 5-7. -/
def table5_7 : List Entry :=
  [CELL_MOD_ID, CELL_GEN, CELL_ID_ACK]
/-- The entries of Table 6-8. -/
def table6_8 : List Entry :=
  [CVT_PHASES, CVT_PWM_FREQ, CVT_TB_SOURCE, CVT_PHASE_OFFSET, CVT_SYNC_OUT_EN, CVT_DUTY_MIN, CVT_DUTY_MAX, CVT_IREF_LSB, CVT_LANE_WIRING, CVT_SAMPLE_MISS_MAX, CVT_IMB_WARN, CVT_IMB_SHED, CVT_IMB_TIME, CVT_PHASE_RESTORE, CVT_CU_MAP, CVT_CU_SPARE_AUTO, CVT_VBUS_LIMIT, CVT_VSTR_LIMIT]
/-- The entries of Table 6-9. -/
def table6_9 : List Entry :=
  [CVT_STAGE_ID, CVT_STAGE_PHASES, CVT_STAGE_FSW_MIN, CVT_STAGE_FSW_MAX, CVT_STAGE_I_RATED, CVT_STAGE_VBUS_MAX, CVT_STAGE_VSTR_MAX, CVT_IPH_LSB, CVT_STAGE_FW, CVT_STAGE_FAULTS, CVT_LINK_STATE, CVT_LANE_ACTIVE, CVT_TB_STATE, CVT_TB_PHASE_ERR, CVT_PWM_PERIOD, CVT_DUTY_SEQ, CVT_DUTY_APPLIED, CVT_PHASE_EN, CVT_PHASE_FAULTED, CVT_V_STRING, CVT_V_BUS, CVT_I_STAGE, CVT_I_PHASE, CVT_HS_TEMP]
/-- More entries of Table 6-9. -/
def table6_9_b : List Entry :=
  [CVT_IMBALANCE, CVT_SAMPLE_LATE, CVT_SAMPLE_CRC_ERR, CVT_DSEQ_ERR]
/-- The entries of Table 6-10. -/
def table6_10 : List Entry :=
  [CU_ENGINE_STATE, CU_COMPUTE_MAX, CU_FENCED_MASK, CU_TYPE, CU_B0, CU_B1, CU_B2, CU_B3, CU_A1, CU_A2, CU_A3, CU_SHIFT, CU_EMAX, CU_SAT_MAX, CU_STATE, CU_WRAPS, CU_SNAPSHOT, CU_OUT]
/-- The entries of Table 7-7. -/
def table7_7 : List Entry :=
  [SP_MODE_CMD, SP_MODE, SP_STATE, SP_STATUS, SP_SOURCE, SP_V_SET, SP_I_SET, SP_P_SET, SP_R_LL, SP_DV_MAX, SP_DI_MAX, SP_DIR_DWELL, SP_DIR_HYST, SP_LL_TAU, SP_START_RULE, SP_START_DUTY, SP_RAMP_VALUE, SP_I_REF, SP_V_REF, SP_I_BUS]
/-- The entries of Table 7-8. -/
def table7_8 : List Entry :=
  [SP_AI_MODE, SP_AI_GAIN, SP_AI_OFFSET, SP_AI_FILT, SP_AI_LOS_ACT, SP_AI_LOS_VALUE, SP_AI_X, SP_PI_MODE, SP_PI_F0, SP_PI_F1, SP_PI_GAIN, SP_PI_OFFSET, SP_PI_FILT, SP_PI_LOS_ACT, SP_PI_LOS_VALUE, SP_PI_X, SP_LOS_TIME, SP_SHED_EN, SP_SHED_ADD, SP_SHED_DELAY, SP_SHED_HOLD, SP_LSTEP, SP_PHASE_MIN, SP_PHASES_ON]
/-- More entries of Table 7-8. -/
def table7_8_b : List Entry :=
  [SP_LOAD_STEPS]
/-- The entries of Table 8-5. -/
def table8_5 : List Entry :=
  [PROT_OV_WARN, PROT_OV_LIMIT, PROT_OV_TRIP, PROT_UV_WARN, PROT_UV_LIMIT, PROT_UV_TRIP, PROT_V_WARN_T, PROT_V_TRIP_T, PROT_OT_WARN, PROT_OT_LIMIT, PROT_OT_TRIP, PROT_T_TRIP_T, PROT_TD_START, PROT_T_CHG_MIN, PROT_T_CHG_FULL, PROT_OC_DIS_WARN, PROT_OC_DIS_TRIP, PROT_OC_CHG_WARN, PROT_OC_CHG_TRIP, PROT_OC_TRIP_T, PROT_XCHK_ABS, PROT_XCHK_REL, PROT_XCHK_T, PROT_XCHK_I]
/-- More entries of Table 8-5. -/
def table8_5_b : List Entry :=
  [PROT_SILENCE_T, PROT_FAULT_TRIP_T, PROT_WELD_I, PROT_WELD_V, PROT_WELD_T, PROT_I_DIS_MAX, PROT_I_CHG_MAX, PROT_R_FALLBACK, PROT_SOC_MIN, PROT_SOC_MAX, PROT_SOC_TAPER, PROT_SOP_RISE, PROT_SQ_POS, PROT_SQ_NEG, PROT_SQ_PRE, PROT_AUX_POS, PROT_AUX_NEG, PROT_AUX_PRE, PROT_K_CLOSE_T, PROT_K_OPEN_T, PROT_PRE_TIMEOUT, PROT_PRE_TOL, PROT_OPEN_I, PROT_OPEN_WAIT]
/-- More entries of Table 8-5. -/
def table8_5_c : List Entry :=
  [PROT_DISCH_WAIT, PROT_EMERGENCY_OPEN, PROT_TRIP_RESET, PROT_STATE, PROT_CAUSE, PROT_SEQ, PROT_SEQ_STEP, PROT_SEQ_RESULT, PROT_SEQ_RESUMED, PROT_SEQ_JSEQ, PROT_COILS, PROT_BREAKS, PROT_K_OPS, PROT_TM_T0, PROT_TM_T1, PROT_TM_T2, PROT_TM_T3, PROT_TM_D0, PROT_TM_D1, PROT_TM_D2, PROT_TM_D3, PROT_TM_DQ, PROT_TM_ON, PROT_TM_OFF]
/-- More entries of Table 8-5. -/
def table8_5_d : List Entry :=
  [PROT_TM_DEMAND]
/-- The entries of Table 8-6. -/
def table8_6 : List Entry :=
  [DSP_P_REQ, DSP_I_REQ, DSP_P_GRANT, DSP_I_GRANT, DSP_TIMEOUT, DSP_TIMEOUT_ACT, DSP_I_DIS_LIM, DSP_I_CHG_LIM, DSP_P_DIS_AVAIL, DSP_P_CHG_AVAIL, DSP_E_DIS_AVAIL, DSP_E_CHG_AVAIL, DSP_REST_REQ, DSP_REST_GRANT, DSP_REST_REMAIN]
/-- The entries of Table 9-12. -/
def table9_12 : List Entry :=
  [SAF_STATE, SAF_ADDR, SAF_DIP, SAF_LAN_MODE, SAF_DEMAND, SAF_LATCH_CAUSE, SAF_PARAM_CRC, SAF_SEAL, SAF_IS_EN, SAF_CONN_CMD, SAF_CONN_STAT, SAF_PEER_ADDR, SAF_WD, SAF_OV_LEVEL, SAF_UV_LEVEL, SAF_OT_LEVEL, SAF_OC_DIS, SAF_OC_CHG, SAF_OC_T, SAF_SILENCE_T, SAF_Q_MASK, SAF_Q_FILTER, SAF_START_RESET, SAF_PST_IS]
/-- More entries of Table 9-12. -/
def table9_12_b : List Entry :=
  [SAF_PST_OV, SAF_PST_UV, SAF_PST_OT, SAF_PST_OC, SAF_PST_MS, SAF_TR_IS, SAF_TR_OV, SAF_TR_UV, SAF_TR_OT, SAF_TR_OC, SAF_TR_MS, SAF_RESET_LAST, SAF_RESET_COUNT, SAF_FRAMES_OK, SAF_FRAMES_BAD, SAF_COPY_MISMATCH, SAF_SINGLE_COPY, SAF_WD_EXPIRED]
/-- The entries of Table 10-12. -/
def table10_12 : List Entry :=
  [SYS_VENDOR, SYS_PRODUCT, SYS_HW_ISSUE, SYS_SERIAL, SYS_FW_PACKAGE, SYS_DICT_VERSION, SYS_PLANT_ADDR, SYS_CHASSIS, SYS_SLOT, SYS_TIER]
/-- The entries of Table 10-13. -/
def table10_13 : List Entry :=
  [TIME_NOW, TIME_OP_SECONDS, TIME_POWER_CYCLES, TIME_UPTIME, TIME_FRAME_CTR]
/-- The entries of Table 10-14. -/
def table10_14 : List Entry :=
  [SES_IDLE_T, SES_GAP_T, SES_CAN_CHANNEL, SES_CAN_REQ_ID, SES_CAN_RSP_ID, SES_COUNT, SES_TABLE, SES_JSEQ, SES_JOURNAL_FREE, SES_IDLE_PEND, SES_IDLE_LAST, SES_IDLE_ENTRY, SES_GAPS, SES_REPLAYS, SES_CRC_ERR]
/-- The entries of Table 11-3. -/
def table11_3 : List Entry :=
  [NET_MAC, NET_IP_MODE, NET_IP, NET_MASK, NET_GW, NET_IP_ACTIVE, NET_VLAN, NET_PCP_SAF, NET_PCP_OAP, NET_SVC_IP, NET_SVC_MAC, NET_SAF_PEER_IP, NET_FWD_EN, NET_FDB_AGE, NET_BC_LIMIT, NET_LAN_SILENT_T, NET_LINK, NET_LAN_STATE, NET_PORT_STATS, NET_PRP_STATS, NET_DROP_NOBUF, NET_CELLS_FREE, NET_DHCP_LEASE]
/-- The entries of Table 11-4. -/
def table11_4 : List Entry :=
  [PTP_DOMAIN_P, PTP_DOMAIN_S, PTP_ENABLE, PTP_GM_QUAL_T, PTP_REVERT_T, PTP_CLASS_MAX, PTP_LOCK_NS, PTP_SLEW_MAX, PTP_HOLDOVER_T, PTP_DOM_DIS, PTP_LAN_DIS, PTP_LINK_DELAY_MAX, PTP_ASYM, PTP_STATE, PTP_REF, PTP_OFFSET, PTP_FREQ, PTP_GM_P, PTP_GM_S, PTP_INST_STATE, PTP_LINK_DELAY, PTP_UTC_OFFSET, PTP_DOM_OFFSET, PTP_HOLDOVER_S]
/-- More entries of Table 11-4. -/
def table11_4_b : List Entry :=
  [PTP_STEP_MS, PTP_REF_CHANGES]
/-- The entries of Table 12-5. -/
def table12_5 : List Entry :=
  [CAN_ENABLE, CAN_FD, CAN_NBR, CAN_NSP, CAN_NSJW, CAN_DBR, CAN_DSP, CAN_DSJW, CAN_TERM, CAN_RECOVERY, CAN_RECOVERY_DELAY, CAN_WAKE_MODE, CAN_WAKE_FILT, CAN_WAKE_ID, CAN_WAKE_ID_MASK, CAN_WAKE_DATA_MASK, CAN_WAKE_DLC, CAN_MB_CFG, CAN_FILTERS, CAN_TX, CAN_RECOVER, CAN_SLEEP, CAN_STATE, CAN_TEC]
/-- More entries of Table 12-5. -/
def table12_5_b : List Entry :=
  [CAN_REC, CAN_MB_IMAGE, CAN_ND_MAP, CAN_STATS, CAN_LAST_ERROR, CAN_WAKE_CAUSE]
/-- The entries of Table 12-6. -/
def table12_6 : List Entry :=
  [CAN_TM_CHANNEL, CAN_TM_ID, CAN_TM_PERIOD]
/-- The entries of Table 13-7. -/
def table13_7 : List Entry :=
  [DIO_DI_TYPE, DIO_DI_MODE, DIO_DI_INTERVAL, DIO_DI_DEBOUNCE, DIO_DI_OW_EN, DIO_DI_INVERT, DIO_DI_STATE, DIO_DI_VALID, DIO_DI_RAW, DIO_DI_DIAG, DIO_DQ_CMD, DIO_DQ_GROUPING, DIO_DQ_CLASS, DIO_DQ_OL_EN, DIO_DQ_RETRY, DIO_DQ_STATE, DIO_DQ_DIAG, DIO_DQ_CURRENT, DIO_SQ_CMD, DIO_SQ_CLASS, DIO_SQ_TP_INT, DIO_SQ_TP_LEN, DIO_SQ_STATE, DIO_SQ_DIAG]
/-- More entries of Table 13-7. -/
def table13_7_b : List Entry :=
  [DIO_SQ_CURRENT, DIO_SQ_TESTS, DIO_VF, DIO_VF_STATE, DIO_GROUP_FENCED]
/-- The entries of Table 14-10. -/
def table14_10 : List Entry :=
  [SYS_RESET_CAUSE, SYS_RESET_TIME, SYS_RESET_COUNT, SYS_TIER_TIMES, SYS_TIER_BLOCK, SYS_SELFTEST, SYS_RESET_CMD, SYS_SELFTEST_REQ, SYS_CAL_INT, SYS_CAL_LAST, SYS_HIB_EN, SYS_HIB_STATE, SYS_BOOT_BANK]
/-- The entries of Table 15-9. -/
def table15_9 : List Entry :=
  [PAIR_ENABLE, PAIR_WIT_IP, PAIR_WIT_BUS, PAIR_WIT_SERVE, PAIR_LEASE_T, PAIR_MISS_MAX, PAIR_GRANT_WAIT, PAIR_REJOIN_FRAMES, PAIR_AUTO_REJOIN, PAIR_HANDOVER, PAIR_FORCE_ACTIVE, PAIR_MODE, PAIR_ID, PAIR_ROLE, PAIR_PARTNER_ROLE, PAIR_EPOCH, PAIR_LEASE_STATE, PAIR_LEASE_LEFT, PAIR_MIRROR_STATE, PAIR_WITNESS_SEEN, PAIR_READY, PAIR_LANE_HELD, PAIR_FENCE, PAIR_FAILOVERS]
/-- More entries of Table 15-9. -/
def table15_9_b : List Entry :=
  [PAIR_LAST_FAILOVER, PAIR_LAST_GAP, PAIR_SERVED]
/-- The entries of Table 16-5. -/
def table16_5 : List Entry :=
  [FW_DELTA, FW_APPLY, FW_ACTIVATE, FW_ABORT, FW_HEALTH_MIN, FW_RECOVERY, FW_STATE, FW_BLOCK_NEXT, FW_BLOCKS, FW_TARGET_PKG, FW_BANK_ACTIVE, FW_BANK_PKG, FW_SCHEMA, FW_RUNNING_PAIR, FW_PROBATION, FW_LAST_RESULT, FW_ACTIVATIONS]
/-- The entries of Table 17-3. -/
def table17_3 : List Entry :=
  [MEM_LAP_MAX_SRAM, MEM_LAP_MAX_MRAM, MEM_LAP_MAX_FLASH, MEM_CORR_WARN, MEM_ROW_REPEAT, MEM_LAP_TIMES, MEM_CORRECTED, MEM_CHECKBIT, MEM_UNCORR, MEM_LAST_ERROR, MEM_SPARES_FUSED, MEM_SPARES_SOFT, MEM_SPARES_PENDING, MEM_SPARES_FREE, MEM_SOFT_MAP]
/-- The entries of Table 18-6. -/
def table18_6 : List Entry :=
  [REC_COMMIT_INT, REC_HOLD, REC_DATA, REC_STATE, REC_HOLD_LEFT, REC_HOLD_SES, REC_LAST_COMMIT, REC_INVALID, REC_SATURATED, REC_LOST_S, REC_LAYOUT]
/-- The entries of Table 19-5. -/
def table19_5 : List Entry :=
  [SUP_DIE_TEMP, SUP_DIE_RATE, SUP_DIE_STATE, SUP_SHUTDOWNS, SUP_LAST_SHUTDOWN, SUP_HOLDUP_E, SUP_HOLDUP_T, SUP_HOLDUP_C, SUP_VBP, SUP_VBP_STATE, SUP_FENCED, SUP_FENCE_CAUSE, SUP_FRZ_IMMEDIATE, SUP_FRZ_STATE, SUP_FREEZES, SUP_IDCODE, SUP_SCAN_MAP]
/-- The entries of Table 22-6. -/
def table22_6 : List Entry :=
  [FLT_SUMMARY, FLT_ACTIVE_COUNT, FLT_ACTIVE, FLT_ACTIVE_OVERFLOW, FLT_LOG, FLT_LOG_SEQ, FLT_LOG_ENTRIES, FLT_SUPPRESS_MAX, FLT_SUPPRESSED]

/-- Every entry of the dictionary, in the order of the chapters. -/
def all : List Entry :=
  table2_13 ++ table2_13_b ++ table2_14 ++ table3_5 ++ table3_6 ++
  table4_5 ++ table4_5_b ++ table4_6 ++ table4_7 ++ table5_5 ++
  table5_6 ++ table5_7 ++ table6_8 ++ table6_9 ++ table6_9_b ++
  table6_10 ++ table7_7 ++ table7_8 ++ table7_8_b ++ table8_5 ++
  table8_5_b ++ table8_5_c ++ table8_5_d ++ table8_6 ++ table9_12 ++
  table9_12_b ++ table10_12 ++ table10_13 ++ table10_14 ++ table11_3 ++
  table11_4 ++ table11_4_b ++ table12_5 ++ table12_5_b ++ table12_6 ++
  table13_7 ++ table13_7_b ++ table14_10 ++ table15_9 ++ table15_9_b ++
  table16_5 ++ table17_3 ++ table18_6 ++ table19_5 ++ table22_6

end Sys2Proof.Machine.Ent
end

