-- ==== Sys2Proof/Machine/Regs/Can.lean ====
section
/-! DEFINITION. State of the container message bus (12_message_bus). -/
namespace Sys2Proof.Machine

/-- RESULT of a transmit buffer (Table 12-2). -/
inductive TxRes where
  | idle | pending | sent | lostArb | noAck | error | busOff | aborted
  deriving DecidableEq, Repr, Inhabited

/-- A message buffer or FIFO entry (Table 12-2). `filter` is RESULT of a received frame. -/
structure MsgBuf where
  ide    : Bool := false
  fdf    : Bool := false
  brs    : Bool := false
  id     : Nat := 0               -- bits 28-0; an 11-bit identifier in bits 28-18
  esi    : Bool := false
  dlc    : Nat := 0
  res    : TxRes := .idle
  filter : Option Nat := none
  ovl    : Bool := false
  stamp  : Nat := 0               -- plant time, ns
  data   : List Byte := []
  deriving DecidableEq, Repr, Inhabited

/-- What the controller and the transceiver of a channel do; ACTIVE and PASSIVE are told apart by the error counters. -/
inductive CanMode where
  | run | busOff | recovering | sleep | fenced
  deriving DecidableEq, Repr, Inhabited

/-- One channel. -/
structure CanChan where
  mode     : CanMode := .run
  bufs     : Vector MsgBuf 64 := Vector.replicate 64 {}
  fifo     : List MsgBuf := []    -- oldest first, at most 32
  nd       : Nat := 0             -- new-data map
  image    : Vector MsgBuf 64 := Vector.replicate 64 {}  -- CAN_MB_IMAGE: the copy of the last step 3
  toSend   : List (Nat × MsgBuf) := []  -- accepted CAN_TX for the next frame boundary
  tec      : Nat := 0
  rec_     : Nat := 0
  ackRun   : Nat := 0             -- consecutive acknowledgement errors
  lastErr  : Nat := 0
  wakeCause : Nat := 0
  sleepReq : Bool := false        -- a sleep request waits for its pending buffers
  sleepAt  : Nat := 0             -- instant of that request (R305)
  frErr    : Nat := 0             -- frame-error count of the sleeping transceiver (ISO 11898-2, R305)
  wire     : Option Nat := none   -- the buffer that was offered before the last one became PENDING: it may be under way (R298)
  offAt    : Nat := 0             -- instant of the bus-off (R302)
  recAt    : Nat := 0             -- instant at which recovery started
  txd      : List Nat := []       -- times of TXD dominant time-outs of the last second
  received : Nat := 0
  sent     : Nat := 0
  errors   : Nat := 0
  arbLost  : Nat := 0
  fifoLost : Nat := 0
  ovls     : Nat := 0
  unfiltered : Nat := 0
  busOffs  : Nat := 0
  deriving DecidableEq, Repr, Inhabited

/-- Both channels, and the counter of the cooling frame (R300). -/
structure CanRegs where
  ch    : Vector CanChan 2 := Vector.replicate 2 {}
  tmCtr : Nat := 0
  tmAt  : Option Nat := none      -- instant at which the last cooling frame fell due
  deriving DecidableEq, Repr, Inhabited

end Sys2Proof.Machine
end

