-- ==== Sys2Proof/Machine/Regs/Est.lean ====
section
/-! DEFINITION. State of the estimation engine (04_estimation_engine) and of capacity, life and identity
(05_capacity_life_identity). -/
namespace Sys2Proof.Machine

/-- One coulomb sample: its instant (ns of plant time), its value in counts, and whether it is usable (R82, R83). -/
structure CSample where
  t      : Nat
  x      : Int
  usable : Bool
  deriving DecidableEq, Repr, Inhabited

/-- EST_I_SOURCE (Table 4-5). -/
inductive ISource where
  | coulomb | stage | none
  deriving DecidableEq, Repr, Inhabited

/-- EST_STATE (Table 4-5). -/
inductive EstState where
  | off | tableOnly | running | hibernating | fenced
  deriving DecidableEq, Repr, Inhabited

/-- EST_REST_STATE (Table 4-5). -/
inductive RestState where
  | loaded | pseudo | rest
  deriving DecidableEq, Repr, Inhabited

/-- The fields of one context (Table 4-1); ages are kept as the operating second at which they were 0. -/
structure Ctx where
  socInt   : Int := 0            -- SOC_INT_X
  socRep   : Int := 0            -- SOC_REP_X
  rem      : Int := 0            -- CNT_REM
  cap      : Nat := 0
  capTime  : Nat := 0
  rdc      : Nat := 0            -- UQ24.8
  sohC     : Nat := 10000
  sohR     : Nat := 10000
  temp     : Int := -32768
  unc      : Nat := 10000        -- SOC_UNC
  tset     : Nat := 0
  restState : RestState := .loaded
  anchorAt : Int := 0            -- operating second at which ANCHOR_AGE was 0
  qRest    : Int := 0            -- Q_SINCE_REST
  restSoc  : Nat := 0
  restTemp : Int := 0
  restTime : Nat := 0
  vPrev    : Nat := 65535
  resid    : Int := 0
  rCount   : Nat := 0
  gateRej  : Nat := 0
  lastSweep : Nat := 0
  deriving DecidableEq, Repr, Inhabited

/-- The quality flags of a context (Table 4-2) and the running counts that drive them. -/
structure CtxFlags where
  valid     : Bool := false
  stale     : Bool := false
  countOnly : Bool := false
  tableOnly : Bool := false
  gated     : Bool := false
  outOfTable : Bool := false
  hibernated : Bool := false
  lostVal   : Bool := false       -- VALID cleared for want of a current source; waits for a lookup (R83)
  replaced  : Bool := false       -- TABLE_ONLY after an identity change (R123)
  watched   : Bool := false       -- has taken its SOC from a WATCH lookup (R103)
  watchSoc  : Int := 0            -- the last WATCH table SOC (R105)
  watchLow  : Bool := false       -- every I_s of the WATCH sweeps was at most C/50 in magnitude (R105)
  hasPointA : Bool := false       -- a point A is stored
  iPrev1    : Option Int := none  -- I_s at the last sweep (mA), and at the one before
  iPrev2    : Option Int := none
  rPrevOk   : Bool := false       -- the last sweep's value suits resistance estimation (R100)
  socPrev   : Int := 0            -- SOC_INT_X after all the work of the last sweep (R101)
  tempLast  : Int := -32768       -- last VALID temperature (R90)
  tempOld   : Bool := false       -- 60 s have passed without a VALID temperature (R90)
  rRej      : Nat := 0            -- consecutive rejected resistance samples (R101)
  seeded    : Bool := false       -- R_SEEDED has become set since FIRST_SEEN, and R_BOL is not yet taken (R119)
  outRun    : Nat := 0            -- consecutive sweeps out of table (0x300C)
  thruAcc   : Nat := 0            -- |q| since the last hourly move, nC (R120)
  unanchAcc : Nat := 0            -- the same of the unanchored growth, 1/3600 of 0.01 %
  repPrev   : Int := 0            -- SOC_REP_X at the end of the last frame (R98)
  aSoc      : Nat := 0            -- table SOC of point A (R92): a pseudo-rest point also moves REST_SOC (R93)
  deriving DecidableEq, Repr, Inhabited

/-- TBL_STATE (Table 4-7). -/
inductive TblState where
  | empty | stored | cached | corrupt
  deriving DecidableEq, Repr, Inhabited

/-- The data of a table set (R86): 8 temperatures, 1,584 voltages, 8 factors. -/
structure Tbl where
  taxis : List Int
  data  : List Nat
  rfact : List Nat
  deriving DecidableEq, Repr, Inhabited

/-- One table set as the pager sees it (R88). -/
structure TblSlot where
  corrupt : Bool := false        -- its data failed the CRC on load
  active : Option Tbl := none    -- the version lookups use
  loaded : Option Tbl := none    -- loaded, swaps at the next frame boundary
  wait   : Bool := false         -- new data committed, not yet loaded
  deriving DecidableEq, Repr, Inhabited

/-- A checkpoint copy (R104). -/
structure Checkpoint where
  seq   : Nat := 0
  time  : Nat := 0
  op    : Nat := 0               -- operating second of the write, which the ages of its contexts count to
  valid : Bool := false
  ctx   : List Ctx := []
  fl    : List CtxFlags := []
  deriving DecidableEq, Repr, Inhabited

/-- State behind the EST_ and TBL_ string entries. -/
structure EstRegs where
  ctx      : Vector Ctx 256 := Vector.replicate 256 {}
  slot     : Nat := 0                    -- the microcode slot in use (R381)
  cpAt     : Option Nat := none          -- instant of the last periodic checkpoint, or of the restore (R104)
  fl       : Vector CtxFlags 256 := Vector.replicate 256 {}
  tbl      : Vector TblSlot 16 := Vector.replicate 16 {}
  samples  : List CSample := []          -- newest first, the last 150 ms
  lastSeq  : Option Nat := none          -- SEQ of the last accepted word
  lastUse  : Int := 0                    -- last usable sample
  lastUseAt : Nat := 0                   -- its instant
  countedTo : Nat := 0                   -- words of earlier instants belong to frames already closed (R82)
  usableRun : Nat := 0                   -- consecutive usable samples
  wakeRun  : Nat := 0                    -- consecutive usable samples beyond the wake current (R107)
  coulLost : Bool := false               -- 0x3002 in force (R83)
  stageI   : List (Nat × Int) := []      -- reference peak and I_STR of SAMPLE frames, newest first, the last 150 ms
  source   : ISource := .none            -- EST_I_SOURCE
  noneSince : Option Nat := some 0       -- since when there has been no current source (R83)
  dq       : Int := 0                    -- charge of the ended frame after step 2, nC
  strRem   : Int := 0
  iFrame   : Int := 0                    -- mA
  hibAcc   : Int := 0                    -- the hardware charge accumulator (R106), counts
  hibSince : Nat := 0                    -- plant time of the last applied hibernation charge
  state    : EstState := .off
  secI     : List Int := []              -- frame currents of the present second
  secNone  : Bool := false               -- a frame of the present second had no source
  secFrames : Nat := 0                   -- frames of the present second
  quietT   : Nat := 0                    -- s for which the string has been PARKED below the wake current (R106)
  secC     : Int := 0                    -- charge counted in the present second, nC, from the coulomb channel
  secS     : Int := 0                    -- the same from the stage current
  uncAcc   : Nat := 0                    -- the string accumulator of the counting growth, ppm nC (R95)
  m        : Option Int := none          -- mean of the last second (R91)
  mHist    : List (Option Int) := []     -- the means of the last 60 s, newest first
  restT    : Nat := 0                    -- s
  pseudoT  : Nat := 0
  restDue  : Option Nat := none          -- instant at which a rest point fell due and is not yet taken (R92)
  pseudoDue : Option Nat := none
  restarted : Nat := 0                   -- operating second of the last restart (R113)
  substAt  : Nat := 0                    -- operating second of the last frame with a substituted or no source
  cpA      : Checkpoint := {}
  cpB      : Checkpoint := {}
  restored : Bool := false               -- the restore of R105 has ended
  waking   : Bool := false               -- woken; step 3 of the next frame applies the hibernation charge (Table 4-4)
  strSoc   : Nat := 65535
  strUnc   : Nat := 10000
  deriving DecidableEq, Repr, Inhabited

/-- A learned record (Table 5-1). -/
structure Learned where
  modId     : Nat := 0
  seq       : Nat := 0
  gen       : Nat := 0
  capN      : Nat := 0
  cap       : Nat := 0
  capTime   : Nat := 0
  rBol      : Nat := 0
  firstSeen : Nat := 0
  thru      : Nat := 0
  sohC      : Nat := 10000
  sohR      : Nat := 10000
  capLast   : Nat := 0
  lifeRestarted : Bool := false
  rBolLearned   : Bool := false
  stale     : Bool := false
  deriving DecidableEq, Repr, Inhabited

/-- A CAP_LEARN entry (Table 5-3). -/
structure CapLearn where
  pos       : Nat
  gen       : Nat
  target    : Nat
  capBefore : Nat
  socA      : Nat
  tempA     : Int
  timeA     : Nat
  socB      : Nat
  tempB     : Int
  timeB     : Nat
  q         : Int
  deriving DecidableEq, Repr, Inhabited

/-- EST_LEARN_STATE (Table 5-6). -/
inductive LearnState where
  | idle | journaled | writing | deferred
  deriving DecidableEq, Repr, Inhabited

/-- One position's two record slots and its open learning entry. -/
structure LearnPos where
  a       : Learned := {}
  aOk     : Bool := true
  b       : Learned := {}
  bOk     : Bool := true
  entry   : Option CapLearn := none      -- journaled or being journaled
  committed : Bool := false              -- the entry's journal entry has been accepted
  entryJ  : Nat := 0                     -- its JSEQ
  closing : Bool := false                -- its completion is journaled and not yet committed
  waitSince : Option Nat := none         -- since when a write of the record has waited for the hold-up gauge (R116)
  owed    : Bool := false                -- a batch passed the record over while the entry was open
  next    : Option Learned := none       -- computed, waiting to be written
  state   : LearnState := .idle
  last    : Nat := 0                     -- EST_LEARN_LAST
  enter   : Bool := false                -- new CAP, SOH_C and STALE enter the context at the next step 3 (R117)
  lifeDays : Nat := 4294967295
  lifeEfc : Nat := 4294967295
  idChange : Option Nat := none          -- new identity whose change takes effect at a step 3 (R123, R125)
  idReady  : Bool := false               -- its ID_CHANGE entry is committed, or none is needed
  recGen   : Nat := 0                    -- the lifetime recorder's copy of GEN (R112, R123)
  deriving DecidableEq, Repr, Inhabited

/-- State of capacity and identity. -/
structure IdentRegs where
  pos      : Vector LearnPos 256 := Vector.replicate 256 {}
  loaded   : Bool := false               -- records loaded after the restore (R110, R120)
  lifeMin  : Nat := 4294967295           -- EST_LIFE_MIN_DAYS
  pendBatch : Bool := false              -- a record batch waits for the hold-up gauge (R116)
  pendSince : Nat := 0                   -- since when
  hourAt   : Option Nat := none          -- instant of the last hourly batch, or of the restore (R120)
  deriving DecidableEq, Repr, Inhabited

end Sys2Proof.Machine
end

