-- ==== Sys2Proof/Machine/Regs/Faults.lean ====
section
/-! DEFINITION. State of the fault and status reference (22_fault_and_status_reference): active list, frame events, log ring. -/
namespace Sys2Proof.Machine

/-- One active code and instance (R468, R469); `since` is the plant time of the raise in ns, `seen` the last
instant at which its cause was seen (R466). -/
structure ActiveFault where
  code  : Nat
  inst  : Nat
  since : Nat
  seen  : Nat
  deriving DecidableEq, Repr, Inhabited

/-- EVENT of Table 22-4. -/
inductive FaultEv where
  | raised | cleared | suppressed | start
  deriving DecidableEq, Repr, Inhabited

/-- An event of the present frame that J has not yet written (R472). -/
structure FaultEvent where
  code : Nat
  inst : Nat
  ev   : FaultEv
  time : Nat
  deriving DecidableEq, Repr, Inhabited

/-- One entry of the log ring (Table 22-4); its CRC field is computed when it is read. -/
structure LogEntry where
  seq    : Nat
  code   : Nat
  inst   : Nat
  ev     : FaultEv
  member : Nat
  count  : Nat
  time   : Nat
  opSec  : Nat
  pcyc   : Nat
  deriving DecidableEq, Repr, Inhabited

/-- Per code and instance: plant times of the RAISED events logged in the last 60 s, and the events held back (R473). -/
structure Suppress where
  code  : Nat
  inst  : Nat
  times : List Nat
  count : Nat
  deriving DecidableEq, Repr, Inhabited

/-- State behind the FLT_ entries (Table 22-6). -/
structure FaultRegs where
  active      : List ActiveFault := []
  events      : List FaultEvent := []
  windows     : List Suppress := []
  log         : List LogEntry := []     -- newest first, at most 32,768 (R471)
  logSeq      : Nat := 0
  suppressed  : Nat := 0
  suppressMax : Nat := 10               -- FLT_SUPPRESS_MAX in effect (R476)
  deriving DecidableEq, Repr, Inhabited

end Sys2Proof.Machine
end

