-- ==== Sys2Proof/Machine/Regs/Field.lean ====
section
/-! DEFINITION. State of the field inputs and outputs (13_field_io). What a diagnosis entry shows of a wire fault, a latch-off, a
short circuit or a failed test is the active fault itself. -/
namespace Sys2Proof.Machine

/-- What a strobe with wire check shows (Table 13-2). -/
inductive Wire where
  | ok | open_ | short
  deriving DecidableEq, Repr, Inhabited

/-- One digital input (R314 to R316). -/
structure DiIn where
  raw   : Bool := false
  state : Bool := false             -- debounced, before inversion
  cnt   : Nat := 0                  -- debounce count, µs
  valid : Bool := false
  run   : Nat := 0                  -- µs of samples since the last cause of invalidity ended
  cond  : Wire := .ok               -- what the last strobe showed
  condAt : Nat := 0                 -- since when the strobes show it (R317)
  deriving DecidableEq, Repr, Inhabited

/-- One standard output. -/
structure DqOut where
  cycles : List Nat := []           -- plant times of its thermal cycles in the last 10 s
  hold   : Bool := false            -- class B: off until a new command (R328)
  ma     : Nat := 0                 -- its current as last measured for a limit, mA
  olSince : Option (Nat × Bool) := none  -- since when an open load shows, and whether with the switch on (R320)
  deriving DecidableEq, Repr, Inhabited

/-- One safe output. -/
structure SqOut where
  hold   : Bool := false            -- off until a new command (R234, R323, R328)
  change : Nat := 0                 -- plant time of the last change of its state or demand (R324)
  high   : Bool := true             -- the switch whose test is next: the high side (R324)
  testAt : Option Nat := none       -- start of its last test
  limSince  : Option Nat := none    -- since when its path is at the limit (R323)
  lowSince  : Option Nat := none    -- since when its load current is below 20 mA while on
  extSince  : Option Nat := none    -- since when a read-back node is held at a voltage while off
  deriving DecidableEq, Repr, Inhabited

/-- DIO_VF_STATE (Table 13-4). -/
inductive VfState where
  | normal | uvWarn | unpowered | returning | overvoltage | reversed
  deriving DecidableEq, Repr, Inhabited

/-- State behind the DIO_ entries. -/
structure FieldRegs where
  di       : Vector DiIn 32 := Vector.replicate 32 {}
  dq       : Vector DqOut 16 := Vector.replicate 16 {}
  sq       : Vector SqOut 4 := Vector.replicate 4 {}
  vf       : Int := 0               -- mV
  vfState  : VfState := .normal
  vfAt     : Option Nat := none     -- instant of the last measurement of VF (R327)
  ovSince  : Option Nat := none     -- since when VF measures above 32 V
  lowSince : Option Nat := none     -- since when VF measures below 15 V
  retSince : Option Nat := none     -- since when VF measures 18 V or more in RETURNING (R328)
  strobeAt : Vector (Option Nat) 4 := Vector.replicate 4 none  -- last strobe of each DI group (R312)
  dqCmd    : Nat := 0               -- DIO_DQ_CMD in effect
  sqCmd    : Nat := 0               -- DIO_SQ_CMD in effect
  dqWrite  : Nat := 0               -- bits set by writes since the last frame boundary
  sqWrite  : Nat := 0
  dqRise   : Nat := 0               -- bits that a write has changed from 0 to 1 since the last frame boundary (R319)
  test     : Option (Nat × Bool × Nat) := none  -- running test pulse: output, high side, end of the pulse
  tests    : Nat := 0               -- DIO_SQ_TESTS
  tmOn     : Bool := false          -- the outputs of PROT_TM_DQ are commanded on (R210)
  dropped  : Bool := false          -- a protection output dropped with VF since the last frame (R329)
  deriving DecidableEq, Repr, Inhabited

end Sys2Proof.Machine
end

