-- ==== Sys2Proof/Machine/Regs/Firmware.lean ====
section
/-! DEFINITION. State of firmware update (16_firmware_update). -/
namespace Sys2Proof.Machine

/-- FW_STATE (Table 16-5). -/
inductive FwState where
  | idle | deltaStored | applying | verifying | verified | shadow | probation | rejected | failed | recovery
  deriving DecidableEq, Repr, Inhabited

/-- FW_LAST_RESULT (Table 16-5). -/
inductive FwResult where
  | none | committed | abandoned | rolledBack | rejected | failed
  deriving DecidableEq, Repr, Inhabited

/-- A copy of the bank pointer (R389). -/
structure BankPtr where
  bank : Nat := 0
  seq  : Nat := 0
  pkg  : Nat := 0
  ok   : Bool := true
  deriving DecidableEq, Repr, Inhabited

/-- State behind the FW_ entries. A bank is the list of its 4 KiB blocks written in the field, numbers rising; any other block
holds what manufacture put there. -/
structure FwRegs where
  state    : FwState := .idle
  bankA    : List (Nat × List Byte) := []
  bankB    : List (Nat × List Byte) := []
  validA   : Bool := true               -- bank A's package passed R380 at its last check
  validB   : Bool := false
  ptrA     : BankPtr := {}
  ptrB     : BankPtr := {}
  running  : Nat := 0                   -- the bank the running image came from
  delta    : List Byte := []            -- the delta store (R382)
  block    : Nat := 0                   -- FW_BLOCK_NEXT
  retried  : Bool := false              -- the block has been rebuilt once
  abort    : Bool := false              -- FW_ABORT waits for the end of the block
  vcrc     : Nat := 0                   -- CRC-32C of the stored delta
  journal  : List (Nat × List Byte) := [] -- firmware entries: JSEQ, payload (Table 16-3)
  counter  : Nat := 0
  framesIn : Nat := 0                   -- frames since the shadow's first import
  starting : Bool := false              -- accepted, SHADOW from the first frame boundary after the new image has booted
  startedAt : Nat := 0                  -- SYS frame count of the boundary t0 of Table 16-4
  commitNext : Bool := false            -- an accepted report: commit at the next frame boundary
  backNext : Option Nat := none         -- a handback at the next frame boundary, with its fault code
  probation : Nat := 0
  pairNo   : Nat := 0                   -- FW_RUNNING_PAIR
  last     : FwResult := .none
  activations : Nat := 0
  recTotal : Nat := 0                   -- recovery load: TOTAL, VCRC, bytes written
  recVcrc  : Nat := 0
  recNext  : Nat := 0
  deriving DecidableEq, Repr, Inhabited

end Sys2Proof.Machine
end

