-- ==== Sys2Proof/Machine/Regs/Memory.lean ====
section
/-! DEFINITION. State of memory integrity (17_memory_integrity), in the order of regions of R408. -/
namespace Sys2Proof.Machine

/-- KIND of MEM_LAST_ERROR. -/
inductive MemErr where
  | none | data | check | uncorrectable
  deriving DecidableEq, Repr, Inhabited

/-- A row in which blocks have been corrected since the last start: SRAM macro, row, the laps in which it happened (R404). -/
structure RowHits where
  sram  : Nat
  row   : Nat
  laps  : Nat
  last  : Nat
  deriving DecidableEq, Repr, Inhabited

/-- One of the 13 regions. -/
structure Region where
  lap       : Nat := 0              -- laps ended since the start
  walk      : Nat := 0              -- the number of the block that the engine reads next (R403)
  readAt    : Option Nat := none    -- plant time of its last read
  lapMs     : Nat := 0              -- the lap clock, ms (R403)
  lapTime   : Nat := 0              -- s, MEM_LAP_TIMES
  corrected : Nat := 0
  checkbit  : Nat := 0
  uncorr    : Nat := 0
  recent    : List Nat := []        -- plant times of the corrections of the last hour
  deriving DecidableEq, Repr, Inhabited

/-- State behind the MEM_ entries. -/
structure MemRegs where
  regions  : Vector Region 13 := Vector.replicate 13 {}
  lastKind : MemErr := .none
  lastRegion : Nat := 0
  lastOffset : Nat := 0
  lastTime : Nat := 0
  rows     : List RowHits := []
  softMap  : List (Nat × Nat) := [] -- MEM_SOFT_MAP: macro, row; kept in MRAM
  applied  : Nat := 0               -- MEM_SPARES_SOFT
  pending  : Nat := 0               -- MEM_SPARES_PENDING
  bankBad  : List (Nat × Nat) := [] -- uncorrectable blocks of flash: bank, offset / 8 (R406)
  deriving DecidableEq, Repr, Inhabited

end Sys2Proof.Machine
end

