-- ==== Sys2Proof/Machine/Regs/Net.lean ====
section
/-! DEFINITION. State of the plant network and of plant time (11_plant_network_and_time). -/
namespace Sys2Proof.Machine

/-- A frame waiting for an egress port (R270, R271): its number, its queue Q0 to Q3, and its bytes less the FCS. -/
structure Queued where
  no    : Nat
  prio  : Nat
  bytes : List Byte
  badFcs : Bool := false
  deriving DecidableEq, Repr, Inhabited

/-- Counters and state of one Ethernet port, in the order of NET_PORT_STATS, and its peer-delay measurement (R280). -/
structure EthPort where
  link    : Bool := false
  rx      : Nat := 0
  tx      : Nat := 0
  fcs     : Nat := 0
  drops   : Nat := 0
  delay   : Nat := 0
  okRun   : Nat := 0
  failRun : Nat := 0
  capable : Bool := false
  pdSeq   : Nat := 0              -- sequenceId of the last Pdelay_Req sent
  pdAt    : Option Nat := none    -- instant at which it left (R280)
  pdOut   : Bool := false         -- it has drawn no answer yet
  queue   : List Queued := []     -- frames stored for this port, oldest first
  used    : Nat := 0              -- octet times used of the present ms
  deriving DecidableEq, Repr, Inhabited

/-- A learned address of a filtering database (R269): the address, the port (NET_LINK order) it was seen on, and when it was last seen. -/
structure FdbEntry where
  mac  : List Byte
  port : Nat
  at_  : Nat
  deriving DecidableEq, Repr, Inhabited

/-- A node-table entry (R272): source, sequence number, LAN and time of a received frame. -/
structure PrpSeen where
  mac : List Byte
  seq : Nat
  lan : Lan
  at_ : Nat
  deriving DecidableEq, Repr, Inhabited

/-- What the NET_ entries and the endpoint hold. -/
structure NetRegs where
  ports    : Vector EthPort 4 := Vector.replicate 4 {}
  rxA      : Bool := false          -- LAN A receiving
  rxB      : Bool := false
  heardA   : Option Nat := none     -- instant of the last valid frame on LAN A since the start (R273)
  heardB   : Option Nat := none
  fdbA     : List FdbEntry := []
  fdbB     : List FdbEntry := []
  prpSeq   : Nat := 0               -- redundancy control trailer sequence number
  supSeq   : Nat := 0               -- supervision sequence number
  supAt    : Option Nat := none     -- instant of the last supervision frame (R272)
  seen     : List PrpSeen := []     -- newest first
  nodes    : List (List Byte × Nat) := []  -- sources seen and when, newest first (512 at most)
  sentA    : Nat := 0               -- NET_PRP_STATS
  sentB    : Nat := 0
  uniqueA  : Nat := 0
  uniqueB  : Nat := 0
  dups     : Nat := 0
  wrongA   : Nat := 0
  wrongB   : Nat := 0
  wrongAt  : List (Lan × Nat) := [] -- LANs and times of the wrong-LAN frames of the last second
  dropNoBuf : Nat := 0
  dropAt   : List Nat := []         -- times of the drops of the last second
  frameNo  : Nat := 0               -- number of the last frame stored
  fenceA   : Bool := false          -- LAN A stopped: both its ports failed their self-check (Table 19-2)
  fenceB   : Bool := false
  bcCount  : Nat := 0               -- broadcast and multicast frames to the endpoint in this ms
  pings    : List Nat := []         -- times of the echo replies of the last second
  ip       : Nat := 0               -- NET_IP_ACTIVE
  dhcpIp   : Nat := 0               -- address offered by DHCP, not yet probed
  leaseEnd : Option Nat := none     -- plant time at which the DHCP lease ends
  renewAt  : Option Nat := none     -- half of the lease has passed: the client asks for its renewal (RFC 2131)
  dhcpAt   : Option Nat := none     -- instant of the client's last message
  dhcpXid  : Nat := 0               -- its transaction
  dhcpSrv  : Nat := 0               -- the server that leased the address
  probe    : Nat := 0               -- address under probe (R275), 0 = none
  probeAt  : Nat := 0               -- instant at which its probe began
  probeHit : Bool := false          -- another host has shown that it uses it (RFC 5227)
  svcSeen  : Bool := false          -- a frame from the service MAC has arrived in this frame (0x7016)
  garpLeft : Nat := 0               -- gratuitous announcements still to send (R277)
  garpAt   : Option Nat := none     -- instant of the last one
  deriving DecidableEq, Repr, Inhabited

/-- One Announce data set (R282), compared field by field; lower is better. -/
structure Master where
  prio1  : Nat := 0
  class_ : Nat := 0
  acc    : Nat := 0
  var    : Nat := 0
  prio2  : Nat := 0
  gm     : Nat := 0
  steps  : Nat := 0
  src    : Nat := 0                 -- sourcePortIdentity
  utc    : Int := 0
  at_    : Nat := 0                 -- arrival of its last Announce
  every  : Nat := 1000000000        -- its announce interval, ns
  deriving DecidableEq, Repr, Inhabited

/-- One PTP instance (R282). -/
structure PtpInst where
  masters : List Master := []       -- Announce data sets heard on its LAN in its domain
  master  : Option Master := none   -- the selected master: SLAVE
  gmSince : Nat := 0                -- since when its grandmaster identity is unchanged
  qual    : Bool := false           -- that has lasted PTP_GM_QUAL_T
  sync    : Bool := false           -- a Sync was accepted within the last 3 sync intervals
  syncAt  : Nat := 0                -- arrival of the last Sync accepted
  every   : Nat := 1000000000       -- its sync interval, ns
  usableSince : Option Nat := none  -- since when the instance is usable without a break (R283)
  port    : Nat := 0                -- ingress port of that Sync
  offset  : Int := 0                -- local clock less this master, ns
  deriving DecidableEq, Repr, Inhabited

/-- PTP_STATE (R284). -/
inductive PtpState where
  | free | locked | slewing | holdover
  deriving DecidableEq, Repr, Inhabited

/-- A two-step Sync waiting for its Follow_Up (R281). -/
structure PendSync where
  port : Nat
  src  : Nat
  seq  : Nat
  domain : Nat
  t    : Nat                        -- ingress timestamp
  add  : Int                        -- residence, link delay and asymmetry, ns × 2^16
  corr : Int                        -- its own correctionField
  every : Option Nat                -- its sync interval, ns, where R278 accepts it
  deriving DecidableEq, Repr, Inhabited

/-- Plant time (R282 to R286). -/
structure PtpRegs where
  inst    : Vector PtpInst 4 := Vector.replicate 4 {}
  state   : PtpState := .free
  ref     : Option Nat := none      -- PTP_REF
  lastRef : Option Nat := none      -- the last instance that was the reference
  offset  : Int := 0
  freq    : Int := 0                -- PTP_FREQ
  outRun  : Nat := 0                -- consecutive Syncs beyond PTP_LOCK_NS
  acquired : Bool := false          -- a reference has been in use since the last reset (R285)
  stepDue : Option Int := none      -- step of the first acquisition, ms, at the next frame boundary
  stepMs  : Int := 0
  changes : Nat := 0                -- PTP_REF_CHANGES
  holdMs  : Nat := 0                -- time in HOLDOVER, ms
  stored  : Nat := 0                -- the clock value in MRAM, ns
  storedFreq : Int := 0             -- the frequency correction in MRAM (R284)
  storeAt : Option Nat := none      -- instant of the last write of both
  freqLog : List (Nat × Int) := []  -- corrections of the last 60 s of lock and since when, newest first (R284)
  domSince : Option Nat := none     -- since when the domains differ by more than PTP_DOM_DIS (R286)
  lanSince : Option Nat := none     -- since when the LANs differ by more than PTP_LAN_DIS
  pend    : List PendSync := []
  deriving DecidableEq, Repr, Inhabited

end Sys2Proof.Machine
end

