-- ==== Sys2Proof/Machine/Regs/Chain.lean ====
section
/-! DEFINITION. State of the Giton chain and of the cell sweeps (02_giton_chain, 03_cell_sweeps_and_balancing). Times are plant
time in ns unless a comment says otherwise. -/
namespace Sys2Proof.Machine

/-- CHN_STATE (Table 2-13). -/
inductive ChainState where
  | unconfigured | enumerating | running | degraded | singleRadio | failed
  deriving DecidableEq, Repr, Inhabited

/-- CHN_NODE_STATE (Table 2-14). -/
inductive NodeState where
  | absent | ok | unreached | nodeFault | unkeyed
  deriving DecidableEq, Repr, Inhabited

/-- The topologies of R37, R45 and R47. -/
inductive Topology where
  | configured | resplit | single
  deriving DecidableEq, Repr, Inhabited

/-- What the module keeps of one node (Table 2-14, R50, R63). -/
structure Node where
  id        : Nat := 0
  state     : NodeState := .absent
  cells     : Nat := 0
  rssi      : Int := 0
  lastSweep : Nat := 0
  status    : Nat := 0           -- record bytes 42-43
  fw        : Nat := 0
  corner    : Nat := 4           -- CHN_NODE_CORNER in effect (R56)
  openLeads : Nat := 0           -- bit i: lead i reported open (R62, R63)
  leadKnown : Bool := false      -- the READ_LEAD_STATUS reply of this episode has arrived (R63)
  p0        : Nat := 0           -- first position of the node (R58)
  multiWait : Bool := false      -- MULTI_LEAD seen, READ_LEAD_STATUS reply outstanding (R63)
  clearRun  : Nat := 0           -- consecutive sweeps with LEAD = 31 and MULTI_LEAD clear (R63)
  filterAct : Option Nat := none -- sweep at which a commanded FILTER_SET takes effect (R50)
  duties    : List Nat := []     -- the duties of the last DUTY slice (R37)
  dutyAt    : Nat := 0           -- instant of that slice
  key       : List Byte := []    -- the key the node holds (R54)
  replyCtr  : Nat := 0           -- counter of the last reply accepted from it (R53)
  answered  : Bool := false      -- READ_ID answered since the enumeration (R27)
  late      : Bool := false      -- a REPLY was late or missing (R39, R55)
  deriving DecidableEq, Repr, Inhabited

/-- A record accepted in the running sweep, with the radio that received it. -/
structure GotRec where
  node    : Nat                  -- forward index h
  radio   : Radio
  bytes   : List Byte            -- plaintext bytes 0-43 of Table 2-7
  instant : Nat
  deriving DecidableEq, Repr, Inhabited

/-- How far one radio has come in the running sweep (R37, R41, R42). -/
structure HalfSweep where
  done       : Bool := false     -- train received or deadline passed
  doneAt     : Nat := 0
  broken     : Bool := false     -- R41
  recovering : Bool := false     -- this radio is recovering the other half
  recInstant : Nat := 0
  recReach   : Nat := 0
  recovered  : Bool := false     -- the recovery from this radio has ended
  recEndAt   : Nat := 0          -- instant at which it ended
  dutySent   : Bool := false     -- the DUTY frame has left, or an exchange has taken its place
  displaced  : Bool := false     -- a service exchange took the duty train's place in this sweep (R39)
  lastDisplaced : Bool := false  -- the same in the sweep before
  deriving DecidableEq, Repr, Inhabited

/-- The running sweep. -/
structure Sweep where
  run       : Bool := false      -- a sweep has been launched since the enumeration
  active    : Bool := false      -- launched and not yet complete
  launch    : Nat := 0
  instant   : Nat := 0
  hmax      : Nat := 0
  got       : List GotRec := []
  split     : Bool := false
  stretched : Bool := false
  a         : HalfSweep := {}
  b         : HalfSweep := {}
  deriving DecidableEq, Repr, Inhabited

/-- A COMMAND of Table 2-4 that the module sends. Node h is named where the command goes to one node; a TOPOLOGY without one is a
broadcast. `learn` stands for the two TOPOLOGY commands of R71, effective at k and k + 1. -/
inductive ChainCmd where
  | enumStep (v : Nat)
  | enumInvite
  | enumAssign (token h : Nat)
  | enumCheck
  | topology (h : Option Nat) (n split chA chB period balMode act : Nat)
  | learn (second : Bool) (k : Nat)
  | filterSet (h act : Nat)
  | channelSet (chA chB act : Nat)
  | channelCancel (act : Nat)
  | readId (h : Nat)
  | readLeadStatus (h : Nat)
  | keyLoad (h : Nat) (clear : Bool)
  deriving DecidableEq, Repr, Inhabited

/-- A REPLY an exchange waits for: the node, its opcode, and the instant T_X after the command left (R39). -/
structure Await where
  h   : Nat
  op  : Nat
  due : Nat
  deriving DecidableEq, Repr, Inhabited

/-- The latest completed sweep in which the cause of a chain or cell fault was present (R57, R78). -/
structure Cause where
  code  : Nat
  inst  : Nat
  sweep : Nat
  deriving DecidableEq, Repr, Inhabited

/-- A queued command and the half that sends it. -/
structure QueuedCmd where
  radio : Radio
  cmd   : ChainCmd
  deriving DecidableEq, Repr, Inhabited

/-- A learning triple (R71): the sweep it learns in, which inputs are driven, and the readings taken so far. -/
structure Triple where
  k       : Nat
  s       : Nat
  before  : List (Nat × List Nat) := []   -- node, U_i of sweep k - 1
  during  : List (Nat × List Nat × Nat) := []   -- node, U_i and BAL of sweep k
  iBefore : Int := 0                       -- string current at k - 1
  bad     : Bool := false                  -- R72
  deriving DecidableEq, Repr, Inhabited

/-- State of radio and sweep sequencer behind the CHN_ entries (Table 2-13). -/
structure ChainRegs where
  slot       : Nat := 0                   -- M's microcode slot in use (R381)
  state      : ChainState := .unconfigured
  topo       : Topology := .configured
  n          : Nat := 0                   -- nodes of the last enumeration
  resplitLo  : Nat := 0                   -- radio A serves 1..resplitLo in the re-split topology
  resplitHi  : Nat := 0                   -- radio B serves resplitHi..n
  fencedA    : Bool := false              -- baseband A failed (R47)
  fencedB    : Bool := false
  sweepCtr   : Nat := 0                   -- CHN_SWEEP_CTR
  cmdCtrA    : Nat := 0                   -- per-radio command counters (Table 2-11)
  cmdCtrB    : Nat := 0
  storedSweep : Nat := 0                  -- the MRAM copies of the three counters (R53)
  storedA    : Nat := 0
  storedB    : Nat := 0
  sweep      : Sweep := {}
  lastInstant : Nat := 0                  -- CHN_LAST_INSTANT
  lastSplit  : Bool := false              -- CHN_SWEEP_FLAGS
  lastStretched : Bool := false
  breakLo    : Nat := 0
  breakHi    : Nat := 0
  prevBreak  : Option (Nat × Nat) := none -- break interval of the sweep before, if it was broken
  effPeriod  : Nat := 20                  -- ms, CHN_EFF_PERIOD
  hmax       : Nat := 0                   -- CHN_H_MAX
  crcErrA    : Nat := 0
  crcErrB    : Nat := 0
  micErr     : Nat := 0
  splitSweeps : Nat := 0
  chA        : Nat := 3                   -- channels in force (CHN_CHAN_ACTIVE)
  chB        : Nat := 11
  deriving DecidableEq, Repr, Inhabited

/-- The rest of the chain's state: channel changes, probes, authentication, filters, queues, learning. -/
structure ChainCtl where
  chanPend   : Option (Nat × Nat × Nat) := none  -- CH_A, CH_B, ACT of an armed change (R48)
  chanOk     : Bool := false              -- every delivering node reported CH_ARMED in the sweep before ACT (R48)
  chanWant   : Nat × Nat := (3, 11)       -- channels last asked for by the configuration
  framesA    : Nat := 0                   -- frames and CRC failures of the 100-sweep count (R49)
  framesB    : Nat := 0
  failsA     : Nat := 0
  failsB     : Nat := 0
  evalSweepsA : Nat := 0                  -- sweeps counted since each radio was last judged (R49)
  evalSweepsB : Nat := 0
  chanFails  : Vector Nat 16 := Vector.replicate 16 0  -- failures observed per channel (R49)
  leftAt     : Vector (Option Nat) 16 := Vector.replicate 16 none  -- sweep at which a channel was left (R49)
  micWindow  : Nat := 0                   -- failures in the current 100 sweeps (R53)
  micSweeps  : Nat := 0
  probeMiss  : Nat := 0                   -- consecutive sweeps without PROBE in the configured topology (R46)
  probeRun   : Nat := 0                   -- consecutive sweeps with PROBE heard in both directions (R46)
  restoreAt  : Option Nat := none         -- sweep at which the configured topology returns (R46)
  resplitNext : Option (Nat × Nat) := none -- re-split from the next sweep (R45)
  period     : Nat := 20                  -- RWC values in effect since the last launch (R56, R77)
  filterCorner : Nat := 2
  notchEn    : Nat := 1
  notchFreq  : Nat := 25000               -- CVT_PWM_FREQ as last sent (R51)
  balMode    : Nat := 0
  nodeBalMode : Nat := 0                  -- BAL_MODE the nodes apply at the running sweep (R64, R71)
  balActs    : List (Nat × Nat) := []     -- BAL_MODE changes sent to the nodes: ACT and mode (R64, R71)
  queue      : List QueuedCmd := []
  busyA      : Nat := 0                   -- end of the last exchange of each half (R39)
  busyB      : Nat := 0
  awaitA     : Option Await := none       -- the REPLY each half waits for (R39)
  awaitB     : Option Await := none
  causes     : List Cause := []           -- when the causes of chain and cell faults were last present (R57, R78)
  iMax       : Nat := 0                   -- largest string current magnitude since the launch (R72)
  idWait     : Bool := false              -- the map waits for the nodes' identities (R27, R58)
  packKey    : List Byte := List.replicate 16 0  -- CHN_PACK_KEY, never readable (R54)
  keyId      : Nat := 0                   -- KEY_ID of the last KEY_LOAD
  sinceLearn : Nat := 0                   -- sweeps since the last triple (R71)
  learnPhase : Nat := 0                   -- s of the next triple
  triple     : Option Triple := none
  sincePoll  : Nat := 0                   -- sweeps since the last identity poll (R122)
  enumNodes  : Bool := false              -- a successful enumeration stands
  enumEnd    : Nat := 0                   -- instant at which the last enumeration ended (R214)
  deriving DecidableEq, Repr, Inhabited

/-- A quality byte (Table 3-1) as named flags. -/
structure Qual where
  nodeFault   : Bool := false
  unreached   : Bool := false
  compensated : Bool := false
  split       : Bool := false
  aged        : Bool := false
  valid       : Bool := false
  deriving DecidableEq, Repr, Inhabited

/-- CELL_LEAD_SRC_LO and _HI (Table 3-6). -/
inductive LeadSrc where
  | none | configured | learned
  deriving DecidableEq, Repr, Inhabited

/-- The learning filter of one lead (R71 step 5): samples seen, their running sum while fewer than 4, the value in µΩ. -/
structure LeadFilter where
  count : Nat := 0
  sum   : Int := 0
  r     : Int := 0
  deriving DecidableEq, Repr, Inhabited

/-- What the module keeps of one position (Table 3-6). -/
structure Cell where
  v       : Nat := 65535
  vq      : Qual := {}
  t       : Int := -32768
  tq      : Qual := {}
  instant : Nat := 0
  raw     : Nat := 65535
  corr    : Int := 0
  node    : Nat := 0
  input   : Nat := 0
  tempSrc : Nat := 4              -- CELL_TEMP_SRC in effect (R77)
  duty    : Nat := 0
  dutySend : Nat := 0             -- the duty of the latest sweep completed before the launch (R74)
  on      : Bool := false         -- on[n] of R75
  srcLo   : LeadSrc := .none
  srcHi   : LeadSrc := .none
  learnLo : LeadFilter := {}
  learnHi : LeadFilter := {}
  killed  : Bool := false         -- R66 cleared VALID on the reading
  recInst : Bool := false         -- the value was sampled at a recovery instant
  fresh   : Bool := false         -- arrived since protection last evaluated it (R191)
  leadFlt : Bool := false         -- faulted by an open lead (R62, R63)
  lastValid : Option Nat := none  -- instant of the last VALID voltage since it was mapped (R193, R214)
  lastValidT : Option Nat := none -- instant of the last VALID temperature
  deriving DecidableEq, Repr, Inhabited

/-- STR_MAP_STATE (Table 3-5). -/
inductive MapState where
  | unmapped | mapped | mismatch
  deriving DecidableEq, Repr, Inhabited

/-- Nodes, positions and the map. -/
structure CellRegs where
  nodes : Vector Node 32 := Vector.replicate 32 {}
  cells : Vector Cell 256 := Vector.replicate 256 {}
  done  : Vector Cell 256 := Vector.replicate 256 {}  -- the values of the last completed sweep, for E (R19)
  map   : MapState := .unmapped
  posCount : Nat := 0             -- positions mapped
  doneCtr : Nat := 0              -- its sweep counter
  sweepNew : Bool := false        -- a sweep completed and E has not used it (R19)
  sweepNo  : Nat := 0             -- completed sweeps since reset
  deriving DecidableEq, Repr, Inhabited

end Sys2Proof.Machine
end

