-- ==== Sys2Proof/Machine/Regs/Control.lean ====
section
/-! DEFINITION. State of the Stage link, the control engine and the PWM timebase (06_stage_link_and_control_engine), and of modes,
ramps, set-point sources and phase shedding (07_setpoints_modes_droop). -/
namespace Sys2Proof.Machine

/-- States of a lane (R139). -/
inductive LaneState where
  | down | training | up | selected
  deriving DecidableEq, Repr, Inhabited

/-- CU_STATE (Table 6-10). -/
inductive CuState where
  | off | run | track | fenced | spare
  deriving DecidableEq, Repr, Inhabited

/-- One compensator unit (R147): histories, counts and the parameters in effect (R154). -/
structure Cu where
  state : CuState := .spare
  e1 : Int := 0
  e2 : Int := 0
  e3 : Int := 0
  u1 : Int := 0
  u2 : Int := 0
  u3 : Int := 0
  sat   : Nat := 0
  wraps : Nat := 0
  out   : Int := 0
  typ   : Nat := 0
  b     : List Int := [0, 0, 0, 0]
  a     : List Int := [0, 0, 0]
  shift : Nat := 8
  emax  : Nat := 100000
  satMax : Nat := 1000
  deriving DecidableEq, Repr, Inhabited

/-- CVT_TB_STATE (Table 6-9). -/
inductive TbState where
  | free | locking | locked | gliding | stage
  deriving DecidableEq, Repr, Inhabited

/-- CU_ENGINE_STATE (Table 6-10). -/
inductive EngState where
  | idle | running | held
  deriving DecidableEq, Repr, Inhabited

/-- The fields of the last usable SAMPLE frame (Table 6-2). -/
structure Sample where
  dseq : Nat := 0
  scnt : Nat := 0
  iPh  : List Int := List.replicate 12 0   -- counts of CVT_IPH_LSB
  vStr : Int := 0
  vBus : Int := 0
  iStr : Int := 0
  tHs  : List Int := List.replicate 4 0
  lane : Nat := 0
  holding : Bool := false
  miss : Nat := 0
  stopped : Bool := false
  fault : Bool := false
  overtemp : Bool := false
  overcurrent : Bool := false
  selConflict : Bool := false
  deriving DecidableEq, Repr, Inhabited

/-- What IDENT and FAULTS replies gave (Table 6-3). -/
structure StageInfo where
  id : Nat := 0
  phases : Nat := 0
  fswMin : Nat := 0
  fswMax : Nat := 0
  iRated : Nat := 0
  vbusMax : Int := 0
  vstrMax : Int := 0
  iphLsb : Nat := 0
  fw : Nat := 0
  faults : Nat := 0
  known : Bool := false
  deriving DecidableEq, Repr, Inhabited

/-- Sums and means of the SAMPLE quantities over a frame (Table 6-9). -/
structure FrameMeans where
  n    : Nat := 0
  vStr : Int := 0
  vBus : Int := 0
  iStr : Int := 0
  iSum : Int := 0
  iPh  : List Int := List.replicate 12 0   -- mA
  deriving DecidableEq, Repr, Inhabited

/-- A DUTY frame's contents (Table 6-1), less SEQ. -/
structure DutyOut where
  act  : Bool := false
  held : Bool := false
  run  : Bool := false
  en   : Nat := 0
  duty : Nat := 0
  angles : List Nat := List.replicate 12 0
  deriving DecidableEq, Repr, Inhabited

/-- A service request whose reply is awaited (R137): its opcode, its TAG, the PWM boundaries since it left. -/
structure SvcReq where
  op  : Nat
  tag : Nat
  age : Nat := 0
  deriving DecidableEq, Repr, Inhabited

/-- The parameters that C uses between two boundaries, as it latched them at the last PWM boundary (R142, R188). -/
structure CLatch where
  dutyMin  : Int := 3277           -- CVT_DUTY_MIN
  dutyMax  : Int := 62259          -- CVT_DUTY_MAX
  dirHyst  : Int := 0              -- SP_DIR_HYST
  dirDwell : Nat := 4              -- SP_DIR_DWELL
  lstep    : Int := 200            -- SP_LSTEP
  shedHold : Nat := 50             -- SP_SHED_HOLD
  deriving DecidableEq, Repr, Inhabited

/-- State of the Stage link and the engine. -/
structure LinkRegs where
  slot    : Nat := 0               -- C's microcode slot in use (R381)
  lane0   : LaneState := .down
  lane1   : LaneState := .down
  good0   : Nat := 0               -- SAMPLE frames with a valid CRC since TRAINING
  good1   : Nat := 0
  select  : Option Nat := none     -- the lane whose select the module asserts
  seq     : Nat := 0               -- last DUTY SEQ sent
  last    : DutyOut := {}          -- the last DUTY frame sent
  next    : DutyOut := {}          -- computed, leaves at t_D
  computed : Bool := false         -- a usable SAMPLE was computed on in this period
  offReq  : Bool := false          -- MODE OFF required by S or by a fault (R142, R143)
  offSent : Bool := false          -- a DUTY frame has carried that MODE OFF
  usable  : Bool := false          -- a usable SAMPLE has arrived in this period
  badCrc  : Bool := false          -- a SAMPLE frame that fails R134 has arrived in this period
  judged  : Bool := false          -- the sample deadline of this period has been judged
  sent    : Bool := false          -- the DUTY frame of this period has left
  doneAt  : Nat := 0               -- instant at which the computation of this period is complete
  missRun : Nat := 0               -- consecutive periods without a usable SAMPLE (R144)
  lateAt  : List Nat := []         -- times of the late or bad periods of the last second (R143)
  dseqRun : Nat := 0               -- consecutive DSEQ differences (R145)
  overRun : Nat := 0               -- consecutive computation overruns (R163)
  faultsReq : Bool := false        -- a FAULTS request is due (R145)
  identReq : Bool := false         -- an IDENT request is due (R161)
  clearReq : Bool := false         -- a FAULT_CLEAR request is due (R145)
  svc     : List SvcReq := []      -- requests whose replies are awaited (R137)
  selAt   : Nat := 0               -- tb.boundaries when the select last changed (R138, R146)
  moveFrom : Option Nat := none    -- a selected lane fell; the select moves at the next boundary (R139)
  tag     : Nat := 0
  sample  : Sample := {}
  stage   : StageInfo := {}
  acc     : FrameMeans := {}       -- running sums of the present frame
  accNow  : FrameMeans := {}       -- the sample of the running PWM period, complete at its end (R19)
  lat     : CLatch := {}
  imbWarn : List (Option Nat) := List.replicate 12 none  -- m_j above CVT_IMB_WARN since (R160)
  imbShed : List (Option Nat) := List.replicate 12 none  -- m_j above CVT_IMB_SHED since
  mean    : FrameMeans := {}       -- means of the last frame (n = 0: no usable SAMPLE in it)
  cu      : Vector Cu 8 := Vector.replicate 8 {}
  vloop   : Nat := 0               -- CVT_CU_MAP in effect
  dis     : Nat := 1
  chg     : Nat := 2
  engine  : EngState := .idle
  computeMax : Nat := 0
  noSpare : Bool := false          -- 0x4104 in force (R153)
  moved   : List (Nat × Nat) := []   -- fenced units whose settings a spare takes in this sample (R153)
  late    : Nat := 0               -- CVT_SAMPLE_LATE
  crcErr  : Nat := 0
  dseqErr : Nat := 0
  faulted : Nat := 0               -- CVT_PHASE_FAULTED
  deriving DecidableEq, Repr, Inhabited

/-- State of the PWM timebase (R155 to R159). -/
structure TbRegs where
  state    : TbState := .free
  phaseErr : Int := 0              -- ns
  period   : Nat := 40000000       -- ps, CVT_PWM_PERIOD
  lastEdge : Option Nat := none    -- last SYNC_IN edge, ns
  edge     : Int := 0              -- its filtered instant, ps
  filt     : Int := 0              -- filtered edge period, ps
  lostRate : Int := 0              -- last locked period, ps
  lockRun  : Nat := 0              -- consecutive periods within 20 ns
  valley   : Nat := 0              -- plant time of the last reference valley, in steps of 2.5 ns (R155)
  phase    : Nat := 0              -- phase accumulator at that valley, 1/2^48 of a period (R155)
  arrival  : Option (Nat × Nat) := none -- instant and SCNT of the last SAMPLE frame that a standby follows (R159)
  boundaries : Nat := 0            -- valleys since reset
  imbPhase : List Nat := List.replicate 12 0  -- m_j of the last frame (CVT_IMBALANCE)
  deriving DecidableEq, Repr, Inhabited

/-- SP_MODE (Table 7-1). -/
inductive Mode where
  | parked | standby | busVoltage | stringCurrent | stringPower
  deriving DecidableEq, Repr, Inhabited

/-- The direction state (R174). -/
inductive Dir where
  | dis | chg
  deriving DecidableEq, Repr, Inhabited

/-- A mode action that waits for a PWM boundary. -/
inductive ModeReq where
  | none | standby | opening | run (m : Mode)
  deriving DecidableEq, Repr, Inhabited

/-- One external set-point source (R169, R170). -/
structure Source where
  y      : Int := 0
  lastX  : Int := 0
  cond   : Bool := false           -- a loss condition is present
  since  : Nat := 0                -- instant from which it has been present, or absent
  hold   : Int := 0                -- y before the condition began
  lost   : Bool := false
  rise   : Option Nat := none      -- last rising edge, ns (PI_SP)
  deriving DecidableEq, Repr, Inhabited

/-- State of modes, ramp and shedding. -/
structure SpRegs where
  mode     : Mode := .parked
  r        : Int := 0              -- mode unit × 2^-16
  tgt      : Int := 0              -- latched target, mode unit × 2^-16
  dir      : Dir := .dis
  dwell    : Nat := 0
  dz       : Nat := 0              -- duty applied in the last switching period (R175)
  modeOff  : Bool := false         -- MODE OFF by the dwell
  rateLimited : Bool := false
  sopClamped  : Bool := false
  toStandby : Bool := false        -- ramp-down towards STANDBY (R477)
  rampOpen  : Bool := false        -- the same ramp as step 1 of OPEN
  offNext   : Bool := false        -- reference has reached 0; MODE OFF from the next boundary (R477)
  failed    : Bool := false        -- a unit failed: STANDBY from the next boundary (R149)
  flipDue   : Bool := false        -- the dwell has run; the direction changes (R175)
  iRef     : Int := 0              -- current reference applied, mA
  iRamp    : Int := 0              -- ramped current reference of a BUS_VOLTAGE ramp-down, mA × 2^-16
  vRef     : Int := 0
  iRaw     : Int := 0
  iBus     : Int := 0
  disLim   : Int := 0              -- limits latched by C, mA
  chgLim   : Int := 0
  wDis     : Int := 0              -- limits written by H at step 6 (R142)
  wChg     : Int := 0
  wV       : Int := 800000         -- set-points written by H at step 6
  wI       : Int := 0
  wP       : Int := 0
  accepted : ModeReq := .none      -- accepted, waits for step 6 (R166)
  req      : ModeReq := .none      -- carried by step 6, waits for the boundary
  ai       : Source := {}
  pi       : Source := {}
  wantShed : Option Nat := none    -- phase to disable at the next boundary
  wantAdd  : Option Nat := none
  changed  : Bool := false         -- a phase change was decided in this frame (R184)
  redist   : Nat := 0              -- remaining redistribution steps
  moving   : Bool := false         -- REDISTRIBUTING: the phases move to their angles (R185)
  fromAng  : List Nat := List.replicate 12 0
  toAng    : List Nat := List.replicate 12 0
  ang      : List Nat := List.replicate 12 0
  en       : Nat := 0              -- enabled phases
  shedHold : Bool := false
  holdEnd  : Option Nat := none    -- end of the shed hold; none until its first boundary (R187)
  lowSince : Option Nat := none    -- the load has stayed below the shed threshold since (R183)
  loadStepFlag : Bool := false     -- SP_STATUS bit 6
  loadSteps : Nat := 0
  hist     : List Int := []        -- I_sum of the last periods, newest first (R187)
  quiet    : Nat := 0              -- periods in which the load-step test is suspended (R187)
  deriving DecidableEq, Repr, Inhabited

end Sys2Proof.Machine
end

