-- ==== Sys2Proof/Machine/Regs/Sessions.lean ====
section
/-! DEFINITION. State of sessions, change sets, the journal and block transfers (10_object_dictionary R249 to R265). -/
namespace Sys2Proof.Machine

/-- A reply of the object access protocol (Table 10-5). -/
structure Reply where
  dest    : Via
  op      : Nat
  flags   : Nat
  status  : Nat
  ses     : Nat
  seq     : Nat
  index   : Nat
  sub     : Nat
  jseq    : Nat
  payload : List Byte
  deriving DecidableEq, Repr, Inhabited

/-- A request held until the gap before it fills (R253). -/
structure Held where
  req   : Req
  since : Nat
  deriving DecidableEq, Repr, Inhabited

/-- The snapshot of a block read (R264). -/
structure Snapshot where
  id    : Nat
  index : Nat
  sub   : Nat
  value : List Byte
  deriving DecidableEq, Repr, Inhabited

/-- The block buffer of a session (R265): bytes gathered so far and the ranges (offset, length) that have arrived. -/
structure BlockBuf where
  index : Nat
  sub   : Nat
  total : Nat
  vcrc  : Nat
  data  : List Byte
  got   : List (Nat × Nat)
  deriving DecidableEq, Repr, Inhabited

/-- One open session (R250 to R253). `staged` is its change set (R260), keyed by index * 256 + subindex. -/
structure Session where
  id      : Nat
  client  : Nat
  service : Bool := false
  next    : Nat := 1
  held    : List Held := []
  cache   : List Reply := []            -- replies to its last 32 sequenced requests, newest first
  staged  : List (Nat × Val) := []
  snap    : Option Snapshot := none
  block   : Option BlockBuf := none
  last    : Nat := 0                    -- plant time of its last request
  deriving DecidableEq, Repr, Inhabited

/-- Work of the frame's batch: a request whose checks are done, or a journal entry the module makes itself (R255, R257). -/
inductive Work where
  | request (req : Req) (reply : Reply)
  | own (type : Nat) (payload : List Byte)
  deriving DecidableEq, Repr, Inhabited

/-- A journal entry (Table 10-8), without its padding and CRC, which follow from its fields. -/
structure JEntry where
  jseq    : Nat
  type    : Nat
  ses     : Nat
  reqSeq  : Nat
  payload : List Byte
  done    : Bool                        -- the work is complete
  deriving DecidableEq, Repr, Inhabited

/-- A change set in the AT_IDLE queue (R262), with the JSEQ of its commit. -/
structure IdleSet where
  jseq : Nat
  set  : List (Nat × Val)
  deriving DecidableEq, Repr, Inhabited

/-- State behind the SES_ entries (Table 10-14). -/
structure SessionRegs where
  open_     : List Session := []
  gen       : Nat := 0                  -- generation of the next SES_ID (R250)
  snapNo    : Nat := 0                  -- last snapshot number issued (R264)
  batch     : List Work := []           -- checked, not yet committed, oldest first
  awaiting  : List (Nat × Work) := []   -- committed here with their JSEQ, the partner's acknowledgement outstanding
  journal   : List JEntry := []         -- oldest kept entry first (R256)
  jseq      : Nat := 0                  -- last committed JSEQ
  toApply   : List (Nat × List (Nat × Val)) := []  -- committed sets for the next frame boundary (R261), with their JSEQ
  idle      : List IdleSet := []        -- the AT_IDLE queue
  idleLast  : Nat := 0
  idleEntry : Nat := 0
  gaps      : Nat := 0
  replays   : Nat := 0
  crcErr    : Nat := 0
  canRx     : Option (List Byte × Nat × Nat) := none   -- message under assembly on CAN, its last SCNT and that segment's instant (R249)
  replayed  : Bool := false             -- the journal has been replayed since the last reset (R258)
  resumeIn  : Nat := 0                  -- frames until host services resume after a takeover (R259)
  svcEn     : Bool := true              -- SVC_EN contact asserted (R250); DESIGN CHOICE (log 49): asserted until SVC_EN_RELEASE
  deriving DecidableEq, Repr, Inhabited

end Sys2Proof.Machine
end

