-- ==== Sys2Proof/Machine/Regs/Output.lean ====
section
/-! DEFINITION. What the module sends or drives while a command runs. -/
namespace Sys2Proof.Machine

/-- One thing the module sent. `radio` is a frame on air as its bytes, preamble and sync word first, with the radio channel and the
power in dBm (R22, R29). `mirror` is a frame of a mirror lane (R359), `witness` a heartbeat or a lease frame on the network or on the
chassis witness bus (R366, R367), `aliveOut` a toggle of ALIVE_OUT (R356). -/
inductive Output where
  | reply (r : Reply)
  | canSegment (ch : CanCh) (id : Nat) (bytes : List Byte)
  | radio (r : Radio) (channel : Nat) (dbm : Int) (bytes : List Byte)
  | dutyFrame (lane : Nat) (bytes : List Byte)
  | stageService (lane : Nat) (bytes : List Byte)
  | stgSync
  | syncOut
  | laneSel (lane : Option Nat)
  | safetyFrame (lan : Lan) (bytes : List Byte)
  | eth (port : Port) (frame : List Byte)
  | canFrame (ch : CanCh) (m : MsgBuf)
  | fenceOut (on : Bool)
  | mirror (lane : Lane) (bytes : List Byte)
  | witness (net : Bool) (bytes : List Byte)
  | aliveOut
  | tap (bits : List Bool)
  | endpoint (lan : Lan) (frame : List Byte)
  | memWrite (region offset : Nat) (block : List Byte)
  deriving DecidableEq, Repr, Inhabited

end Sys2Proof.Machine
end

