-- ==== Sys2Proof/Machine/Regs/Pair.lean ====
section
/-! DEFINITION. State of pair operation and fail-over (15_pair_operation), and of the witness function (R368). -/
namespace Sys2Proof.Machine

/-- PAIR_ROLE (Table 22-5). -/
inductive Role where
  | active | standby | detached | fenced
  deriving DecidableEq, Repr, Inhabited

/-- REQUEST of a heartbeat (Table 15-5). -/
inductive PairReq where
  | none | takeover | handover | resign
  deriving DecidableEq, Repr, Inhabited

/-- PAIR_LEASE_STATE (Table 15-9). -/
inductive LeaseState where
  | none | witness | self | expired
  deriving DecidableEq, Repr, Inhabited

/-- A pair this module serves as witness (PAIR_SERVED), with the frames of heartbeats received since the witness started. -/
structure Served where
  epoch  : Nat := 0
  active : Option Nat := none
  miss0  : Nat := 0
  miss1  : Nat := 0
  heard  : Nat := 0
  known  : Bool := false            -- an EPOCH has been taken
  frame  : Option Nat := none       -- the frame of the last decision
  deriving DecidableEq, Repr, Inhabited

/-- State behind the PAIR_ entries. -/
structure PairRegs where
  role     : Role := .active
  paired   : Bool := false          -- PAIR_MODE
  partner  : Option Role := none    -- PAIR_PARTNER_ROLE
  partnerReady : Bool := false
  partnerLease : Bool := false      -- LEASE_SEEN of the partner's last heartbeat
  partnerReq : PairReq := .none
  partnerEpoch : Nat := 0
  member   : Nat := 0
  fenceIn  : Bool := false          -- FENCE_IN asserted: outputs, Stage link and LANE_SEL unpowered (R357)
  fenceOut : Bool := false          -- FENCE_OUT driven
  epoch    : Nat := 0
  request  : PairReq := .none
  reqFrames : Nat := 0              -- frames since the first TAKEOVER request
  noGrant  : Bool := false          -- PAIR_GRANT_WAIT has passed without a GRANT (R371, R373)
  grant    : Option Nat := none     -- a GRANT with its EPOCH, taken at the next frame boundary
  lease    : LeaseState := .none
  leaseEnd : Nat := 0               -- ns
  leaseAt  : Option Nat := none     -- instant of the last lease frame
  sends    : List (Nat × Nat) := [] -- FRAME_CTR and instant of the heartbeats of the last 100 ms
  mir0     : Bool := false          -- mirror lane up
  mir1     : Bool := false
  mirror   : Bool := false          -- the mirror link was not silent in the last frame (MIRROR_OK)
  heard    : Bool := false          -- a valid mirror frame has arrived in this frame (R358)
  silent   : Nat := 255             -- consecutive frames in which the mirror link was silent, at most 255
  alive    : Bool := false          -- ALIVE_IN toggled at the last frame tick (ALIVE_SEEN)
  still    : Nat := 255             -- consecutive frame ticks at which it did not, at most 255
  mseq     : Vector Nat 10 := Vector.replicate 10 0  -- MSEQ of the next frame to send, by class (R359)
  mrx      : Vector (Option Nat) 10 := Vector.replicate 10 none  -- MSEQ of the last frame received, by class
  part     : Vector (List Byte) 10 := Vector.replicate 10 []  -- bytes of a content that goes on in the next frame of its class
  witBus   : Bool := false          -- PAIR_WITNESS_SEEN
  witNet   : Bool := false
  dutyRun  : Nat := 0               -- consecutive PWM periods with a DUTY payload, at most 8
  dutyGot  : Bool := false          -- one has arrived in this period
  dutyHad  : Nat := 0               -- that run when the last payload arrived (R373)
  ctxAt    : Option Nat := none     -- instant of the last CONTEXT frame
  laneHeld : Bool := false          -- PAIR_LANE_HELD (R373)
  gap      : Nat := 0               -- PWM periods of the present converter gap
  failovers : Nat := 0
  lastFailover : Nat := 0
  lastGap  : Nat := 0
  imageDq  : Nat := 0               -- the output image of the STATE class (R363)
  imageSq  : Nat := 0
  partDq   : Nat := 0               -- the partner's reported switch states
  partSq   : Nat := 0
  partMa   : List Nat := []         -- its standard outputs' currents, mA (R363)
  ownDiff  : Nat := 0               -- consecutive frames in which a report differs from the image
  partDiff : Nat := 0
  handSeq  : Option Nat := none     -- DUTY SEQ of the period at which the lane passes (R375)
  handing  : Bool := false          -- an ordered handover is in progress
  rejoin   : Option Nat := none     -- instant at which the rejoin began
  rejoinBulk : Bool := false        -- its BULK has been taken
  rejoinRun : Nat := 0              -- frames tracked with matching reports
  rejoinAt : Nat := 0               -- no rejoin starts before this instant (R376)
  conflict : Nat := 0               -- consecutive frames with a conflict (Table 15-7)
  released : Bool := false          -- the former active member's mirror was up when it resigned (R374)
  ack      : Nat := 0               -- JSEQ of the last entry the partner acknowledged
  served   : Vector Served 4 := Vector.replicate 4 {}
  deriving DecidableEq, Repr, Inhabited

end Sys2Proof.Machine
end

