-- ==== Sys2Proof/Machine/Regs/Prot.lean ====
section
/-! DEFINITION. State of string protection, contactor sequences and dispatch (08_protection_and_dispatch), and of the safety
functions (09_safety_functions). Times are plant time in ns unless a comment says otherwise. -/
namespace Sys2Proof.Machine

/-- A persistence of one level (R192): the instant of the first value beyond it. -/
structure PosProt where
  ovWarn : Option Nat := none
  ovTrip : Option Nat := none
  uvWarn : Option Nat := none
  uvTrip : Option Nat := none
  otWarn : Option Nat := none
  otTrip : Option Nat := none
  faulted : Bool := false
  faultSince : Nat := 0
  silent  : Bool := false
  v       : Option Nat := none      -- last VALID voltage since it was mapped (seen_v, R199)
  t       : Option Int := none      -- last VALID temperature
  deriving DecidableEq, Repr, Inhabited

/-- PROT_SEQ (Table 8-5). -/
inductive SeqKind where
  | none | precharge | open_ | emergency
  deriving DecidableEq, Repr, Inhabited

/-- PROT_SEQ_RESULT (Table 8-5). -/
inductive SeqResult where
  | none | running | complete | failed | aborted
  deriving DecidableEq, Repr, Inhabited

/-- Persistences of one current source (R192, R194). -/
structure SrcProt where
  disWarn : Option Nat := none
  disTrip : Option Nat := none
  chgWarn : Option Nat := none
  chgTrip : Option Nat := none
  deriving DecidableEq, Repr, Inhabited

/-- One contactor: its coil and its auxiliary contact (R196). -/
structure Contactor where
  coil    : Bool := false
  coilAt  : Nat := 0                -- instant of the coil's last change
  aux     : Option Bool := none     -- what the auxiliary contact read at the last evaluation, while valid
  auxAt   : Nat := 0                -- evaluation at which it first read that
  deriving DecidableEq, Repr, Inhabited

/-- State behind the PROT_ entries. -/
structure ProtRegs where
  pos      : Vector PosProt 256 := Vector.replicate 256 {}
  mappedAt : Nat := 0               -- instant at which the positions were mapped (R58)
  srcC     : SrcProt := {}
  srcS     : SrcProt := {}
  iC       : Option Int := none     -- frame mean of the coulomb channel as H forms it (R194)
  iS       : Option Int := none
  bothMissing : Option Nat := none  -- instant since which both sources are missing
  xchkSince : Option Nat := none    -- a disagreement has lasted since (R195)
  tripped  : Bool := false
  cause    : Nat := 0
  tripTime : Nat := 0
  tripInst : Nat := 65535
  dis      : Int := 0               -- published limits (R199), mA
  chg      : Int := 0
  pDis     : Int := 0               -- powers and energies of R208
  pChg     : Int := 0
  eDis     : Nat := 0
  eChg     : Nat := 0
  breaks   : Nat := 0
  kOps     : Nat := 0
  seq      : SeqKind := .none
  step     : Nat := 0               -- the step last made
  result   : SeqResult := .none
  resumed  : Bool := false
  seqJ     : Nat := 0
  seqWait  : Bool := false          -- accepted, starts at the next frame boundary
  recheck  : Bool := false          -- the preconditions of R200 are checked again at the start (R204)
  laneBy   : Option Nat := none     -- the lane check waits until this instant (R351)
  abortTo  : Option Nat := none     -- a PARKED command during PRECHARGE_CLOSE: JSEQ of the OPEN that follows (R203)
  stepAt   : Nat := 0               -- instant at which the present step began
  main     : Contactor := {}        -- main positive
  neg      : Contactor := {}        -- main negative
  pre      : Contactor := {}        -- precharge
  offSince : Nat := 0               -- instant since which all coils have been off
  weldSince : Option Nat := none    -- weld by current has lasted since
  tmD      : Nat := 1000            -- PROT_TM_DEMAND
  openWork : List (Nat × Nat) := [] -- accepted sequence commands not complete: JSEQ and SP_MODE_CMD value (R204)
  deriving DecidableEq, Repr, Inhabited

/-- A dispatch write received in the present frame (R206). -/
structure DspWrite where
  req   : Req
  power : Bool
  value : Int
  deriving DecidableEq, Repr, Inhabited

/-- State of dispatch (R206 to R209). -/
structure DspRegs where
  writes  : List DspWrite := []
  pReq    : Int := 0
  iReq    : Int := 0
  pGrant  : Int := 0
  iGrant  : Int := 0
  restReq : Nat := 0
  restEnd : Option Nat := none      -- end of the granted rest window (R209)
  silentFrom : Option Nat := none   -- the silence of R207 counts from here; none: it has been acted on
  armed   : Bool := false           -- DSP_TIMEOUT above 0 and SP_SOURCE DICT at the last frame (R207)
  deriving DecidableEq, Repr, Inhabited

/-- SAF_STATE (Table 9-12). -/
inductive SafState where
  | starting | unsealed | latched | permitted | failed
  deriving DecidableEq, Repr, Inhabited

/-- SAF_RESET_LAST (Table 9-12). -/
inductive ResetLast where
  | none | done | refusedDemand | noLatch | short | stuck
  deriving DecidableEq, Repr, Inhabited

/-- The demand bits of status byte 0 (Table 9-5). -/
structure Demand where
  is : Bool := false
  ov : Bool := false
  uv : Bool := false
  ot : Bool := false
  oc : Bool := false
  ms : Bool := false
  deriving DecidableEq, Repr, Inhabited

/-- A copy of a safety frame held for its partner (R225). -/
structure HeldCopy where
  lan   : Lan
  bytes : List Byte
  at_   : Nat
  taken : Bool                      -- already accepted in 1oo1; kept for comparison (R226)
  deriving DecidableEq, Repr, Inhabited

/-- State behind the SAF_ entries. -/
structure SafetyRegs where
  state   : SafState := .starting
  cause   : Nat := 0                -- SAF_LATCH_CAUSE
  demand  : Demand := {}
  permit  : Bool := true            -- the last PERMIT taken
  wdExpired : Bool := false
  addr    : Nat := 0
  dip     : Nat := 0
  addr0   : Nat := 0                -- address and SAF_1LAN at start
  lan0    : Bool := false
  scanned : Bool := false
  swInvalid : Bool := false         -- 0x580B in force
  swChanged : Bool := false         -- 0x580A in force
  lastSeq : Option Nat := none
  heldCopies : List HeldCopy := []
  lone    : List Nat := []          -- instants of the lone copies of the last second
  statSeq : Nat := 0                -- last status SEQ sent
  diffRun : Nat := 0                -- consecutive cycles in which the cores differed
  setLost : Bool := false           -- both MRAM copies failed (R230)
  eff     : List (Nat × Val) := []  -- the safety parameters in effect that differ from their defaults (R241)
  applied : Bool := false           -- the sealed set has taken effect
  stuck   : Bool := false           -- RESET_STUCK
  resetLast : ResetLast := .none
  resetCount : Nat := 0
  ok      : Nat := 0
  bad     : Nat := 0
  mismatch : Nat := 0
  single  : Nat := 0
  wdCount : Nat := 0
  ranAt   : Nat := 0                -- instant from which the functions run (R216)
  trPst   : Demand := {}            -- functions in demand because their time exceeds the PST (R240)
  ran     : Bool := false           -- the functions run (from tier WATCH, R216)
  sweptAtPeriod : Bool := false     -- a sweep at the configured period has run (R214)
  newDemand : Bool := false         -- a demand latched since the last frame tick (R221)
  cycleAt : Option Nat := none      -- start of the last safety cycle (R219)
  wdFrom  : Nat := 0                -- instant from which the command watchdog runs (R227)
  statDue : Bool := false           -- a command frame has been accepted since the last status frame (R227)
  statAt  : Option Nat := none      -- instant of the last status frame
  scanAt  : Nat := 0                -- instant of the last switch scan (R229)
  trSince : List (Option Nat) := List.replicate 6 none  -- since when each function's time exceeds its PST (R240)
  rst     : Bool := false           -- DI31 as the S island last sampled it (R233)
  rstAt   : Option Nat := none      -- first sample at that level
  rstLow  : Nat := 0                -- length of the low level before the present high level, ns
  pulse   : Option (Nat × Nat) := none -- a high level has ended at this cycle's sample: the low before it and its length, ns
  deriving DecidableEq, Repr, Inhabited

end Sys2Proof.Machine
end

