-- ==== Sys2Proof/Machine/Regs/Recorder.lean ====
section
/-! DEFINITION. State of the lifetime recorder (18_lifetime_recorder). -/
namespace Sys2Proof.Machine

/-- One copy of a record (Table 18-3), less its SET, INDEX and CRC, which follow from its number. -/
structure RecSlot where
  sat     : Bool := false
  rebuilt : Bool := false
  opSec   : Nat := 0
  pcyc    : Nat := 0
  pay     : List Byte := []
  deriving DecidableEq, Repr, Inhabited

/-- Both slots of a record. -/
structure RecPair where
  a : RecSlot
  b : RecSlot
  deriving DecidableEq, Repr, Inhabited

/-- REC_STATE, less FENCED. -/
inductive RecState where
  | running | held | merging
  deriving DecidableEq, Repr, Inhabited

/-- State behind the REC_ entries. -/
structure RecRegs where
  recs     : List (Nat × RecPair) := []   -- records ever written, numbers rising
  pend     : List (Nat × Nat) := []       -- pending increments: record × 16 + field, count; keys rising
  ext      : List (Nat × List Byte) := [] -- pending payloads of extremes and GEN, record numbers rising
  state    : RecState := .running
  holdSes  : Nat := 0
  holdFrom : Nat := 0                     -- instant at which the hold started
  holdEnd  : Nat := 0
  holdWant : Option (Nat × Nat) := none   -- an accepted hold that starts at the next frame boundary: session, seconds
  lastCommit : Nat := 0                   -- REC_LAST_COMMIT
  dueAt    : Nat := 0                     -- operating second at which the next commit falls due
  secAt    : Nat := 0                     -- the last operating second counted (R414)
  interval : Nat := 60                    -- REC_COMMIT_INT in effect (R421)
  invalid  : Nat := 0
  lost     : Nat := 0
  qDis     : Nat := 0                     -- remainders in SRAM: charge in nC and energy in nC mV
  qChg     : Nat := 0
  wDis     : Nat := 0
  wChg     : Nat := 0
  seenSteps : Nat := 0                    -- event counts already taken into CONVERTER
  seenBreaks : Nat := 0
  dirs     : Nat := 0                     -- ends of a dwell and trips since the last second
  trips    : Nat := 0
  deriving DecidableEq, Repr, Inhabited

end Sys2Proof.Machine
end

