-- ==== Sys2Proof/Machine/Regs/Supervision.lean ====
section
/-! DEFINITION. State of supervision, containment and clock freeze (19_supervision_and_freeze). -/
namespace Sys2Proof.Machine

/-- One flag per island (Table 19-4). -/
structure Fences where
  p : Bool := false
  h : Bool := false
  c : Bool := false
  e : Bool := false
  m : Bool := false
  n : Bool := false
  s : Bool := false
  f : Bool := false
  b : Bool := false
  j : Bool := false
  deriving DecidableEq, Repr, Inhabited

/-- SUP_VBP_STATE (Table 19-5). -/
inductive VbpState where
  | normal | low | shortfall
  deriving DecidableEq, Repr, Inhabited

/-- SUP_FRZ_STATE (Table 19-5), and the wait between step 2 and step 3 of Table 19-3. -/
inductive FrzState where
  | idle | resigning | opened
  deriving DecidableEq, Repr, Inhabited

/-- State behind the SUP_ entries. -/
structure SupRegs where
  fenced   : Fences := {}
  cause    : Vector Nat 10 := Vector.replicate 10 0  -- SUP_FENCE_CAUSE
  dieTemp  : Int := 0               -- 0.1 °C
  dieRate  : Int := 0               -- 0.01 K/s
  readAt   : Option Nat := none     -- instant of the last diode read
  reads    : Nat := 0               -- diode reads since the start, modulo 10
  temps    : List Int := []         -- readings of the last second, one per 100 ms, newest first
  coolRun  : Nat := 0               -- consecutive reads below 120 °C
  fastRun  : Nat := 0               -- consecutive evaluations above 1.0 K/s
  slowRun  : Nat := 0               -- consecutive evaluations at or below 1.0 K/s
  hotRun   : Nat := 0               -- consecutive reads at or above 145 °C
  rushRun  : Nat := 0               -- consecutive evaluations above 4.0 K/s with every read above 100 °C
  shutdowns : Nat := 0
  lastShutdown : Nat := 0           -- ns
  latchIn  : Option Nat := none     -- frames until a pair member's latched shutdown goes on without a GRANT (R424)
  holdAt   : Option Nat := none     -- instant of the last measurement of the capacitance
  gaugeAt  : Option Nat := none     -- instant of the last computation of the gauge
  holdC    : Nat := 0               -- SUP_HOLDUP_C, µF
  holdE    : Nat := 0               -- mJ
  holdT    : Nat := 0               -- SUP_HOLDUP_T, µs
  vbp      : Int := 0               -- mV
  vbpState : VbpState := .normal
  lowFrom  : Option Nat := none     -- VBP has been measured below 33 V since
  highFrom : Option Nat := none     -- VBP has been measured above 34 V since
  lowWrites : Bool := false         -- this VBP_LOW episode has made the writes of R104 and R120
  frzIn    : Bool := false          -- FRZ has been asserted for 1 ms
  frz      : FrzState := .idle
  frzAt    : Nat := 0               -- instant at which S opened the safe outputs for a freeze
  frzLeft  : Nat := 0               -- frames left for the handover of a freeze (R430)
  freezes  : Nat := 0
  scan     : Nat := 0               -- island selected by SCAN_SEL
  scanPos  : Nat := 0               -- bits shifted out of its chain so far
  deriving DecidableEq, Repr, Inhabited

end Sys2Proof.Machine
end

