-- ==== Sys2Proof/Machine/Regs/System.lean ====
section
/-! DEFINITION. State of start-up, tiers and resets (14_startup_and_service_tiers), of the geographic address
(20_backplane_connector), and the module's clocks and counters. -/
namespace Sys2Proof.Machine

/-- The tiers (Table 22-5). -/
inductive Tier where
  | guard_ | watch | limited | full
  deriving DecidableEq, Repr, Inhabited

/-- Where the module stands between power and tier: without power-good, started, latched off by over-temperature (R424),
frozen (R430). -/
inductive Phase where
  | off | started | latched | frozen
  deriving DecidableEq, Repr, Inhabited

/-- State behind the SYS_ and TIME_ entries. -/
structure SysRegs where
  phase    : Phase := .off
  tier     : Tier := .guard_
  guardIn  : Bool := false          -- tier GUARD has been entered since power-good
  t0       : Nat := 0               -- plant time of power-good
  opSec    : Nat := 0               -- TIME_OP_SECONDS
  pcyc     : Nat := 0               -- TIME_POWER_CYCLES
  upMs     : Nat := 0               -- ms since the last reset
  frames   : Nat := 0               -- TIME_FRAME_CTR
  gaRun    : List Nat := []         -- the last readings of GA8 to GA0 before the latch, newest first (R443)
  gaTries  : Nat := 0               -- readings made since the start
  gaOk     : Bool := false          -- latched
  gaAt     : Option Nat := none     -- instant of the last reading of the address
  gaDiff   : Option Nat := none     -- a reading has differed from the latched value since
  plantAddr : Nat := 0              -- SYS_PLANT_ADDR (R441)
  hibernating : Bool := false       -- module hibernation (R350): C and the lanes stopped
  cause    : ResetCause := .powerOn -- SYS_RESET_CAUSE
  causeRec : Bool := false          -- a cause has been recorded since the last power-good
  resetAt  : Nat := 0               -- SYS_RESET_TIME, ns
  resets   : Nat := 0               -- SYS_RESET_COUNT
  guardMs  : Option Nat := none     -- SYS_TIER_TIMES
  watchMs  : Option Nat := none
  limitedMs : Option Nat := none
  fullMs   : Option Nat := none
  block    : Nat := 0               -- SYS_TIER_BLOCK
  selftest : Nat := 0               -- SYS_SELFTEST
  testFail : Bool := false          -- a start-up self-test failed (R340)
  pFailed  : Bool := false          -- the P island failed a start-up test: no start until a power cycle (R428)
  imageOk  : Bool := false          -- a bank passed its check and was booted (R342)
  bootBank : Nat := 0               -- SYS_BOOT_BANK
  journalCut : Option Nat := none   -- kept journal entries before a cut found at this start (R258)
  downDue  : Option (Nat × ResetCause) := none -- an orderly shutdown in progress: frames left for the handover (R337)
  calStep  : Nat := 0               -- steps made of the running calibration rotation; 0 = none runs (R349)
  calRun   : Bool := false
  calBegan : Option Nat := none     -- start of the last rotation since power-good
  calStepAt : Nat := 0              -- start of the running step
  calSpare : Nat := 4               -- the converter that is the spare
  calLast  : Nat := 0               -- SYS_CAL_LAST, ns
  calWait  : List Reply := []       -- replies that wait for the end of the rotation
  recorded : List (Nat × Nat) := [] -- codes shown after restart, with their times (R470): kept in MRAM
  deriving DecidableEq, Repr, Inhabited

end Sys2Proof.Machine
end

