-- ==== Sys2Proof/Machine/State.lean ====
section
/-! DEFINITION. The state of the module, its reset value, and the closed lists of reasons a step may stop. -/
namespace Sys2Proof.Machine

/-- Reasons a command stops with a fault. -/
inductive Fault where
  /-- Raised by no command of this model; kept so that the type is inhabited (safe). -/
  | none_
  deriving DecidableEq, Repr, Inhabited

/-- Reasons a command is refused. -/
inductive Refusal where
  /-- Answered by the arm of a command that has no meaning yet (safe). -/
  | notModelled (mnemonic : String)
  deriving DecidableEq, Repr, Inhabited

/-- The whole state: the commands waiting, the clocks, the configuration store, and one part per chapter of the manual. -/
structure State where
  pending : List Instr := []
  now     : Nat := 0                 -- plant time, ns
  frameAt : Nat := 0                 -- plant time of the last frame boundary, ns
  locked  : Bool := false            -- locked to plant time (R17, R284)
  freeNo  : Nat := 0                 -- number of free values drawn so far (the model's own counter)
  store   : List (Nat × Val) := []   -- configuration values that differ from their defaults, by index * 256 + subindex
  out     : List Output := []        -- what the module sent during the last command, in order
  sys     : SysRegs := {}
  ses     : SessionRegs := {}
  flt     : FaultRegs := {}
  chain   : ChainRegs := {}
  chctl   : ChainCtl := {}
  cells   : CellRegs := {}
  est     : EstRegs := {}
  ident   : IdentRegs := {}
  link    : LinkRegs := {}
  tb      : TbRegs := {}
  sp      : SpRegs := {}
  prot    : ProtRegs := {}
  dsp     : DspRegs := {}
  saf     : SafetyRegs := {}
  dio     : FieldRegs := {}
  net     : NetRegs := {}
  ptp     : PtpRegs := {}
  can     : CanRegs := {}
  sup     : SupRegs := {}
  pair    : PairRegs := {}
  mem     : MemRegs := {}
  fw      : FwRegs := {}
  recd    : RecRegs := {}
  deriving DecidableEq, Repr, Inhabited

/-- The module right after reset, as the manual's Default columns and R335 give it. -/
def State.reset : State := {}

end Sys2Proof.Machine
end

