-- ==== Sys2Proof/Machine/Ops.lean ====
section
/-! DEFINITION. The named operations every meaning is built from: how a command runs, the configuration store, free values, what
is sent, faults (22_fault_and_status_reference), and the module's own journal entries. -/
namespace Sys2Proof.Machine
open Sys2Proof

/-! ### How a command runs -/

/-- The state a command starts from: nothing sent yet. -/
def State.begin (s : State) : State := { s with out := [] }

/-- A command's effect is on everything but the queue. -/
def State.keepQueue (s t : State) : State := { t with pending := s.pending }

/-- The module is powered and neither latched off (R424) nor frozen (R430). -/
def live (s : State) : Bool := s.sys.phase == .started

/-- Run an effect whatever the power. -/
def always (f : State → State) (s : State) : Host.Outcome State Fault Refusal :=
  .next (s.keepQueue (f s.begin))

/-- Run an effect on a module that is started; on any other the command has no effect. -/
def whenLive (f : State → State) (s : State) : Host.Outcome State Fault Refusal :=
  .next (s.keepQueue (if live s then f s.begin else s.begin))

/-- As `whenLive`, for a command that writes no configuration entry. -/
def whenLiveK (f : State → State) (s : State) : Host.Outcome State Fault Refusal :=
  .next { s.keepQueue (if live s then f s.begin else s.begin) with store := s.store }

/-- As `always`, for a command that writes no configuration entry. -/
def alwaysK (f : State → State) (s : State) : Host.Outcome State Fault Refusal :=
  .next { s.keepQueue (f s.begin) with store := s.store }

/-- An effect that writes no configuration entry. -/
def keep (f : State → State) (s : State) : State := { f s with store := s.store }

/-- Take an effect only where a condition holds. -/
def guardOn (p : Bool) (f : State → State) (s : State) : State := if p then f s else s

/-- An event at plant time `t`: the clock never runs backwards. -/
def atTime (t : Nat) (s : State) : State := { s with now := max s.now t }

/-- A condition that has been present since an instant has lasted a time in ns. -/
def heldFor (since : Option Nat) (ns : Nat) (s : State) : Bool := match since with | some t => decide (t + ns ≤ s.now) | none => false

/-- A periodic event is due: its period in ns has passed since the last one, or there has been none. -/
def due (last : Option Nat) (ns : Nat) (s : State) : Bool := match last with | some t => decide (t + ns ≤ s.now) | none => true

/-- Since when a condition has been present, now that it is seen. -/
def sinceNow (on : Bool) (old : Option Nat) (s : State) : Option Nat := if on then some (old.getD s.now) else none

/-- Fold an effect over a list. -/
def forAll {α : Type} (xs : List α) (f : α → State → State) (s : State) : State := xs.foldl (fun s x => f x s) s

/-! ### Islands, tiers, roles -/

/-- Whether an island's fence gate is closed (R15). -/
def Fences.get (f : Fences) : Island → Bool
  | .p => f.p | .h => f.h | .c => f.c | .e => f.e | .m => f.m
  | .n => f.n | .s => f.s | .f => f.f | .b => f.b | .j => f.j

/-- Close an island's fence gate. -/
def Fences.close (f : Fences) : Island → Fences
  | .p => { f with p := true } | .h => { f with h := true } | .c => { f with c := true } | .e => { f with e := true }
  | .m => { f with m := true } | .n => { f with n := true } | .s => { f with s := true } | .f => { f with f := true }
  | .b => { f with b := true } | .j => { f with j := true }

/-- Whether an island is fenced. -/
def isFenced (i : Island) (s : State) : Bool := s.sup.fenced.get i

/-- The order of islands in Table 19-4 and in SUP_FENCED (bits 9-0 = J, B, F, S, N, M, E, C, H, P). -/
def islandNo : Island → Nat
  | .p => 0 | .h => 1 | .c => 2 | .e => 3 | .m => 4 | .n => 5 | .s => 6 | .f => 7 | .b => 8 | .j => 9

/-- The code of a tier (Table 22-5). -/
def Tier.code : Tier → Nat
  | .guard_ => 0 | .watch => 1 | .limited => 2 | .full => 3

/-- The tier is at least `t`. -/
def tierAtLeast (t : Tier) (s : State) : Bool := t.code ≤ s.sys.tier.code

/-- The code of a mode (Table 22-5). -/
def Mode.code : Mode → Nat
  | .parked => 0 | .standby => 1 | .busVoltage => 2 | .stringCurrent => 3 | .stringPower => 4

/-- A running mode: the stage switches (Table 7-1). -/
def Mode.running : Mode → Bool
  | .parked => false | .standby => false | .busVoltage => true | .stringCurrent => true | .stringPower => true

/-- The string is PARKED. -/
def parked (s : State) : Bool := s.sp.mode == .parked

/-- The module acts for the string: it holds the ACTIVE role or runs alone (R26, R28). -/
def acts (s : State) : Bool := !s.pair.paired || s.pair.role == .active

/-- Only a member in ACTIVE or STANDBY_PAIR drives outputs and sends DUTY frames (R355); a module alone does. -/
def drivesOutputs (s : State) : Bool := !s.pair.paired || s.pair.role == .active || s.pair.role == .standby

/-- The module drives the lane: it acts for the string, or its C island has taken the lane (R373). -/
def drives (s : State) : Bool := acts s || s.pair.laneHeld

/-! ### The configuration store

Every entry a host can write has one value in force. The store lists, by address, the values that differ from the factory
default, addresses strictly rising. -/

/-- The address of instance `k` of an entry: index * 256 + subindex. -/
def entryAddr (e : Entry) (k : Nat := 0) : Nat := (e.index + e.istep * k) * 256 + (e.sub + e.sstep * k)

/-- Look an address up in a store. -/
def storeGet (a : Nat) : List (Nat × Val) → Option Val
  | [] => none
  | (b, v) :: r => if b == a then some v else if a < b then none else storeGet a r

/-- Take an address out of a store. -/
def storeDel (a : Nat) : List (Nat × Val) → List (Nat × Val)
  | [] => []
  | (b, v) :: r => if b == a then r else if a < b then (b, v) :: r else (b, v) :: storeDel a r

/-- Put a value under an address, keeping addresses rising. -/
def storeIns (a : Nat) (x : Val) : List (Nat × Val) → List (Nat × Val)
  | [] => [(a, x)]
  | (b, v) :: r => if b == a then (a, x) :: r else if a < b then (a, x) :: (b, v) :: r else (b, v) :: storeIns a x r

/-- Write a value whose default is `d`: the default itself is not listed. -/
def storePut (a : Nat) (d x : Val) (st : List (Nat × Val)) : List (Nat × Val) :=
  if x = d then storeDel a st else storeIns a x st

/-- The addresses of a store rise strictly. -/
def storeWf (st : List (Nat × Val)) : Bool := (st.map (·.1)).Pairwise (· < ·)

/-- The value in force of instance `k` of an entry. -/
def cfgVal (e : Entry) (k : Nat) (s : State) : Val := (storeGet (entryAddr e k) s.store).getD e.dflt

/-- The number a value holds. -/
def valInt : Val → Int
  | .num v => v
  | .bytes bs => ofBytes bs

/-- The bytes a value holds. -/
def valBytes : Val → List Byte
  | .num _ => []
  | .bytes bs => bs

/-- The value in force of a numeric entry. -/
def cfg (e : Entry) (s : State) (k : Nat := 0) : Int := valInt (cfgVal e k s)

/-- The same, for entries that are never negative. -/
def cfgN (e : Entry) (s : State) (k : Nat := 0) : Nat := (cfg e s k).toNat

/-- The same, for a BOOL entry. -/
def cfgB (e : Entry) (s : State) (k : Nat := 0) : Bool := cfg e s k == 1

/-- The same, for an OCTETS or STR entry. -/
def cfgBytes (e : Entry) (s : State) (k : Nat := 0) : List Byte := valBytes (cfgVal e k s)

/-- A safety parameter in effect: of the sealed set last taken (R241). -/
def safI (e : Entry) (s : State) : Int := valInt ((storeGet (entryAddr e) s.saf.eff).getD e.dflt)

/-- The same, for entries that are never negative. -/
def safN (e : Entry) (s : State) : Nat := (safI e s).toNat

/-- Put a value in force. -/
def setCfg (e : Entry) (k : Nat) (v : Val) (s : State) : State := { s with store := storePut (entryAddr e k) e.dflt v s.store }

/-- Put a number in force. -/
def setCfgI (e : Entry) (k : Nat) (v : Int) (s : State) : State := setCfg e k (.num v) s

/-- The entry and the instance at index:subindex, if a chapter assigns one (R243). -/
def instanceAt (e : Entry) (index sub : Nat) : Option Nat :=
  let k := if e.istep > 0 then (index - e.index) / e.istep else if e.sstep > 0 then (sub - e.sub) / e.sstep else 0
  if k < e.count && index == e.index + e.istep * k && sub == e.sub + e.sstep * k then some k else none

/-- Find the entry and instance at index:subindex in a list of entries. -/
def findIn (index sub : Nat) : List Entry → Option (Entry × Nat)
  | [] => none
  | e :: r => match instanceAt e index sub with
    | some k => some (e, k)
    | none => findIn index sub r

/-- Find the entry and instance at index:subindex. -/
def findEntry (index sub : Nat) : Option (Entry × Nat) := findIn index sub Ent.all

/-! ### Free values and outputs -/

/-- Draw a free value: nothing constrains it. -/
def drawFree (s : State) : Int × State := (Config.freeValue s.freeNo, { s with freeNo := s.freeNo + 1 })

/-- Send or drive something. -/
def emit (o : Output) (s : State) : State := { s with out := s.out ++ [o] }

/-- Drive or release FENCE_OUT (Table 15-1). -/
def setFenceOut (on : Bool) (s : State) : State :=
  if s.pair.fenceOut == on then s else emit (.fenceOut on) { s with pair := { s.pair with fenceOut := on } }

/-! ### Faults (22_fault_and_status_reference) -/

/-- The instance that means module-wide (R468). -/
def wide : Nat := 0xFFFF

/-- The class of a code (Table 22-2, R467). -/
def faultClass (code : Nat) : Nat :=
  if [0x1008, 0x1009, 0x5015, 0x5016, 0x7805, 0x7C03, 0x7C04, 0x7C05].contains code then 0
  else if [0x1022, 0x2003, 0x2004, 0x2005, 0x2006, 0x200A, 0x2101, 0x2102, 0x2103, 0x2105, 0x3001, 0x3002, 0x3005, 0x3006,
    0x300B, 0x3013, 0x4001, 0x4002, 0x4004, 0x4009, 0x4011, 0x500C, 0x500D, 0x500E, 0x500F, 0x5017, 0x6010, 0x6011, 0x6021,
    0x6801, 0x6802, 0x7005, 0x7006, 0x7010, 0x7011, 0x7013, 0x7802, 0x7803, 0x7804].contains code then 2
  else if [0x1005, 0x2001, 0x2002, 0x2108, 0x4003, 0x4007, 0x4008, 0x400C, 0x4012, 0x4101, 0x4102, 0x4103, 0x4104, 0x5013,
    0x5014, 0x6002, 0x6004, 0x6031, 0x7807].contains code then 3
  else if [0x1003, 0x1007, 0x1010, 0x1020, 0x1023, 0x1030, 0x1103, 0x200C, 0x200D, 0x6012, 0x6023, 0x6030, 0x6032, 0x6040,
    0x6041, 0x680B, 0x680C, 0x7808, 0x7809, 0x780A].contains code then 4
  else if [0x5002, 0x5004, 0x5006, 0x5008, 0x500A, 0x5010, 0x5011, 0x5012].contains code then 5
  else if [0x5800, 0x5801, 0x5802, 0x5803, 0x5804, 0x5805, 0x5806, 0x5808, 0x5809, 0x580A, 0x580B, 0x580C, 0x5811,
    0x5813].contains code then 6
  else 1

/-- A code is active for an instance. -/
def isActive (code inst : Nat) (s : State) : Bool := s.flt.active.any fun a => a.code == code && a.inst == inst

/-- A code is active for some instance. -/
def anyActive (code : Nat) (s : State) : Bool := s.flt.active.any fun a => a.code == code

/-- The cause of an active code has been seen now (R466). -/
def seenF (p : ActiveFault → Bool) (s : State) : State :=
  { s with flt := { s.flt with active := s.flt.active.map fun a => if p a then { a with seen := s.now } else a } }

/-- Raise a code for an instance, with the time of the event that raises it (R468 to R470): an active one is not raised again, but its
cause has been seen. -/
def raiseAt (since code inst : Nat) (s : State) : State :=
  if isActive code inst s then seenF (fun a => a.code == code && a.inst == inst) s
  else { s with flt := { s.flt with
    active := s.flt.active ++ [⟨code, inst, since, s.now⟩]
    events := s.flt.events ++ [⟨code, inst, .raised, since⟩] } }

/-- Raise a code for an instance now. -/
def raiseF (code inst : Nat) (s : State) : State := raiseAt s.now code inst s

/-- Clear a code for an instance (R468). -/
def clearF (code inst : Nat) (s : State) : State :=
  if isActive code inst s then
    { s with flt := { s.flt with
      active := s.flt.active.filter fun a => !(a.code == code && a.inst == inst)
      events := s.flt.events ++ [⟨code, inst, .cleared, s.now⟩] } }
  else s

/-- Raise or clear a code by a condition. -/
def setF (on : Bool) (code inst : Nat) (s : State) : State := if on then raiseF code inst s else clearF code inst s

/-- Clear a code for every instance. -/
def clearAll (code : Nat) (s : State) : State :=
  forAll (s.flt.active.filter (·.code == code)) (fun a => clearF code a.inst) s

/-! ### The recorder's hold -/

/-- The hold ends, and the recorder merges its pending increments (R419). -/
def endHold (s : State) : State :=
  { s with recd := { s.recd with state := if s.recd.state == .held then .merging else s.recd.state, holdSes := 0, holdWant := none } }

/-! ### The module's own journal entries -/

/-- The module adds an entry of its own to the frame's batch (R254, R256). -/
def journalOwn (type : Nat) (payload : List Byte) (s : State) : State :=
  { s with ses := { s.ses with batch := s.ses.batch ++ [.own type payload] } }

/-- A COMPLETION entry: the JSEQ of the completed entry, a RESULT, and the owner's data (R256). -/
def journalCompletion (jseq result : Nat) (data : List Byte) (s : State) : State :=
  journalOwn 0x02 (toBytes 8 jseq ++ toBytes 1 result ++ data) s

end Sys2Proof.Machine
end

