-- ==== Sys2Proof/Machine/Chain.lean ====
section
/-! DEFINITION. The Giton chain (02_giton_chain): topology, timing, the bytes of the frames sent, sweep launch, frames as they arrive,
breaks and recovery, service exchanges, channel changes. What a completed sweep does stands in Machine/Cells.lean. -/
namespace Sys2Proof.Machine
open Sys2Proof

/-! ### Nodes and halves -/

/-- Node h (1-32, R5). -/
def nodeAt (h : Nat) (s : State) : Node := getAt s.cells.nodes (h - 1)

/-- Change node h. -/
def modNode (h : Nat) (f : Node → Node) (s : State) : State :=
  { s with cells := { s.cells with nodes := modAt s.cells.nodes (h - 1) f } }

/-- The configured number of nodes N. -/
def nodeCount (s : State) : Nat := cfgN Ent.CHN_NODE_COUNT s

/-- The split index S (R25): CHN_SPLIT, or N/2 rounded up. -/
def splitOf (n split : Nat) : Nat := if split = 0 then (n + 1) / 2 else split

/-- A CHN_NODE_COUNT and CHN_SPLIT pair meets R25. -/
def splitOk (n split : Nat) : Bool :=
  n == 0 || (let k := splitOf n split; 1 ≤ k && k ≤ n && k ≤ 16 && n - k ≤ 16)

/-- The nodes lo-hi that a radio serves in the topology in force (R25, R45, R47); empty when hi < lo. -/
def halfOf (r : Radio) (s : State) : Nat × Nat :=
  match s.chain.topo, r with
  | .configured, .a => (1, splitOf s.chain.n (cfgN Ent.CHN_SPLIT s))
  | .configured, .b => (splitOf s.chain.n (cfgN Ent.CHN_SPLIT s) + 1, s.chain.n)
  | .resplit, .a => (1, s.chain.resplitLo)
  | .resplit, .b => (s.chain.resplitHi, s.chain.n)
  | .single, .a => if s.chain.fencedA then (1, 0) else (1, s.chain.n)
  | .single, .b => if s.chain.fencedB then (1, 0) else (1, s.chain.n)

/-- Number of nodes a radio serves. -/
def halfLen (r : Radio) (s : State) : Nat := (halfOf r s).2 + 1 - (halfOf r s).1

/-- A radio's baseband is fenced. -/
def radioFenced (r : Radio) (s : State) : Bool := match r with | .a => s.chain.fencedA | .b => s.chain.fencedB

/-- The other radio. -/
def otherRadio : Radio → Radio
  | .a => .b
  | .b => .a

/-- H_max: the larger of the two hop counts. -/
def hMaxOf (s : State) : Nat := max (halfLen .a s) (halfLen .b s)

/-- The radio that serves node h, if one does. -/
def servedBy (h : Nat) (s : State) : Option Radio :=
  let (la, ha) := halfOf .a s
  let (lb, hb) := halfOf .b s
  if la ≤ h && h ≤ ha then some .a else if lb ≤ h && h ≤ hb then some .b else none

/-- Hop of node h counted from a radio; the same number turns a hop back into the node. -/
def hopFrom (r : Radio) (h : Nat) (s : State) : Nat := match r with | .a => h | .b => s.chain.n + 1 - h

/-- The channel of a radio (R24). -/
def channelOf (r : Radio) (s : State) : Nat := match r with | .a => s.chain.chA | .b => s.chain.chB

/-! ### Timing (R35 to R41) -/

/-- T_train(H) in µs. -/
def tTrain (h : Nat) : Nat := 40 * h + 48 * h * (h + 1)

/-- T_duty(H) in µs. -/
def tDuty (h : Nat) : Nat := 40 * h + 16 * h * (h + 1)

/-- T_sched(H_max) in µs (R38). -/
def tSched (h : Nat) : Nat := 48 * (h - 1) + 300 + tTrain h + 100 + tDuty h

/-- The minimum sweep period in ms for N nodes and H_max (R38). -/
def minPeriod (n h : Nat) : Nat := max ((tSched h + 100 + 999) / 1000) (if n ≤ 16 then 10 else 20)

/-- CHN_MIN_PERIOD: the figure of the configured topology (R38); without a chain the default of Table 2-13. -/
def minPeriodCfg (n split : Nat) : Nat :=
  if n = 0 then 20 else minPeriod n (max (splitOf n split) (n - splitOf n split))

/-- The delivery time T_D(H) in µs (R40). -/
def tDeliver (h : Nat) : Nat := 400 + 40 * h + 48 * h * (h + 1)

/-- The sweep period in force, ms: 200 until tier LIMITED (R40), stretched in module
hibernation (R350), CHN_SWEEP_PERIOD in the configured topology, and never below
the minimum of the topology in force (R45, R47). -/
def periodMs (s : State) : Nat :=
  if !tierAtLeast .limited s then 200
  else if s.sys.hibernating then
    max s.chctl.period (min 1000 (min (cfgN Ent.SAF_SILENCE_T s) (cfgN Ent.PROT_SILENCE_T s) / 2))
  else if s.chain.topo == .configured then s.chctl.period
  else max s.chctl.period (minPeriod s.chain.n (hMaxOf s))

/-- The scheduled next launch of the running sweep (R37, R44). -/
def nextLaunch (s : State) : Nat := s.chain.sweep.launch + s.chain.effPeriod * 1000000

/-- A radio's half of the running sweep. -/
def halfSweep (r : Radio) (s : State) : HalfSweep := match r with | .a => s.chain.sweep.a | .b => s.chain.sweep.b

/-- A radio's train deadline: t_S + 300 µs + T_train(H) + 200 µs (R41). -/
def trainDue (r : Radio) (s : State) : Nat := s.chain.sweep.instant + (300 + tTrain (halfLen r s) + 200) * 1000

/-- A radio's recovery deadline, from its recovery instant and REACH (R42). -/
def recoveryDue (r : Radio) (s : State) : Nat :=
  let x := halfSweep r s
  let m := x.recReach - halfLen r s
  x.recInstant + (300 + tTrain m + (x.recReach - m) * (40 + 96 * m) + 200) * 1000

/-- The instant of Table 2-8 step 5: the DUTY frame of a half may leave. -/
def dutyDue (r : Radio) (s : State) : Nat := (halfSweep r s).doneAt + 100000

/-- The instant at which a half's service window opens (Table 2-8 step 7). -/
def windowOpen (r : Radio) (s : State) : Nat := dutyDue r s + tDuty (halfLen r s) * 1000

/-! ### The bytes of the frames (R29 to R32, R35, R37, R52) -/

/-- A frame on air: preamble and sync word of Table 2-1, then the body (R29). -/
def onAir (body : List Byte) : List Byte := [0x55#8, 0x55#8, 0x2D#8, 0x93#8] ++ body

/-- A body with the CRC-32C that ends it (R29, R30). -/
def withCrc (b : List Byte) : List Byte := b ++ toBytes 4 (crc32c b)

/-- The CRC-32C at the end of a body is right (R30). -/
def airCrcOk (b : List Byte) : Bool := decide (4 ≤ b.length) && fieldU b (b.length - 4) 4 == crc32c (b.take (b.length - 4))

/-- SENDER of a beacon or recovery beacon (Table 2-11). -/
def beaconSender (r : Radio) (recovery : Bool) : Nat :=
  0xFFFFFFFFFFFFFFF0 + (if recovery then 4 else 0) + (match r with | .a => 0 | .b => 1)

/-- SENDER of commands and DUTY slices (Table 2-11). -/
def cmdSender (r : Radio) : Nat := match r with | .a => 0xFFFFFFFFFFFFFFF2 | .b => 0xFFFFFFFFFFFFFFF3

/-- DIR, as the bit 7 that Tables 2-3, 2-5 and 2-6 share. -/
def dirBit (r : Radio) : Nat := match r with | .a => 0 | .b => 128

/-- Bytes 0-9 of a beacon (Table 2-5), as radio and associated data share them: SRC_HOP is 0. -/
def beaconHead (r : Radio) (reach hmax ctr : Nat) (recovery : Bool) : List Byte :=
  toBytes 1 0x11 ++ toBytes 1 0 ++ toBytes 1 reach ++ toBytes 1 hmax ++ toBytes 5 ctr ++ toBytes 1 (dirBit r + 64 * b2n recovery)

/-- A beacon body (Table 2-5, R32). -/
def beaconBody (key : List Byte) (r : Radio) (reach hmax ctr : Nat) (recovery : Bool) : List Byte :=
  let head := beaconHead r reach hmax ctr recovery
  withCrc (head ++ ccmSeal key (ccmNonce (beaconSender r recovery) ctr) head [])

/-- The 12 bytes of 16 duties of 6 bits, input 0 first (R37). -/
def dutyBits (ds : List Nat) : List Byte := toBytes 12 ((List.range 16).foldl (fun x i => x * 64 + ds.getD i 0 % 64) 0)

/-- A DUTY body (R37): the header, then a slice per node, nearest first, each under its node's key and the next command counter.
DESIGN CHOICE (log 112): the fourth header byte is 0, and a slice has no associated data. -/
def dutyBody (r : Radio) (ctr : Nat) (slices : List (List Byte × List Nat)) : List Byte :=
  withCrc (toBytes 1 0x51 ++ toBytes 1 0 ++ toBytes 1 slices.length ++ toBytes 1 0 ++
    slices.zipIdx.flatMap fun x => ccmSeal x.1.1 (ccmNonce (cmdSender r) ((ctr + 1 + x.2) % 2 ^ 40)) [] (dutyBits x.1.2))

/-- The node a command goes to; none for a broadcast and for the frames of radio A's own invitation. -/
def cmdNode : ChainCmd → Option Nat
  | .enumStep v => some v
  | .topology h .. => h
  | .filterSet h _ => some h
  | .readId h => some h
  | .readLeadStatus h => some h
  | .keyLoad h _ => some h
  | .enumInvite => none | .enumAssign .. => none | .enumCheck => none | .learn .. => none | .channelSet .. => none
  | .channelCancel _ => none

/-- The command is sent in the clear (R54). -/
def cmdClear : ChainCmd → Bool
  | .keyLoad _ clear => clear
  | .enumStep _ => false | .enumInvite => false | .enumAssign .. => false | .enumCheck => false | .topology .. => false
  | .learn .. => false | .filterSet .. => false | .channelSet .. => false | .channelCancel _ => false | .readId _ => false
  | .readLeadStatus _ => false

/-- The power a command is sent at, dBm: CHN_ENUM_PWR for an invitation (R26) and a KEY_LOAD in the clear (R54), else 10. -/
def cmdPower (c : ChainCmd) (s : State) : Int :=
  let low := match c with | .enumInvite => true | c => cmdClear c
  if low then 10 * (cfgN Ent.CHN_ENUM_PWR s : Int) - 30 else 10

/-- The filter corner commanded for node h (R50). -/
def cornerOf (h : Nat) (s : State) : Nat :=
  let c := (nodeAt h s).corner
  if c = 4 then s.chctl.filterCorner else c

/-- The TOPOLOGY payload after OPCODE (Table 2-4). -/
def topologyPayload (n split chA chB period balMode act : Nat) : List Byte :=
  toBytes 1 0x10 ++ toBytes 1 n ++ toBytes 1 split ++ toBytes 1 chA ++ toBytes 1 chB ++ toBytes 2 period ++ toBytes 1 balMode ++
  toBytes 3 act

/-- OPCODE and payload of a command (Table 2-4). -/
def cmdPayload (c : ChainCmd) (s : State) : List Byte :=
  match c with
  | .enumStep _ => toBytes 1 0x01
  | .enumInvite => toBytes 1 0x02
  | .enumAssign token h => toBytes 1 0x04 ++ toBytes 2 token ++ toBytes 1 h
  | .enumCheck => toBytes 1 0x05 ++ toBytes 1 0
  | .topology _ n k a b p m act => topologyPayload n k a b p m act
  | .learn second k =>
    topologyPayload s.chain.n (halfOf .a s).2 s.chain.chA s.chain.chB (periodMs s) (if second then 0 else 1) (k + b2n second)
  | .filterSet h act => toBytes 1 0x11 ++ toBytes 1 (cornerOf h s) ++ toBytes 1 s.chctl.notchEn ++ toBytes 4 s.chctl.notchFreq ++
      toBytes 3 act
  | .channelSet a b act => toBytes 1 0x12 ++ toBytes 1 a ++ toBytes 1 b ++ toBytes 3 act
  | .channelCancel act => toBytes 1 0x13 ++ toBytes 3 act
  | .readId _ => toBytes 1 0x20
  | .readLeadStatus _ => toBytes 1 0x21
  | .keyLoad _ _ => toBytes 1 0x30 ++ s.chctl.packKey ++ toBytes 2 s.chctl.keyId

/-- L_c of a command and L_r of its reply (Table 2-4, R39); 0 where the opcode has no reply. -/
def cmdLens : ChainCmd → Nat × Nat
  | .enumStep _ => (1, 0)
  | .enumInvite => (1, 0)
  | .enumAssign .. => (4, 0)
  | .enumCheck => (2, 0)
  | .topology .. => (11, 0)
  | .learn .. => (11, 0)
  | .filterSet .. => (10, 0)
  | .channelSet .. => (6, 0)
  | .channelCancel .. => (4, 0)
  | .readId _ => (1, 14)
  | .readLeadStatus _ => (1, 5)
  | .keyLoad .. => (19, 0)

/-- The hop an exchange reaches, counted from its radio (REACH): the addressed node, the far end of the half for a broadcast, of the
chain for ENUM_CHECK (R27), and the next node for radio A's own invitation. -/
def cmdHop (r : Radio) (c : ChainCmd) (s : State) : Nat :=
  match cmdNode c with
  | some h => hopFrom r h s
  | none => match c with
    | .enumInvite => 1
    | .enumAssign .. => 1
    | .enumCheck => s.chain.n
    | _ => halfLen r s

/-- The HOP field (R31): h - 1 for a command to hop h, 0xFF for a broadcast. -/
def cmdHopField (r : Radio) (c : ChainCmd) (s : State) : Nat :=
  match cmdNode c with
  | some h => hopFrom r h s - 1
  | none => match c with
    | .enumInvite => 0
    | .enumAssign .. => 0
    | _ => 0xFF

/-- The key a node holds; the pack key for a node of which none is known (R54). -/
def keyOf (h : Nat) (s : State) : List Byte := if (nodeAt h s).key.isEmpty then s.chctl.packKey else (nodeAt h s).key

/-- The key a command is protected with: the pack key, or the addressed node's current key (R54). -/
def cmdKey (c : ChainCmd) (s : State) : List Byte :=
  match cmdNode c with
  | some h => keyOf h s
  | none => s.chctl.packKey

/-- Bytes 0-10 of a COMMAND or REPLY (Table 2-3), with SRC_HOP 0. -/
def cmdHead (type : Nat) (r : Radio) (hop reach ctr len : Nat) : List Byte :=
  toBytes 1 (16 * type + 1) ++ toBytes 1 0 ++ toBytes 1 hop ++ toBytes 1 reach ++ toBytes 1 (dirBit r) ++ toBytes 5 ctr ++ toBytes 1 len

/-- A COMMAND body (Table 2-3). DESIGN CHOICE (log 112): a KEY_LOAD in the clear carries MIC 0. -/
def cmdBody (r : Radio) (c : ChainCmd) (ctr : Nat) (s : State) : List Byte :=
  let p := cmdPayload c s
  let head := cmdHead 2 r (cmdHopField r c s) (cmdHop r c s) ctr p.length
  withCrc (head ++ (if cmdClear c then p ++ toBytes 4 0 else ccmSeal (cmdKey c s) (ccmNonce (cmdSender r) ctr) head p))

/-! ### Frames sent -/

/-- The MRAM copies of the counters are written when one has advanced by 4,096 (R53). -/
def storeCounters (s : State) : State :=
  if s.chain.sweepCtr - s.chain.storedSweep ≥ 4096 || s.chain.cmdCtrA - s.chain.storedA ≥ 4096 ||
    s.chain.cmdCtrB - s.chain.storedB ≥ 4096 then
    { s with chain := { s.chain with
      storedSweep := s.chain.sweepCtr, storedA := s.chain.cmdCtrA, storedB := s.chain.cmdCtrB } }
  else s

/-- The command counter of a radio. -/
def cmdCtr (r : Radio) (s : State) : Nat := match r with | .a => s.chain.cmdCtrA | .b => s.chain.cmdCtrB

/-- Set a radio's command counter. -/
def setCmdCtr (r : Radio) (x : Nat) (s : State) : State :=
  storeCounters (match r with
    | .a => { s with chain := { s.chain with cmdCtrA := x % 2 ^ 40 } }
    | .b => { s with chain := { s.chain with cmdCtrB := x % 2 ^ 40 } })

/-- Advance a radio's command counter by k (Table 2-11). -/
def addCmdCtr (r : Radio) (k : Nat) (s : State) : State := setCmdCtr r (cmdCtr r s + k) s

/-- Send a COMMAND from a radio; only the member that acts transmits (R28). -/
def sendCmd (r : Radio) (c : ChainCmd) (s : State) : State :=
  if acts s && !radioFenced r s then
    let s := addCmdCtr r 1 s
    emit (.radio r (channelOf r s) (cmdPower c s) (onAir (cmdBody r c (cmdCtr r s) s))) s
  else s

/-- Send a beacon from a radio. -/
def sendBeacon (r : Radio) (reach hmax : Nat) (recovery : Bool) (s : State) : State :=
  emit (.radio r (channelOf r s) 10 (onAir (beaconBody s.chctl.packKey r reach hmax s.chain.sweepCtr recovery))) s

/-- Queue a COMMAND for a half's service windows (R39); a member that only listens queues none (R28). -/
def queueCmd (r : Radio) (c : ChainCmd) (s : State) : State :=
  if radioFenced r s || !acts s then s else { s with chctl := { s.chctl with queue := s.chctl.queue ++ [⟨r, c⟩] } }

/-- Queue a broadcast from both radios. -/
def queueBoth (c : ChainCmd) (s : State) : State := queueCmd .b c (queueCmd .a c s)

/-- Queue a command to node h through the radio that serves it. -/
def queueNode (h : Nat) (c : ChainCmd) (s : State) : State :=
  match servedBy h s with
  | some r => queueCmd r c s
  | none => s

/-- The TOPOLOGY command for the topology in force, effective at sweep `act` (Table 2-4), to one node or to all. DEDUCED from R25 and
R45 (log 108): its S is the last node radio A serves, so that a node learns from S and N which half it now belongs to. -/
def topologyCmd (h : Option Nat) (balMode act : Nat) (s : State) : ChainCmd :=
  .topology h s.chain.n (halfOf .a s).2 s.chain.chA s.chain.chB (periodMs s) balMode (act % 2 ^ 24)

/-- Command node h's filter with FILTER_SET (R50, R51); its ACT is set as it leaves (`stampCmd`). -/
def sendFilter (h : Nat) (s : State) : State :=
  queueNode h (.filterSet h 0) (modNode h (fun n => { n with filterAct := none }) s)

/-- Group delay of a corner in ns (Table 2-10). -/
def groupDelayNs (corner : Nat) : Nat :=
  match corner with | 0 => 10800000 | 1 => 2700000 | 2 => 680000 | _ => 170000

/-- Settling time of a corner in µs (Table 2-10). -/
def settlingUs (corner : Nat) : Nat := match corner with | 0 => 30000 | 1 => 7500 | 2 => 1900 | _ => 470

/-- Quiet lead time of a corner in µs (Table 3-2). -/
def quietUs (corner : Nat) : Nat := match corner with | 0 => 30000 | 1 => 8000 | _ => 2000

/-! ### Causes of the chain and cell faults (R57, R78) -/

/-- The cause of a fault is present in the running sweep. -/
def noteCause (code inst : Nat) (s : State) : State :=
  { s with chctl := { s.chctl with causes :=
      ⟨code, inst, s.cells.sweepNo⟩ :: s.chctl.causes.filter fun c => !(c.code == code && c.inst == inst) } }

/-- Raise a fault of the chain or the cells, and note the sweep in which its cause was present. -/
def raiseC (code inst : Nat) (s : State) : State := raiseF code inst (noteCause code inst s)

/-- The cause of a fault has been absent for 10 consecutive sweeps (R57, R78). -/
def tenClean (code inst : Nat) (s : State) : Bool :=
  match s.chctl.causes.find? fun c => c.code == code && c.inst == inst with
  | some c => c.sweep + 11 ≤ s.cells.sweepNo
  | none => true

/-! ### Channel changes (R24, R48, R49) -/

/-- Two channels are at least 2 numbers apart (R24). -/
def channelsOk (a b : Nat) : Bool := a + 2 ≤ b || b + 2 ≤ a

/-- Begin a channel change: CHANNEL_SET from both radios (R48 step 1); its ACT is fixed as the commands leave. -/
def startChannelChange (a b : Nat) (s : State) : State :=
  let act := (s.chain.sweepCtr + 3) % 2 ^ 40
  queueBoth (.channelSet a b act) { s with chctl := { s.chctl with chanPend := some (a, b, act), chanOk := false } }

/-- Give up a channel change (R48 step 4). -/
def cancelChannelChange (act : Nat) (s : State) : State :=
  raiseF 0x2009 wide (queueBoth (.channelCancel (act % 2 ^ 24)) { s with chctl := { s.chctl with chanPend := none } })

/-- Both radios change at ACT where every delivering node was armed in the sweep before (R48 step 3); a channel left is remembered for
R49. DEDUCED (log 113): a change whose ACT a takeover's jump of the counter passed before that check is cancelled. -/
def applyChannelChange (s : State) : State :=
  match s.chctl.chanPend with
  | some (a, b, act) =>
    if s.chain.sweepCtr < act then s
    else if !s.chctl.chanOk then cancelChannelChange act s
    else
      let left (old new : Nat) (v : Vector (Option Nat) 16) := if old = new then v else setAt v old (some s.chain.sweepCtr)
      clearF 0x2009 wide { s with
        chain := { s.chain with chA := a, chB := b }
        chctl := { s.chctl with chanPend := none
                                leftAt := left s.chain.chB b (left s.chain.chA a s.chctl.leftAt) } }
  | none => s

/-! ### Sweep launch (R37, R44 to R47, R56) -/

/-- The chain's RWC entries as a start finds them (R56): the nodes learn them with the first commands. -/
def loadChainCfg (s : State) : State :=
  let a := cfgN Ent.CHN_CHAN_A s
  let b := cfgN Ent.CHN_CHAN_B s
  { s with
    chain := { s.chain with chA := a, chB := b }
    chctl := { s.chctl with
      period := cfgN Ent.CHN_SWEEP_PERIOD s, filterCorner := cfgN Ent.CHN_FILTER_CORNER s, notchEn := cfgN Ent.CHN_NOTCH_EN s
      notchFreq := cfgN Ent.CVT_PWM_FREQ s, chanWant := (a, b), chanPend := none
      balMode := cfgN Ent.STR_BAL_MODE s, nodeBalMode := cfgN Ent.STR_BAL_MODE s, balActs := [] } }

/-- A change of CHN_CHAN_A or _B becomes a channel change (R48); it waits while another is pending. -/
def latchChannels (s : State) : State :=
  let want := (cfgN Ent.CHN_CHAN_A s, cfgN Ent.CHN_CHAN_B s)
  if want == s.chctl.chanWant then s
  else if want == (s.chain.chA, s.chain.chB) then { s with chctl := { s.chctl with chanWant := want } }
  else if s.chctl.chanPend.isSome || !acts s then s
  else startChannelChange want.1 want.2 { s with chctl := { s.chctl with chanWant := want } }

/-- RWC entries of the chain and of balancing take effect at the launch (R56, R77); what changed is sent to the nodes. DESIGN CHOICE
(log 114): the TOPOLOGY of a changed STR_BAL_MODE or period names the second sweep after the launch as ACT. -/
def latchChainCfg (s : State) : State :=
  let c := s.chctl
  let bal := cfgN Ent.STR_BAL_MODE s
  let per := cfgN Ent.CHN_SWEEP_PERIOD s
  let corner := cfgN Ent.CHN_FILTER_CORNER s
  let notch := cfgN Ent.CHN_NOTCH_EN s
  let freq := cfgN Ent.CVT_PWM_FREQ s
  let filterAll := corner != c.filterCorner || notch != c.notchEn || freq != c.notchFreq
  let s := { s with chctl := { c with period := per, filterCorner := corner, notchEn := notch, notchFreq := freq, balMode := bal } }
  let act := (s.chain.sweepCtr + 2) % 2 ^ 40
  let s := if bal != c.balMode || per != c.period then
      queueBoth (topologyCmd none bal act s) { s with chctl := { s.chctl with balActs := s.chctl.balActs ++ [(act, bal)] } }
    else s
  let s := latchChannels s
  let s := forAll (upTo 1 s.chain.n) (fun h s =>
    let k := cfgN Ent.CHN_NODE_CORNER s (h - 1)
    let old := (nodeAt h s).corner
    let s := modNode h (fun n => { n with corner := k }) s
    if filterAll || k != old then sendFilter h s else s) s
  { s with cells := { s.cells with cells := s.cells.cells.mapIdx fun i x =>
      { x with tempSrc := cfgN Ent.CELL_TEMP_SRC s i, dutySend := x.duty } } }

/-- The topology of the sweep about to launch: a re-split (R45) or the return to the configured topology (R46). -/
def latchTopology (s : State) : State :=
  match s.chctl.resplitNext with
  | some (lo, hi) =>
    let s := { s with
      chain := { s.chain with topo := .resplit, resplitLo := lo, resplitHi := hi, state := .degraded }
      chctl := { s.chctl with resplitNext := none, probeRun := 0, restoreAt := none } }
    forAll (upTo 1 s.chain.n) (fun h s => queueNode h (topologyCmd (some h) s.chctl.nodeBalMode s.chain.sweepCtr s) s) s
  | none =>
    match s.chctl.restoreAt with
    | some k =>
      if k ≤ s.chain.sweepCtr then
        { s with chain := { s.chain with topo := .configured, state := .running }
                 chctl := { s.chctl with restoreAt := none, probeRun := 0, probeMiss := 0 } }
      else s
    | none => s

/-- BAL_MODE changes take effect at the node at their ACT (R64, R71). -/
def latchNodeBal (s : State) : State :=
  let due := s.chctl.balActs.filter (·.1 ≤ s.chain.sweepCtr)
  { s with chctl := { s.chctl with
      nodeBalMode := (due.getLast?.map (·.2)).getD s.chctl.nodeBalMode
      balActs := s.chctl.balActs.filter (fun x => !(x.1 ≤ s.chain.sweepCtr)) } }

/-- The chain can sweep: enumerated, M not fenced, a baseband left (R27, R47). -/
def canSweep (s : State) : Bool :=
  (s.chain.state == .running || s.chain.state == .degraded || s.chain.state == .singleRadio) &&
  !isFenced .m s && !(s.chain.fencedA && s.chain.fencedB)

/-- An instant is a frame boundary (R17, R37). -/
def onBoundary (t : Nat) (s : State) : Bool := ((t : Int) - s.frameAt) % 1000000 == 0

/-- A launch is due at t: on a frame boundary, a sweep period after the launch before, or where a stretch set it (R37, R44). -/
def launchDue (t : Nat) (s : State) : Bool :=
  canSweep s && !s.chain.sweep.active && onBoundary t s && (!s.chain.sweep.run || decide (nextLaunch s ≤ t))

/-- The fresh record of one half at launch: an empty half has nothing to wait for (R25, R45). -/
def freshHalf (r : Radio) (old : HalfSweep) (t : Nat) (s : State) : HalfSweep :=
  { done := halfLen r s == 0, doneAt := t, lastDisplaced := old.displaced }

/-- A node fails an obligation that the module observes (R55). -/
def nodeLate (h : Nat) (s : State) : State := modNode h (fun n => { n with late := true, state := .nodeFault }) s

/-- The REPLY a half waits for. -/
def awaited (r : Radio) (s : State) : Option Await := match r with | .a => s.chctl.awaitA | .b => s.chctl.awaitB

/-- Set the REPLY a half waits for. -/
def setAwait (r : Radio) (a : Option Await) (s : State) : State :=
  match r with
  | .a => { s with chctl := { s.chctl with awaitA := a } }
  | .b => { s with chctl := { s.chctl with awaitB := a } }

/-- A REPLY that has not come within T_X is missed (R39, R55). -/
def missReply (r : Radio) (t : Nat) (s : State) : State :=
  match awaited r s with
  | some a => if a.due < t then setAwait r none (nodeLate a.h s) else s
  | none => s

/-- The hop count and counter of a beacon that a listening member hears and that is authentic (R28, R31, R53). -/
def heardBeacon (r : Radio) (b : List Byte) (s : State) : Option (Nat × Nat) :=
  let recovery := bitOf (fieldU b 9 1) 6
  let ctr := fieldU b 4 5
  if b.length == 18 && airCrcOk b && fieldU b 0 1 == 0x11 && fieldU b 1 1 == 0 && bitOf (fieldU b 9 1) 7 == (r == .b) && !recovery &&
      decide (s.chain.sweepCtr < ctr) &&
      (ccmOpen s.chctl.packKey (ccmNonce (beaconSender r false) ctr) (b.take 10) [] (slice b 10 4)).isSome then
    some (fieldU b 3 1, ctr)
  else none

/-- The counter of the sweep that launches: one more, or what a listening member hears in its partner's beacon (R28, R37). -/
def launchCtr (heard : List (Radio × List Byte)) (s : State) : Nat :=
  if acts s then (s.chain.sweepCtr + 1) % 2 ^ 40
  else ((heard.filterMap fun x => heardBeacon x.1 x.2 s).head?.map (·.2)).getD ((s.chain.sweepCtr + 1) % 2 ^ 40)

/-- The re-split or single-radio period lies above CHN_SWEEP_PERIOD (Table 2-15, 0x2006). -/
def longPeriod (s : State) : Bool :=
  s.chain.topo != .configured && tierAtLeast .limited s && decide (cfgN Ent.CHN_SWEEP_PERIOD s < minPeriod s.chain.n (hMaxOf s))

/-- Launch a sweep at frame boundary `t` (R37). DESIGN CHOICE (log 116): the 100 sweeps of 0x2008 are counted in consecutive
blocks. -/
def sweepLaunch (t : Nat) (heard : List (Radio × List Byte)) (s : State) : State :=
  guardOn (launchDue t s) (fun s =>
    let s := missReply .b t (missReply .a t (atTime t s))
    let s := { s with chain := { s.chain with sweepCtr := launchCtr heard s, slot := s.fw.pairNo } }
    let s := latchChainCfg s
    let s := latchTopology s
    let s := applyChannelChange s
    let s := latchNodeBal (storeCounters s)
    let hm := hMaxOf s
    let s := if longPeriod s then raiseC 0x2006 wide s else s
    let s := { s with
      chain := { s.chain with
        hmax := hm
        effPeriod := periodMs s
        sweep := { run := true, active := true, launch := t, instant := t + (hm - 1) * 48000, hmax := hm,
                   a := freshHalf .a s.chain.sweep.a t s, b := freshHalf .b s.chain.sweep.b t s } }
      chctl := { s.chctl with
        iMax := 0
        sinceLearn := s.chctl.sinceLearn + 1, sincePoll := s.chctl.sincePoll + 1,
        evalSweepsA := s.chctl.evalSweepsA + 1, evalSweepsB := s.chctl.evalSweepsB + 1
        micSweeps := if s.chctl.micSweeps ≥ 99 then 0 else s.chctl.micSweeps + 1
        micWindow := if s.chctl.micSweeps ≥ 99 then 0 else s.chctl.micWindow } }
    forAll [Radio.a, Radio.b] (fun r s =>
      if acts s && halfLen r s > 0 && !radioFenced r s then sendBeacon r (halfLen r s) hm false s
      else s) s) s

/-- SWEEP_LAUNCH (R37); `heard` are the beacon bodies that reach a listening member's radios at that launch (R28). -/
def execSweepLaunch (t : Nat) (heard : List (Radio × List Byte)) (s : State) : Host.Outcome State Fault Refusal :=
  whenLiveK (sweepLaunch t heard) s

/-! ### Errors on air (R30, R53) -/

/-- A frame with a failing CRC (R30), counted for R49 as well. -/
def countCrcErr (r : Radio) (s : State) : State :=
  match r with
  | .a => { s with chain := { s.chain with crcErrA := incSat32 s.chain.crcErrA }
                   chctl := { s.chctl with failsA := s.chctl.failsA + 1
                                           chanFails := modAt s.chctl.chanFails s.chain.chA (· + 1) } }
  | .b => { s with chain := { s.chain with crcErrB := incSat32 s.chain.crcErrB }
                   chctl := { s.chctl with failsB := s.chctl.failsB + 1
                                           chanFails := modAt s.chctl.chanFails s.chain.chB (· + 1) } }

/-- A frame heard on a radio's channel (R49). -/
def countFrame (r : Radio) (s : State) : State :=
  match r with
  | .a => { s with chctl := { s.chctl with framesA := s.chctl.framesA + 1 } }
  | .b => { s with chctl := { s.chctl with framesB := s.chctl.framesB + 1 } }

/-- A frame reaches a radio: it is counted, and discarded where its CRC fails (R30, R49). -/
def hearFrame (r : Radio) (b : List Byte) (f : State → State) (s : State) : State :=
  let s := countFrame r s
  if airCrcOk b then f s else countCrcErr r s

/-- A unit whose tag or counter fails (R53): 0x2008 above 10 failures in 100 sweeps. -/
def countMicErr (s : State) : State :=
  let s := { s with chain := { s.chain with micErr := incSat32 s.chain.micErr }
                    chctl := { s.chctl with micWindow := s.chctl.micWindow + 1 } }
  if s.chctl.micWindow > 10 then raiseC 0x2008 wide s else s

/-! ### Half bookkeeping -/

/-- Change a radio's half of the running sweep. -/
def modHalf (r : Radio) (f : HalfSweep → HalfSweep) (s : State) : State :=
  match r with
  | .a => { s with chain := { s.chain with sweep := { s.chain.sweep with a := f s.chain.sweep.a } } }
  | .b => { s with chain := { s.chain with sweep := { s.chain.sweep with b := f s.chain.sweep.b } } }

/-- The half of a radio is broken in this sweep (R41). -/
def breakHalf (r : Radio) (s : State) : State :=
  raiseC (match r with | .a => 0x2003 | .b => 0x2004) wide
    (modHalf r (fun x => { x with broken := true }) { s with chain := { s.chain with sweep := { s.chain.sweep with split := true } } })

/-- The half needs, and can have, a recovery from the other radio (R42). -/
def needsRecovery (r : Radio) (s : State) : Bool :=
  (halfSweep r s).broken && !radioFenced (otherRadio r) s && s.chain.topo != .single

/-- Both halves are done and every recovery has ended (R74). -/
def sweepDone (s : State) : Bool :=
  (halfSweep .a s).done && (halfSweep .b s).done &&
  (!needsRecovery .a s || (halfSweep .b s).recovered) && (!needsRecovery .b s || (halfSweep .a s).recovered)

/-! ### Recovery (R42, R44) -/

/-- Nodes that delivered a record through a radio in the running sweep. -/
def deliveredVia (r : Radio) (s : State) : List Nat :=
  (s.chain.sweep.got.filter (·.radio == r)).map (·.node)

/-- The nodes of a radio's own half that delivered through it, without those it recovered of the other half. -/
def ownDelivered (r : Radio) (s : State) : List Nat :=
  (deliveredVia r s).filter fun h => (halfOf r s).1 ≤ h && h ≤ (halfOf r s).2

/-- REACH of a recovery: the index, from the recovering radio, of the node just beyond the last record that the broken half
delivered (R42). -/
def recoveryReach (r : Radio) (s : State) : Nat :=
  match r with
  | .b => s.chain.n - (ownDelivered .a s).foldl max 0
  | .a => (ownDelivered .b s).foldl min (s.chain.n + 1) - 1

/-- The first instant at which a radio may start its recovery (R42): 100 µs after its own train or deadline, and, for radio A with both
halves broken, once radio B's recovery has ended. -/
def recoveryFrom (r : Radio) (s : State) : Nat :=
  let own := (halfSweep r s).doneAt + 100000
  match r with
  | .a => if (halfSweep .a s).broken then max own (halfSweep .b s).recEndAt else own
  | .b => own

/-- The other radio sends a recovery beacon (R42). -/
def recoveryStart (r : Radio) (t : Nat) (s : State) : State :=
  guardOn (s.chain.sweep.active && !radioFenced r s && !isFenced .m s && needsRecovery (otherRadio r) s &&
      (halfSweep r s).done && (halfSweep (otherRadio r) s).done && !(halfSweep r s).recovering && !(halfSweep r s).recovered &&
      (r == .b || !(halfSweep .a s).broken || (halfSweep .b s).recovered) && decide (recoveryFrom r s ≤ t)) (fun s =>
    let s := atTime t s
    let reach := recoveryReach r s
    let s := modHalf r (fun x => { x with recovering := true, recReach := reach, recInstant := t + (reach - 1) * 48000 }) s
    if acts s then sendBeacon r reach reach true s else s) s

/-- RECOVERY_START (R42). -/
def execRecoveryStart (radio : Radio) (t : Nat) (s : State) : Host.Outcome State Fault Refusal :=
  whenLiveK (recoveryStart radio t) s

/-- The first frame boundary at least 100 µs after a recovery ended at t (R44). -/
def boundaryAfter (t : Nat) (s : State) : Nat :=
  let l := s.chain.sweep.launch
  l + (t + 100000 - l + 999999) / 1000000 * 1000000

/-- A recovery that has not ended 100 µs before the scheduled launch delays it (R44). -/
def stretchCheck (t : Nat) (s : State) : State :=
  if t + 100000 > nextLaunch s then
    raiseC 0x2006 wide { s with chain := { s.chain with
      sweep := { s.chain.sweep with stretched := true }
      effPeriod := (boundaryAfter t s - s.chain.sweep.launch) / 1000000 } }
  else s

/-- A radio's recovery ends at t (R42, R44). -/
def endRecovery (r : Radio) (t : Nat) (s : State) : State :=
  stretchCheck t (modHalf r (fun x => { x with recovering := false, recovered := true, recEndAt := t }) s)

/-! ### Duty frames and service exchanges (R37, R39) -/

/-- The duties a DUTY frame carries to node h: those computed after the latest sweep completed before this one (R74), or the learning
duties when R71 names this frame; nothing is mapped while STR_MAP_STATE is not MAPPED, and every duty is 0. -/
def nodeDuties (h : Nat) (s : State) : List Nat :=
  let nd := nodeAt h s
  let learning := match s.chctl.triple with
    | some tr => tr.k == s.chain.sweepCtr + 1
    | none => false
  (List.range 16).map fun i =>
    if i ≥ nd.cells || s.cells.map != .mapped then 0
    else if learning then (match s.chctl.triple with | some tr => if i % 3 == tr.s then 63 else 0 | none => 0)
    else (getAt s.cells.cells (nd.p0 + i)).dutySend

/-- The nodes of a radio's half, nearest first. -/
def halfNodes (r : Radio) (s : State) : List Nat :=
  let (lo, hi) := halfOf r s
  match r with
  | .a => upTo lo hi
  | .b => (upTo lo hi).reverse

/-- The DUTY frame of a radio's half leaves, 100 µs after its train (R37 step 5): not in a sweep known to be broken (R44), not when an
exchange took its place (R39). The STANDBY_PAIR member follows the same schedule (R28). -/
def dutyFrameSend (r : Radio) (t : Nat) (s : State) : State :=
  guardOn (s.chain.sweep.run && canSweep s && !radioFenced r s && halfLen r s > 0 && (halfSweep r s).done &&
      !(halfSweep r s).dutySent && !s.chain.sweep.split && decide (dutyDue r s ≤ t)) (fun s =>
    let s := atTime t s
    let ns := halfNodes r s
    let ctr := cmdCtr r s
    let slices := ns.map fun h => (h, nodeDuties h s)
    let frame := dutyBody r ctr (slices.map fun x => (keyOf x.1 s, x.2))
    let s := modHalf r (fun x => { x with dutySent := true }) s
    let s := forAll slices (fun x s => modNode x.1 (fun n => { n with duties := x.2, dutyAt := s.now }) s) s
    if acts s then emit (.radio r (channelOf r s) 10 (onAir frame)) (addCmdCtr r ns.length s) else s) s

/-- The duty in force at the node for input i (R84): nodes hold their last duties for at most 4 sweep periods (Table 2-12). -/
def dutyInForce (h i : Nat) (s : State) : Nat :=
  let nd := nodeAt h s
  if s.now ≤ nd.dutyAt + 4 * s.chain.effPeriod * 1000000 then nd.duties.getD i 0 else 0

/-- DUTY_FRAME_SEND (R37). -/
def execDutyFrameSend (radio : Radio) (t : Nat) (s : State) : Host.Outcome State Fault Refusal :=
  whenLiveK (dutyFrameSend radio t) s

/-- Length of a service exchange in µs (R39). -/
def tExchange (h lc lr : Nat) : Nat :=
  h * (12 + 2 * (19 + lc)) + (if lr = 0 then 0 else 200 + h * (12 + 2 * (19 + lr)))

/-- T_X of a command through a radio, µs; the two commands of R71 count together, so that they leave in one window. -/
def cmdTime (r : Radio) (c : ChainCmd) (s : State) : Nat :=
  let x := tExchange (cmdHop r c s) (cmdLens c).1 (cmdLens c).2
  match c with
  | .learn false _ => 2 * x
  | _ => x

/-- Take the first queued command of a half out of the queue. -/
def popCmd (r : Radio) : List QueuedCmd → Option (ChainCmd × List QueuedCmd)
  | [] => none
  | q :: rest => if q.radio == r then some (q.cmd, rest) else (popCmd r rest).map fun x => (x.1, q :: x.2)

/-- The ACT of a channel change moves to `act`: a CHANNEL_SET not yet sent takes it along, one already sent is sent again (R48). -/
def moveChannelAct (r : Radio) (a b act : Nat) (s : State) : State :=
  let o := otherRadio r
  let waits := s.chctl.queue.any fun q => q.radio == o && (match q.cmd with | .channelSet .. => true | _ => false)
  let q := s.chctl.queue.map fun q => match q.cmd with | .channelSet .. => { q with cmd := .channelSet a b act } | _ => q
  let s := { s with chctl := { s.chctl with queue := q, chanPend := some (a, b, act) } }
  if waits then s else queueCmd o (.channelSet a b act) s

/-- The learning sweep moves to k, before any of its readings is taken: a command of R71 already sent is sent again. -/
def moveLearn (r : Radio) (k : Nat) (s : State) : State :=
  let o := otherRadio r
  let old := (s.chctl.triple.map (·.k)).getD k
  let waits := s.chctl.queue.any fun q => q.radio == o && (match q.cmd with | .learn .. => true | _ => false)
  let q := s.chctl.queue.map fun q => match q.cmd with | .learn b _ => { q with cmd := .learn b k } | _ => q
  let acts := s.chctl.balActs.map fun x => if x.1 = old then (k, x.2) else if x.1 = old + 1 then (k + 1, x.2) else x
  let s := { s with chctl := { s.chctl with queue := q, balActs := acts, triple := s.chctl.triple.map fun t => { t with k := k } } }
  if waits || halfLen o s == 0 then s else queueCmd o (.learn false k) s

/-- What a command carries as it leaves. DESIGN CHOICE (log 115): a FILTER_SET names the second sweep after it leaves as ACT (R51). A
CHANNEL_SET whose ACT is no longer 3 sweeps ahead moves the change (R48), a learning command less than 2 sweeps before k the
triple (R71). -/
def stampCmd (r : Radio) (c : ChainCmd) (s : State) : ChainCmd × State :=
  match c with
  | .filterSet h _ =>
    let act := (s.chain.sweepCtr + 2) % 2 ^ 40
    (.filterSet h act, modNode h (fun n => { n with filterAct := some act }) s)
  | .channelSet a b act =>
    if s.chain.sweepCtr + 3 ≤ act then (c, s)
    else (.channelSet a b (s.chain.sweepCtr + 5), moveChannelAct r a b (s.chain.sweepCtr + 5) s)
  | .learn second k =>
    if second || s.chain.sweepCtr + 2 ≤ k then (c, s)
    else (.learn second (s.chain.sweepCtr + 4), moveLearn r (s.chain.sweepCtr + 4) s)
  | _ => (c, s)

/-- A command leaves at t, and its half is busy until it has ended (R39); the second command of R71 follows in the same window. A node
that is sent a key holds it from then on (R54). -/
def runExchange (r : Radio) (t : Nat) (c : ChainCmd) (s : State) : State :=
  let (c, s) := stampCmd r c s
  let stop := t + cmdTime r c s * 1000
  let s := sendCmd r c (atTime t s)
  let s := match c with
    | .learn false k => sendCmd r (.learn true k) s
    | .keyLoad h _ => modNode h (fun n => { n with key := s.chctl.packKey }) s
    | _ => s
  let s := match r with
    | .a => { s with chctl := { s.chctl with busyA := stop } }
    | .b => { s with chctl := { s.chctl with busyB := stop } }
  match c with
  | .readId h => setAwait r (some ⟨h, 0xA0, stop⟩) s
  | .readLeadStatus h => setAwait r (some ⟨h, 0xA1, stop⟩) s
  | _ => s

/-- The end of the last exchange of a half. -/
def busyUntil (r : Radio) (s : State) : Nat := match r with | .a => s.chctl.busyA | .b => s.chctl.busyB

/-- Exchanges can run: the chain has been enumerated (R27), a baseband and M are left. -/
def canExchange (s : State) : Bool := canSweep s || (s.chain.state == .failed && !isFenced .m s && !(s.chain.fencedA && s.chain.fencedB))

/-- The service window of a half stands open at t (Table 2-8 step 7): from the end of its DUTY frame on; in a SPLIT sweep, which has
none, once the sweep is complete; without a sweep, always. -/
def inWindow (r : Radio) (t : Nat) (s : State) : Bool :=
  if !s.chain.sweep.run || !canSweep s then true
  else if s.chain.sweep.split then !s.chain.sweep.active
  else (halfSweep r s).done && ((halfSweep r s).dutySent || halfLen r s == 0) && decide (windowOpen r s ≤ t)

/-- An exchange of length tx, started at t, ends 100 µs before the next launch (R39). -/
def exchangeFits (t tx : Nat) (s : State) : Bool := !s.chain.sweep.run || !canSweep s || decide (t + (tx + 100) * 1000 ≤ nextLaunch s)

/-- An exchange that fits no window of this sweep takes the place of the half's duty train, at the instant at which it would have left,
never in two consecutive sweeps (R39). -/
def displaces (r : Radio) (t tx : Nat) (s : State) : Bool :=
  s.chain.sweep.run && canSweep s && !s.chain.sweep.split && (halfSweep r s).done && !(halfSweep r s).dutySent && halfLen r s > 0 &&
  !(halfSweep r s).lastDisplaced && t == dutyDue r s && !exchangeFits (windowOpen r s) tx s && exchangeFits t tx s

/-- Run the next queued exchange of a half at `t` (R39). -/
def serviceExchange (r : Radio) (t : Nat) (s : State) : State :=
  guardOn (acts s && canExchange s && !radioFenced r s && decide (busyUntil r s ≤ t)) (fun s =>
    match popCmd r s.chctl.queue with
    | none => s
    | some (c, rest) =>
      let tx := cmdTime r c s
      let run (s : State) := runExchange r t c (missReply r t { s with chctl := { s.chctl with queue := rest } })
      if inWindow r t s then (if exchangeFits t tx s then run s else s)
      else if displaces r t tx s then run (modHalf r (fun x => { x with dutySent := true, displaced := true }) s)
      else s) s

/-- The low 24 bits of ACT, as the sweep counter they name from now on. -/
def actFrom (lo : Nat) (s : State) : Nat := s.chain.sweepCtr + (lo + 2 ^ 24 - s.chain.sweepCtr % 2 ^ 24) % 2 ^ 24

/-- What a COMMAND that a listening member hears changes in its copy of the schedule (R28): a channel change armed or cancelled, and
BAL_MODE. DEDUCED (log 117): R28 names beacons, trains and replies; a member cannot follow R48 and R71 without the commands. -/
def followCmd (p : List Byte) (s : State) : State :=
  let op := fieldU p 0 1
  if op = 0x10 then
    { s with chctl := { s.chctl with balActs := s.chctl.balActs ++ [(actFrom (fieldU p 8 3) s, fieldU p 7 1)] } }
  else if op = 0x12 then
    { s with chctl := { s.chctl with chanPend := some (fieldU p 1 1, fieldU p 2 1, actFrom (fieldU p 3 3) s), chanOk := false } }
  else if op = 0x13 then { s with chctl := { s.chctl with chanPend := none } }
  else s

/-- A listening member hears a COMMAND of its partner (R28): authentic, from the radio itself, with a counter not used before (R53). -/
def hearCmd (r : Radio) (b : List Byte) (s : State) : State :=
  hearFrame r b (fun s =>
    let len := fieldU b 10 1
    let ctr := fieldU b 5 5
    if !(b.length == 19 + len && fieldU b 0 1 == 0x21 && fieldU b 1 1 == 0 && bitOf (fieldU b 4 1) 7 == (r == .b)) then s
    else if ctr ≤ cmdCtr r s then countMicErr s
    else match ccmOpen s.chctl.packKey (ccmNonce (cmdSender r) ctr) (b.take 11) (slice b 11 len) (slice b (11 + len) 4) with
      | some p => followCmd p (setCmdCtr r ctr s)
      | none => countMicErr s) s

/-- SERVICE_EXCHANGE (R39); `heard` is the COMMAND body that reaches a listening member's radio (R28). -/
def execServiceExchange (radio : Radio) (t : Nat) (heard : Option (List Byte)) (s : State) : Host.Outcome State Fault Refusal :=
  whenLiveK (fun s => match heard with
    | some b => if acts s || radioFenced radio s || isFenced .m s then serviceExchange radio t s else hearCmd radio b (atTime t s)
    | none => serviceExchange radio t s) s

/-! ### Replies (R29, R39, R53) -/

/-- The node whose REPLY a body claims to be: its HOP, counted from the radio (Table 2-3). -/
def replyNode (r : Radio) (b : List Byte) (s : State) : Nat := hopFrom r (fieldU b 2 1) s

/-- The header of a REPLY that a radio takes: TYPE and VER, SRC_HOP 1 (R31), DIR, LEN, and a node of the chain. -/
def replyOk (r : Radio) (b : List Byte) (s : State) : Bool :=
  b.length == 19 + fieldU b 10 1 && fieldU b 0 1 == 0x31 && fieldU b 1 1 == 1 && bitOf (fieldU b 4 1) 7 == (r == .b) &&
  1 ≤ replyNode r b s && replyNode r b s ≤ s.chain.n

/-- The associated data of a REPLY: bytes 0-10. DEDUCED from R31 and R52 (log 152): SRC_HOP is the replying node's own, which HOP
repeats, since relays change it on the way. -/
def replyAad (b : List Byte) : List Byte := b.take 1 ++ slice b 2 1 ++ (b.take 11).drop 2

/-- The payload of a REPLY whose counter and tag are right (R53), under the identity `sender` (Table 2-11); in the clear where the
sender has no key (R54). -/
def replyPayload (r : Radio) (sender : Option Nat) (b : List Byte) (s : State) : Option (List Byte) :=
  let len := fieldU b 10 1
  let h := replyNode r b s
  match sender with
  | none => if (nodeAt h s).state == .unkeyed || (nodeAt h s).id == 0 then some (slice b 11 len) else none
  | some id =>
    if (id == (nodeAt h s).id && fieldU b 5 5 ≤ (nodeAt h s).replyCtr) || fieldU b 5 5 < 2 ^ 39 then none
    else ccmOpen (keyOf h s) (ccmNonce id (fieldU b 5 5)) (replyAad b) (slice b 11 len) (slice b (11 + len) 4)

/-- A REPLY reaches a radio: counted, checked, its counter kept; a late one shows a node at fault (R39, R53, R55). The meaning of its
payload follows. -/
def takeReply (r : Radio) (t : Nat) (sender : Option Nat) (b : List Byte) (f : Nat → List Byte → State → State) (s : State) : State :=
  guardOn (!isFenced .m s && !radioFenced r s) (fun s =>
    hearFrame r b (fun s =>
      let h := replyNode r b s
      if !replyOk r b s then s
      else match replyPayload r sender b s with
        | none => countMicErr s
        | some p =>
          let inTime := match awaited r s with
            | some a => !(a.h == h && a.op == fieldU p 0 1) || decide (t ≤ a.due)
            | none => true
          let s := modNode h (fun n => { n with
            replyCtr := if sender.isSome then fieldU b 5 5 else n.replyCtr
            late := !inTime, state := if n.late && inTime && n.state == .nodeFault then .ok else n.state }) s
          let s := if inTime then s else nodeLate h s
          f h p (match awaited r s with
            | some a => if a.h == h && a.op == fieldU p 0 1 then setAwait r none s else s
            | none => s)) (atTime t s)) s

/-! ### Automatic channel choice, identity poll, radio faults -/

/-- Permitted channels a radio may move to: in CHN_CHAN_MASK, not its own, 2 apart from the other radio's, and not left within
1,000 sweeps (R24, R49). DESIGN CHOICE (log 118): a channel that either radio left is barred for both. -/
def channelChoices (own other : Nat) (s : State) : List Nat :=
  (List.range 16).filter fun k =>
    bitOf (cfgN Ent.CHN_CHAN_MASK s) k && k != own && channelsOk k other &&
    (match getAt s.chctl.leftAt k with | some c => s.chain.sweepCtr ≥ c + 1000 | none => true)

/-- The channel with the fewest failures observed; the lowest number on a tie. -/
def bestChannel (ks : List Nat) (s : State) : Option Nat :=
  ks.foldl (fun b k => match b with
    | none => some k
    | some x => if getAt s.chctl.chanFails k < getAt s.chctl.chanFails x then some k else b) none

/-- After 100 sweeps a radio with more than 5 % failures moves to the best permitted channel (R49). -/
def autoChannelEval (r : Radio) (s : State) : State :=
  guardOn ((match r with | .a => s.chctl.evalSweepsA | .b => s.chctl.evalSweepsB) ≥ 100 && canSweep s) (fun s =>
    let (frames, fails) := match r with | .a => (s.chctl.framesA, s.chctl.failsA) | .b => (s.chctl.framesB, s.chctl.failsB)
    let s := match r with
      | .a => { s with chctl := { s.chctl with framesA := 0, failsA := 0, evalSweepsA := 0 } }
      | .b => { s with chctl := { s.chctl with framesB := 0, failsB := 0, evalSweepsB := 0 } }
    if cfgB Ent.CHN_AUTO_CHANNEL s && acts s && fails * 100 > frames * 5 && s.chctl.chanPend.isNone then
      let (own, other) := match r with | .a => (s.chain.chA, s.chain.chB) | .b => (s.chain.chB, s.chain.chA)
      match bestChannel (channelChoices own other s) s with
      | some k => match r with
        | .a => startChannelChange k s.chain.chB s
        | .b => startChannelChange s.chain.chA k s
      | none => s
    else s) s

/-- AUTO_CHANNEL_EVAL (R49). -/
def execAutoChannelEval (radio : Radio) (s : State) : Host.Outcome State Fault Refusal := whenLiveK (autoChannelEval radio) s

/-- Queue READ_ID for every node (R27, R122). -/
def readAllIds (s : State) : State := forAll (upTo 1 s.chain.n) (fun h s => queueNode h (.readId h) s) s

/-- Every 1,000 sweeps the identities of all nodes are read (R122). -/
def identityPoll (s : State) : State :=
  guardOn (s.chctl.sincePoll ≥ 1000 && acts s && canSweep s) (fun s =>
    readAllIds { s with chctl := { s.chctl with sincePoll := 0 } }) s

/-- IDENTITY_POLL (R122). -/
def execIdentityPoll (s : State) : Host.Outcome State Fault Refusal := whenLiveK identityPoll s

/-- No sweep can run any more until reset (R47): both basebands are fenced, or M is. -/
def chainDead (s : State) : Bool := s.chain.fencedA && s.chain.fencedB || isFenced .m s

/-- Every node is UNREACHED, its values are flagged so (R43, R61), and the chain is FAILED until reset (R47). -/
def chainFailed (s : State) : State :=
  let far (q : Qual) : Qual := { q with unreached := true, aged := true }
  let cell (c : Cell) : Cell := if c.node = 0 then c else { c with vq := far c.vq, tq := far c.tq }
  forAll (upTo 1 s.chain.n) (fun h s => modNode h (fun n => { n with state := .unreached }) s)
    { s with chain := { s.chain with state := .failed, sweep := {} }
             cells := { s.cells with cells := s.cells.cells.map cell, done := s.cells.done.map cell } }

/-- Begin an enumeration (R26): no sweep runs until it ends. Radio A is hop 0 and sends the first invitation. -/
def startEnumeration (s : State) : State :=
  if chainDead s then s
  else if nodeCount s = 0 then { s with chain := { s.chain with state := .unconfigured, n := 0, sweep := {} } }
  else sendCmd .a .enumInvite (loadChainCfg { s with chain := { s.chain with state := .enumerating, sweep := {} } })

/-- A member that only listens does not enumerate (R28): it takes the configured number of nodes and follows the sweeps; the map waits
until it has heard each node's READ_ID reply. DEDUCED (log 119). -/
def startListening (s : State) : State :=
  if chainDead s || nodeCount s = 0 || s.chain.state != .unconfigured then s
  else
    let s := loadChainCfg s
    let single := s.chain.fencedA || s.chain.fencedB
    { s with
      chain := { s.chain with n := nodeCount s, state := if single then .singleRadio else .running
                              topo := if single then .single else .configured }
      chctl := { s.chctl with idWait := true } }

/-- Send the first KEY_LOAD in the clear to an unkeyed node (R54). -/
def keyNode (h : Nat) (s : State) : State :=
  if (nodeAt h s).state == .unkeyed then
    modNode h (fun n => { n with key := s.chctl.packKey }) (sendCmd ((servedBy h s).getD .a) (.keyLoad h true) s)
  else s

/-- Take a new pack key and load it into every keyed node under its current key (R54). DESIGN CHOICE (log 120): KEY_ID goes up by 1 for
each key written. -/
def packKey (key : List Byte) (s : State) : State :=
  let old := s.chctl.packKey
  let s := forAll (upTo 1 s.chain.n) (fun h s => modNode h (fun n => if n.key.isEmpty then { n with key := old } else n) s) s
  let s := { s with chctl := { s.chctl with packKey := key, keyId := (s.chctl.keyId + 1) % 65536 } }
  forAll (upTo 1 s.chain.n) (fun h s => if (nodeAt h s).state == .unkeyed then s else queueNode h (.keyLoad h false) s) s

end Sys2Proof.Machine
end

