-- ==== Sys2Proof/Machine/Cells.lean ====
section
/-! DEFINITION. From records to cell values (03_cell_sweeps_and_balancing), and what the end of a sweep does: flags, breaks,
re-split, probes, channel and filter checks, balancing duties, lead learning (02_giton_chain R41 to R50). -/
namespace Sys2Proof.Machine
open Sys2Proof

/-! ### Positions -/

/-- Position n. -/
def cellAt (n : Nat) (s : State) : Cell := getAt s.cells.cells n

/-- Change position n. -/
def modCell (n : Nat) (f : Cell → Cell) (s : State) : State :=
  { s with cells := { s.cells with cells := modAt s.cells.cells n f } }

/-- The positions of node h. -/
def nodePositions (h : Nat) (s : State) : List Nat :=
  let nd := nodeAt h s
  (List.range nd.cells).map (nd.p0 + ·)

/-- The mapped positions 0 to P - 1. -/
def positions (s : State) : List Nat := if s.cells.map == .mapped then List.range s.cells.posCount else []

/-! ### Lead resistances (R70) -/

/-- Value and source of lead k of node h. -/
def leadOf (h k : Nat) (s : State) : Int × LeadSrc :=
  let nd := nodeAt h s
  let (r, src) :=
    if k < nd.cells then (cfg Ent.CELL_LEAD_R_LO s (nd.p0 + k), (cellAt (nd.p0 + k) s).srcLo)
    else (cfg Ent.CELL_LEAD_R_HI s (nd.p0 + k - 1), (cellAt (nd.p0 + k - 1) s).srcHi)
  (if src == .none then 0 else r, src)

/-- Whether a lead's resistance is known. -/
def leadKnown (h k : Nat) (s : State) : Bool := (leadOf h k s).2 != .none

/-- Set lead k of node h, in both entries where it is an inner lead. -/
def setLead (h k : Nat) (r : Int) (src : LeadSrc) (s : State) : State :=
  let nd := nodeAt h s
  let s := if k < nd.cells then setCfgI Ent.CELL_LEAD_R_LO (nd.p0 + k) r (modCell (nd.p0 + k) (fun c => { c with srcLo := src }) s)
    else s
  if 0 < k then setCfgI Ent.CELL_LEAD_R_HI (nd.p0 + k - 1) r (modCell (nd.p0 + k - 1) (fun c => { c with srcHi := src }) s) else s

/-- A write of CELL_LEAD_R_LO or _HI in force: the source becomes CONFIGURED, a shared inner lead is set in both entries (R70). -/
def writeLead (n : Nat) (hi : Bool) (r : Int) (s : State) : State :=
  let c := cellAt n s
  let one (s : State) :=
    if hi then setCfgI Ent.CELL_LEAD_R_HI n r (modCell n (fun c => { c with srcHi := .configured }) s)
    else setCfgI Ent.CELL_LEAD_R_LO n r (modCell n (fun c => { c with srcLo := .configured }) s)
  if s.cells.map == .mapped && n < s.cells.posCount then setLead c.node (c.input + b2n hi) r .configured (one s) else one s

/-- When a map is formed, each inner lead takes one value for both its entries (R70). -/
def shareLeads (h : Nat) (s : State) : State :=
  let nd := nodeAt h s
  forAll (upTo 1 (nd.cells - 1)) (fun k s =>
    let lower := nd.p0 + k - 1
    if (cellAt lower s).srcHi != .none then setLead h k (cfg Ent.CELL_LEAD_R_HI s lower) (cellAt lower s).srcHi s
    else setLead h k (cfg Ent.CELL_LEAD_R_LO s (lower + 1)) (cellAt (lower + 1) s).srcLo s) s

/-! ### Open leads (R62, R63) -/

/-- The positions that lead k of node h faults (R62); a position outside 0 to P - 1 is omitted. -/
def leadPositions (h k : Nat) (s : State) : List Nat :=
  let nd := nodeAt h s
  let below := if 0 < nd.p0 + k then [nd.p0 + k - 1] else []
  if k ≤ nd.cells then (below ++ [nd.p0 + k]).filter (· < s.cells.posCount) else []

/-- The positions faulted by the leads a node reports open. -/
def openPositions (h : Nat) (s : State) : List Nat :=
  ((List.range 17).filter (bitOf (nodeAt h s).openLeads)).flatMap fun k => leadPositions h k s

/-- Recompute which positions leads fault, and 0x2101 with them. -/
def applyLeads (s : State) : State :=
  let hs := upTo 1 s.chain.n
  let opened := hs.flatMap fun h => openPositions h s
  let waiting := hs.flatMap fun h => if (nodeAt h s).multiWait then nodePositions h s else []
  forAll (positions s) (fun n s =>
    setF (opened.contains n) 0x2101 n
      (modCell n (fun c => { c with leadFlt := opened.contains n || waiting.contains n }) s)) s

/-- A READ_LEAD_STATUS to node h is queued, or its reply awaited. -/
def leadAsked (h : Nat) (s : State) : Bool :=
  (s.chctl.queue.any fun q => q.cmd == ChainCmd.readLeadStatus h) ||
  [Radio.a, Radio.b].any fun r => (awaited r s).any fun a => a.h == h && a.op == 0xA1

/-- The LEAD and MULTI_LEAD fields of an accepted record (R62, R63). DESIGN CHOICE (log 121): the LEAD of a record that also carries
MULTI_LEAD is not used; the node's leads are those of its READ_LEAD_STATUS reply. -/
def nodeLeads (h lead : Nat) (multi : Bool) (s : State) : State :=
  let nd := nodeAt h s
  let s :=
    if multi then
      let s := raiseF 0x2102 h (modNode h (fun x => { x with clearRun := 0 }) s)
      if nd.leadKnown || leadAsked h s then s
      else queueNode h (.readLeadStatus h) (modNode h (fun x => { x with multiWait := true }) s)
    else if lead ≤ 16 then
      modNode h (fun x => { x with
        clearRun := 0, leadKnown := false
        openLeads := if bitOf x.openLeads lead then x.openLeads else x.openLeads + 2 ^ lead }) s
    else if nd.clearRun ≥ 2 then
      clearF 0x2102 h (modNode h (fun x => { x with clearRun := 3, openLeads := 0, leadKnown := false, multiWait := false }) s)
    else modNode h (fun x => { x with clearRun := x.clearRun + 1 }) s
  applyLeads s

/-- The payload of a READ_LEAD_STATUS reply: from then on the named leads fault their positions (R63). -/
def leadStatus (h : Nat) (p : List Byte) (s : State) : State :=
  guardOn (p.length == 5 && fieldU p 0 1 == 0xA1 && s.cells.map == .mapped) (fun s =>
    applyLeads (modNode h (fun x => { x with openLeads := fieldU p 1 4 % 2 ^ 17, leadKnown := true, multiWait := false }) s)) s

/-- A READ_LEAD_STATUS reply reaches a radio (R63); its sender is the node that HOP names (Table 2-11). -/
def readLeadStatusReply (r : Radio) (t : Nat) (b : List Byte) (s : State) : State :=
  takeReply r t (some (nodeAt (replyNode r b s) s).id) b leadStatus s

/-- READ_LEAD_STATUS_REPLY (R63). -/
def execReadLeadStatusReply (radio : Radio) (t : Nat) (body : List Byte) (s : State) : Host.Outcome State Fault Refusal :=
  whenLiveK (readLeadStatusReply radio t body) s

/-! ### The correction of R67 -/

/-- The balancing current of an input at the sample, µA (R67). -/
def balCurrent (u : Nat) (bal : Bool) (rBal : Int) : Int := if bal && u != 65535 then divT (u * 100000) rBal else 0

/-- One input's correction in 100 µV (R67). The own term needs both leads; DEDUCED from R69 (log 20): an input adjoining an
unknown lead is uncorrected but for a neighbour's current over a known lead. -/
def inputCorr (curLo cur curHi rLo rHi : Int) (both : Bool) : Int :=
  let own := if both then cur * (rLo + rHi) else 0
  divRound (own - curHi * rHi - curLo * rLo) 100000000

/-- The running sweep is the learning sweep of a triple (R71). -/
def learningSweep (s : State) : Bool := s.chctl.triple.any fun t => t.k == s.chain.sweepCtr

/-- Corrected value, correction, COMPENSATED and whether R66 clears VALID, of input i of node h. Every reading of a learning sweep
carries COMPENSATED (R72). -/
def correctInput (h i : Nat) (us : List Nat) (bal : Nat) (comp : Bool) (s : State) : Nat × Int × Bool × Bool :=
  let c := (nodeAt h s).cells
  let u := us.getD i 65535
  let rb := cfg Ent.STR_BAL_R s
  let cur (j : Nat) : Int := if j < c then balCurrent (us.getD j 65535) (bitOf bal j) rb else 0
  let known := leadKnown h i s && leadKnown h (i + 1) s
  if u == 65535 then (u, 0, false, false)
  else if !comp && bal % 2 ^ c == 0 then (u, 0, learningSweep s, false)
  else
    let corr := inputCorr (if i = 0 then 0 else cur (i - 1)) (cur i) (cur (i + 1)) (leadOf h i s).1 (leadOf h (i + 1) s).1 known
    (satU 16 (u + corr), corr, corr != 0 || (!comp && bitOf bal i && known) || learningSweep s, !comp && bitOf bal i && !known)

/-! ### Temperatures (R59) -/

/-- Distance of input i from the default span of sensor k. -/
def spanDist (i k c : Nat) : Nat :=
  let ins := (List.range c).filter fun x => 4 * x / c == k
  ins.foldl (fun m x => min m (if x ≤ i then i - x else x - i)) 1000

/-- The temperature of input i from its node's four sensors, and whether it was substituted. -/
def inputTemp (src i c : Nat) (ts : List Int) : Int × Bool :=
  let k := if src = 4 then divN (4 * i) c else src
  let t := ts.getD k (-32768)
  if t != -32768 then (t, false)
  else
    match ([0, 1, 2, 3].filter fun j => ts.getD j (-32768) != -32768).foldl (fun best j => match best with
        | none => some j
        | some b => if spanDist i j c < spanDist i b c then some j else some b) none with
    | some j => (ts.getD j (-32768), true)
    | none => (-32768, false)

/-! ### A record becomes cell values (R59 to R69) -/

/-- VALID and NODE_FAULT of a voltage (R61). -/
def vQual (c : Cell) (u : Nat) (kill nodeFlt noSample comp split : Bool) : Qual :=
  let bad := nodeFlt || noSample || c.leadFlt || (u == 65535)
  { nodeFault := bad, compensated := comp, split := split, valid := u != 65535 && !bad && !kill }

/-- VALID and NODE_FAULT of a temperature (R61). -/
def tQual (t : Int) (nodeFlt noSample split : Bool) : Qual :=
  { nodeFault := nodeFlt || noSample, split := split, valid := t != -32768 && !(nodeFlt || noSample) }

/-- The cells of node h take the values of a record. -/
def recordCells (h : Nat) (b : List Byte) (instant : Nat) (s : State) : State :=
  let nd := nodeAt h s
  let c := nd.cells
  let st := fieldU b 42 1
  let noSample := bitOf st 6
  let nodeFlt := bitOf st 4
  let us := (List.range c).map fun i => if noSample then 65535 else fieldU b (2 * i) 2
  let ts := (List.range 4).map fun k => if noSample then -32768 else fieldS b (32 + 2 * k) 2
  let bal := fieldU b 40 2
  let comp := s.chctl.nodeBalMode == 1
  let s := if ts.all (· == -32768) then raiseC 0x2105 h s else s
  forAll (List.range c) (fun i s =>
    let n := nd.p0 + i
    let old := cellAt n s
    let (v, corr, cd, kill) := correctInput h i us bal comp s
    let (t, sub) := inputTemp old.tempSrc i c ts
    let u := us.getD i 65535
    let vq := vQual old u kill nodeFlt noSample cd s.chain.sweep.split
    let tq := tQual t nodeFlt noSample s.chain.sweep.split
    let s := modCell n (fun x => { x with
      v := v, vq := vq, t := t, tq := tq, instant := instant, raw := u, corr := corr
      killed := kill, recInst := bitOf st 7, fresh := true
      lastValid := if vq.valid then some instant else x.lastValid
      lastValidT := if tq.valid then some instant else x.lastValidT }) s
    let s := if u == 65535 && !noSample then raiseC 0x2103 n s else s
    let s := if sub then raiseC 0x2104 n s else s
    let s := if !comp && bitOf bal i then raiseC 0x2109 n s else s
    let r69 := s.chctl.balMode == 1 && !(leadKnown h i s && leadKnown h (i + 1) s)
    if r69 then raiseC 0x2106 n s else s) s

/-- A commanded FILTER_SET shows in the record of the sweep its ACT names, as CFG_APPLIED; a record of that sweep without it, or a first
record after that sweep, shows another setting, and the command is repeated (R50). -/
def checkFilter (h st : Nat) (s : State) : State :=
  match (nodeAt h s).filterAct with
  | some act =>
    if s.chain.sweepCtr < act then s
    else if s.chain.sweepCtr == act && bitOf st 2 then modNode h (fun x => { x with filterAct := none }) s
    else sendFilter h (raiseC 0x200B h s)
  | none => s

/-- The instant of a record that a radio receives: the sweep's, or that of the recovery that took it (R34, R42). -/
def recordInstant (r : Radio) (st : Nat) (s : State) : Nat :=
  if bitOf st 7 then
    let x := halfSweep r s
    if x.recovering || x.recovered then x.recInstant else (halfSweep (otherRadio r) s).recInstant
  else s.chain.sweep.instant

/-- A record accepted in the running sweep (R35, R53): bytes 0-43 of Table 2-7 in the clear. A node that was unkeyed has taken its key
(R54), and its filter is commanded. -/
def acceptRecord (r : Radio) (h : Nat) (b : List Byte) (s : State) : State :=
  let st := fieldU b 42 1
  let inst := recordInstant r st s
  let unkeyed := (nodeAt h s).state == .unkeyed
  let s := { s with chain := { s.chain with sweep := { s.chain.sweep with got := s.chain.sweep.got ++ [⟨h, r, b, inst⟩] } } }
  let s := modNode h (fun x => { x with
    state := if bitOf st 4 || x.late then .nodeFault else .ok
    lastSweep := s.chain.sweepCtr
    status := fieldU b 42 2 }) s
  let s := if unkeyed then sendFilter h s else s
  let s := if s.cells.map == .mapped then
      recordCells h b inst (nodeLeads h (fieldU b 43 1 % 32) (bitOf st 1) s)
    else s
  checkFilter h st s

/-! ### Balancing duties (R74, R75) -/

/-- A SOC as published: clamped to 0-100 % and rounded to 0.01 % (R98). -/
def socPct (x : Int) : Nat := (divRound (clampI 0 1000000000000 x) 100000000).toNat

/-- The median of a list of naturals; 0 for none. DESIGN CHOICE (log 122): of an even number it is the mean of the two middle ones,
truncated. -/
def medianN (xs : List Nat) : Nat :=
  let ys := sortBy (fun a b => a ≤ b) xs
  let n := ys.length
  if n = 0 then 0
  else if n % 2 = 1 then ys.getD (n / 2) 0
  else (ys.getD (n / 2 - 1) 0 + ys.getD (n / 2) 0) / 2

/-- A position takes part in the duty computation (R74). -/
def balEligible (n : Nat) (s : State) : Bool :=
  let c := cellAt n s
  let f := getAt s.est.fl n
  let h := c.node
  cfgB Ent.STR_BAL_ENABLE s && !cfgB Ent.CELL_BAL_INHIBIT s n &&
  c.vq.valid && !c.vq.aged && cfgN Ent.STR_BAL_VMIN s ≤ c.v &&
  c.tq.valid && !c.tq.aged && c.t < cfg Ent.STR_BAL_TMAX s &&
  f.valid && s.est.state != .fenced && s.est.state != .hibernating && s.est.state != .off && !isFenced .e s &&
  s.sys.tier == .full && !s.prot.tripped &&
  !(s.chctl.balMode == 1 && !(leadKnown h c.input s && leadKnown h (c.input + 1) s))

/-- The learned capacity a position counts with (R74): the median of the non-STALE positions where its own is STALE. -/
def balCap (median n : Nat) (s : State) : Nat :=
  let c := getAt s.est.ctx n
  if (getAt s.est.fl n).stale then median else c.cap

/-- One position's duty (R75) from its excess charge, and its new on[n]. -/
def positionDuty (n : Nat) (exc : Int) (s : State) : Nat × Bool :=
  let c := cellAt n s
  let db := cfg Ent.STR_BAL_DEADBAND s
  let on := c.on || decide (exc ≥ db)
  let on := on && !decide (exc < divT db 2)
  if !on then (0, false)
  else
    let cur := divT (c.v * 100000) (cfg Ent.STR_BAL_R s)
    let p : Int := periodMs s * 1000
    let tq : Int := if s.chctl.balMode == 0 then quietUs (cornerOf c.node s) else 0
    if cur = 0 then (0, true)
    else (min 63 (divT (64 * exc * 1000 * p) (cur * cfg Ent.STR_BAL_HORIZON s * (p - tq))).toNat, true)

/-- Duties of every position after a completed sweep (R74, R75). DEDUCED (log 21): the SOC published is the reported SOC. -/
def computeDuties (s : State) : State :=
  let ps := positions s
  let el := ps.filter fun n => balEligible n s
  let median := medianN ((ps.filter fun n => !(getAt s.est.fl n).stale).map fun n => (getAt s.est.ctx n).cap)
  let q (n : Nat) : Int := divT (socPct (getAt s.est.ctx n).socRep * balCap median n s) 10000
  let need (n : Nat) : Int := balCap median n s - q n
  let maxNeed := el.foldl (fun m n => max m (need n)) (match el with | n :: _ => need n | [] => 0)
  let minQ := el.foldl (fun m n => min m (q n)) (match el with | n :: _ => q n | [] => 0)
  let top := cfgN Ent.STR_BAL_TARGET s == 0
  let s' := forAll ps (fun n t =>
    if el.contains n then
      let (d, on) := positionDuty n (if top then maxNeed - need n else q n - minQ) s
      modCell n (fun c => { c with duty := d, on := on }) t
    else modCell n (fun c => { c with duty := 0, on := false }) t) s
  let nodeMax := cfgN Ent.STR_BAL_NODE_MAX s
  forAll (upTo 1 s.chain.n) (fun h t =>
    let total := sumN ((nodePositions h t).map fun n => (cellAt n t).duty)
    if total > nodeMax then
      forAll (nodePositions h t) (fun n t => modCell n (fun c => { c with duty := c.duty * nodeMax / total }) t) t
    else t) s'

/-! ### Lead learning (R71, R72) -/

/-- The voltages, the BAL bits and CFG_APPLIED that a node's record of this sweep carries. -/
def recordOf (h : Nat) (s : State) : Option (List Nat × Nat × Bool) :=
  (s.chain.sweep.got.find? (·.node == h)).map fun g =>
    ((List.range 16).map fun i => fieldU g.bytes (2 * i) 2, fieldU g.bytes 40 2, bitOf (fieldU g.bytes 42 1) 2)

/-- A lead's filter takes a sample (R71 step 5): the mean of the first four, then an eighth of the difference. -/
def filterStep (old : LeadFilter) (x : Int) : LeadFilter :=
  if old.count < 3 then { count := old.count + 1, sum := old.sum + x, r := 0 }
  else if old.count = 3 then { count := 4, sum := 0, r := divT (old.sum + x) 4 }
  else { old with r := old.r + divT (x - old.r) 8 }

/-- The position whose record holds the filter of lead k of node h. -/
def leadPos (h k : Nat) (s : State) : Nat :=
  let nd := nodeAt h s
  if k < nd.cells then nd.p0 + k else nd.p0 + k - 1

/-- The filter of lead k of node h with a sample. -/
def nextFilter (h k : Nat) (x : Int) (s : State) : LeadFilter :=
  let c := cellAt (leadPos h k s) s
  filterStep (if k < (nodeAt h s).cells then c.learnLo else c.learnHi) x

/-- The filter is kept. -/
def keepFilter (h k : Nat) (f : LeadFilter) (s : State) : State :=
  let lo := decide (k < (nodeAt h s).cells)
  modCell (leadPos h k s) (fun c => if lo then { c with learnLo := f } else { c with learnHi := f }) s

/-- One sample enters a lead's filter (R71 step 5); one outside 0 to STR_LEAD_R_MAX is discarded (R72). -/
def learnSample (h k : Nat) (x : Int) (s : State) : State :=
  if x < 0 || x > cfg Ent.STR_LEAD_R_MAX s then raiseC 0x2107 (leadPos h k s) s
  else
    let f := nextFilter h k x s
    let s := keepFilter h k f s
    if f.count ≥ 4 then setLead h k f.r .learned s else s

/-- The samples of one node at the end of a triple (R71 steps 3 and 4). DESIGN CHOICE (log 123): the inner lead that is taken off an end
lead's sample is this triple's own sample of it. -/
def learnNode (h : Nat) (before during after : List Nat) (bal : Nat) (s : State) : State :=
  let c := (nodeAt h s).cells
  let rb := cfg Ent.STR_BAL_R s
  let twice (i : Nat) : Int := 2 * (during.getD i 0 : Int) - before.getD i 0 - after.getD i 0
  let valid (i : Nat) : Bool := before.getD i 65535 != 65535 && during.getD i 65535 != 65535 && after.getD i 65535 != 65535
  forAll ((List.range c).filter (bitOf bal)) (fun i s =>
    let cur := balCurrent (during.getD i 0) true rb
    if !valid i || cur = 0 then s
    else
      let own := divT (- twice i * 50000000) cur
      let lo := divT (twice (i - 1) * 50000000) cur
      let hi := divT (twice (i + 1) * 50000000) cur
      let s := if 0 < i then (if valid (i - 1) then learnSample h i lo s else s)
        else if valid 1 then learnSample h 0 (own - hi) s else s
      if i + 1 < c then (if valid (i + 1) then learnSample h (i + 1) hi s else s)
      else if valid (i - 1) then learnSample h c (own - lo) s else s) s

/-- The learning triple at the end of a sweep: readings are kept, and after sweep k + 1 the samples are taken or the triple is
discarded and repeated (R71, R72). -/
def learnSweep (s : State) : State :=
  match s.chctl.triple with
  | none => s
  | some tr =>
    let ctr := s.chain.sweepCtr
    let hs := upTo 1 s.chain.n
    let i := s.est.iFrame
    let cap := cfg Ent.EST_RATED_CAP s
    let bad := tr.bad || s.chain.sweep.split || decide ((max i.natAbs s.chctl.iMax : Nat) * 5 > cap)
    if ctr + 1 = tr.k then
      let rd := hs.filterMap fun h => (recordOf h s).map fun x => (h, x.1)
      { s with chctl := { s.chctl with triple := some { tr with before := rd, iBefore := i, bad := bad } } }
    else if ctr = tr.k then
      let rd := hs.filterMap fun h => (recordOf h s).map fun x => (h, x.1, x.2.1)
      let bad := bad || s.chain.sweep.got.any fun g => !bitOf (fieldU g.bytes 42 1) 2
      { s with chctl := { s.chctl with triple := some { tr with during := rd, bad := bad } } }
    else if ctr = tr.k + 1 then
      let bad := bad || decide ((i - tr.iBefore).natAbs * 100 > cap.natAbs)
      let s := { s with chctl := { s.chctl with triple := none } }
      if bad then { s with chctl := { s.chctl with sinceLearn := max s.chctl.sinceLearn (cfgN Ent.STR_LEAD_LEARN_INT s) } }
      else
        let s := { s with chctl := { s.chctl with learnPhase := (s.chctl.learnPhase + 1) % 3 } }
        forAll hs (fun h s =>
          match tr.before.find? (·.1 == h), tr.during.find? (·.1 == h), recordOf h s with
          | some b, some d, some a => learnNode h b.2 d.2.1 a.1 d.2.2 s
          | _, _, _ => s) s
    else if ctr > tr.k + 1 then
      { s with chctl := { s.chctl with triple := none, sinceLearn := max s.chctl.sinceLearn (cfgN Ent.STR_LEAD_LEARN_INT s) } }
    else s

/-- A learning triple is scheduled: two TOPOLOGY commands in one service window, at least 2 sweeps before k (R71 step 1). -/
def leadLearnTriple (s : State) : State :=
  guardOn (canSweep s && acts s && s.cells.map == .mapped && cfgB Ent.STR_LEAD_LEARN s && s.chctl.balMode == 0 &&
      s.chctl.triple.isNone && s.chctl.sinceLearn ≥ cfgN Ent.STR_LEAD_LEARN_INT s) (fun s =>
    let k := s.chain.sweepCtr + 3
    let s := { s with chctl := { s.chctl with
      triple := some { k := k, s := s.chctl.learnPhase }, sinceLearn := 0
      balActs := s.chctl.balActs ++ [(k, 1), (k + 1, 0)] } }
    queueBoth (.learn false k) s) s

/-- LEAD_LEARN_TRIPLE (R71). -/
def execLeadLearnTriple (s : State) : Host.Outcome State Fault Refusal := whenLiveK leadLearnTriple s

/-! ### The end of a sweep (R43 to R48, R61) -/

/-- The highest h for which nodes 1 to h are all in the list (R43). -/
def breakLoOf (ds : List Nat) (n : Nat) : Nat := ((upTo 1 n).takeWhile ds.contains).length

/-- The lowest h for which nodes h to n are all in the list (R43). -/
def breakHiOf (ds : List Nat) (n : Nat) : Nat := n + 1 - ((upTo 1 n).reverse.takeWhile ds.contains).length

/-- The flags of a position whose node delivered a record in the completed sweep (R61). -/
def deliveredFlags (sp : Bool) (c : Cell) : Cell :=
  let bad := c.vq.nodeFault || c.leadFlt
  { c with vq := { c.vq with split := sp, unreached := false, aged := false, nodeFault := bad, valid := c.vq.valid && !bad }
           tq := { c.tq with split := sp, unreached := false, aged := false } }

/-- The flags of a position whose node delivered none (R43, R61): the old values are AGED and UNREACHED, and NODE_FAULT is what open
leads leave of it; `keyed` is false for a node without a key, whose values are invalid (Table 2-15). -/
def missingFlags (keyed : Bool) (c : Cell) : Cell :=
  { c with vq := { c.vq with unreached := true, aged := true, nodeFault := c.leadFlt
                             valid := keyed && c.v != 65535 && !c.leadFlt && !c.killed }
           tq := { c.tq with unreached := true, aged := true, nodeFault := false, valid := keyed && c.t != -32768 } }

/-- Flags of every position are recomputed for the completed sweep (R61); a node without a record is UNREACHED (R43). DESIGN CHOICE
(log 124): CHN_NODE_STATE of a node without a key stays UNKEYED. -/
def sweepFlags (s : State) : State :=
  let got := s.chain.sweep.got.map (·.node)
  let sp := s.chain.sweep.split
  forAll (upTo 1 s.chain.n) (fun h s =>
    if got.contains h then forAll (nodePositions h s) (fun n s => modCell n (deliveredFlags sp) s) s
    else
      let keyed := (nodeAt h s).state != .unkeyed
      let s := raiseC 0x2005 h (modNode h (fun x => { x with state := if keyed then .unreached else .unkeyed, clearRun := 0 }) s)
      let s := if keyed then s else raiseC 0x200A h s
      forAll (nodePositions h s) (fun n s => modCell n (missingFlags keyed) s) s) s

/-- The break interval of a SPLIT sweep, and the move to the re-split topology (R43, R45). -/
def sweepBreak (s : State) : State :=
  let n := s.chain.n
  let lo := breakLoOf (deliveredVia .a s) n
  let hi := breakHiOf (deliveredVia .b s) n
  let none_ := s.chain.sweep.split && lo = 0 && hi = n + 1
  let state := if none_ && s.chain.topo != .single then .degraded
    else if s.chain.topo == .configured && s.chain.state == .degraded then .running else s.chain.state
  let again := s.chain.prevBreak == some (lo, hi) && !none_ && s.chain.topo != .single
  if s.chain.sweep.split then
    { s with
      chain := { s.chain with
        breakLo := lo, breakHi := hi, prevBreak := some (lo, hi), state := state
        splitSweeps := incSat32 s.chain.splitSweeps }
      chctl := { s.chctl with resplitNext := if again then some (lo, hi) else s.chctl.resplitNext } }
  else { s with chain := { s.chain with prevBreak := none, state := state } }

/-- PROBE_HEARD in the record node h delivered this sweep. -/
def probeHeard (h : Nat) (s : State) : Bool :=
  (s.chain.sweep.got.find? (·.node == h)).any fun g => bitOf (fieldU g.bytes 42 1) 5

/-- Probes across the split or the break (R46). DESIGN CHOICE (log 125): a sweep in which the probe of either direction is missed adds to
the one run of 8. -/
def sweepProbe (s : State) : State :=
  match s.chain.topo with
  | .single => s
  | .configured =>
    let k := splitOf s.chain.n (cfgN Ent.CHN_SPLIT s)
    if k ≥ s.chain.n then s
    else if probeHeard k s && probeHeard (k + 1) s then { s with chctl := { s.chctl with probeMiss := 0 } }
    else
      let s := { s with chctl := { s.chctl with probeMiss := s.chctl.probeMiss + 1 } }
      if s.chctl.probeMiss ≥ 8 then raiseC 0x2007 wide s else s
  | .resplit =>
    let lo := s.chain.resplitLo
    let hi := s.chain.resplitHi
    if probeHeard lo s && probeHeard hi s then
      let s := { s with chctl := { s.chctl with probeRun := s.chctl.probeRun + 1 } }
      if s.chctl.probeRun = 3 then
        let act := s.chain.sweepCtr + 2
        queueBoth (topologyCmd none s.chctl.nodeBalMode act { s with chain := { s.chain with topo := .configured } })
          { s with chctl := { s.chctl with restoreAt := some act } }
      else s
    else if s.chctl.restoreAt.isSome then s
    else { s with chctl := { s.chctl with probeRun := 0 } }

/-- In the sweep before ACT every delivering node must report CH_ARMED, or the change is cancelled (R48). -/
def sweepChannel (s : State) : State :=
  match s.chctl.chanPend with
  | some (_, _, act) =>
    if s.chain.sweepCtr + 1 ≠ act then s
    else if s.chain.sweep.got.any (fun g => !bitOf (fieldU g.bytes 42 1) 3) then cancelChannelChange act s
    else { s with chctl := { s.chctl with chanOk := true } }
  | none => s

/-- What a completed sweep says of the chain: flags, break, probes, channels (R43, R45, R46, R48, R61). -/
def sweepChain (s : State) : State :=
  let sw := s.chain.sweep
  let s := { s with chain := { s.chain with
    lastInstant := sw.instant, lastSplit := sw.split, lastStretched := sw.stretched } }
  sweepChannel (sweepProbe (sweepBreak (sweepFlags s)))

/-- The end of a completed sweep: duties, and the values are published and latched for E (R19, R74). -/
def sweepEnd (s : State) : State :=
  let s := computeDuties s
  { s with chain := { s.chain with sweep := { s.chain.sweep with active := false } }
           cells := { s.cells with
             sweepNew := true, sweepNo := s.cells.sweepNo + 1, done := s.cells.cells, doneCtr := s.chain.sweepCtr }
           saf := { s.saf with sweptAtPeriod := s.saf.sweptAtPeriod || tierAtLeast .limited s } }

/-- A sweep is complete: both halves done, recoveries ended (R43, R74). Only learned leads enter the configuration (R71). -/
def sweepComplete (s : State) : State := keep sweepEnd (learnSweep (keep sweepChain s))

/-- Complete the sweep as soon as nothing of it is outstanding. -/
def completeIfDone (s : State) : State :=
  if s.chain.sweep.active && !isFenced .m s && sweepDone s then sweepComplete s else s

/-! ### Trains (R35, R41, R42) -/

/-- The header of a train a radio takes: TYPE and VER, SRC_HOP 1 (R31), COUNT of 1-32 records of 48 bytes, DIR (R35). -/
def trainOk (r : Radio) (b : List Byte) : Bool :=
  fieldU b 0 1 == 0x41 && fieldU b 1 1 == 1 && 1 ≤ fieldU b 3 1 && fieldU b 3 1 ≤ 32 && b.length == 12 + 48 * fieldU b 3 1 &&
  bitOf (fieldU b 4 1) 7 == (r == .b)

/-- SWEEP_LO of a train is the running sweep's (R35, R53). -/
def trainNow (b : List Byte) (s : State) : Bool := fieldU b 5 3 == s.chain.sweepCtr % 2 ^ 24

/-- The 48 bytes of each record of a train (R35). -/
def trainRecs (b : List Byte) : List (List Byte) := (List.range (fieldU b 3 1)).map fun i => slice b (8 + 48 * i) 48

/-- The forward index of record i of a train towards a radio (R35). -/
def trainNode (r : Radio) (first i : Nat) : Nat := match r with | .a => first - i | .b => first + i

/-- Bytes 0-43 of the record of node h, where its tag verifies under the node's key and identity and the sweep's counter (R52, Tables
2-7 and 2-11). -/
def recordPlain (h : Nat) (rec : List Byte) (s : State) : Option (List Byte) :=
  ccmOpen (keyOf h s) (ccmNonce (nodeAt h s).id s.chain.sweepCtr) [] (rec.take 44) (rec.drop 44)

/-- Take record i of a train; a node's record of this sweep is taken once (R53). -/
def takeRecord (r : Radio) (first i : Nat) (rec : List Byte) (s : State) : State :=
  let h := trainNode r first i
  if h = 0 || h > s.chain.n || s.chain.sweep.got.any (·.node == h) then countMicErr s
  else match recordPlain h rec s with
    | some b => acceptRecord r h b s
    | none => countMicErr s

/-- Take the records of a train. -/
def takeRecords (r : Radio) (b : List Byte) (s : State) : State :=
  forAll (trainRecs b).zipIdx (fun x s => takeRecord r (fieldU b 2 1) x.2 x.1 s) s

/-- The train of a radio's own half arrives in time: it ends the half, which is broken where the train restarted or is short (R41). -/
def ownTrain (r : Radio) (t : Nat) (b : List Byte) (s : State) : State :=
  let brk := bitOf (fieldU b 4 1) 5 || fieldU b 3 1 < halfLen r s
  let s := modHalf r (fun x => { x with done := true, doneAt := t }) s
  takeRecords r b (if brk then breakHalf r s else s)

/-- A radio's train deadline passes without a train (R41). -/
def missTrain (r : Radio) (s : State) : State :=
  breakHalf r (modHalf r (fun x => { x with done := true, doneAt := trainDue r s }) s)

/-- A train reaches a radio (R35, R41, R42): the records of another sweep are rejected (R53); one that comes after the deadline finds its
half broken, or its recovery ended. -/
def trainReceive (r : Radio) (t : Nat) (b : List Byte) (s : State) : State :=
  guardOn (!isFenced .m s && !radioFenced r s && canSweep s) (fun s =>
    hearFrame r b (fun s =>
      if !trainOk r b then s
      else if !trainNow b s then forAll (trainRecs b) (fun _ s => countMicErr s) s
      else if !s.chain.sweep.active then s
      else if bitOf (fieldU b 4 1) 6 then
        if !(halfSweep r s).recovering then s
        else if recoveryDue r s < t then endRecovery r (recoveryDue r s) s
        else endRecovery r t (takeRecords r b s)
      else if (halfSweep r s).done then s
      else if trainDue r s < t then missTrain r s
      else ownTrain r t b s) (atTime t s)) s

/-- TRAIN_RECEIVE (R35). -/
def execTrainReceive (radio : Radio) (t : Nat) (body : List Byte) (s : State) : Host.Outcome State Fault Refusal :=
  whenLive (fun s => completeIfDone (keep (trainReceive radio t body) s)) s

/-- A radio's train deadline passes without a train (R41). -/
def trainDeadline (r : Radio) (t : Nat) (s : State) : State :=
  guardOn (s.chain.sweep.active && canSweep s && !radioFenced r s && !(halfSweep r s).done && decide (trainDue r s ≤ t)) (fun s =>
    missTrain r (atTime t s)) s

/-- TRAIN_DEADLINE (R41). -/
def execTrainDeadline (radio : Radio) (t : Nat) (s : State) : Host.Outcome State Fault Refusal :=
  whenLive (fun s => completeIfDone (keep (trainDeadline radio t) s)) s

/-- The recovery deadline of a radio passes (R42). -/
def recoveryEnd (r : Radio) (t : Nat) (s : State) : State :=
  guardOn (s.chain.sweep.active && (halfSweep r s).recovering && decide (recoveryDue r s ≤ t)) (fun s =>
    endRecovery r (recoveryDue r s) (atTime t s)) s

/-- RECOVERY_END (R42). -/
def execRecoveryEnd (radio : Radio) (t : Nat) (s : State) : Host.Outcome State Fault Refusal :=
  whenLive (fun s => completeIfDone (keep (recoveryEnd radio t) s)) s

/-- A radio baseband fails (R47): its half is fenced, the other radio serves all nodes; with both fenced the chain is FAILED. -/
def radioFault (r : Radio) (s : State) : State :=
  guardOn (!radioFenced r s) (fun s =>
    let s := raiseF (match r with | .a => 0x200C | .b => 0x200D) wide s
    let s := match r with
      | .a => { s with chain := { s.chain with fencedA := true } }
      | .b => { s with chain := { s.chain with fencedB := true } }
    let s := { s with chctl := { s.chctl with queue := s.chctl.queue.filter (·.radio != r) } }
    if s.chain.fencedA && s.chain.fencedB then chainFailed s
    else if s.chain.state == .running || s.chain.state == .degraded then
      let s := { s with chain := { s.chain with topo := .single, state := .singleRadio
                                                sweep := { run := s.chain.sweep.run, launch := s.chain.sweep.launch } }
                        chctl := { s.chctl with resplitNext := none, restoreAt := none, probeRun := 0, probeMiss := 0 } }
      queueCmd (otherRadio r) (topologyCmd none s.chctl.nodeBalMode (s.chain.sweepCtr + 1) s) s
    else s) s

/-- RADIO_FAULT (R47). -/
def execRadioFault (radio : Radio) (s : State) : Host.Outcome State Fault Refusal := whenLiveK (radioFault radio) s

end Sys2Proof.Machine
end

