-- ==== Sys2Proof/Machine/Operands.lean ====
section
/-! DEFINITION. The values that requests carry and entries hold: their lengths, encodings and ranges (10_object_dictionary R244,
Table 10-1). -/
namespace Sys2Proof.Machine
open Sys2Proof

/-- The code of a type (Table 10-1). -/
def tyCode : Ty → Nat
  | .bool => 1 | .u8 => 2 | .u16 => 3 | .u32 => 4 | .u64 => 5 | .s16 => 6 | .s32 => 7 | .f32 => 8
  | .enum8 => 9 | .str => 10 | .octets => 11 | .time64 => 12

/-- The code of an access class (Table 10-2). -/
def accessCode : Access → Nat
  | .ro => 0 | .rw => 1 | .rwc => 2 | .rwi => 3 | .wo => 4 | .saf => 5

/-- The code of a persistence class (Table 10-3). -/
def persistCode : Persist → Nat
  | .vol => 0 | .per => 1 | .mir => 2

/-- The length of a type in bytes; none where it varies. -/
def tyLen : Ty → Option Nat
  | .bool => some 1 | .u8 => some 1 | .u16 => some 2 | .u32 => some 4 | .u64 => some 8 | .s16 => some 2 | .s32 => some 4
  | .f32 => some 4 | .enum8 => some 1 | .str => none | .octets => none | .time64 => some 8

/-- A type whose numbers are two's complement. -/
def tySigned : Ty → Bool
  | .s16 => true | .s32 => true
  | .bool => false | .u8 => false | .u16 => false | .u32 => false | .u64 => false | .f32 => false | .enum8 => false
  | .str => false | .octets => false | .time64 => false

/-- The bytes of a value of a type, most significant first (R6, Table 10-1). -/
def encodeVal (t : Ty) : Val → List Byte
  | .num v => match tyLen t with
    | some n => toBytesS n v
    | none => []
  | .bytes bs => bs

/-- The value that bytes spell as an entry's type; none where their length is not the type's or, for STR and OCTETS, lies outside
the entry's range (R244: REJECTED_TYPE). -/
def decodeVal (e : Entry) (bs : List Byte) : Option Val :=
  match tyLen e.ty with
  | some n => if bs.length = n then some (.num (if tySigned e.ty then ofBytesS bs else ofBytes bs)) else none
  | none => match e.range with
    | .length lo hi => if lo ≤ bs.length && bs.length ≤ hi then some (.bytes bs) else none
    | _ => if e.ty != .str || bs.length ≤ 255 then some (.bytes bs) else none

/-- What Table 10-1 itself excludes: other BOOL values, NaN and infinities, a nanosecond field of 10^9 or more. -/
def tyRangeOk (t : Ty) : Val → Bool
  | .num v => match t with
    | .bool => v == 0 || v == 1
    | .f32 => decide (v.toNat / 2 ^ 23 % 256 ≠ 255)
    | .time64 => decide (v.toNat % 2 ^ 32 < 1000000000)
    | _ => true
  | .bytes _ => true

/-- A value lies in an entry's range. -/
def rangeOk (r : Range) : Val → Bool
  | .num v => match r with
    | .any => true
    | .between lo hi => decide (lo ≤ v ∧ v ≤ hi)
    | .zeroOr lo hi => decide (v = 0 ∨ (lo ≤ v ∧ v ≤ hi))
    | .orVal x lo hi => decide (v = x ∨ (lo ≤ v ∧ v ≤ hi))
    | .length _ _ => true
  | .bytes bs => match r with
    | .length lo hi => decide (lo ≤ bs.length ∧ bs.length ≤ hi)
    | _ => true

/-- A value lies in an entry's type and range. -/
def valueOk (e : Entry) (v : Val) : Bool := tyRangeOk e.ty v && rangeOk e.range v

/-! ### Access status codes (Table 10-11) -/

/-- ACCEPTED. -/
def stAccepted : Nat := 0x00

/-- DONE. -/
def stDone : Nat := 0x01

/-- REJECTED_RANGE. -/
def stRange : Nat := 0x10

/-- REJECTED_ACCESS. -/
def stAccess : Nat := 0x11

/-- REJECTED_TYPE. -/
def stType : Nat := 0x12

/-- SEQ_GAP. -/
def stGap : Nat := 0x13

/-- APPLY_REQUIRES_IDLE. -/
def stIdle : Nat := 0x14

/-- BUSY_PROTECTING. -/
def stBusy : Nat := 0x15

/-- DEFERRED. -/
def stDeferred : Nat := 0x16

/-- NOT_IN_TIER. -/
def stTier : Nat := 0x17

/-- SESSION_LIMIT. -/
def stLimit : Nat := 0x18

/-- SAFETY_ONLY. -/
def stSafety : Nat := 0x19

/-- RESUMED. -/
def stResumed : Nat := 0x1A

/-- INTERNAL_FENCED. -/
def stFenced : Nat := 0x1F

end Sys2Proof.Machine
end

