-- ==== Sys2Proof/Machine/Mirror.lean ====
section
/-! DEFINITION. Frames of the mirror link (15_pair_operation R358 to R360) and of the witness protocol (R366, R367): their contents, their
bytes, sending and receiving. Where Table 15-3 names a content without laying it out, its bytes are the model's (DESIGN CHOICE, log 145). -/
namespace Sys2Proof.Machine
open Sys2Proof

/-! ### Contents (Table 15-3) -/

/-- The DUTY class payload (Table 15-4). -/
structure DutyMirror where
  seq    : Nat
  run    : Bool
  dirChg : Bool
  held   : Bool
  dwell  : Nat
  duty   : Nat
  en     : Nat
  iRef   : Int
  target : Int
  mode   : Nat
  redist : Nat
  deriving DecidableEq, Repr, Inhabited

/-- A journal entry of the JOURNAL or BULK class (Table 10-8). -/
structure JMirror where
  jseq    : Nat
  type    : Nat
  ses     : Nat
  reqSeq  : Nat
  payload : List Byte
  deriving DecidableEq, Repr, Inhabited

/-- A heartbeat (Table 15-5), less its CRC, which has been checked. -/
structure Heartbeat where
  pair     : Nat
  member   : Nat
  role     : Nat
  mirrorOk : Bool
  aliveSeen : Bool
  laneHeld : Bool
  ready    : Bool
  epoch    : Nat
  frameCtr : Nat
  request  : Nat
  leaseSeen : Bool
  deriving DecidableEq, Repr, Inhabited

/-- A lease frame (Table 15-6), less its CRC, which has been checked, and whether the network (true) or the chassis witness bus
delivered it. -/
structure LeaseFrame where
  pair     : Nat
  member   : Nat
  decision : Nat
  epoch    : Nat
  ctr      : Nat
  witness  : Nat
  net      : Bool
  deriving DecidableEq, Repr, Inhabited

/-- The content of the HEARTBEAT class: the heartbeat, and the states of the sender's own switches (R364). -/
structure HbMirror where
  hb     : Heartbeat
  dq     : Nat
  sq     : Nat
  deriving DecidableEq, Repr, Inhabited

/-- The STATE class (Table 15-3): output image, classes, currents (R363), protection latches and trip cause, sequence, step and coil states, counters, MIR
entries changed by the module, and the string-wide times of R113. -/
structure StateMirror where
  dq       : Nat
  sq       : Nat
  sqClass  : Nat
  dqClass  : Nat
  ma       : List Nat
  tripped  : Bool
  cause    : Nat
  tripInst : Nat
  tripTime : Nat
  seq      : Nat
  step     : Nat
  result   : Nat
  seqJ     : Nat
  coils    : Nat
  breaks   : Nat
  kOps     : Nat
  mir      : List (Nat × Val)
  restarted : Nat
  substAt  : Nat
  deriving DecidableEq, Repr, Inhabited

/-- The CONTEXT class: the 256 contexts (Table 4-1) and the chain counters (R53). -/
structure CtxMirror where
  ctx   : List (List Byte)
  sweep : Nat
  cmdA  : Nat
  cmdB  : Nat
  deriving DecidableEq, Repr, Inhabited

/-- The BULK class: journal, learned records with their positions, the latest checkpoint's contexts, configuration. -/
structure BulkMirror where
  journal : List JMirror
  records : List (Nat × List Byte)
  ckpt    : List (List Byte)
  config  : List (Nat × Val)
  deriving DecidableEq, Repr, Inhabited

/-! ### Heartbeats and leases (Tables 15-5 and 15-6) -/

/-- Bytes 0 to 11 of a heartbeat. -/
def heartbeatBytes (h : Heartbeat) : List Byte :=
  [0x11#8] ++ toBytes 1 h.pair ++
  toBytes 1 (h.member * 128 + h.role * 16 + b2n h.mirrorOk * 8 + b2n h.aliveSeen * 4 + b2n h.laneHeld * 2 + b2n h.ready) ++
  toBytes 2 h.epoch ++ toBytes 4 h.frameCtr ++ toBytes 1 h.request ++ toBytes 1 (b2n h.leaseSeen * 128) ++ [0#8]

/-- A heartbeat from its bytes 0 to 11. -/
def heartbeatOf (b : List Byte) : Option Heartbeat :=
  let x := fieldU b 2 1
  if b.length < 12 || fieldU b 0 1 != 0x11 || 3 < x / 16 % 8 || 3 < fieldU b 9 1 then none
  else some {
    pair := fieldU b 1 1, member := x / 128, role := x / 16 % 8, mirrorOk := bitOf x 3, aliveSeen := bitOf x 2, laneHeld := bitOf x 1
    ready := bitOf x 0, epoch := fieldU b 3 2, frameCtr := fieldU b 5 4, request := fieldU b 9 1, leaseSeen := bitOf (fieldU b 10 1) 7 }

/-- Bytes 0 to 11 of a lease frame. -/
def leaseBytes (l : LeaseFrame) : List Byte :=
  [0x12#8] ++ toBytes 1 l.pair ++ toBytes 1 (l.member * 128 + l.decision * 16) ++ toBytes 2 l.epoch ++ toBytes 4 l.ctr ++
  toBytes 2 l.witness ++ [0#8]

/-- A frame of the witness protocol: bytes 0 to 11 and their CRC. -/
def witnessFrame (b : List Byte) : List Byte := b ++ toBytes 4 (crc32c b)

/-- Bytes 0 to 11 of a frame of the witness protocol with a valid CRC. -/
def witnessBody (f : List Byte) : Option (List Byte) :=
  if f.length == 16 && fieldU f 12 4 == crc32c (f.take 12) then some (f.take 12) else none

/-- A heartbeat frame. -/
def heartbeatFrame (f : List Byte) : Option Heartbeat := (witnessBody f).bind heartbeatOf

/-- A lease frame. -/
def leaseFrame (net : Bool) (f : List Byte) : Option LeaseFrame :=
  match witnessBody f with
  | none => none
  | some b =>
    if fieldU b 0 1 != 0x12 || 2 < fieldU b 2 1 / 16 % 8 then none
    else some { pair := fieldU b 1 1, member := fieldU b 2 1 / 128, decision := fieldU b 2 1 / 16 % 8, epoch := fieldU b 3 2
                ctr := fieldU b 5 4, witness := fieldU b 9 2, net := net }

/-- Send a frame of the witness protocol: as a datagram, or on the chassis witness bus behind the bytes 0x55 0xD5 (R367). -/
def sendWitness (net : Bool) (b : List Byte) (s : State) : State :=
  if net then (if isFenced .n s then s else emit (.witness true (witnessFrame b)) s)
  else emit (.witness false ([0x55#8, 0xD5#8] ++ witnessFrame b)) s

/-! ### Bytes of the contents -/

/-- The DUTY class payload (Table 15-4). -/
def dutyMirrorBytes (m : DutyMirror) : List Byte :=
  toBytes 2 m.seq ++ toBytes 1 (b2n m.run * 128 + b2n m.dirChg * 64 + b2n m.held * 32) ++ toBytes 1 m.dwell ++ toBytes 2 m.duty ++
  toBytes 2 m.en ++ toBytesS 4 m.iRef ++ toBytesS 4 m.target ++ toBytes 1 m.mode ++ toBytes 1 m.redist

/-- The DUTY class payload from its bytes. -/
def dutyMirrorOf (b : List Byte) : Option DutyMirror :=
  let x := fieldU b 2 1
  if b.length != 18 then none
  else some { seq := fieldU b 0 2, run := bitOf x 7, dirChg := bitOf x 6, held := bitOf x 5, dwell := fieldU b 3 1, duty := fieldU b 4 2
              en := fieldU b 6 2, iRef := fieldS b 8 4, target := fieldS b 12 4, mode := fieldU b 16 1, redist := fieldU b 17 1 }

/-- A journal entry (Table 10-8), padded to a multiple of 8 bytes (R256). -/
def journalBytes (e : JMirror) : List Byte :=
  let b := toBytes 8 e.jseq ++ toBytes 1 e.type ++ [0#8] ++ toBytes 2 e.payload.length ++ toBytes 4 e.ses ++ toBytes 4 e.reqSeq ++ e.payload
  b ++ toBytes 4 (crc32c b) ++ List.replicate ((8 - (b.length + 4) % 8) % 8) 0#8

/-- The journal entries of a message, up to the first whose CRC fails; at most `n`. -/
def journalOf : Nat → List Byte → List JMirror
  | 0, _ => []
  | n + 1, b =>
    let len := fieldU b 10 2
    let size := (24 + len + 7) / 8 * 8
    if b.length < size || fieldU b (20 + len) 4 != crc32c (b.take (20 + len)) then []
    else { jseq := fieldU b 0 8, type := fieldU b 8 1, ses := fieldU b 12 4, reqSeq := fieldU b 16 4, payload := slice b 20 len } ::
      journalOf n (b.drop size)

/-- A value under its address: address, length, bytes. -/
def valueBytes (x : Nat × Val) : List Byte :=
  match findEntry (x.1 / 256) (x.1 % 256) with
  | some (e, _) => let b := encodeVal e.ty x.2; toBytes 3 x.1 ++ toBytes 3 b.length ++ b
  | none => []

/-- The values of a message; at most `n`. -/
def valuesOf : Nat → List Byte → List (Nat × Val)
  | 0, _ => []
  | n + 1, b =>
    if b.length < 6 then []
    else
      let len := fieldU b 3 3
      let rest := valuesOf n (b.drop (6 + len))
      match findEntry (fieldU b 0 2) (fieldU b 2 1) with
      | some (e, _) => match decodeVal e (slice b 6 len) with
        | some v => (fieldU b 0 3, v) :: rest
        | none => rest
      | none => rest

/-- The STATE class. -/
def stateMirrorBytes (m : StateMirror) : List Byte :=
  toBytes 2 m.dq ++ toBytes 1 m.sq ++ toBytes 1 m.sqClass ++ toBytes 2 m.dqClass ++ ((List.range 16).flatMap fun k => toBytes 2 (m.ma.getD k 0)) ++
  toBytes 1 (b2n m.tripped) ++ toBytes 2 m.cause ++ toBytes 2 m.tripInst ++ toBytes 8 m.tripTime ++ toBytes 1 m.seq ++ toBytes 1 m.step ++
  toBytes 1 m.result ++ toBytes 8 m.seqJ ++ toBytes 1 m.coils ++ toBytes 4 m.breaks ++ toBytes 4 m.kOps ++ toBytes 8 m.restarted ++
  toBytes 8 m.substAt ++ m.mir.flatMap valueBytes

/-- The STATE class from its bytes. -/
def stateMirrorOf (b : List Byte) : Option StateMirror :=
  if b.length < 87 then none
  else some {
    dq := fieldU b 0 2, sq := fieldU b 2 1, sqClass := fieldU b 3 1, dqClass := fieldU b 4 2
    ma := (List.range 16).map fun k => fieldU b (6 + 2 * k) 2
    tripped := bitOf (fieldU b 38 1) 0, cause := fieldU b 39 2, tripInst := fieldU b 41 2, tripTime := fieldU b 43 8
    seq := fieldU b 51 1, step := fieldU b 52 1, result := fieldU b 53 1, seqJ := fieldU b 54 8, coils := fieldU b 62 1
    breaks := fieldU b 63 4, kOps := fieldU b 67 4, restarted := fieldU b 71 8, substAt := fieldU b 79 8
    mir := valuesOf b.length (b.drop 87) }

/-- Pieces of one size; at most `n`. -/
def chunks (size : Nat) : Nat → List Byte → List (List Byte)
  | 0, _ => []
  | n + 1, b => if b.length < size then [] else b.take size :: chunks size n (b.drop size)

/-- The CONTEXT class: the chain counters, and the contexts of 128 bytes (Table 4-1). -/
def ctxMirrorBytes (m : CtxMirror) : List Byte := toBytes 5 m.sweep ++ toBytes 5 m.cmdA ++ toBytes 5 m.cmdB ++ m.ctx.flatten

/-- The CONTEXT class from its bytes. -/
def ctxMirrorOf (b : List Byte) : Option CtxMirror :=
  if b.length < 15 || (b.length - 15) % 128 != 0 || 256 < (b.length - 15) / 128 then none
  else some { ctx := chunks 128 256 (b.drop 15), sweep := fieldU b 0 5, cmdA := fieldU b 5 5, cmdB := fieldU b 10 5 }

/-- The RECORD class: the position, and its record (Table 5-1). -/
def recordMirrorBytes (n : Nat) (record : List Byte) : List Byte := toBytes 2 n ++ record

/-- The BULK class: journal, records, contexts and configuration, the first three behind their lengths. -/
def bulkMirrorBytes (m : BulkMirror) : List Byte :=
  let j := m.journal.flatMap journalBytes
  let r := m.records.flatMap fun x => recordMirrorBytes x.1 x.2
  let c := m.ckpt.flatten
  toBytes 4 j.length ++ toBytes 4 r.length ++ toBytes 4 c.length ++ j ++ r ++ c ++ m.config.flatMap valueBytes

/-- The BULK class from its bytes. -/
def bulkMirrorOf (b : List Byte) : Option BulkMirror :=
  let j := fieldU b 0 4
  let r := fieldU b 4 4
  let c := fieldU b 8 4
  if b.length < 12 + j + r + c then none
  else some {
    journal := journalOf j (slice b 12 j)
    records := (chunks 66 256 (slice b (12 + j) r)).map fun x => (fieldU x 0 2, x.drop 2)
    ckpt := chunks 128 256 (slice b (12 + j + r) c)
    config := valuesOf b.length (b.drop (12 + j + r + c)) }

/-! ### Frames (R359, Table 15-2) -/

/-- The classes of Table 15-3. -/
def clsDuty : Nat := 1
def clsJournal : Nat := 2
def clsAck : Nat := 3
def clsContext : Nat := 4
def clsRecord : Nat := 5
def clsState : Nat := 6
def clsHeartbeat : Nat := 7
def clsOrder : Nat := 8
def clsBulk : Nat := 9

/-- The ORDER class: its first byte, and the DUTY SEQ of a HANDOVER. -/
def ordHandover : Nat := 1
def ordRejoinReq : Nat := 2
def ordRejoinDone : Nat := 3

/-- A mirror frame: header, payload, CRC. -/
def mirrorFrame (cls mseq : Nat) (payload : List Byte) (s : State) : List Byte :=
  let b := toBytes 1 (16 + cls) ++ toBytes 1 (128 * s.pair.member) ++ toBytes 2 s.pair.epoch ++ toBytes 2 mseq ++ toBytes 2 payload.length ++ payload
  b ++ toBytes 4 (crc32c b)

/-- Send one frame, on both lanes (R358). -/
def sendFrame (cls : Nat) (payload : List Byte) (s : State) : State :=
  let n := getAt s.pair.mseq cls
  let f := mirrorFrame cls n payload s
  emit (.mirror .l1 f) (emit (.mirror .l0 f) { s with pair := { s.pair with mseq := setAt s.pair.mseq cls ((n + 1) % 65536) } })

/-- A content longer than one frame holds goes on in the next frame of its class: every frame but the last carries 4,096 bytes, the last
one fewer (DESIGN CHOICE, log 145). -/
def pieces : Nat → List Byte → List (List Byte)
  | 0, _ => []
  | n + 1, b => if b.length < 4096 then [b] else b.take 4096 :: pieces n (b.drop 4096)

/-- Send a content of a class. -/
def sendMirror (cls : Nat) (content : List Byte) (s : State) : State := forAll (pieces (content.length / 4096 + 1) content) (sendFrame cls) s

/-- An EPOCH is above another (R365). -/
def epochAbove (a b : Nat) : Bool :=
  let d := (a + 65536 - b % 65536) % 65536
  1 ≤ d && d ≤ 32767

/-- A frame of a class is valid: VER, SENDER, LEN and CRC. -/
def mirrorValid (cls : Nat) (f : List Byte) (s : State) : Bool :=
  12 ≤ f.length && fieldU f 0 1 == 16 + cls && fieldU f 1 1 == 128 * (1 - s.pair.member) && fieldU f 6 2 ≤ 4096 &&
  f.length == 12 + fieldU f 6 2 && fieldU f (f.length - 4) 4 == crc32c (f.take (f.length - 4))

/-- The MSEQ lies ahead of the last one taken: the frame is not a second copy (R358). DEDUCED (log 146): the first frame after the link
was silent is taken whatever its MSEQ. -/
def mirrorAhead (cls : Nat) (f : List Byte) (s : State) : Bool :=
  match getAt s.pair.mrx cls with
  | none => true
  | some l => epochAbove (fieldU f 4 2) l

/-- A member of a pair ignores a frame whose EPOCH is below its own (R360). -/
def mirrorStale (f : List Byte) (s : State) : Bool := s.pair.paired && epochAbove s.pair.epoch (fieldU f 2 2)

/-- A valid frame is heard on a lane, which is then up (R358). -/
def hearLane (l : Lane) (s : State) : State :=
  { s with pair := { s.pair with
    heard := true
    mir0 := s.pair.mir0 || (match l with | .l0 => true | .l1 => false)
    mir1 := s.pair.mir1 || (match l with | .l0 => false | .l1 => true) } }

/-- What a frame adds to its class: the bytes collected so far. A frame lost in between drops what came before it. -/
def collected (cls : Nat) (f : List Byte) (s : State) : List Byte :=
  let follows := (getAt s.pair.mrx cls).any fun l => (l + 1) % 65536 == fieldU f 4 2
  (if follows then getAt s.pair.part cls else []) ++ slice f 8 (fieldU f 6 2)

/-- Put the MSEQ and the bytes collected of a class. -/
def putPart (cls mseq : Nat) (b : List Byte) (s : State) : State :=
  { s with pair := { s.pair with mrx := setAt s.pair.mrx cls (some mseq), part := setAt s.pair.part cls b } }

/-- Receive a frame of a class on a lane: the first valid copy counts; with the last frame of a content, the content is used. -/
def mirrorTake (cls : Nat) (l : Lane) (f : List Byte) (use : List Byte → State → State) (s : State) : State :=
  if !mirrorValid cls f s then s
  else
    let s := hearLane l s
    if mirrorStale f s || !mirrorAhead cls f s then s
    else
      let b := collected cls f s
      if fieldU f 6 2 == 4096 then putPart cls (fieldU f 4 2) b s else use b (putPart cls (fieldU f 4 2) [] s)

/-- The mirror link is up: it has not been silent for PAIR_MISS_MAX frames (R370). -/
def mirrorUp (s : State) : Bool := s.pair.silent < cfgN Ent.PAIR_MISS_MAX s

/-- ALIVE_IN toggles: it has not stood still for PAIR_MISS_MAX frame ticks (R370). -/
def aliveOn (s : State) : Bool := s.pair.still < cfgN Ent.PAIR_MISS_MAX s

/-- What a frame boundary finds of the partner: whether ALIVE_IN has toggled, and whether a mirror frame has arrived (R356, R358). -/
def partnerTick (alive : Bool) (s : State) : State :=
  { s with pair := { s.pair with
    mirror := s.pair.heard, heard := false, silent := if s.pair.heard then 0 else min 255 (s.pair.silent + 1)
    alive := alive, still := if alive then 0 else min 255 (s.pair.still + 1) } }

end Sys2Proof.Machine
end

