-- ==== Sys2Proof/Machine/Ident.lean ====
section
/-! DEFINITION. Capacity, life and module identity (05_capacity_life_identity), and the end of enumeration, which forms the map
and compares identities (02_giton_chain R26, R27; 03_cell_sweeps_and_balancing R58). -/
namespace Sys2Proof.Machine
open Sys2Proof

/-! ### Access -/

/-- Context n. -/
def ctxAt (n : Nat) (s : State) : Ctx := getAt s.est.ctx n

/-- Change context n. -/
def modCtx (n : Nat) (f : Ctx → Ctx) (s : State) : State := { s with est := { s.est with ctx := modAt s.est.ctx n f } }

/-- The flags of context n. -/
def flAt (n : Nat) (s : State) : CtxFlags := getAt s.est.fl n

/-- Change the flags of context n. -/
def modFl (n : Nat) (f : CtxFlags → CtxFlags) (s : State) : State := { s with est := { s.est with fl := modAt s.est.fl n f } }

/-- Learning state of position n. -/
def lpAt (n : Nat) (s : State) : LearnPos := getAt s.ident.pos n

/-- Change the learning state of position n. -/
def modLp (n : Nat) (f : LearnPos → LearnPos) (s : State) : State :=
  { s with ident := { s.ident with pos := modAt s.ident.pos n f } }

/-- Operating seconds now. -/
def opNow (s : State) : Nat := s.sys.opSec

/-- The rated capacity C in mAh. -/
def ratedCap (s : State) : Nat := cfgN Ent.EST_RATED_CAP s

/-- The capacity context n counts with; a context that carries none yet counts with C (R105, R125). -/
def capOf (n : Nat) (s : State) : Nat := if (ctxAt n s).cap = 0 then ratedCap s else (ctxAt n s).cap

/-! ### The learned record (R110 to R112) -/

/-- The copy in use (R112); none when both fail their check. -/
def validCopy (p : LearnPos) : Option Learned :=
  if p.aOk && p.bOk then some (if p.a.seq ≥ p.b.seq then p.a else p.b)
  else if p.aOk then some p.a else if p.bOk then some p.b else none

/-- The record of position n. -/
def learnedAt (n : Nat) (s : State) : Learned := (validCopy (lpAt n s)).getD {}

/-- The higher SEQ among the copies that pass their check. -/
def topSeq (p : LearnPos) : Nat := ((validCopy p).map (·.seq)).getD 0

/-- A write goes to the slot whose copy fails its check, else to the slot with the lower SEQ (R111). -/
def writeToA (p : LearnPos) : Bool := if !p.aOk then true else if !p.bOk then false else p.a.seq ≤ p.b.seq

/-- A verified write of a record (R111). -/
def putRecord (r : Learned) (p : LearnPos) : LearnPos :=
  let r := { r with seq := (topSeq p + 1) % 4294967296 }
  if writeToA p then { p with a := r, aOk := true } else { p with b := r, bOk := true }

/-- The hold-up gauge allows a write of `us` µs (R116). -/
def gaugeOk (us : Nat) (s : State) : Bool := us + 3000 ≤ s.sup.holdT

/-- The bytes 0-59 of a record (Table 5-1). -/
def learnedBytes60 (r : Learned) : List Byte :=
  toBytes 8 r.modId ++ toBytes 4 r.seq ++ toBytes 2 r.gen ++ toBytes 2 r.capN ++ toBytes 4 r.cap ++ toBytes 4 r.capTime ++
  toBytes 4 r.rBol ++ toBytes 4 r.firstSeen ++ toBytes 8 r.thru ++ toBytes 2 r.sohC ++ toBytes 2 r.sohR ++ toBytes 4 r.capLast ++
  toBytes 2 (b2n r.stale + 2 * b2n r.rBolLearned + 4 * b2n r.lifeRestarted) ++ List.replicate 10 0

/-- The 64 bytes of a record (Table 5-1). -/
def learnedBytes (r : Learned) : List Byte := learnedBytes60 r ++ toBytes 4 (crc32c (learnedBytes60 r))

/-- No write of the record of position n waits any longer: 0x3011 clears (Table 5-8). -/
def endWait (n : Nat) (s : State) : State :=
  let s := modLp n (fun p => { p with waitSince := none }) s
  if s.ident.pendBatch then s else clearF 0x3011 n s

/-- A write of the record of position n waits for the hold-up gauge (R116). -/
def beginWait (n : Nat) (s : State) : State := modLp n (fun p => { p with waitSince := some (p.waitSince.getD s.now) }) s

/-- Write the record of position n; an active member sends it to its partner (Table 15-3). A slot that a verified write repairs raises
nothing any more (Table 5-8). -/
def writeRecord (n : Nat) (r : Learned) (s : State) : State :=
  let s := endWait n (modLp n (putRecord r) s)
  let s := if (lpAt n s).aOk && (lpAt n s).bOk then clearF 0x3012 n s else s
  if s.pair.paired && s.pair.role == .active then
    sendMirror clsRecord (recordMirrorBytes n (learnedBytes (learnedAt n s))) s else s

/-- A single record write starts now, or waits for the gauge (R116). -/
def tryWrite (n : Nat) (f : State → State) (s : State) : State := if gaugeOk 10 s then f s else beginWait n s

/-- The record that replaces one whose two copies fail (R112). -/
def rebuiltRecord (n : Nat) (s : State) : Learned :=
  { modId := 0, gen := (lpAt n s).recGen, cap := (ctxAt n s).cap, stale := true, lifeRestarted := true, sohC := 0, sohR := 0 }

/-- Both copies fail: the record is rebuilt, from the context once that is restored, and the position is STALE (R112). -/
def rebuildRecord (n : Nat) (s : State) : State :=
  guardOn s.est.restored (tryWrite n fun s => modFl n (fun f => { f with stale := true }) (writeRecord n (rebuiltRecord n s) s)) s

/-- A slot whose copy fails its check is written from the other copy (R112). -/
def repairSlot (n : Nat) (r : Learned) (s : State) : State :=
  clearF 0x3012 n (endWait n (modLp n (fun p => { p with a := r, aOk := true, b := r, bOk := true }) s))

/-- What is to be done for the copies of position n: nothing, a slot's repair, or a rebuild (R112). -/
def mendRecord (n : Nat) (s : State) : State :=
  let p := lpAt n s
  if p.aOk && p.bOk then s
  else match validCopy p with
    | some r => tryWrite n (repairSlot n r) s
    | none => rebuildRecord n s

/-- A copy fails its check: 0x3012, or 0x3013 where the other one fails too (R112). -/
def learnedCopyRewrite (n : Nat) (slotB : Bool) (s : State) : State :=
  let s := modLp n (fun p => if slotB then { p with bOk := false } else { p with aOk := false }) s
  mendRecord n (raiseF (if (validCopy (lpAt n s)).isSome then 0x3012 else 0x3013) n s)

/-- LEARNED_COPY_REWRITE (R112). -/
def execLearnedCopyRewrite (pos : Fin 256) (slotB : Bool) (s : State) : Host.Outcome State Fault Refusal :=
  whenLiveK (learnedCopyRewrite pos.val slotB) s

/-- The context of position n takes capacity, SOH and STALE from the record (R110, R117). -/
def enterRecord (n : Nat) (s : State) : State :=
  let r := learnedAt n s
  modFl n (fun f => { f with stale := r.stale })
    (modCtx n (fun c => { c with cap := r.cap, capTime := r.capTime, sohC := r.sohC, sohR := r.sohR }) s)

/-- A record is loaded after the reconciliation of R105; one that cannot be read is rebuilt first (R110, R112). -/
def loadRecord (n : Nat) (s : State) : State :=
  let s := mendRecord n s
  if (validCopy (lpAt n s)).isSome then enterRecord n s else modFl n (fun f => { f with stale := true }) s

/-- After the reconciliation of R105, contexts take capacity, SOH and STALE from their records (R110). -/
def loadLearned (s : State) : State :=
  let s := forAll (List.range 256) loadRecord s
  { s with ident := { s.ident with loaded := true } }

/-! ### SOH by resistance and life (R119 to R121) -/

/-- R_BOL in force (R119). -/
def rBolOf (r : Learned) (s : State) : Nat :=
  let e := cfgN Ent.EST_RDC_BOL s
  if e ≠ 0 then e * 256 else r.rBol

/-- SOH_R (R119). -/
def sohROf (n : Nat) (r : Learned) (s : State) : Nat :=
  let rBol : Int := rBolOf r s
  if rBol = 0 then 10000
  else
    let rEol : Int := wrapU 32 (divT (rBol * cfg Ent.EST_EOL_R s) 10000)
    (clampI 0 10000 (divT (10000 * (rEol - (ctxAt n s).rdc)) (rEol - rBol))).toNat

/-- EST_EFC (R120), in 0.01 cycle. -/
def efcOf (r : Learned) (s : State) : Nat := min 4294967295 (divN r.thru (72 * ratedCap s))

/-- Remaining life (R121): days and cycles; 0xFFFFFFFF where not estimable. -/
def lifeOf (r : Learned) (s : State) : Nat × Nat :=
  let ageD := (opNow s - r.firstSeen) / 86400
  let eol := cfgN Ent.EST_EOL_CAP s
  if r.sohC ≥ 10000 || ageD < 30 || r.capN < 2 then (4294967295, 4294967295)
  else if r.sohC ≤ eol then (0, 0)
  else ((r.sohC - eol) * ageD / (10000 - r.sohC), wrapU 32 ((r.sohC - eol) * efcOf r s / (10000 - r.sohC) : Nat))

/-- What an hourly write makes of one position's record (R119 to R121). -/
def batchWrite (n : Nat) (s : State) : State :=
  let f := flAt n s
  let r := learnedAt n s
  let r := { r with thru := r.thru + f.thruAcc / 1000000, sohR := sohROf n r s }
  let (days, efc) := lifeOf r s
  let s := modFl n (fun f => { f with thruAcc := f.thruAcc % 1000000 }) s
  let s := modCtx n (fun c => { c with sohR := r.sohR }) (writeRecord n r s)
  let s := modLp n (fun p => { p with lifeDays := days, lifeEfc := efc, owed := false }) s
  if (positions s).contains n && (r.sohC ≤ cfgN Ent.EST_EOL_CAP s || r.sohR = 0) then raiseF 0x3015 n s else s

/-- One position's part of a record batch. DEDUCED (log 131): while a CAP_LEARN entry is open, the write that carries its TARGET_SEQ is
the next of the position, so the batch passes the record over and it is written after the entry; the same for a record that cannot be
read. -/
def batchPos (n : Nat) (s : State) : State :=
  if (lpAt n s).entry.isSome || (validCopy (lpAt n s)).isNone then modLp n (fun p => { p with owed := true }) s else batchWrite n s

/-- EST_LIFE_MIN_DAYS (R121). -/
def lifeMinOf (s : State) : Nat := (positions s).foldl (fun m n => min m (lpAt n s).lifeDays) 4294967295

/-- All 256 records are written as one batch (R120); one that waited has been written (Table 5-8). -/
def recordBatch (s : State) : State :=
  let s := forAll (List.range 256) batchPos { s with ident := { s.ident with pendBatch := false } }
  { s with ident := { s.ident with lifeMin := lifeMinOf s } }

/-- Start a record batch if records are loaded and this member keeps them; it waits while the gauge is short (R116, R120). -/
def startBatch (s : State) : State :=
  guardOn (s.ident.loaded && acts s) (fun s =>
    if gaugeOk 2560 s then recordBatch s
    else { s with ident := { s.ident with
      pendBatch := true, pendSince := if s.ident.pendBatch then s.ident.pendSince else s.now } }) s

/-- RECORD_BATCH_HOURLY (R120): an hour has passed since the last one. -/
def execRecordBatchHourly (s : State) : Host.Outcome State Fault Refusal :=
  whenLiveK (fun s => guardOn (due s.ident.hourAt 3600000000000 s) (fun s =>
    startBatch { s with ident := { s.ident with hourAt := some s.now } }) s) s

/-- A deferred batch tries again at each frame, and so do a repair and a record that a batch passed over (R116). -/
def retryWrites (s : State) : State :=
  let s := if s.ident.pendBatch then startBatch s else s
  forAll (List.range 256) (fun n s =>
    let s := mendRecord n s
    if (lpAt n s).owed && (lpAt n s).entry.isNone && acts s && (validCopy (lpAt n s)).isSome then tryWrite n (batchWrite n) s else s) s

/-! ### Capacity learning (R113 to R118) -/

/-- CAP_LEARN payload (Table 5-3). -/
def capLearnBytes (e : CapLearn) : List Byte :=
  toBytes 2 e.pos ++ toBytes 2 e.gen ++ toBytes 4 e.target ++ toBytes 4 e.capBefore ++ toBytes 2 e.socA ++ toBytesS 2 e.tempA ++
  toBytes 4 e.timeA ++ toBytes 2 e.socB ++ toBytesS 2 e.tempB ++ toBytes 4 e.timeB ++ toBytesS 8 e.q

/-- The CAP_LEARN entry that a payload spells (Table 5-3). -/
def capLearnOf (p : List Byte) : CapLearn :=
  { pos := fieldU p 0 2, gen := fieldU p 2 2, target := fieldU p 4 4, capBefore := fieldU p 8 4, socA := fieldU p 12 2
    tempA := fieldS p 14 2, timeA := fieldU p 16 4, socB := fieldU p 20 2, tempB := fieldS p 22 2, timeB := fieldU p 24 4
    q := fieldS p 28 8 }

/-- The first condition of Table 5-2 that refuses a pair at offer; none when it passes. -/
def offerRefusal (n socB : Nat) (tempB : Int) (s : State) : Option Nat :=
  let c := ctxAt n s
  let f := flAt n s
  let ds : Int := (f.aSoc : Int) - socB
  if (lpAt n s).entry.isSome then some 11
  else if opNow s - c.restTime > 1209600 then some 2
  else if s.est.restarted > c.restTime then some 3
  else if (learnedAt n s).firstSeen > c.restTime then some 4
  else if s.est.substAt > c.restTime then some 5
  else if c.restTemp = -32768 || tempB = -32768 || (c.restTemp - tempB).natAbs > cfgN Ent.EST_LEARN_DT s then some 6
  else if ds.natAbs < cfgN Ent.EST_LEARN_DSOC s then some 7
  else if c.qRest = 0 || (0 < c.qRest) != (0 < ds) then some 8
  else none

/-- A pair of rest points is offered (R113): refused, or journaled as a CAP_LEARN entry (R115). -/
def capOffer (n socB : Nat) (tempB : Int) (s : State) : State :=
  guardOn ((flAt n s).hasPointA && s.ident.loaded && acts s) (fun s =>
    match offerRefusal n socB tempB s with
    | some r => modLp n (fun p => { p with last := r }) s
    | none =>
      let c := ctxAt n s
      let r := learnedAt n s
      let e : CapLearn :=
        { pos := n, gen := r.gen, target := (topSeq (lpAt n s) + 1) % 4294967296, capBefore := capOf n s
          socA := (flAt n s).aSoc, tempA := c.restTemp, timeA := c.restTime
          socB := socB, tempB := tempB, timeB := opNow s, q := c.qRest }
      journalOwn 0x30 (capLearnBytes e)
        (modLp n (fun p => { p with entry := some e, committed := false, state := .journaled }) s)) s

/-- The open CAP_LEARN entry of a position gets its completion (R113, R117): the entry stands in the journal until that is committed. -/
def completeLearn (n result : Nat) (s : State) : State :=
  let p := lpAt n s
  match p.entry with
  | some e =>
    let s := journalCompletion p.entryJ result (toBytes 2 n ++ toBytes 4 e.target) s
    let s := if p.waitSince.isSome then endWait n s else s
    modLp n (fun p => { p with closing := true, next := none, state := .idle, last := result }) s
  | none => s

/-- A COMPLETION has been committed: the learning entry it names is open no more. -/
def closeLearn (j : Nat) (s : State) : State :=
  { s with ident := { s.ident with pos := s.ident.pos.map fun p =>
      if p.committed && p.entryJ == j then
        { p with entry := none, committed := false, closing := false, next := none, state := .idle }
      else p } }

/-- The computation of R114 on an entry; none when the sample fails its bounds. -/
def learnCompute (n : Nat) (e : CapLearn) (s : State) : Option Learned :=
  let r := learnedAt n s
  let rated : Int := ratedCap s
  let dev := cfg Ent.EST_LEARN_DEV s
  let ds : Int := (e.socA : Int) - e.socB
  let capS : Int := wrapU 32 (divT e.q (ds * 360000))
  let cap : Int := e.capBefore
  let lo : Int := wrapU 32 (if r.stale then divT rated 2 else cap - divT (cap * dev) 10000)
  let hi : Int := wrapU 32 (if r.stale then divT (rated * 3) 2 else cap + divT (cap * dev) 10000)
  if capS < lo || capS > hi then none
  else
    let cap' := wrapU 32 (cap + divT (capS - cap) 4)
    some { r with
      cap := cap', capLast := capS.toNat, capN := incSat16 r.capN, capTime := opNow s
      sohC := (min 10000 (divT (cap' * 10000 : Nat) rated)).toNat
      sohR := sohROf n r s, stale := false }

/-- An entry whose GEN no longer matches is discarded, one out of bounds refused, any other computed and then written (R114). -/
def learnStep (n : Nat) (e : CapLearn) (s : State) : State :=
  if (learnedAt n s).gen ≠ e.gen then completeLearn n 10 s
  else
    match learnCompute n e s with
    | some r => modLp n (fun p => { p with next := some r, state := .writing }) s
    | none => completeLearn n 9 (raiseF 0x3010 n s)

/-- The computation after the commit (R114, R115). -/
def capLearnCompute (n : Nat) (s : State) : State :=
  let p := lpAt n s
  guardOn (p.committed && p.next.isNone && !p.closing && acts s) (fun s =>
    match p.entry with
    | some e => learnStep n e s
    | none => s) s

/-- CAP_LEARN_COMPUTE (R114). -/
def execCapLearnCompute (pos : Fin 256) (s : State) : Host.Outcome State Fault Refusal := whenLiveK (capLearnCompute pos.val) s

/-- The fields that R114 sets, in the record as it stands at the write. -/
def learnedInto (r : Learned) (x : Learned) : Learned :=
  { x with cap := r.cap, capLast := r.capLast, capN := r.capN, capTime := r.capTime, sohC := r.sohC, sohR := r.sohR, stale := r.stale }

/-- A learned-record write: deferred while the gauge is short; verified at once or on the one repetition (R111, R116, R117). -/
def capRecordWrite (n : Nat) (first second : Bool) (s : State) : State :=
  match (lpAt n s).next with
  | none => s
  | some r =>
    if !acts s then s
    else if (lpAt n s).entry.any (fun e => e.gen != (learnedAt n s).gen) then completeLearn n 10 s
    else if !gaugeOk 10 s then modLp n (fun p => { p with state := .deferred }) (beginWait n s)
    else if first || second then
      let s := clearF 0x3010 n (writeRecord n (learnedInto r (learnedAt n s)) s)
      let s := modLp n (fun p => { p with enter := true }) (completeLearn n 1 s)
      if r.sohC ≤ cfgN Ent.EST_EOL_CAP s || r.sohR = 0 then raiseF 0x3015 n s else s
    else
      let p := lpAt n s
      modLp n (fun q => if writeToA p then { q with aOk := false, state := .writing } else { q with bOk := false, state := .writing })
        (raiseF 0x3012 n s)

/-- CAP_RECORD_WRITE (R116). -/
def execCapRecordWrite (pos : Fin 256) (first second : Bool) (s : State) : Host.Outcome State Fault Refusal :=
  whenLiveK (capRecordWrite pos.val first second) s

/-- A write of the record of position n waits: alone, or with a batch (R116). -/
def waitingSince (n : Nat) (s : State) : Option Nat :=
  match (lpAt n s).waitSince with
  | some t => some t
  | none => if s.ident.pendBatch then some s.ident.pendSince else none

/-- LEARN_DEFERRED (R116): 60 s of deferral. -/
def learnDeferred (n : Nat) (s : State) : State :=
  match waitingSince n s with
  | some t => if t + 60000000000 ≤ s.now then raiseF 0x3011 n s else s
  | none => s

/-- LEARN_DEFERRED (R116). -/
def execLearnDeferred (pos : Fin 256) (s : State) : Host.Outcome State Fault Refusal := whenLiveK (learnDeferred pos.val) s

/-- EST_LEARN_STATE (Table 5-6): DEFERRED also while a batch or another write of the record waits (R116). -/
def learnStateOf (n : Nat) (s : State) : LearnState := if (waitingSince n s).isSome then .deferred else (lpAt n s).state

/-- An entry before this one in the journal has not been taken yet (R118). -/
def earlierOpen (n : Nat) (s : State) : Bool :=
  s.ident.pos.toList.any fun p =>
    p.entry.isSome && p.committed && p.next.isNone && !p.closing && decide (p.entryJ < (lpAt n s).entryJ)

/-- An open entry is completed after the restore, in journal order (R118). -/
def openLearnCompletion (n : Nat) (s : State) : State :=
  let p := lpAt n s
  guardOn (s.ident.loaded && s.est.restored && acts s && p.committed && p.next.isNone && !p.closing && !earlierOpen n s) (fun s =>
    match p.entry with
    | none => s
    | some e =>
      if topSeq (lpAt n s) ≥ e.target then modLp n (fun p => { p with enter := true }) (completeLearn n 1 s)
      else learnStep n e s) s

/-- OPEN_LEARN_COMPLETION (R118). -/
def execOpenLearnCompletion (pos : Fin 256) (s : State) : Host.Outcome State Fault Refusal :=
  whenLiveK (openLearnCompletion pos.val) s

/-- Every open entry is taken, in journal order (R118). -/
def completeOpen (s : State) : State :=
  let ps := (List.range 256).filter fun n => (lpAt n s).entry.isSome && (lpAt n s).committed
  forAll (sortBy (fun a b => (lpAt a s).entryJ ≤ (lpAt b s).entryJ) ps) openLearnCompletion s

/-! ### Identity (R122 to R126) -/

/-- An identity that no module has (R126). -/
def badId (id : Nat) : Bool := id == 0 || id == 18446744073709551615

/-- Compare a node's identity with the record of one of its positions (R123, R125). -/
def comparePos (id n : Nat) (s : State) : State :=
  let s := clearF 0x3014 n s
  let r := learnedAt n s
  if r.modId = id then modLp n (fun p => { p with idChange := none }) s
  else if (lpAt n s).idChange == some id then s
  else if r.modId = 0 then modLp n (fun p => { p with idChange := some id, idReady := true }) s
  else
    journalOwn 0x31 (toBytes 2 n ++ toBytes 8 r.modId ++ toBytes 8 id ++ toBytes 2 (incSat16 r.gen))
      (modLp n (fun p => { p with idChange := some id, idReady := false }) s)

/-- All positions of a node take its identity (R122); an invalid one changes nothing (R126). -/
def compareNode (h : Nat) (s : State) : State :=
  guardOn (acts s && s.ident.loaded && s.cells.map == .mapped) (fun s =>
    let id := (nodeAt h s).id
    forAll (nodePositions h s) (fun n s => if badId id then raiseF 0x3014 n s else comparePos id n s) s) s

/-- Compare every node. -/
def compareAll (s : State) : State := forAll (upTo 1 s.chain.n) compareNode s

/-- An identity change takes effect (R123, R125). -/
def applyIdentity (n id : Nat) (s : State) : State :=
  let r := learnedAt n s
  let now := opNow s
  if r.modId = 0 then
    let cap := if r.lifeRestarted then r.cap else ratedCap s
    let s := writeRecord n { r with modId := id, firstSeen := now, stale := true, cap := cap } s
    modLp n (fun p => { p with idChange := none })
      (modFl n (fun f => { f with stale := true, seeded := false }) (modCtx n (fun c => { c with cap := cap }) s))
  else
    let gen := incSat16 r.gen
    let keepBol := cfgN Ent.EST_RDC_BOL s ≠ 0
    let s := writeRecord n { r with
      modId := id, gen := gen, firstSeen := now, thru := 0, capN := 0, stale := true
      rBol := if keepBol then r.rBol else 0, rBolLearned := keepBol && r.rBolLearned } s
    let s := if (lpAt n s).committed && !(lpAt n s).closing then completeLearn n 10 s else s
    let s := modCtx n (fun c => { c with
      rCount := 0, qRest := 0, anchorAt := (now : Int) - (cfgN Ent.EST_ANCHOR_TIME s * 3600 + 1) }) s
    let s := modFl n (fun f => { f with stale := true, replaced := true, seeded := false, thruAcc := 0 }) s
    clearF 0x3015 n (raiseF 0x200E n (modLp n (fun p => { p with idChange := none, recGen := gen }) s))

/-- The identity change of a position, where one is ready (R123, R125): only a member that acts changes records (R122). -/
def changeIdentity (n : Nat) (s : State) : State :=
  let p := lpAt n s
  match p.idChange with
  | some id =>
    if !acts s then modLp n (fun p => { p with idChange := none }) s
    else if p.idReady && !(validCopy p).isNone then tryWrite n (applyIdentity n id) s else s
  | none => s

/-- Item 1 of R102: identity changes first, then capacity updates (R117, R127). -/
def enterIdentity (s : State) : State :=
  forAll (List.range 256) (fun n s =>
    let s := changeIdentity n s
    if (lpAt n s).enter then enterRecord n (modLp n (fun p => { p with enter := false }) s) else s) s

/-- R_BOL is taken from R_DC at the first frame after R_SEEDED has become set following FIRST_SEEN (R119). -/
def learnRBol (n : Nat) (s : State) : State :=
  let r := learnedAt n s
  guardOn (s.ident.loaded && acts s && (flAt n s).seeded && r.modId ≠ 0 && (lpAt n s).entry.isNone) (fun s =>
    if r.rBol ≠ 0 then modFl n (fun f => { f with seeded := false }) s
    else tryWrite n (fun s => modFl n (fun f => { f with seeded := false })
      (writeRecord n { r with rBol := (ctxAt n s).rdc, rBolLearned := true } s)) s) s

/-- 0x200E is acknowledged for one position (R128). -/
def ackId (n : Nat) (s : State) : State := clearF 0x200E n s

/-! ### The end of enumeration and the map (R26, R27, R58) -/

/-- The nodes in order from the string's negative end (R58 step 2). -/
def nodeOrder (n : Nat) (s : State) : List Nat :=
  if cfgN Ent.STR_CHAIN_DIR s = 0 then upTo 1 n else (upTo 1 n).reverse

/-- A position nothing is mapped to, or one just mapped: learned lead values stay. -/
def freshCell (c : Cell) (h i : Nat) : Cell :=
  { node := h, input := i, tempSrc := c.tempSrc, srcLo := c.srcLo, srcHi := c.srcHi, learnLo := c.learnLo, learnHi := c.learnHi }

/-- No position is mapped, or a map is about to be formed. Where none is formed, the instants of the last VALID values stay: silence
runs from them (R27). -/
def unmapAll (st : MapState) (s : State) : State :=
  let old (c : Cell) : Cell :=
    if st == .mapped then freshCell c 0 0 else { freshCell c 0 0 with lastValid := c.lastValid, lastValidT := c.lastValidT }
  { s with
    cells := { s.cells with map := st, posCount := 0, cells := s.cells.cells.map old, done := s.cells.done.map old }
    prot := { s.prot with mappedAt := s.now, pos := Vector.replicate 256 {} } }

/-- Map node h from position p0 on. -/
def mapNode (h p0 : Nat) (s : State) : State :=
  let s := modNode h (fun x => { x with p0 := p0 }) s
  forAll (List.range (nodeAt h s).cells) (fun i s => modCell (p0 + i) (fun c => freshCell c h i) s) s

/-- The map is formed (R58). -/
def formMap (s : State) : State :=
  let n := s.chain.n
  let total := sumN ((upTo 1 n).map fun h => (nodeAt h s).cells)
  if total ≠ cfgN Ent.STR_POS_COUNT s || total > 256 then raiseF 0x2108 wide (unmapAll .mismatch s)
  else
    let s := clearF 0x2108 wide (unmapAll .mapped s)
    let s := { s with cells := { s.cells with posCount := total } }
    ((nodeOrder n s).foldl (fun (x : Nat × State) h => (x.1 + (nodeAt h x.2).cells, mapNode h x.1 x.2)) (0, s)).2

/-- A node that is unkeyed raises 0x200A, and is keyed automatically where CHN_AUTO_KEY says so (R54). -/
def enumKey (h : Nat) (s : State) : State :=
  if (nodeAt h s).state == .unkeyed then
    let s := raiseC 0x200A h s
    if cfgB Ent.CHN_AUTO_KEY s then keyNode h s else s
  else s

/-- The claim that an invitation picks: the highest signal strength, the lower token on a tie (R26 step 4). -/
def bestClaim : List EnumClaim → Option EnumClaim
  | [] => none
  | c :: cs => match bestClaim cs with
    | none => some c
    | some d => if d.rssi < c.rssi || (d.rssi == c.rssi && c.token ≤ d.token) then some c else some d

/-- The enumeration from hop v on (R26), over the claims that each invitation drew: the COMMANDs radio A sends, and the signal
strength of each node found. `again` says that the invitation before drew none; two in a row end it. Radio A is hop 0: it invites
and assigns itself; any other hop does so on its ENUM_STEP. -/
def enumWalk (v : Nat) (again : Bool) : List (List EnumClaim) → List ChainCmd × List Int
  | [] => ([], [])
  | r :: rs =>
    let step := if v = 0 then ChainCmd.enumInvite else .enumStep v
    match bestClaim r with
    | none => if again then ([step], []) else
      let x := enumWalk v true rs
      (step :: x.1, x.2)
    | some c =>
      let x := enumWalk (v + 1) false rs
      (step :: (if v = 0 then [.enumAssign c.token 1] else []) ++ x.1, c.rssi :: x.2)

/-- What an enumeration leaves before its result is judged: every node found, none of them read yet, and nothing mapped. -/
def enumReset (rssi : List Int) (s : State) : State :=
  let n := min 32 rssi.length
  let s := unmapAll .unmapped { s with
    cells := { s.cells with nodes := Vector.replicate 32 {} }
    chain := { s.chain with n := n, sweep := {}, prevBreak := none }
    chctl := { s.chctl with queue := [], triple := none, resplitNext := none, restoreAt := none, probeMiss := 0, probeRun := 0
                            awaitA := none, awaitB := none, enumEnd := s.now } }
  forAll ((rssi.take 32).zipIdx) (fun x s => modNode (x.2 + 1) (fun _ => {
    state := .ok, rssi := x.1, corner := cfgN Ent.CHN_NODE_CORNER s x.2 }) s) s

/-- The end of an enumeration (R27): TOPOLOGY from both radios, ENUM_CHECK from radio B, the result, and READ_ID to every node. The
claims say what the invitations drew, `mismatch` and `bReaches` what the nodes reported of the check; DESIGN CHOICE (log 126): the
manual names no frame that brings these reports. -/
def enumerationEnd (rounds : List (List EnumClaim)) (mismatch bReaches : Bool) (s : State) : State :=
  guardOn (s.chain.state == .enumerating) (fun s =>
    let (cmds, rssi) := enumWalk 0 false rounds
    let s := enumReset rssi (forAll (cmds.drop 1) (sendCmd .a) s)
    let single := s.chain.fencedA || s.chain.fencedB
    let s := { s with chain := { s.chain with topo := if single then .single else .configured } }
    let s := forAll [Radio.a, Radio.b] (fun r s => sendCmd r (topologyCmd none s.chctl.nodeBalMode (s.chain.sweepCtr + 1) s) s) s
    let s := sendCmd .b .enumCheck s
    let fail2 := mismatch || !bReaches
    let fail1 := rssi.length ≠ nodeCount s
    let ok := !(fail1 || fail2)
    let s := if fail1 then raiseF 0x2001 wide s else s
    let s := if fail2 then raiseF 0x2002 wide s else s
    let s := if ok then clearF 0x2001 wide (clearF 0x2002 wide s) else s
    let s := { s with
      chain := { s.chain with state := if !ok then .failed else if single then .singleRadio else .running }
      chctl := { s.chctl with enumNodes := ok, idWait := ok } }
    let s := if ok then forAll (upTo 1 s.chain.n) sendFilter s else s
    readAllIds s) s

/-- ENUMERATION_END (R27). -/
def execEnumerationEnd (rounds : List (List EnumClaim)) (mismatch bReaches : Bool) (s : State) :
    Host.Outcome State Fault Refusal :=
  whenLiveK (enumerationEnd rounds mismatch bReaches) s

/-! ### Identities read, and the map that waits for them (R27, R58, R122) -/

/-- Each inner lead takes one value, where a map was formed (R70). -/
def shareAll (s : State) : State :=
  guardOn (s.cells.map == .mapped) (fun s => forAll (upTo 1 s.chain.n) shareLeads s) s

/-- Every node has answered READ_ID since the enumeration. -/
def allAnswered (s : State) : Bool := (upTo 1 s.chain.n).all fun h => (nodeAt h s).answered

/-- The map is formed once the CELLS of every node are known (R58), and the identities are compared (R122). -/
def mapIfKnown (s : State) : State :=
  guardOn (s.chctl.idWait && allAnswered s) (fun s =>
    let s := keep (fun s => formMap { s with chctl := { s.chctl with idWait := false } }) s
    keep compareAll (shareAll s)) s

/-- The payload of a READ_ID reply: IDENTITY, CELLS, FW (Table 2-4); one in the clear shows an unkeyed node (R54). -/
def nodeIdentity (sender : Option Nat) (h : Nat) (p : List Byte) (s : State) : State :=
  let id := fieldU p 1 8
  guardOn (p.length == 14 && fieldU p 0 1 == 0xA0 && sender.all (· == id)) (fun s =>
    let s := modNode h (fun x => { x with
      id := id, fw := fieldU p 10 4, answered := true
      cells := if s.cells.map == .mapped then x.cells else fieldU p 9 1
      state := if sender.isNone then .unkeyed else if x.state == .unkeyed then .ok else x.state }) s
    compareNode h (enumKey h s)) s

/-- A READ_ID reply reaches a radio (R122). -/
def readIdReply (r : Radio) (t : Nat) (sender : Option Nat) (b : List Byte) (s : State) : State :=
  takeReply r t sender b (nodeIdentity sender) s

/-- READ_ID_REPLY (R122). `sender` is the identity under which the reply is protected, and none for a node without a key; DESIGN CHOICE
(log 127): the manual does not say how a receiver knows it before it has read the reply. -/
def execReadIdReply (radio : Radio) (t : Nat) (sender : Option Word64) (body : List Byte) (s : State) :
    Host.Outcome State Fault Refusal :=
  whenLive (fun s => mapIfKnown (keep (readIdReply radio t (sender.map (·.toNat)) body) s)) s

end Sys2Proof.Machine
end

