-- ==== Sys2Proof/Machine/Tables.lean ====
section
/-! DEFINITION. Table sets and lookups (04_estimation_engine R86 to R89). -/
namespace Sys2Proof.Machine
open Sys2Proof

/-- The rate axis, in 0.001C. -/
def rateAxis : List Int := [-1000, -500, -200, 0, 200, 500]

/-- One step of the SOC axis: 3.125 % in 10^-12. -/
def socStep : Int := 31250000000

/-- Full charge in 10^-12. -/
def socFull : Int := 1000000000000

/-- bracket(axis, x) of R89 on the points from i on. -/
def bracketFrom (i : Nat) (x : Int) : List Int → Nat × Int
  | a :: b :: r => if x < b then (i, divT ((x - a) * 65536) (b - a)) else bracketFrom (i + 1) x (b :: r)
  | _ => (i, 0)

/-- bracket(axis, x) of R89. -/
def bracket (axis : List Int) (x : Int) : Nat × Int :=
  if x < axis.headD 0 then (0, 0) else bracketFrom 0 x axis

/-- blend(a, b, f) of R89. -/
def blend (a b f : Int) : Int := a + divT ((b - a) * f) 65536

/-- A voltage of a set (R86). -/
def tblVolt (t : Tbl) (r i s : Nat) : Int := t.data.getD ((r * 8 + i) * 33 + s) 0

/-- The blended column at a temperature and a rate, UQ16.16 in 100 µV (R89). -/
def tblColumn (t : Tbl) (temp rate : Int) : List Int :=
  let (i, ft) := bracket t.taxis temp
  let (j, fr) := bracket rateAxis rate
  let i1 := min (i + 1) 7
  let j1 := min (j + 1) 5
  (List.range 33).map fun s =>
    blend (blend (tblVolt t j i s * 65536) (tblVolt t j i1 s * 65536) ft)
      (blend (tblVolt t j1 i s * 65536) (tblVolt t j1 i1 s * 65536) ft) fr

/-- What the inverse lookup gives: table SOC, slope in 100 µV per %, OUT_OF_TABLE (R89). -/
structure Lookup where
  tab   : Int
  slope : Int
  out   : Bool
  deriving DecidableEq, Repr, Inhabited

/-- The slope of segment k of a column (R89). -/
def colSlope (col : List Int) (k : Nat) : Int := divT ((col.getD (k + 1) 0 - col.getD k 0) * 8) (25 * 65536)

/-- The inverse lookup (R89). -/
def inverseLookup (t : Tbl) (v : Nat) (temp rate : Int) : Lookup :=
  let col := tblColumn t temp rate
  let w : Int := v * 65536
  if w ≤ col.getD 0 0 then ⟨0, colSlope col 0, true⟩
  else if w ≥ col.getD 32 0 then ⟨socFull, colSlope col 31, true⟩
  else
    let k := (col.takeWhile fun c => decide (c ≤ w)).length - 1
    ⟨k * socStep + divT ((w - col.getD k 0) * socStep) (col.getD (k + 1) 0 - col.getD k 0), colSlope col k, false⟩

/-- The table voltage at a SOC (R89), in 100 µV. DEDUCED (log 22): the UQ16.16 result is truncated to 100 µV, as R9 divides. -/
def tableVoltage (t : Tbl) (soc temp rate : Int) : Int :=
  let col := tblColumn t temp rate
  let x := clampI 0 socFull soc
  let k := min (x / socStep).toNat 31
  divT (col.getD k 0 + divT ((col.getD (k + 1) 0 - col.getD k 0) * (x - k * socStep)) socStep) 65536

/-- TBL_RFACT interpolated on the set's temperature axis (R101). -/
def rfactAt (t : Tbl) (temp : Int) : Int :=
  let (i, f) := bracket t.taxis temp
  blend (t.rfact.getD i 4096) (t.rfact.getD (min (i + 1) 7) 4096) f

/-! ### Sets as stored (R86, R87) -/

/-- The eight temperature-axis entries. -/
def taxisEntries : List Entry :=
  [Ent.TBL_TAXIS_0, Ent.TBL_TAXIS_1, Ent.TBL_TAXIS_2, Ent.TBL_TAXIS_3, Ent.TBL_TAXIS_4, Ent.TBL_TAXIS_5, Ent.TBL_TAXIS_6,
   Ent.TBL_TAXIS_7]

/-- The eight resistance-factor entries. -/
def rfactEntries : List Entry :=
  [Ent.TBL_RFACT_0, Ent.TBL_RFACT_1, Ent.TBL_RFACT_2, Ent.TBL_RFACT_3, Ent.TBL_RFACT_4, Ent.TBL_RFACT_5, Ent.TBL_RFACT_6,
   Ent.TBL_RFACT_7]

/-- `n` words of two bytes from the front of a list. -/
def words : Nat → List Byte → List Nat
  | 0, _ => []
  | n + 1, bs => fieldU bs 0 2 :: words n (bs.drop 2)

/-- The set k that a store holds; none where TBL_DATA has not been written. -/
def storedSet (k : Nat) (s : State) : Option Tbl :=
  let d := cfgBytes Ent.TBL_DATA s k
  if d.length = 3168 then
    some { taxis := taxisEntries.map fun e => cfg e s k, data := words 1584 d, rfact := rfactEntries.map fun e => cfgN e s k }
  else none

/-- Strictly increasing. -/
def increasing : List Int → Bool
  | a :: b :: r => a < b && increasing (b :: r)
  | _ => true

/-- Whether set k passes the checks of R87. -/
def setOk (k : Nat) (s : State) : Bool :=
  let ax := taxisEntries.map fun e => cfg e s k
  increasing ax && (rfactEntries.all fun e => cfgN e s k != 0) &&
  match storedSet k s with
  | none => true
  | some t => t.data.all (· != 65535) &&
      (List.range 48).all fun c => increasing (((t.data.drop (33 * c)).take 33).map fun (x : Nat) => (x : Int))

/-- TBL_CRC (R87): over the axis, TBL_DATA and the factors. -/
def setCrc (k : Nat) (s : State) : Nat :=
  let d := cfgBytes Ent.TBL_DATA s k
  if d.length = 3168 then
    crc32c ((taxisEntries.flatMap fun e => toBytesS 2 (cfg e s k)) ++ d ++ (rfactEntries.flatMap fun e => toBytes 2 (cfgN e s k)))
  else 0

/-- The set a position names. -/
def tsetOf (n : Nat) (s : State) : Nat := cfgN Ent.EST_TSET s n

/-- A mapped position names set k (R88). -/
def inUse (k : Nat) (s : State) : Bool :=
  s.cells.map == .mapped && (List.range s.cells.posCount).any fun n => tsetOf n s == k

/-- Sets named by mapped positions, each once (R88). -/
def setsInUse (s : State) : List Nat := (List.range 16).filter (inUse · s)

/-- Set k holds data: it is not EMPTY (Table 4-7). -/
def setStored (k : Nat) (s : State) : Bool := (cfgBytes Ent.TBL_DATA s k).length == 3168

/-- The version of set k that lookups use; none while it is EMPTY, CORRUPT or not yet loaded (R88). -/
def usableSet (k : Nat) (s : State) : Option Tbl :=
  let t := getAt s.est.tbl k
  if t.corrupt then none else t.active

/-- Change table slot k. -/
def modSet (k : Nat) (f : TblSlot → TblSlot) (s : State) : State :=
  { s with est := { s.est with tbl := modAt s.est.tbl k f } }

/-- The state a set shows (Table 4-7). -/
def setState (k : Nat) (s : State) : TblState :=
  let t := getAt s.est.tbl k
  if !setStored k s then .empty
  else if t.corrupt then .corrupt
  else if inUse k s && t.active.isSome then .cached else .stored

/-- Set k is in use, and the pager has yet to load its data: newly named, or newly committed (R88). -/
def needsLoad (k : Nat) (s : State) : Bool :=
  let t := getAt s.est.tbl k
  inUse k s && setStored k s && !t.corrupt && t.loaded.isNone && (t.wait || t.active.isNone)

/-- TABLE_PAGER_LOAD (R88): the data of a set in use is loaded and checked; a failing CRC marks the set CORRUPT. -/
def tablePagerLoad (k : Nat) (crcOk : Bool) (s : State) : State :=
  guardOn (needsLoad k s) (fun s =>
    if crcOk then modSet k (fun t => { t with wait := false, loaded := storedSet k s }) s
    else raiseF 0x3005 k (modSet k (fun t => { t with wait := false, loaded := none, corrupt := true }) s)) s

/-- TABLE_PAGER_LOAD (R88). -/
def execTablePagerLoad (set : Fin 16) (crcOk : Bool) (s : State) : Host.Outcome State Fault Refusal :=
  whenLiveK (tablePagerLoad set.val crcOk) s

/-- The data of set k is rewritten (R88): what the pager holds of a set in use stays until the swap, and 0x3005 clears. -/
def rewriteSet (k : Nat) (s : State) : State :=
  clearF 0x3005 k (modSet k (fun t => { t with
    corrupt := false, wait := true, loaded := none
    active := if inUse k s && !t.corrupt then t.active else none }) s)

/-- At a frame boundary the pager swaps the sets it has loaded, and a set no longer in use leaves the cache (R88, R102 item 2). -/
def pagerSwap (s : State) : State :=
  forAll (List.range 16) (fun k s =>
    let t := getAt s.est.tbl k
    match t.loaded with
    | some d => modSet k (fun t => { t with active := some d, loaded := none }) s
    | none => if t.active.isSome && !inUse k s then modSet k (fun t => { t with active := none }) s else s) s

end Sys2Proof.Machine
end

