-- ==== Sys2Proof/Machine/Est.lean ====
section
/-! DEFINITION. The estimation engine (04_estimation_engine): coulomb words, charge count, sweep work, uncertainty, reported SOC,
checkpoints, restore and hibernation. -/
namespace Sys2Proof.Machine
open Sys2Proof

/-! ### Coulomb words (R81 to R83) -/

/-- 150 ms of samples and stage currents are kept: more than any window of R85 and R100 needs. -/
def keepNs : Nat := 150000000

/-- The wake current in mA (R106). -/
def wakeCurrent (s : State) : Int := if cfg Ent.EST_WAKE_I s = 0 then divT (ratedCap s) 100 else cfg Ent.EST_WAKE_I s

/-- One sample joins the list; an unusable one takes the value of the last usable one (R83). While E hibernates, the hardware
accumulator counts it (R106). -/
def addSample (t : Nat) (x : Int) (usable : Bool) (s : State) : State :=
  let v := if usable then x else s.est.lastUse
  let beyond := decide ((x.natAbs : Int) * cfg Ent.EST_SHUNT_LSB s > wakeCurrent s * 1000)
  { s with est := { s.est with
      samples := (⟨t, v, usable⟩ :: s.est.samples).takeWhile fun c => c.t + keepNs ≥ t
      lastUse := v
      lastUseAt := if usable then t else s.est.lastUseAt
      usableRun := if usable then s.est.usableRun + 1 else 0
      wakeRun := if usable && beyond then s.est.wakeRun + 1 else 0
      hibAcc := if s.est.state == .hibernating && s.est.countedTo ≤ t then s.est.hibAcc + v else s.est.hibAcc } }

/-- A coulomb channel word arrives (R81 to R83); `t` is the end of its CRC. -/
def coulombWord (bytes : List Byte) (t : Nat) (s : State) : State :=
  let lat := cfgN Ent.EST_SHUNT_LAT s * 1000
  let s := atTime t s
  if bytes.length ≠ 8 || fieldU bytes 0 1 ≠ 0xC3 || fieldU bytes 6 2 ≠ crc16 (bytes.take 6) then s
  else
    let inst := t - lat
    let seq := fieldU bytes 5 1
    let st := fieldU bytes 4 1
    let ovr := bitOf st 7
    let sfault := bitOf st 6
    let cal := bitOf st 5
    let missing := match s.est.lastSeq with
      | some p => (seq + 256 - (p + 1) % 256) % 256
      | none => 0
    let s := forAll (List.range missing) (fun i s => addSample (inst - (missing - i) * 31250) 0 false s) s
    let s := addSample inst (fieldS bytes 1 3) (!(ovr || sfault || cal)) s
    let s := { s with est := { s.est with lastSeq := some seq } }
    let s := if ovr then raiseF 0x3004 wide s else s
    let s := if sfault then raiseF 0x3003 wide s else s
    if s.est.coulLost && s.est.usableRun ≥ 100 then clearF 0x3002 wide { s with est := { s.est with coulLost := false } } else s

/-- COULOMB_WORD (R81). -/
def execCoulombWord (bytes : List Byte) (t : Nat) (s : State) : Host.Outcome State Fault Refusal :=
  whenLiveK (coulombWord bytes t) s

/-- No usable sample for 10 ms (R83). -/
def coulLost (s : State) : State :=
  guardOn (decide (max s.est.lastUseAt s.sys.t0 + 10000000 ≤ s.now)) (fun s =>
    raiseF 0x3002 wide { s with est := { s.est with coulLost := true, usableRun := 0 } }) s

/-- COUL_LOST (R83). -/
def execCoulLost (s : State) : Host.Outcome State Fault Refusal := whenLiveK coulLost s

/-! ### Published values (R95, R98, R99, R109) -/

/-- Published SOC of position n, 0.01 %; none while not VALID or while E is fenced (R98, R109). -/
def pubSoc (x : Int) (n : Nat) (s : State) : Option Nat :=
  if (flAt n s).valid && !isFenced .e s && (positions s).contains n then some (socPct x) else none

/-- EST_SOC_REP of position n. -/
def repSoc (n : Nat) (s : State) : Option Nat := pubSoc (ctxAt n s).socRep n s

/-- EST_SOC_UNC of position n (R95, R128); a position that is not mapped shows the invalid value (R79). -/
def pubUnc (n : Nat) (s : State) : Nat :=
  if (positions s).contains n then min 10000 ((ctxAt n s).unc + if (flAt n s).stale then cfgN Ent.EST_STALE_UNC s else 0)
  else 10000

/-- Every mapped position is VALID (R99). -/
def allSoc (s : State) : Bool := !(positions s).isEmpty && (positions s).all fun n => (repSoc n s).isSome

/-- EST_STR_SOC (R99). DESIGN CHOICE (log 128): SOC_REP enters as the published value of 0.01 %, and the quotient is truncated as R9
divides. -/
def strSocOf (s : State) : Nat :=
  let ps := positions s
  if !allSoc s then 65535
  else
    let q (n : Nat) : Nat := (repSoc n s).getD 0 * capOf n s
    let h (n : Nat) : Nat := (10000 - (repSoc n s).getD 0) * capOf n s
    let qmin := ps.foldl (fun m n => min m (q n)) (q 0)
    let hmin := ps.foldl (fun m n => min m (h n)) (h 0)
    divN (qmin * 10000) (qmin + hmin)

/-- EST_STR_UNC (R95): over the mapped, VALID positions. -/
def strUncOf (s : State) : Nat :=
  match (positions s).filter fun n => (flAt n s).valid with
  | [] => 10000
  | ns => ns.foldl (fun m n => max m (pubUnc n s)) 0

/-- ANCHOR_AGE of context n, in operating seconds. -/
def anchorAge (n : Nat) (s : State) : Nat := min 4294967295 ((opNow s : Int) - (ctxAt n s).anchorAt).toNat

/-- Context n is UNANCHORED (R96). -/
def unanchored (n : Nat) (s : State) : Bool := anchorAge n s > cfgN Ent.EST_ANCHOR_TIME s * 3600

/-- Item 7 of R102, and 0x3009 (R96). -/
def publishEst (s : State) : State :=
  let s := setF ((positions s).any fun n => unanchored n s) 0x3009 wide s
  { s with est := { s.est with strSoc := strSocOf s, strUnc := strUncOf s } }

/-- VALID clears where no current source has come back (R83). -/
def loseValid (n : Nat) (s : State) : State :=
  modFl n (fun f => if f.valid then { f with valid := false, lostVal := true, tableOnly := true } else f) s

/-- SOURCE_NONE_TIMEOUT (R83): outside PARKED, VALID clears 1 s after the last current source was lost. -/
def sourceNoneTimeout (s : State) : State :=
  guardOn (s.est.source == .none && !parked s && !isFenced .e s &&
      (match s.est.noneSince with | some t => decide (t + 1000000000 ≤ s.now) | none => false)) (fun s =>
    publishEst (forAll (positions s) loseValid s)) s

/-- SOURCE_NONE_TIMEOUT (R83). -/
def execSourceNoneTimeout (s : State) : Host.Outcome State Fault Refusal := whenLiveK sourceNoneTimeout s

/-! ### Step 2: the ended frame's charge (R83, R84) -/

/-- The samples whose instants lie in a..b (b excluded). -/
def samplesIn (a b : Nat) (s : State) : List CSample := s.est.samples.filter fun c => a ≤ c.t && c.t < b

/-- Mean of the stage current over the SAMPLE frames whose reference peaks lie in a..b (b excluded), mA. -/
def stageMean (a b : Nat) (s : State) : Option Int :=
  match s.est.stageI.filter fun x => a ≤ x.1 && x.1 < b with
  | [] => none
  | xs => some (divT (sumI (xs.map (·.2))) xs.length)

/-- Unusable samples of a frame, words that never came included (a frame holds at least 31, R82). -/
def unusableIn (xs : List CSample) : Nat :=
  (xs.filter (!·.usable)).length + (if xs.length < 31 then 32 - xs.length else 0)

/-- Sum of the counts of a frame, missing words filled with the last usable value (R83). -/
def countsIn (last : Int) (xs : List CSample) : Int :=
  sumI (xs.map (·.x)) + (if xs.length < 31 then (32 - xs.length : Nat) * last else 0)

/-- The E island runs: from tier WATCH, neither hibernating nor fenced, with a rated capacity. -/
def estRuns (s : State) : Bool :=
  (s.est.state == .tableOnly || s.est.state == .running) && !isFenced .e s && ratedCap s ≠ 0

/-- The words of the frame that ends at b: those of earlier instants that no frame has counted. DEDUCED (log 129): step 2 closes a
frame within 20 µs, so a word whose CRC ends after that is counted with the next frame. -/
def frameWords (b : Nat) (s : State) : List CSample := samplesIn s.est.countedTo b s

/-- The instant up to which the words are counted once the frame that ends at b is closed; where words were filled in, those not yet
due stay to be counted. -/
def countedUntil (b : Nat) (s : State) : Nat :=
  match frameWords b s with
  | [] => max s.est.countedTo (b - cfgN Ent.EST_SHUNT_LAT s * 1000)
  | x :: xs => if xs.length < 30 then max (x.t + 1) (b - cfgN Ent.EST_SHUNT_LAT s * 1000) else x.t + 1

/-- The coulomb channel serves the frame that ends at b: at most 8 unusable samples, and 0x3002 not in force (R83). -/
def coulombServes (b : Nat) (s : State) : Bool := decide (unusableIn (frameWords b s) ≤ 8) && !s.est.coulLost

/-- The source of the ended frame a..b and its mean current in mA (R83, R84). -/
def frameSource (a b : Nat) (s : State) : ISource × Int :=
  let xs := frameWords b s
  if coulombServes b s then
    (.coulomb, divT (countsIn s.est.lastUse xs * cfg Ent.EST_SHUNT_LSB s) ((if xs.length < 31 then 32 else xs.length : Nat) * 1000))
  else match stageMean a b s with
    | some i => (.stage, i)
    | none => (.none, 0)

/-- The charge efficiency on a charge in nC (R84). -/
def effective (dq : Int) (s : State) : Int := if dq < 0 then divT (dq * cfg Ent.EST_COUL_EFF s) 10000 else dq

/-- A count of the shunt sensor with the string remainder: its charge before the efficiency in nC, and the new remainder (R84). -/
def countsCharge (sum : Int) (s : State) : Int × Int :=
  let num := sum * cfg Ent.EST_SHUNT_LSB s + s.est.strRem
  (divT num 32, num - divT num 32 * 32)

/-- E takes the source of the ended frame: 0x3001, EST_I_SOURCE and EST_I_FRAME (R83). -/
def takeSourceOf (a b : Nat) (s : State) : State :=
  let (src, i) := frameSource a b s
  let s := if unusableIn (frameWords b s) > 8 then raiseF 0x3001 wide s else s
  { s with est := { s.est with
      source := src, iFrame := i
      noneSince := if src == .none then some (s.est.noneSince.getD b) else none
      substAt := if src == .coulomb then s.est.substAt else opNow s } }

/-- Close the ended frame a..b: choose its source, its charge and its mean current (R83, R84). In the frame in which E wakes the
accumulator holds the charge; while E is off or fenced nothing is counted. -/
def closeFrame (a b : Nat) (s : State) : State :=
  if estRuns s then
    let sum := countsIn s.est.lastUse (frameWords b s)
    let upTo := countedUntil b s
    let s := takeSourceOf a b s
    let e := s.est
    let (dq, rem) := match e.source with
      | .coulomb => let x := countsCharge sum s; (effective x.1 s, x.2)
      | .stage => (effective (e.iFrame * 1000) s, e.strRem)
      | .none => (0, e.strRem)
    { s with
      est := { e with
        countedTo := upTo, dq := dq, strRem := rem, secFrames := e.secFrames + 1
        secI := if e.source == .none then e.secI else e.secI ++ [e.iFrame]
        secNone := e.secNone || e.source == .none
        secC := if e.source == .stage then e.secC else e.secC + dq
        secS := if e.source == .stage then e.secS + dq else e.secS }
      chctl := { s.chctl with iMax := max s.chctl.iMax e.iFrame.natAbs } }
  else if s.est.state == .hibernating && !isFenced .e s then if s.est.waking then takeSourceOf a b s else s
  else { s with est := { s.est with countedTo := b } }

/-- Position n as the last completed sweep left it: a sweep never enters the estimator in part (R19). -/
def doneAt (n : Nat) (s : State) : Cell := getAt s.cells.done n

/-- The charge balancing draws from position n in one frame, nC (R84). -/
def balCharge (n : Nat) (s : State) : Int :=
  let c := doneAt n s
  let d : Int := dutyInForce c.node c.input s
  if d = 0 || c.v = 65535 then 0
  else
    let p : Int := periodMs s * 1000
    let tq : Int := if s.chctl.nodeBalMode = 0 then quietUs (cornerOf c.node s) else 0
    divT (divT (c.v * 100000) (cfg Ent.STR_BAL_R s) * d * (p - tq)) (64 * p)

/-- Count a charge into context n (R84). CNT_REM is a U32, so a negative remainder wraps as R9 says (log 23). -/
def countInto (n : Nat) (q : Int) (s : State) : State :=
  let den : Int := capOf n s * 36
  let c := ctxAt n s
  let num := q * 10000 + c.rem
  let dx := divT num den
  let s := modCtx n (fun c => { c with
    socInt := wrapS 64 (c.socInt - dx), socRep := wrapS 64 (c.socRep - dx), rem := wrapU 32 (num - dx * den)
    qRest := wrapS 64 (c.qRest + q) }) s
  modFl n (fun f => { f with thruAcc := f.thruAcc + q.natAbs }) s

/-- Item 3 of R102: the charge count of the ended frame. -/
def countCharge (s : State) : State :=
  guardOn (s.est.source != .none) (fun s =>
    forAll (positions s) (fun n s => countInto n (s.est.dq + balCharge n s) s) s) s

/-! ### Current at the sweep instant (R85) -/

/-- I_s in mA and whether it is substituted; none when the window holds neither kind of value. -/
def currentAt (t corner : Nat) (s : State) : Option (Int × Bool) :=
  let a := t - 2 * groupDelayNs corner
  match (samplesIn a (t + 1) s).filter (·.usable) with
  | [] => (stageMean a (t + 1) s).map fun i => (i, true)
  | xs => some (divT (sumI (xs.map (·.x)) * cfg Ent.EST_SHUNT_LSB s) (xs.length * 1000), false)

/-- The current varied by at most C/100 over the settling time before t (R100). -/
def settled (t corner : Nat) (s : State) : Bool :=
  match ((samplesIn (t - settlingUs corner * 1000) (t + 1) s).filter (·.usable)).map (·.x) with
  | [] => false
  | x :: xs => (xs.foldl max x - xs.foldl min x) * cfg Ent.EST_SHUNT_LSB s * 100 ≤ ratedCap s * 1000

/-- The lookup rate in 0.001C (R85). -/
def rateOf (i : Int) (s : State) : Int := clampI (-1000) 500 (divT (i * 1000) (ratedCap s))

/-! ### Sweep work (R90, R93, R94, R100, R101, R103) -/

/-- EST_RDC_T in µΩ (R101). DEDUCED (log 24): rounded, as EST_RDC is. -/
def rdcAtTemp (n : Nat) (s : State) : Int :=
  match usableSet (ctxAt n s).tset s with
  | some t => divRound ((ctxAt n s).rdc * 4096) (rfactAt t (ctxAt n s).temp * 256)
  | none => 0

/-- A lookup's OUT_OF_TABLE flag, and 0x300C after 10 in a row. -/
def markOut (n : Nat) (out : Bool) (s : State) : State :=
  let s := modFl n (fun f => { f with outOfTable := out, outRun := if out then f.outRun + 1 else 0 }) s
  if (flAt n s).outRun ≥ 10 then raiseF 0x300C n s else s

/-- Both SOC values come from the inverse lookup, with SOC_UNC = 500 (R83, R103, R123). -/
def lookupSoc (n : Nat) (t : Tbl) (v : Nat) (i : Int) (s : State) : State :=
  let l := inverseLookup t v (ctxAt n s).temp (rateOf i s)
  let s := modCtx n (fun c => { c with socInt := l.tab, socRep := l.tab, unc := 500 }) (markOut n l.out s)
  modFl n (fun f => { f with valid := true, repPrev := l.tab, watchSoc := l.tab }) s

/-- A TABLE_ONLY context at a completed sweep: WATCH (R103), a lost source that has come back (R83) or a replaced module (R123). -/
def tableOnlySweep (n : Nat) (t : Tbl) (i : Int) (s : State) : State :=
  let c := doneAt n s
  let f := flAt n s
  if c.vq.valid && !c.vq.aged && !f.countOnly && !(f.lostVal && s.est.source == .none) then
    let low := decide (i.natAbs * 50 ≤ ratedCap s)
    let s := lookupSoc n t c.v i s
    if !s.est.restored then
      modFl n (fun g => { g with watched := true, watchLow := low && (f.watchLow || !f.watched) }) s
    else modFl n (fun g => { g with tableOnly := false, lostVal := false, replaced := false }) s
  else s

/-- A resistance sample (R101). -/
def resistanceSample (n : Nat) (t : Tbl) (i iPrev : Int) (s : State) : State :=
  let c := ctxAt n s
  let v := (doneAt n s).v
  let dv := ((v : Int) - c.vPrev) * 100000
  let dv := dv - (tableVoltage t c.socInt c.temp 0 - tableVoltage t (flAt n s).socPrev c.temp 0) * 100000
  let rs := wrapU 32 (divT (-dv * 256) (i - iPrev))
  let rs := wrapU 32 (divT (rs * rfactAt t c.temp) 4096)
  let accept (r : Int) (s : State) :=
    clearF 0x300D n (modFl n (fun f => { f with rRej := 0, seeded := f.seeded || c.rCount = 3 })
      (modCtx n (fun c => { c with rdc := wrapU 32 r, rCount := incSat16 c.rCount }) s))
  if c.rCount < 4 then accept (divT (c.rdc * c.rCount + rs : Nat) (c.rCount + 1)) s
  else if rs < c.rdc / 2 || rs > c.rdc * 3 / 2 then
    let s := modFl n (fun f => { f with rRej := f.rRej + 1 }) s
    if (flAt n s).rRej ≥ 10 then raiseF 0x300D n s else s
  else accept (c.rdc + divT ((rs : Int) - c.rdc) 16) s

/-- The kind of a correction (R93). -/
inductive CorrKind where
  | rest | pseudo | sweep
  deriving DecidableEq, Repr, Inhabited

/-- What an applied REST or PSEUDO point stores (R92, R93). -/
def storePoint (n : Nat) (k : CorrKind) (tab : Int) (s : State) : State :=
  let soc := (divRound tab 100000000).toNat
  match k with
  | .rest =>
    let s := capOffer n soc (ctxAt n s).temp s
    let s := modCtx n (fun c => { c with
      restSoc := soc, restTemp := c.temp, restTime := opNow s, qRest := 0, anchorAt := opNow s }) s
    modFl n (fun f => { f with hasPointA := true, aSoc := soc }) s
  | .pseudo => modCtx n (fun c => { c with restSoc := soc }) s
  | .sweep => s

/-- One correction (R93, R94): kind, voltage looked up, rate, weight. DESIGN CHOICE (log 130): a gated attempt counts as the last
correction of LAST_SWEEP and as the last point taken of REST_STATE too. -/
def correct (n : Nat) (k : CorrKind) (t : Tbl) (vLook : Nat) (rate w : Int) (s : State) : State :=
  let c := ctxAt n s
  let l := inverseLookup t vLook c.temp rate
  let s := markOut n l.out s
  let ks := min 65535 (divT (l.slope * 65536) (cfg Ent.EST_SLOPE_REF s))
  let err := l.tab - c.socInt
  let gated := decide ((err.natAbs : Int) > cfg Ent.EST_GATE s * 100000000) && !(k == .rest && c.gateRej ≥ 10)
  let s := modCtx n (fun c => { c with
    restState := match k with | .rest => .rest | .pseudo => .pseudo | .sweep => c.restState
    lastSweep := s.cells.doneCtr % 4294967296 }) s
  let s :=
    if gated then
      let s := modFl n (fun f => { f with gated := true }) (modCtx n (fun c => { c with gateRej := wrapU 16 (c.gateRej + 1) }) s)
      if (ctxAt n s).gateRej ≥ 10 then raiseF 0x3008 n s else s
    else
      let g := divT (w * ks) 65536
      let s := modCtx n (fun c => { c with
        socInt := wrapS 64 (c.socInt + divT (err * g) 65536)
        unc := wrapU 16 (divT (c.unc * (65536 - g) + cfg Ent.EST_TAB_UNC s * g) 65536)
        gateRej := 0 }) s
      storePoint n k l.tab (clearF 0x3008 n (modFl n (fun f => { f with gated := false }) s))
  let v : Int := (doneAt n s).v
  modCtx n (fun c => { c with resid := wrapS 16 (v - tableVoltage t c.socInt c.temp rate) }) s

/-- The kind of point position n takes at this sweep, if any, and its correction (R92, R93). -/
def correctPos (n : Nat) (rest pseudo : Bool) (t : Tbl) (i : Int) (s : State) : State :=
  let c := doneAt n s
  let f := flAt n s
  let okRest := c.vq.valid && !c.vq.aged && !c.vq.compensated
  let okSweep := c.vq.valid && !c.vq.aged
  let near (a b : Int) : Bool := (a - b).natAbs * 50 ≤ ratedCap s
  if rest && okRest then correct n .rest t c.v (rateOf i s) (cfg Ent.EST_W_REST s) s
  else if pseudo && okRest && (ctxAt n s).rCount ≥ 4 then
    correct n .pseudo t (satU 16 (c.v + divT (i * rdcAtTemp n s) 100000)) 0 (divT (cfg Ent.EST_W_REST s) 4) s
  else
    match f.iPrev1, f.iPrev2 with
    | some a, some b =>
      if okSweep && near i a && near i b && near a b then correct n .sweep t c.v (rateOf i s) (cfg Ent.EST_W_SWEEP s) s else s
    | _, _ => s

/-- Whether a due point is taken at a sweep with this instant (R92). -/
def pointDue (due : Option Nat) (instant : Nat) : Bool := match due with | some d => decide (instant > d) | none => false

/-- The values of the last completed sweep suit resistance estimation (R76, R100). -/
def suitsR (n : Nat) (cur : Option (Int × Bool)) (s : State) : Bool :=
  let c := doneAt n s
  c.vq.valid && !c.vq.aged && !c.vq.compensated && !c.recInst && c.tq.valid && !c.tq.aged &&
  (match cur with | some (_, sub) => !sub | none => false) && settled c.instant (cornerOf c.node s) s

/-- A resistance sample is due between the last two sweeps (R100): both values suit, and I_s moved by C/20 or more. -/
def sampleDue (n : Nat) (okR : Bool) (i : Int) (s : State) : Option Int :=
  match (flAt n s).iPrev1 with
  | some p => if okR && (flAt n s).rPrevOk && (i - p).natAbs * 20 ≥ ratedCap s then some p else none
  | none => none

/-- The work of a completed sweep on one position that has a table and an I_s: the resistance sample first, then the lookup of a
TABLE_ONLY context, or a correction of any other that is not COUNT_ONLY (R93, R102 item 4). -/
def sweepLookups (n : Nat) (rest pseudo okR : Bool) (t : Tbl) (i : Int) (s : State) : State :=
  let s := match sampleDue n okR i s with
    | some p => resistanceSample n t i p s
    | none => s
  let f := flAt n s
  if f.tableOnly || f.replaced then tableOnlySweep n t i s
  else if f.countOnly then s else correctPos n rest pseudo t i s

/-- Item 4 of R102 for one position. -/
def sweepPos (rest pseudo : Bool) (n : Nat) (s : State) : State :=
  let c := doneAt n s
  let f := flAt n s
  let cur := currentAt c.instant (cornerOf c.node s) s
  let okR := suitsR n cur s
  let s := match usableSet (ctxAt n s).tset s, cur with
    | some t, some (i, _) => sweepLookups n rest pseudo okR t i s
    | _, _ => s
  let s := modFl n (fun g => { g with
    rPrevOk := okR, iPrev2 := f.iPrev1, iPrev1 := cur.map (·.1), socPrev := (ctxAt n s).socInt }) s
  modCtx n (fun x => { x with vPrev := c.v }) s

/-- The temperature and table a context uses (R88, R90). -/
def refreshPos (n : Nat) (s : State) : State :=
  let c := doneAt n s
  let k := tsetOf n s
  let usable := (usableSet k s).isSome
  let s := if setStored k s then s else raiseF 0x3006 n s
  let s := modFl n (fun f =>
    let last := if c.tq.valid then c.t else f.tempLast
    let old := f.tempOld && !c.tq.valid
    { f with tempLast := last, tempOld := old, countOnly := !usable || old || last = -32768 }) s
  modCtx n (fun x => { x with tset := k, temp := (flAt n s).tempLast }) s

/-- Item 4 of R102: the sweep completed in the previous frame. -/
def sweepWork (s : State) : State :=
  guardOn s.cells.sweepNew (fun s =>
    let rest := pointDue s.est.restDue s.chain.lastInstant
    let pseudo := pointDue s.est.pseudoDue s.chain.lastInstant
    let s := forAll (positions s) (sweepPos rest pseudo) s
    { s with
      cells := { s.cells with sweepNew := false }
      est := { s.est with restDue := if rest then none else s.est.restDue
                          pseudoDue := if pseudo then none else s.est.pseudoDue } }) s

/-- The instant of the last VALID temperature of position n; the mapping of the position where it has had none. -/
def lastTempAt (n : Nat) (s : State) : Nat := (doneAt n s).lastValidT.getD s.prot.mappedAt

/-- TEMP_HOLD_EXPIRY (R90): 60 s without a VALID temperature. -/
def tempHoldExpiry (n : Nat) (s : State) : State :=
  guardOn (!(doneAt n s).tq.valid && !isFenced .e s && decide (lastTempAt n s + 60000000000 ≤ s.now)) (fun s =>
    modFl n (fun f => { f with tempOld := true, countOnly := true }) s) s

/-- TEMP_HOLD_EXPIRY (R90). -/
def execTempHoldExpiry (pos : Fin 256) (s : State) : Host.Outcome State Fault Refusal := whenLiveK (tempHoldExpiry pos.val) s

/-! ### Rest and uncertainty (R91, R92, R95, R96) -/

/-- The state of rest (R91). -/
def restStateOf (s : State) : RestState :=
  if s.est.restT ≥ cfgN Ent.EST_REST_TIME s * 60 then .rest
  else if s.est.pseudoT ≥ cfgN Ent.EST_PSEUDO_TIME s * 60 then .pseudo else .loaded

/-- Advance the rest timers by a second whose mean is m (R91), and note a point that falls due (R92). -/
def restTimers (m m60 : Option Int) (s : State) : State :=
  let cap := ratedCap s
  let restT := match m with
    | some m => if m.natAbs * 50 ≤ cap then s.est.restT + 1 else 0
    | none => 0
  let pseudoT := match m, m60 with
    | some m, some o => if m.natAbs * 5 ≤ cap && (m - o).natAbs * 100 ≤ cap then s.est.pseudoT + 1 else 0
    | _, _ => 0
  let tr := cfgN Ent.EST_REST_TIME s * 60
  let tp := cfgN Ent.EST_PSEUDO_TIME s * 60
  { s with est := { s.est with
      restT := restT, pseudoT := pseudoT
      restDue := if restT ≥ tr && restT % tr == 0 then some s.now else s.est.restDue
      pseudoDue := if pseudoT ≥ tp && pseudoT % tp == 0 && restT < tr then some s.now else s.est.pseudoDue } }

/-- The mean current m stays below the wake current, and the string PARKED (R106). -/
def quiet (m : Option Int) (s : State) : Bool :=
  parked s && (match m with | some m => decide ((m.natAbs : Int) < wakeCurrent s) | none => false)

/-- Once per second, of 1,000 frames: the mean m, the timers (R91), and the time for which the string has been quiet (R106). -/
def restSecond (s : State) : State :=
  guardOn (estRuns s && decide (1000 ≤ s.est.secFrames)) (fun s =>
    let e := s.est
    let m := if e.secNone || e.secI.isEmpty then none else some (divT (sumI e.secI) e.secI.length)
    let m60 := (e.mHist.getD 59 none)
    restTimers m m60 { s with est := { e with
      secI := [], secNone := false, secFrames := 0, m := m, mHist := (m :: e.mHist).take 60
      quietT := if quiet m s then e.quietT + 1 else 0 } }) s

/-- REST_SECOND (R91). -/
def execRestSecond (s : State) : Host.Outcome State Fault Refusal := whenLiveK restSecond s

/-- UNANCHORED growth of context n over some seconds (R95): fractions of a step stay with the context. -/
def growUnanch (secs n : Nat) (s : State) : State :=
  let acc := (flAt n s).unanchAcc + cfgN Ent.EST_UNANCH_RATE s * secs
  modCtx n (fun c => { c with unc := min 10000 (c.unc + acc / 3600) }) (modFl n (fun f => { f with unanchAcc := acc % 3600 }) s)

/-- What counting adds to SOC_UNC of context n as the string accumulator goes from `a` to `b` (R95). -/
def growCount (a b n : Nat) (s : State) : State :=
  let den := capOf n s * 360000000000
  modCtx n (fun c => { c with unc := min 10000 (c.unc + (divN b den - divN a den)) }) s

/-- The error of the charge counted since the last second enters the string accumulator, and every context grows by the steps it
passes. DEDUCED (log 82): one accumulator serves contexts of unlike CAP, so it holds the product of error and charge. -/
def growCounting (s : State) : State :=
  let a := s.est.uncAcc
  let b := a + cfgN Ent.EST_CNT_ERR s * s.est.secC.natAbs + cfgN Ent.EST_STAGE_CNT_ERR s * s.est.secS.natAbs
  forAll (positions s) (growCount a b) { s with est := { s.est with uncAcc := b, secC := 0, secS := 0 } }

/-- Item 5 of R102: once per 1,000 frames. -/
def growthStep (s : State) : State :=
  if s.sys.frames % 1000 = 0 then
    forAll (positions s) (fun n s => if unanchored n s then growUnanch 1 n s else s) (growCounting s)
  else s

/-! ### Reported SOC (R98) -/

/-- R98 for one context. -/
def reportPos (n : Nat) (s : State) : State :=
  let c := ctxAt n s
  let prev := (flAt n s).repPrev
  let step := divT (cfg Ent.EST_SOC_SLEW s * 100000000) 60000
  let rep := c.socRep + clampI (-step) step (c.socInt - c.socRep)
  let lim := divT (ratedCap s) 100
  let rep :=
    if cfgN Ent.EST_SOC_MODE s = 1 then
      if s.est.iFrame > lim then min rep prev else if s.est.iFrame < -lim then max rep prev else rep
    else rep
  let rep := clampI 0 socFull rep
  modFl n (fun f => { f with repPrev := rep }) (modCtx n (fun c => { c with socRep := rep }) s)

/-! ### Hibernation (R106, R107) -/

/-- Self-discharge of context n over `secs` seconds, 10^-12 of full charge (R107). -/
def selfDischarge (n secs : Nat) (s : State) : Int :=
  let t := (ctxAt n s).temp
  let k := if t > 250 then ((t - 250) / 100).toNat else 0
  divT (cfg Ent.EST_SELF_DIS s * 1000000 * secs * 2 ^ k) 86400

/-- Take a self-discharge off context n. -/
def applySelfDischarge (secs n : Nat) (s : State) : State :=
  let dx := selfDischarge n secs s
  modCtx n (fun c => { c with socInt := c.socInt - dx, socRep := c.socRep - dx }) s

/-- Seconds of the last `secs` for which context n was UNANCHORED (R96). -/
def unanchoredFor (secs n : Nat) (s : State) : Nat := min secs (anchorAge n s - cfgN Ent.EST_ANCHOR_TIME s * 3600)

/-- What a hibernation of `secs` seconds and a charge do to one context (R95, R107). -/
def wakePos (eff : Int) (secs n : Nat) (s : State) : State :=
  growUnanch (unanchoredFor secs n s) n (applySelfDischarge secs n (countInto n eff s))

/-- The charge of a hibernation is applied as one count, with its self-discharge; rest time passed meanwhile counts (R107). -/
def applyHibernation (s : State) : State :=
  let (dq, rem) := countsCharge s.est.hibAcc s
  let eff := effective dq s
  let ns := s.now - s.est.hibSince
  let secs := ns / 1000000000
  let low := decide ((dq.natAbs : Int) * 50 * 1000000 ≤ ratedCap s * 1000 * (ns : Int))
  let tr := cfgN Ent.EST_REST_TIME s * 60
  let restT := if low then s.est.restT + secs else 0
  let due := low && tr ≠ 0 && decide (restT / tr > s.est.restT / tr)
  let s := forAll (positions s) (wakePos eff secs) s
  growCounting { s with est := { s.est with
      secC := s.est.secC + eff
      hibAcc := 0, strRem := rem, hibSince := s.est.hibSince + secs * 1000000000, restT := restT
      restDue := if due then some (s.now - (restT % tr) * 1000000000) else s.est.restDue } }

/-! ### Checkpoints and restore (R104, R105) -/

/-- Write all contexts to the older copy (R104). -/
def writeCheckpoint (s : State) : State :=
  guardOn (s.est.restored && !isFenced .e s) (fun s =>
    let e := s.est
    let cp : Checkpoint :=
      { seq := max e.cpA.seq e.cpB.seq + 1, time := s.now, op := opNow s, valid := true, ctx := e.ctx.toList, fl := e.fl.toList }
    if e.cpA.seq ≤ e.cpB.seq then { s with est := { e with cpA := cp } } else { s with est := { e with cpB := cp } }) s

/-- CHECKPOINT_WRITE (R104): EST_CKPT_INT has passed since the last one. -/
def execCheckpointWrite (s : State) : Host.Outcome State Fault Refusal :=
  whenLiveK (fun s => guardOn (estRuns s && s.est.restored && due s.est.cpAt (cfgN Ent.EST_CKPT_INT s * 1000000000) s) (fun s =>
    writeCheckpoint { s with est := { s.est with cpAt := some s.now } }) s) s

/-- The newest copy that passes its check (R105). -/
def bestCheckpoint (aOk bOk : Bool) (e : EstRegs) : Option Checkpoint :=
  let a := aOk && e.cpA.valid
  let b := bOk && e.cpB.valid
  if a && b then some (if e.cpA.seq ≥ e.cpB.seq then e.cpA else e.cpB)
  else if a then some e.cpA else if b then some e.cpB else none

/-- The context of a copy as it stands `secs` seconds of plant time after the write, which its ANCHOR_AGE counts whole; the present
voltage stays, and so does a present temperature (R105). -/
def agedCtx (cp : Checkpoint) (secs n : Nat) (s : State) : Ctx :=
  let c := cp.ctx.getD n {}
  let w := ctxAt n s
  { c with anchorAt := (opNow s : Int) - ((cp.op : Int) - c.anchorAt) - secs, vPrev := w.vPrev
           temp := if w.temp = -32768 then c.temp else w.temp }

/-- Both SOC values of context n are those of the WATCH table (R105). -/
def takeWatch (n : Nat) (s : State) : State :=
  let x := (flAt n s).watchSoc
  modFl n (fun f => { f with valid := true }) (modCtx n (fun c => { c with socInt := x, socRep := x, unc := 500 }) s)

/-- One context is restored from a copy and reconciled (R105). -/
def restorePos (cp : Checkpoint) (secs n : Nat) (s : State) : State :=
  let w := flAt n s
  let c := agedCtx cp secs n s
  let f := cp.fl.getD n {}
  let now := (ctxAt n s).socInt
  let s := modCtx n (fun _ => c) s
  let s := modFl n (fun _ => { f with
    watched := w.watched, watchSoc := w.watchSoc, watchLow := w.watchLow, tempLast := w.tempLast, tempOld := w.tempOld
    rPrevOk := w.rPrevOk, iPrev1 := w.iPrev1, iPrev2 := w.iPrev2, thruAcc := w.thruAcc, tableOnly := false, hibernated := false }) s
  let s := applySelfDischarge secs n s
  let far := w.watched && w.watchLow && decide ((((ctxAt n s).socInt - w.watchSoc).natAbs : Int) > cfg Ent.EST_GATE s * 100000000)
  let s := if far then raiseF 0x300A n (takeWatch n s) else s
  let s := if !(flAt n s).valid && w.watched then
      modCtx n (fun c => { c with socInt := now, socRep := now }) (takeWatch n s)
    else s
  let s := if (flAt n s).valid then s else modFl n (fun f => { f with tableOnly := true, lostVal := true }) s
  modFl n (fun f => { f with repPrev := (ctxAt n s).socRep, socPrev := (ctxAt n s).socInt }) s

/-- One context starts from the table: no valid copy (R105). -/
def restoreNone (n : Nat) (s : State) : State :=
  let s := modCtx n (fun c => { c with
    cap := ratedCap s, rCount := 0, unc := 500, anchorAt := (opNow s : Int) - cfgN Ent.EST_ANCHOR_TIME s * 3600 }) s
  modFl n (fun f => { f with tableOnly := !f.valid, lostVal := !f.valid, repPrev := (ctxAt n s).socRep }) s

/-- The restore may run: tier LIMITED, and locked or 18 s after power-good (R105). -/
def restoreDue (s : State) : Bool :=
  tierAtLeast .limited s && (s.locked || s.now ≥ s.sys.t0 + 18000000000) && !s.est.restored && !isFenced .e s

/-- The contexts are restored (R105), then the records are loaded and identities compared (R110, R122). -/
def contextRestore (aOk bOk : Bool) (s : State) : State :=
  guardOn (restoreDue s) (fun s =>
    let fromPartner := s.pair.paired && s.pair.role != .active && s.pair.partner == some .active
    let s :=
      if fromPartner then forAll (List.range 256) (fun n s => modFl n (fun f => { f with tableOnly := false }) s) s
      else match bestCheckpoint aOk bOk s.est with
        | some cp =>
          let secs := if s.locked then (s.now - cp.time) / 1000000000 else 86400
          forAll (List.range 256) (restorePos cp secs) s
        | none => forAll (List.range 256) restoreNone (raiseF 0x300B wide s)
    let s := { s with
      est := { s.est with restored := true, cpAt := some s.now, state := if ratedCap s = 0 then .off else .running }
      ident := { s.ident with hourAt := some s.now } }
    publishEst (compareAll (if fromPartner then { s with ident := { s.ident with loaded := true } } else loadLearned s))) s

/-- CONTEXT_RESTORE (R105). -/
def execContextRestore (aOk bOk : Bool) (s : State) : Host.Outcome State Fault Refusal := whenLiveK (contextRestore aOk bOk) s

/-- The estimator starts TABLE_ONLY (R103); one that is switched on after the restore has nothing to restore. -/
def startEst (s : State) : State :=
  guardOn (ratedCap s != 0 && s.est.state == .off) (fun s =>
    let start (f : CtxFlags) : CtxFlags := { f with tableOnly := !(s.est.restored && f.valid), lostVal := s.est.restored && !f.valid }
    let s := forAll (List.range 256) (modFl · start) s
    { s with est := { s.est with
        state := if s.est.restored then .running else .tableOnly, restarted := opNow s, noneSince := some s.now } }) s

/-- EST_RATED_CAP has changed: 0 stands for an estimator that is off (R108). -/
def ratedChange (s : State) : State := if tierAtLeast .watch s then startEst s else s

/-- E hibernates once the string has been quiet for EST_HIB_DELAY; the accumulator takes over the words of the running frame, so that
no charge goes uncounted (R106). -/
def eHibernate (s : State) : State :=
  guardOn (estRuns s && s.est.restored && quiet s.est.m s && decide (cfgN Ent.EST_HIB_DELAY s * 60 ≤ s.est.quietT)) (fun s =>
    let s := forAll (List.range 256) (fun n s => modFl n (fun f => { f with hibernated := true }) s) s
    let s := startBatch (writeCheckpoint s)
    let acc := sumI ((s.est.samples.filter fun c => s.est.countedTo ≤ c.t).map (·.x))
    { s with est := { s.est with state := .hibernating, hibSince := s.now, hibAcc := acc, waking := false } }) s

/-- E_HIBERNATE (R106). -/
def execEHibernate (s : State) : Host.Outcome State Fault Refusal := whenLiveK eHibernate s

/-- E wakes; the next frame's step 3 brings the contexts up to date (R107, Table 4-4). Module hibernation ends (R351). -/
def wakeE (s : State) : State :=
  let s := { s with sys := { s.sys with hibernating := false } }
  if s.est.state == .hibernating && !isFenced .e s then { s with est := { s.est with waking := true } } else s

/-- E_WAKE (R107): a wake by current needs four consecutive samples beyond the wake current. -/
def execEWake (cause : WakeCause) (s : State) : Host.Outcome State Fault Refusal :=
  whenLiveK (fun s => if cause == .current && s.est.wakeRun < 4 then s else wakeE s) s

/-- The P timer wakes E after 15 min: it applies the charge, takes a due rest point, checkpoints and hibernates again (R107). -/
def eTimerWake (s : State) : State :=
  guardOn (s.est.state == .hibernating && !isFenced .e s && !s.est.waking &&
      decide (s.est.hibSince + 900000000000 ≤ s.now)) (fun s =>
    writeCheckpoint (publishEst (sweepWork (forAll (positions s) refreshPos (applyHibernation s))))) s

/-- E_TIMER_WAKE (R107). -/
def execETimerWake (s : State) : Host.Outcome State Fault Refusal := whenLiveK eTimerWake s

/-! ### Step 3 of the frame (R102) -/

/-- E is on the step that ends its hibernation (Table 4-4 step 4). -/
def wakes (s : State) : Bool := s.est.waking && s.est.state == .hibernating && !isFenced .e s

/-- A waking E becomes RUNNING (Table 4-4 step 5); the means of R91 begin anew. -/
def finishWake (s : State) : State :=
  let s := forAll (List.range 256) (fun n s => modFl n (fun f => { f with hibernated := false }) s) s
  { s with est := { s.est with
      state := .running, waking := false, dq := 0
      countedTo := match s.est.samples with | [] => s.est.countedTo | c :: _ => max s.est.countedTo (c.t + 1)
      secI := [], secNone := false, secFrames := 0, m := none, mHist := [], quietT := 0 } }

/-- Items 1 to 7 of R102 in order; `woken` tells that the charge of a hibernation stands in for the ended frame's. -/
def estItems (woken : Bool) (s : State) : State :=
  let s := retryWrites (enterIdentity s)
  let s := forAll (positions s) learnRBol s
  let s := pagerSwap s
  let s := forAll (positions s) refreshPos s
  let s := if woken then applyHibernation s else countCharge s
  let s := sweepWork s
  let s := growthStep s
  let s := forAll (positions s) reportPos s
  publishEst s

/-- Step 3 of the frame (R102). -/
def estStep (s : State) : State :=
  let woken := wakes s
  let s := if woken then finishWake s else s
  guardOn (estRuns s) (estItems woken) s

/-! ### What readers see -/

/-- EST_STATE (Table 4-5, R109). -/
def estStateOf (s : State) : EstState :=
  if isFenced .e s then .fenced else if ratedCap s = 0 then .off else s.est.state

/-- EST_STR_SOC as it is read: no value while a mapped position is not VALID or E is fenced (R99, R109). -/
def strSocNow (s : State) : Nat := if allSoc s then s.est.strSoc else 65535

/-- EST_TEMP (R90); a position that is not mapped has no value (R79). -/
def tempOf (n : Nat) (s : State) : Int := if (positions s).contains n then (ctxAt n s).temp else -32768

/-- EST_QUAL (Table 4-2); a context whose position is not mapped is idle (R79). -/
def qualOf (n : Nat) (s : State) : Nat :=
  let f := flAt n s
  if !(positions s).contains n then 0
  else bitMap 10 fun i => match i with
    | 0 => f.valid
    | 1 => f.stale
    | 2 => unanchored n s
    | 3 => f.countOnly
    | 4 => decide ((ctxAt n s).rCount ≥ 4)
    | 5 => f.tableOnly || f.replaced
    | 6 => f.gated
    | 7 => f.outOfTable
    | 8 => f.hibernated
    | _ => s.est.source == .stage

/-- The code of REST_STATE. -/
def RestState.code : RestState → Nat
  | .loaded => 0 | .pseudo => 1 | .rest => 2

/-- Bytes 0-123 of a context (Table 4-1). -/
def ctxBytes124 (n : Nat) (s : State) : List Byte :=
  let c := ctxAt n s
  toBytesS 8 c.socInt ++ toBytesS 8 c.socRep ++ toBytesS 4 c.rem ++ toBytes 4 c.cap ++ toBytes 4 (opNow s - c.capTime) ++
  toBytes 4 c.rdc ++ toBytes 2 c.sohC ++ toBytes 2 c.sohR ++ toBytesS 2 (tempOf n s) ++ toBytes 2 c.unc ++ toBytes 1 c.tset ++
  toBytes 1 c.restState.code ++ toBytes 2 (qualOf n s) ++ toBytes 4 (anchorAge n s) ++ toBytesS 8 c.qRest ++
  toBytes 2 c.restSoc ++ toBytesS 2 c.restTemp ++ toBytes 4 c.restTime ++ toBytes 2 c.vPrev ++ toBytesS 2 c.resid ++
  toBytes 2 c.rCount ++ toBytes 2 c.gateRej ++ toBytes 4 c.lastSweep ++ List.replicate 48 0

/-- The 128 bytes of a context, with its CRC (R80). -/
def ctxBytes (n : Nat) (s : State) : List Byte := ctxBytes124 n s ++ toBytes 4 (crc32c (ctxBytes124 n s))

/-- EST_FLAGS (Table 4-5, R96, R97). -/
def estFlagsOf (s : State) : Nat :=
  b2n ((positions s).any fun n => unanchored n s) +
  2 * b2n ((positions s).any fun n => decide (anchorAge n s * 4 > cfgN Ent.EST_ANCHOR_TIME s * 3600 * 3)) +
  4 * b2n (s.est.state == .hibernating)

end Sys2Proof.Machine
end

