-- ==== Sys2Proof/Machine/Units.lean ====
section
/-! DEFINITION. The compensator units (06_stage_link_and_control_engine R147 to R154) and the power stage's direction of phases:
angles and the enabled set (07_setpoints_modes_droop R185, R186). -/
namespace Sys2Proof.Machine
open Sys2Proof

/-- Unit u. -/
def cuAt (u : Nat) (s : State) : Cu := getAt s.link.cu u

/-- Change unit u. -/
def modCu (u : Nat) (f : Cu → Cu) (s : State) : State := { s with link := { s.link with cu := modAt s.link.cu u f } }

/-- Arithmetic shift right. -/
def asr (x : Int) (k : Nat) : Int := x / (2 ^ k : Int)

/-- The sum p of R147 before it is wrapped, from the clamped error. -/
def cuSum (u : Cu) (e0 : Int) : Int :=
  let b (i : Nat) : Int := u.b.getD i 0
  let a (i : Nat) : Int := u.a.getD i 0
  let p := b 0 * e0 + b 1 * u.e1 + b 2 * u.e2 + a 0 * u.u1 + a 1 * u.u2
  let p := if u.typ = 1 then p + b 3 * u.e3 + a 2 * u.u3 else p
  asr (wrapS 96 p) 30

/-- The clamped error e0 of R147. -/
def cuError (u : Cu) (err : Int) : Int := clampI (-(u.emax : Int)) u.emax err

/-- The histories shift with a new error and a new state (R147). -/
def cuShift (u : Cu) (e0 u0 : Int) : Cu := { u with e3 := u.e2, e2 := u.e1, e1 := e0, u3 := u.u2, u2 := u.u1, u1 := u0 }

/-- One computation of R147: the unit after it, and whether it wrapped. -/
def cuRun (u : Cu) (err omin omax : Int) : Cu × Bool :=
  let e0 := cuError u err
  let p := cuSum u e0
  let u0 := wrapS 48 p
  let raw := asr u0 u.shift
  let out := clampI omin omax raw
  let wrap := decide (p < -(2 ^ 47) ∨ p ≥ 2 ^ 47)
  (cuShift { u with out := out, sat := if out = raw then 0 else u.sat + 1, wraps := if wrap then incSat32 u.wraps else u.wraps }
    e0 u0, wrap)

/-- One computation in TRACK, forced to the output word f (R148). -/
def cuTrack (u : Cu) (err f : Int) : Cu := cuShift { u with out := f, sat := 0 } (cuError u err) (wrapS 48 (f * 2 ^ u.shift))

/-- Preload a unit to the output word d (R148). -/
def cuPreload (u : Cu) (d : Int) : Cu :=
  let x := wrapS 48 (d * 2 ^ u.shift)
  { u with u1 := x, u2 := x, u3 := x, e1 := 0, e2 := 0, e3 := 0, sat := 0, out := d }

/-- Unit v takes the parameters that the configuration holds for unit u. -/
def latchFrom (u v : Nat) (s : State) : State :=
  modCu v (fun c => { c with
    typ := cfgN Ent.CU_TYPE s u
    b := [cfg Ent.CU_B0 s u, cfg Ent.CU_B1 s u, cfg Ent.CU_B2 s u, cfg Ent.CU_B3 s u]
    a := [cfg Ent.CU_A1 s u, cfg Ent.CU_A2 s u, cfg Ent.CU_A3 s u]
    shift := cfgN Ent.CU_SHIFT s u, emax := cfgN Ent.CU_EMAX s u, satMax := cfgN Ent.CU_SAT_MAX s u }) s

/-- The parameters of unit u as the configuration holds them (R154). -/
def latchCu (u : Nat) (s : State) : State := latchFrom u u s

/-- A unit has a role. -/
def mapped (u : Nat) (s : State) : Bool := u == s.link.vloop || u == s.link.dis || u == s.link.chg

/-- Units and their map take effect at a PWM boundary (R154); units without a role are SPARE (R152). -/
def latchUnits (s : State) : State :=
  let m := cfgN Ent.CVT_CU_MAP s
  let s := { s with link := { s.link with vloop := m % 16, dis := m / 16 % 16, chg := m / 256 % 16 } }
  forAll (List.range 8) (fun u s =>
    let s := latchCu u s
    let role := mapped u s
    let next (c : CuState) : CuState :=
      if c == .fenced then .fenced else if !role then .spare else if c == .spare then .off else c
    modCu u (fun c => { c with state := next c.state }) s) s

/-- Put the state of a unit that is not fenced. -/
def setCuState (u : Nat) (st : CuState) (s : State) : State :=
  modCu u (fun c => { c with state := if c.state == .fenced then .fenced else st }) s

/-- The unit of a current loop. -/
def loopOf (d : Dir) (s : State) : Nat := match d with | .dis => s.link.dis | .chg => s.link.chg

/-- The other direction. -/
def opposite : Dir → Dir
  | .dis => .chg
  | .chg => .dis

/-- Which units run: the loop of the direction, and VLOOP in BUS_VOLTAGE; the other mapped units track (R152, R166). -/
def setRunUnits (m : Mode) (d : Dir) (vloopRuns : Bool) (s : State) : State :=
  let s := setCuState s.link.vloop (if m == .busVoltage && vloopRuns then .run else .track) s
  setCuState (loopOf d s) .run (setCuState (loopOf (opposite d) s) .track s)

/-- No mapped unit computes. -/
def unitsOff (s : State) : State :=
  forAll [s.link.vloop, s.link.dis, s.link.chg] (fun u s => setCuState u .off s) s

/-- RUN is refused: no spare unit, or a unit with a role is fenced (R153, R166). -/
def unitsRefuse (s : State) : Bool :=
  s.link.noSpare || [s.link.vloop, s.link.dis, s.link.chg].any fun u => (cuAt u s).state == .fenced

/-- The lowest-numbered SPARE unit (R153). -/
def spareUnit (s : State) : Option Nat :=
  (List.range 8).find? fun u => (cuAt u s).state == .spare && !mapped u s

/-- Copy the settings of unit u to unit v in the configuration. -/
def copyUnitCfg (u v : Nat) (s : State) : State :=
  forAll [Ent.CU_TYPE, Ent.CU_B0, Ent.CU_B1, Ent.CU_B2, Ent.CU_B3, Ent.CU_A1, Ent.CU_A2, Ent.CU_A3, Ent.CU_SHIFT, Ent.CU_EMAX,
    Ent.CU_SAT_MAX] (fun e s => setCfgI e v (cfg e s u) s) s

/-- CVT_CU_MAP from the three roles. -/
def cuMapOf (v d c : Nat) : Int := v + 16 * d + 256 * c

/-- The settings and the role of a fenced unit stand under the number of its spare in the configuration (R153). -/
def takeSettings (s : State) : State :=
  let moved := s.link.moved
  if moved.isEmpty then s
  else
    let s := forAll moved (fun x s => copyUnitCfg x.1 x.2 s) s
    let s := setCfgI Ent.CVT_CU_MAP 0 (cuMapOf s.link.vloop s.link.dis s.link.chg) s
    { s with link := { s.link with moved := [] } }

/-- A spare unit takes over the settings and the role of a fenced one (R153). -/
def spareTakeover (u : Nat) (s : State) : State :=
  guardOn (mapped u s && cfgB Ent.CVT_CU_SPARE_AUTO s) (fun s =>
    match spareUnit s with
    | none => raiseF 0x4104 wide { s with link := { s.link with noSpare := true } }
    | some v =>
      let sub (x : Nat) : Nat := if x = u then v else x
      let l := s.link
      let s := { s with link := { l with
        vloop := sub l.vloop, dis := sub l.dis, chg := sub l.chg, moved := l.moved ++ [(u, v)] } }
      setCuState v .track (latchFrom ((s.link.moved.find? (·.2 == u)).elim u (·.1)) v s)) s

/-! ### Phases (R185, R186) -/

/-- Number of phases in a set. -/
def phaseCount (en : Nat) : Nat := ((List.range 12).filter (bitOf en)).length

/-- The angles of R186 for a set of enabled phases. -/
def anglesFor (en : Nat) : List Nat :=
  let n := phaseCount en
  (List.range 12).map fun j =>
    if bitOf en j then
      let k := ((List.range j).filter (bitOf en)).length
      divN (2 * k * 65536 + n) (2 * n) % 65536
    else 0

/-- All phases fitted and not faulted. -/
def healthyPhases (s : State) : Nat :=
  bitMap 12 fun j => j < cfgN Ent.CVT_PHASES s && !bitOf s.link.faulted j

/-- Enable a set of phases with its angles at once. -/
def enableAt (en : Nat) (s : State) : State :=
  { s with sp := { s.sp with en := en, ang := anglesFor en, fromAng := anglesFor en, toAng := anglesFor en, redist := 0
                             moving := false, wantShed := none, wantAdd := none, lowSince := none } }

/-- A shed or an add takes effect: the phases then move in 16 steps; an added phase starts at its final angle (R185). -/
def redistribute (en : Nat) (s : State) : State :=
  let goal := anglesFor en
  let start := (List.range 12).map fun j => if bitOf s.sp.en j && bitOf en j then s.sp.ang.getD j 0 else goal.getD j 0
  { s with sp := { s.sp with en := en, ang := start, fromAng := start, toAng := goal, redist := 16, moving := true
                             wantShed := none, wantAdd := none, lowSince := none } }

/-- The redistribution is over once its 16 steps are made (R185). -/
def redistEnd (s : State) : State := if s.sp.redist = 0 then { s with sp := { s.sp with moving := false } } else s

/-- One of the 16 steps (R185). -/
def redistStep (s : State) : State :=
  let p := s.sp
  if p.redist = 0 then redistEnd s
  else
    let i := 17 - p.redist
    let ang := (List.range 12).map fun j =>
      ((p.fromAng.getD j 0 : Int) + divT (((p.toAng.getD j 0 : Int) - p.fromAng.getD j 0) * i) 16).toNat
    { s with sp := { p with ang := ang, redist := p.redist - 1 } }

/-- REDISTRIBUTION_END (R185): after the 16 steps the angles stand at their new positions. -/
def execRedistributionEnd (s : State) : Host.Outcome State Fault Refusal := whenLiveK redistEnd s

end Sys2Proof.Machine
end

