-- ==== Sys2Proof/Machine/Setpoint.lean ====
section
/-! DEFINITION. Modes, set-point sources, ramps, direction, load line and phase shedding (07_setpoints_modes_droop). -/
namespace Sys2Proof.Machine
open Sys2Proof

/-! ### Leaving a running mode -/

/-- A mode action that waits, once the string is in a mode: one that the mode shows made waits no more (R178, R182). -/
def reqMade (mode : Mode) : ModeReq → ModeReq
  | .run m => if m == mode then .none else .run m
  | .standby => if mode.running then .standby else .none
  | .opening => if mode.running then .opening else .none
  | .none => .none

/-- Switching stops and the string is in mode m (STANDBY or PARKED): MODE OFF from the next DUTY frame. A command accepted meanwhile
waits on (R178). -/
def endRun (m : Mode) (s : State) : State :=
  let s := unitsOff s
  { s with
    sp := { s.sp with
      mode := m, r := 0, dwell := 0, modeOff := false, toStandby := false, rampOpen := false, offNext := false, failed := false
      flipDue := false, rateLimited := false, sopClamped := false, iRef := 0, iRamp := 0, redist := 0, moving := false
      wantShed := none, wantAdd := none, shedHold := false, holdEnd := none, lowSince := none, hist := []
      req := reqMade m s.sp.req, accepted := reqMade m s.sp.accepted }
    link := { s.link with engine := .idle, next := { s.link.next with run := false } } }

/-- The same for a stop by a fault, a trip or a sequence: no mode action is left waiting (R144, R149, R160, R197). -/
def stopTo (m : Mode) (s : State) : State :=
  let s := endRun m s
  { s with sp := { s.sp with req := .none, accepted := .none } }

/-- A running mode falls to STANDBY with its contactors closed. -/
def toStandbyNow (s : State) : State := if s.sp.mode.running then stopTo .standby s else s

/-- The module acts as for the command STANDBY, or as step 1 of OPEN does: H writes it at step 6, and C acts at the boundary after
(R142, R477). The ramp of OPEN is not set aside by a later STANDBY. -/
def orderDown (forOpen : Bool) (s : State) : State :=
  guardOn s.sp.mode.running (fun s =>
    let a : ModeReq := if forOpen || s.sp.accepted == .opening then .opening else .standby
    { s with sp := { s.sp with accepted := a } }) s

/-- At a boundary the ramp to zero of a running mode begins (R477); a dwell ends at once, without a direction change, and STANDBY
follows (R178). -/
def rampDown (forOpen : Bool) (s : State) : State :=
  let s := { s with sp := { s.sp with req := .none } }
  guardOn s.sp.mode.running (fun s =>
    if s.sp.toStandby then { s with sp := { s.sp with rampOpen := s.sp.rampOpen || forOpen } }
    else if s.sp.dwell > 0 then endRun .standby s
    else
      let s := { s with sp := { s.sp with toStandby := true, rampOpen := forOpen, iRamp := s.sp.iRef * 65536, offNext := false } }
      if s.sp.mode == .busVoltage then setCuState s.link.vloop .track s else s) s

/-! ### External sources (R169, R170) -/

/-- The coefficient a of R169, from the sample interval and the time constant in µs. -/
def filterCoef (ts tau : Int) : Int := if tau = 0 then 65536 else divT (65536 * ts) (tau + ts)

/-- A source. -/
def sourceOf (k : ExtSource) (s : State) : Source := match k with | .ai => s.sp.ai | .pi => s.sp.pi

/-- Change a source. -/
def modSource (k : ExtSource) (f : Source → Source) (s : State) : State :=
  match k with
  | .ai => { s with sp := { s.sp with ai := f s.sp.ai } }
  | .pi => { s with sp := { s.sp with pi := f s.sp.pi } }

/-- A loss condition begins or lasts: the value before it is kept (R170). -/
def lossBegins (k : ExtSource) (s : State) : State :=
  modSource k (fun c => if c.cond then c else { c with cond := true, since := s.now, hold := c.y }) s

/-- One source sample: its normalised value, the filter coefficient and whether a loss condition is present (R169, R170). -/
def sourceSample (k : ExtSource) (x a : Int) (cond : Bool) (s : State) : State :=
  modSource k (fun c =>
    { c with
      hold := if cond && !c.cond then c.y else c.hold
      since := if cond == c.cond then c.since else s.now
      cond := cond
      lastX := x
      y := wrapS 32 (c.y + divT ((x - c.y) * a) 65536) }) s

/-- An analog set-point sample, in µV or µA (Table 7-3). -/
def aiSpSample (t : Nat) (micro : Int) (openInput : Bool) (s : State) : State :=
  let s := atTime t s
  let a := filterCoef 100 (cfg Ent.SP_AI_FILT s)
  if cfgN Ent.SP_AI_MODE s = 0 then
    sourceSample .ai (clampI (-65536) 65536 (divT (micro * 65536) 10000000)) a (openInput || decide (micro.natAbs > 10500000)) s
  else
    sourceSample .ai (clampI 0 65536 (divT ((micro - 4000) * 65536) 16000)) a (decide (micro < 3600) || decide (micro > 21000)) s

/-- AI_SP_SAMPLE (R169). -/
def execAiSpSample (t : Nat) (micro : Int) (openInput : Bool) (s : State) : Host.Outcome State Fault Refusal :=
  whenLiveK (fun s => if isFenced .f s || isActive 0x6040 wide s then s else aiSpSample t micro openInput s) s

/-- A pulse-input rising edge at t whose pulse was high for `high` ns (Table 7-3). -/
def piSpEdge (t high : Nat) (s : State) : State :=
  let s := atTime t s
  match s.sp.pi.rise with
  | none => modSource .pi (fun c => { c with rise := some t }) s
  | some t0 =>
    let per : Int := (t - t0 : Nat)
    let a := filterCoef (divT per 1000) (cfg Ent.SP_PI_FILT s)
    let s := modSource .pi (fun c => { c with rise := some t }) s
    if cfgN Ent.SP_PI_MODE s = 0 then
      let f0 := cfg Ent.SP_PI_F0 s
      let x := divT ((1000000000 - f0 * per) * 65536) (per * (cfg Ent.SP_PI_F1 s - f0))
      sourceSample .pi (wrapS 32 x) a (decide (per < 5000) || decide (per > 1000000000)) s
    else
      sourceSample .pi (clampI 0 65536 (divT (high * 65536) per)) a (decide (per < 50000) || decide (per > 10000000)) s

/-- PI_SP_EDGE (R169). -/
def execPiSpEdge (t high : Nat) (s : State) : Host.Outcome State Fault Refusal :=
  whenLiveK (fun s => if isFenced .f s || isActive 0x6041 wide s then s else piSpEdge t high s) s

/-- The source that SP_SOURCE selects, if external. -/
def selected (s : State) : Option ExtSource :=
  match cfgN Ent.SP_SOURCE s with
  | 1 => some .ai
  | 2 => some .pi
  | _ => none

/-- The loss action of a source: 0 HOLD, 1 SUBSTITUTE, 2 STANDBY. -/
def losAction (k : ExtSource) (s : State) : Nat :=
  match k with | .ai => cfgN Ent.SP_AI_LOS_ACT s | .pi => cfgN Ent.SP_PI_LOS_ACT s

/-- The fault of a source's loss (Table 7-9). -/
def losCode : ExtSource → Nat
  | .ai => 0x4020
  | .pi => 0x4021

/-- SP_LOS_TIME, ns. -/
def losNs (s : State) : Nat := cfgN Ent.SP_LOS_TIME s * 1000000

/-- The pulse input has shown no rising edge for SP_LOS_TIME (Table 7-3). -/
def piSilent (s : State) : Bool := s.sp.pi.rise.getD 0 + losNs s ≤ s.now

/-- A loss condition of the source has lasted SP_LOS_TIME (R170). DEDUCED (log 139): the silence of the pulse input is itself of that
time and declares the loss at once. -/
def lossDue (k : ExtSource) (s : State) : Bool :=
  let c := sourceOf k s
  (c.cond && decide (c.since + losNs s ≤ s.now)) || (k == .pi && piSilent s)

/-- The selected source is lost, and its action is STANDBY (R170). -/
def lossStandby (s : State) : Bool :=
  match selected s with
  | some k => (sourceOf k s).lost && losAction k s = 2
  | none => false

/-- While the selected source is lost and its action is STANDBY, the module acts as for that command (R170). -/
def lossAction (s : State) : State := if lossStandby s && !s.sp.toStandby then orderDown false s else s

/-- Loss of signal is declared (R170). -/
def lossOfSignal (k : ExtSource) (s : State) : State :=
  guardOn (lossDue k s) (fun s =>
    lossAction (raiseF (losCode k) wide (modSource k (fun c => { c with lost := true }) (lossBegins k s)))) s

/-- LOSS_OF_SIGNAL (R170). -/
def execLossOfSignal (src : ExtSource) (s : State) : Host.Outcome State Fault Refusal := whenLiveK (lossOfSignal src) s

/-- The source has been free of every loss condition for 100 ms (R170). -/
def signalGood (k : ExtSource) (s : State) : Bool :=
  let c := sourceOf k s
  !c.cond && decide (c.since + 100000000 ≤ s.now) && !(k == .pi && piSilent s)

/-- A source free of every loss condition for 100 ms is restored, and its code clears (R170, R189). -/
def signalRestored (k : ExtSource) (s : State) : State :=
  guardOn (signalGood k s) (fun s => clearF (losCode k) wide (modSource k (fun c => { c with lost := false }) s)) s

/-- SIGNAL_RESTORED (R170). -/
def execSignalRestored (src : ExtSource) (s : State) : Host.Outcome State Fault Refusal := whenLiveK (signalRestored src) s

/-! ### The target (R168 to R173) -/

/-- The value written by H for a mode (R168). -/
def dictTarget (m : Mode) (s : State) : Int :=
  match m with
  | .busVoltage => s.sp.wV
  | .stringCurrent => s.sp.wI
  | .stringPower => s.sp.wP
  | .parked => 0
  | .standby => 0

/-- The target of a running mode, in its unit, an S32 (R168 to R170). -/
def targetOf (m : Mode) (s : State) : Int :=
  let ext (k : ExtSource) (off gain sub : Int) : Int :=
    let c := sourceOf k s
    if c.lost && losAction k s = 1 then sub
    else wrapS 32 (off + divT (gain * (if c.lost then c.hold else c.y)) 65536)
  match selected s with
  | none => dictTarget m s
  | some .ai => ext .ai (cfg Ent.SP_AI_OFFSET s) (cfg Ent.SP_AI_GAIN s) (cfg Ent.SP_AI_LOS_VALUE s)
  | some .pi => ext .pi (cfg Ent.SP_PI_OFFSET s) (cfg Ent.SP_PI_GAIN s) (cfg Ent.SP_PI_LOS_VALUE s)

/-- A current in mA as a power in W at the string voltage of the last SAMPLE frame. -/
def toWatts (i : Int) (s : State) : Int := divT (i * s.link.sample.vStr) 1000000

/-- The ramp limit of a mode per ms (R171). -/
def rampRate (m : Mode) (s : State) : Int :=
  match m with
  | .busVoltage => cfg Ent.SP_DV_MAX s
  | .stringCurrent => cfg Ent.SP_DI_MAX s
  | .stringPower => wrapU 32 (toWatts (cfg Ent.SP_DI_MAX s) s)
  | .parked => 0
  | .standby => 0

/-- One step of a ramp in mode unit × 2^-16 (R176). -/
def rampStepOf (rate : Int) (s : State) : Int := divT (rate * s.tb.period * 65536) 1000000000

/-- lo and hi of R176 in the mode unit. -/
def rampBounds (m : Mode) (s : State) : Int × Int :=
  match m with
  | .busVoltage => (400000, 1600000)
  | .stringPower => (-(toWatts s.sp.chgLim s), toWatts s.sp.disLim s)
  | .stringCurrent => (-s.sp.chgLim, s.sp.disLim)
  | .parked => (0, 0)
  | .standby => (0, 0)

/-- A value whose sign opposes the direction (R174). -/
def opposes (x : Int) (d : Dir) : Bool := match d with | .dis => decide (x < 0) | .chg => decide (0 < x)

/-- Move r towards `want` by at most `step`. -/
def approach (r want step : Int) : Int := if want > r then min (r + step) want else if want < r then max (r - step) want else r

/-- The direction changes and the new loop runs preloaded to d_z (R175). -/
def flipDirection (s : State) : State :=
  let d := opposite s.sp.dir
  let s := { s with sp := { s.sp with dir := d, flipDue := false, quiet := 4 }, recd := { s.recd with dirs := s.recd.dirs + 1 } }
  let s := setRunUnits s.sp.mode d true s
  modCu (loopOf d s) (fun u => cuPreload u s.sp.dz) s

/-- The end of a dwell whose periods have run: it stands at its boundary, so whatever follows there finds it made (R175, R176). -/
def dwellEnd (s : State) : State := if s.sp.flipDue && s.sp.mode.running then flipDirection s else s

/-- DWELL_END (R175). -/
def execDwellEnd (s : State) : Host.Outcome State Fault Refusal := whenLiveK dwellEnd s

/-- A boundary within a dwell (R175, R176). -/
def dwellStep (s : State) : State :=
  let first := !s.sp.modeOff
  let dz := if first && s.link.last.run then s.link.last.duty else s.sp.dz
  let left := s.sp.dwell - 1
  let s := { s with sp := { s.sp with
    dwell := left, flipDue := left == 0, modeOff := true, dz := dz, iRef := 0, lowSince := none } }
  setCuState s.link.vloop .track (setCuState s.link.dis .track (setCuState s.link.chg .track s))

/-- A boundary of the ramp to zero (R477). Switching that a dwell has stopped is not taken up again. -/
def rampDownStep (s : State) : State :=
  let p := s.sp
  if p.mode == .busVoltage then
    let want := approach p.iRamp 0 (rampStepOf (cfg Ent.SP_DI_MAX s) s)
    let r := clampI (-p.chgLim * 65536) (p.disLim * 65536) want
    { s with sp := { p with iRamp := r, sopClamped := r != want, offNext := p.offNext || r == 0 } }
  else
    let (lo, hi) := rampBounds p.mode s
    let want := approach p.r 0 (rampStepOf (rampRate p.mode s) s)
    let r := max (lo * 65536) (min (hi * 65536) want)
    { s with sp := { p with r := r, tgt := 0, rateLimited := r != 0, sopClamped := r != want, offNext := p.offNext || r == 0 } }

/-- A boundary of the ramp and direction logic outside a dwell (R176). In BUS_VOLTAGE the state-of-power clamp is that of VLOOP's
output, which shows SOP_CLAMPED (R177). -/
def rampStep (s : State) : State :=
  let p := s.sp
  let tgt := targetOf p.mode s * 65536
  let step := rampStepOf (rampRate p.mode s) s
  let hyst := if p.mode == .stringPower then toWatts (cfg Ent.SP_DIR_HYST s) s else cfg Ent.SP_DIR_HYST s
  let opp := p.mode != .busVoltage && opposes tgt p.dir
  let turning := opp && decide ((tgt.natAbs : Int) > hyst * 65536)
  let r := approach p.r (if opp then 0 else tgt) step
  let (lo, hi) := rampBounds p.mode s
  let r' := if r > hi * 65536 then hi * 65536 else r
  let r' := if r' < lo * 65536 then lo * 65536 else r'
  { s with sp := { p with
      tgt := tgt, r := r', modeOff := false, rateLimited := r != tgt
      sopClamped := if p.mode == .busVoltage then p.sopClamped else r' != r
      dwell := if turning && r == 0 then cfgN Ent.SP_DIR_DWELL s else 0 } }

/-! ### The load line (R179) -/

/-- V_ref at a boundary (R179). -/
def loadLine (s : State) : State :=
  let x := s.link.sample
  let iSum := s.sp.hist.headD 0
  let raw := if x.vBus ≥ 100000 then wrapS 32 (divT (iSum * x.vStr) x.vBus) else s.sp.iRaw
  let b := filterCoef (divT s.tb.period 1000000) (cfg Ent.SP_LL_TAU s)
  let iBus := wrapS 32 (s.sp.iBus + divT ((raw - s.sp.iBus) * b) 65536)
  let v := wrapS 32 (divT s.sp.r 65536 - divT (cfg Ent.SP_R_LL s * iBus) 100000)
  { s with sp := { s.sp with iRaw := raw, iBus := iBus, vRef := v } }

/-! ### Start and handover (R166, R167, R181) -/

/-- The start duty d_s (R167). -/
def startDuty (s : State) : Int :=
  let v := s.link.sample.vStr
  let b := s.link.sample.vBus
  let rule := cfgN Ent.SP_START_RULE s
  let d :=
    if rule = 2 || b < 100000 then cfg Ent.SP_START_DUTY s
    else if rule = 0 then divT (v * 65536) b
    else 65536 - divT (v * 65536) b
  clampI (cfg Ent.CVT_DUTY_MIN s) (cfg Ent.CVT_DUTY_MAX s) d

/-- An accepted start takes effect at a boundary (R166). -/
def startMode (m : Mode) (s : State) : State :=
  let en := healthyPhases s
  if en = 0 then raiseF 0x4012 wide { s with sp := { s.sp with req := .none } }
  else
    let d : Dir := if m != .busVoltage && targetOf m s < 0 then .chg else .dis
    let r := if m == .busVoltage then s.link.sample.vBus * 65536 else 0
    let s := enableAt en s
    let tgt := targetOf m s * 65536
    let s := { s with
      sp := { s.sp with mode := m, dir := d, r := r, tgt := tgt, rateLimited := r != tgt, sopClamped := false, req := .none
                        dwell := 0, modeOff := false, toStandby := false, rampOpen := false, offNext := false, failed := false
                        flipDue := false, iRef := 0, hist := [0, 0, 0, 0], quiet := 0 }
      dsp := { s.dsp with silentFrom := some s.now }
      link := { s.link with engine := .running } }
    let s := setRunUnits m d true s
    let s := modCu (loopOf d s) (fun u => cuPreload u (startDuty s)) s
    if m == .busVoltage then loadLine (modCu s.link.vloop (fun u => cuPreload u 0) s) else s

/-- A handover between running modes takes effect at a boundary (R181, Table 7-5). Into BUS_VOLTAGE, the I_bus of this boundary
counts, so that V_ref equals the measured bus voltage. -/
def handover (m : Mode) (s : State) : State :=
  let s := if m == .busVoltage then loadLine s else s
  let p := s.sp
  let r := match m with
    | .stringCurrent => p.iRef
    | .stringPower => toWatts p.iRef s
    | .busVoltage => s.link.sample.vBus + divT (cfg Ent.SP_R_LL s * p.iBus) 100000
    | .parked => 0
    | .standby => 0
  let v := if m == .busVoltage then s.link.sample.vBus else p.vRef
  let tgt := targetOf m s * 65536
  let s := { s with
    sp := { p with
      mode := m, r := r * 65536, tgt := tgt, rateLimited := r * 65536 != tgt, vRef := v, req := .none, modeOff := false
      toStandby := false, rampOpen := false, offNext := false }
    dsp := { s.dsp with silentFrom := some s.now } }
  setRunUnits m s.sp.dir true s

/-- The mode action latched at a boundary (R142, R166, R178, R181). True when it changed the mode in force, so that no ramp step
is made at this boundary. -/
def modeAction (s : State) : State × Bool :=
  match s.sp.req with
  | .none => (s, false)
  | .standby => (rampDown false s, false)
  | .opening => (rampDown true s, false)
  | .run m =>
    if s.sp.dwell > 0 then (s, false)
    else if s.sp.mode == .standby then (startMode m s, true)
    else if s.sp.mode.running then (handover m s, true)
    else ({ s with sp := { s.sp with req := .none } }, false)

/-! ### Phase changes (R160, R183 to R187) -/

/-- No phase remains enabled: 0x4012, STANDBY (R160). -/
def noPhase (s : State) : State := toStandbyNow (raiseF 0x4012 wide s)

/-- A pending phase change takes effect at a boundary, and a running redistribution makes its step (R185). -/
def phaseStep (s : State) : State :=
  match s.sp.wantShed, s.sp.wantAdd with
  | some j, _ =>
    let en := if bitOf s.sp.en j then s.sp.en - 2 ^ j else s.sp.en
    if en = 0 then noPhase { s with sp := { s.sp with wantShed := none } } else redistribute en s
  | none, some j => redistribute (if bitOf s.sp.en j then s.sp.en else s.sp.en + 2 ^ j) s
  | none, none => redistStep s

/-- A load-driven change is open: SP_SHED_EN, running, none yet in this frame, no redistribution, dwell or hold (R183, R184). -/
def shedOpen (s : State) : Bool :=
  cfgB Ent.SP_SHED_EN s && s.sp.mode.running && !s.sp.changed && s.sp.wantShed.isNone && s.sp.wantAdd.isNone &&
  !s.sp.moving && s.sp.dwell == 0 && !s.sp.modeOff && !s.sp.shedHold && s.link.mean.n > 0

/-- The add decision of a frame (R183). -/
def phaseAdd (s : State) : State :=
  guardOn (shedOpen s) (fun s =>
    let n := phaseCount s.sp.en
    let free := (List.range 12).find? fun j => bitOf (healthyPhases s) j && !bitOf s.sp.en j
    match free with
    | some j =>
      if s.link.mean.iSum * 1000 > (n * s.link.stage.iRated * cfgN Ent.SP_SHED_ADD s : Nat) then
        { s with sp := { s.sp with wantAdd := some j, changed := true } }
      else s
    | none => s) s

/-- The frame mean lies below the shed threshold of the phases enabled (R183). -/
def loadLow (s : State) : Bool :=
  let n := phaseCount s.sp.en
  s.link.mean.n > 0 && n > cfgN Ent.SP_PHASE_MIN s &&
    decide (s.link.mean.iSum * 10000 < ((n - 1) * s.link.stage.iRated * cfgN Ent.SP_SHED_ADD s * 9 : Nat))

/-- The frame that began at `a` counts in the time below the shed threshold, which starts anew after a dwell (R183, R184) and,
DEDUCED (log 140), after a change of the phases. -/
def watchLoad (a : Nat) (s : State) : State :=
  let low := s.sp.mode.running && s.sp.dwell == 0 && !s.sp.modeOff && loadLow s
  { s with sp := { s.sp with lowSince := if low then some (s.sp.lowSince.getD a) else none } }

/-- The load has stayed below the shed threshold for SP_SHED_DELAY: the highest enabled phase goes at the next boundary (R183). -/
def phaseShed (s : State) : State :=
  let due := match s.sp.lowSince with | some t => decide (t + cfgN Ent.SP_SHED_DELAY s * 1000000 ≤ s.now) | none => false
  guardOn (due && shedOpen s && loadLow s) (fun s =>
    match (List.range 12).reverse.find? (bitOf s.sp.en) with
    | some j => { s with sp := { s.sp with wantShed := some j, changed := true, lowSince := none } }
    | none => s) s

/-- PHASE_SHED (R183). -/
def execPhaseShed (s : State) : Host.Outcome State Fault Refusal := whenLiveK phaseShed s

/-- The shed hold runs from the boundary after the load step (R187). -/
def startHold (s : State) : State :=
  if s.sp.shedHold && s.sp.holdEnd.isNone then
    { s with sp := { s.sp with holdEnd := some (s.now + s.link.lat.shedHold * 1000000) } }
  else s

/-- SHED_HOLD_END (R187): the hold has run for SP_SHED_HOLD. -/
def shedHoldEnd (s : State) : State :=
  match s.sp.holdEnd with
  | some t => if t ≤ s.now then { s with sp := { s.sp with shedHold := false, holdEnd := none } } else s
  | none => s

/-- SHED_HOLD_END (R187). -/
def execShedHoldEnd (s : State) : Host.Outcome State Fault Refusal := whenLiveK shedHoldEnd s

/-- The load-step test of one period (R187). -/
def loadStepTest (iSum : Int) (s : State) : State :=
  let old := s.sp.hist.getD 3 iSum
  let lim : Int := s.link.lat.lstep * cfg Ent.CVT_PHASES s * s.link.stage.iRated
  let hit := s.sp.quiet == 0 && s.sp.dwell == 0 && !s.sp.modeOff && decide (((iSum - old).natAbs : Int) * 1000 > lim)
  let s := { s with sp := { s.sp with hist := (iSum :: s.sp.hist).take 4, quiet := s.sp.quiet - 1 } }
  if hit then
    let s := enableAt (healthyPhases s) s
    { s with sp := { s.sp with shedHold := true, holdEnd := none, loadStepFlag := true, loadSteps := incSat32 s.sp.loadSteps } }
  else s

/-- m_j of R160 for the frame just ended; 0 for a phase that is not enabled or before the stage's rating is known. -/
def imbalances (s : State) : List Nat :=
  let m := s.link.mean
  let en := (List.range 12).filter (bitOf s.sp.en)
  if m.n = 0 || en.isEmpty || s.link.stage.iRated = 0 || !s.sp.mode.running then List.replicate 12 0
  else
    let avg := divT (sumI (en.map fun j => m.iPh.getD j 0)) en.length
    (List.range 12).map fun j =>
      if bitOf s.sp.en j then (m.iPh.getD j 0 - avg).natAbs * 1000 / s.link.stage.iRated else 0

/-- The frame that began at `a` counts in the times for which m_j has exceeded CVT_IMB_WARN and CVT_IMB_SHED (R160). -/
def watchImbalance (a : Nat) (s : State) : State :=
  let m := imbalances s
  let since (lim : Nat) (old : List (Option Nat)) : List (Option Nat) :=
    (List.range 12).map fun j => if m.getD j 0 > lim then some ((old.getD j none).getD a) else none
  { s with
    tb := { s.tb with imbPhase := m }
    link := { s.link with imbWarn := since (cfgN Ent.CVT_IMB_WARN s) s.link.imbWarn
                          imbShed := since (cfgN Ent.CVT_IMB_SHED s) s.link.imbShed } }

/-- m_j has exceeded its warning or its shed level for CVT_IMB_TIME (R160). -/
def imbalanceDue (j : Nat) (shed : Bool) (s : State) : Bool :=
  match (if shed then s.link.imbShed else s.link.imbWarn).getD j none with
  | some t => decide (t + cfgN Ent.CVT_IMB_TIME s * 1000000 ≤ s.now)
  | none => false

/-- An imbalance has lasted CVT_IMB_TIME: a warning, or the phase is shed at the next boundary, at most one in a frame (R160). -/
def phaseImbalance (j : Nat) (shed : Bool) (s : State) : State :=
  guardOn (s.sp.mode.running && bitOf s.sp.en j && imbalanceDue j shed s) (fun s =>
    if !shed then raiseF 0x4010 wide s
    else if s.sp.changed then s
    else
      raiseF 0x4011 j { s with
        link := { s.link with faulted := if bitOf s.link.faulted j then s.link.faulted else s.link.faulted + 2 ^ j }
        sp := { s.sp with wantShed := some j, wantAdd := none, changed := true } }) s

/-- PHASE_IMBALANCE (R160). -/
def execPhaseImbalance (phase : Fin 12) (shed : Bool) (s : State) : Host.Outcome State Fault Refusal :=
  whenLiveK (phaseImbalance phase.val shed) s

/-- CVT_PHASE_RESTORE: the named phases are no longer faulted (R160). -/
def phaseRestore (bits : Nat) (s : State) : State :=
  let js := (List.range 12).filter (bitOf bits)
  let s := { s with link := { s.link with faulted := bitMap 12 fun j => bitOf s.link.faulted j && !js.contains j } }
  clearF 0x4012 wide (forAll js (fun j s => clearF 0x4011 j s) s)

/-! ### What readers see (Tables 7-7 and 7-8) -/

/-- SP_STATE. -/
def spStateOf (seqRuns : Bool) (s : State) : Nat :=
  if seqRuns then 5
  else if !s.sp.mode.running then 0
  else if s.sp.toStandby then 4
  else if s.sp.dwell > 0 || s.sp.modeOff then 3
  else if s.sp.rateLimited then 2 else 1

/-- SP_STATUS. -/
def spStatusOf (s : State) : Nat :=
  bitMap 7 fun i => match i with
    | 0 => s.sp.rateLimited
    | 1 => s.sp.sopClamped
    | 2 => (if s.sp.flipDue then opposite s.sp.dir else s.sp.dir) == .chg
    | 3 => s.sp.ai.lost || s.sp.pi.lost
    | 4 => s.sp.shedHold
    | 5 => s.sp.moving
    | _ => s.sp.loadStepFlag

end Sys2Proof.Machine
end

