-- ==== Sys2Proof/Machine/Field.lean ====
section
/-! DEFINITION. Field inputs and outputs (13_field_io): digital inputs, standard outputs, safe outputs with their test pulses, the
field supply. -/
namespace Sys2Proof.Machine
open Sys2Proof

/-! ### Groups and supply -/

/-- The field supply feeds the drivers and the inputs (Table 13-4). -/
def vfOn (s : State) : Bool := s.dio.vfState == .normal || s.dio.vfState == .uvWarn || s.dio.vfState == .overvoltage

/-- Open-load and wire checks are masked while VF is below 18 V (R320, Table 13-4). -/
def vfDiag (s : State) : Bool := s.dio.vfState == .normal || s.dio.vfState == .overvoltage

/-- A DI group is fenced (R310, R311). -/
def diFenced (g : Nat) (s : State) : Bool := isFenced .f s || isActive 0x6012 g s

/-- A DQ group is fenced. -/
def dqFenced (q : Nat) (s : State) : Bool := isFenced .f s || isActive 0x6023 q s

/-! ### Digital inputs (R312 to R317) -/

/-- Input n. -/
def diAt (n : Nat) (s : State) : DiIn := getAt s.dio.di n

/-- Change input n. -/
def modDi (n : Nat) (f : DiIn → DiIn) (s : State) : State := { s with dio := { s.dio with di := modAt s.dio.di n f } }

/-- DIO_DI_INTERVAL of a group, µs. -/
def diInterval (g : Nat) (s : State) : Nat := fieldU (cfgBytes Ent.DIO_DI_INTERVAL s) (2 * g) 2

/-- DIO_DI_DEBOUNCE of an input, µs. -/
def diDebounce (n : Nat) (s : State) : Nat := fieldU (cfgBytes Ent.DIO_DI_DEBOUNCE s) (2 * n) 2

/-- The raw level of a sample (R314, Table 21-5): none in the transition region. -/
def rawLevel (type3 : Bool) (r : DiReading) : Option Bool :=
  let thr := if type3 then 11000 else 15000
  if thr ≤ r.mv && r.mv ≤ 32000 && 2000 ≤ r.microA then some true
  else if -3000 ≤ r.mv && r.mv ≤ 5000 then some false
  else none

/-- The wire check of a strobe (Table 13-2). -/
def wireCheck (vf : Int) (r : DiReading) : Wire :=
  if r.microA < 400 then .open_ else if r.mv > vf - 1000 then .short else .ok

/-- A cause for which input n is not valid (R316). -/
def diBlocked (n : Nat) (s : State) : Bool :=
  diFenced (n / 8) s || !vfOn s || isActive 0x6010 n s || isActive 0x6011 n s

/-- DIO_DI_VALID of input n. -/
def diValid (n : Nat) (s : State) : Bool := (diAt n s).valid && !diBlocked n s

/-- DIO_DI_STATE of input n: inversion follows the debounce (R314). -/
def diState (n : Nat) (s : State) : Bool := (diAt n s).state != bitOf (cfgN Ent.DIO_DI_INVERT s) n

/-- Input n is no longer valid; its count starts anew when the cause ends (R316). -/
def invalidateDi (n : Nat) (s : State) : State := modDi n (fun d => { d with valid := false, cnt := 0, run := 0 }) s

/-- One step of the debounce (R315). -/
def debounceStep (ts deb : Nat) (d : DiIn) : DiIn :=
  if d.raw == d.state then { d with cnt := 0 }
  else if d.cnt + ts ≥ deb then { d with state := d.raw, cnt := 0 }
  else { d with cnt := d.cnt + ts }

/-- What a strobe shows of the line (R317): nothing without the check; while the check is masked, what the last one showed. -/
def strobeCond (n : Nat) (r : DiReading) (s : State) : Wire :=
  if !bitOf (cfgN Ent.DIO_DI_OW_EN s) n then .ok else if vfDiag s then wireCheck s.dio.vf r else (diAt n s).cond

/-- A strobe measures input n (R314 to R317). -/
def diStrobe (n : Nat) (r : DiReading) (s : State) : State :=
  let g := n / 8
  let ts := diInterval g s
  let deb := diDebounce n s
  let d := diAt n s
  let cond := strobeCond n r s
  let d := { d with
    raw := (rawLevel (bitOf (cfgN Ent.DIO_DI_TYPE s) g) r).getD d.raw
    cond := cond, condAt := if cond == d.cond then d.condAt else s.now }
  if diBlocked n s then modDi n (fun _ => { d with valid := false, cnt := 0, run := 0 }) s
  else
    let run := min (d.run + ts) 65535
    modDi n (fun _ => { debounceStep ts deb d with run := run, valid := d.valid || run ≥ deb }) s

/-- A strobe of a group is due: from tier GUARD, at the group's interval (R312, R331). A fenced group takes none (Table 13-1). -/
def strobeDue (g : Nat) (s : State) : Bool :=
  !diFenced g s && s.sys.guardIn && due (getAt s.dio.strobeAt g) (diInterval g s * 1000) s

/-- The strobe of a group (R314). -/
def diSample (g : Nat) (levels : List DiReading) (s : State) : State :=
  guardOn (strobeDue g s) (fun s =>
    let s := { s with dio := { s.dio with strobeAt := setAt s.dio.strobeAt g (some s.now) } }
    forAll (levels.take 8).zipIdx (fun x s => diStrobe (8 * g + x.2) x.1 s) s) s

/-- DI_SAMPLE (R314). -/
def execDiSample (group : Fin 4) (levels : List DiReading) (t : Nat) (s : State) : Host.Outcome State Fault Refusal :=
  whenLiveK (fun s => diSample group.val levels (atTime t s)) s

/-- The debounce count of an input has reached its time (R315). The strobe that reaches it confirms the state itself; the count also
reaches it where a commit shortens DIO_DI_DEBOUNCE. -/
def diDebounceExpiry (n : Nat) (s : State) : State :=
  guardOn (!diBlocked n s && (diAt n s).raw != (diAt n s).state && diDebounce n s ≤ (diAt n s).cnt) (modDi n fun d => { d with state := d.raw, cnt := 0 }) s

/-- DI_DEBOUNCE_EXPIRY (R315). -/
def execDiDebounceExpiry (n : Fin 32) (s : State) : Host.Outcome State Fault Refusal := whenLiveK (diDebounceExpiry n.val) s

/-- The time for which a wire fault must last before it is reported, and be absent before it clears, ns (R317). -/
def wireNs (n : Nat) (s : State) : Nat := max (diDebounce n s * 1000) 10000000

/-- What the strobes show of input n has lasted that time. -/
def wireLasted (n : Nat) (s : State) : Bool := decide ((diAt n s).condAt + wireNs n s ≤ s.now)

/-- A wire fault is reported (R317). -/
def wireFaultReport (n : Nat) (s : State) : State :=
  guardOn (bitOf (cfgN Ent.DIO_DI_OW_EN s) n && vfDiag s && !diFenced (n / 8) s && wireLasted n s) (fun s =>
    match (diAt n s).cond with
    | .ok => s
    | .open_ => invalidateDi n (raiseF 0x6010 n s)
    | .short => invalidateDi n (raiseF 0x6011 n s)) s

/-- WIRE_FAULT_REPORT (R317). -/
def execWireFaultReport (n : Fin 32) (t : Nat) (s : State) : Host.Outcome State Fault Refusal :=
  whenLiveK (fun s => wireFaultReport n.val (atTime t s)) s

/-! ### Standard outputs (R318 to R321) -/

/-- Output k. -/
def dqAt (k : Nat) (s : State) : DqOut := getAt s.dio.dq k

/-- Change output k. -/
def modDq (k : Nat) (f : DqOut → DqOut) (s : State) : State := { s with dio := { s.dio with dq := modAt s.dio.dq k f } }

/-- The lowest-numbered output of the group of output k (R321). -/
def dqLead (k : Nat) (s : State) : Nat :=
  match cfgN Ent.DIO_DQ_GROUPING s / 4 ^ (k / 4) % 4 with
  | 0 => k
  | 1 => k - k % 2
  | _ => k - k % 4

/-- The commanded state of output k: protection drives the outputs of PROT_TM_DQ (R210, R318, R321). -/
def dqCommand (k : Nat) (s : State) : Bool :=
  let l := dqLead k s
  if bitOf (cfgN Ent.PROT_TM_DQ s) l then s.dio.tmOn else bitOf s.dio.dqCmd l

/-- The switch of output k is on. -/
def dqOn (k : Nat) (s : State) : Bool :=
  (live s || s.sys.phase == .frozen) && dqCommand k s && vfOn s && drivesOutputs s && !s.pair.fenceIn && !dqFenced (k / 4) s && !isActive 0x6021 (dqLead k s) s &&
  !(dqAt (dqLead k s) s).hold && tierAtLeast .watch s

/-- The outputs that switch together with output l (R321). -/
def dqGroup (l : Nat) (s : State) : List Nat := (List.range 16).filter fun k => dqLead k s == l

/-- The current of a group: the sum of its members' (R321). -/
def dqCurrent (l : Nat) (s : State) : Nat := sumN ((dqGroup l s).map fun k => (dqAt k s).ma)

/-- What the partner drives into the same load (R363). -/
def partnerCurrent (l : Nat) (s : State) : Nat :=
  if s.pair.paired && s.pair.mirror then sumN ((dqGroup l s).map fun k => s.pair.partMa.getD k 0) else 0

/-- A group stands at its current limit, 1.2 A for each member (R318, R321). -/
def dqLimiting (l : Nat) (s : State) : Bool := dqOn l s && decide (1200 * (dqGroup l s).length ≤ dqCurrent l s)

/-- A current of output k is measured; at its limit the output or its group reports LIMITING (R319). -/
def dqCurrentLimit (k ma : Nat) (s : State) : State :=
  let s := modDq k (fun d => { d with ma := ma }) s
  guardOn (dqLimiting (dqLead k s) s) (raiseF 0x6020 (dqLead k s)) s

/-- DQ_CURRENT_LIMIT (R319). -/
def execDqCurrentLimit (k : Fin 16) (ma : Nat) (s : State) : Host.Outcome State Fault Refusal := whenLiveK (dqCurrentLimit k.val ma) s

/-- A thermal cycle; the third within 10 s latches the output off (R319). -/
def dqThermalCycle (k : Nat) (s : State) : State :=
  guardOn (dqOn k s) (fun s =>
    let l := dqLead k s
    let times := (s.now :: (dqAt l s).cycles).filter fun t => t + 10000000000 ≥ s.now
    if times.length ≥ 3 then raiseF 0x6021 l (modDq l (fun d => { d with cycles := [] }) s)
    else modDq l (fun d => { d with cycles := times }) s) s

/-- DQ_THERMAL_CYCLE (R319). -/
def execDqThermalCycle (k : Fin 16) (s : State) : Host.Outcome State Fault Refusal := whenLiveK (dqThermalCycle k.val) s

/-- Open-load detection works on group l (R320): it is enabled, not masked, and the group is not fenced. -/
def olWorks (l : Nat) (s : State) : Bool := bitOf (cfgN Ent.DIO_DQ_OL_EN s) l && vfDiag s && !dqFenced (l / 4) s

/-- An open load shows on group l (R320, R321, R363): less than 5 mA of both members while on, or more than 6 V at the output while off. -/
def olShows (l : Nat) (mv : Nat) (s : State) : Bool := if dqOn l s then dqCurrent l s + partnerCurrent l s < 5 else 6000 < mv

/-- A measurement of output k: its current, and the voltage at the output; an open load that has lasted 10 ms raises 0x6022 (R320). -/
def dqOpenLoad (k ma mv : Nat) (s : State) : State :=
  let s := modDq k (fun d => { d with ma := ma }) s
  let l := dqLead k s
  let old := match (dqAt l s).olSince with
    | some (t, on) => if on == dqOn l s then some t else none
    | none => none
  let since := sinceNow (olWorks l s && olShows l mv s) old s
  let s := modDq l (fun d => { d with olSince := since.map fun t => (t, dqOn l s) }) s
  guardOn (heldFor since 10000000 s) (raiseF 0x6022 l) s

/-- DQ_OPEN_LOAD (R320). -/
def execDqOpenLoad (k : Fin 16) (ma mv t : Nat) (s : State) : Host.Outcome State Fault Refusal :=
  whenLiveK (fun s => dqOpenLoad k.val ma mv (atTime t s)) s

/-- DIO_DQ_RETRY clears the latch of each output named (R319). -/
def dqRetry (bits : Nat) (s : State) : State :=
  forAll ((List.range 16).filter (bitOf bits)) (fun k s =>
    if dqLead k s = k then clearF 0x6021 k (modDq k (fun d => { d with cycles := [] }) s) else s) s

/-! ### Safe outputs (R322, R323) -/

/-- Safe output k. -/
def sqAt (k : Nat) (s : State) : SqOut := getAt s.dio.sq k

/-- Change safe output k. -/
def modSq (k : Nat) (f : SqOut → SqOut) (s : State) : State := { s with dio := { s.dio with sq := modAt s.dio.sq k f } }

/-- The safe outputs assigned to protection: positive, negative, precharge (R196). -/
def protOutputs (s : State) : List Nat := [cfgN Ent.PROT_SQ_POS s, cfgN Ent.PROT_SQ_NEG s, cfgN Ent.PROT_SQ_PRE s]

/-- H's command for safe output k (R322). -/
def sqCommand (k : Nat) (s : State) : Bool :=
  if k = cfgN Ent.PROT_SQ_POS s then s.prot.main.coil
  else if k = cfgN Ent.PROT_SQ_NEG s then s.prot.neg.coil
  else if k = cfgN Ent.PROT_SQ_PRE s then s.prot.pre.coil
  else bitOf s.dio.sqCmd k

/-- S enables both switches of safe output k (R322). -/
def sqEnabled (k : Nat) (s : State) : Bool :=
  live s && !isFenced .s s && !s.saf.swInvalid && tierAtLeast .watch s && s.sup.frz != .opened &&
  (s.saf.state == .permitted || (s.saf.state == .latched && !bitOf (safN Ent.SAF_Q_MASK s) k))

/-- Safe output k stays off until a reset of the module (R323, R326). -/
def sqFailed (k : Nat) (s : State) : Bool := isActive 0x6030 k s || isActive 0x6032 k s

/-- Safe output k is on. -/
def sqOn (k : Nat) (s : State) : Bool :=
  sqCommand k s && sqEnabled k s && vfOn s && drivesOutputs s && !s.pair.fenceIn && !(sqAt k s).hold && !sqFailed k s

/-- The safe outputs that are on, as bits 3-0 of DIO_SQ_STATE. -/
def sqMap (s : State) : Nat := bitMap 4 fun k => sqOn k s

/-- After an effect: an output that dropped makes the next DUTY frame carry MODE OFF (R142, R322) and ends its test pulse (R325). -/
def settleSq (before : Nat) (s : State) : State :=
  let after := sqMap s
  let changed := (List.range 4).filter fun k => bitOf before k != bitOf after k
  let drops := changed.filter (bitOf before)
  let s := forAll changed (fun k s => modSq k (fun q => { q with change := s.now }) s) s
  let s := match s.dio.test with
    | some (k, _, _) => if drops.contains k then { s with dio := { s.dio with test := none } } else s
    | none => s
  if drops.isEmpty then s else { s with link := { s.link with offReq := true } }

/-- Run an effect that may switch safe outputs. -/
def withSq (f : State → State) (s : State) : State := keep (settleSq (sqMap s)) (f s)

/-- Safe output k waits for a new command (class B). -/
def holdSq (k : Nat) (s : State) : State := modSq k (fun q => { q with hold := true }) s

/-- A new command for safe output k. -/
def releaseSq (k : Nat) (s : State) : State := modSq k (fun q => { q with hold := false }) s

/-- A measurement of the current of path k: at 4 A for 100 µs both switches open, with 0x6031, until a new command (R323). -/
def sqOvercurrent (k ma : Nat) (s : State) : State :=
  let since := sinceNow (sqOn k s && 4000 ≤ ma) (sqAt k s).limSince s
  let s := modSq k (fun q => { q with limSince := since }) s
  guardOn (heldFor since 100000 s) (fun s => withSq (fun s => raiseF 0x6031 k (holdSq k (modSq k (fun q => { q with limSince := none }) s))) s) s

/-- SQ_OVERCURRENT (R323). -/
def execSqOvercurrent (k : Fin 4) (ma t : Nat) (s : State) : Host.Outcome State Fault Refusal :=
  whenLiveK (fun s => sqOvercurrent k.val ma (atTime t s)) s

/-- A read-back node stands at its voltage: the high-side node above 5 V, the low-side node below VF − 5 V (R323). -/
def nodeHeld (high low : Int) (s : State) : Bool := 5000 < high || low < s.dio.vf - 5000

/-- A measurement of path k: its load current and its two read-back nodes. Below 20 mA while on, 0x6033; a voltage at a node while off,
0x6032; each after 10 ms (R323). The open load is masked as Table 13-4 states. -/
def sqReadbackFault (k ma : Nat) (high low : Int) (s : State) : State :=
  let on := sqOn k s
  let light := sinceNow (on && vfDiag s && ma < 20) (sqAt k s).lowSince s
  let ext := sinceNow (!on && nodeHeld high low s) (sqAt k s).extSince s
  let s := modSq k (fun q => { q with lowSince := light, extSince := ext }) s
  let s := guardOn (heldFor light 10000000 s) (raiseF 0x6033 k) s
  guardOn (heldFor ext 10000000 s) (raiseF 0x6032 k) s

/-- SQ_READBACK_FAULT (R323). -/
def execSqReadbackFault (k : Fin 4) (ma : Nat) (high low : Int) (t : Nat) (s : State) : Host.Outcome State Fault Refusal :=
  whenLiveK (fun s => sqReadbackFault k.val ma high low (atTime t s)) s

/-! ### Test pulses (R324 to R326) -/

/-- A test of safe output k is due: every DIO_SQ_TP_INT while it is on, never within 5 ms of a change or demand, and never two at once
(R324). In a pair, member 1 tests half an interval later (R363). -/
def testDue (k : Nat) (s : State) : Bool :=
  let int := cfgN Ent.DIO_SQ_TP_INT s * 1000000000
  let wait := if (sqAt k s).testAt.isNone && s.pair.paired && s.pair.member = 1 then max 5000000 (int / 2) else 5000000
  sqOn k s && s.dio.test.isNone && decide ((sqAt k s).change + wait ≤ s.now) && due (sqAt k s).testAt int s

/-- A due test opens one switch for DIO_SQ_TP_LEN: the high side and the low side in turn (R324). -/
def testPulseStart (k : Nat) (s : State) : State :=
  guardOn (testDue k s) (fun s =>
    let high := (sqAt k s).high
    let s := modSq k (fun q => { q with high := !q.high, testAt := some s.now }) s
    { s with dio := { s.dio with test := some (k, high, s.now + cfgN Ent.DIO_SQ_TP_LEN s * 1000) } }) s

/-- TEST_PULSE_START (R324). -/
def execTestPulseStart (k : Fin 4) (t : Nat) (s : State) : Host.Outcome State Fault Refusal :=
  whenLiveK (fun s => testPulseStart k.val (atTime t s)) s

/-- The read-back node has crossed the off threshold of R323. -/
def nodeOff (high : Bool) (mv : Int) (s : State) : Bool := if high then mv < 5000 else s.dio.vf - 5000 < mv

/-- The pulse ends, and the node's voltage is evaluated (R326). -/
def testPulseEnd (k : Nat) (mv : Int) (s : State) : State :=
  match s.dio.test with
  | none => s
  | some (j, high, stop) =>
    guardOn (j == k && decide (stop ≤ s.now)) (fun s =>
      let s := { s with dio := { s.dio with test := none } }
      if nodeOff high mv s then { s with dio := { s.dio with tests := incSat32 s.dio.tests } } else withSq (raiseF 0x6030 k) s) s

/-- TEST_PULSE_END (R326). -/
def execTestPulseEnd (k : Fin 4) (mv : Int) (t : Nat) (s : State) : Host.Outcome State Fault Refusal :=
  whenLiveK (fun s => testPulseEnd k.val mv (atTime t s)) s

/-! ### Field supply (R327 to R329) -/

/-- The classes of the safe outputs: those of protection are always class B (R328). -/
def sqClass (s : State) : Nat := bitMap 4 fun k => bitOf (cfgN Ent.DIO_SQ_CLASS s) k || (protOutputs s).contains k

/-- Drivers off and inputs invalid; class B outputs wait for a new command (R327 to R329). -/
def unpower (st : VfState) (code : Nat) (s : State) : State :=
  let before := sqMap s
  let lost := (protOutputs s).any (bitOf before)
  let s := forAll ((List.range 4).filter (bitOf (sqClass s))) holdSq s
  let s := forAll ((List.range 16).filter (bitOf (cfgN Ent.DIO_DQ_CLASS s))) (fun k s => modDq k (fun d => { d with hold := true }) s) s
  let s := forAll (List.range 32) invalidateDi s
  let s := { s with dio := { s.dio with vfState := st, ovSince := none, retSince := none, dropped := s.dio.dropped || lost } }
  settleSq before (raiseF code wide s)

/-- A measurement of VF in a powered state. -/
def vfPowered (mv : Int) (s : State) : State :=
  let since := sinceNow (mv > 32000) s.dio.ovSince s
  let put (x : VfState) (s : State) : State := { s with dio := { s.dio with vfState := x, ovSince := since } }
  if mv < 18000 then raiseF 0x6001 wide (put .uvWarn s)
  else if heldFor since 1000000 s then raiseF 0x6003 wide (put .overvoltage s)
  else put .normal s

/-- VF is measured (Table 13-4, R328). -/
def vfMeasured (mv : Int) (s : State) : State :=
  let s := { s with dio := { s.dio with vf := mv, vfAt := some s.now, lowSince := sinceNow (mv < 15000) s.dio.lowSince s } }
  if mv < -1000 then if s.dio.vfState == .reversed then s else unpower .reversed 0x6004 s
  else
    match s.dio.vfState with
    | .reversed => unpower .unpowered 0x6002 s
    | .unpowered => if mv > 18000 then { s with dio := { s.dio with vfState := .returning, retSince := some s.now } } else s
    | .returning => { s with dio := { s.dio with retSince := sinceNow (mv ≥ 18000) s.dio.retSince s } }
    | .normal => vfPowered mv s
    | .uvWarn => vfPowered mv s
    | .overvoltage => vfPowered mv s

/-- F measures VF every 100 µs (R327). -/
def vfSample (mv : Int) (s : State) : State := guardOn (!isFenced .f s && due s.dio.vfAt 100000 s) (vfMeasured mv) s

/-- VF_SAMPLE (R327). -/
def execVfSample (mv : Int) (t : Nat) (s : State) : Host.Outcome State Fault Refusal :=
  whenLiveK (fun s => vfSample mv (atTime t s)) s

/-- VF has measured below 15 V for 1 ms (R327). -/
def vfUnpowered (s : State) : State :=
  guardOn (!isFenced .f s && heldFor s.dio.lowSince 1000000 s && s.dio.vfState != .unpowered && s.dio.vfState != .reversed)
    (unpower .unpowered 0x6002) s

/-- VF_UNPOWERED (R327). -/
def execVfUnpowered (t : Nat) (s : State) : Host.Outcome State Fault Refusal := whenLiveK (fun s => vfUnpowered (atTime t s)) s

/-- RETURNING has lasted 20 ms (R328): class A outputs return. -/
def returningEnd (s : State) : State :=
  guardOn (!isFenced .f s && s.dio.vfState == .returning && heldFor s.dio.retSince 20000000 s) (withSq fun s =>
    clearF 0x6002 wide { s with dio := { s.dio with vfState := .normal, ovSince := none, retSince := none } }) s

/-- RETURNING_END (R328). -/
def execReturningEnd (t : Nat) (s : State) : Host.Outcome State Fault Refusal := whenLiveK (fun s => returningEnd (atTime t s)) s

/-! ### Fences of groups (R310) -/

/-- A group's self-check fails (R310, Table 13-8). -/
def groupSelfCheckFail (g : FieldGroup) (s : State) : State :=
  match g with
  | .di g => forAll (List.range 8) (fun i s => invalidateDi (8 * g.val + i) s) (raiseF 0x6012 g.val s)
  | .dq g => raiseF 0x6023 g.val s
  | .ai => lossBegins .ai (raiseF 0x6040 wide s)
  | .pi => lossBegins .pi (raiseF 0x6041 wide s)

/-- FIELD_GROUP_SELF_CHECK_FAIL (R310). -/
def execFieldGroupSelfCheckFail (g : FieldGroup) (s : State) : Host.Outcome State Fault Refusal :=
  whenLiveK (groupSelfCheckFail g) s

/-! ### At a frame boundary (R318, R322, R333) -/

/-- A write of a safe output's bit is a demand for it (R325), and releases one that waits for a new command. -/
def demandSq (k : Nat) (s : State) : State := modSq k (fun q => { q with hold := false, change := s.now }) s

/-- Output writes take effect (R318, R319, R328). A standby takes the writes too, and drives the mirrored image (R363). -/
def applyOutputs (s : State) : State :=
  withSq (fun s =>
    let s := dqRetry s.dio.dqRise s
    let s := forAll ((List.range 16).filter (bitOf s.dio.dqWrite)) (fun k s => modDq k (fun d => { d with hold := false }) s) s
    let free := (List.range 4).filter fun k => !(protOutputs s).contains k
    let s := forAll (free.filter (bitOf s.dio.sqWrite)) demandSq s
    let s := { s with dio := { s.dio with dqWrite := 0, sqWrite := 0, dqRise := 0 } }
    if acts s then { s with dio := { s.dio with dqCmd := cfgN Ent.DIO_DQ_CMD s, sqCmd := cfgN Ent.DIO_SQ_CMD s } } else s) s

/-! ### What readers see (Table 13-7) -/

/-- DIO_DI_DIAG of input n. -/
def diDiag (n : Nat) (s : State) : Nat :=
  if diFenced (n / 8) s then 4 else if !vfOn s then 3
  else if isActive 0x6010 n s then 1 else if isActive 0x6011 n s then 2 else 0

/-- DIO_DQ_DIAG of output k. -/
def dqDiag (k : Nat) (s : State) : Nat :=
  let l := dqLead k s
  if dqFenced (k / 4) s || s.pair.fenceIn then 6 else if !vfOn s then 5
  else if isActive 0x6021 l s then 2 else if isActive 0x6020 l s then 1
  else if isActive 0x6022 l s then (if dqOn k s then 3 else 4) else 0

/-- DIO_SQ_DIAG of output k. -/
def sqDiag (k : Nat) (s : State) : Nat :=
  if isFenced .s s || s.pair.fenceIn then 6 else if !vfOn s then 5
  else if isActive 0x6030 k s then 1 else if isActive 0x6031 k s then 2
  else if isActive 0x6032 k s then 3 else if isActive 0x6033 k s then 4 else 0

/-- DIO_SQ_STATE. -/
def sqStateOf (s : State) : Nat := sqMap s + 16 * bitMap 4 (fun k => sqEnabled k s)

/-- DIO_GROUP_FENCED. -/
def groupFenced (s : State) : Nat :=
  bitMap 14 fun i =>
    if i < 4 then diFenced i s else if i < 8 then dqFenced (i - 4) s else if i < 12 then isFenced .s s
    else isFenced .f s || isActive (if i = 12 then 0x6040 else 0x6041) wide s

/-- The code of DIO_VF_STATE. -/
def VfState.code : VfState → Nat
  | .normal => 0 | .uvWarn => 1 | .unpowered => 2 | .returning => 3 | .overvoltage => 4 | .reversed => 5

end Sys2Proof.Machine
end

