-- ==== Sys2Proof/Machine/Timebase.lean ====
section
/-! DEFINITION. The PWM timebase (06_stage_link_and_control_engine R155 to R159). Periods are in ps, phases in ns. -/
namespace Sys2Proof.Machine
open Sys2Proof

/-- The nominal period in ps: the TCXO's, at CVT_PWM_FREQ. -/
def nominalPs (s : State) : Int := divT 1000000000000 (cfg Ent.CVT_PWM_FREQ s)

/-- One 0.05 % of the nominal period. -/
def slewPs (s : State) : Int := divT (nominalPs s) 2000

/-- The module follows the stage's samples instead of CVT_TB_SOURCE (R159). -/
def followsStage (s : State) : Bool := s.pair.paired && s.pair.role == .standby

/-- CVT_TB_SOURCE. -/
def tbSource (s : State) : Nat := cfgN Ent.CVT_TB_SOURCE s

/-- Delay of the valley after the source event, in ns (R155). -/
def offsetNs (s : State) : Int := divT (cfg Ent.CVT_PHASE_OFFSET s * nominalPs s) 65536000

/-- A difference of times as a phase within half a period each way; exactly half counts as early, so that periods are lengthened
(R158). -/
def phaseOf (d per : Int) : Int :=
  if per = 0 then 0
  else
    let m := d % per
    if m * 2 ≥ per then m - per else m

/-! ### The phase accumulator (R155) -/

/-- One turn of the accumulator of 48 bits. -/
def phaseTurn : Nat := 2 ^ 48

/-- What the accumulator gains in one step of 2.5 ns at a period in ps. -/
def phaseStepOf (period : Nat) : Nat := max 1 (divN (phaseTurn * 2500) period)

/-- The steps of 2.5 ns from a valley to the next, from the accumulator's value there. -/
def valleySteps (phase period : Nat) : Nat := (phaseTurn - phase + phaseStepOf period - 1) / phaseStepOf period

/-- The plant time of the last reference valley, in ps. -/
def valleyPs (s : State) : Nat := s.tb.valley * 2500

/-- The same in ns. -/
def valleyNs (s : State) : Nat := s.tb.valley * 5 / 2

/-- The valley after the last one, in steps of 2.5 ns. -/
def nextValley (s : State) : Nat := s.tb.valley + valleySteps s.tb.phase s.tb.period

/-- A valley falls due at t: the first one after a start at once, every other where the accumulator turns over. -/
def valleyDue (t : Nat) (s : State) : Bool := s.tb.boundaries = 0 || decide (nextValley s * 5 / 2 ≤ t)

/-- The valley at t: its instant, and what is left in the accumulator, so that no error builds up (R155). -/
def turnOver (t : Nat) (s : State) : State :=
  if s.tb.boundaries = 0 then { s with tb := { s.tb with valley := t * 2 / 5, phase := 0, boundaries := 1 } }
  else { s with tb := { s.tb with
    valley := nextValley s
    phase := s.tb.phase + valleySteps s.tb.phase s.tb.period * phaseStepOf s.tb.period - phaseTurn
    boundaries := s.tb.boundaries + 1 } }

/-- The reference peak of the running period, ns (R140). -/
def peakNs (s : State) : Nat := (valleyPs s + s.tb.period / 2) / 1000

/-- The sample deadline, 1.5 µs after the peak (Table 6-5). -/
def sampleBy (s : State) : Nat := peakNs s + 1500

/-- t_D, at which the DUTY frame leaves: T/2 - 2.0 µs after the peak (R141). -/
def dutyAt (s : State) : Nat := (valleyPs s + s.tb.period - 2000000) / 1000

/-! ### The source (R155 to R157) -/

/-- The edge frequency differs from CVT_PWM_FREQ by more than 0.5 % (R157). -/
def edgeOutOfRange (s : State) : Bool :=
  s.tb.filt ≠ 0 && decide (((divT 1000000000000 s.tb.filt - cfg Ent.CVT_PWM_FREQ s).natAbs : Int) * 200 > cfg Ent.CVT_PWM_FREQ s)

/-- SYNC_IN has shown no edge for two expected periods (R157). -/
def edgesMissing (s : State) : Bool :=
  match s.tb.lastEdge with
  | some e => decide ((e : Int) * 1000 + 2 * nominalPs s ≤ s.now * 1000)
  | none => true

/-- The source of CVT_TB_SOURCE is lost (R157). -/
def sourceLost (s : State) : Bool :=
  match tbSource s with
  | 1 => edgesMissing s || edgeOutOfRange s
  | 2 => !s.locked
  | _ => false

/-- An external source is present. -/
def sourcePresent (s : State) : Bool := tbSource s ≠ 0 && !sourceLost s

/-- The period of the source, ps: the filtered edge period, or the nominal one. -/
def sourcePs (s : State) : Int := if tbSource s = 1 && s.tb.filt ≠ 0 then s.tb.filt else nominalPs s

/-- The phase error of the last valley against the source, ps (R155, R156). -/
def phaseErrPs (s : State) : Int :=
  match tbSource s with
  | 1 => phaseOf ((valleyPs s : Int) - s.tb.edge - offsetNs s * 1000) s.tb.filt
  | 2 => phaseOf ((valleyPs s : Int) - offsetNs s * 1000) (nominalPs s)
  | _ => 0

/-! ### The period (R157, R158) -/

/-- The largest deviation, in steps of 0.05 % and not above `top`, from which the remaining error can still be pulled while ramping
down, moving by at most one step per period (R158). -/
def pullStep (m top err unit : Int) : Int :=
  let fits (c : Int) : Bool := decide (c * (c + 1) * unit ≤ 2 * err)
  let up := min top (m + 1)
  if fits up then up else if fits m then min top m else max 0 (min top m - 1)

/-- The deviation from the source's period, in steps of 0.05 %, at which the period lies 1 % from the nominal one (R158). -/
def pullTop (late : Bool) (s : State) : Int :=
  let off := sourcePs s - nominalPs s
  max 0 (divT (20 * slewPs s + (if late then off else -off)) (slewPs s))

/-- While the stage switches, no period differs from the last by more than 0.05 %, nor from the nominal one by more than 1 % (R158). -/
def limitPeriod (want : Int) (s : State) : Int :=
  let u := slewPs s
  let n := nominalPs s
  clampI (s.tb.period - u) (s.tb.period + u) (clampI (n - 20 * u) (n + 20 * u) want)

/-- The next period while a source pulls the phase (R158): `err` in ps is positive when the valley comes late. -/
def pulledPeriod (switching : Bool) (err : Int) (s : State) : Int :=
  let src := sourcePs s
  if !switching then src - err
  else
    let u := slewPs s
    let late := decide (0 < err)
    let dev := if late then src - s.tb.period else s.tb.period - src
    let c := pullStep (max 0 (divT dev u)) (pullTop late s) err.natAbs u
    let d := c * u + (if c = 0 then min u err.natAbs else 0)
    limitPeriod (if late then src - d else src + d) s

/-- The period moves towards a value by at most 0.05 % (R157). -/
def glide (goal : Int) (s : State) : Int :=
  let u := slewPs s
  if goal > s.tb.period then min goal (s.tb.period + u) else max goal (s.tb.period - u)

/-- The state that a valley finds the timebase in: a source that is present is locked to (R158). -/
def tbStateAt (s : State) : TbState :=
  match s.tb.state with
  | .stage => .locking
  | .free => if sourcePresent s then .locking else .free
  | .gliding => if sourcePresent s then .locking else .gliding
  | x => x

/-- The timebase at a reference valley (R155 to R159). -/
def timebaseStep (switching : Bool) (s : State) : State :=
  let b := s.tb
  let nom := nominalPs s
  let free (p : Int) : State := { s with tb := { b with state := .free, phaseErr := 0, period := p.toNat, lockRun := 0 } }
  if followsStage s then { s with tb := { b with state := .stage } }
  else if tbSource s = 0 then free (if switching then glide nom s else nom)
  else
    let e := phaseErrPs s
    let ns := divT e 1000
    let p := (pulledPeriod switching e s).toNat
    match tbStateAt s with
    | .locking => { s with tb := { b with
        state := .locking, phaseErr := ns, lockRun := if ns.natAbs ≤ 20 then b.lockRun + 1 else 0, period := p } }
    | .locked => { s with tb := { b with phaseErr := ns, period := p, lostRate := sourcePs s } }
    | .gliding =>
      let g := glide nom s
      { s with tb := { b with state := if g = nom then .free else .gliding, period := g.toNat, lockRun := 0 } }
    | .free => free (if switching then glide nom s else nom)
    | .stage => free (if switching then glide nom s else nom)

/-- A SYNC_IN edge (R155): its period and its instant pass a filter of 16 periods. -/
def syncInEdge (t : Nat) (s : State) : State :=
  let s := atTime t s
  let b := s.tb
  match b.lastEdge with
  | none => { s with tb := { b with lastEdge := some t, edge := (t : Int) * 1000, filt := nominalPs s } }
  | some e =>
    let filt := b.filt + divT (((t : Int) - e) * 1000 - b.filt) 16
    let due := b.edge + filt
    { s with tb := { b with lastEdge := some t, filt := filt, edge := due + divT ((t : Int) * 1000 - due) 16 } }

/-- SYNC_IN_EDGE (R155). -/
def execSyncInEdge (t : Nat) (s : State) : Host.Outcome State Fault Refusal :=
  whenLiveK (fun s => if tbSource s = 1 && !followsStage s then syncInEdge t s else s) s

/-- The source is lost: the timebase glides from its last locked value (R157). -/
def tbSourceLoss (t : Nat) (s : State) : State :=
  let s := atTime t s
  guardOn (tbSource s ≠ 0 && !followsStage s && sourceLost s) (fun s =>
    let s := raiseF 0x4009 wide s
    let s := if tbSource s = 1 && edgeOutOfRange s then raiseF 0x400A wide s else s
    let b := s.tb
    { s with tb := { b with
        state := if b.state == .free then .free else .gliding
        period := if b.state == .locked then (limitPeriod b.lostRate s).toNat else b.period
        lastEdge := if edgesMissing s then none else b.lastEdge, filt := if edgesMissing s then 0 else b.filt, lockRun := 0 } }) s

/-- TB_SOURCE_LOSS (R157). -/
def execTbSourceLoss (t : Nat) (s : State) : Host.Outcome State Fault Refusal := whenLiveK (tbSourceLoss t) s

/-- A standby locks period and phase to the arrival of the SAMPLE frames on its lane, less the stage's delivery time (R159): the peak
lies at the arrival less that time, the period is the time between the arrivals of two consecutive samples. -/
def followSample (t scnt : Nat) (s : State) : State :=
  guardOn (followsStage s && 0 < s.tb.boundaries) (fun s =>
    let b := s.tb
    let per := match b.arrival with
      | some (t0, c) => if (c + 1) % 65536 = scnt && t0 < t then (t - t0) * 1000 else b.period
      | none => b.period
    let valley := ((t - Config.stageDelivery) * 1000 - per / 2) / 2500
    { s with tb := { b with
        period := per, arrival := some (t, scnt), valley := valley, phase := 0
        phaseErr := divT ((valleyPs s : Int) - valley * 2500) 1000 } }) s

/-- TB_LOCKED (R158): 16 consecutive periods within 20 ns. -/
def execTbLocked (s : State) : Host.Outcome State Fault Refusal :=
  whenLiveK (fun s =>
    if s.tb.state == .locking && s.tb.lockRun ≥ 16 then clearF 0x4009 wide { s with tb := { s.tb with state := .locked } } else s) s

end Sys2Proof.Machine
end

