-- ==== Sys2Proof/Machine/Link.lean ====
section
/-! DEFINITION. The Stage link (06_stage_link_and_control_engine): lanes, SAMPLE and DUTY frames, the half period, the loops. -/
namespace Sys2Proof.Machine
open Sys2Proof

/-! ### Lanes (R131, R132, R138, R139) -/

/-- C works: not fenced, not stopped by module hibernation. -/
def cRuns (s : State) : Bool := !isFenced .c s && !s.sys.hibernating

/-- The number of a lane. -/
def laneNo : Lane → Nat
  | .l0 => 0
  | .l1 => 1

/-- The state of a lane. -/
def laneState (l : Lane) (s : State) : LaneState := match l with | .l0 => s.link.lane0 | .l1 => s.link.lane1

/-- Put the state of a lane. -/
def setLane (l : Lane) (x : LaneState) (s : State) : State :=
  match l with
  | .l0 => { s with link := { s.link with lane0 := x } }
  | .l1 => { s with link := { s.link with lane1 := x } }

/-- Valid SAMPLE frames seen on a lane since TRAINING. -/
def laneGood (l : Lane) (s : State) : Nat := match l with | .l0 => s.link.good0 | .l1 => s.link.good1

/-- Put that count. -/
def setGood (l : Lane) (n : Nat) (s : State) : State :=
  match l with
  | .l0 => { s with link := { s.link with good0 := n } }
  | .l1 => { s with link := { s.link with good1 := n } }

/-- The module's lane is wired (R132): in a pair and with LANE0_ONLY, lane 0 alone. -/
def wired (l : Lane) (s : State) : Bool :=
  match l with
  | .l0 => true
  | .l1 => !s.pair.paired && cfgN Ent.CVT_LANE_WIRING s = 0

/-- A lane is UP or SELECTED. -/
def laneUp (l : Lane) (s : State) : Bool := laneState l s == .up || laneState l s == .selected

/-- The select input and the stage's lane that a module lane goes to (R132). -/
def stageLane (l : Lane) (s : State) : Nat := if s.pair.paired then s.pair.member else laneNo l

/-- Assert the select of a lane, or none. -/
def assertSelect (l : Option Lane) (s : State) : State :=
  let n := l.map laneNo
  if s.link.select = n then s
  else emit (.laneSel (l.map fun l => stageLane l s)) { s with link := { s.link with select := n, selAt := s.tb.boundaries } }

/-- The select rules of R138. -/
def selectRule (s : State) : State :=
  if s.pair.handing then s
  else if s.pair.paired then
    assertSelect (if drives s && laneUp .l0 s then some .l0 else none) s
  else if s.link.select.isSome then s
  else if laneUp .l0 s then assertSelect (some .l0) s
  else if laneUp .l1 s then assertSelect (some .l1) s
  else s

/-- A lane is the one whose select the module asserts. -/
def isSelected (l : Lane) (s : State) : Bool := s.link.select == some (laneNo l)

/-- The link has a lane SELECTED (R166). -/
def anySelected (s : State) : Bool := s.link.lane0 == .selected || s.link.lane1 == .selected

/-- LANE_TRAINING (R139). -/
def execLaneTraining (lane : Lane) (s : State) : Host.Outcome State Fault Refusal :=
  whenLiveK (fun s =>
    if cRuns s && wired lane s && laneState lane s == .down then setGood lane 0 (setLane lane .training s) else s) s

/-- LANE_UP (R139, R161): after two SAMPLE frames with a valid CRC in TRAINING. -/
def laneUpEvent (l : Lane) (s : State) : State :=
  guardOn (cRuns s && laneState l s == .training && laneGood l s ≥ 2) (fun s =>
    let s := clearF (0x4001 + laneNo l) wide (setLane l .up s)
    selectRule { s with link := { s.link with identReq := true } }) s

/-- LANE_UP (R161). -/
def execLaneUp (lane : Lane) (s : State) : Host.Outcome State Fault Refusal := whenLiveK (laneUpEvent lane) s

/-- The other lane. -/
def otherLane : Lane → Lane
  | .l0 => .l1
  | .l1 => .l0

/-- LANE_DOWN (R139). -/
def laneDown (l : Lane) (s : State) : State :=
  guardOn (laneState l s != .down) (fun s =>
    let was := isSelected l s
    let s := setLane l .down s
    if was && !s.pair.paired && laneUp (otherLane l) s then { s with link := { s.link with moveFrom := some (laneNo l) } }
    else
      let s := raiseF (0x4001 + laneNo l) wide s
      if was then assertSelect none s else s) s

/-- At a boundary the select of a fallen lane moves to the other lane, and the fault of the fallen lane is raised (R139). -/
def moveSelect (s : State) : State :=
  match s.link.moveFrom with
  | none => s
  | some k =>
    let o := if k = 0 then Lane.l1 else Lane.l0
    let s := { s with link := { s.link with moveFrom := none } }
    raiseF (0x4001 + k) wide (assertSelect (if laneUp o s then some o else none) s)

/-! ### Service replies (R137, R145, R161) -/

/-- The stage that IDENT named does not fit CVT_PHASES, CVT_VBUS_LIMIT or CVT_VSTR_LIMIT (R161). -/
def stageMismatch (s : State) : Bool :=
  let g := s.link.stage
  g.phases ≠ cfgN Ent.CVT_PHASES s || decide (g.vbusMax < cfg Ent.CVT_VBUS_LIMIT s) || decide (g.vstrMax < cfg Ent.CVT_VSTR_LIMIT s)

/-- CVT_PWM_FREQ lies outside the stage's range (R161). -/
def freqUnsupported (s : State) : Bool :=
  let f := cfgN Ent.CVT_PWM_FREQ s
  f < s.link.stage.fswMin || s.link.stage.fswMax < f

/-- The stage check of R161 with its codes, on what the last IDENT reply gave and the configuration in force. -/
def checkStage (s : State) : State :=
  guardOn s.link.stage.known (fun s =>
    let s := setF (stageMismatch s) 0x4007 wide s
    if freqUnsupported s then raiseF 0x4008 wide s else s) s

/-- A service frame: TYPE and VER, OPCODE, TAG, LEN, the payload, the CRC (R137). -/
def svcFrame (op tag : Nat) (payload : List Byte) : List Byte :=
  let b := toBytes 1 0x31 ++ toBytes 1 op ++ toBytes 1 tag ++ toBytes 1 payload.length ++ payload
  b ++ toBytes 4 (crc32c b)

/-- The payload of a reply to the opcode, where the frame passes R134, has the layout of R137 and echoes the TAG of a request that
waits. -/
def svcReply (op : Nat) (b : List Byte) (s : State) : Option (List Byte) :=
  let n := b.length - 4
  if 8 ≤ b.length && fieldU b 0 1 = 0x31 && fieldU b 1 1 = op + 128 && fieldU b 3 1 + 4 = n && fieldU b 3 1 ≤ 64 &&
      fieldU b n 4 = crc32c (b.take n) && s.link.svc.any (fun r => r.op == op && r.tag == fieldU b 2 1)
  then some ((b.take n).drop 4)
  else none

/-- The request that a reply answers waits no more. -/
def svcDone (b : List Byte) (s : State) : State :=
  { s with link := { s.link with svc := s.link.svc.filter fun r => r.tag != fieldU b 2 1 } }

/-- The stage's FAULTS as a reply gives them. -/
def putFaults (n : Nat) (s : State) : State := { s with link := { s.link with stage := { s.link.stage with faults := n } } }

/-- IDENT reply (R161). -/
def identReply (b : List Byte) (s : State) : State :=
  match svcReply 1 b s with
  | none => s
  | some p =>
    if p.length = 35 then
      checkStage (svcDone b { s with link := { s.link with stage := { s.link.stage with
        id := fieldU p 0 8, phases := fieldU p 8 1, fswMin := fieldU p 9 4, fswMax := fieldU p 13 4, iRated := fieldU p 17 4
        vbusMax := fieldS p 21 4, vstrMax := fieldS p 25 4, iphLsb := fieldU p 29 2, fw := fieldU p 31 4, known := true } } })
    else s

/-- IDENT_REPLY (R161). -/
def execIdentReply (bytes : List Byte) (s : State) : Host.Outcome State Fault Refusal := whenLiveK (identReply bytes) s

/-- FAULTS reply (R145). DESIGN CHOICE (log 133): a FAULT_CLEAR request follows it. -/
def faultsReply (b : List Byte) (s : State) : State :=
  match svcReply 2 b s with
  | none => s
  | some p =>
    if p.length = 4 then
      let s := raiseF 0x4006 wide (putFaults (fieldU p 0 4) (svcDone b s))
      { s with link := { s.link with clearReq := true } }
    else s

/-- FAULTS_REPLY (R145). -/
def execFaultsReply (bytes : List Byte) (s : State) : Host.Outcome State Fault Refusal := whenLiveK (faultsReply bytes) s

/-- FAULT_CLEAR reply (R145): only a reply of 0 clears 0x4006. -/
def faultClearReply (b : List Byte) (s : State) : State :=
  match svcReply 3 b s with
  | none => s
  | some p =>
    if p.length = 4 then
      let n := fieldU p 0 4
      let s := putFaults n (svcDone b s)
      if n = 0 then clearF 0x4006 wide { s with link := { s.link with clearReq := false } }
      else { s with link := { s.link with clearReq := true } }
    else s

/-- FAULT_CLEAR_REPLY (R145). -/
def execFaultClearReply (bytes : List Byte) (s : State) : Host.Outcome State Fault Refusal := whenLiveK (faultClearReply bytes) s

/-- The request that leaves after this period's DUTY frame, at most one (R137): its opcode. DESIGN CHOICE (log 133): FAULT_CLEAR goes
while the stage does not switch. -/
def svcNext (s : State) : Option Nat :=
  if s.link.identReq then some 1
  else if s.link.clearReq && !s.sp.mode.running then some 3
  else if s.link.faultsReq then some 2
  else none

/-- The module's lanes on which a request leaves: the SELECTED one, else every lane UP (DESIGN CHOICE, log 132). -/
def svcLanes (s : State) : List Lane :=
  if s.link.lane0 == .selected then [.l0] else if s.link.lane1 == .selected then [.l1]
  else [Lane.l0, Lane.l1].filter fun l => laneUp l s

/-- Send that request. -/
def sendService (s : State) : State :=
  match svcNext s with
  | none => s
  | some op =>
    if (svcLanes s).isEmpty then s
    else
      let l := s.link
      let s := { s with link := { l with
        identReq := l.identReq && op ≠ 1, faultsReq := l.faultsReq && op ≠ 2, clearReq := l.clearReq && op ≠ 3
        svc := l.svc ++ [{ op := op, tag := l.tag }], tag := (l.tag + 1) % 256 } }
      if s.pair.fenceIn then s
      else forAll (svcLanes s) (fun ln s => emit (.stageService (stageLane ln s) (svcFrame op l.tag [])) s) s

/-- A PWM boundary passes for the requests that wait: one without a reply within 4 periods waits no more, and an IDENT reply that
stays away raises 0x4007 (R137, R146). -/
def svcAge (s : State) : State :=
  let svc := s.link.svc.map fun r => { r with age := r.age + 1 }
  let lost := svc.filter fun r => 4 < r.age
  let s := { s with link := { s.link with svc := svc.filter fun r => r.age ≤ 4 } }
  if lost.any (·.op == 1) then
    raiseF 0x4007 wide { s with link := { s.link with stage := { s.link.stage with known := false } } }
  else s

/-- RUN is refused by the stage check or the units (R153, R161, R166). -/
def runRefused (s : State) : Bool := unitsRefuse s || !s.link.stage.known || stageMismatch s || freqUnsupported s

/-! ### DUTY frames (R135, R141, R143) -/

/-- Bytes 0-53 of a DUTY frame (Table 6-1). -/
def dutyBytes54 (seq : Nat) (d : DutyOut) : List Byte :=
  toBytes 1 0x11 ++ toBytes 2 seq ++ toBytes 1 (128 * b2n d.act + 64 * b2n d.held + 16 * b2n d.run) ++ toBytes 2 d.en ++
  ((List.range 12).flatMap fun j => toBytes 2 (if bitOf d.en j then d.duty else 0)) ++
  ((List.range 12).flatMap fun j => toBytes 2 (d.angles.getD j 0))

/-- The bytes of a DUTY frame with its CRC (Table 6-1). -/
def dutyBytes (seq : Nat) (d : DutyOut) : List Byte :=
  let b := dutyBytes54 seq d
  b ++ toBytes 4 (crc32c b)

/-- The member in control (ACT, R138): it has its select asserted; in an ordered handover the former active member keeps ACT = 1
until SAMPLE.LANE names the new lane (R375). -/
def inControl (s : State) : Bool := drives s && (s.link.select.isSome || s.pair.handing)

/-- A standby, or the member granted in an ordered handover before it takes the lane, tracks (R361, R375). -/
def tracks (s : State) : Bool :=
  s.pair.paired && !s.pair.laneHeld && (s.pair.role == .standby || (s.pair.handSeq.isSome && !s.pair.handing))

/-- The DUTY class payload of a sent DUTY frame (Table 15-4). -/
def dutyPayload (seq : Nat) (d : DutyOut) (s : State) : DutyMirror :=
  { seq := seq, run := d.run, dirChg := s.sp.dir == .chg, held := d.held, dwell := s.sp.dwell, duty := d.duty, en := d.en,
    iRef := s.sp.iRef, target := divT s.sp.tgt 65536, mode := s.sp.mode.code, redist := if s.sp.redist = 0 then 0 else 16 - s.sp.redist }

/-- The member takes the lane: its select, its unit in RUN from the tracked state, the ramp from the mirrored reference. A dwell
that was running goes on for its remaining periods (R182, R373). -/
def takeLane (s : State) : State :=
  let s := selectRule { s with pair := { s.pair with laneHeld := true } }
  if s.sp.mode.running then
    let r : Int := match s.sp.mode with
      | .stringCurrent => s.sp.iRef
      | .stringPower => toWatts s.sp.iRef s
      | .busVoltage => s.link.sample.vBus + divT (cfg Ent.SP_R_LL s * s.sp.iBus) 100000
      | .parked => 0
      | .standby => 0
    let dwell := s.sp.dwell > 0
    let s := { s with sp := { s.sp with
      r := r * 65536, vRef := if s.sp.mode == .busVoltage then s.link.sample.vBus else s.sp.vRef
      modeOff := dwell, dz := s.link.next.duty } }
    if dwell then s else setRunUnits s.sp.mode s.sp.dir true s
  else s

/-- The PWM period at which an ordered handover passes the lane (R375, step 3): the partner asserts its select, the former active
member releases its own. -/
def passLane (seq : Nat) (s : State) : State :=
  if s.pair.handSeq != some seq then s
  else
    let s := { s with pair := { s.pair with handSeq := none } }
    if s.pair.handing then assertSelect none s
    else
      let active := s.pair.role == .active
      let s := takeLane s
      { s with pair := { s.pair with laneHeld := !active } }

/-- MODE OFF is required in this period: by the mode or the dwell latched at its boundary, by S, or by a fault (R142, R143). -/
def offRequired (s : State) : Bool := !s.sp.mode.running || s.sp.modeOff || s.link.offReq

/-- The DUTY frame of this period: computed, or the previous duty and MODE with HELD where no usable SAMPLE was computed on by t_D
(R143, R163). -/
def dutyOf (complete : Bool) (s : State) : DutyOut :=
  let l := s.link
  let base := if l.computed && complete then { l.next with held := false } else { l.last with held := true }
  { base with act := inControl s, run := base.run && !(inControl s && offRequired s) }

/-- A computation not complete at t_D (R163): 3 in a row end the switching. -/
def computeOverrun (s : State) : State :=
  let s := raiseF 0x4103 wide s
  if s.link.overRun ≥ 3 then toStandbyNow s else s

/-- At t_D ± 10 ns the one DUTY frame of the period leaves on every wired lane (R135, R141). -/
def dutySend (t : Nat) (s : State) : State :=
  guardOn (cRuns s && drivesOutputs s && !s.link.sent && dutyAt s ≤ t + 10 && t ≤ dutyAt s + 10) (fun s =>
    let s := passLane ((s.link.seq + 1) % 65536) (dwellEnd (atTime t s))
    let l := s.link
    let complete := l.doneAt ≤ t
    let overrun := l.usable && !complete
    let d := dutyOf complete s
    let seq := (l.seq + 1) % 65536
    let s := { s with link := { l with
      seq := seq, last := d, sent := true, offSent := l.offReq, overRun := if overrun then l.overRun + 1 else 0
      engine := if !s.sp.mode.running then .idle else if d.held then .held else .running } }
    let s := forAll [Lane.l0, Lane.l1] (fun ln s =>
      if wired ln s && !s.pair.fenceIn then emit (.dutyFrame (stageLane ln s) (dutyBytes seq d)) s else s) s
    let s := if s.pair.paired && s.pair.role == .active && inControl s then
        sendMirror clsDuty (dutyMirrorBytes (dutyPayload seq d s)) s else s
    let s := sendService s
    if overrun then computeOverrun s else s) s

/-- DUTY_SEND (R141). -/
def execDutySend (t : Nat) (s : State) : Host.Outcome State Fault Refusal := whenLiveK (dutySend t) s

/-! ### Late and missing frames (R143, R144) -/

/-- A period without a usable SAMPLE frame (R143 to R145), while a lane is UP or SELECTED. -/
def noSample (s : State) : State :=
  let l := s.link
  let late := (s.now :: l.lateAt).filter fun t => t + 1000000000 > s.now
  let s := { s with link := { l with
    late := if l.badCrc then l.late else incSat32 l.late
    crcErr := if l.badCrc then incSat32 l.crcErr else l.crcErr
    lateAt := late.take 16, missRun := l.missRun + 1, dseqRun := 0 } }
  if late.length > 10 then raiseF 0x4004 wide s else s

/-- The sample deadline, 1.5 µs after the peak, once in a period (R143). -/
def sampleDeadline (t : Nat) (s : State) : State :=
  guardOn (cRuns s && 0 < s.tb.boundaries && !s.link.judged && sampleBy s ≤ t) (fun s =>
    let s := atTime t s
    let s := { s with link := { s.link with judged := true } }
    if s.link.usable || !(laneUp .l0 s || laneUp .l1 s) then s else noSample s) s

/-- SAMPLE_DEADLINE (R143). -/
def execSampleDeadline (t : Nat) (s : State) : Host.Outcome State Fault Refusal := whenLiveK (sampleDeadline t) s

/-- CVT_SAMPLE_MISS_MAX periods without a usable SAMPLE frame (R144). -/
def sampleLost (s : State) : State :=
  guardOn (s.link.missRun ≥ cfgN Ent.CVT_SAMPLE_MISS_MAX s) (fun s =>
    let s := raiseF 0x4003 wide s
    if drives s then toStandbyNow s else s) s

/-- SAMPLE_LOST (R144). -/
def execSampleLost (s : State) : Host.Outcome State Fault Refusal := whenLiveK sampleLost s

/-! ### The loops (R147 to R152, R177) -/

/-- A unit fails: it is fenced, the duty is held, MODE OFF follows from the next boundary, and a spare takes its role (R149, R153). -/
def fenceUnit (u code : Nat) (s : State) : State :=
  let s := raiseF code u (modCu u (fun c => { c with state := .fenced }) s)
  spareTakeover u { s with sp := { s.sp with failed := true } }

/-- After a computation: the faults of R149. -/
def checkUnit (u : Nat) (wrap : Bool) (s : State) : State :=
  if wrap then fenceUnit u 0x4101 s
  else if (cuAt u s).sat ≥ (cuAt u s).satMax then fenceUnit u 0x4102 s
  else s

/-- A unit in the DUTY role runs; its output is the common duty (R147). -/
def runDuty (u : Nat) (err : Int) (s : State) : Int × State :=
  let (c, w) := cuRun (cuAt u s) err s.link.lat.dutyMin s.link.lat.dutyMax
  (c.out, checkUnit u w (modCu u (fun _ => c) s))

/-- VLOOP's error: V_ref - V_BUS in BUS_VOLTAGE, 0 elsewhere (R151, R152). -/
def vloopError (s : State) : Int := if s.sp.mode == .busVoltage then s.sp.vRef - s.link.sample.vBus else 0

/-- VLOOP in TRACK, forced to a current reference in mA (R148, R152). -/
def trackVloop (i : Int) (s : State) : State :=
  modCu s.link.vloop (fun u => if u.state == .fenced then u else cuTrack u (vloopError s) (divT i (cfg Ent.CVT_IREF_LSB s))) s

/-- The state-of-power clamp of a current reference (R151). -/
def limI (i : Int) (s : State) : Int := clampI (-s.sp.chgLim) s.sp.disLim i

/-- VLOOP in RUN: its output, held at the state-of-power limits, is the reference. Where its sign opposes the direction the
reference is 0, and beyond SP_DIR_HYST the dwell begins (R151, R177). -/
def vloopRef (s : State) : Int × State :=
  let p := s.sp
  let lsb := cfg Ent.CVT_IREF_LSB s
  let u := s.link.vloop
  let (c, w) := cuRun (cuAt u s) (vloopError s) (-(divT p.chgLim lsb)) (divT p.disLim lsb)
  let s := checkUnit u w (modCu u (fun _ => c) { s with sp := { s.sp with sopClamped := c.sat != 0 } })
  let i := c.out * lsb
  if opposes i p.dir then
    (0, if (i.natAbs : Int) > s.link.lat.dirHyst then { s with sp := { s.sp with dwell := s.link.lat.dirDwell } } else s)
  else (i, s)

/-- The current reference of the period, with VLOOP's step (R151, R152, R177). -/
def currentRef (s : State) : Int × State :=
  let p := s.sp
  let track (i : Int) : Int × State := (i, trackVloop i s)
  if p.modeOff || p.dwell > 0 then track 0
  else
    match p.mode with
    | .busVoltage =>
      if p.toStandby then track (limI (divT p.iRamp 65536) s)
      else if (cuAt s.link.vloop s).state == .run then vloopRef s
      else track p.iRef
    | .stringCurrent => track (limI (divT p.r 65536) s)
    | .stringPower => track (limI (divT (divT p.r 65536 * 1000000) s.link.sample.vStr) s)
    | .parked => (0, s)
    | .standby => (0, s)

/-- The computation of one period (R141, R147 to R152). Where a unit fails in it, the duty is held (R149). -/
def computePeriod (iSum : Int) (s : State) : State :=
  let before := s.sp.failed
  let (i, s) := currentRef s
  let d := s.sp.dir
  let u := loopOf d s
  let o := loopOf (opposite d) s
  let off := s.sp.modeOff
  let (duty, s) :=
    if (cuAt u s).state == .run then runDuty u (i - iSum) s
    else (s.sp.dz, modCu u (fun c => if c.state == .fenced then c else cuTrack c (i - iSum) s.sp.dz) s)
  let s := modCu o (fun c => if c.state == .fenced then c else cuTrack c (i - iSum) duty) s
  let s := { s with sp := { s.sp with iRef := i } }
  if s.sp.failed && !before then { s with link := { s.link with computed := false } }
  else { s with link := { s.link with
      computed := true
      next := { act := true, held := false, run := !off, en := s.sp.en, duty := duty.toNat, angles := s.sp.ang } } }

/-- The computation of one period in a tracking standby (R361): every mapped unit is forced to the latest payload. -/
def trackPeriod (iSum : Int) (s : State) : State :=
  let err := s.sp.iRef - iSum
  let force (u : Nat) (s : State) : State :=
    modCu u (fun c => if c.state == .fenced then c else { cuTrack c err s.link.next.duty with state := .track }) s
  let s := setCuState s.link.vloop .track (trackVloop s.sp.iRef s)
  let s := force s.link.chg (force s.link.dis s)
  { s with
    sp := { s.sp with hist := (iSum :: s.sp.hist).take 4 }
    link := { s.link with computed := true, next := { s.link.next with act := false, held := false } } }

/-- A DUTY class payload (R361): the mirrored reference, direction, dwell and duty; SEQ follows the active member's (DEDUCED, log 28). -/
def mirrorDuty (m : DutyMirror) (s : State) : State :=
  if !tracks s && s.pair.role != .detached then s
  else
    let run := min 8 (if s.pair.dutyGot then s.pair.dutyRun else s.pair.dutyRun + 1)
    let mode : Mode := match m.mode with
      | 0 => .parked | 1 => .standby | 2 => .busVoltage | 3 => .stringCurrent | _ => .stringPower
    { s with
      pair := { s.pair with dutyGot := true, dutyRun := run, dutyHad := run }
      sp := { s.sp with mode := mode, dir := if m.dirChg then .chg else .dis, dwell := m.dwell, iRef := m.iRef, flipDue := false
                        tgt := m.target * 65536, r := m.target * 65536, en := m.en, ang := anglesFor m.en, toAng := anglesFor m.en
                        redist := if m.redist = 0 then 0 else 16 - m.redist, moving := m.redist != 0
                        req := reqMade mode s.sp.req, accepted := reqMade mode s.sp.accepted }
      link := { s.link with
        seq := m.seq
        next := { s.link.next with act := false, held := m.held, run := m.run, en := m.en, duty := m.duty, angles := anglesFor m.en } } }

/-- A frame of the DUTY class. -/
def takeDuty (b : List Byte) (s : State) : State :=
  match dutyMirrorOf b with
  | some m => mirrorDuty m s
  | none => s

/-- MIRROR_DUTY (R361). -/
def execMirrorDuty (lane : Lane) (frame : List Byte) (s : State) : Host.Outcome State Fault Refusal :=
  whenLiveK (mirrorTake clsDuty lane frame takeDuty) s

/-- The parts of READY that outlast one missing payload: the lane is UP and the last CONTEXT frame is at most 2 sweep periods old. -/
def readyBase (s : State) : Bool :=
  laneUp .l0 s && (match s.pair.ctxAt with
    | some t => decide (s.now ≤ t + 2 * periodMs s * 1000000)
    | none => false)

/-- READY (R361): the 8 payloads too; a member that holds the lane needs its lane only. At start a standby is READY once its lane
is UP (R368). -/
def pairReady (s : State) : Bool :=
  s.pair.paired && s.pair.role == .standby &&
    (if s.pair.laneHeld || !(s.pair.partner == some .active) then laneUp .l0 s else readyBase s && 8 ≤ s.pair.dutyRun)

/-- A SAMPLE frame on which the standby takes the lane (R373). The payloads counted are those before the gap (DEDUCED, log 28). -/
def takesLane (x : Sample) (s : State) : Bool :=
  tracks s && readyBase s && 8 ≤ s.pair.dutyHad &&
    ((x.holding && 2 ≤ x.miss) || (1 ≤ x.miss && s.pair.dutyRun == 0 && !s.pair.dutyGot))

/-- The converter gap: the most missing periods a SAMPLE shows until the stage obeys the member's lane (R374). -/
def seeGap (l : Lane) (x : Sample) (s : State) : State :=
  if s.pair.laneHeld && x.lane ≠ stageLane l s then { s with pair := { s.pair with gap := max s.pair.gap x.miss } } else s

/-! ### SAMPLE frames (R136, R141, R145) -/

/-- The fields of a SAMPLE frame (Table 6-2). -/
def parseSample (b : List Byte) : Sample :=
  let f := fieldU b 49 2
  { dseq := fieldU b 1 2, scnt := fieldU b 3 2, iPh := (List.range 12).map fun j => fieldS b (5 + 2 * j) 2
    vStr := fieldS b 29 4, vBus := fieldS b 33 4, iStr := fieldS b 37 4, tHs := (List.range 4).map fun j => fieldS b (41 + 2 * j) 2
    lane := b2n (bitOf f 15), holding := bitOf f 14, miss := f / 1024 % 16, stopped := bitOf f 9, fault := bitOf f 8
    overtemp := bitOf f 7, overcurrent := bitOf f 6, selConflict := bitOf f 5 }

/-- A SAMPLE frame passes R134. -/
def sampleOk (b : List Byte) : Bool :=
  b.length == 55 && fieldU b 0 1 == 0x21 && fieldU b 51 4 == crc32c (b.take 51)

/-- I_sum: the phase currents of the enabled phases, mA (R151). -/
def iSumOf (x : Sample) (en lsb : Nat) : Int :=
  sumI ((List.range 12).map fun j => if bitOf en j then x.iPh.getD j 0 * lsb else 0)

/-- The frame's running sums take a sample (Table 6-9). -/
def accumulate (x : Sample) (iSum : Int) (lsb : Nat) (a : FrameMeans) : FrameMeans :=
  { n := a.n + 1, vStr := a.vStr + x.vStr, vBus := a.vBus + x.vBus, iStr := a.iStr + x.iStr, iSum := a.iSum + iSum.natAbs
    iPh := (List.range 12).map fun j => a.iPh.getD j 0 + x.iPh.getD j 0 * lsb }

/-- The lane whose select the module asserts is not the one the stage obeys, two valleys or more after the select changed: the stage
has not followed it from the first valley that comes at least one full period later (R138, R146). -/
def laneIgnored (x : Sample) (s : State) : Bool :=
  match s.link.select with
  | some n => s.link.selAt + 2 ≤ s.tb.boundaries && x.lane ≠ (if s.pair.paired then s.pair.member else n)
  | none => false

/-- The checks of a usable SAMPLE frame (R145, R146). -/
def sampleChecks (x : Sample) (s : State) : State :=
  let l := s.link
  let s :=
    if anySelected s && x.dseq ≠ l.seq then
      let s := { s with link := { l with dseqErr := incSat32 l.dseqErr, dseqRun := l.dseqRun + 1 } }
      if s.link.dseqRun ≥ 3 then raiseF 0x4005 wide s else s
    else { s with link := { l with dseqRun := 0 } }
  let s := if x.selConflict || laneIgnored x s then raiseF 0x400B wide s else s
  let s := if x.fault then { s with link := { s.link with faultsReq := true } } else s
  if x.stopped && s.link.last.run && inControl s then toStandbyNow (raiseF 0x400C wide s) else s

/-- A usable SAMPLE frame of the period: kept, checked, and in a running mode computed on (R141). -/
def useSample (x : Sample) (t computeNs : Nat) (s : State) : State :=
  let lsb := s.link.stage.iphLsb
  let iSum := iSumOf x s.sp.en lsb
  let peak := peakNs s
  let s := { s with
    link := { s.link with
      usable := true, missRun := 0, sample := x, accNow := accumulate x iSum lsb {}, doneAt := t + computeNs
      computeMax := max s.link.computeMax (min 65535 computeNs) }
    est := { s.est with stageI := ((peak, x.iStr) :: s.est.stageI).takeWhile fun y => y.1 + 150000000 ≥ peak } }
  let s := sampleChecks x s
  if tracks s then trackPeriod iSum s
  else if s.sp.mode.running && inControl s then computePeriod iSum (loadStepTest iSum s)
  else
    { s with link := { s.link with
        computed := true
        next := { s.link.next with act := false, held := false, run := false, en := 0, angles := List.replicate 12 0 } } }

/-- SAMPLE.LANE names the lane the stage obeys (R139); once it names the new lane an ordered handover is over for the former active
member, which becomes STANDBY_PAIR at its GRANT's frame (R375). -/
def laneConfirm (l : Lane) (x : Sample) (s : State) : State :=
  let s := if s.pair.handing && s.link.select.isNone && x.lane ≠ stageLane l s then
      { endHold s with pair := { s.pair with handing := false, role := .standby, request := .none } } else s
  if isSelected l s && x.lane = stageLane l s then setLane l .selected s
  else if laneState l s == .selected then setLane l .up s else s

/-- A SAMPLE frame that is complete at t serves the period: between the peak and the sample deadline (R141, R143). A standby takes its
own timebase from the frame (R159). -/
def onTime (t : Nat) (s : State) : Bool :=
  0 < s.tb.boundaries && (followsStage s || (decide (peakNs s ≤ t) && decide (t ≤ sampleBy s)))

/-- A SAMPLE frame that passes R134, complete at t (R139, R141, R143). -/
def goodSample (l : Lane) (t : Nat) (b : List Byte) (computeNs : Nat) (s : State) : State :=
  if laneState l s == .training then setGood l (laneGood l s + 1) s
  else if laneUp l s then
    let x := parseSample b
    let s := laneConfirm l x (seeGap l x (followSample t x.scnt s))
    let s := if takesLane x s then takeLane s else s
    if s.link.usable || !onTime t s then s else useSample x t computeNs s
  else s

/-- A SAMPLE frame (R139, R141): one that fails R134 is discarded. -/
def sampleFrame (l : Lane) (t : Nat) (b : List Byte) (computeNs : Nat) (s : State) : State :=
  guardOn (cRuns s && wired l s) (fun s =>
    let s := dwellEnd (atTime t s)
    if sampleOk b then goodSample l t b computeNs s else { s with link := { s.link with badCrc := true } }) s

/-- A SAMPLE frame, and the settings of the units that failed on it (R153). -/
def sampleEvent (l : Lane) (t : Nat) (b : List Byte) (computeNs : Nat) (s : State) : State :=
  takeSettings (keep (fun s => sampleFrame l t b computeNs { s with link := { s.link with moved := [] } }) s)

/-- SAMPLE_FRAME (R141). -/
def execSampleFrame (lane : Lane) (t : Nat) (bytes : List Byte) (computeNs : Nat) (s : State) : Host.Outcome State Fault Refusal :=
  whenLive (sampleEvent lane t bytes computeNs) s

/-! ### The PWM boundary (R142) -/

/-- A running-mode command latched at this boundary (R178). -/
def runLatched (s : State) : Bool := match s.sp.req with | .run _ => true | .none => false | .standby => false | .opening => false

/-- MODE OFF from this boundary: a unit has failed (R149), or the ramp to zero has ended (R477) and no running-mode command ends it
(R178). A command that waits is then a start from STANDBY. -/
def finishRampDown (s : State) : State :=
  if s.sp.failed && s.sp.mode.running then stopTo .standby s
  else if s.sp.toStandby && s.sp.offNext && !runLatched s then endRun .standby s
  else s

/-- A boundary in a running mode: mode action, dwell or ramp, load line, phases. -/
def runBoundary (s : State) : State :=
  let (s, changed) := modeAction s
  if !s.sp.mode.running then s
  else
    let s :=
      if changed then s
      else if s.sp.dwell > 0 then dwellStep s
      else if s.sp.toStandby then rampDownStep s
      else rampStep s
    let s := if s.sp.mode == .busVoltage && !changed then loadLine s else s
    startHold (phaseStep s)

/-- A boundary at a tracking standby: in BUS_VOLTAGE it forms V_ref too (R179, R361). -/
def trackBoundary (s : State) : State := if s.sp.mode == .busVoltage then loadLine s else s

/-- What C latches at a boundary (R142, R188). -/
def latchParams (s : State) : State :=
  { s with
    link := { s.link with lat :=
      { dutyMin := cfg Ent.CVT_DUTY_MIN s, dutyMax := cfg Ent.CVT_DUTY_MAX s, dirHyst := cfg Ent.SP_DIR_HYST s
        dirDwell := cfgN Ent.SP_DIR_DWELL s, lstep := cfg Ent.SP_LSTEP s, shedHold := cfgN Ent.SP_SHED_HOLD s } }
    sp := { s.sp with disLim := s.sp.wDis, chgLim := s.sp.wChg } }

/-- The sums of two parts of a frame. -/
def addMeans (a b : FrameMeans) : FrameMeans :=
  { n := a.n + b.n, vStr := a.vStr + b.vStr, vBus := a.vBus + b.vBus, iStr := a.iStr + b.iStr, iSum := a.iSum + b.iSum
    iPh := (List.range 12).map fun j => a.iPh.getD j 0 + b.iPh.getD j 0 }

/-- A PWM period ends: its sample counts in the frame's means (R19), and a new one begins. -/
def newPeriod (s : State) : State :=
  let p := s.pair
  { s with
    link := { s.link with usable := false, computed := false, badCrc := false, judged := false, sent := false, slot := s.fw.pairNo
                          acc := addMeans s.link.acc s.link.accNow, accNow := {} }
    pair := { p with dutyGot := false, dutyRun := if p.dutyGot then p.dutyRun else 0 } }

/-- A reference valley (R142): pulses, timebase, latches, then the mode's work. -/
def pwmBoundary (t : Nat) (s : State) : State :=
  guardOn (cRuns s && valleyDue t s) (fun s =>
    let s := timebaseStep s.link.last.run (turnOver t (dwellEnd (atTime t s)))
    let s := emit .stgSync s
    let s := if cfgB Ent.CVT_SYNC_OUT_EN s then emit .syncOut s else s
    let s := moveSelect (latchUnits (latchParams (svcAge (newPeriod s))))
    if tracks s then trackBoundary s else runBoundary (finishRampDown s)) s

/-- PWM_BOUNDARY (R142). -/
def execPwmBoundary (t : Nat) (s : State) : Host.Outcome State Fault Refusal := whenLiveK (pwmBoundary t) s

/-! ### Per frame -/

/-- The frame means of Table 6-9 at a frame boundary; the sums start anew. A fenced C gives none (R15). -/
def closeMeans (s : State) : State :=
  let a := s.link.acc
  let m : FrameMeans :=
    if a.n = 0 || isFenced .c s then { s.link.mean with n := 0 }
    else { n := a.n, vStr := divT a.vStr a.n, vBus := divT a.vBus a.n, iStr := divT a.iStr a.n, iSum := divT a.iSum a.n
           iPh := a.iPh.map fun x => divT x a.n }
  let b := s.frameAt - 1000000
  let l := s.link
  let s := { s with
    link := { l with mean := m, acc := {}, offReq := l.offReq && !l.offSent, offSent := false }
    sp := { s.sp with changed := false, loadStepFlag := false } }
  checkStage (watchLoad b (watchImbalance b s))

/-- Step 6 (R142, R166, R199): H writes limits, set-points and an accepted mode action to C. -/
def writeToC (dis chg : Int) (s : State) : State :=
  { s with sp := { s.sp with
      wDis := dis, wChg := chg
      wV := cfg Ent.SP_V_SET s, wI := cfg Ent.SP_I_SET s, wP := cfg Ent.SP_P_SET s
      req := if s.sp.accepted == .none then s.sp.req else s.sp.accepted
      accepted := .none } }

end Sys2Proof.Machine
end

