-- ==== Sys2Proof/Machine/Prot.lean ====
section
/-! DEFINITION. String protection, contactor sequences, dispatch and the cooling demand (08_protection_and_dispatch). Times in ns. -/
namespace Sys2Proof.Machine
open Sys2Proof

/-! ### Contactors (R196) -/

/-- The main positive, main negative and precharge contactors. -/
inductive Which where
  | main | neg | pre
  deriving DecidableEq, Repr, Inhabited

/-- A contactor. -/
def contactor (w : Which) (p : ProtRegs) : Contactor := match w with | .main => p.main | .neg => p.neg | .pre => p.pre

/-- Put a contactor. -/
def putContactor (w : Which) (c : Contactor) (p : ProtRegs) : ProtRegs :=
  match w with | .main => { p with main := c } | .neg => { p with neg := c } | .pre => { p with pre := c }

/-- The instance of a contactor (Table 22-3). -/
def Which.inst : Which → Nat
  | .main => 0 | .neg => 1 | .pre => 2

/-- The safe output of a contactor's coil. -/
def coilOutput (w : Which) (s : State) : Nat :=
  match w with | .main => cfgN Ent.PROT_SQ_POS s | .neg => cfgN Ent.PROT_SQ_NEG s | .pre => cfgN Ent.PROT_SQ_PRE s

/-- The input of a contactor's auxiliary contact; 0xFF is none. -/
def auxInput (w : Which) (s : State) : Nat :=
  match w with | .main => cfgN Ent.PROT_AUX_POS s | .neg => cfgN Ent.PROT_AUX_NEG s | .pre => cfgN Ent.PROT_AUX_PRE s

/-- All coils are off. -/
def coilsOff (s : State) : Bool := !s.prot.main.coil && !s.prot.neg.coil && !s.prot.pre.coil

/-- Command a coil (R196, R322): on is a new command for its output and counts in PROT_K_OPS. -/
def setCoil (w : Which) (on : Bool) (s : State) : State :=
  let c := contactor w s.prot
  if c.coil == on then s
  else
    withSq (fun s =>
      let s := if on then releaseSq (coilOutput w s) s else s
      let p := putContactor w { c with coil := on, coilAt := s.now } s.prot
      let s := { s with prot := { p with kOps := if on then incSat32 p.kOps else p.kOps } }
      if coilsOff s then { s with prot := { s.prot with offSince := s.now } } else s) s

/-- All three coils drop at once. -/
def dropCoils (s : State) : State := setCoil .main false (setCoil .pre false (setCoil .neg false s))

/-! ### Current (R194) -/

/-- I_C of the ended frame a..b, formed by H from the words of the coulomb channel under R83. -/
def frameIc (a b : Nat) (s : State) : Option Int :=
  let xs := samplesIn a b s
  if s.est.coulLost || unusableIn xs > 8 then none
  else some (divT (countsIn s.est.lastUse xs * cfg Ent.EST_SHUNT_LSB s) ((if xs.length < 31 then 32 else xs.length : Nat) * 1000))

/-- I_S of the ended frame: CVT_I_STAGE. -/
def frameIs (s : State) : Option Int := if s.link.mean.n > 0 && !isFenced .c s then some s.link.mean.iStr else none

/-- The current protection compares: I_C, else I_S. -/
def protI (s : State) : Option Int := match s.prot.iC with | some i => some i | none => s.prot.iS

/-- The break rule of R197: whether an open now is a break. -/
def isBreak (s : State) : Bool := match protI s with
  | some i => decide ((i.natAbs : Int) > cfg Ent.PROT_OPEN_I s)
  | none => true

/-- Count a break. -/
def countBreak (s : State) : State := { s with prot := { s.prot with breaks := incSat32 s.prot.breaks } }

/-! ### The end of a sequence -/

/-- A sequence runs or is about to start. -/
def seqRuns (s : State) : Bool := s.prot.result == .running || s.prot.seqWait

/-- The code of PROT_SEQ_RESULT. -/
def SeqResult.code : SeqResult → Nat
  | .none => 0 | .running => 1 | .complete => 2 | .failed => 3 | .aborted => 4

/-- The code of PROT_SEQ. -/
def SeqKind.code : SeqKind → Nat
  | .none => 0 | .precharge => 1 | .open_ => 2 | .emergency => 3

/-- A journal entry's work is complete. -/
def markDone (jseq : Nat) (s : State) : State :=
  { s with ses := { s.ses with journal := s.ses.journal.map fun j => if j.jseq == jseq then { j with done := true } else j } }

/-- The completion of a sequence command is journaled (R200 to R204). -/
def completeWork (j : Nat) (r : SeqResult) (s : State) : State :=
  journalCompletion j r.code [] s

/-- The sequence ends with a result; 0x5015 clears. -/
def endSeq (r : SeqResult) (s : State) : State :=
  if seqRuns s then
    let s := completeWork s.prot.seqJ r s
    let s := match s.prot.abortTo with
      | some j => completeWork j .failed s
      | none => s
    clearF 0x5015 wide { s with prot := { s.prot with
      result := r, seqWait := false, recheck := false, laneBy := none, abortTo := none } }
  else s

/-! ### Trips (R197) -/

/-- A trip: coils off, MODE OFF, PARKED, the latch, a running sequence FAILED (R197). A standby does not act on its evaluation
while it does not hold the lane (R362). -/
def trip (code inst : Nat) (s : State) : State :=
  guardOn (drives s) (fun s =>
  let s := raiseF code inst s
  let on := !coilsOff s
  let s := endSeq .failed s
  let s := if on && isBreak s then countBreak s else s
  let s := stopTo .parked (dropCoils s)
  let s := { s with link := { s.link with offReq := true } }
  if s.prot.tripped then s
  else { s with
    recd := { s.recd with trips := s.recd.trips + 1 }
    prot := { s.prot with tripped := true, cause := code, tripTime := s.now, tripInst := inst } }) s

/-- A trip where a condition holds. -/
def tripIf (p : Bool) (code inst : Nat) (s : State) : State := if p then trip code inst s else s

/-! ### Levels (R190 to R192) -/

/-- A persistence takes a value with its instant (R192). -/
def persist (beyond : Bool) (instant : Nat) (since : Option Nat) : Option Nat :=
  if beyond then (match since with | some t => some t | none => some instant) else none

/-- A persistence has lasted a time in ms. -/
def lasted (since : Option Nat) (ms now : Nat) : Bool := match since with | some t => t + ms * 1000000 ≤ now | none => false

/-- The protection state of position n. -/
def ppAt (n : Nat) (s : State) : PosProt := getAt s.prot.pos n

/-- Change it. -/
def modPp (n : Nat) (f : PosProt → PosProt) (s : State) : State :=
  { s with prot := { s.prot with pos := modAt s.prot.pos n f } }

/-- An enumeration failed, or its map did not match: every position 0 to STR_POS_COUNT - 1 counts as faulted (R27, R58), until a later
enumeration maps them; so it does while a member that acts waits for the identities that the map needs. -/
def unmappedFaulted (s : State) : Bool :=
  s.cells.map == .mismatch ||
  (s.cells.map == .unmapped && (s.chain.state == .failed || (s.chain.state == .enumerating && s.chctl.enumEnd != 0) ||
    (s.chctl.idWait && acts s)))

/-- The positions that protection counts. -/
def protPositions (s : State) : List Nat :=
  if unmappedFaulted s then List.range (cfgN Ent.STR_POS_COUNT s) else positions s

/-- A value of position n that has arrived since the last evaluation (R191, R192). -/
def takeCell (n : Nat) (s : State) : State :=
  let c := cellAt n s
  if !c.fresh then s
  else
    let v : Int := c.v
    let s := if c.vq.valid then modPp n (fun p => { p with
        v := some c.v
        ovWarn := persist (v > cfg Ent.PROT_OV_WARN s) c.instant p.ovWarn
        ovTrip := persist (v > cfg Ent.PROT_OV_TRIP s) c.instant p.ovTrip
        uvWarn := persist (v < cfg Ent.PROT_UV_WARN s) c.instant p.uvWarn
        uvTrip := persist (v < cfg Ent.PROT_UV_TRIP s) c.instant p.uvTrip }) s
      else s
    let s := if c.tq.valid then modPp n (fun p => { p with
        t := some c.t
        otWarn := persist (c.t > cfg Ent.PROT_OT_WARN s) c.instant p.otWarn
        otTrip := persist (c.t > cfg Ent.PROT_OT_TRIP s) c.instant p.otTrip }) s
      else s
    modCell n (fun c => { c with fresh := false }) s

/-- The warnings and trips of position n (Table 8-1). -/
def levelsOf (n : Nat) (s : State) : State :=
  let p := ppAt n s
  let w := cfgN Ent.PROT_V_WARN_T s
  let v := cfgN Ent.PROT_V_TRIP_T s
  let t := cfgN Ent.PROT_T_TRIP_T s
  let s := if lasted p.ovWarn w s.now then raiseF 0x5001 n s else s
  let s := if lasted p.uvWarn w s.now then raiseF 0x5003 n s else s
  let s := if lasted p.otWarn w s.now then raiseF 0x5005 n s else s
  let s := tripIf (lasted p.ovTrip v s.now) 0x5002 n s
  let s := tripIf (lasted p.uvTrip v s.now) 0x5004 n s
  tripIf (lasted p.otTrip t s.now) 0x5006 n s

/-! ### Faulted and silent positions (R193) -/

/-- The monitor silence time in ns. -/
def silenceNs (s : State) : Nat :=
  let t := cfgN Ent.PROT_SILENCE_T s
  (if tierAtLeast .limited s then t else max t 450) * 1000000

/-- A value last VALID at an instant, or never since it was mapped, has been silent for longer than a time. -/
def silentFor (last : Option Nat) (mapped t now : Nat) : Bool := (last.getD mapped) + t < now

/-- Position n is silent: no VALID voltage, or no VALID temperature, for the silence time. -/
def isSilent (n : Nat) (s : State) : Bool :=
  let c := cellAt n s
  silentFor c.lastValid s.prot.mappedAt (silenceNs s) s.now || silentFor c.lastValidT s.prot.mappedAt (silenceNs s) s.now

/-- Whether position n is faulted, its code, and the trip of a position that stays faulted (R193). -/
def faultPos (n : Nat) (s : State) : State :=
  let silent := !unmappedFaulted s && isSilent n s
  let faulted := unmappedFaulted s || silent || (cellAt n s).vq.nodeFault
  let s := modPp n (fun p => { p with
    faulted := faulted, silent := silent, faultSince := if p.faulted then p.faultSince else s.now }) s
  if faulted then
    let s := raiseF (if silent then 0x500E else 0x500F) n s
    tripIf (decide ((ppAt n s).faultSince + cfgN Ent.PROT_FAULT_TRIP_T s * 1000000 ≤ s.now)) 0x5010 n s
  else s

/-! ### Current levels and the cross-check (R194, R195) -/

/-- One source's frame mean against the current levels; `a` is the start of the ended frame. A frame in which the source is missing
neither ends nor confirms a persistence (R192). -/
def takeSource (a : Nat) (i : Option Int) (p : SrcProt) (s : State) : SrcProt :=
  match i with
  | none => p
  | some i =>
    { disWarn := persist (i > cfg Ent.PROT_OC_DIS_WARN s) a p.disWarn
      disTrip := persist (i > cfg Ent.PROT_OC_DIS_TRIP s) a p.disTrip
      chgWarn := persist (-i > cfg Ent.PROT_OC_CHG_WARN s) a p.chgWarn
      chgTrip := persist (-i > cfg Ent.PROT_OC_CHG_TRIP s) a p.chgTrip }

/-- The two sources disagree (R195). -/
def disagree (s : State) : Bool :=
  match s.prot.iC, s.prot.iS with
  | some c, some i =>
    decide (((c - i).natAbs : Int) > cfg Ent.PROT_XCHK_ABS s + divT (cfg Ent.PROT_XCHK_REL s * max (c.natAbs : Int) i.natAbs) 1000)
  | _, _ => false

/-- The currents of the ended frame a..b (R194, R195). -/
def takeCurrents (a b : Nat) (s : State) : State :=
  let iC := frameIc a b s
  let iS := frameIs s
  let p := s.prot
  let s := { s with prot := { p with
    iC := iC, iS := iS
    srcC := takeSource a iC p.srcC s
    srcS := takeSource a iS p.srcS s
    bothMissing := if iC.isNone && iS.isNone then persist true a p.bothMissing else none } }
  let s := { s with prot := { s.prot with xchkSince := persist (disagree s) a s.prot.xchkSince } }
  if iC.isNone != iS.isNone then raiseF 0x500D wide s else s

/-- The persistences of a source that is present in the ended frame: a missing one is not used (R194). -/
def usedSrc (i : Option Int) (p : SrcProt) : SrcProt := if i.isSome then p else {}

/-- Warnings and trips by current. -/
def currentLevels (s : State) : State :=
  let w := cfgN Ent.PROT_V_WARN_T s
  let t := cfgN Ent.PROT_OC_TRIP_T s
  let c := usedSrc s.prot.iC s.prot.srcC
  let i := usedSrc s.prot.iS s.prot.srcS
  let now := s.now
  let s := if lasted c.disWarn w now || lasted i.disWarn w now then raiseF 0x5007 wide s else s
  let s := if lasted c.chgWarn w now || lasted i.chgWarn w now then raiseF 0x5009 wide s else s
  let s := tripIf (lasted c.disTrip t now || lasted i.disTrip t now) 0x5008 wide s
  let s := tripIf (lasted c.chgTrip t now || lasted i.chgTrip t now) 0x500A wide s
  tripIf (lasted s.prot.bothMissing (cfgN Ent.PROT_FAULT_TRIP_T s) now) 0x5010 wide s

/-- XCHK_TIMEOUT (R195): the disagreement has lasted PROT_XCHK_T. -/
def execXchkTimeout (s : State) : Host.Outcome State Fault Refusal :=
  whenLiveK (fun s => guardOn (lasted s.prot.xchkSince (cfgN Ent.PROT_XCHK_T s) s.now) (raiseF 0x500C wide) s) s

/-! ### Welds (R196) -/

/-- Current flows with every coil off. -/
def weldCurrent (s : State) : Bool :=
  coilsOff s && (match s.prot.iC with | some i => decide ((i.natAbs : Int) > cfg Ent.PROT_WELD_I s) | none => false)

/-- Weld by current. -/
def weldByCurrent (a : Nat) (s : State) : State :=
  let watch := weldCurrent s && s.prot.offSince + cfgN Ent.PROT_K_OPEN_T s * 1000000 ≤ s.now
  let since := if s.prot.iC.isNone && coilsOff s then s.prot.weldSince else persist watch a s.prot.weldSince
  let s := { s with prot := { s.prot with weldSince := since } }
  tripIf (lasted since (cfgN Ent.PROT_WELD_T s) s.now) 0x5011 wide s

/-- What an auxiliary contact reads, while it is wired and valid (R316). -/
def auxReads (w : Which) (s : State) : Option Bool :=
  let n := auxInput w s
  if n ≤ 30 && diValid n s then some (diState n s) else none

/-- An auxiliary contact against its coil. -/
def checkAux (w : Which) (s : State) : State :=
  let c := contactor w s.prot
  let r := auxReads w s
  let c := if r = c.aux then c else { c with aux := r, auxAt := s.now }
  let s := { s with prot := putContactor w c s.prot }
  let since := max c.auxAt c.coilAt
  let beyond (ms : Nat) : Bool := since + ms * 1000000 < s.now
  match r with
  | some true => tripIf (!c.coil && beyond (cfgN Ent.PROT_K_OPEN_T s)) 0x5011 w.inst s
  | some false => tripIf (c.coil && beyond (cfgN Ent.PROT_K_CLOSE_T s)) 0x5012 w.inst s
  | none => s

/-! ### Pack voltage and the preconditions of R200 -/

/-- V_PACK in mV; none while it is not valid. -/
def vPack (s : State) : Option Int :=
  let ps := positions s
  if ps.isEmpty || ps.any (fun n => !(cellAt n s).vq.valid) then none
  else some (divT (sumI (ps.map fun n => ((cellAt n s).v : Int))) 10)

/-- Every mapped position is VALID and not faulted. -/
def allValid (s : State) : Bool :=
  let ps := positions s
  !ps.isEmpty && ps.all fun n => (cellAt n s).vq.valid && !(ppAt n s).faulted

/-- The first precondition of PRECHARGE_CLOSE that fails, as an access status; `lane` asks for a lane UP (R200, R351). -/
def prechargeRefusal (lane : Bool) (s : State) : Option Nat :=
  if !tierAtLeast .limited s then some stTier
  else if s.prot.tripped then some stBusy
  else if !allValid s || (lane && !(laneUp .l0 s || laneUp .l1 s)) || ratedCap s = 0 then some stAccess
  else if (protOutputs s).any (fun k => !sqEnabled k s) then some stAccess
  else none

/-! ### Sequences (R200 to R204) -/

/-- Move to a step at this instant. -/
def toStep (k : Nat) (s : State) : State := { s with prot := { s.prot with step := k, stepAt := s.now } }

/-- The string is PARKED after OPEN, STANDBY after PRECHARGE_CLOSE. -/
def arrive (m : Mode) (s : State) : State := { stopTo m s with sp := { (stopTo m s).sp with mode := m } }

/-- PRECHARGE_CLOSE fails with a code: all coils off. -/
def failPrecharge (code : Nat) (s : State) : State := endSeq .failed (dropCoils (raiseF code wide s))

/-- Steps 2 and 3 of OPEN, once the mode no longer runs: the current decides (R201). -/
def openCoils (s : State) : State := toStep 3 (setCoil .main false (setCoil .pre false s))

/-- The sequence's work at step 4 of a frame. -/
def seqFrame (s : State) : State :=
  let p := s.prot
  if p.result != .running then s
  else
    match p.seq with
    | .precharge =>
      if p.step = 1 then
        if s.link.mean.n > 0 && s.link.mean.vStr ≤ cfg Ent.PROT_WELD_V s then toStep 2 (setCoil .neg true s) else s
      else if p.step = 4 then
        match vPack s with
        | some v =>
          if s.link.mean.n > 0 && ((v - s.link.mean.vStr).natAbs : Int) ≤ divT (v * cfg Ent.PROT_PRE_TOL s) 1000 then
            toStep 5 (setCoil .main true s)
          else s
        | none => s
      else s
    | .open_ =>
      let s := if p.step = 1 then (if s.sp.mode.running then orderDown true s else toStep 2 s) else s
      if s.prot.step = 2 then
        match protI s with
        | some i => if (i.natAbs : Int) ≤ cfg Ent.PROT_OPEN_I s then openCoils s else s
        | none => s
      else s
    | .emergency => s
    | .none => s

/-- A sequence begins at a frame boundary (Tables 8-2 and 8-3). -/
def startSeq (s : State) : State :=
  if !s.prot.seqWait then s
  else
    let s := { s with prot := { s.prot with seqWait := false, result := .running } }
    let s := toStep 1 s
    if s.prot.seq == .open_ then orderDown true s else s

/-- A waiting sequence starts, once its recheck and its lane check allow (R200, R204, R351). -/
def beginSeq (s : State) : State :=
  let p := s.prot
  if !p.seqWait then s
  else if p.seq != .precharge then startSeq s
  else
    let laneOk := laneUp .l0 s || laneUp .l1 s
    let waiting := match p.laneBy with | some t => !laneOk && decide (s.now < t) | none => false
    if waiting then s
    else if (p.recheck || p.laneBy.isSome) && (prechargeRefusal true s).isSome then
      endSeq .failed (raiseF 0x5014 wide s)
    else startSeq { s with prot := { s.prot with recheck := false, laneBy := none } }

/-- A PARKED command during PRECHARGE_CLOSE: it ends ABORTED, and OPEN runs from step 2 (R203). -/
def abortSeq (s : State) : State :=
  match s.prot.abortTo with
  | none => s
  | some j =>
    let s := endSeq .aborted { s with prot := { s.prot with abortTo := none } }
    toStep 2 { s with prot := { s.prot with seq := .open_, result := .running, seqJ := j } }

/-- The present step began at least so many ms ago. -/
def stepFor (ms : Nat) (s : State) : Bool := s.prot.stepAt + ms * 1000000 ≤ s.now

/-- A sequence stands in one of its steps. -/
def inStep (k : SeqKind) (step : Nat) (s : State) : Bool := s.prot.result == .running && s.prot.seq == k && s.prot.step == step

/-- The time that the present step of a sequence waits (Tables 8-2 and 8-3). -/
def stepTime (s : State) : Nat :=
  match s.prot.seq, s.prot.step with
  | .precharge, 6 => cfgN Ent.PROT_K_OPEN_T s
  | .precharge, _ => cfgN Ent.PROT_K_CLOSE_T s
  | _, _ => cfgN Ent.PROT_K_OPEN_T s

/-- SEQUENCE_TIMER (R200, R201): the time of the present step has passed. -/
def sequenceTimer (s : State) : State :=
  guardOn (s.prot.result == .running && stepFor (stepTime s) s) (fun s =>
    match s.prot.seq, s.prot.step with
    | .precharge, 2 =>
      if s.link.mean.vStr ≤ cfg Ent.PROT_WELD_V s then toStep 4 (setCoil .pre true s) else trip 0x5011 wide s
    | .precharge, 5 => toStep 6 (setCoil .pre false s)
    | .precharge, 6 => arrive .standby (endSeq .complete (toStep 7 s))
    | .open_, 3 => toStep 4 (setCoil .neg false s)
    | .open_, 4 => arrive .parked (endSeq .complete (toStep 5 s))
    | _, _ => s) s

/-- SEQUENCE_TIMER (R200). -/
def execSequenceTimer (s : State) : Host.Outcome State Fault Refusal := whenLiveK sequenceTimer s

/-- DISCHARGE_WAIT_TIMEOUT (Table 8-2, step 1). -/
def execDischargeWaitTimeout (s : State) : Host.Outcome State Fault Refusal :=
  whenLiveK (fun s => guardOn (inStep .precharge 1 s && stepFor (cfgN Ent.PROT_DISCH_WAIT s) s) (failPrecharge 0x5014) s) s

/-- PRECHARGE_TIMEOUT (Table 8-2, step 5). -/
def execPrechargeTimeout (s : State) : Host.Outcome State Fault Refusal :=
  whenLiveK (fun s => guardOn (inStep .precharge 4 s && stepFor (cfgN Ent.PROT_PRE_TIMEOUT s) s) (failPrecharge 0x5013) s) s

/-- OPEN_WAIT_TIMEOUT (Table 8-3, step 3): the coils open under load. -/
def execOpenWaitTimeout (s : State) : Host.Outcome State Fault Refusal :=
  whenLiveK (fun s =>
    guardOn (inStep .open_ 2 s && stepFor (cfgN Ent.PROT_OPEN_WAIT s) s)
      (fun s => openCoils (raiseF 0x5016 wide (countBreak s))) s) s

/-- EMERGENCY_OPEN (R202, R203): S drops the three coils at once. -/
def emergencyOpen (s : State) : State :=
  let s := stopTo .parked (dropCoils (endSeq .failed s))
  { s with
    link := { s.link with offReq := true }
    prot := { s.prot with seq := .emergency, step := 0, result := .complete } }

/-- A sequence command is committed under a JSEQ (R200, R201, R203): it starts at the next frame boundary. 0x5014 clears. -/
def acceptSeq (k : SeqKind) (j cmd : Nat) (s : State) : State :=
  let s := clearF 0x5014 wide s
  let s := { s with prot := { s.prot with openWork := s.prot.openWork ++ [(j, cmd)] } }
  if seqRuns s then { s with prot := { s.prot with abortTo := some j } }
  else { s with prot := { s.prot with seq := k, seqJ := j, seqWait := true, step := 0, resumed := false, recheck := false
                                      result := .none } }

/-- At tier LIMITED the sequences accepted and not complete: the newest runs again, older ones end ABORTED (R204). -/
def resumeSeq (s : State) : State :=
  match s.prot.openWork.reverse with
  | [] => s
  | (j, cmd) :: older =>
    let s := forAll older.reverse (fun w s => completeWork w.1 .aborted s) s
    let k : SeqKind := if cmd = 0 then .open_ else .precharge
    raiseF 0x5015 wide { s with prot := { s.prot with
      seq := k, seqJ := j, seqWait := true, step := 0, resumed := true, recheck := true, result := .none } }

/-- An uncommanded open at the next frame (R329, R221): PARKED, the sequence FAILED. -/
def uncommandedOpen (s : State) : State :=
  let s := endSeq .failed s
  let s := if isBreak s then countBreak s else s
  stopTo .parked (dropCoils s)

/-! ### Step 4 (R191) -/

/-- Step 4 of the frame a..b: values, levels, faults, currents, welds, sequences. -/
def protStep (a b : Nat) (s : State) : State :=
  guardOn (tierAtLeast .watch s && !isFenced .h s) (fun s =>
    let s := takeCurrents a b s
    let lost := s.dio.dropped && drives s
    let s := { s with dio := { s.dio with dropped := false } }
    let s := if lost then uncommandedOpen s else s
    let s := if drives s && s.saf.newDemand then
        stopTo .parked (dropCoils (endSeq .failed { s with saf := { s.saf with newDemand := false } })) else s
    let s := forAll (protPositions s) (fun n s => faultPos n (levelsOf n (takeCell n s))) s
    let s := currentLevels s
    let s := weldByCurrent a s
    let s := forAll [Which.main, .neg, .pre] checkAux s
    if drives s then seqFrame (beginSeq (abortSeq s)) else s) s

/-! ### The trip latch (R197) -/

/-- A trip condition is present (R197). -/
def tripPresent (s : State) : Bool :=
  let beyondI : Option Int → Bool := fun
    | some i => i > cfg Ent.PROT_OC_DIS_TRIP s || -i > cfg Ent.PROT_OC_CHG_TRIP s
    | none => false
  (protPositions s).any (fun n =>
    let p := ppAt n s
    p.faulted ||
    (match p.v with | some v => decide ((v : Int) > cfg Ent.PROT_OV_TRIP s) || decide ((v : Int) < cfg Ent.PROT_UV_TRIP s) | none => false) ||
    (match p.t with | some t => decide (t > cfg Ent.PROT_OT_TRIP s) | none => false)) ||
  beyondI s.prot.iC || beyondI s.prot.iS || (s.prot.iC.isNone && s.prot.iS.isNone) || weldCurrent s ||
  [Which.main, .neg, .pre].any (fun w => !(contactor w s.prot).coil && auxReads w s == some true)

/-- PROT_TRIP_RESET takes effect: the latch and the trip codes clear. -/
def tripReset (s : State) : State :=
  let s := forAll [0x5002, 0x5004, 0x5006, 0x5008, 0x500A, 0x5010, 0x5011, 0x5012] clearAll s
  { s with prot := { s.prot with tripped := false, cause := 0 } }

/-- At tier WATCH after a restart, a kept latch raises its trip code again (R197, R470). -/
def raiseLatch (s : State) : State := if s.prot.tripped then raiseAt s.prot.tripTime s.prot.cause s.prot.tripInst s else s

/-! ### State of power: step 5 (R199, R208) -/

/-- Phases not set in CVT_PHASE_FAULTED. -/
def phasesLeft (s : State) : Nat := ((List.range (cfgN Ent.CVT_PHASES s)).filter fun j => !bitOf s.link.faulted j).length

/-- stage_max of R199. -/
def stageMax (s : State) : Int := (s.link.stage.iRated * phasesLeft s : Nat)

/-- est_ok of R199. -/
def estOk (s : State) : Bool := !isFenced .e s && ratedCap s ≠ 0 && s.est.state != .off

/-- The terms d and c of one position (R199); none where it gives both limits 0. -/
def posLimits (i : Int) (n : Nat) (s : State) : Option (Int × Int) :=
  let p := ppAt n s
  match p.faulted, p.v, p.t with
  | false, some v, some t =>
    let r := if estOk s && (ctxAt n s).rCount ≥ 4 then rdcAtTemp n s else cfg Ent.PROT_R_FALLBACK s
    let voc := wrapS 32 (v + divT (i * r) 100000)
    let d := max 0 (divT ((voc - cfg Ent.PROT_UV_LIMIT s) * 100000) r)
    let c := max 0 (divT ((cfg Ent.PROT_OV_LIMIT s - voc) * 100000) r)
    let (d, c) :=
      match (if estOk s then repSoc n s else none) with
      | some soc =>
        let unc : Int := pubUnc n s
        let taper := cfg Ent.PROT_SOC_TAPER s
        let kd := clampI 0 65536 (divT ((soc - unc - cfg Ent.PROT_SOC_MIN s) * 65536) taper)
        let kc := clampI 0 65536 (divT ((cfg Ent.PROT_SOC_MAX s - soc - unc) * 65536) taper)
        (divT (d * kd) 65536, divT (c * kc) 65536)
      | none => (d, c)
    let otl := cfg Ent.PROT_OT_LIMIT s
    let tcn := cfg Ent.PROT_T_CHG_MIN s
    let kt := clampI 0 65536 (divT ((otl - t) * 65536) (otl - cfg Ent.PROT_TD_START s))
    let kc := min kt (clampI 0 65536 (divT ((t - tcn) * 65536) (cfg Ent.PROT_T_CHG_FULL s - tcn)))
    some (divT (d * kt) 65536, divT (c * kc) 65536)
  | _, _, _ => none

/-- The limits before the rise rule (R194, R195, R199). -/
def rawLimits (s : State) : Int × Int :=
  let top : Int × Int := (min (cfg Ent.PROT_I_DIS_MAX s) (stageMax s), min (cfg Ent.PROT_I_CHG_MAX s) (stageMax s))
  match protI s with
  | none => (0, 0)
  | some i =>
    let l := (protPositions s).foldl (fun (l : Int × Int) n =>
      match posLimits i n s with
      | some (d, c) => (min l.1 d, min l.2 c)
      | none => (0, 0)) top
    if isActive 0x500C wide s then (min l.1 (cfg Ent.PROT_XCHK_I s), min l.2 (cfg Ent.PROT_XCHK_I s)) else l

/-- Q_d and Q_c of R208 in mAh; none where the energies read 0. -/
def energies (s : State) : Option (Nat × Nat) :=
  let ps := positions s
  if !estOk s || ps.isEmpty || ps.any (fun n => (repSoc n s).isNone) then none
  else
    let q (f : Nat → Int) : Nat :=
      let xs := ps.map fun n => (divT (max 0 (f n) * capOf n s) 10000).toNat
      xs.foldl min (xs.headD 0)
    some (q (fun n => ((repSoc n s).getD 0 : Int) - pubUnc n s - cfg Ent.PROT_SOC_MIN s),
          q (fun n => cfg Ent.PROT_SOC_MAX s - (repSoc n s).getD 0 - pubUnc n s))

/-- Step 5: limits, powers and energies are published. -/
def sopStep (s : State) : State :=
  guardOn (tierAtLeast .watch s && !isFenced .h s) (fun s =>
    let (d, c) := rawLimits s
    let rise := cfg Ent.PROT_SOP_RISE s
    let dis := min d (s.prot.dis + rise)
    let chg := min c (s.prot.chg + rise)
    let v := if parked s then (vPack s).getD 0 else s.link.mean.vStr
    let (ed, ec) := match energies s, vPack s with
      | some (qd, qc), some v => ((divT (qd * v) 1000000).toNat, (divT (qc * v) 1000000).toNat)
      | _, _ => (0, 0)
    { s with prot := { s.prot with
        dis := dis, chg := chg, pDis := divT (dis * v) 1000000, pChg := divT (chg * v) 1000000, eDis := ed, eChg := ec } }) s

/-- I_cap of R339. -/
def tierCap (s : State) : Int := divT (s.link.stage.iRated * cfgN Ent.CVT_PHASES s : Nat) 4

/-- The limits dispatch and step 6 use: clamped in tier LIMITED (R339). -/
def cappedLimits (s : State) : Int × Int :=
  if s.sys.tier == .limited then (min s.prot.dis (tierCap s), min s.prot.chg (tierCap s)) else (s.prot.dis, s.prot.chg)

/-- Step 6: the limits, rising at PROT_SOP_RISE after the cap lifts (R339), the set-points and an accepted mode action. -/
def limitsToC (s : State) : State :=
  let (d, c) := cappedLimits s
  let rise := cfg Ent.PROT_SOP_RISE s
  if isFenced .h s then s else writeToC (min d (s.sp.wDis + rise)) (min c (s.sp.wChg + rise)) (lossAction s)

/-- PROT_STATE (R198): 0 NORMAL, 1 WARNING, 2 LIMITING, 3 TRIPPED. -/
def protState (s : State) : Nat :=
  if s.prot.tripped then 3
  else if s.prot.dis < min (cfg Ent.PROT_I_DIS_MAX s) (stageMax s) || s.prot.chg < min (cfg Ent.PROT_I_CHG_MAX s) (stageMax s) then 2
  else if [0x5001, 0x5003, 0x5005, 0x5007, 0x5009].any (fun c => anyActive c s) then 1
  else 0

/-! ### Dispatch (R206 to R209) -/

/-- A dispatch write matches the running mode. -/
def dispatchMatches (power : Bool) (s : State) : Bool :=
  if power then s.sp.mode == .stringPower else s.sp.mode == .stringCurrent

/-- The granted rest window runs (R209). -/
def restOpen (s : State) : Bool := match s.dsp.restEnd with | some t => decide (s.now < t) | none => false

/-- The grant for a value (R206): the request, or the target of the source in force (R168), clamped; 0 in a rest window. -/
def grantOf (power : Bool) (x : Int) (s : State) : Int :=
  let (d, c) := cappedLimits s
  if restOpen s then 0
  else if power then clampI (-(divT (c * s.link.mean.vStr) 1000000)) (divT (d * s.link.mean.vStr) 1000000) x
  else clampI (-c) d x

/-- A matching write stays in force: the request and its grant (R206), and the silence is counted from it (R207). -/
def dispatchTaken (w : DspWrite) (g : Int) (s : State) : State :=
  clearF 0x5017 wide (if w.power then { s with dsp := { s.dsp with pReq := w.value, pGrant := g, silentFrom := some s.now } }
    else { s with dsp := { s.dsp with iReq := w.value, iGrant := g, silentFrom := some s.now } })

/-- Step 7: a matching write acts (R206). -/
def dispatchWrite (w : DspWrite) (s : State) : State :=
  let g := grantOf w.power w.value s
  let s := if w.power then setCfgI Ent.SP_P_SET 0 g (setCfgI Ent.DSP_P_REQ 0 w.value s)
    else setCfgI Ent.SP_I_SET 0 g (setCfgI Ent.DSP_I_REQ 0 w.value s)
  keep (dispatchTaken w g) s

/-- The value it is answered with: its own grant, or the one of the source in force (R168, R206). -/
def dispatchAnswer (w : DspWrite) (s : State) : Int :=
  match selected s with
  | none => grantOf w.power w.value s
  | some _ => grantOf w.power (targetOf s.sp.mode s) s

/-- The silence of R207 is watched: DSP_TIMEOUT above 0, and SP_SOURCE DICT. -/
def dispatchWatched (s : State) : Bool := cfgN Ent.DSP_TIMEOUT s > 0 && cfgN Ent.SP_SOURCE s = 0

/-- Each frame: the silence counts from the moment from which it is watched (R207). -/
def dispatchWatch (s : State) : State :=
  let on := dispatchWatched s
  { s with dsp := { s.dsp with armed := on, silentFrom := if on && !s.dsp.armed then some s.now else s.dsp.silentFrom } }

/-- A silence of DSP_TIMEOUT has passed in STRING_CURRENT or STRING_POWER (R207). -/
def dispatchSilent (s : State) : Bool :=
  dispatchWatched s && (s.sp.mode == .stringCurrent || s.sp.mode == .stringPower) &&
  (match s.dsp.silentFrom with | some t => decide (t + cfgN Ent.DSP_TIMEOUT s * 1000000 ≤ s.now) | none => false)

/-- DISPATCH_TIMEOUT (R207): once for a silence. -/
def dispatchTimeout (s : State) : State :=
  guardOn (dispatchSilent s) (fun s =>
    let s := keep (fun s => raiseF 0x5017 wide { s with dsp := { s.dsp with silentFrom := none } }) s
    match cfgN Ent.DSP_TIMEOUT_ACT s with
    | 0 => s
    | 1 => if s.sp.mode == .stringPower then setCfgI Ent.SP_P_SET 0 0 s else setCfgI Ent.SP_I_SET 0 0 s
    | _ => keep (orderDown false) s) s

/-- DISPATCH_TIMEOUT (R207). -/
def execDispatchTimeout (s : State) : Host.Outcome State Fault Refusal := whenLive dispatchTimeout s

/-- DSP_REST_GRANT takes effect (R209): a duration in minutes from the next frame on; 0 ends the window. -/
def restGrant (min_ : Nat) (s : State) : State :=
  { s with dsp := { s.dsp with restEnd := if min_ = 0 then none else some (s.frameAt + 1000000 + min_ * 60000000000) } }

/-- DSP_REST_REMAIN: the minutes that remain, a part counting as one. -/
def restRemain (s : State) : Nat := match s.dsp.restEnd with | some t => (t - s.now + 59999999999) / 60000000000 | none => 0

/-- REST_WINDOW_END (R209): the granted window has run out. -/
def restWindowEnd (s : State) : State := if restOpen s then s else { s with dsp := { s.dsp with restEnd := none } }

/-- REST_WINDOW_END (R209). -/
def execRestWindowEnd (s : State) : Host.Outcome State Fault Refusal := whenLiveK restWindowEnd s

/-! ### Pack cooling (R210) -/

/-- Linear interpolation over the cooling curve, clamped at its ends. -/
def coolingCurve (t : Int) : List (Int × Int) → Int
  | (t0, d0) :: (t1, d1) :: r =>
    if t ≤ t0 then d0 else if t < t1 then d0 + divT ((t - t0) * (d1 - d0)) (t1 - t0) else coolingCurve t ((t1, d1) :: r)
  | [(_, d)] => d
  | [] => 0

/-- The cooling demand D in 0.1 %. -/
def coolingDemand (s : State) : Nat :=
  let ts := ((positions s).filter fun n => (cellAt n s).tq.valid).map fun n => (cellAt n s).t
  match ts with
  | [] => 1000
  | t :: r =>
    (coolingCurve (r.foldl max t)
      [(cfg Ent.PROT_TM_T0 s, cfg Ent.PROT_TM_D0 s), (cfg Ent.PROT_TM_T1 s, cfg Ent.PROT_TM_D1 s),
       (cfg Ent.PROT_TM_T2 s, cfg Ent.PROT_TM_D2 s), (cfg Ent.PROT_TM_T3 s, cfg Ent.PROT_TM_D3 s)]).toNat

/-- The demand and the cooling outputs of this frame. -/
def coolingStep (s : State) : State :=
  guardOn (tierAtLeast .watch s && !isFenced .h s && drives s) (fun s =>
    let d := coolingDemand s
    let on := if d ≥ cfgN Ent.PROT_TM_ON s then true else if d < cfgN Ent.PROT_TM_OFF s then false else s.dio.tmOn
    { s with prot := { s.prot with tmD := d }, dio := { s.dio with tmOn := on } }) s

/-- PROT_COILS. -/
def coilsOf (s : State) : Nat :=
  b2n s.prot.main.coil + 2 * b2n s.prot.neg.coil + 4 * b2n s.prot.pre.coil +
  16 * b2n (auxReads .main s == some true) + 32 * b2n (auxReads .neg s == some true) + 64 * b2n (auxReads .pre s == some true)

end Sys2Proof.Machine
end

