-- ==== Sys2Proof/Machine/Can.lean ====
section
/-! DEFINITION. The container message bus (12_message_bus): bit timing, buffers, filters and the FIFO, transmission and its
results, error counters and bus-off, sleep and wake. -/
namespace Sys2Proof.Machine
open Sys2Proof

/-- The number of a channel, from 0. -/
def chNo : CanCh → Nat
  | .can1 => 0
  | .can2 => 1

/-- A channel. -/
def chan (c : Nat) (s : State) : CanChan := getAt s.can.ch c

/-- Change a channel. -/
def modChan (c : Nat) (f : CanChan → CanChan) (s : State) : State := { s with can := { s.can with ch := modAt s.can.ch c f } }

/-! ### Bit timing (R292) -/

/-- The prescaler: the smallest p for which 80 MHz / (p × rate) is a whole number of at most `nmax` quanta. -/
def prescaler (rate nmax : Nat) : Option Nat :=
  (upTo 1 640).find? fun p => 80000000 % (p * rate) == 0 && 80000000 / (p * rate) ≤ nmax

/-- TSEG1, TSEG2 and SJW of a phase from its rate, sample point (0.1 %) and configured SJW; none where the rate is refused. -/
def bitTiming (rate sp sjw nmax : Nat) : Option (Nat × Nat × Nat × Nat) :=
  match if rate == 0 then none else prescaler rate nmax with
  | none => none
  | some p =>
    let n := 80000000 / (p * rate)
    let q := (divRound (n * sp : Nat) 1000).toNat
    if n < 8 then none else some (p, q - 1, n - q, min (n - q) sjw)

/-- The rates of a channel are allowed (Table 12-1). -/
def ratesOk (c : Nat) (s : State) : Bool :=
  let n := cfgN Ent.CAN_NBR s c
  let d := cfgN Ent.CAN_DBR s c
  (bitTiming n (cfgN Ent.CAN_NSP s c) (cfgN Ent.CAN_NSJW s c) 80).isSome
    && (!cfgB Ent.CAN_FD s c || (n ≤ d && (bitTiming d (cfgN Ent.CAN_DSP s c) (cfgN Ent.CAN_DSJW s c) 40).isSome))

/-- FRAME wake is accepted at four rates only (R305). -/
def wakeModeOk (c : Nat) (s : State) : Bool :=
  cfg Ent.CAN_WAKE_MODE s c != 1 || [125000, 250000, 500000, 1000000].contains (cfg Ent.CAN_NBR s c)

/-! ### Configuration of buffers and filters (R293, R294, R297) -/

/-- The channel that carries the object access protocol, and the one that carries the cooling frame. -/
def sesChannel (c : Nat) (s : State) : Bool := cfgN Ent.SES_CAN_CHANNEL s == c + 1
def tmChannel (c : Nat) (s : State) : Bool := cfgN Ent.CAN_TM_CHANNEL s == c + 1

/-- DIR of a buffer: 0 OFF, 1 RX, 2 TX; buffers 62 and 63 are TX where they are reserved (R297, R300). -/
def bufDir (c n : Nat) (s : State) : Nat :=
  if (n == 63 && sesChannel c s) || (n == 62 && tmChannel c s) then 2 else fieldU (cfgBytes Ent.CAN_MB_CFG s c) (4 * n) 1

/-- ONESHOT of a buffer. -/
def oneShot (c n : Nat) (s : State) : Bool :=
  !(n == 62 && tmChannel c s) && bitOf (fieldU (cfgBytes Ent.CAN_MB_CFG s c) (4 * n + 1) 1) 0

/-- One filter: identifier with IDE, mask, target, admitted formats. -/
structure CanFilter where
  id      : Nat
  ide     : Bool
  mask    : Nat
  target  : Nat
  formats : Nat
  deriving DecidableEq, Repr, Inhabited

/-- An identifier of 0 to 0x7FF stands in bits 28 to 18; a larger one is a 29-bit identifier (R297). -/
def idField (id : Nat) : Nat × Bool := if id ≤ 0x7FF then (id * 262144, false) else (id % 536870912, true)

/-- Filter `n` of a channel; filter 63 takes SES_CAN_REQ_ID into the FIFO where the protocol uses the channel (R297). -/
def canFilter (c n : Nat) (s : State) : CanFilter :=
  if n == 63 && sesChannel c s then
    let (id, ide) := idField (cfgN Ent.SES_CAN_REQ_ID s)
    { id := id, ide := ide, mask := 0x1FFFFFFF, target := 0x40, formats := 3 }
  else
    let f := slice (cfgBytes Ent.CAN_FILTERS s c) (12 * n) 12
    { id := fieldU f 0 4 % 536870912, ide := bitOf (fieldU f 0 4) 31, mask := fieldU f 4 4 % 536870912,
      target := fieldU f 8 1, formats := fieldU f 9 1 }

/-- Every filter in use targets an RX buffer or the FIFO (R294). DEDUCED (log 27): an all-zero filter, the factory default,
admits no format and is not in use. -/
def filtersOk (c : Nat) (s : State) : Bool :=
  (List.range 64).all fun n =>
    let f := canFilter c n s
    f.formats % 4 == 0 || f.target == 0x40 || f.target == 0xFF || (f.target < 64 && bufDir c f.target s == 1)

/-- DIR is 0 to 2 in every record of CAN_MB_CFG. -/
def mbCfgOk (c : Nat) (s : State) : Bool := (List.range 64).all fun n => fieldU (cfgBytes Ent.CAN_MB_CFG s c) (4 * n) 1 ≤ 2

/-- The rules between the CAN entries. -/
def canRulesOk (s : State) : Bool := [0, 1].all fun c => ratesOk c s && wakeModeOk c s && filtersOk c s && mbCfgOk c s

/-! ### State shown -/

/-- The code of a RESULT. -/
def TxRes.code : TxRes → Nat
  | .idle => 0 | .pending => 1 | .sent => 2 | .lostArb => 3 | .noAck => 4 | .error => 5 | .busOff => 6 | .aborted => 7

/-- A channel is held recessive. -/
def canFenced (c : Nat) (s : State) : Bool := isFenced .b s || (chan c s).mode == .fenced

/-- CAN_STATE (Table 12-5). -/
def canState (c : Nat) (s : State) : Nat :=
  if canFenced c s then 6
  else if cfg Ent.CAN_ENABLE s c == 0 then 0
  else match (chan c s).mode with
    | .run => if 128 ≤ (chan c s).tec || 128 ≤ (chan c s).rec_ then 2 else 1
    | .busOff => 3
    | .recovering => 4
    | .sleep => 5
    | .fenced => 6

/-- The channel takes part on its bus. -/
def canActive (c : Nat) (s : State) : Bool := canState c s == 1 || canState c s == 2

/-- The channel may send: active, and in NORMAL mode (R304). -/
def canSends (c : Nat) (s : State) : Bool := canActive c s && cfg Ent.CAN_ENABLE s c == 1

/-- Bytes a DLC stands for (ISO 11898-1). -/
def dlcLen (fd : Bool) (dlc : Nat) : Nat :=
  if dlc ≤ 8 then dlc else if !fd then 8 else [12, 16, 20, 24, 32, 48, 64].getD (dlc - 9) 64

/-- The smallest DLC that holds `n` bytes. -/
def dlcFor (n : Nat) : Nat := ((List.range 16).find? fun d => n ≤ dlcLen true d).getD 15

/-- The 80 bytes of Table 12-2. -/
def msgBytes (m : MsgBuf) : List Byte :=
  toBytes 4 (b2n m.ide * 2147483648 + b2n m.fdf * 1073741824 + b2n m.brs * 536870912 + m.id)
    ++ toBytes 1 (b2n m.esi * 128 + m.dlc) ++ toBytes 1 (m.filter.getD m.res.code) ++ toBytes 1 (b2n m.ovl * 128) ++ [0#8]
    ++ toBytes 8 (time64 m.stamp) ++ (m.data ++ List.replicate 64 0#8).take 64

/-- CAN_MB_IMAGE. -/
def mbImage (c : Nat) (s : State) : List Byte := (chan c s).image.toList.flatMap msgBytes

/-- CAN_STATS. -/
def canStats (c : Nat) (s : State) : List Byte :=
  let x := chan c s
  [x.received, x.sent, x.errors, x.arbLost, x.fifoLost, x.ovls, x.unfiltered, x.busOffs].flatMap (toBytes 4)

/-! ### Faults of a channel (Table 12-7) -/

/-- 0x6803 or 0x6804 follow the error counters. -/
def passiveFault (c : Nat) (s : State) : State :=
  setF (128 ≤ (chan c s).tec || 128 ≤ (chan c s).rec_) (0x6803 + c) wide s

/-- A channel is fenced until reset (R307). -/
def fenceChan (c : Nat) (s : State) : State :=
  if (chan c s).mode == .fenced then s else raiseF (0x680B + c) wide (modChan c (fun x => { x with mode := .fenced }) s)

/-! ### Reception (R290, R294, R295) -/

/-- The frame as Table 12-2 stores it. -/
def ofFrame (f : CanFrame) (filter : Nat) (s : State) : MsgBuf :=
  let n := if f.fd then 64 else 8
  let data := f.data.take n
  { ide := f.ext, fdf := f.fd, brs := f.brs, id := if f.ext then f.id % 536870912 else f.id % 2048 * 262144,
    dlc := dlcFor data.length, filter := some filter, stamp := s.now, data := data }

/-- The first filter that admits a message (R294). -/
def matchFilter (c : Nat) (m : MsgBuf) (s : State) : Option Nat :=
  (List.range 64).find? fun n =>
    let f := canFilter c n s
    f.target != 0xFF && Nat.land (Nat.xor m.id f.id) f.mask == 0 && m.ide == f.ide && bitOf f.formats (if m.fdf then 1 else 0)

/-- Store a message into an RX buffer: a store that finds ND set marks OVL and counts the loss (R295). -/
def storeBuf (c n : Nat) (m : MsgBuf) (s : State) : State :=
  let lost := bitOf (chan c s).nd n
  let s := modChan c (fun x =>
    { x with bufs := setAt x.bufs n { m with ovl := lost }
             nd := if lost then x.nd else x.nd + 2 ^ n
             ovls := if lost then incSat32 x.ovls else x.ovls }) s
  if lost then raiseF (0x6807 + c) wide s else s

/-- Store a message into the FIFO: a full FIFO discards the newest (R295). -/
def storeFifo (c : Nat) (m : MsgBuf) (s : State) : State :=
  if (chan c s).fifo.length < 32 then modChan c (fun x => { x with fifo := x.fifo ++ [m] }) s
  else raiseF (0x6807 + c) wide (modChan c (fun x => { x with fifoLost := incSat32 x.fifoLost }) s)

/-- A frame received without error lowers REC by 1; above 127 it returns to 127 (ISO 11898-1, cited by R301; PRESUMED, log 158). -/
def recGood (r : Nat) : Nat := if 127 < r then 127 else r - 1

/-- A frame on the bus of a channel. -/
def canReceive (c : Nat) (f : CanFrame) (s : State) : State :=
  let listen := cfg Ent.CAN_ENABLE s c == 2
  if !canActive c s then s
  else if f.fd && !cfgB Ent.CAN_FD s c then
    if listen then s
    else passiveFault c (modChan c (fun x => { x with errors := incSat32 x.errors, rec_ := min (x.rec_ + 1) 255, lastErr := 2 }) s)
  else
    let s := passiveFault c (modChan c (fun x =>
      { x with received := incSat32 x.received, rec_ := if listen then x.rec_ else recGood x.rec_ }) s)
    let none_ := modChan c (fun x => { x with unfiltered := incSat32 x.unfiltered }) s
    if f.rtr then none_
    else match matchFilter c (ofFrame f 0 s) s with
      | none => none_
      | some n =>
        let m := ofFrame f n s
        let target := (canFilter c n s).target
        if target == 0x40 then storeFifo c m s
        else if bufDir c target s == 1 then storeBuf c target m s
        else none_

/-- CAN_FRAME_RECEIVE (R294). -/
def execCanFrameReceive (ch : CanCh) (f : CanFrame) (s : State) : Host.Outcome State Fault Refusal :=
  whenLiveK (canReceive (chNo ch) f) s

/-- The CAN service of the H island at step 3 (R296): every buffer with ND set is read, which clears ND; entries are taken from
the FIFO; CAN_MB_IMAGE is the copy. A store never overlaps a read here, since a command is one step. -/
def canService (s : State) : State :=
  forAll [0, 1] (fun c => modChan c fun x => { x with nd := 0, fifo := [], image := x.bufs }) s

/-! ### Transmission (R298 to R300, R303) -/

/-- A CAN_TX may name the buffer: it is a TX buffer and is not reserved. -/
def txBufOk (c n : Nat) (s : State) : Bool :=
  n < 64 && bufDir c n s == 2 && !(n == 63 && sesChannel c s) && !(n == 62 && tmChannel c s)

/-- A buffer is PENDING, or an accepted CAN_TX waits for it. -/
def txBusy (c n : Nat) (s : State) : Bool :=
  (getAt (chan c s).bufs n).res == .pending || (chan c s).toSend.any (·.1 == n)

/-- The message of a CAN_TX: BUF, bytes 0 to 4 of Table 12-2, and the data. -/
def txMsg (p : List Byte) : MsgBuf :=
  let w := fieldU p 1 4
  let dlc := fieldU p 5 1 % 16
  { ide := bitOf w 31, fdf := bitOf w 30, brs := bitOf w 29, id := w % 536870912, dlc := dlc,
    data := padRight (dlcLen (bitOf w 30) dlc) (p.drop 6) }
where
  /-- Cut or fill with zeros to `n` bytes. -/
  padRight (n : Nat) (bs : List Byte) : List Byte := (bs ++ List.replicate n 0#8).take n

/-- An accepted CAN_TX waits for the frame boundary (R298). -/
def canTxAccept (c : Nat) (p : List Byte) (s : State) : State :=
  modChan c (fun x => { x with toSend := x.toSend ++ [(fieldU p 0 1, txMsg p)] }) s

/-- The key by which identifiers win arbitration (ISO 11898-1): base identifier, then base before extended format, then the
extension; the lower wins. -/
def arbKey (m : MsgBuf) : Nat := m.id / 262144 * 524288 + b2n m.ide * 262144 + (if m.ide then m.id % 262144 else 0)

/-- The buffer offered at the next start of frame (R298): the pending identifier that wins arbitration, a tie to the lower number. -/
def offered (c : Nat) (s : State) : Option Nat :=
  (List.range 64).foldl (fun acc n =>
    let m := getAt (chan c s).bufs n
    if m.res != .pending then acc
    else match acc with
      | none => some n
      | some b => if arbKey m < arbKey (getAt (chan c s).bufs b) then some n else acc) none

/-- A message reaches its buffer: PENDING, or BUS_OFF until recovery ends (R301). The buffer offered
before it may be under way already. -/
def placeTx (c n : Nat) (m : MsgBuf) (s : State) : State :=
  let md := (chan c s).mode
  let off := md == .busOff || md == .recovering || (md == .sleep && 255 < (chan c s).tec)
  let first := offered c s
  modChan c (fun x => { x with
    wire := if x.wire.isSome then x.wire else first
    bufs := setAt x.bufs n { m with res := if off then .busOff else .pending } }) s

/-- The frame boundary: accepted CAN_TX reach their buffers. -/
def canBoundary (s : State) : State :=
  forAll [0, 1] (fun c s =>
    let due := (chan c s).toSend
    forAll due (fun d => placeTx c d.1 d.2) (modChan c (fun x => { x with toSend := [] }) s)) s

/-- No buffer of a channel is PENDING. -/
def noPending (c : Nat) (s : State) : Bool := (chan c s).bufs.toList.all (·.res != .pending)

/-- A channel asked to sleep sleeps once its pending buffers have ended (R305). DEDUCED (log 111): a channel in bus-off has none. -/
def settleSleep (c : Nat) (s : State) : State :=
  let m := (chan c s).mode
  if (chan c s).sleepReq && noPending c s && (m == .run || m == .busOff || m == .recovering) then
    modChan c (fun x => { x with mode := .sleep, sleepReq := false, frErr := 0 }) s
  else s

/-- The bus-off of R301: every pending buffer is released with BUS_OFF. -/
def busOff (c : Nat) (s : State) : State :=
  if !canSends c s then s
  else
    let s := modChan c (fun x =>
      { x with mode := .busOff, tec := 256, busOffs := incSat32 x.busOffs, offAt := s.now, wire := none
               bufs := x.bufs.map fun m => if m.res == .pending then { m with res := .busOff } else m }) s
    raiseF (0x6801 + c) wide s

/-- The code of CAN_LAST_ERROR. -/
def canErrNo : CanErr → Nat
  | .stuff => 1 | .form => 2 | .bit1 => 4 | .bit0 => 5 | .crc => 6

/-- End an attempt of a buffer: SENT always releases it; another result only in one-shot mode (R299). -/
def endAttempt (c n : Nat) (r : TxRes) (s : State) : State :=
  if r == .sent || oneShot c n s then
    settleSleep c (modChan c (fun x => { x with bufs := modAt x.bufs n fun m => { m with res := r, stamp := s.now } }) s)
  else s

/-- An attempt of a buffer can have been made: it is PENDING, and it wins arbitration now or won it before the last one came (R298). -/
def attempted (c n : Nat) (s : State) : Bool :=
  canSends c s && (getAt (chan c s).bufs n).res == .pending && (offered c s == some n || (chan c s).wire == some n)

/-- A transmission attempt ends (R299, R301, R303). -/
def txResult (c n : Nat) (res : TxOutcome) (s : State) : State :=
  if !attempted c n s then s
  else
    let s := modChan c (fun x => { x with wire := none }) s
    match res with
    | .sent =>
      let m := getAt (chan c s).bufs n
      let s := modChan c (fun x => { x with sent := incSat32 x.sent, tec := x.tec - 1, ackRun := 0 }) s
      let s := clearF (0x6805 + c) wide (passiveFault c s)
      endAttempt c n .sent (emit (.canFrame (if c == 0 then .can1 else .can2) m) s)
    | .lostArb => endAttempt c n .lostArb (modChan c (fun x => { x with arbLost := incSat32 x.arbLost }) s)
    | .noAck =>
      let s := modChan c (fun x =>
        { x with errors := incSat32 x.errors, lastErr := 3, ackRun := min (x.ackRun + 1) 16
                 tec := if 128 ≤ x.tec || 128 ≤ x.rec_ then x.tec else x.tec + 8 }) s
      let s := if 16 ≤ (chan c s).ackRun then raiseF (0x6805 + c) wide s else s
      endAttempt c n .noAck (passiveFault c s)
    | .error k =>
      let s := passiveFault c (modChan c (fun x => { x with errors := incSat32 x.errors, lastErr := canErrNo k, ackRun := 0, tec := x.tec + 8 }) s)
      if 255 < (chan c s).tec then busOff c s else endAttempt c n .error s

/-- CAN_TX_RESULT (R299). -/
def execCanTxResult (ch : CanCh) (buf : Fin 64) (res : TxOutcome) (s : State) : Host.Outcome State Fault Refusal :=
  whenLiveK (txResult (chNo ch) buf.val res) s

/-- BUS_OFF (R301): an error that takes TEC above 255 (Table 12-3). DEDUCED (log 144): one in the channel's own error flags, since the
error that ends an attempt comes with CAN_TX_RESULT. -/
def execBusOff (ch : CanCh) (s : State) : Host.Outcome State Fault Refusal :=
  whenLiveK (guardOn (255 < (chan (chNo ch) s).tec + 8) (busOff (chNo ch))) s

/-- The cooling frame (R300): the new content replaces the old in buffer 62. Where no cell temperature is VALID the manual
states no value for bytes 2 and 3: a free value. -/
def tmFrame (s : State) : State :=
  let ch := cfgN Ent.CAN_TM_CHANNEL s
  let c := ch - 1
  if ch == 0 || !(canState c s == 1 || canState c s == 2 || canState c s == 3 || canState c s == 4) || cfg Ent.CAN_ENABLE s c != 1 then s
  else
    let ts := ((positions s).filter fun n => (cellAt n s).tq.valid).map fun n => (cellAt n s).t
    let r : Int × State := match ts with
      | [] => drawFree s
      | t :: r => (r.foldl max t, s)
    let (t, s) := r
    let (id, ide) := idField (cfgN Ent.CAN_TM_ID s)
    let data := toBytes 2 s.prot.tmD ++ toBytesS 2 t ++ toBytes 1 s.can.tmCtr ++ toBytes 1 (protState s) ++ toBytes 2 0
    let s := { s with can := { s.can with tmCtr := (s.can.tmCtr + 1) % 256 } }
    placeTx c 62 { ide := ide, id := id, dlc := 8, data := data } s

/-- The cooling frame falls due every CAN_TM_PERIOD (R300). -/
def tmDue (s : State) : State :=
  guardOn (!isFenced .h s && cfgN Ent.CAN_TM_CHANNEL s != 0 && due s.can.tmAt (cfgN Ent.CAN_TM_PERIOD s * 1000000) s) (fun s =>
    tmFrame { s with can := { s.can with tmAt := some s.now } }) s

/-- TM_FRAME_SEND (R300). -/
def execTmFrameSend (s : State) : Host.Outcome State Fault Refusal := whenLiveK tmDue s

/-! ### Recovery (R302) -/

/-- Recovery from bus-off starts. -/
def startRecovery (c : Nat) (s : State) : State :=
  if canState c s == 3 then modChan c (fun x => { x with mode := .recovering, recAt := s.now }) s else s

/-- With AUTO, recovery starts CAN_RECOVERY_DELAY after the bus-off (R302). -/
def autoRecovery (c : Nat) (s : State) : State :=
  guardOn (cfg Ent.CAN_RECOVERY s c == 1 && decide ((chan c s).offAt + cfgN Ent.CAN_RECOVERY_DELAY s c * 1000000 ≤ s.now)) (startRecovery c) s

/-- AUTO_RECOVERY_DELAY (R302). -/
def execAutoRecoveryDelay (ch : CanCh) (s : State) : Host.Outcome State Fault Refusal := whenLiveK (autoRecovery (chNo ch)) s

/-- 128 times 11 bits have passed since recovery started, in ns at the arbitration rate (R302, Table 12-3). -/
def recoveryNs (c : Nat) (s : State) : Nat := 1408000000000 / cfgN Ent.CAN_NBR s c

/-- RECOVERY_COMPLETE (R302, Table 12-3): the counters are 0, the channel is ACTIVE, released buffers read IDLE. -/
def recoveryComplete (c : Nat) (s : State) : State :=
  if canState c s == 4 && decide ((chan c s).recAt + recoveryNs c s ≤ s.now) then
    let s := modChan c (fun x =>
      { x with mode := .run, tec := 0, rec_ := 0
               bufs := x.bufs.map fun m => if m.res == .busOff then { m with res := .idle } else m }) s
    passiveFault c (clearF (0x6801 + c) wide s)
  else s

/-- RECOVERY_COMPLETE (R302). -/
def execRecoveryComplete (ch : CanCh) (s : State) : Host.Outcome State Fault Refusal := whenLiveK (recoveryComplete (chNo ch)) s

/-! ### Sleep and wake (R305, R306) -/

/-- A sleep request (a write of 1 to CAN_SLEEP). -/
def sleepRequest (c : Nat) (s : State) : State := settleSleep c (modChan c (fun x => { x with sleepReq := true, sleepAt := s.now }) s)

/-- 100 ms after a sleep request, buffers still pending are released with ABORTED, and the transceiver sleeps (R305). -/
def sleepTimeout (c : Nat) (s : State) : State :=
  guardOn ((chan c s).sleepReq && decide ((chan c s).sleepAt + 100000000 ≤ s.now)) (fun s =>
    settleSleep c (modChan c (fun x =>
      { x with bufs := x.bufs.map fun m => if m.res == .pending then { m with res := .aborted } else m }) s)) s

/-- SLEEP_TIMEOUT (R305). -/
def execSleepTimeout (ch : CanCh) (s : State) : Host.Outcome State Fault Refusal := whenLiveK (sleepTimeout (chNo ch)) s

/-- A channel wakes; CAN_WAKE_CAUSE records why. A recovery from bus-off that had not ended is still due (R301; DEDUCED, log 111). -/
def wakeChan (c cause : Nat) (s : State) : State :=
  let s := modChan c (fun x => { x with sleepReq := false }) s
  if (chan c s).mode == .sleep then modChan c (fun x => { x with mode := if 255 < x.tec then .busOff else .run, wakeCause := cause }) s else s

/-- The module leaves PARKED: both channels wake (R305). -/
def canLeaveParked (s : State) : State := wakeChan 1 4 (wakeChan 0 4 s)

/-- Whether a sign on the bus wakes a sleeping channel, and the cause (R305). -/
def wakeSign (c : Nat) (w : WakeSign) (s : State) : Option Nat :=
  match w with
  | .dominant ns => if cfg Ent.CAN_WAKE_MODE s c == 0 && cfgN Ent.CAN_WAKE_FILT s c < ns then some 1 else none
  | .frameError => if cfg Ent.CAN_WAKE_MODE s c == 1 && 31 < (chan c s).frErr + 1 then some 3 else none
  | .frame f =>
    let m := ofFrame f 0 s
    let want := cfgN Ent.CAN_WAKE_ID s c
    let mask := cfgN Ent.CAN_WAKE_DATA_MASK s c
    let hit := cfg Ent.CAN_WAKE_MODE s c == 1 && !f.fd && m.ide == bitOf want 31
      && Nat.land (Nat.xor m.id (want % 536870912)) (cfgN Ent.CAN_WAKE_ID_MASK s c) == 0
      && f.data.length == cfgN Ent.CAN_WAKE_DLC s c
      && Nat.land (ofBytes ((f.data ++ List.replicate 8 0#8).take 8)) mask != 0
    if hit then some 2 else none

/-- The frame-error count of a sleeping transceiver: a frame in error adds 1, another classical frame takes 1 away, an FD frame leaves it
(R305; ISO 11898-2 that it cites, PRESUMED, log 135). -/
def countSign (c : Nat) (w : WakeSign) (s : State) : State :=
  modChan c (fun x => match w with
    | .dominant _ => x
    | .frameError => { x with frErr := x.frErr + 1 }
    | .frame f => if f.fd then x else { x with frErr := x.frErr - 1 }) s

/-- A sign on the bus of a sleeping channel. The frame or pattern that wakes it is not received; the wake goes to H, and to E as a wake of
R107 (R306). -/
def canSign (c : Nat) (w : WakeSign) (s : State) : State :=
  if canState c s != 5 then s
  else match wakeSign c w s with
    | none => countSign c w s
    | some cause => wakeE (wakeChan c cause s)

/-- CAN_WAKE (R306). -/
def execCanWake (ch : CanCh) (sign : WakeSign) (s : State) : Host.Outcome State Fault Refusal := whenLiveK (canSign (chNo ch) sign) s

/-- A TXD dominant time-out: 0x6809 or 0x680A; three within 1 s fence the channel (R307). -/
def txdTimeout (c : Nat) (s : State) : State :=
  guardOn (!canFenced c s) (fun s =>
    let ts := s.now :: (chan c s).txd.filter fun t => s.now < t + 1000000000
    let s := raiseF (0x6809 + c) wide (modChan c (fun x => { x with txd := ts.take 3 }) s)
    if 3 ≤ ts.length then fenceChan c s else s) s

/-- TXD_TIMEOUT (R307). -/
def execTxdTimeout (ch : CanCh) (s : State) : Host.Outcome State Fault Refusal := whenLiveK (txdTimeout (chNo ch)) s

/-- CAN_CONTROLLER_SELF_CHECK_FAIL (R307). -/
def execCanControllerSelfCheckFail (ch : CanCh) (s : State) : Host.Outcome State Fault Refusal :=
  whenLiveK (fenceChan (chNo ch)) s

end Sys2Proof.Machine
end

