-- ==== Sys2Proof/Machine/Net.lean ====
section
/-! DEFINITION. The plant network (11_plant_network_and_time R268 to R277): ports, forwarding, the buffer allocator, PRP, VLANs and the
endpoint's own protocols. A frame is its bytes from the destination address to the FCS. -/
namespace Sys2Proof.Machine
open Sys2Proof

/-! ### Frames -/

/-- The FCS over a frame's bytes (IEEE 802.3, cited by R268): CRC-32, least significant byte first. -/
def fcsOf (bs : List Byte) : List Byte :=
  (toBytes 4 ((bs.foldl (crcByte 0xEDB88320#32) 0xFFFFFFFF#32) ^^^ 0xFFFFFFFF#32).toNat).reverse

/-- A frame without its FCS. -/
def bodyOf (frame : List Byte) : List Byte := frame.take (frame.length - 4)

/-- The FCS of a received frame matches. -/
def fcsOk (frame : List Byte) : Bool := frame.drop (frame.length - 4) == fcsOf (bodyOf frame)

/-- Destination and source address. -/
def dstOf (f : List Byte) : List Byte := f.take 6
def srcOf (f : List Byte) : List Byte := slice f 6 6

/-- A frame carries a VLAN tag. -/
def tagged (f : List Byte) : Bool := fieldU f 12 2 == 0x8100

/-- PCP and VID of a tagged frame. -/
def pcpOf (f : List Byte) : Nat := fieldU f 14 2 / 8192
def vidOf (f : List Byte) : Nat := fieldU f 14 2 % 4096

/-- Where the EtherType stands, and the EtherType. -/
def etAt (f : List Byte) : Nat := if tagged f then 16 else 12
def etOf (f : List Byte) : Nat := fieldU f (etAt f) 2

/-- What follows the EtherType. -/
def payloadOf (f : List Byte) : List Byte := f.drop (etAt f + 2)

/-- A group (broadcast or multicast) address. -/
def isGroup (mac : List Byte) : Bool := bitOf (fieldU mac 0 1) 0

/-- An address of 01-80-C2-00-00-00 to 01-80-C2-00-00-0F (R269). -/
def isLinkLocal (mac : List Byte) : Bool := fieldU mac 0 6 / 16 == 0x0180C200000

/-- The broadcast address. -/
def broadcast : List Byte := List.replicate 6 0xFF#8

/-! ### Ports and LANs -/

/-- The number of a port, in NET_LINK order. -/
def portNo : Port → Nat
  | .a1 => 0 | .a2 => 1 | .b1 => 2 | .b2 => 3

/-- The port of a number. -/
def portOf : Nat → Port
  | 0 => .a1 | 1 => .a2 | 2 => .b1 | _ => .b2

/-- The LAN of a port number. -/
def lanOf (p : Nat) : Lan := if p < 2 then .a else .b

/-- The two port numbers of a LAN. -/
def portsOf : Lan → List Nat
  | .a => [0, 1]
  | .b => [2, 3]

/-- The other port of the same LAN. -/
def otherPort (p : Nat) : Nat := if p % 2 == 0 then p + 1 else p - 1

/-- A LAN is stopped: the N island is fenced (Table 19-2), or both ports of the LAN failed their self-check. -/
def lanStopped (l : Lan) (s : State) : Bool :=
  isFenced .n s || (match l with | .a => s.net.fenceA | .b => s.net.fenceB)

/-- A port has its link and its LAN runs. -/
def portUp (p : Nat) (s : State) : Bool := (getAt s.net.ports p).link && !lanStopped (lanOf p) s

/-- Change a port. -/
def modPort (p : Nat) (f : EthPort → EthPort) (s : State) : State :=
  { s with net := { s.net with ports := modAt s.net.ports p f } }

/-- The filtering database of a LAN. -/
def fdb (l : Lan) (s : State) : List FdbEntry := match l with | .a => s.net.fdbA | .b => s.net.fdbB

/-- Put the filtering database of a LAN. -/
def setFdb (l : Lan) (x : List FdbEntry) (s : State) : State :=
  match l with
  | .a => { s with net := { s.net with fdbA := x } }
  | .b => { s with net := { s.net with fdbB := x } }

/-- The port an address was learned on. -/
def learnedOn (l : Lan) (mac : List Byte) (s : State) : Option Nat := ((fdb l s).find? (·.mac == mac)).map (·.port)

/-- Learn a source address (R269): 1,024 entries per LAN. DESIGN CHOICE (log 25): a full database learns no new address. -/
def learn (p : Nat) (mac : List Byte) (s : State) : State :=
  let l := lanOf p
  let rest := (fdb l s).filter (·.mac != mac)
  if isGroup mac || 1024 ≤ rest.length then s else setFdb l (⟨mac, p, s.now⟩ :: rest) s

/-! ### Queues and the buffer allocator (R270, R271)

DESIGN CHOICE (log 25): a port sends 125,000 octet times per ms, a frame of L bytes taking L + 20; a frame leaves at once while
its port has octet times left in the present ms and holds no frame, and otherwise waits for the next ms. -/

/-- Octet times of a port in 1 ms at 1 Gbit/s. -/
def portBudget : Nat := 125000

/-- Octet times a frame takes, its FCS counted. -/
def wireCost (bytes : List Byte) : Nat := bytes.length + 24

/-- Buffer cells of 256 bytes that a frame takes. -/
def cellsOf (bytes : List Byte) : Nat := (bytes.length + 4 + 255) / 256

/-- The egress queue of a frame (R270). -/
def queueOf (safety : Bool) (f : List Byte) : Nat :=
  if etOf f == 0x88F7 then 3
  else if safety || (tagged f && 6 ≤ pcpOf f) then 2
  else if tagged f && 4 ≤ pcpOf f then 1
  else 0

/-- Frames stored, each once. -/
def storedFrames (s : State) : List Queued :=
  (s.net.ports.toList.flatMap (·.queue)).foldl (fun acc q => if acc.any (·.no == q.no) then acc else q :: acc) []

/-- Cells taken by the stored frames of the queues that satisfy `p`. -/
def cellsUsed (p : Nat → Bool) (qs : List Queued) : Nat := sumN ((qs.filter fun q => p q.prio).map fun q => cellsOf q.bytes)

/-- NET_CELLS_FREE. -/
def cellsFree (s : State) : Nat := 4096 - cellsUsed (fun _ => true) (storedFrames s)

/-- The cells suffice: 128 are kept for Q3 and 256 for Q2, and the rest is shared (R271). -/
def cellsFit (qs : List Queued) : Bool :=
  (cellsUsed (· == 3) qs - 128) + (cellsUsed (· == 2) qs - 256) + cellsUsed (· < 2) qs ≤ 4096 - 384

/-- A frame is dropped for want of a cell: more than 100 drops within 1 s raise 0x7008. -/
def dropFrame (p : Nat) (s : State) : State :=
  let ts := s.now :: s.net.dropAt.filter (fun t => s.now < t + 1000000000)
  let s := modPort p (fun x => { x with drops := wrapU 32 (x.drops + 1) }) s
  let s := { s with net := { s.net with dropNoBuf := incSat32 s.net.dropNoBuf, dropAt := ts.take 101 } }
  if 100 < ts.length then raiseF 0x7008 wide s else s

/-- The FCS that ends an outgoing frame: inverted where the received one failed (R270). -/
def endFcs (bad : Bool) (bytes : List Byte) : List Byte := (fcsOf bytes).map fun b => if bad then b ^^^ 0xFF#8 else b

/-- A frame starts to leave a port. -/
def leave (p : Nat) (bad : Bool) (bytes : List Byte) (s : State) : State :=
  let s := modPort p (fun x => { x with tx := wrapU 32 (x.tx + 1), used := x.used + wireCost bytes }) s
  emit (.eth (portOf p) (bytes ++ endFcs bad bytes)) s

/-- A port is idle: it holds no frame and has octet times left. -/
def portIdle (p : Nat) (bytes : List Byte) (s : State) : Bool :=
  let x := getAt s.net.ports p
  x.queue.isEmpty && x.used + wireCost bytes ≤ portBudget

/-- Send a frame on one port: at once, stored for its turn, or dropped. A frame whose FCS failed leaves only where it is
already under way; DESIGN CHOICE (log 25): one that would be stored is discarded. -/
def sendPort (no prio : Nat) (bad : Bool) (bytes : List Byte) (p : Nat) (s : State) : State :=
  if !portUp p s then s
  else if portIdle p bytes s then leave p bad bytes s
  else if bad then s
  else
    let q : Queued := { no := no, prio := prio, bytes := bytes }
    let all := storedFrames s
    let fits := cellsFit (if all.any (·.no == no) then all else q :: all)
    let own := sumN ((getAt s.net.ports p).queue.map fun x => cellsOf x.bytes)
    if fits && own + cellsOf bytes ≤ 1024 then modPort p (fun x => { x with queue := x.queue ++ [q] }) s
    else dropFrame p s

/-- Send a frame on several ports. -/
def sendPorts (ports : List Nat) (prio : Nat) (bad : Bool) (bytes : List Byte) (s : State) : State :=
  let no := s.net.frameNo + 1
  forAll ports (sendPort no prio bad bytes) { s with net := { s.net with frameNo := no } }

/-- The next frame in strict priority. -/
def nextQueued (qs : List Queued) : Option Queued :=
  match qs.find? (·.prio == 3) with
  | some q => some q
  | none => match qs.find? (·.prio == 2) with
    | some q => some q
    | none => match qs.find? (·.prio == 1) with
      | some q => some q
      | none => qs.head?

/-- Serve a port's queues while octet times are left; at most `n` frames. -/
def drainPort (p : Nat) : Nat → State → State
  | 0, s => s
  | n + 1, s =>
    let x := getAt s.net.ports p
    match nextQueued x.queue with
    | none => s
    | some q =>
      if x.used + wireCost q.bytes ≤ portBudget then
        drainPort p n (leave p q.badFcs q.bytes
          (modPort p (fun x => { x with queue := x.queue.filter (·.no != q.no) }) s))
      else s

/-! ### Sending from the endpoint (R272, R274, R277) -/

/-- The service MAC (R277): 0A-56-53-00-CC-PP. -/
def svcMac (s : State) : List Byte :=
  [0x0A#8, 0x56#8, 0x53#8, 0x00#8, BitVec.ofNat 8 (s.sys.plantAddr / 16), BitVec.ofNat 8 (s.sys.plantAddr % 16 / 2)]

/-- The VLAN tag of an endpoint's frame (R274). -/
def tagFor (pcp : Nat) (s : State) : List Byte :=
  let v := cfgN Ent.NET_VLAN s
  if v == 0 then [] else toBytes 2 0x8100 ++ toBytes 2 (pcp * 8192 + v)

/-- Pad a payload to 40 bytes: with header, trailer and FCS the frame has 64 bytes. -/
def padTo (n : Nat) (bs : List Byte) : List Byte := bs ++ List.replicate (n - bs.length) 0#8

/-- The redundancy control trailer: sequence number, LanId 0xA or 0xB, LSDU size with the trailer, suffix 0x88FB (R272). -/
def rct (seq : Nat) (l : Lan) (len : Nat) : List Byte :=
  toBytes 2 seq ++ toBytes 2 ((match l with | .a => 0xA000 | .b => 0xB000) + (len + 6) % 4096) ++ toBytes 2 0x88FB

/-- The ports of a LAN towards a destination. -/
def portsTo (l : Lan) (dst : List Byte) (s : State) : List Nat :=
  match learnedOn l dst s with
  | some p => [p]
  | none => portsOf l

/-- Send one frame of the endpoint on both LANs, with a redundancy control trailer (R272). -/
def sendPrp (dst : List Byte) (et pcp : Nat) (payload : List Byte) (s : State) : State :=
  let body := padTo 40 payload
  let head := dst ++ Config.mac ++ tagFor pcp s ++ toBytes 2 et
  let seq := (s.net.prpSeq + 1) % 65536
  let one (l : Lan) (s : State) : State :=
    let bytes := head ++ body ++ rct seq l body.length
    sendPorts (portsTo l dst s) (queueOf false bytes) false bytes s
  let sent (l : Lan) : Nat := b2n ((portsOf l).any fun p => portUp p s)
  let s := one .b (one .a s)
  { s with net := { s.net with
    prpSeq := seq, sentA := wrapU 32 ((s.net.sentA : Int) + sent .a), sentB := wrapU 32 ((s.net.sentB : Int) + sent .b) } }

/-- Send one frame from the service MAC on both LANs, without a trailer (R277). -/
def sendSvc (dst : List Byte) (et : Nat) (payload : List Byte) (s : State) : State :=
  let bytes := dst ++ svcMac s ++ tagFor 0 s ++ toBytes 2 et ++ padTo 46 payload
  let one (l : Lan) (s : State) : State := sendPorts (portsTo l dst s) (queueOf false bytes) false bytes s
  one .b (one .a s)

/-! ### The endpoint's protocols (R275) -/

/-- An ARP message. -/
def arpMsg (op : Nat) (sha : List Byte) (spa : Nat) (tha : List Byte) (tpa : Nat) : List Byte :=
  toBytes 2 1 ++ toBytes 2 0x0800 ++ [6#8, 4#8] ++ toBytes 2 op ++ sha ++ toBytes 4 spa ++ tha ++ toBytes 4 tpa

/-- The service address is answered here: one is configured and the module acts for the pair (R277). -/
def ownsSvc (s : State) : Bool := cfg Ent.NET_SVC_IP s != 0 && acts s

/-- An ARP message conflicts with the address under probe (RFC 5227, which R275 cites): another host sends from it, or probes it too. -/
def arpConflict (m : List Byte) (s : State) : Bool :=
  s.net.probe != 0 && slice m 8 6 != Config.mac &&
    (fieldU m 14 4 == s.net.probe || (fieldU m 6 2 == 1 && fieldU m 14 4 == 0 && fieldU m 24 4 == s.net.probe))

/-- Answer ARP for the address in use and, where it is owned, for the service address; a message may show a conflict (R275). -/
def takeArp (m : List Byte) (s : State) : State :=
  let tpa := fieldU m 24 4
  let sha := slice m 8 6
  let spa := fieldU m 14 4
  if m.length < 28 then s
  else if arpConflict m s then { s with net := { s.net with probeHit := true } }
  else if fieldU m 6 2 != 1 then s
  else if tpa != 0 && tpa == s.net.ip then sendPrp sha 0x0806 0 (arpMsg 2 Config.mac tpa sha spa) s
  else if ownsSvc s && tpa == cfgN Ent.NET_SVC_IP s then sendSvc sha 0x0806 (arpMsg 2 (svcMac s) tpa sha spa) s
  else s

/-- The Internet checksum of RFC 791 and RFC 792. -/
def inetSum (bs : List Byte) : Nat :=
  let rec go : List Byte → Nat
    | a :: b :: r => a.toNat * 256 + b.toNat + go r
    | [a] => a.toNat * 256
    | [] => 0
  let x := go bs
  let x := x % 65536 + x / 65536
  let x := x % 65536 + x / 65536
  65535 - x

/-- Answer an echo request: at most 10 replies per second. Addresses are exchanged and the ICMP checksum is formed anew. -/
def takeEcho (mac ip : List Byte) (s : State) : State :=
  let ihl := fieldU ip 0 1 % 16 * 4
  let icmp := slice ip ihl (fieldU ip 2 2 - ihl)
  let recent := s.net.pings.filter (fun t => s.now < t + 1000000000)
  if fieldU icmp 0 1 != 8 || 10 ≤ recent.length then s
  else
    let body := toBytes 2 0 ++ toBytes 2 (inetSum (toBytes 4 0 ++ icmp.drop 4)) ++ icmp.drop 4
    let head := ip.take 12 ++ slice ip 16 4 ++ slice ip 12 4 ++ slice ip 20 (ihl - 20)
    sendPrp mac 0x0800 0 (head ++ body) { s with net := { s.net with pings := s.now :: recent } }

/-- A DHCP option's value. -/
def dhcpOption (code : Nat) : Nat → List Byte → List Byte
  | 0, _ => []
  | _ + 1, [] => []
  | n + 1, c :: r =>
    if c.toNat == 0 then dhcpOption code n r
    else if c.toNat == 255 then []
    else
      let len := fieldU r 0 1
      if c.toNat == code then slice r 1 len else dhcpOption code n (r.drop (1 + len))

/-- A message of the DHCP client (RFC 2131), with the client identifier of R275: DISCOVER, or REQUEST with the options `more`. -/
def dhcpMsg (kind : Nat) (xid : Nat) (more : List Byte) (s : State) : List Byte :=
  let bootp := [1#8, 1#8, 6#8, 0#8] ++ toBytes 4 xid ++ List.replicate 20 0#8 ++ Config.mac ++ List.replicate 202 0#8 ++ toBytes 4 0x63825363
  let opts := [53#8, 1#8] ++ toBytes 1 kind ++ more ++ [61#8, 3#8, 0#8] ++ toBytes 2 s.sys.plantAddr ++ [255#8]
  let udp := toBytes 2 68 ++ toBytes 2 67 ++ toBytes 2 (8 + bootp.length + opts.length) ++ toBytes 2 0 ++ bootp ++ opts
  let head := [0x45#8, 0#8] ++ toBytes 2 (20 + udp.length) ++ toBytes 4 0 ++ [64#8, 17#8] ++ toBytes 2 0 ++ toBytes 4 0 ++ toBytes 4 0xFFFFFFFF
  head.take 10 ++ toBytes 2 (inetSum head) ++ head.drop 12 ++ udp

/-- Broadcast a message of the DHCP client. -/
def dhcpSend (kind : Nat) (more : List Byte) (s : State) : State :=
  let s := { s with net := { s.net with dhcpAt := some s.now } }
  sendPrp broadcast 0x0800 0 (dhcpMsg kind s.net.dhcpXid more s) s

/-- A REQUEST for address `yi` of server `srv`. -/
def dhcpRequest (yi srv : Nat) (s : State) : State :=
  dhcpSend 3 ([50#8, 4#8] ++ toBytes 4 yi ++ [54#8, 4#8] ++ toBytes 4 srv) { s with net := { s.net with dhcpSrv := srv } }

/-- The DHCP client at a frame boundary: DISCOVER while no address is leased, and after half a lease a REQUEST for its renewal, each at
most every 4 s (PRESUMED, log 142). -/
def dhcpStep (s : State) : State :=
  if cfg Ent.NET_IP_MODE s != 2 || isFenced .n s || !s.sys.gaOk || !due s.net.dhcpAt 4000000000 s then s
  else if s.net.dhcpIp == 0 then
    let (v, s) := drawFree s
    dhcpSend 1 [] { s with net := { s.net with dhcpXid := wrapU 32 v } }
  else if heldFor s.net.renewAt 0 s then dhcpRequest s.net.dhcpIp s.net.dhcpSrv s
  else s

/-- A lease (RFC 2131): it ends after its time, 0xFFFFFFFF never; its renewal is asked for after half of it. -/
def leased (yi secs : Nat) (s : State) : State :=
  let at_ (ns : Nat) : Option Nat := if secs == 0xFFFFFFFF then none else some (s.now + ns)
  clearF 0x700A wide { s with net := { s.net with
    dhcpIp := yi, leaseEnd := at_ (secs * 1000000000), renewAt := at_ (secs * 500000000) } }

/-- The DHCP client (RFC 2131): an OFFER is requested; an ACK gives the address, to be probed before its use, and the lease. -/
def takeDhcp (m : List Byte) (s : State) : State :=
  let opts := m.drop 240
  let opt (c : Nat) := dhcpOption c opts.length opts
  if cfg Ent.NET_IP_MODE s != 2 || slice m 28 6 != Config.mac || fieldU m 0 1 != 2 || fieldU m 4 4 != s.net.dhcpXid then s
  else if ofBytes (opt 53) == 2 && s.net.dhcpIp == 0 then dhcpRequest (fieldU m 16 4) (ofBytes (opt 54)) s
  else if ofBytes (opt 53) == 5 then leased (fieldU m 16 4) (ofBytes (opt 51)) s
  else s

/-- A UDP datagram is one the endpoint takes (R275, R276): port 47110 on its own or the owned service address; port 47111 from
the safety peer; port 47112 from the witness or, in a witness, from a served pair. -/
def udpTaken (src sport dst dport : Nat) (s : State) : Bool :=
  let own := dst != 0 && dst == s.net.ip
  if dport == 47110 then own || (ownsSvc s && dst == cfgN Ent.NET_SVC_IP s)
  else if dport == 47111 then own && src == cfgN Ent.NET_SAF_PEER_IP s && sport == 47111
  else if dport == 47112 then
    own && ((src != 0 && src == cfgN Ent.PAIR_WIT_IP s) || (cfgBytes Ent.PAIR_WIT_SERVE s != List.replicate 8 0xFF#8))
  else false

/-- An IPv4 packet for the endpoint; fragments are discarded. What a datagram carries is taken by its own command. -/
def takeIp (l : Lan) (frame ip : List Byte) (s : State) : State :=
  let ihl := fieldU ip 0 1 % 16 * 4
  let proto := fieldU ip 9 1
  let src := fieldU ip 12 4
  let dst := fieldU ip 16 4
  let udp := ip.drop ihl
  if fieldU ip 0 1 / 16 != 4 || fieldU ip 6 2 % 16384 != 0 || ihl < 20 then s
  else if proto == 1 then if dst != 0 && dst == s.net.ip then takeEcho (srcOf frame) ip s else s
  else if proto != 17 then s
  else if fieldU udp 0 2 == 67 && fieldU udp 2 2 == 68 then takeDhcp (udp.drop 8) s
  else if udpTaken src (fieldU udp 0 2) dst (fieldU udp 2 2) s then emit (.endpoint l frame) s
  else s

/-! ### Reception (R269, R272 to R274) -/

/-- The VLAN rule of R274. -/
def vlanAccepted (f : List Byte) (s : State) : Bool :=
  let v := cfgN Ent.NET_VLAN s
  if v == 0 then !tagged f || vidOf f == 0 else tagged f && vidOf f == v

/-- The trailer of a frame, if it has one: sequence number and LanId. -/
def trailerOf (f : List Byte) : Option (Nat × Lan) :=
  let t := f.drop (f.length - 6)
  let lanId := fieldU t 2 2 / 4096
  if fieldU t 4 2 != 0x88FB || fieldU t 2 2 % 4096 != (payloadOf f).length then none
  else if lanId == 0xA then some (fieldU t 0 2, .a)
  else if lanId == 0xB then some (fieldU t 0 2, .b)
  else none

/-- A node is heard: 512 entries, forgotten after 60 s (R272). -/
def seeNode (mac : List Byte) (s : State) : State :=
  let keep := s.net.nodes.filter fun n => n.1 != mac && s.now < n.2 + 60000000000
  { s with net := { s.net with nodes := ((mac, s.now) :: keep).take 512 } }

/-- The wrong-LAN frames of a LAN within the last second (R273). -/
def wrongCount (l : Lan) (s : State) : Nat := (s.net.wrongAt.filter fun x => x.1 == l && s.now < x.2 + 1000000000).length

/-- A frame on the wrong LAN: more than 10 within 1 s on one LAN raise 0x7007 (R273). -/
def wrongLan (l : Lan) (s : State) : State :=
  let ts := ((l, s.now) :: s.net.wrongAt.filter (fun x => s.now < x.2 + 1000000000)).take 64
  let s := match l with
    | .a => { s with net := { s.net with wrongA := wrapU 32 (s.net.wrongA + 1), wrongAt := ts } }
    | .b => { s with net := { s.net with wrongB := wrapU 32 (s.net.wrongB + 1), wrongAt := ts } }
  if 10 < wrongCount l s then raiseF 0x7007 wide s else s

/-- Count the entries of a LAN for which no duplicate has come. -/
def countUnique (l : Lan) (d : Int) (s : State) : State :=
  match l with
  | .a => { s with net := { s.net with uniqueA := wrapU 32 (s.net.uniqueA + d) } }
  | .b => { s with net := { s.net with uniqueB := wrapU 32 (s.net.uniqueB + d) } }

/-- Duplicate discard (R272): whether the frame is the second copy, and the state with its entry. EntryForgetTime is 400 ms. -/
def discardDup (l : Lan) (f : List Byte) (s : State) : Bool × State :=
  match trailerOf f with
  | none => (false, s)
  | some (seq, lanId) =>
    if lanId != l then (false, wrongLan l s)
    else
      let s := seeNode (srcOf f) s
      let fresh := s.net.seen.filter fun e => s.now < e.at_ + 400000000
      match fresh.find? (fun e => e.mac == srcOf f && e.seq == seq) with
      | some e =>
        let s := { s with net := { s.net with seen := fresh, dups := wrapU 32 (s.net.dups + 1) } }
        (true, if e.lan != l then countUnique e.lan (-1) s else s)
      | none => (false, countUnique l 1 { s with net := { s.net with seen := ⟨srcOf f, seq, l, s.now⟩ :: fresh } })

/-- The endpoint takes a frame addressed to it. -/
def endpointTake (l : Lan) (f : List Byte) (s : State) : State :=
  let group := isGroup (dstOf f)
  if !vlanAccepted f s then s
  else if group && cfgN Ent.NET_BC_LIMIT s ≤ s.net.bcCount then s
  else
    let s := if group then { s with net := { s.net with bcCount := s.net.bcCount + 1 } } else s
    let (dup, s) := discardDup l f s
    if dup then s
    else if etOf f == 0x0806 then takeArp (payloadOf f) s
    else if etOf f == 0x0800 then takeIp l f (payloadOf f) s
    else s

/-- A frame is addressed to the endpoint: NET_MAC, a group address, or the service MAC where it is owned (R277). -/
def forEndpoint (dst : List Byte) (s : State) : Bool :=
  dst == Config.mac || isGroup dst || (ownsSvc s && dst == svcMac s)

/-- The ports a received frame is forwarded to (R269). -/
def forwardPorts (p : Nat) (dst : List Byte) (s : State) : List Nat :=
  let l := lanOf p
  let on := bitOf (cfgN Ent.NET_FWD_EN s) (match l with | .a => 0 | .b => 1)
  if !on || isLinkLocal dst || dst == Config.mac || (ownsSvc s && dst == svcMac s) then []
  else if learnedOn l dst s == some p then []
  else [otherPort p]

/-- A LAN has received a valid frame: it is not silent (R273). -/
def lanHeard (l : Lan) (s : State) : State :=
  match l with
  | .a => { s with net := { s.net with rxA := true, heardA := some s.now } }
  | .b => { s with net := { s.net with rxB := true, heardB := some s.now } }

/-- PTP messages with commands of their own: Sync, Pdelay_Req, Pdelay_Resp, Follow_Up, Pdelay_Resp_Follow_Up, Announce. -/
def ownPtp (f : List Byte) : Bool :=
  etOf f == 0x88F7 && [0, 2, 3, 8, 10, 11].contains (fieldU (payloadOf f) 0 1 % 16)

/-- A frame arrives at a port. -/
def ethReceive (p : Nat) (frame : List Byte) (s : State) : State :=
  let body := bodyOf frame
  let l := lanOf p
  if !portUp p s then s
  else
    let s := modPort p (fun x => { x with rx := wrapU 32 (x.rx + 1) }) s
    if frame.length < 64 || 1528 < frame.length then modPort p (fun x => { x with drops := wrapU 32 (x.drops + 1) }) s
    else if !fcsOk frame then
      let s := modPort p (fun x => { x with fcs := wrapU 32 (x.fcs + 1) }) s
      sendPorts (forwardPorts p (dstOf body) s) (queueOf false body) true body s
    else
      let s := learn p (srcOf body) (lanHeard l s)
      let s := if cfg Ent.NET_SVC_IP s != 0 && srcOf body == svcMac s && acts s then
          raiseF 0x7016 wide { s with net := { s.net with svcSeen := true } } else s
      if etOf body == 0x8808 || ownPtp body then s
      else
        let s := sendPorts (forwardPorts p (dstOf body) s) (queueOf false body) false body s
        if forEndpoint (dstOf body) s && !isLinkLocal (dstOf body) then endpointTake l body s else s

/-- ETH_FRAME_RECEIVE (R269). -/
def execEthFrameReceive (port : Port) (frame : List Byte) (s : State) : Host.Outcome State Fault Refusal :=
  whenLiveK (ethReceive (portNo port) frame) s

/-- FDB_AGE_OUT (R269): entries age out after NET_FDB_AGE. -/
def execFdbAgeOut (lan : Lan) (mac : List Byte) (s : State) : Host.Outcome State Fault Refusal :=
  whenLiveK (fun s => setFdb lan ((fdb lan s).filter fun e =>
    e.mac != mac || !decide (e.at_ + cfgN Ent.NET_FDB_AGE s * 1000000000 ≤ s.now)) s) s

/-- The supervision frame of IEC 62439-3 that R272 cites: version 1, sequence number, TLV 20 with the MAC, end TLV. -/
def supervision (s : State) : State :=
  let seq := (s.net.supSeq + 1) % 65536
  let s := { s with net := { s.net with supSeq := seq, supAt := some s.now } }
  sendPrp [0x01#8, 0x15#8, 0x4E#8, 0x00#8, 0x01#8, 0x00#8] 0x88FB 0 (toBytes 2 1 ++ toBytes 2 seq ++ [20#8, 6#8] ++ Config.mac ++ [0#8, 0#8]) s

/-- PRP_SUPERVISION_SEND (R272): every 2,000 ms. -/
def execPrpSupervisionSend (s : State) : Host.Outcome State Fault Refusal :=
  whenLiveK (guardOn (!isFenced .n s && due s.net.supAt 2000000000 s) supervision) s

/-- A LAN has received no valid frame for NET_LAN_SILENT_T: since the last one, or since the start (R273). -/
def lanSilent (l : Lan) (s : State) : Bool :=
  let heard := match l with
    | .a => s.net.heardA
    | .b => s.net.heardB
  !isFenced .n s && decide (heard.getD s.sys.t0 + cfgN Ent.NET_LAN_SILENT_T s * 1000000 ≤ s.now)

/-- LAN_SILENT (R273). -/
def execLanSilent (lan : Lan) (s : State) : Host.Outcome State Fault Refusal :=
  whenLiveK (guardOn (lanSilent lan s) fun s => match lan with
    | .a => raiseF 0x7005 wide { s with net := { s.net with rxA := false } }
    | .b => raiseF 0x7006 wide { s with net := { s.net with rxB := false } }) s

/-- The address that the mode of R275 gives, 0 while there is none. -/
def candidateIp (s : State) : Nat :=
  match cfgN Ent.NET_IP_MODE s with
  | 0 => cfgN Ent.NET_IP s
  | 1 => if s.sys.gaOk then wrapU 32 (cfg Ent.NET_IP s + s.sys.plantAddr) else 0
  | _ => s.net.dhcpIp

/-- An address is probed anew: an ARP probe leaves (RFC 5227, which R275 cites). -/
def startProbe (c : Nat) (s : State) : State :=
  sendPrp broadcast 0x0806 0 (arpMsg 1 Config.mac 0 (List.replicate 6 0#8) c)
    { s with net := { s.net with ip := 0, probe := c, probeAt := s.now, probeHit := false } }

/-- At a frame boundary, an address that is neither in use nor under probe comes under probe (R275). -/
def addressStep (s : State) : State :=
  let c := candidateIp s
  if isFenced .n s || c == s.net.probe && c != 0 then s
  else if c == 0 then { s with net := { s.net with ip := 0, probe := 0 } }
  else if c == s.net.ip then s
  else startProbe c s

/-- The end of a probe (R275): without a conflict the address is used; a conflict raises 0x7009, and the address is probed again.
PRESUMED (log 142): a probe lasts at least 4 s, two probe intervals and the announce wait of RFC 5227. -/
def probeEnd (s : State) : State :=
  let c := s.net.probe
  guardOn (c != 0 && !isFenced .n s && decide (s.net.probeAt + 4000000000 ≤ s.now)) (fun s =>
    if s.net.probeHit then raiseF 0x7009 wide (startProbe c s)
    else clearF 0x7009 wide { s with net := { s.net with ip := c, probe := 0 } }) s

/-- ADDRESS_PROBE_END (R275). -/
def execAddressProbeEnd (s : State) : Host.Outcome State Fault Refusal := whenLiveK probeEnd s

/-- DHCP_LEASE_EXPIRY (R275): the address is kept and 0x700A raised. -/
def execDhcpLeaseExpiry (s : State) : Host.Outcome State Fault Refusal :=
  whenLiveK (guardOn (cfg Ent.NET_IP_MODE s == 2 && heldFor s.net.leaseEnd 0 s) fun s =>
    raiseF 0x700A wide { s with net := { s.net with leaseEnd := none } }) s

/-- The network's part of a frame boundary: the ms of R271's limits begins anew, waiting frames leave, and the address follows its
mode (R275). -/
def netTick (s : State) : State :=
  let s := { s with net := { s.net with bcCount := 0 } }
  let s := forAll [0, 1, 2, 3] (fun p s =>
    let s := modPort p (fun x => { x with used := 0 }) s
    if portUp p s then drainPort p (getAt s.net.ports p).queue.length s else s) s
  addressStep (dhcpStep s)

/-- One of the three announcements of R277: an ARP announcement (RFC 5227) from the service MAC. -/
def gratuitous (s : State) : State :=
  let ip := cfgN Ent.NET_SVC_IP s
  if s.net.garpLeft == 0 then s
  else
    let s := { s with net := { s.net with garpLeft := s.net.garpLeft - 1, garpAt := some s.now } }
    if ownsSvc s then sendSvc broadcast 0x0806 (arpMsg 1 (svcMac s) ip (List.replicate 6 0#8) ip) s else s

/-- GRATUITOUS_ARP (R277): at intervals of 1 frame. -/
def execGratuitousArp (s : State) : Host.Outcome State Fault Refusal :=
  whenLiveK (guardOn (!isFenced .n s && due s.net.garpAt 1000000 s) gratuitous) s

/-- The code of a port without link (Table 11-5). -/
def linkCode (p : Nat) : Nat := 0x7001 + p

/-- The link of a port comes or goes (R268): NET_LINK follows, and 0x7001 to 0x7004 are raised; their clearing takes 1 s (R289,
FAULT_CLEAR). A port without link holds no frame and is not capable; a linked port that is not capable raises 0x7014 (R280). -/
def linkChange (p : Nat) (up : Bool) (s : State) : State :=
  let s := modPort p (fun x => if up then { x with link := true }
    else { x with link := false, queue := [], capable := false, okRun := 0, failRun := 0, pdOut := false }) s
  let s := if up then s else raiseF (linkCode p) wide s
  if s.net.ports.toList.any (fun x => x.link && !x.capable) then raiseF 0x7014 wide s else s

/-- The LAN bit of NET_LAN_STATE and the link bits of NET_LINK. -/
def netLink (s : State) : Nat := bitMap 4 fun p => (getAt s.net.ports p).link
def netLanState (s : State) : Nat := b2n s.net.rxA + 2 * b2n s.net.rxB

/-- NET_PORT_STATS. -/
def portStats (s : State) : List Byte :=
  s.net.ports.toList.flatMap fun x => toBytes 4 x.rx ++ toBytes 4 x.tx ++ toBytes 4 x.fcs ++ toBytes 4 x.drops

/-- NET_PRP_STATS. -/
def prpStats (s : State) : List Byte :=
  [s.net.sentA, s.net.sentB, s.net.uniqueA, s.net.uniqueB, s.net.dups, s.net.wrongA, s.net.wrongB, s.net.nodes.length].flatMap (toBytes 4)

end Sys2Proof.Machine
end

