-- ==== Sys2Proof/Machine/Ptp.lean ====
section
/-! DEFINITION. Plant time (11_plant_network_and_time R278 to R286): the transparent clock, peer delay, the four slave-only
instances, the choice of reference, and the states of the local clock. A PTP message comes as its whole frame. -/
namespace Sys2Proof.Machine
open Sys2Proof

/-! ### Messages (the layouts are those of IEEE 1588-2019, which R278 cites; PRESUMED, log 26) -/

/-- Fields of a PTP message: domain, twoStepFlag, correctionField, sourcePortIdentity, sequenceId. -/
def ptpDomain (m : List Byte) : Nat := fieldU m 4 1
def ptpTwoStep (m : List Byte) : Bool := bitOf (fieldU m 6 1) 1
def ptpCorr (m : List Byte) : Int := fieldS m 8 8
def ptpSrc (m : List Byte) : Nat := fieldU m 20 10
def ptpSeq (m : List Byte) : Nat := fieldU m 30 2

/-- The version is supported: versionPTP 2, minorVersionPTP 0 or 1 (R278). -/
def ptpVersionOk (m : List Byte) : Bool := fieldU m 1 1 % 16 == 2 && fieldU m 1 1 / 16 ≤ 1

/-- The message type. -/
def ptpType (m : List Byte) : Nat := fieldU m 0 1 % 16

/-- The interval a message's logMessageInterval names, ns, where it lies in lo to hi (R278). -/
def ptpEvery (lo hi : Int) (m : List Byte) : Option Nat :=
  let l := fieldS m 33 1
  if l < lo || hi < l then none
  else some (if 0 ≤ l then 1000000000 * 2 ^ l.toNat else 1000000000 / 2 ^ (-l).toNat)

/-- The time stamp a message carries, in ns. -/
def ptpStamp (m : List Byte) : Nat := fieldU m 34 6 * 1000000000 + fieldU m 40 4

/-- A frame with the correctionField of its message replaced. -/
def withCorr (f : List Byte) (c : Int) : List Byte := splice f (etAt f + 10) (toBytesS 8 c)

/-- PTP_ASYM of a port, ns. -/
def asym (p : Nat) (s : State) : Int :=
  if (cfgBytes Ent.PTP_ASYM s).isEmpty then 0 else fieldS (cfgBytes Ent.PTP_ASYM s) (4 * p) 4

/-- What R281 adds for an ingress port besides the residence time, in units of the correctionField (ns × 2^16). -/
def ingressCorr (p : Nat) (s : State) : Int := ((getAt s.net.ports p).delay + asym p s) * 65536

/-- Count a received frame (R270) and learn its source (R269). -/
def ptpCount (p : Nat) (f : List Byte) (s : State) : State :=
  learn p (srcOf f) (lanHeard (lanOf p) (modPort p (fun x => { x with rx := wrapU 32 (x.rx + 1) }) s))

/-- A PTP message of a type arrives at a port. A frame whose length or FCS fails is counted as any frame is (R270); one of another
version is counted and not used (R278). -/
def ptpTake (type p : Nat) (f : List Byte) (use : State → State) (s : State) : State :=
  if !portUp p s || etOf f != 0x88F7 || ptpType (payloadOf f) != type then s
  else if f.length < 64 || 1528 < f.length || !fcsOk f then ethReceive p f s
  else if ptpVersionOk (payloadOf f) then use (ptpCount p f s) else ptpCount p f s

/-- Forward a PTP frame to the other port of its LAN where that LAN forwards. -/
def ptpForward (p : Nat) (body : List Byte) (s : State) : State := sendPorts (forwardPorts p (dstOf body) s) 3 false body s

/-! ### Instances and the reference (R282, R283) -/

/-- The LAN and the domain of instance `i`: P/A, P/B, S/A, S/B. -/
def instLan (i : Nat) : Lan := if i % 2 == 0 then .a else .b
def instDomain (i : Nat) (s : State) : Nat := if i < 2 then cfgN Ent.PTP_DOMAIN_P s else cfgN Ent.PTP_DOMAIN_S s

/-- Instance `i`. -/
def inst (i : Nat) (s : State) : PtpInst := getAt s.ptp.inst i

/-- Change an instance. -/
def modInst (i : Nat) (f : PtpInst → PtpInst) (s : State) : State :=
  { s with ptp := { s.ptp with inst := modAt s.ptp.inst i f } }

/-- The instances of a port in a domain. -/
def instancesOf (p domain : Nat) (s : State) : List Nat :=
  (List.range 4).filter fun i => instLan i == lanOf p && instDomain i s == domain

/-- An instance is usable (R282). -/
def usable (i : Nat) (s : State) : Bool :=
  match (inst i s).master with
  | none => false
  | some m => cfgB Ent.PTP_ENABLE s && (inst i s).sync && (inst i s).qual && m.class_ ≤ cfgN Ent.PTP_CLASS_MAX s
      && (getAt s.net.ports (inst i s).port).capable && !isFenced .n s

/-- Follow since when each instance is usable (R283). -/
def trackUsable (s : State) : State :=
  forAll (List.range 4) (fun i s => modInst i (fun x => { x with usableSince := sinceNow (usable i s) x.usableSince s }) s) s

/-- The first usable instance in the order of R283. -/
def firstUsable (s : State) : Option Nat := (List.range 4).find? fun i => usable i s

/-- The mean of the frequency correction over the last 60 s of lock (R284), weighted by the time each value held; `log` is newest first
and `upTo` is where the present entry ends. -/
def meanFreq (now : Nat) : Nat → List (Nat × Int) → Int × Nat
  | _, [] => (0, 0)
  | upTo, (t, v) :: r =>
    let from_ := max t (now - 60000000000)
    let rest := if t ≤ now - 60000000000 then (0, 0) else meanFreq now from_ r
    (rest.1 + v * ((upTo : Int) - from_), rest.2 + (upTo - from_))

/-- The frequency correction that HOLDOVER keeps. -/
def heldFreq (s : State) : Int :=
  let (sum, ns) := meanFreq s.now s.now s.ptp.freqLog
  if ns = 0 then s.ptp.freq else divT sum ns

/-- A frequency correction holds from now on while the clock is locked; values that ended 60 s ago are forgotten. -/
def logFreq (v : Int) (s : State) : State :=
  let recent := s.ptp.freqLog.takeWhile fun x => s.now < x.1 + 60000000000
  let edge := (s.ptp.freqLog.drop recent.length).take 1
  { s with ptp := { s.ptp with freq := v, freqLog := (s.now, v) :: recent ++ edge } }

/-- Put the state of the local clock; the module counts as locked in LOCKED and SLEWING (R284). HOLDOVER keeps the mean correction of
the last 60 s of lock, FREE the last stored one. -/
def setPtp (x : PtpState) (s : State) : State :=
  let began := s.ptp.state == .free || s.ptp.state == .holdover
  let s := { s with ptp := { s.ptp with state := x }, locked := x == .locked || x == .slewing }
  match x with
  | .locked => clearF 0x7013 wide s
  | .holdover => raiseF 0x7010 wide { s with ptp := { s.ptp with holdMs := 0, freq := heldFreq s } }
  | .slewing => if began then logFreq s.ptp.freq { s with ptp := { s.ptp with freqLog := [] } } else s
  | .free => { s with ptp := { s.ptp with freq := s.ptp.storedFreq } }

/-- Take instance `i` as the reference (R283 to R285): a change is counted and slewed; a first acquisition since reset steps the
clock at the next frame boundary by its offset rounded to whole ms. -/
def takeRef (i : Nat) (s : State) : State :=
  let off := (inst i s).offset
  let s := { s with ptp := { s.ptp with
    changes := if s.ptp.lastRef.isSome && s.ptp.lastRef != some i then incSat32 s.ptp.changes else s.ptp.changes
    stepDue := if s.ptp.acquired then s.ptp.stepDue else some (- divRound off 1000000)
    acquired := true, ref := some i, lastRef := some i, offset := off, outRun := 0 } }
  let s := if 2 ≤ i then raiseF 0x7011 wide s else clearF 0x7011 wide s
  setPtp .slewing s

/-- Rules 1 and 2 of R283: the instance in use stays while usable; then the first usable one; with none, HOLDOVER (R284). -/
def chooseRef (s : State) : State :=
  let s := trackUsable s
  let stays := match s.ptp.ref with
    | some i => usable i s
    | none => false
  if stays then s
  else match firstUsable s with
    | some i => takeRef i s
    | none =>
      let s := { s with ptp := { s.ptp with ref := none } }
      if s.ptp.state == .locked || s.ptp.state == .slewing then setPtp .holdover s else s

/-- The order of best-master selection: lower is better, field by field. -/
def betterMaster (a b : Master) : Bool :=
  let k (m : Master) : List Nat := [m.prio1, m.class_, m.acc, m.var, m.prio2, m.gm, m.steps, m.src]
  k a < k b

/-- The best of the data sets heard. -/
def bestMaster (ms : List Master) : Option Master :=
  ms.foldl (fun acc m => match acc with
    | none => some m
    | some b => if betterMaster m b then some m else some b) none

/-- Best-master selection of an instance: a new grandmaster is not qualified before PTP_GM_QUAL_T; a new master needs a Sync. -/
def selectMaster (i : Nat) (s : State) : State :=
  modInst i (fun x =>
    let best := bestMaster x.masters
    let sameGm := x.master.map (·.gm) == best.map (·.gm)
    let sameSrc := x.master.map (·.src) == best.map (·.src)
    { x with master := best
             gmSince := if sameGm then x.gmSince else s.now
             qual := if sameGm then x.qual else best.isSome && cfg Ent.PTP_GM_QUAL_T s == 0
             sync := sameSrc && x.sync }) s

/-- The data set of an Announce message. -/
def masterOf (m : List Byte) : Master :=
  { prio1 := fieldU m 47 1, class_ := fieldU m 48 1, acc := fieldU m 49 1, var := fieldU m 50 2, prio2 := fieldU m 52 1,
    gm := fieldU m 53 8, steps := fieldU m 61 2, src := ptpSrc m, utc := fieldS m 44 2 }

/-- An instance hears an Announce (R282). -/
def hearMaster (d : Master) (i : Nat) (s : State) : State :=
  selectMaster i (modInst i (fun x => { x with masters := x.masters.filter (·.src != d.src) ++ [d] }) s)

/-- An Announce (R281, R282): forwarded unchanged, and taken by the instances of its LAN and domain where its interval is accepted. -/
def announce (p : Nat) (f : List Byte) (s : State) : State :=
  let body := bodyOf f
  let m := payloadOf body
  ptpTake 11 p f (fun s =>
    let s := ptpForward p body s
    match ptpEvery 0 1 m with
    | some every =>
      if cfgB Ent.PTP_ENABLE s then
        chooseRef (forAll (instancesOf p (ptpDomain m) s) (hearMaster { masterOf m with at_ := s.now, every := every }) s)
      else s
    | none => s) s

/-- ANNOUNCE (R282): `t` is its arrival. -/
def execAnnounce (port : Port) (msg : List Byte) (t : Nat) (s : State) : Host.Outcome State Fault Refusal :=
  whenLiveK (fun s => announce (portNo port) msg (atTime t s)) s

/-- ANNOUNCE_RECEIPT_TIMEOUT (R278): masters whose last Announce is 3 of their intervals old are dropped; the instance selects among the
others. -/
def announceTimeout (i : Nat) (s : State) : State :=
  chooseRef (selectMaster i (modInst i (fun x => { x with masters := x.masters.filter fun m => s.now < m.at_ + 3 * m.every }) s))

/-- ANNOUNCE_RECEIPT_TIMEOUT (R278). -/
def execAnnounceReceiptTimeout (i : Fin 4) (s : State) : Host.Outcome State Fault Refusal := whenLiveK (announceTimeout i.val) s

/-- A grandmaster identity has been unchanged for PTP_GM_QUAL_T (R282). -/
def gmQualified (i : Nat) (s : State) : State :=
  let ns := cfgN Ent.PTP_GM_QUAL_T s * 1000000000
  chooseRef (modInst i (fun x => { x with qual := x.qual || (x.master.isSome && decide (x.gmSince + ns ≤ s.now)) }) s)

/-- GM_QUAL_T_EXPIRY (R282). -/
def execGmQualTExpiry (i : Fin 4) (s : State) : Host.Outcome State Fault Refusal := whenLiveK (gmQualified i.val) s

/-- 3 sync intervals have passed without a Sync (R282). -/
def syncTimeout (i : Nat) (s : State) : State :=
  chooseRef (modInst i (fun x => { x with sync := x.sync && decide (s.now < x.syncAt + 3 * x.every) }) s)

/-- SYNC_RECEIPT_TIMEOUT (R282). -/
def execSyncReceiptTimeout (i : Fin 4) (s : State) : Host.Outcome State Fault Refusal := whenLiveK (syncTimeout i.val) s

/-- The first primary instance that has been usable without a break for PTP_REVERT_T (R283, rule 3). -/
def revertTo (s : State) : Option Nat :=
  [0, 1].find? fun i => usable i s && heldFor (inst i s).usableSince (cfgN Ent.PTP_REVERT_T s * 1000000000) s

/-- Rule 3 of R283: a primary instance takes over from a secondary one. -/
def revert (s : State) : State :=
  let secondary := match s.ptp.ref with
    | some i => decide (2 ≤ i)
    | none => false
  if !secondary || cfg Ent.PTP_REVERT_T s == 0 then s
  else match revertTo s with
    | some i => takeRef i s
    | none => s

/-- REVERT_TIMER (R283). -/
def execRevertTimer (s : State) : Host.Outcome State Fault Refusal := whenLiveK revert s

/-- PTP_HOLDOVER_T has passed in HOLDOVER: FREE, with 0x7013 (R284). -/
def holdoverExpiry (s : State) : State :=
  guardOn (s.ptp.state == .holdover && cfgN Ent.PTP_HOLDOVER_T s * 1000 ≤ s.ptp.holdMs) (fun s =>
    raiseF 0x7013 wide (setPtp .free s)) s

/-- HOLDOVER_EXPIRY (R284). -/
def execHoldoverExpiry (s : State) : Host.Outcome State Fault Refusal := whenLiveK holdoverExpiry s

/-! ### The servo (R284) -/

/-- The servo takes the reference's offset at a Sync: LOCKED within PTP_LOCK_NS, SLEWING after 4 Syncs beyond it. The
correction to the TCXO is a free value: the manual gives the servo's limit, not its law. -/
def servo (off : Int) (s : State) : State :=
  let within := off.natAbs ≤ cfgN Ent.PTP_LOCK_NS s
  let run := if within then 0 else s.ptp.outRun + 1
  let (v, s) := drawFree s
  let s := logFreq (satS 32 v) { s with ptp := { s.ptp with offset := satS 32 off, outRun := min run 4 } }
  if s.ptp.state == .slewing && within then setPtp .locked s
  else if s.ptp.state == .locked && 4 ≤ run then setPtp .slewing s
  else s

/-- An instance accepts a Sync (R278, R282): of its master, at an interval `every` that the profile accepts, with its offset. -/
def acceptSync (p : Nat) (src domain : Nat) (every : Option Nat) (off : Int) (s : State) : State :=
  match every with
  | none => s
  | some every => forAll (instancesOf p domain s) (fun i s =>
    if (inst i s).master.map (·.src) == some src then
      let s := chooseRef (modInst i (fun x => { x with sync := true, syncAt := s.now, every := every, port := p, offset := off }) s)
      if s.ptp.ref == some i then servo off s else s
    else s) s

/-- A Sync (R281): used and forwarded only from a capable port. A one-step Sync gets residence time, link delay and asymmetry
added; a two-step Sync is forwarded unchanged and waits for its Follow_Up. -/
def syncMessage (p : Nat) (f : List Byte) (t out : Nat) (s : State) : State :=
  let body := bodyOf f
  let m := payloadOf body
  ptpTake 0 p f (guardOn (getAt s.net.ports p).capable fun s =>
    let add := ingressCorr p s
    let residence : Int := ((out : Int) - t) * 65536
    if ptpTwoStep m then
      let old := s.ptp.pend.filter fun x => t < x.t + 100000000
      let new : PendSync := { port := p, src := ptpSrc m, seq := ptpSeq m, domain := ptpDomain m, t := t, add := residence + add, corr := ptpCorr m, every := ptpEvery (-4) 1 m }
      ptpForward p body { s with ptp := { s.ptp with pend := new :: old } }
    else
      let s := ptpForward p (withCorr body (wrapS 64 (ptpCorr m + residence + add))) s
      acceptSync p (ptpSrc m) (ptpDomain m) (ptpEvery (-4) 1 m) ((t : Int) - ptpStamp m - Int.fdiv (ptpCorr m + add) 65536) s) s

/-- SYNC_MESSAGE (R281): `t` is the ingress and `out` the egress time stamp. -/
def execSyncMessage (port : Port) (msg : List Byte) (t out : Nat) (s : State) : Host.Outcome State Fault Refusal :=
  whenLiveK (fun s => syncMessage (portNo port) msg t out (atTime t s)) s

/-- A Follow_Up belongs to a waiting Sync: the same port, sourcePortIdentity, sequenceId and domain. -/
def follows (p : Nat) (m : List Byte) (x : PendSync) : Bool :=
  x.port == p && x.src == ptpSrc m && x.seq == ptpSeq m && x.domain == ptpDomain m

/-- A Follow_Up (R281): matched to its Sync within 100 ms it is corrected, forwarded and used; without its Sync it is discarded. -/
def followUp (p : Nat) (f : List Byte) (t : Nat) (s : State) : State :=
  let body := bodyOf f
  let m := payloadOf body
  ptpTake 8 p f (fun s =>
    match s.ptp.pend.find? (follows p m) with
    | none => s
    | some x =>
      let s := { s with ptp := { s.ptp with pend := s.ptp.pend.filter fun y => !follows p m y } }
      if x.t + 100000000 < t || !(getAt s.net.ports p).capable then s
      else
        let s := ptpForward p (withCorr body (wrapS 64 (ptpCorr m + x.add))) s
        acceptSync p x.src x.domain x.every ((x.t : Int) - ptpStamp m - Int.fdiv (x.corr + ptpCorr m + ingressCorr p s) 65536) s) s

/-- FOLLOW_UP (R281). -/
def execFollowUp (port : Port) (msg : List Byte) (t : Nat) (s : State) : Host.Outcome State Fault Refusal :=
  whenLiveK (fun s => followUp (portNo port) msg t (atTime t s)) s

/-! ### Peer delay (R280) -/

/-- The clock identity: NET_MAC with FFFE in its middle (EUI-64), and the port number counted from 1. PRESUMED, log 26. -/
def portIdentity (p : Nat) : List Byte := Config.mac.take 3 ++ toBytes 2 0xFFFE ++ Config.mac.drop 3 ++ toBytes 2 (p + 1)

/-- A peer-delay frame: to 01-80-C2-00-00-0E, untagged, without a trailer. -/
def pdelayFrame (type : Nat) (p domain : Nat) (corr : Int) (seq : Nat) (body : List Byte) : List Byte :=
  [0x01#8, 0x80#8, 0xC2#8, 0x00#8, 0x00#8, 0x0E#8] ++ Config.mac ++ toBytes 2 0x88F7
    ++ toBytes 1 type ++ [2#8] ++ toBytes 2 54 ++ toBytes 1 domain ++ [0#8, 0#8, 0#8] ++ toBytesS 8 corr ++ toBytes 4 0
    ++ portIdentity p ++ toBytes 2 seq ++ [5#8, 0x7F#8] ++ body

/-- An exchange ends (R280): capable after 3 consecutive successes at or below PTP_LINK_DELAY_MAX, not after 3 failures. -/
def pdelayEnd (p delay : Nat) (answered : Bool) (s : State) : State :=
  let ok := answered && delay ≤ cfgN Ent.PTP_LINK_DELAY_MAX s
  let s := modPort p (fun x =>
    let okRun := if ok then min (x.okRun + 1) 3 else 0
    let failRun := if ok then 0 else min (x.failRun + 1) 3
    { x with delay := if ok then delay else x.delay
             okRun := okRun
             failRun := failRun
             capable := if 3 ≤ okRun then true else if 3 ≤ failRun then false else x.capable }) s
  let s := if (getAt s.net.ports p).link && !(getAt s.net.ports p).capable then raiseF 0x7014 wide s else s
  chooseRef s

/-- A Pdelay_Req leaves every 1 s (R280), in domain PTP_DOMAIN_P: the one before it, still without an answer, was a failed exchange. -/
def pdelaySend (p : Nat) (s : State) : State :=
  guardOn (portUp p s && due (getAt s.net.ports p).pdAt 1000000000 s) (fun s =>
    let s := if (getAt s.net.ports p).pdOut then pdelayEnd p 0 false s else s
    let seq := ((getAt s.net.ports p).pdSeq + 1) % 65536
    let s := modPort p (fun x => { x with pdSeq := seq, pdAt := some s.now, pdOut := true }) s
    sendPorts [p] 3 false (pdelayFrame 2 p (cfgN Ent.PTP_DOMAIN_P s) 0 seq (List.replicate 20 0#8)) s) s

/-- PDELAY_REQ_SEND (R280): `t` is its time stamp. -/
def execPdelayReqSend (port : Port) (t : Nat) (s : State) : Host.Outcome State Fault Refusal :=
  whenLiveK (fun s => pdelaySend (portNo port) (atTime t s)) s

/-- A Pdelay_Req is answered one-step in its domain (R280): the correctionField carries the turnaround time from `t1`, its arrival, to
`t2`, the answer's departure. -/
def pdelayAnswer (p : Nat) (msg : List Byte) (t1 t2 : Nat) (s : State) : State :=
  let m := payloadOf (bodyOf msg)
  ptpTake 2 p msg (fun s =>
    sendPorts [p] 3 false (pdelayFrame 3 p (ptpDomain m) (wrapS 64 (ptpCorr m + ((t2 : Int) - t1) * 65536)) (ptpSeq m)
      (List.replicate 10 0#8 ++ slice m 20 10)) s) s

/-- PDELAY_REQ_ANSWER (R280). -/
def execPdelayReqAnswer (port : Port) (msg : List Byte) (t1 t2 : Nat) (s : State) : Host.Outcome State Fault Refusal :=
  whenLiveK (fun s => pdelayAnswer (portNo port) msg t1 t2 (atTime t2 s)) s

/-- A peer-delay response answers the request that a port has sent: its sequenceId, domain and requestingPortIdentity. -/
def answers (p : Nat) (m : List Byte) (s : State) : Bool :=
  ptpSeq m == (getAt s.net.ports p).pdSeq && ptpDomain m == cfgN Ent.PTP_DOMAIN_P s && slice m 44 10 == portIdentity p

/-- The mean link delay, ns (R280): half of what passed from the request's departure `t1` to the response's arrival `t4`, less the
neighbour's turnaround. One-step: in the correctionField; two-step: between the time stamps of the response and its follow-up. -/
def linkDelay (t1 t4 : Nat) (m follow : List Byte) : Nat :=
  let turn : Int := if ptpTwoStep m then (((ptpStamp follow : Int) - ptpStamp m) * 65536 + ptpCorr m + ptpCorr follow) else ptpCorr m
  (Int.fdiv (((t4 : Int) - t1) * 65536 - turn) 131072).toNat

/-- A Pdelay_Resp, with its Pdelay_Resp_Follow_Up where it is two-step, ends the exchange of the request it answers (R280). -/
def pdelayResponse (p : Nat) (resp follow : List Byte) (t : Nat) (s : State) : State :=
  let m := payloadOf (bodyOf resp)
  let g := payloadOf (bodyOf follow)
  let done (s : State) : State :=
    match (getAt s.net.ports p).pdAt with
    | none => s
    | some t1 => pdelayEnd p (linkDelay t1 t m g) true (modPort p (fun x => { x with pdOut := false }) s)
  ptpTake 3 p resp (fun s =>
    if !(getAt s.net.ports p).pdOut || !answers p m s then s
    else if !ptpTwoStep m then done s
    else ptpTake 10 p follow (guardOn (answers p g s && ptpSrc g == ptpSrc m) done) s) s

/-- PDELAY_RESP (R280): `t` is the response's arrival. -/
def execPdelayResp (port : Port) (resp follow : List Byte) (t : Nat) (s : State) : Host.Outcome State Fault Refusal :=
  whenLiveK (fun s => pdelayResponse (portNo port) resp follow t (atTime t s)) s

/-- ETH_LINK_CHANGE (R268). -/
def execEthLinkChange (port : Port) (up : Bool) (s : State) : Host.Outcome State Fault Refusal :=
  whenLiveK (fun s => chooseRef (linkChange (portNo port) up s)) s

/-! ### Comparisons, storage and the step (R282, R285, R286) -/

/-- The difference of time, other less reference, to the first usable instance that `p` admits. -/
def timeDiff (p : Nat → Nat → Bool) (s : State) : Option Int :=
  match s.ptp.ref with
  | none => none
  | some r => ((List.range 4).find? fun i => p r i && usable i s).map fun i => (inst r s).offset - (inst i s).offset

/-- PTP_DOM_OFFSET: the other domain less the reference (R286). -/
def domDiff (s : State) : Option Int := timeDiff (fun r i => (r < 2) != (i < 2)) s

/-- The other instance of the domain in use less the reference (R286). -/
def lanDiff (s : State) : Option Int := timeDiff (fun r i => (r < 2) == (i < 2) && r != i) s

/-- Follow since when the differences of R286 exceed their limits. -/
def trackDiff (s : State) : State :=
  let beyond (d : Option Int) (lim : Nat) : Bool := d.any fun x => decide (lim < x.natAbs)
  { s with ptp := { s.ptp with
    domSince := sinceNow (beyond (domDiff s) (cfgN Ent.PTP_DOM_DIS s)) s.ptp.domSince s
    lanSince := sinceNow (beyond (lanDiff s) (cfgN Ent.PTP_LAN_DIS s)) s.ptp.lanSince s } }

/-- A difference above its limit for 10 s is a warning (R286): 0x7012 between the domains, 0x7015 between the LANs. -/
def domainDisagree (lans : Bool) (s : State) : State :=
  if lans then guardOn (heldFor s.ptp.lanSince 10000000000 s) (raiseF 0x7015 wide) s
  else guardOn (heldFor s.ptp.domSince 10000000000 s) (raiseF 0x7012 wide) s

/-- DOMAIN_DISAGREE (R286). -/
def execDomainDisagree (lans : Bool) (s : State) : Host.Outcome State Fault Refusal := whenLiveK (domainDisagree lans) s

/-- The clock is written to MRAM every 1 s (R282), with its frequency correction (R284; DEDUCED, log 143). -/
def clockStore (s : State) : State :=
  guardOn (due s.ptp.storeAt 1000000000 s) (fun s =>
    { s with ptp := { s.ptp with stored := s.now, storedFreq := s.ptp.freq, storeAt := some s.now } }) s

/-- CLOCK_STORE (R282). -/
def execClockStore (s : State) : Host.Outcome State Fault Refusal := whenLiveK clockStore s

/-- PTP_INST_STATE: 4 bits per instance, P/A in bits 15 to 12. -/
def instState (s : State) : Nat :=
  (List.range 4).foldl (fun acc i => acc * 16 +
    (if !cfgB Ent.PTP_ENABLE s then 0 else if usable i s then 3 else if (inst i s).master.isSome then 2 else 1)) 0

/-- PTP_GM_P and PTP_GM_S: the grandmaster of the first instance of the domain that has a master. -/
def gmOf (first : Nat) (s : State) : Nat :=
  match (inst first s).master with
  | some m => m.gm
  | none => match (inst (first + 1) s).master with
    | some m => m.gm
    | none => 0

/-- PTP_LINK_DELAY. -/
def linkDelays (s : State) : List Byte :=
  s.net.ports.toList.flatMap fun x => toBytes 4 (if x.capable then x.delay else 0xFFFFFFFF)

/-- PTP_UTC_OFFSET: the reference's currentUtcOffset. -/
def utcOffset (s : State) : Int :=
  match s.ptp.ref with
  | some i => ((inst i s).master.map (·.utc)).getD 0
  | none => 0

/-- PTP_STATE as its code. -/
def PtpState.code : PtpState → Nat
  | .free => 0 | .locked => 1 | .slewing => 2 | .holdover => 3

/-- The N island is fenced: the clock goes on in HOLDOVER (R282, Table 19-2). -/
def ptpFenced (s : State) : State := chooseRef s

/-- The frame's part: time in HOLDOVER counts in frames (PTP_HOLDOVER_S), and the choice of the reference and the comparisons of R286
follow what has changed. -/
def ptpTick (s : State) : State :=
  let s := if s.ptp.state == .holdover then { s with ptp := { s.ptp with holdMs := s.ptp.holdMs + 1 } } else s
  trackDiff (chooseRef s)

end Sys2Proof.Machine
end

