-- ==== Sys2Proof/Machine/Saf.lean ====
section
/-! DEFINITION. The safety functions (09_safety_functions): two cores, safety layer, sealed configuration, safety reset, reaction
times. -/
namespace Sys2Proof.Machine
open Sys2Proof

/-! ### The parameter set (R230, R231, R241) -/

/-- The entry is the seal of the safety parameters (R230). -/
def isSeal (e : Entry) : Bool := e.index == Ent.SAF_SEAL.index && e.sub == Ent.SAF_SEAL.sub

/-- The entries of class SAF except SAF_SEAL, in index:subindex order. -/
def safSet : List Entry := Ent.all.filter fun e => e.access == .saf && !isSeal e

/-- SAF_PARAM_CRC (R230). -/
def paramCrc (s : State) : Nat :=
  crc32c (safSet.flatMap fun e =>
    let v := encodeVal e.ty (cfgVal e 0 s)
    toBytes 2 e.index ++ toBytes 1 e.sub ++ toBytes 1 v.length ++ v)

/-- SAF_PARAM_CRC equals SAF_SEAL, and the set is not lost (R230, R231). -/
def sealOk (s : State) : Bool := !s.saf.setLost && paramCrc s == cfgN Ent.SAF_SEAL s

/-- The stored safety parameters that differ from their defaults. -/
def safStored (s : State) : List (Nat × Val) := s.store.filter fun x => (Ent.SAF_SEAL :: safSet).any fun e => entryAddr e == x.1

/-- The set in the store takes effect (R241). DEDUCED (log 141): the command watchdog of a set that enables SF-IS runs from then. -/
def takeSet (s : State) : State :=
  let en := safN Ent.SAF_IS_EN s
  let s := { s with saf := { s.saf with eff := safStored s, applied := true } }
  if en = 0 && safN Ent.SAF_IS_EN s = 1 then { s with saf := { s.saf with wdFrom := s.now, wdExpired := false, permit := true } } else s

/-! ### Latching (R213, R221) -/

/-- All safe outputs in SAF_Q_MASK open and wait for a new command (R234). -/
def openMask (s : State) : State := forAll ((List.range 4).filter (bitOf (safN Ent.SAF_Q_MASK s))) holdSq s

/-- Put SAF_STATE; outputs that lose their enables drop. -/
def setSaf (x : SafState) (s : State) : State := withSq (fun s => { s with saf := { s.saf with state := x } }) s

/-- A demand latches with a code (R221); the next DUTY frame carries MODE OFF. -/
def latchDemand (code : Nat) (s : State) : State :=
  let s := raiseF code wide s
  if s.saf.state == .permitted then
    let s := withSq (fun s => openMask { s with
      saf := { s.saf with state := .latched, cause := code, newDemand := true }, link := { s.link with offReq := true } }) s
    if s.pair.paired then setFenceOut true s else s
  else s

/-- Both cores open all safe outputs until a reset of the module (R220). -/
def cfgFailed (s : State) : State :=
  withSq (fun s => forAll (List.range 4) holdSq { s with saf := { s.saf with state := .failed } }) (raiseF 0x5808 wide s)

/-! ### The functions (Table 9-1) -/

/-- The functions run: from tier WATCH, sealed, switches valid (R216, R229, R231). -/
def safRuns (s : State) : Bool :=
  s.saf.ran && !s.saf.swInvalid && (s.saf.state == .latched || s.saf.state == .permitted)

/-- SF-IS demands (R213, R216). -/
def demandIs (s : State) : Bool := safN Ent.SAF_IS_EN s = 1 && (!s.saf.permit || s.saf.wdExpired)

/-- A VALID value beyond a level, over the mapped positions. -/
def anyCell (p : Cell → Bool) (s : State) : Bool := (positions s).any fun n => p (cellAt n s)

/-- The instants and values in mA of the usable coulomb samples, newest first (R215). -/
def coulValues (s : State) : List (Nat × Int) :=
  (s.est.samples.filter (·.usable)).map fun c => (c.t, divT (c.x * cfg Ent.EST_SHUNT_LSB s) 1000)

/-- Since when a source has stayed beyond a level: the oldest of the unbroken run of newest values beyond it. -/
def beyondSince (p : Int → Bool) (xs : List (Nat × Int)) : Option Nat := ((xs.takeWhile fun x => p x.2).getLast?).map (·.1)

/-- A source is present: a usable value within the last 1 ms (R215). -/
def sourceHere (xs : List (Nat × Int)) (s : State) : Bool := match xs with | (t, _) :: _ => s.now < t + 1000000 | [] => false

/-- A source has stayed beyond a level for SAF_OC_T. -/
def stayed (p : Int → Bool) (xs : List (Nat × Int)) (s : State) : Bool :=
  match beyondSince p xs with
  | some t => sourceHere xs s && decide (t + safN Ent.SAF_OC_T s * 1000 ≤ s.now)
  | none => false

/-- The instant of a source's last usable value. -/
def lastOf (xs : List (Nat × Int)) (s : State) : Nat := match xs with | (t, _) :: _ => max t s.saf.ranAt | [] => s.saf.ranAt

/-- SF-OC demands (R213, R215): beyond a level, or both sources absent, each after 1 ms, for 10 ms. -/
def demandOc (s : State) : Bool :=
  let c := coulValues s
  let i := s.est.stageI
  let dis (x : Int) : Bool := x > safI Ent.SAF_OC_DIS s
  let chg (x : Int) : Bool := -x > safI Ent.SAF_OC_CHG s
  stayed dis c s || stayed chg c s || stayed dis i s || stayed chg i s ||
  decide (max (lastOf c s) (lastOf i s) + 11000000 ≤ s.now)

/-- The silence time of SF-MS in ns (R214). -/
def safSilence (s : State) : Nat :=
  (if s.saf.sweptAtPeriod then safN Ent.SAF_SILENCE_T s else max (safN Ent.SAF_SILENCE_T s) 450) * 1000000

/-- SF-MS demands (R214): a position mapped, or left unmapped by a failed enumeration, without a VALID voltage or temperature for the
silence time, which runs from its last VALID value or, where it has had none, from the map or the end of that enumeration (R27). -/
def demandMs (s : State) : Bool :=
  let old (from_ : Nat) (last : Option Nat) : Bool := last.getD from_ + safSilence s ≤ s.now
  let silent (from_ n : Nat) : Bool := old from_ (cellAt n s).lastValid || old from_ (cellAt n s).lastValidT
  (positions s).any (silent s.prot.mappedAt) ||
  (s.cells.map == .unmapped && unmappedFaulted s && (List.range (cfgN Ent.STR_POS_COUNT s)).any (silent s.chctl.enumEnd))

/-- The demand vector of a cycle. -/
def demandsNow (s : State) : Demand :=
  { is := demandIs s || s.saf.trPst.is
    ov := anyCell (fun c => c.vq.valid && decide ((c.v : Int) > safI Ent.SAF_OV_LEVEL s)) s || s.saf.trPst.ov
    uv := anyCell (fun c => c.vq.valid && decide ((c.v : Int) < safI Ent.SAF_UV_LEVEL s)) s || s.saf.trPst.uv
    ot := anyCell (fun c => c.tq.valid && decide (c.t > safI Ent.SAF_OT_LEVEL s)) s || s.saf.trPst.ot
    oc := demandOc s || s.saf.trPst.oc
    ms := demandMs s || s.saf.trPst.ms }

/-- The code of a demand of each function: 0x5811 and 0x580C stand in place of it where they cause it (R227, R240). -/
def demandCodes (d : Demand) (s : State) : List Nat :=
  let t := s.saf.trPst
  (if d.is then [if t.is then 0x5811 else if s.saf.permit then 0x580C else 0x5801] else []) ++
  (if d.ov then [if t.ov then 0x5811 else 0x5802] else []) ++ (if d.uv then [if t.uv then 0x5811 else 0x5803] else []) ++
  (if d.ot then [if t.ot then 0x5811 else 0x5804] else []) ++ (if d.oc then [if t.oc then 0x5811 else 0x5805] else []) ++
  (if d.ms then [if t.ms then 0x5811 else 0x5806] else [])

/-- Some demand is present, a changed switch included (R229). -/
def demandPresent (s : State) : Bool := s.saf.swChanged || !(demandCodes s.saf.demand s).isEmpty

/-- SAF_DEMAND. -/
def demandByte (d : Demand) : Nat := b2n d.is + 2 * b2n d.ov + 4 * b2n d.uv + 8 * b2n d.ot + 16 * b2n d.oc + 32 * b2n d.ms

/-- A safety level lies inside its protection trip level (R218). -/
def levelInside (s : State) : Bool :=
  safI Ent.SAF_OV_LEVEL s ≤ cfg Ent.PROT_OV_TRIP s || safI Ent.SAF_UV_LEVEL s ≥ cfg Ent.PROT_UV_TRIP s ||
  safI Ent.SAF_OT_LEVEL s ≤ cfg Ent.PROT_OT_TRIP s || safI Ent.SAF_OC_DIS s ≤ cfg Ent.PROT_OC_DIS_TRIP s ||
  safI Ent.SAF_OC_CHG s ≤ cfg Ent.PROT_OC_CHG_TRIP s

/-! ### Reaction times (R237, R240) -/

/-- P, in ms: the period of the topology in force; a single stretched sweep does not count (Table 9-9). -/
def trP (s : State) : Nat := periodMs s

/-- T_C, in ms. -/
def trC (s : State) : Nat := if s.chain.hmax ≤ 16 then s.chain.hmax else (tDeliver s.chain.hmax + 999) / 1000

/-- T_E, in ms: 2 ms and the largest group delay among the nodes' corners, rounded up. -/
def trE (s : State) : Nat :=
  let d := ((upTo 1 s.chain.n).map fun h => groupDelayNs (cornerOf h s)).foldl max 0
  (2000000 + d + 999999) / 1000000

/-- T_Q, in ms (Table 9-11). -/
def trQ (s : State) : Nat := match safN Ent.SAF_Q_FILTER s with | 0 => 3 | 1 => 4 | _ => 12

/-- 1oo1 operation is in force (R226). -/
def oneLan (s : State) : Bool := bitOf s.saf.dip 1

/-- The command watchdog's time in ms (R227). -/
def watchdogMs (s : State) : Nat := if oneLan s then safN Ent.SAF_WD s / 2 else safN Ent.SAF_WD s

/-- SAF_TR_IS to SAF_TR_MS (R240). -/
def reaction (f : SafetyFn) (s : State) : Nat :=
  match f with
  | .is => max (watchdogMs s + 1 + trQ s) ((if oneLan s then 1 else 3) + trQ s)
  | .ov => trP s + trC s + trE s + trQ s
  | .uv => trP s + trC s + trE s + trQ s
  | .ot => trP s + trC s + trE s + trQ s
  | .oc => (safN Ent.SAF_OC_T s + cfgN Ent.EST_SHUNT_LAT s + 500 + trQ s * 1000 + 999) / 1000
  | .ms => safN Ent.SAF_SILENCE_T s + 1 + trQ s

/-- SAF_PST of a function. -/
def pstOf (f : SafetyFn) (s : State) : Nat :=
  match f with
  | .is => safN Ent.SAF_PST_IS s | .ov => safN Ent.SAF_PST_OV s | .uv => safN Ent.SAF_PST_UV s
  | .ot => safN Ent.SAF_PST_OT s | .oc => safN Ent.SAF_PST_OC s | .ms => safN Ent.SAF_PST_MS s

/-- A function's published time exceeds its process safety time. -/
def exceedsPst (f : SafetyFn) (s : State) : Bool := pstOf f s ≠ 0 && reaction f s > pstOf f s

/-- Set a function's demand by its time. -/
def setTr (f : SafetyFn) (on : Bool) (d : Demand) : Demand :=
  match f with
  | .is => { d with is := on } | .ov => { d with ov := on } | .uv => { d with uv := on }
  | .ot => { d with ot := on } | .oc => { d with oc := on } | .ms => { d with ms := on }

/-- The functions, in the order of Table 9-1. -/
def safetyFns : List SafetyFn := [.is, .ov, .uv, .ot, .oc, .ms]

/-- A demand by reaction time ends with its cause. -/
def dropTr (s : State) : State :=
  forAll safetyFns (fun f s => if exceedsPst f s then s else { s with saf := { s.saf with trPst := setTr f false s.saf.trPst } }) s

/-- Where a function stands in Table 9-1. -/
def fnNo : SafetyFn → Nat
  | .is => 0 | .ov => 1 | .uv => 2 | .ot => 3 | .oc => 4 | .ms => 5

/-- Since when each function's published time exceeds its process safety time (R240). -/
def watchTr (s : State) : State :=
  let since (f : SafetyFn) : Option Nat := sinceNow (exceedsPst f s) (s.saf.trSince.getD (fnNo f) none) s
  { s with saf := { s.saf with trSince := safetyFns.map since } }

/-- A function's published time has exceeded its process safety time for 1 s (R240). -/
def trDue (f : SafetyFn) (s : State) : Bool := exceedsPst f s && heldFor (s.saf.trSince.getD (fnNo f) none) 1000000000 s

/-- TR_EXCEEDS_PST (R240). -/
def trExceedsPst (f : SafetyFn) (s : State) : State :=
  guardOn (trDue f s && safRuns s) (fun s =>
    let s := { s with saf := { s.saf with trPst := setTr f true s.saf.trPst, demand := setTr f true s.saf.demand } }
    latchDemand 0x5811 s) s

/-- TR_EXCEEDS_PST (R240). -/
def execTrExceedsPst (f : SafetyFn) (s : State) : Host.Outcome State Fault Refusal := whenLiveK (trExceedsPst f) s

/-! ### The safety cycle (R219, R220) -/

/-- The evaluation of a cycle. -/
def evaluateSaf (s : State) : State :=
  let s := if !s.saf.applied then takeSet s else s
  let s := watchTr (dropTr s)
  let swept := s.saf.sweptAtPeriod || (tierAtLeast .limited s && s.cells.sweepNo > 0 && s.chain.effPeriod == periodMs s)
  let s := { s with saf := { s.saf with sweptAtPeriod := swept } }
  let d := demandsNow s
  let s := { s with saf := { s.saf with demand := d } }
  let s := forAll (demandCodes d s) latchDemand s
  if levelInside s then raiseF 0x5812 wide s else s

/-- The S island's own sample of DI31 (R233). While VF is UNPOWERED, REVERSED or RETURNING the input is ignored, and a pulse starts again
after the sag (R330). -/
def sampleReset (high : Bool) (s : State) : State :=
  let x := s.saf
  let since := x.rstAt.getD s.now
  if !vfOn s then { s with saf := { x with rst := false, rstAt := some s.now, rstLow := 0, pulse := none } }
  else if x.rstAt.isNone then { s with saf := { x with rst := high, rstAt := some s.now, rstLow := 0, pulse := none } }
  else if high == x.rst then { s with saf := { x with pulse := none } }
  else if high then { s with saf := { x with rst := true, rstAt := some s.now, rstLow := s.now - since, pulse := none } }
  else { s with saf := { x with rst := false, rstAt := some s.now, pulse := some (x.rstLow, s.now - since) } }

/-- A safety cycle starts: at a frame tick, or 1 ms after the last start where the tick is missing (R219). -/
def cycleDue (s : State) : Bool :=
  match s.saf.cycleAt with
  | none => true
  | some t => decide (t < s.frameAt) || decide (t + 1000000 ≤ s.now)

/-- The two cores' part of a cycle (R220). -/
def coresCycle (completed agree : Bool) (s : State) : State :=
  guardOn (s.saf.state != .failed) (fun s =>
    let s := { s with saf := { s.saf with diffRun := if agree then 0 else s.saf.diffRun + 1 } }
    if !completed || s.saf.diffRun ≥ 2 then cfgFailed s
    else if safRuns s then evaluateSaf s else s) s

/-- SAFETY_CYCLE (R219, R220, R233). -/
def safetyCycle (completed agree di31 : Bool) (s : State) : State :=
  guardOn (!isFenced .s s && cycleDue s) (fun s =>
    coresCycle completed agree (sampleReset di31 { s with saf := { s.saf with cycleAt := some s.now } })) s

/-- SAFETY_CYCLE (R219). -/
def execSafetyCycle (completed agree di31 : Bool) (s : State) : Host.Outcome State Fault Refusal :=
  whenLiveK (safetyCycle completed agree di31) s

/-! ### The start rule and the seal (R231, R236) -/

/-- SAF_STATE after a start or a matching seal (R231, R236). -/
def startRule (s : State) : State :=
  if cfgB Ent.SAF_START_RESET s then
    withSq (fun s => openMask { s with saf := { s.saf with state := .latched, cause := 0x5800 } }) (raiseF 0x5800 wide s)
  else
    let s := setSaf .permitted s
    let s := { s with saf := { s.saf with demand := demandsNow (takeSet s) } }
    forAll (demandCodes s.saf.demand s) latchDemand s

/-- The stored set no longer matches its seal, or is lost (R230, R231). -/
def breakSeal (s : State) : State :=
  let s := raiseF (if s.saf.setLost then 0x5813 else 0x5809) wide s
  withSq (fun s => forAll (List.range 4) holdSq { s with saf := { s.saf with state := .unsealed, applied := false } }) s

/-- After a write of the set: it is sealed or not. The next safety cycle takes a sealed set (R241). -/
def checkSeal (s : State) : State :=
  if s.saf.state == .failed || s.saf.state == .starting then s
  else if sealOk s then
    if s.saf.state == .unsealed then startRule (clearF 0x5813 wide (clearF 0x5809 wide s)) else s
  else if s.saf.state == .unsealed then (if s.saf.setLost then s else raiseF 0x5809 wide s)
  else breakSeal s

/-- Tier WATCH: the safety functions begin (R216, R227, R236). -/
def startSafety (s : State) : State :=
  if s.saf.state == .failed then s
  else
    let s := takeSet { s with saf := { s.saf with ran := true, ranAt := s.now, wdFrom := s.now, permit := true, wdExpired := false, lastSeq := none } }
    if sealOk s then startRule s else breakSeal s

/-! ### Frames of the safety layer (R222 to R228) -/

/-- The fields of a safety frame (Table 9-3). -/
structure SafFrame where
  kind  : Nat
  lanB  : Bool
  conn  : Nat
  seq   : Nat
  data  : List Byte
  deriving DecidableEq, Repr, Inhabited

/-- The virtual header (Table 9-4). -/
def virtualHeader (conn dst src : Nat) : List Byte := toBytes 4 conn ++ toBytes 1 dst ++ toBytes 1 src ++ [0, 0]

/-- A frame whose form and CRC are valid for the module's addresses. -/
def parseSafFrame (b : List Byte) (s : State) : Option SafFrame :=
  let len := fieldU b 10 1
  if b.length ≥ 15 && b.length == 15 + len && len ≤ 32 && fieldU b 0 1 / 16 == 1 && fieldU b 1 1 % 128 == 0 &&
      fieldU b (11 + len) 4 == crc32c (virtualHeader (fieldU b 2 4) s.saf.addr (safN Ent.SAF_PEER_ADDR s) ++ b.take (11 + len)) then
    some { kind := fieldU b 0 1 % 16, lanB := bitOf (fieldU b 1 1) 7, conn := fieldU b 2 4, seq := fieldU b 6 2
           data := slice b 11 len }
  else none

/-- The bytes of a frame the module sends (Table 9-3). -/
def buildSafFrame (kind : Nat) (lanB : Bool) (seq : Nat) (data : List Byte) (s : State) : List Byte :=
  let conn := safN Ent.SAF_CONN_STAT s
  let b := toBytes 1 (16 + kind) ++ toBytes 1 (128 * b2n lanB) ++ toBytes 4 conn ++ toBytes 2 seq ++
    toBytes 2 (safN Ent.SAF_WD s) ++ toBytes 1 data.length ++ data
  b ++ toBytes 4 (crc32c (virtualHeader conn (safN Ent.SAF_PEER_ADDR s) s.saf.addr ++ b))

/-- Datagrams of the safety layer pass on a LAN: it runs, an address is in use, and the peer is named (R273, R276). -/
def safetyLan (l : Lan) (s : State) : Bool :=
  !isFenced .n s && !(match l with | .a => s.net.fenceA | .b => s.net.fenceB) && s.net.ip != 0 && cfg Ent.NET_SAF_PEER_IP s != 0

/-- Send a safety frame's copy on its LAN. -/
def sendCopy (l : Lan) (bytes : List Byte) (s : State) : State := if safetyLan l s then emit (.safetyFrame l bytes) s else s

/-- One frame of the status connection, a copy on each LAN (R222). -/
def sendSafFrame (kind : Nat) (data : List Byte) (s : State) : State :=
  let seq := if s.saf.statSeq ≥ 65535 then 1 else s.saf.statSeq + 1
  let s := { s with saf := { s.saf with statSeq := seq } }
  sendCopy .b (buildSafFrame kind true seq data s) (sendCopy .a (buildSafFrame kind false seq data s) s)

/-- The code of SAF_STATE. -/
def SafState.code : SafState → Nat
  | .starting => 0 | .unsealed => 1 | .latched => 2 | .permitted => 3 | .failed => 4

/-- The data of a status frame (Table 9-5). -/
def statusData (s : State) : List Byte :=
  toBytes 1 (demandByte s.saf.demand) ++ toBytes 1 (sqMap s) ++ toBytes 1 s.saf.state.code ++
  toBytes 1 (b2n (bitOf s.saf.dip 0) + 2 * b2n (oneLan s) + 4 * b2n s.saf.stuck) ++ toBytes 4 (safN Ent.SAF_SEAL s)

/-- A status frame is due: after an accepted command frame, and at intervals of SAF_WD / 4 (R227). -/
def statusDue (s : State) : Bool :=
  s.saf.statDue || due s.saf.statAt (safN Ent.SAF_WD s * 250000) s

/-- STATUS_FRAME_SEND (R227): on a status connection that has an identity, also without a command connection (R216, log 109). -/
def statusFrameSend (s : State) : State :=
  guardOn (safN Ent.SAF_CONN_STAT s ≠ 0 && !isFenced .s s && statusDue s) (fun s =>
    sendSafFrame 1 (statusData s) { s with saf := { s.saf with statDue := false, statAt := some s.now } }) s

/-- STATUS_FRAME_SEND (R227). -/
def execStatusFrameSend (s : State) : Host.Outcome State Fault Refusal := whenLiveK statusFrameSend s

/-- Count a failing frame (R224). -/
def countBad (s : State) : State := { s with saf := { s.saf with bad := incSat32 s.saf.bad } }

/-- The bytes two copies must agree in: all but LAN and CRC (R225). -/
def copyBody (b : List Byte) : List Byte := b.take 1 ++ [(b.getD 1 0) &&& 0x7F] ++ (b.take (b.length - 4)).drop 2

/-- The LAN of a copy. -/
def copyLan (f : SafFrame) : Lan := if f.lanB then .b else .a

/-- How a SEQ stands to the last accepted one (R224). -/
inductive SeqPlace where
  | next | old | beyond
  deriving DecidableEq, Repr, Inhabited

/-- Sort a SEQ (R224). -/
def seqPlace (seq : Nat) (s : State) : SeqPlace :=
  match s.saf.lastSeq with
  | none => .next
  | some l =>
    let d := (seq + 65535 - l % 65535) % 65535
    if 1 ≤ d && d ≤ 255 then .next else if d = 0 || d ≥ 32768 then .old else .beyond

/-- A command DATA frame's data are well formed: PERMIT and its complement (Table 9-5, R224). -/
def permitOk (d : List Byte) : Bool := d.length == 2 && d.getD 1 0 == (d.getD 0 0) ^^^ 0xFF && (d.getD 0 0).toNat ≤ 1

/-- A frame is accepted: its SEQ, the watchdog (R224, R227). -/
def acceptFrame (f : SafFrame) (s : State) : State :=
  { s with saf := { s.saf with
      lastSeq := some f.seq, ok := incSat32 s.saf.ok, wdExpired := false, wdFrom := s.now, statDue := true
      permit := if f.kind = 1 then bitOf ((f.data.getD 0 0).toNat) 0 else s.saf.permit } }

/-- Copies that have been held for 2 ms without a partner: discarded, and counted unless 1oo1 has taken them (R225). -/
def dropLone (old : HeldCopy → Bool) (s : State) : State :=
  let gone := s.saf.heldCopies.filter old
  let s := { s with saf := { s.saf with heldCopies := s.saf.heldCopies.filter fun h => !old h } }
  forAll (gone.filter (!·.taken)) (fun h s =>
    let lone := ((h.at_ + 2000000) :: s.saf.lone).filter fun t => t + 1000000000 > s.now
    let s := { s with saf := { s.saf with single := incSat32 s.saf.single, lone := lone.take 16 } }
    if lone.length > 10 then raiseF 0x580E wide s else s) s

/-- A copy of a SEQ that no held copy pairs: judged by its SEQ, then held, and in 1oo1 accepted at once (R224 to R226). -/
def firstCopy (b : List Byte) (f : SafFrame) (s : State) : State × Bool :=
  match seqPlace f.seq s with
  | .old => (s, false)
  | .beyond => (countBad s, false)
  | .next =>
    let one := oneLan s
    if s.saf.heldCopies.any (fun h => fieldU h.bytes 6 2 == f.seq && !h.taken) && !one then (s, false)
    else
      let mine : HeldCopy := ⟨copyLan f, b, s.now, one⟩
      let held := (s.saf.heldCopies ++ [mine]).drop (s.saf.heldCopies.length - 63)
      let s := { s with saf := { s.saf with heldCopies := held } }
      if one then (acceptFrame f s, true) else (s, false)

/-- The second copy of a SEQ: compared with the held one, and in 2oo2 accepted where both agree and the SEQ is still ahead (R225,
R226). -/
def secondCopy (h : HeldCopy) (b : List Byte) (f : SafFrame) (s : State) : State × Bool :=
  let s := { s with saf := { s.saf with heldCopies := s.saf.heldCopies.filter (· != h) } }
  if copyBody h.bytes == copyBody b then
    if h.taken || seqPlace f.seq s != .next then (s, false) else (acceptFrame f s, true)
  else if h.taken then (raiseF 0x580D wide s, false)
  else (raiseF 0x580D wide { s with saf := { s.saf with mismatch := incSat32 s.saf.mismatch } }, false)

/-- A copy arrives: pairing, comparison, acceptance (R224 to R226). The answer tells whether the frame is accepted. -/
def takeCopy (b : List Byte) (f : SafFrame) (s : State) : State × Bool :=
  let s := dropLone (fun h => decide (h.at_ + 2000000 < s.now)) s
  match s.saf.heldCopies.find? fun h => fieldU h.bytes 6 2 == f.seq && h.lan != copyLan f with
  | some h => secondCopy h b f s
  | none => firstCopy b f s

/-- Receive a frame of a kind (R224). The answer is the frame when it is accepted. -/
def receiveSaf (kind : Nat) (b : List Byte) (t : Nat) (s : State) : State × Option SafFrame :=
  let s := atTime t s
  match parseSafFrame b s with
  | some f =>
    let form := if kind = 1 then permitOk f.data else 4 ≤ f.data.length
    if f.kind = kind && f.conn = safN Ent.SAF_CONN_CMD s && 1 ≤ f.seq && form then
      let (s, ok) := takeCopy b f s
      (s, if ok then some f else none)
    else (countBad s, none)
  | none => (countBad s, none)

/-- SAFETY_DATA_FRAME (R224): the connection exists while SAF_IS_EN = 1 (R216, log 109). -/
def execSafetyDataFrame (bytes : List Byte) (t : Nat) (s : State) : Host.Outcome State Fault Refusal :=
  whenLiveK (fun s => if isFenced .s s || isFenced .n s || safN Ent.SAF_IS_EN s = 0 then s else (receiveSaf 1 bytes t s).1) s

/-- The set that would result breaks a rule that links entries (R232). -/
def safLinkOk (e : Entry) (s : State) : Bool :=
  cfgN Ent.SAF_SILENCE_T s ≥ 2 * cfgN Ent.CHN_SWEEP_PERIOD s &&
  (cfgN Ent.SAF_CONN_CMD s ≠ cfgN Ent.SAF_CONN_STAT s || cfgN Ent.SAF_CONN_CMD s = 0) &&
  (!isSeal e || !(cfgB Ent.SAF_IS_EN s && (cfgN Ent.SAF_CONN_CMD s = 0 || cfgN Ent.SAF_CONN_STAT s = 0)))

/-- A safety parameter has been written: the seal is checked, and writing it ends SAF_SET_LOST (R230, R241). -/
def paramTaken (e : Entry) (s : State) : State :=
  checkSeal (if isSeal e then { s with saf := { s.saf with setLost := false } } else s)

/-- A PARAM_WRITE's status and effect (R228, R232). -/
def paramWrite (index sub : Nat) (value : List Byte) (s : State) : Nat × State :=
  match findEntry index sub with
  | none => (stAccess, s)
  | some (e, k) =>
    if !bitOf s.saf.dip 0 || e.access != .saf then (stAccess, s)
    else if !parked s then (stBusy, s)
    else
      match decodeVal e value with
      | none => (stType, s)
      | some v =>
        if !valueOk e v then (stRange, s)
        else if !safLinkOk e (setCfg e k v s) then (stRange, s)
        else (stAccepted, keep (paramTaken e) (setCfg e k v s))

/-- A PARAM_WRITE frame (R228): answered with one PARAM_REPLY. -/
def paramMessage (bytes : List Byte) (t : Nat) (s : State) : State :=
  if isFenced .s s || isFenced .n s then s
  else
    let got := receiveSaf 2 bytes t s
    let s := keep (fun _ => got.1) s
    match got.2 with
    | some f =>
      let x := paramWrite (fieldU f.data 0 2) (fieldU f.data 2 1) (f.data.drop 3) s
      keep (sendSafFrame 3 (f.data.take 3 ++ toBytes 1 x.1)) x.2
    | none => s

/-- PARAM_WRITE (R228). -/
def execParamWrite (bytes : List Byte) (t : Nat) (s : State) : Host.Outcome State Fault Refusal := whenLive (paramMessage bytes t) s

/-- COPY_WINDOW_EXPIRY (R225): the copies held for 2 ms go. -/
def copyWindowExpiry (s : State) : State := dropLone (fun h => decide (h.at_ + 2000000 ≤ s.now)) s

/-- COPY_WINDOW_EXPIRY (R225). -/
def execCopyWindowExpiry (s : State) : Host.Outcome State Fault Refusal := whenLiveK copyWindowExpiry s

/-- The command watchdog has run out (R227). -/
def watchdogDue (s : State) : Bool :=
  s.saf.ran && safN Ent.SAF_IS_EN s = 1 && !s.saf.wdExpired && decide (s.saf.wdFrom + watchdogMs s * 1000000 ≤ s.now)

/-- SAFETY_WATCHDOG_EXPIRY (R224, R227). -/
def watchdogExpiry (s : State) : State :=
  guardOn (watchdogDue s && !isFenced .s s) (fun s =>
    let s := { s with saf := { s.saf with
      wdExpired := true, lastSeq := none, heldCopies := [], wdCount := incSat32 s.saf.wdCount
      demand := { s.saf.demand with is := true } } }
    if safRuns s then latchDemand 0x580C s else raiseF 0x580C wide s) s

/-- SAFETY_WATCHDOG_EXPIRY (R227). -/
def execSafetyWatchdogExpiry (s : State) : Host.Outcome State Fault Refusal := whenLiveK watchdogExpiry s

/-! ### Switches and reset (R229, R233 to R236) -/

/-- SWITCH_SCAN (R229). -/
def switchScan (addr dip : Nat) (s : State) : State :=
  let bad := addr = 0 || addr = 255 || dip ≥ 8
  let first := !s.saf.scanned
  let s := { s with saf := { s.saf with
    addr := addr, dip := dip, scanned := true, scanAt := s.now
    addr0 := if first then addr else s.saf.addr0, lan0 := if first then bitOf dip 1 else s.saf.lan0 } }
  let s := withSq (fun s => { s with saf := { s.saf with swInvalid := bad } }) s
  let s := if bad then raiseF 0x580B wide s else s
  if addr ≠ s.saf.addr0 || bitOf dip 1 ≠ s.saf.lan0 then
    latchDemand 0x580A { s with saf := { s.saf with swChanged := true } }
  else s

/-- The cores read the switches at start and every 100 ms (R229). -/
def scanDue (s : State) : Bool := !s.saf.scanned || decide (s.saf.scanAt + 100000000 ≤ s.now)

/-- SWITCH_SCAN (R229). -/
def execSwitchScan (addr dip : Byte) (s : State) : Host.Outcome State Fault Refusal :=
  whenLiveK (guardOn (!isFenced .s s && scanDue s) (switchScan addr.toNat dip.toNat)) s

/-- The latch ends: PERMITTED, and the demand codes clear (R234, R242). -/
def clearLatch (s : State) : State :=
  let s := forAll [0x5800, 0x5801, 0x5802, 0x5803, 0x5804, 0x5805, 0x5806, 0x580C, 0x5811] (fun c s => clearF c wide s) s
  setSaf .permitted s

/-- Put SAF_RESET_LAST. -/
def putReset (r : ResetLast) (s : State) : State := { s with saf := { s.saf with resetLast := r } }

/-- DI31 has been low for 1 s without a break: resets are no longer blocked (R235). -/
def unblock (s : State) : State := clearF 0x580F wide { s with saf := { s.saf with stuck := false } }

/-- A pulse of 0.1 s to 3 s after a low level of at least 100 ms (R234). -/
def validPulse (s : State) : State :=
  if s.saf.state != .latched then putReset .noLatch s
  else if demandPresent s then putReset .refusedDemand s
  else putReset .done (clearLatch { s with saf := { s.saf with resetCount := incSat32 s.saf.resetCount } })

/-- The falling edge after a low level and a high level of these lengths in ns (R233, R235). -/
def resetPulse (low high : Nat) (s : State) : State :=
  let s := if s.saf.stuck && 1000000000 ≤ low then unblock s else s
  if s.saf.stuck then s
  else if high < 100000000 then putReset .short s
  else if high > 3000000000 || low < 100000000 then s
  else validPulse s

/-- SAFETY_RESET_PULSE (R233 to R235): a falling edge of DI31 at the sample of the present cycle. -/
def safetyResetPulse (s : State) : State :=
  match s.saf.pulse with
  | some (low, high) => guardOn (!isFenced .s s) (fun s => resetPulse low high { s with saf := { s.saf with pulse := none } }) s
  | none => s

/-- SAFETY_RESET_PULSE (R234). -/
def execSafetyResetPulse (s : State) : Host.Outcome State Fault Refusal := whenLiveK safetyResetPulse s

/-- DI31 has been at its level for a time in ns. -/
def rstFor (ns : Nat) (s : State) : Bool := heldFor s.saf.rstAt ns s

/-- STUCK_RESET (R235). -/
def execStuckReset (s : State) : Host.Outcome State Fault Refusal :=
  whenLiveK (guardOn (s.saf.rst && rstFor 3000000000 s && !s.saf.stuck && !isFenced .s s) (fun s =>
    raiseF 0x580F wide (putReset .stuck { s with saf := { s.saf with stuck := true } }))) s

/-- The code of SAF_RESET_LAST. -/
def ResetLast.code : ResetLast → Nat
  | .none => 0 | .done => 1 | .refusedDemand => 2 | .noLatch => 3 | .short => 4 | .stuck => 5

end Sys2Proof.Machine
end

