-- ==== Sys2Proof/Machine/Contain.lean ====
section
/-! DEFINITION. Resets (14_startup_and_service_tiers R344, R345) and the fences of islands (19_supervision_and_freeze R428,
Table 19-2). -/
namespace Sys2Proof.Machine
open Sys2Proof

/-! ### Resets -/

/-- The code of a reset cause (Table 14-5). -/
def causeCode : ResetCause → Nat
  | .powerOn => 0 | .brownOut => 1 | .pwrEn => 2 | .extraction => 3 | .command => 4 | .selftest => 5 | .freeze => 6 | .tap => 7
  | .pMemory => 8

/-- The P island records the cause of a reset in MRAM before the reset takes effect (R344). -/
def recordCause (cause : ResetCause) (s : State) : State :=
  { s with sys := { s.sys with cause := cause, causeRec := true, resetAt := s.now, resets := incSat32 s.sys.resets } }

/-- The configuration that a reset keeps: every value that is not VOL (R246). -/
def keptStore (s : State) : List (Nat × Val) :=
  s.store.filter fun x => match findEntry (x.1 / 256) (x.1 % 256) with
    | some (e, _) => e.persist != .vol
    | none => true

/-- A session after a reset: its next number goes back to its first request that was not committed; requests held and not yet
committed are lost (R258, Table 14-6). -/
def keptSession (batch : List Work) (x : Session) : Session :=
  let lost := batch.filterMap fun w => match w with
    | .request r _ => if r.h.ses == x.id then some r.h.seq else none
    | .own _ _ => none
  { x with next := lost.head?.getD x.next, held := [], snap := none }

/-- What a reset does to a firmware update (R345, R392). -/
def keptFw (f : FwRegs) : FwRegs :=
  let f := { f with starting := false, commitNext := false, backNext := none, framesIn := 0, probation := 0,
                    abort := false, pairNo := 0 }
  match f.state with
  | .shadow => { f with state := .verified, last := .abandoned }
  | .probation => { f with state := .rejected, last := .rolledBack }
  | .recovery => { f with state := .idle, recNext := 0 }
  | .idle => f | .deltaStored => f | .applying => f | .verifying => f | .verified => f | .rejected => f | .failed => f

/-- A counter resumes at its stored value plus 8,192 (R53). -/
def resumeCtr (stored : Nat) : Nat := stored + 8192

/-- What a reset keeps of position n's learning: the record's copies, and the entry that stands in the journal without a completion
(R118). -/
def keptLearn (journal : List JEntry) (n : Nat) (p : LearnPos) : LearnPos :=
  let kept : LearnPos := { a := p.a, aOk := p.aOk, b := p.b, bOk := p.bOk, recGen := p.recGen }
  match journal.find? fun e => e.type == 0x30 && !e.done && fieldU e.payload 0 2 == n with
  | some e => { kept with entry := some (capLearnOf e.payload), committed := true, entryJ := e.jseq, state := .journaled }
  | none => kept

/-- The state a reset leaves: MRAM and flash keep what they hold, everything else is as before power-good (R246, R345). -/
def coldState (s : State) : State :=
  let clean : State := {}
  let t : State := { clean with
    pending := s.pending
    out := s.out
    freeNo := s.freeNo
    now := s.ptp.stored
    frameAt := s.ptp.stored - s.ptp.stored % 1000000
    store := keptStore s
    sys := { clean.sys with opSec := s.sys.opSec, pcyc := s.sys.pcyc, cause := s.sys.cause, causeRec := s.sys.causeRec,
                            resetAt := s.sys.resetAt, resets := s.sys.resets, recorded := s.sys.recorded }
    ses := { clean.ses with
      open_ := s.ses.open_.map (keptSession s.ses.batch), gen := s.ses.gen, journal := s.ses.journal, jseq := s.ses.jseq
      toApply := s.ses.toApply, idle := s.ses.idle, idleLast := s.ses.idleLast, idleEntry := s.ses.idleEntry
      gaps := s.ses.gaps, replays := s.ses.replays, crcErr := s.ses.crcErr, svcEn := s.ses.svcEn }
    flt := { clean.flt with log := s.flt.log, logSeq := s.flt.logSeq, suppressed := s.flt.suppressed, suppressMax := s.flt.suppressMax }
    chain := { clean.chain with
      sweepCtr := resumeCtr s.chain.storedSweep, cmdCtrA := resumeCtr s.chain.storedA, cmdCtrB := resumeCtr s.chain.storedB
      storedSweep := s.chain.storedSweep, storedA := s.chain.storedA, storedB := s.chain.storedB
      crcErrA := s.chain.crcErrA, crcErrB := s.chain.crcErrB, micErr := s.chain.micErr, splitSweeps := s.chain.splitSweeps }
    chctl := { clean.chctl with packKey := s.chctl.packKey, keyId := s.chctl.keyId }
    cells := { clean.cells with cells := s.cells.cells.map fun c => { srcLo := c.srcLo, srcHi := c.srcHi } }
    est := { clean.est with cpA := s.est.cpA, cpB := s.est.cpB }
    ident := { clean.ident with pos := s.ident.pos.mapIdx (keptLearn s.ses.journal) }
    link := { clean.link with
      cu := s.link.cu.map fun u => { wraps := u.wraps }
      late := s.link.late, crcErr := s.link.crcErr, dseqErr := s.link.dseqErr, faulted := s.link.faulted }
    sp := { clean.sp with loadSteps := s.sp.loadSteps }
    prot := { clean.prot with
      tripped := s.prot.tripped, cause := s.prot.cause, tripTime := s.prot.tripTime, tripInst := s.prot.tripInst
      breaks := s.prot.breaks, kOps := s.prot.kOps, openWork := s.prot.openWork
      seq := s.prot.seq, step := s.prot.step, seqJ := s.prot.seqJ, resumed := s.prot.resumed
      result := if s.prot.result == .running then .none else s.prot.result }
    saf := { clean.saf with
      cause := s.saf.cause, setLost := s.saf.setLost, resetCount := s.saf.resetCount, ok := s.saf.ok, bad := s.saf.bad
      mismatch := s.saf.mismatch, single := s.saf.single, wdCount := s.saf.wdCount }
    dio := { clean.dio with tests := s.dio.tests }
    net := { clean.net with dropNoBuf := s.net.dropNoBuf }
    ptp := { clean.ptp with changes := s.ptp.changes, stored := s.ptp.stored, storedFreq := s.ptp.storedFreq, freq := s.ptp.storedFreq }
    can := { clean.can with ch := s.can.ch.map fun x =>
      { received := x.received, sent := x.sent, errors := x.errors, arbLost := x.arbLost, fifoLost := x.fifoLost, ovls := x.ovls
        unfiltered := x.unfiltered, busOffs := x.busOffs } }
    sup := { clean.sup with shutdowns := s.sup.shutdowns, lastShutdown := s.sup.lastShutdown, freezes := s.sup.freezes }
    pair := { clean.pair with
      epoch := s.pair.epoch, failovers := s.pair.failovers, lastFailover := s.pair.lastFailover, lastGap := s.pair.lastGap
      fenceIn := s.pair.fenceIn }
    mem := { clean.mem with
      regions := s.mem.regions.map fun r => { corrected := r.corrected, checkbit := r.checkbit, uncorr := r.uncorr }
      lastKind := s.mem.lastKind, lastRegion := s.mem.lastRegion, lastOffset := s.mem.lastOffset, lastTime := s.mem.lastTime
      softMap := s.mem.softMap, bankBad := s.mem.bankBad }
    fw := keptFw s.fw
    recd := { clean.recd with
      recs := s.recd.recs, lastCommit := s.recd.lastCommit, invalid := s.recd.invalid, lost := s.recd.lost
      seenSteps := s.sp.loadSteps, seenBreaks := s.prot.breaks } }
  { t with tb := { t.tb with period := (nominalPs t).toNat }, chain := { t.chain with chA := cfgN Ent.CHN_CHAN_A t, chB := cfgN Ent.CHN_CHAN_B t } }

/-- A reset with its cause (R344, R345): the module is at the start of Table 14-2 again. A reset during PROBATION raises 0x7A08
(R392). -/
def resetModule (cause : ResetCause) (s : State) : State :=
  let t := coldState (recordCause cause s)
  if s.fw.state == .probation then raiseF 0x7A08 wide t else t

/-! ### Fences -/

/-- A member leaves the ACTIVE role by itself (R365, R372): select released, role FENCED. -/
def leaveActive (s : State) : State :=
  assertSelect none { endHold s with pair := { s.pair with role := .fenced, laneHeld := false, request := .none, handing := false } }

/-- A member requests RESIGN (R372); with no partner it takes the role FENCED at once. -/
def resign (s : State) : State :=
  if !s.pair.paired || s.pair.role != .active then s
  else if s.pair.partner == some .standby then { s with pair := { s.pair with request := .resign } }
  else withSq leaveActive s

/-- LANE_DOWN (R139): an active member whose selected lane falls requests RESIGN (R372). -/
def execLaneDown (lane : Lane) (s : State) : Host.Outcome State Fault Refusal :=
  whenLiveK (fun s =>
    let t := laneDown lane s
    if isSelected lane s && s.pair.paired then resign t else t) s

/-- The code that marks an island's fence in its flag. -/
def markFence (i : Island) (code : Nat) (s : State) : State :=
  { s with sup := { s.sup with fenced := s.sup.fenced.close i, cause := setAt s.sup.cause (islandNo i) code } }

/-- What the fence of an island does besides closing its ports (Table 19-2). -/
def fenceEffect (i : Island) (s : State) : State :=
  match i with
  | .p => s
  | .h => if s.pair.paired then resign s else if s.sp.mode.running then { s with sp := { s.sp with req := .standby } } else s
  | .c => assertSelect none (toStandbyNow s)
  | .e => s
  | .m => resign (chainFailed s)
  | .n =>
    let s := forAll [0, 1, 2, 3] (fun p s => modPort p (fun x => { x with queue := [] }) s) s
    ptpFenced { s with net := { s.net with rxA := false, rxB := false } }
  | .s => resign { s with saf := { s.saf with state := .failed }, link := { s.link with offReq := true } }
  | .f => lossBegins .ai (lossBegins .pi s)
  | .b => s
  | .j => resign { s with recd := { s.recd with state := .running, holdSes := 0, holdWant := none } }

/-- Fence an island for a cause (R428): 0x1010, SUP_FENCED, SUP_FENCE_CAUSE, and the action of Table 19-2. The P island is never
fenced: the module resets instead. -/
def fenceIsland (i : Island) (code : Nat) (s : State) : State :=
  if isFenced i s then s
  else match i with
    | .p => resetModule .pMemory s
    | .h | .c | .e | .m | .n | .s | .f | .b | .j =>
      withSq (fun s => fenceEffect i (raiseF 0x1010 (islandNo i) (markFence i code s))) s

/-- An island hangs (R428): 0x1007 and the fence. A hang of the P island resets the module; DEDUCED (log 29): with cause P_MEMORY,
the only cause of Table 14-5 that names the P island. -/
def islandHang (i : Island) (s : State) : State :=
  if i == .p then resetModule .pMemory s
  else keep (fun s => if isFenced i s then s else fenceIsland i 0x1007 (raiseF 0x1007 (islandNo i) s)) s

/-- ISLAND_HANG (R428). -/
def execIslandHang (i : Island) (s : State) : Host.Outcome State Fault Refusal := whenLive (islandHang i) s

end Sys2Proof.Machine
end

