-- ==== Sys2Proof/Machine/Fw.lean ====
section
/-! DEFINITION. Firmware update (16_firmware_update): banks, delta, apply, activation, health window, recovery load. -/
namespace Sys2Proof.Machine
open Sys2Proof

/-! ### Banks and packages (R379, R380, R389) -/

/-- The 4 KiB blocks written in the field of a bank. -/
def bankBlocks (b : Nat) (s : State) : List (Nat × List Byte) := if b = 0 then s.fw.bankA else s.fw.bankB

/-- A byte of a bank: of a block written in the field, or what manufacture put there. -/
def bankByte (b a : Nat) (s : State) : Byte :=
  match (bankBlocks b s).find? (·.1 == a / 4096) with
  | some (_, bs) => bs.getD (a % 4096) 0xFF#8
  | none => Config.flashFactory b a

/-- `n` bytes of a bank from byte `o` on. -/
def bankBytes (b o n : Nat) (s : State) : List Byte := (List.range n).map fun i => bankByte b (o + i) s

/-- A range of a bank holds an uncorrectable block: a read of it delivers no data (R405, R406). -/
def bankBad (b o n : Nat) (s : State) : Bool := s.mem.bankBad.any fun x => x.1 == b && o < 8 * x.2 + 8 && 8 * x.2 < o + n

/-- The bank holds a new package that passes R380: its uncorrectable blocks are written over, and 0x1108, which is module-wide
(Table 22-3), clears where the other bank has none (Table 17-4; DEDUCED, log 110). -/
def bankMended (b : Nat) (s : State) : State :=
  let left := s.mem.bankBad.filter fun x => x.1 != b
  let s := { s with mem := { s.mem with bankBad := left } }
  if left.isEmpty then clearF 0x1108 wide s else s

/-- A field of a bank's package header (Table 16-1). -/
def bankField (b o n : Nat) (s : State) : Nat := ofBytes (bankBytes b o n s)

/-- Put a 4 KiB block into a list of blocks, numbers rising. -/
def putBlock (k : Nat) (bs : List Byte) : List (Nat × List Byte) → List (Nat × List Byte)
  | [] => [(k, bs)]
  | (j, x) :: r => if j == k then (k, bs) :: r else if k < j then (k, bs) :: (j, x) :: r else (j, x) :: putBlock k bs r

/-- Write a block of a bank. -/
def setBlock (b k : Nat) (bs : List Byte) (s : State) : State :=
  { s with fw := if b = 0 then { s.fw with bankA := putBlock k bs s.fw.bankA } else { s.fw with bankB := putBlock k bs s.fw.bankB } }

/-- Mark whether a bank's package passed its check. -/
def setValid (b : Nat) (ok : Bool) (s : State) : State :=
  { s with fw := if b = 0 then { s.fw with validA := ok } else { s.fw with validB := ok } }

/-- A bank's package passed its last check. -/
def bankValid (b : Nat) (s : State) : Bool := if b = 0 then s.fw.validA else s.fw.validB

/-- SYS_HW_ISSUE lies within the package's range (R380). -/
def hwRangeOk (b : Nat) (s : State) : Bool := bankField b 14 2 s ≤ Config.hwIssue.toNat && Config.hwIssue.toNat ≤ bankField b 16 2 s

/-- A bank's package passes R380, the hardware range apart. -/
def packageSound (b : Nat) (s : State) : Bool :=
  bankField b 0 4 s == 0x56504B47 && bankField b 4092 4 s == crc32c (bankBytes b 0 4092 s) && bankField b 12 1 s ≤ 3 &&
  Config.ecdsaValid (Config.fusedKey (bankField b 12 1 s)) (Config.sha256 (bankBytes b 0 200 s)) (bankBytes b 200 64 s) &&
  (List.range 4).all (fun i =>
    let o := 24 + 44 * i
    Config.sha256 (bankBytes b (bankField b (o + 4) 4 s) (bankField b (o + 8) 4 s) s) == bankBytes b (o + 12) 32 s)

/-- A bank's package passes R380. -/
def packageOk (b : Nat) (s : State) : Bool := packageSound b s && hwRangeOk b s

/-- The bank named by the bank pointer: the valid copy with the higher SEQ (R389). -/
def pointerBank (f : FwRegs) : Option BankPtr :=
  if f.ptrA.ok && f.ptrB.ok then some (if f.ptrB.seq > f.ptrA.seq then f.ptrB else f.ptrA)
  else if f.ptrA.ok then some f.ptrA else if f.ptrB.ok then some f.ptrB else none

/-- The copy that fails its check, or else the one with the lower SEQ, takes the new pointer (R389). -/
def flipPointer (b : Nat) (s : State) : State :=
  let f := s.fw
  let p : BankPtr := { bank := b, seq := (((pointerBank f).map (·.seq)).getD 0 + 1) % 4294967296, pkg := bankField b 4 4 s, ok := true }
  { s with fw := if !f.ptrA.ok || (f.ptrB.ok && f.ptrA.seq ≤ f.ptrB.seq) then { f with ptrA := p } else { f with ptrB := p } }

/-- FW_BANK_ACTIVE. -/
def bankActive (s : State) : Nat := ((pointerBank s.fw).map (·.bank)).getD 0

/-- The bank the running image did not come from. -/
def inactiveBank (s : State) : Nat := 1 - bankActive s

/-! ### Delta and the firmware journal (R382, R384, R385) -/

/-- Fields of the stored delta (Table 16-2). -/
def deltaBlocks (s : State) : Nat := fieldU s.fw.delta 52 2

/-- TGT_PKG of the stored delta. -/
def deltaTarget (s : State) : Nat := fieldU s.fw.delta 8 4

/-- A firmware entry (Table 16-3): JSEQ is the member's own counter with bit 63 set. -/
def fwJournal (kind block : Nat) (s : State) : State :=
  let own := if s.pair.paired then s.pair.member else 0
  let bytes := toBytes 1 kind ++ toBytes 1 own ++ toBytes 2 block ++ toBytes 4 s.fw.vcrc ++ toBytes 4 (deltaTarget s)
  { s with fw := { s.fw with counter := s.fw.counter + 1, journal := s.fw.journal ++ [(2 ^ 63 + s.fw.counter + 1, bytes)] } }

/-- The fault of a complete delta, if any (R382). -/
def deltaFault (d : List Byte) (s : State) : Option Nat :=
  let tgt := fieldU d 48 4
  if fieldU d 0 4 ≠ 0x56444C54 || fieldU d 60 4 ≠ crc32c (d.take 60) then some 0x7A01
  else if tgt > 33554432 || fieldU d 52 2 ≠ (tgt + 4095) / 4096 then some 0x7A01
  else if Config.sha256 (bankBytes s.fw.running 0 (fieldU d 44 4) s) ≠ slice d 12 32 then some 0x7A02
  else none

/-- FW_DELTA and FW_APPLY are refused in these states (R384). -/
def fwBusy (s : State) : Bool :=
  s.fw.state == .applying || s.fw.state == .verifying || s.fw.state == .shadow || s.fw.state == .probation

/-- A write to FW_DELTA clears the codes of the domain (R396) and, with its first chunk, takes the delta store. -/
def deltaWrite (s : State) : State :=
  let s := forAll [0x7A01, 0x7A02, 0x7A03, 0x7A04, 0x7A05, 0x7A06, 0x7A07, 0x7A08, 0x7A0A] (fun c s => clearF c wide s) s
  if s.fw.state == .deltaStored then { s with fw := { s.fw with state := .idle, delta := [] } } else s

/-- The completing chunk has passed its VCRC: the delta is checked and stored, or the store is emptied (R382). -/
def deltaComplete (d : List Byte) (s : State) : State :=
  match deltaFault d s with
  | some c => raiseF c wide { s with fw := { s.fw with delta := [], state := if s.fw.state == .deltaStored then .idle else s.fw.state } }
  | none => { s with fw := { s.fw with delta := d, vcrc := crc32c d, state := .deltaStored, block := 0, retried := false, abort := false, journal := [] } }

/-! ### Apply (R383, R384) -/

/-- FW_APPLY takes effect. -/
def applyStart (s : State) : State :=
  guardOn (s.fw.state == .deltaStored) (fun s =>
    let s := setValid (inactiveBank s) false s
    fwJournal 1 0 { s with fw := { s.fw with state := .applying, block := 0, retried := false, abort := false } }) s

/-- The output of a block's commands from byte `o` of the delta on; none where they are malformed. -/
def buildBlock (src : Nat → Nat → List Byte) (d : List Byte) : Nat → Nat → List Byte → Option (List Byte)
  | 0, _, _ => none
  | fuel + 1, o, acc =>
    match fieldU d o 1 with
    | 0 => if acc.length = 4096 then some acc else none
    | 1 => buildBlock src d fuel (o + 7) (acc ++ src (fieldU d (o + 1) 4) (fieldU d (o + 5) 2))
    | 2 => buildBlock src d fuel (o + 3 + fieldU d (o + 1) 2) (acc ++ slice d (o + 3) (fieldU d (o + 1) 2))
    | 3 => buildBlock src d fuel (o + 4) (acc ++ List.replicate (fieldU d (o + 1) 2) (BitVec.ofNat 8 (fieldU d (o + 3) 1)))
    | _ => none

/-- Block `b` of the stored delta. A COPY from an uncorrectable block delivers nothing, so that the block fails (R406). -/
def deltaBlock (b : Nat) (s : State) : List Byte :=
  let d := s.fw.delta
  (buildBlock (fun o n => if bankBad s.fw.running o n s then [] else bankBytes s.fw.running o n s) d d.length (fieldU d (64 + 8 * b + 4) 4) []).getD []

/-- A block has been built, written and read back as `got`, what the sector holds from then on; its CRC-32C is compared with BCRC
(R383, R384). A block whose commands are malformed or read an uncorrectable block is not written and fails (R406). An apply resumes at
tier LIMITED (R346). -/
def blockDone (got : List Byte) (s : State) : State :=
  guardOn (s.fw.state == .applying && s.sys.imageOk && tierAtLeast .limited s) (fun s =>
    let b := s.fw.block
    let built := (deltaBlock b s).length == 4096
    let s := setBlock (inactiveBank s) b (if built then got else List.replicate 4096 0xFF#8) s
    let good := built && crc32c got == fieldU s.fw.delta (64 + 8 * b) 4
    if s.fw.abort then { s with fw := { s.fw with state := .idle, abort := false } }
    else if good then
      let s := fwJournal 2 b { s with fw := { s.fw with block := b + 1, retried := false } }
      if b + 1 ≥ deltaBlocks s then fwJournal 3 0 { s with fw := { s.fw with state := .verifying } } else s
    else if s.fw.retried then raiseF 0x7A03 wide { s with fw := { s.fw with state := .failed, last := .failed } }
    else { s with fw := { s.fw with retried := true } }) s

/-- FW_BLOCK_DONE (R383). -/
def execFwBlockDone (got : List Byte) (s : State) : Host.Outcome State Fault Refusal := whenLiveK (blockDone got) s

/-- The whole-package check ends (R380, R383). -/
def verifyDone (s : State) : State :=
  guardOn (s.fw.state == .verifying) (fun s =>
    let b := inactiveBank s
    if packageOk b s then bankMended b (setValid b true { s with fw := { s.fw with state := .verified } })
    else
      raiseF (if packageSound b s then 0x7A0A else 0x7A04) wide
        (fwJournal 6 0 { s with fw := { s.fw with state := .rejected, last := .rejected } })) s

/-- FW_VERIFY_DONE (R380). -/
def execFwVerifyDone (s : State) : Host.Outcome State Fault Refusal := whenLiveK verifyDone s

/-- FW_ABORT takes effect (R384, R390). -/
def fwAbortEffect (s : State) : State :=
  match s.fw.state with
  | .applying => { s with fw := { s.fw with abort := true } }
  | .verifying => { s with fw := { s.fw with state := .idle } }
  | .probation => { s with fw := { s.fw with backNext := some 0x7A08 } }
  | .idle => s | .deltaStored => s | .verified => s | .shadow => s | .rejected => s | .failed => s | .recovery => s

/-! ### Activation (R386 to R390) -/

/-- The running SCHEMA (FW_SCHEMA). -/
def runningSchema (s : State) : Nat := bankField s.fw.running 8 2 s

/-- The new package reads and writes the running SCHEMA (R386). -/
def schemaOk (s : State) : Bool :=
  let b := inactiveBank s
  bankField b 10 2 s ≤ runningSchema s && runningSchema s ≤ bankField b 8 2 s

/-- FW_ACTIVATE takes effect: step 1 of Table 16-4, which also ends hibernation (R351). -/
def activate (s : State) : State :=
  guardOn (s.fw.state == .verified) (fun s =>
    fwJournal 4 0 { s with
      fw := { s.fw with starting := true, startedAt := s.sys.frames + 1, framesIn := 0 }, sys := { s.sys with hibernating := false } }) s

/-- Boundary h: the new image runs, the old one in its shadow, and E takes its new slot (Table 16-4, step 6). The import of the frame
before ended `importNs` after that frame's boundary. -/
def shadowHandover (importNs : Nat) (s : State) : State :=
  guardOn (s.fw.state == .shadow && s.fw.framesIn ≥ 16 && importNs ≤ 980000) (fun s =>
    let s := { s with fw := { s.fw with state := .probation, probation := 0, running := inactiveBank s, pairNo := 1 - s.fw.pairNo } }
    { s with est := { s.est with slot := s.fw.pairNo } }) s

/-- SHADOW_HANDOVER (R386): the event is the first frame boundary after READY. -/
def execShadowHandover (importNs : Nat) (s : State) : Host.Outcome State Fault Refusal := whenLiveK (shadowHandover importNs) s

/-- SHADOW_TIMEOUT (R387): 2,000 frames without READY, or an import has failed. -/
def execShadowTimeout (importFailed : Bool) (s : State) : Host.Outcome State Fault Refusal :=
  whenLiveK (fun s => guardOn (s.fw.state == .shadow && (importFailed || 2000 ≤ s.fw.framesIn)) (fun s =>
    raiseF 0x7A06 wide (fwJournal 6 0 { s with fw := { s.fw with state := .rejected, last := .rejected } })) s) s

/-- HEALTH_COMMIT (R388): a report of the new image; `clean` tells that since h no H-core exception has occurred and no frame task
has run past the next tick in 3 consecutive frames. A report that is not accepted changes nothing. -/
def execHealthCommit (clean : Bool) (s : State) : Host.Outcome State Fault Refusal :=
  whenLiveK (fun s => guardOn (s.fw.state == .probation && s.fw.probation ≥ cfgN Ent.FW_HEALTH_MIN s && clean && s.fw.backNext.isNone)
    (fun s => { s with fw := { s.fw with commitNext := true } }) s) s

/-- HEALTH_TIMEOUT (R390): no accepted report by frame h + 1,000. -/
def execHealthTimeout (s : State) : Host.Outcome State Fault Refusal :=
  whenLiveK (fun s => guardOn (s.fw.state == .probation && !s.fw.commitNext && s.fw.probation ≥ 1000) (fun s =>
    { s with fw := { s.fw with backNext := some 0x7A07 } }) s) s

/-- The activation commits (R388). -/
def fwCommit (s : State) : State :=
  let s := flipPointer s.fw.running (fwJournal 5 0 s)
  { s with
    fw := { s.fw with state := .idle, commitNext := false, last := .committed, journal := [], activations := incSat32 s.fw.activations }
    sys := { s.sys with bootBank := s.fw.running } }

/-- The old image resumes, and E returns to the old slot (R390). -/
def fwHandback (code : Nat) (s : State) : State :=
  let s := raiseF code wide (fwJournal 6 0 { s with fw := { s.fw with
    state := .rejected, backNext := none, last := .rolledBack, running := bankActive s, pairNo := 1 - s.fw.pairNo } })
  { s with est := { s.est with slot := s.fw.pairNo } }

/-- The new image has booted on the reserve pair (Table 16-4, step 2): within 150 ms, when exactly the spec leaves open (a free value,
log 147). -/
def shadowBoots (s : State) : State :=
  let (v, s) := drawFree s
  if (v % 2 = 0 && s.fw.startedAt < s.sys.frames) || s.fw.startedAt + 150 ≤ s.sys.frames then { s with fw := { s.fw with state := .shadow, starting := false, framesIn := 0 } }
  else s

/-- The firmware's work at a frame boundary. -/
def fwBoundary (s : State) : State :=
  match s.fw.state with
  | .probation =>
    if s.fw.commitNext then fwCommit s
    else match s.fw.backNext with
      | some c => fwHandback c s
      | none => { s with fw := { s.fw with probation := min 1000 (s.fw.probation + 1) } }
  | .shadow => { s with fw := { s.fw with framesIn := s.fw.framesIn + 1 } }
  | .verified => if s.fw.starting then shadowBoots s else s
  | .idle => s | .deltaStored => s | .applying => s | .verifying => s | .rejected => s | .failed => s | .recovery => s

/-- A member that takes the ACTIVE role during SHADOW abandons the activation (R393). -/
def fwTakeover (s : State) : State :=
  if s.fw.state == .shadow || s.fw.starting then
    { s with fw := { s.fw with state := .verified, starting := false, last := .abandoned } } else s

/-! ### Recovery load (R391) -/

/-- The recovery responder runs: no bank holds a valid package (R342). -/
def responderRuns (s : State) : Bool := s.sys.phase == .started && !s.sys.imageOk

/-- Write bytes to bank A: a sector is erased before its first byte is written. -/
def recoverySector (off k : Nat) (data : List Byte) (s : State) : State :=
  let base := if off ≤ k * 4096 then List.replicate 4096 0xFF#8 else bankBytes 0 (k * 4096) 4096 s
  let o := off - k * 4096
  let d := if k * 4096 ≥ off then data.drop (k * 4096 - off) else data
  setBlock 0 k (splice base o (d.take (4096 - o))) s

/-- One chunk of the recovery load: the status of its reply, and the state. -/
def recoveryChunk (total off vcrc : Nat) (data : List Byte) (s : State) : Nat × State :=
  let f := s.fw
  let fresh := off = 0
  let fits : Bool := 4096 ≤ total && total ≤ 33554432 && off + data.length ≤ total && !data.isEmpty &&
    (if fresh then f.recNext == 0 else off == f.recNext && total == f.recTotal && vcrc == f.recVcrc)
  if !fits then (0x10, s)
  else
    let s := setValid 0 false s
    let s := forAll (upTo (off / 4096) ((off + data.length - 1) / 4096)) (fun k s => recoverySector off k data s) s
    let fin := off + data.length
    let s := { s with fw := { s.fw with state := .applying, recTotal := total, recVcrc := vcrc, recNext := fin } }
    if fin < total then (0x01, s)
    else
      let s := { s with fw := { s.fw with recNext := 0, state := .recovery } }
      if crc32c (bankBytes 0 0 total s) == vcrc && packageOk 0 s then
        let s := flipPointer 0 (bankMended 0 (setValid 0 true s))
        (0x01, { s with sys := { s.sys with downDue := some (0, .command) } })
      else (0x10, raiseF 0x7A04 wide s)

/-! ### What readers see (Table 16-5) -/

/-- The code of FW_STATE. -/
def fwStateCode : FwState → Nat
  | .idle => 0 | .deltaStored => 1 | .applying => 2 | .verifying => 3 | .verified => 4 | .shadow => 5 | .probation => 6
  | .rejected => 7 | .failed => 8 | .recovery => 9

/-- The code of FW_LAST_RESULT. -/
def fwResultCode : FwResult → Nat
  | .none => 0 | .committed => 1 | .abandoned => 2 | .rolledBack => 3 | .rejected => 4 | .failed => 5

/-- FW_BANK_PKG. -/
def bankPkg (s : State) : List Byte :=
  [0, 1].flatMap fun b => toBytes 4 (if bankValid b s then bankField b 4 4 s else 0)

end Sys2Proof.Machine
end

