-- ==== Sys2Proof/Machine/Mem.lean ====
section
/-! DEFINITION. Memory integrity (17_memory_integrity): the code of a block, the scrubber, spare rows, uncorrectable errors. -/
namespace Sys2Proof.Machine
open Sys2Proof

/-! ### The code (R397, R398) -/

/-- The parity of a byte: true for an odd number of ones. -/
def parity8 (b : Byte) : Bool := (List.range 8).foldl (fun p i => p != b.getLsbD i) false

/-- A byte with bit i set where p i holds. -/
def byteOf (p : Nat → Bool) : Byte := BitVec.ofNat 8 (bitMap 8 p)

/-- The row parities of 8 data bytes. -/
def rowParities (d : List Byte) : Byte := byteOf fun r => parity8 (d.getD r 0)

/-- The column parities: over the data bytes and the row parities. -/
def colParities (d : List Byte) (pr : Byte) : Byte :=
  let x := (List.range 8).foldl (fun x r => x ^^^ d.getD r 0) 0#8
  if parity8 pr then x ^^^ 0xFF#8 else x

/-- A stored block: 8 data bytes, PR, PC (R397). -/
def encodeBlock (d : List Byte) : List Byte := d ++ [rowParities d, colParities d (rowParities d)]

/-- Number of set bits of a byte. -/
def weight (b : Byte) : Nat := ((List.range 8).filter fun i => b.getLsbD i).length

/-- The lowest set bit of a byte. -/
def lowBit (b : Byte) : Nat := ((List.range 8).find? fun i => b.getLsbD i).getD 0

/-- The two syndromes of a stored block (R398). -/
def syndromes (raw : List Byte) : Byte × Byte :=
  let pr := raw.getD 8 0
  (byteOf fun r => parity8 (raw.getD r 0) != pr.getLsbD r, colParities (raw.take 8) pr ^^^ raw.getD 9 0)

/-- The decision of Table 17-1 and the corrected block. -/
def decodeBlock (raw : List Byte) : MemErr × List Byte :=
  let (sr, sc) := syndromes raw
  let d := raw.take 8
  if sr = 0 && sc = 0 then (.none, raw)
  else if weight sr = 1 && weight sc = 1 then
    let r := lowBit sr
    (.data, encodeBlock (d.set r (d.getD r 0 ^^^ sc)))
  else if (weight sr = 1 && sc = 0xFF#8) || (sr = 0 && weight sc = 1) then (.check, encodeBlock d)
  else (.uncorrectable, raw)

/-! ### Regions (R402, R408) -/

/-- A region. -/
def region (r : Nat) (s : State) : Region := getAt s.mem.regions r

/-- Change a region. -/
def modRegion (r : Nat) (f : Region → Region) (s : State) : State := { s with mem := { s.mem with regions := modAt s.mem.regions r f } }

/-- The island that owns a region: its SRAM, or J for the MRAM (Table 17-2); none for flash. -/
def regionOwner : Nat → Option Island
  | 0 => some .p | 1 => some .h | 2 => some .c | 3 => some .e | 4 => some .m | 5 => some .n | 6 => some .s | 7 => some .f
  | 8 => some .b | 9 => some .j | 10 => some .j | _ => none

/-- The lap limit of a region, s. -/
def lapLimit (r : Nat) (s : State) : Nat :=
  if r < 10 then cfgN Ent.MEM_LAP_MAX_SRAM s
  else if r = 10 then cfgN Ent.MEM_LAP_MAX_MRAM s else cfgN Ent.MEM_LAP_MAX_FLASH s

/-- The blocks of a region (Table 17-2). -/
def regionBlocks (r : Nat) : Nat :=
  let kib := match r with
    | 0 => 32 | 1 => 4096 | 2 => 128 | 3 => 512 | 4 => 128 | 5 => 1024 | 6 => 96 | 7 => 32 | 8 => 32 | 9 => 64 | _ => 32768
  kib * 128

/-- The shortest time between two reads of an engine, ns: 100 µs for the MRAM, 1 ms for a flash bank (R402). -/
def engineNs (r : Nat) : Nat := if r < 10 then 0 else if r = 10 then 100000 else 1000000

/-- The first SRAM macro of an island's region. DESIGN CHOICE (log 36): macros are numbered through the rows of Table 17-2 in order. -/
def macroBase : Nat → Nat
  | 1 => 0 | 3 => 256 | 2 => 288 | 5 => 296 | 0 => 360 | 6 => 362 | 4 => 368 | 7 => 376 | 8 => 378 | _ => 380

/-- The spares of a macro not used by the fuse map or the soft map: 2 per macro (R404). -/
def sparesLeft (mac : Nat) (s : State) : Nat :=
  2 - ((List.range 512).filter (Config.fusedRow mac)).length - (s.mem.softMap.filter (·.1 == mac)).length

/-- A correction in a row of SRAM: MEM_ROW_REPEAT different laps put the row into the soft map (R404). -/
def rowCorrected (r offset : Nat) (s : State) : State :=
  let mac := macroBase r + offset / 16384
  let row := offset % 16384 / 32
  let lap := (region r s).lap
  let hits := (s.mem.rows.find? fun h => h.sram == mac && h.row == row)
  let h : RowHits := match hits with
    | some h => if h.last == lap then h else { h with laps := h.laps + 1, last := lap }
    | none => ⟨mac, row, 1, lap⟩
  let s := { s with mem := { s.mem with rows := h :: s.mem.rows.filter fun x => !(x.sram == mac && x.row == row) } }
  if h.laps < cfgN Ent.MEM_ROW_REPEAT s || s.mem.softMap.contains (mac, row) || Config.fusedRow mac row then s
  else if sparesLeft mac s = 0 then raiseF 0x1106 r s
  else raiseF 0x1105 r { s with mem := { s.mem with softMap := s.mem.softMap ++ [(mac, row)], pending := s.mem.pending + 1 } }

/-- MEM_LAST_ERROR takes an error (R405). -/
def lastError (k : MemErr) (r offset : Nat) (s : State) : State :=
  { s with mem := { s.mem with lastKind := k, lastRegion := r, lastOffset := offset, lastTime := s.now } }

/-- A correction is counted (R400); more than MEM_CORR_WARN within an hour raise 0x1101. -/
def countCorrection (k : MemErr) (r offset : Nat) (s : State) : State :=
  let hour := s.now :: ((region r s).recent.filter fun t => t + 3600000000000 > s.now)
  let s := modRegion r (fun x => { x with
    corrected := if k == .data then incSat32 x.corrected else x.corrected
    checkbit := if k == .check then incSat32 x.checkbit else x.checkbit, recent := hour }) s
  let s := lastError k r offset s
  let s := if hour.length > cfgN Ent.MEM_CORR_WARN s then raiseF 0x1101 r s else s
  if r < 10 then rowCorrected r offset s else s

/-- An uncorrectable block is counted; the flash bank's package is marked as failing (R406). -/
def uncorrectable (r offset : Nat) (s : State) : State :=
  let s := lastError .uncorrectable r offset (modRegion r (fun x => { x with uncorr := incSat32 x.uncorr }) s)
  match regionOwner r with
  | some _ => raiseF 0x1103 r s
  | none =>
    let b := r - 11
    raiseF 0x1108 wide (setValid b false { s with mem := { s.mem with
      bankBad := if s.mem.bankBad.contains (b, offset / 8) then s.mem.bankBad else s.mem.bankBad ++ [(b, offset / 8)] } })

/-- The engine of a region runs: its island is neither fenced nor without a clock; without J the MRAM engine stops (R403). DEDUCED
(log 37): so does the flash engine, which stands on the same path. -/
def engineRuns (r : Nat) (s : State) : Bool :=
  match regionOwner r with
  | some i => !isFenced i s && !(i == .c && s.sys.hibernating) && !(i == .e && s.est.state == .hibernating)
  | none => !isFenced .j s

/-- An engine reads its next block: it runs, its pace allows the read (R402), and the lap has not ended (R403). -/
def readDue (r : Nat) (s : State) : Bool :=
  engineRuns r s && due (region r s).readAt (engineNs r) s && (region r s).walk < regionBlocks r

/-- The engine has read its block and goes on to the next one. -/
def walkOn (r : Nat) (s : State) : State := modRegion r (fun x => { x with walk := x.walk + 1, readAt := some s.now }) s

/-- The block that an engine read (R402): decoded as an ordinary read; a corrected block of SRAM or MRAM is written back when the
second read still shows the error (R400). -/
def scrubBlock (r offset : Nat) (raw reread : List Byte) (s : State) : State :=
  match decodeBlock raw with
  | (.none, _) => s
  | (.uncorrectable, _) => uncorrectable r offset s
  | (k, mended) =>
    let s := if r < 11 && reread == raw then emit (.memWrite r offset mended) s else s
    if isFenced .j s then s else countCorrection k r offset s

/-- The owner of an uncorrectable block is fenced, and the P island's resets the module (R405, R428). -/
def containBlock (r : Nat) (raw : List Byte) (s : State) : State :=
  if (decodeBlock raw).1 == .uncorrectable then
    match regionOwner r with
    | some .p => resetModule .pMemory s
    | some i => keep (fenceIsland i 0x1103) s
    | none => s
  else s

/-- SCRUB_STEP at instant t: an engine reads the next block of its lap, the lowest first. -/
def scrubStep (r t : Nat) (raw reread : List Byte) (s : State) : State :=
  guardOn (readDue r (atTime t s)) (fun s =>
    let s := atTime t s
    containBlock r raw (keep (fun s => scrubBlock r (8 * (region r s).walk) raw reread (walkOn r s)) s)) s

/-- SCRUB_STEP (R402). -/
def execScrubStep (region : Fin 13) (t : Nat) (raw reread : List Byte) (s : State) : Host.Outcome State Fault Refusal :=
  whenLive (scrubStep region.val t raw reread) s

/-- A lap has ended (R403): its length is recorded, and one within its limit clears 0x1104. -/
def lapEnd (r : Nat) (s : State) : State :=
  let len := (region r s).lapMs / 1000
  let s := modRegion r (fun x => { x with lap := x.lap + 1, lapTime := len, lapMs := 0, walk := 0 }) s
  if len ≤ lapLimit r s then clearF 0x1104 r s else s

/-- LAP_END (R403): the engine has read the highest block of its region. -/
def execLapEnd (region : Fin 13) (s : State) : Host.Outcome State Fault Refusal :=
  whenLiveK (fun s => guardOn (!isFenced .j s && regionBlocks region.val ≤ (Machine.region region.val s).walk) (lapEnd region.val) s) s

/-- LAP_LATE (R403): the lap clock has passed the region's limit. -/
def execLapLate (region : Fin 13) (s : State) : Host.Outcome State Fault Refusal :=
  whenLiveK (fun s => guardOn (!isFenced .j s && lapLimit region.val s * 1000 < (Machine.region region.val s).lapMs)
    (raiseF 0x1104 region.val) s) s

/-- The lap clocks of the engines that run go on by a frame (R403). -/
def lapTick (s : State) : State :=
  { s with mem := { s.mem with regions := s.mem.regions.mapIdx fun r x => { x with lapMs := x.lapMs + b2n (engineRuns r s) } } }

/-- The spare rows of the soft map are switched in at a start; a copy that fails its check is rewritten (R404). -/
def applySoftMap (aOk bOk : Bool) (s : State) : State :=
  let s := if aOk != bOk then clearF 0x1107 wide (raiseF 0x1107 wide s) else s
  let map := if aOk || bOk then s.mem.softMap else []
  { s with mem := { s.mem with softMap := map, applied := map.length, pending := 0, rows := [] } }

/-- MEM_SPARES_FREE. -/
def sparesFree (s : State) : Nat := 768 - Config.sparesFused - s.mem.softMap.length

/-- A MEM_ array of 13 U32. -/
def regionWords (f : Region → Nat) (s : State) : List Byte := s.mem.regions.toList.flatMap fun r => toBytes 4 (f r)

/-- MEM_LAST_ERROR. -/
def lastErrorBytes (s : State) : List Byte :=
  let k := match s.mem.lastKind with | .none => 0 | .data => 1 | .check => 2 | .uncorrectable => 3
  toBytes 1 s.mem.lastRegion ++ toBytes 1 k ++ [0#8, 0#8] ++ toBytes 4 s.mem.lastOffset ++ toBytes 8 (time64 s.mem.lastTime)

/-- MEM_SOFT_MAP. -/
def softMapBytes (s : State) : List Byte := s.mem.softMap.flatMap fun x => toBytes 2 x.1 ++ toBytes 2 x.2

end Sys2Proof.Machine
end

