-- ==== Sys2Proof/Machine/Pair.lean ====
section
/-! DEFINITION. Pair operation and fail-over (15_pair_operation), and the witness function (R368). -/
namespace Sys2Proof.Machine
open Sys2Proof

/-! ### Identity, epochs and reports -/

/-- The pair identity, 8 × chassis + n (R354). -/
def pairId (s : State) : Nat := s.sys.plantAddr / 2

/-- Change the pair's registers. -/
def modPair (f : PairRegs → PairRegs) (s : State) : State := { s with pair := f s.pair }

/-- The lease time in ns. -/
def leaseNs (s : State) : Nat := cfgN Ent.PAIR_LEASE_T s * 1000000

/-- LEASE_SEEN: a lease frame arrived within PAIR_LEASE_T (Table 15-5). -/
def leaseSeen (s : State) : Bool := match s.pair.leaseAt with | some t => s.now ≤ t + leaseNs s | none => false

/-- The commanded states of the standard outputs, as bits 15-0. -/
def dqImage (s : State) : Nat := bitMap 16 fun k => dqCommand k s

/-- The commanded states of the safe outputs, as bits 3-0. -/
def sqImage (s : State) : Nat := bitMap 4 fun k => sqCommand k s

/-- The states of the member's own switches (R364). -/
def dqReport (s : State) : Nat := bitMap 16 fun k => dqOn k s

/-- The heartbeat of this frame (Table 15-5). -/
def ownHeartbeat (s : State) : Heartbeat :=
  { pair := pairId s, member := s.pair.member, role := match s.pair.role with | .active => 0 | .standby => 1 | .detached => 2 | .fenced => 3
    mirrorOk := s.pair.mirror, aliveSeen := s.pair.alive, laneHeld := laneUp .l0 s && s.link.sample.lane == stageLane .l0 s
    ready := pairReady s, epoch := s.pair.epoch, frameCtr := s.sys.frames % 4294967296
    request := match s.pair.request with | .none => 0 | .takeover => 1 | .handover => 2 | .resign => 3
    leaseSeen := leaseSeen s }

/-- A role from its code (Table 15-5). -/
def roleOf : Nat → Role
  | 0 => .active | 1 => .standby | 2 => .detached | _ => .fenced

/-- A request from its code. -/
def reqOf : Nat → PairReq
  | 1 => .takeover | 2 => .handover | 3 => .resign | _ => .none

/-! ### Taking and leaving the ACTIVE role (R365, R374, R375) -/

/-- The member takes the ACTIVE role with an EPOCH (R374). At the election of a first ACTIVE member (R371) there is no former one
to fence, and no fail-over is counted (DEDUCED, log 30). -/
def becomeActive (epoch : Nat) (s : State) : State :=
  let took := tierAtLeast .watch s
  let handed := s.pair.handSeq.isSome
  let held := s.pair.laneHeld
  let s := modPair (fun p => { p with
    role := .active, epoch := epoch % 65536, request := .none, reqFrames := 0, noGrant := false, grant := none, laneHeld := held && handed }) s
  let s := if took && !s.pair.released then setFenceOut true s else s
  let s := modPair (fun p => { p with released := false }) s
  let s := clearF 0x7807 wide s
  let s := if handed || held then s else takeLane s
  let s := modPair (fun p => { p with laneHeld := false }) s
  let s := { s with
    net := { s.net with garpLeft := 3, garpAt := none }
    ses := { s.ses with resumeIn := if took then 2 else 0, awaiting := [], open_ := s.ses.open_.map fun x => { x with last := s.now } }
    prot := { s.prot with stepAt := if s.prot.result == .running then s.now else s.prot.stepAt }
    chain := { s.chain with
      sweepCtr := (s.chain.sweepCtr + 65536) % 2 ^ 40, cmdCtrA := (s.chain.cmdCtrA + 65536) % 2 ^ 40
      cmdCtrB := (s.chain.cmdCtrB + 65536) % 2 ^ 40 } }
  let s := fwTakeover (storeCounters s)
  let s := completeOpen s
  let s := if took && s.chctl.idWait then readAllIds s else s
  if took then
    raiseF 0x7805 wide (modPair (fun p => { p with
      failovers := incSat32 p.failovers, lastFailover := s.now, lastGap := min 255 p.gap, gap := 0 }) s)
  else if s.sys.guardIn && s.sys.imageOk && !s.chctl.enumNodes && s.chain.state != .enumerating then startEnumeration s else s

/-- At the first frame boundary after a GRANT (R374). -/
def takeGrant (s : State) : State :=
  match s.pair.grant with
  | some e => withSq (becomeActive e) s
  | none => s

/-- An ordered handover starts (R375, step 1). The DUTY SEQ named is that of the first PWM period at least one full period after
the next frame boundary (DEDUCED, log 31: counted from the last valley and the last SEQ sent). -/
def startHandover (s : State) : State :=
  let per := s.tb.period / 1000 + 1
  let n := (s.frameAt + 1000000 + per - valleyNs s) / per + 1
  let dseq := (s.link.seq + n) % 65536
  sendMirror clsOrder (toBytes 1 ordHandover ++ toBytes 2 dseq)
    (modPair (fun p => { p with request := .handover, handing := true, handSeq := some dseq }) s)

/-- PAIR_HANDOVER is refused while the partner is not READY (R375). -/
def handoverReady (s : State) : Bool := s.pair.paired && s.pair.role == .active && s.pair.partnerReady

/-- ORDER HANDOVER at the partner (R375): the lane passes at the period named; against a self-lease the order alone grants. -/
def orderHandover (dseq : Nat) (s : State) : State :=
  guardOn (s.pair.paired && s.pair.role == .standby) (modPair fun p => { p with
    handSeq := if p.laneHeld then none else some dseq, released := true
    grant := if p.partnerLease then p.grant else some (p.epoch + 1) }) s

/-- A frame of the ORDER class with an order of one kind. -/
def takeOrder (kind : Nat) (lane : Lane) (frame : List Byte) (use : List Byte → State → State) (s : State) : State :=
  guardOn (fieldU frame 8 1 == kind) (mirrorTake clsOrder lane frame use) s

/-- ORDER_HANDOVER (R375). -/
def execOrderHandover (lane : Lane) (frame : List Byte) (s : State) : Host.Outcome State Fault Refusal :=
  whenLiveK (takeOrder ordHandover lane frame fun b => guardOn (b.length == 3) (orderHandover (fieldU b 1 2))) s

/-- PAIR_FORCE_ACTIVE takes effect (R373). -/
def forceActive (s : State) : State :=
  guardOn (s.pair.paired && s.pair.role != .active) (withSq fun s =>
    let s := becomeActive (s.pair.epoch + 1) (modPair (fun p => { p with released := false }) s)
    modPair (fun p => { p with lease := .self, leaseEnd := s.now + leaseNs s }) (setFenceOut true s)) s

/-! ### Leases (R365 to R370) -/

/-- A lease frame for this pair with a decision. -/
def leaseFor (decision : Nat) (net : Bool) (f : List Byte) (s : State) : Option LeaseFrame :=
  (leaseFrame net f).filter fun l => l.pair == pairId s && l.decision == decision

/-- A lease frame names this member. -/
def toMe (l : LeaseFrame) (s : State) : Bool := l.member == s.pair.member

/-- What every lease frame for the pair does: it is seen, it clears 0x7803, and a higher EPOCH ends a held ACTIVE role (R365). -/
def seeLease (l : LeaseFrame) (s : State) : State :=
  let s := modPair (fun p => { p with leaseAt := some s.now, witBus := p.witBus || !l.net, witNet := p.witNet || l.net }) s
  let s := clearF 0x7803 wide s
  if s.pair.role == .active && epochAbove l.epoch s.pair.epoch then
    match s.pair.request with
    | .handover => modPair (fun p => { p with epoch := l.epoch }) s
    | .resign => withSq leaveActive (modPair (fun p => { p with epoch := l.epoch }) s)
    | .none => raiseF 0x780A wide (withSq leaveActive s)
    | .takeover => raiseF 0x780A wide (withSq leaveActive s)
  else s

/-- The lease runs from the sending of the heartbeat that the frame echoes (R369). -/
def extendLease (ctr : Nat) (s : State) : State :=
  match s.pair.sends.find? (·.1 == ctr) with
  | some (_, t) => modPair (fun p => { p with lease := .witness, leaseEnd := max p.leaseEnd (t + leaseNs s) }) s
  | none => s

/-- LEASE_RENEW (R369). -/
def leaseRenew (l : LeaseFrame) (s : State) : State :=
  guardOn s.pair.paired (fun s =>
    let s := seeLease l s
    if toMe l s && s.pair.role == .active then extendLease l.ctr s else s) s

/-- LEASE_RENEW (R369). -/
def execLeaseRenew (net : Bool) (frame : List Byte) (s : State) : Host.Outcome State Fault Refusal :=
  whenLiveK (fun s => match leaseFor 0 net frame s with
    | some l => leaseRenew l s
    | none => s) s

/-- LEASE_GRANT (R374): the role follows at the next frame boundary. -/
def leaseGrant (l : LeaseFrame) (s : State) : State :=
  guardOn s.pair.paired (fun s =>
    let s := seeLease l s
    if toMe l s then extendLease l.ctr (modPair (fun p => { p with grant := some l.epoch }) s) else s) s

/-- LEASE_GRANT (R374). -/
def execLeaseGrant (net : Bool) (frame : List Byte) (s : State) : Host.Outcome State Fault Refusal :=
  whenLiveK (fun s => match leaseFor 1 net frame s with
    | some l => leaseGrant l s
    | none => s) s

/-- LEASE_REFUSE (R370). -/
def leaseRefuse (l : LeaseFrame) (s : State) : State :=
  guardOn s.pair.paired (fun s =>
    let s := seeLease l s
    if toMe l s then
      let s := raiseF 0x7806 wide s
      if aliveOn s && s.pair.role == .standby then
        withSq (fun s => assertSelect none (modPair (fun p => { p with role := .detached, request := .none, laneHeld := false }) s)) s
      else s
    else s) s

/-- LEASE_REFUSE (R370). -/
def execLeaseRefuse (net : Bool) (frame : List Byte) (s : State) : Host.Outcome State Fault Refusal :=
  whenLiveK (fun s => match leaseFor 2 net frame s with
    | some l => leaseRefuse l s
    | none => s) s

/-- The partner has lost the witness as well, or there is no partner to take over (R369). -/
def witnessLostToBoth (s : State) : Bool :=
  !s.pair.partnerLease || s.pair.partner == some .detached || s.pair.partner == some .fenced || s.pair.partner.isNone

/-- LEASE_EXPIRY (R369). -/
def leaseExpiry (s : State) : State :=
  guardOn (s.pair.paired && s.pair.role == .active && s.now ≥ s.pair.leaseEnd) (fun s =>
    if witnessLostToBoth s then
      raiseF 0x7803 wide (modPair (fun p => { p with lease := .self, leaseEnd := s.now + leaseNs s }) s)
    else if s.pair.handing then modPair (fun p => { p with lease := .expired }) s
    else raiseF 0x7804 wide (startHandover (modPair (fun p => { p with lease := .expired }) s))) s

/-- LEASE_EXPIRY (R369). -/
def execLeaseExpiry (s : State) : Host.Outcome State Fault Refusal := whenLiveK leaseExpiry s

/-- GRANT_WAIT_TIMEOUT (R371, R373). -/
def grantWaitTimeout (s : State) : State :=
  guardOn (s.pair.paired && s.pair.role != .active && s.pair.request == .takeover && s.pair.reqFrames ≥ cfgN Ent.PAIR_GRANT_WAIT s)
    (fun s =>
      if s.pair.laneHeld then orderDown false (raiseF 0x7807 wide (modPair (fun p => { p with noGrant := true }) s))
      else if mirrorUp s && s.pair.partnerReq == .takeover then
        if s.pair.member = 0 then
          withSq (fun s => modPair (fun p => { p with lease := .self, leaseEnd := s.now + leaseNs s })
            (becomeActive (s.pair.epoch + 1) s)) s
        else s
      else raiseF 0x7807 wide (modPair (fun p => { p with noGrant := true }) s)) s

/-- GRANT_WAIT_TIMEOUT (R373). -/
def execGrantWaitTimeout (s : State) : Host.Outcome State Fault Refusal := whenLiveK grantWaitTimeout s

/-! ### The mirror link and the ALIVE line (R358, R370 to R372) -/

/-- The standby requests TAKEOVER: both the mirror link and ALIVE_IN are silent (R370). -/
def requestTakeover (s : State) : State :=
  if s.pair.role == .standby && !mirrorUp s && !aliveOn s && (pairReady s || s.pair.laneHeld) then
    modPair (fun p => { p with request := .takeover, reqFrames := if p.request == .takeover then p.reqFrames else 0 }) s
  else s

/-- The active member marks its partner DETACHED and fences it (R372). -/
def detachPartner (s : State) : State :=
  raiseF 0x7802 wide (setFenceOut true (modPair (fun p => { p with partner := some .detached, partnerReady := false }) s))

/-- The mirror link has been silent for PAIR_MISS_MAX frames (R370, R372). -/
def mirrorSilent (s : State) : State :=
  guardOn (s.pair.paired && !mirrorUp s) (fun s =>
    let s := modPair (fun p => { p with partnerReady := false, rejoinRun := 0, mrx := p.mrx.map fun _ => none }) s
    match s.pair.role with
    | .active => detachPartner s
    | .standby =>
      if aliveOn s && !s.pair.laneHeld then
        withSq (modPair fun p => { p with role := .detached, request := .none, partner := none }) s
      else requestTakeover (modPair (fun p => { p with partner := none }) s)
    | .detached => modPair (fun p => { p with partner := none, rejoin := none }) s
    | .fenced => modPair (fun p => { p with partner := none, rejoin := none }) s) s

/-- ALIVE_IN has stood still for PAIR_MISS_MAX frame ticks (R370, Table 15-10). -/
def aliveLost (s : State) : State :=
  guardOn (s.pair.paired && !aliveOn s) (fun s => if mirrorUp s then raiseF 0x780C wide s else requestTakeover s) s

/-- ALIVE_LOST (R370). -/
def execAliveLost (s : State) : Host.Outcome State Fault Refusal := whenLiveK aliveLost s

/-- A lane of the mirror link is up. -/
def mirrorLane (l : Lane) (s : State) : Bool := match l with | .l0 => s.pair.mir0 | .l1 => s.pair.mir1

/-- A lane of the mirror link that was up goes down: 0x7801 (R358). -/
def mirrorLaneDown (l : Lane) (s : State) : State :=
  guardOn (mirrorLane l s) (fun s =>
    raiseF 0x7801 wide (modPair (fun p => match l with | .l0 => { p with mir0 := false } | .l1 => { p with mir1 := false }) s)) s

/-- MIRROR_LANE_DOWN (R358). -/
def execMirrorLaneDown (lane : Lane) (s : State) : Host.Outcome State Fault Refusal := whenLiveK (mirrorLaneDown lane) s

/-- The module pairs when both members enable it (R354): only a module with PAIR_ENABLE = 1 sends HEARTBEAT frames. A starting member takes
the role STANDBY_PAIR where no partner is ACTIVE (R371); where one is, it has no valid image and is DETACHED (DEDUCED, log 32). A module
already at work keeps its role. -/
def pairUp (h : Heartbeat) (s : State) : State :=
  let on := cfgB Ent.PAIR_ENABLE s && h.pair == pairId s
  if on == s.pair.paired then s
  else if !on then modPair (fun p => { p with paired := false, role := .active, partner := none, request := .none }) s
  else
    let role : Role := if tierAtLeast .watch s then .active else if h.role = 0 then .detached else .standby
    modPair (fun p => { p with paired := true, role := role }) s

/-- Two members claim ACTIVE: the lower EPOCH leaves; with equal EPOCH, member 1 does (Table 15-7). -/
def settleClaim (e : Nat) (s : State) : State :=
  if s.pair.role != .active then s
  else if epochAbove e s.pair.epoch then
    match s.pair.request with
    | .handover => s
    | .resign => withSq leaveActive s
    | .none => raiseF 0x780A wide (withSq leaveActive s)
    | .takeover => raiseF 0x780A wide (withSq leaveActive s)
  else if e == s.pair.epoch && s.pair.member = 1 then withSq leaveActive s
  else s

/-- The partner's HEARTBEAT class (R364, R372). A member without the ACTIVE role takes a higher EPOCH from an ACTIVE partner, as it could
never rejoin otherwise (DEDUCED, log 33). -/
def mirrorHeartbeat (m : HbMirror) (s : State) : State :=
  let h := m.hb
  let s := pairUp h s
  if !s.pair.paired || epochAbove s.pair.epoch h.epoch then s
  else
    let s := modPair (fun p => { p with
      partner := some (roleOf h.role), partnerReady := h.ready, partnerLease := h.leaseSeen, partnerReq := reqOf h.request
      partnerEpoch := h.epoch, partDq := m.dq, partSq := m.sq
      epoch := if h.role = 0 && p.role != .active && epochAbove h.epoch p.epoch then h.epoch else p.epoch
      released := h.role = 0 && (h.request = 2 || h.request = 3) && h.mirrorOk }) s
    let s := if h.role = 0 then settleClaim h.epoch s else s
    if h.role = 2 && s.pair.role == .active && !isActive 0x7802 wide s then detachPartner s else s

/-- A frame of the HEARTBEAT class: bytes 0 to 11 of Table 15-5 from the other member, and the states of its switches (log 145). -/
def takeHeartbeat (b : List Byte) (s : State) : State :=
  match heartbeatOf b with
  | some h => guardOn (b.length == 15 && h.member == 1 - s.pair.member) (mirrorHeartbeat { hb := h, dq := fieldU b 12 2, sq := fieldU b 14 1 }) s
  | none => s

/-! ### STATE, CONTEXT and RECORD classes (R360, R363) -/

/-- The STATE class this member sends (Table 15-3). -/
def ownStateMirror (s : State) : StateMirror :=
  { dq := dqImage s, sq := sqImage s, sqClass := sqClass s, dqClass := cfgN Ent.DIO_DQ_CLASS s, ma := (List.range 16).map fun k => (dqAt k s).ma
    tripped := s.prot.tripped, cause := s.prot.cause
    tripInst := s.prot.tripInst, tripTime := s.prot.tripTime, seq := s.prot.seq.code, step := s.prot.step
    result := s.prot.result.code, seqJ := s.prot.seqJ, coils := coilsOf s % 8, breaks := s.prot.breaks, kOps := s.prot.kOps
    mir := s.store.filter fun x => match findEntry (x.1 / 256) (x.1 % 256) with
      | some (e, _) => e.persist == .mir
      | none => false
    restarted := s.est.restarted, substAt := s.est.substAt }

/-- A sequence from its code. -/
def seqOf : Nat → SeqKind
  | 1 => .precharge | 2 => .open_ | 3 => .emergency | _ => .none

/-- A sequence result from its code. -/
def resultOf : Nat → SeqResult
  | 1 => .running | 2 => .complete | 3 => .failed | 4 => .aborted | _ => .none

/-- A coil as the image commands it. -/
def imageCoil (on : Bool) (now : Nat) (c : Contactor) : Contactor := if c.coil == on then c else { c with coil := on, coilAt := now }

/-- The values that the STATE class carries: the output commands and the entries of persistence MIR (R246, R363). -/
def mirrorValues (m : StateMirror) (s : State) : State :=
  let tm := cfgN Ent.PROT_TM_DQ s
  let s := setCfgI Ent.DIO_DQ_CMD 0 (bitMap 16 fun k => bitOf m.dq k && !bitOf tm k) s
  let s := setCfgI Ent.DIO_SQ_CMD 0 (bitMap 4 fun k => bitOf m.sq k && !(protOutputs s).contains k) s
  forAll m.mir (fun x s => match findEntry (x.1 / 256) (x.1 % 256) with
    | some (e, k) => if e.persist == .mir then setCfg e k x.2 s else s
    | none => s) s

/-- A coil that the image commands on is a new command for its output (R328). -/
def mirrorHolds (m : StateMirror) (s : State) : State :=
  let rises (w : Which) : Bool := bitOf m.coils w.inst && !(contactor w s.prot).coil
  forAll ([Which.main, .neg, .pre].filter rises) (fun w s => releaseSq (coilOutput w s) s) s

/-- The output image and the protection state to drive (R363). -/
def mirrorRegs (m : StateMirror) (s : State) : State :=
    let s := mirrorHolds m s
    let tm := cfgN Ent.PROT_TM_DQ s
    { s with
      pair := { s.pair with imageDq := m.dq, imageSq := m.sq, partMa := m.ma }
      dio := { s.dio with dqCmd := m.dq, sqCmd := m.sq, tmOn := (List.range 16).any fun k => bitOf m.dq k && bitOf tm k }
      prot := { s.prot with
        tripped := m.tripped, cause := m.cause, tripInst := m.tripInst, tripTime := m.tripTime, seq := seqOf m.seq, step := m.step
        result := resultOf m.result, seqJ := m.seqJ, breaks := m.breaks, kOps := m.kOps
        offSince := if m.coils = 0 && !coilsOff s then s.now else s.prot.offSince
        main := imageCoil (bitOf m.coils 0) s.now s.prot.main, neg := imageCoil (bitOf m.coils 1) s.now s.prot.neg
        pre := imageCoil (bitOf m.coils 2) s.now s.prot.pre }
      est := { s.est with restarted := m.restarted, substAt := m.substAt } }

/-- The STATE class at a standby or a joining member (R363). -/
def mirrorState (m : StateMirror) (s : State) : State :=
  guardOn (s.pair.paired && s.pair.role != .active) (withSq fun s => keep (mirrorRegs m) (mirrorValues m s)) s

/-- MIRROR_STATE (R363). -/
def execMirrorState (lane : Lane) (frame : List Byte) (s : State) : Host.Outcome State Fault Refusal :=
  whenLive (mirrorTake clsState lane frame fun b s => match stateMirrorOf b with
    | some m => mirrorState m s
    | none => s) s

/-- A context from its 128 bytes (Table 4-1). -/
def ctxOfBytes (b : List Byte) (s : State) : Ctx :=
  { socInt := fieldS b 0 8, socRep := fieldS b 8 8, rem := fieldU b 16 4, cap := fieldU b 20 4, capTime := opNow s - fieldU b 24 4
    rdc := fieldU b 28 4, sohC := fieldU b 32 2, sohR := fieldU b 34 2, temp := fieldS b 36 2, unc := fieldU b 38 2
    tset := fieldU b 40 1, restState := match fieldU b 41 1 with | 0 => .loaded | 1 => .pseudo | _ => .rest
    anchorAt := (opNow s : Int) - fieldU b 44 4, qRest := fieldS b 48 8, restSoc := fieldU b 56 2, restTemp := fieldS b 58 2
    restTime := fieldU b 60 4, vPrev := fieldU b 64 2, resid := fieldS b 66 2, rCount := fieldU b 68 2, gateRej := fieldU b 70 2
    lastSweep := fieldU b 72 4 }

/-- The flags of a context from its QUALITY field (Table 4-2). -/
def flagsOfBytes (b : List Byte) (f : CtxFlags) : CtxFlags :=
  let q := fieldU b 42 2
  { f with valid := bitOf q 0, stale := bitOf q 1, countOnly := bitOf q 3, tableOnly := bitOf q 5, gated := bitOf q 6
           outOfTable := bitOf q 7, hibernated := bitOf q 8, hasPointA := fieldU b 60 4 != 0, aSoc := fieldU b 56 2 }

/-- The CONTEXT class at a standby (R360): contexts and chain counters. -/
def mirrorContext (m : CtxMirror) (s : State) : State :=
  guardOn (s.pair.paired && s.pair.role != .active) (fun s =>
    let s := forAll (List.range (min 256 m.ctx.length)) (fun n s =>
      let b := m.ctx.getD n []
      modFl n (flagsOfBytes b) (modCtx n (fun _ => ctxOfBytes b s) s)) s
    storeCounters { s with
      pair := { s.pair with ctxAt := some s.now }
      chain := { s.chain with sweepCtr := m.sweep, cmdCtrA := m.cmdA, cmdCtrB := m.cmdB } }) s

/-- MIRROR_CONTEXT (R360). -/
def execMirrorContext (lane : Lane) (frame : List Byte) (s : State) : Host.Outcome State Fault Refusal :=
  whenLiveK (mirrorTake clsContext lane frame fun b s => match ctxMirrorOf b with
    | some m => mirrorContext m s
    | none => s) s

/-- The CONTEXT class this member sends. -/
def ownCtxMirror (s : State) : CtxMirror :=
  { ctx := (List.range 256).map fun n => ctxBytes n s, sweep := s.chain.sweepCtr, cmdA := s.chain.cmdCtrA, cmdB := s.chain.cmdCtrB }

/-- A learned record from its 64 bytes (Table 5-1). -/
def learnedOfBytes (b : List Byte) : Learned :=
  let f := fieldU b 48 2
  { modId := fieldU b 0 8, seq := fieldU b 8 4, gen := fieldU b 12 2, capN := fieldU b 14 2, cap := fieldU b 16 4
    capTime := fieldU b 20 4, rBol := fieldU b 24 4, firstSeen := fieldU b 28 4, thru := fieldU b 32 8, sohC := fieldU b 40 2
    sohR := fieldU b 42 2, capLast := fieldU b 44 4, stale := bitOf f 0, rBolLearned := bitOf f 1, lifeRestarted := bitOf f 2 }

/-- A received record is the one in use: it takes the slot of R111, and the other slot too where that holds a SEQ not below its own. -/
def takeMirrored (r : Learned) (p : LearnPos) : LearnPos :=
  let p' := if writeToA p then { p with a := r, aOk := true } else { p with b := r, bOk := true }
  { p' with a := if r.seq ≤ p'.a.seq then r else p'.a, b := if r.seq ≤ p'.b.seq then r else p'.b }

/-- The RECORD class at a standby (R122, R360). -/
def mirrorRecord (n : Nat) (b : List Byte) (s : State) : State :=
  guardOn (s.pair.paired && s.pair.role != .active) (modLp n (takeMirrored (learnedOfBytes b))) s

/-- MIRROR_RECORD (R360). -/
def execMirrorRecord (lane : Lane) (frame : List Byte) (s : State) : Host.Outcome State Fault Refusal :=
  whenLiveK (mirrorTake clsRecord lane frame fun b => guardOn (b.length == 66) (mirrorRecord (fieldU b 0 2) (b.drop 2))) s

/-! ### Fences (R357) -/

/-- FENCE_IN asserted: the outputs, the Stage link and LANE_SEL lose their power (R357). -/
def fenceInAssert (s : State) : State :=
  withSq (fun s =>
    let s := raiseF 0x7809 wide (modPair (fun p => { p with fenceIn := true }) s)
    if s.pair.paired && s.pair.role != .active then
      assertSelect none (modPair (fun p => { p with role := .fenced, laneHeld := false, request := .none }) s)
    else { resign s with link := { (resign s).link with select := none } }) s

/-- FENCE_IN_ASSERT (R357). -/
def execFenceInAssert (s : State) : Host.Outcome State Fault Refusal := whenLiveK fenceInAssert s

/-- FENCE_IN_RELEASE (R357): power returns; the role FENCED stays until the rejoin (R376). -/
def execFenceInRelease (s : State) : Host.Outcome State Fault Refusal :=
  whenLiveK (fun s => withSq (fun s =>
    selectRule (clearF 0x7809 wide (modPair (fun p => { p with fenceIn := false }) s))) s) s

/-! ### Rejoin (R376) -/

/-- The BULK class this member sends. -/
def ownBulk (s : State) : BulkMirror :=
  { journal := s.ses.journal.map fun e => { jseq := e.jseq, type := e.type, ses := e.ses, reqSeq := e.reqSeq, payload := e.payload }
    records := (List.range 256).map fun n => (n, learnedBytes (learnedAt n s))
    ckpt := (List.range 256).map fun n => ctxBytes n s
    config := storePut (entryAddr Ent.CHN_PACK_KEY) (.bytes []) (.bytes s.chctl.packKey) s.store }

/-- REJOIN_REQ at the active member: it sends the BULK class (R376). -/
def rejoinReq (s : State) : State :=
  guardOn (s.pair.paired && s.pair.role == .active) (fun s => sendMirror clsBulk (bulkMirrorBytes (ownBulk s)) s) s

/-- REJOIN_REQ (R376). -/
def execRejoinReq (lane : Lane) (frame : List Byte) (s : State) : Host.Outcome State Fault Refusal :=
  whenLiveK (takeOrder ordRejoinReq lane frame fun _ => rejoinReq) s

/-- REJOIN_DONE at the active member: FENCE_OUT is released, and the partner is STANDBY_PAIR (R376). -/
def rejoinDone (s : State) : State :=
  guardOn (s.pair.paired && s.pair.role == .active) (fun s =>
    clearF 0x7808 wide (clearF 0x7802 wide (setFenceOut false (modPair (fun p => { p with partner := some .standby }) s)))) s

/-- REJOIN_DONE (R376). -/
def execRejoinDone (lane : Lane) (frame : List Byte) (s : State) : Host.Outcome State Fault Refusal :=
  whenLiveK (takeOrder ordRejoinDone lane frame fun _ => rejoinDone) s

/-- A rejoin has not completed in 10 s: 0x780B, and the next one starts after 60 s (R376). -/
def rejoinTimeout (s : State) : State :=
  guardOn (heldFor s.pair.rejoin 10000000000 s) (fun s =>
    raiseF 0x780B wide (modPair (fun p => { p with
      rejoin := none, rejoinBulk := false, rejoinRun := 0, rejoinAt := s.now + 60000000000 }) s)) s

/-- REJOIN_TIMEOUT (R376). -/
def execRejoinTimeout (s : State) : Host.Outcome State Fault Refusal := whenLiveK rejoinTimeout s

/-- A DETACHED or FENCED member with its mirror link up starts a rejoin, tracks, and completes it (R376). DEDUCED (log 34): the
reports of a member that drives no path are what its image commands. -/
def rejoinStep (s : State) : State :=
  if s.pair.role == .active || s.pair.role == .standby || !mirrorUp s then s
  else
    match s.pair.rejoin with
    | none =>
      if cfgB Ent.PAIR_AUTO_REJOIN s && s.now ≥ s.pair.rejoinAt && s.pair.partner == some .active then
        sendMirror clsOrder (toBytes 1 ordRejoinReq) (modPair (fun p => { p with rejoin := some s.now, rejoinBulk := false, rejoinRun := 0 }) s)
      else s
    | some _ =>
      if !s.pair.rejoinBulk then s
      else
        let same := dqImage s == s.pair.imageDq && sqImage s == s.pair.imageSq
        let s := modPair (fun p => { p with rejoinRun := if same then p.rejoinRun + 1 else 0 }) s
        if s.pair.rejoinRun ≥ cfgN Ent.PAIR_REJOIN_FRAMES s then
          let s := withSq (modPair fun p => { p with role := .standby, rejoin := none, rejoinBulk := false, rejoinRun := 0 }) s
          sendMirror clsOrder (toBytes 1 ordRejoinDone) (clearF 0x780A wide (clearF 0x780B wide s))
        else s

/-! ### Each frame (step 8 of Table 1-3) -/

/-- The election of a first ACTIVE member (R371). -/
def electionStep (s : State) : State :=
  if s.pair.role != .standby then s
  else if s.pair.partner == some .active then
    if s.pair.laneHeld || s.pair.noGrant then s else modPair (fun p => { p with request := .none, reqFrames := 0 }) s
  else
    let s := if !tierAtLeast .watch s && pairReady s then modPair (fun p => { p with request := .takeover }) s else requestTakeover s
    if s.pair.request == .takeover || s.pair.laneHeld then modPair (fun p => { p with request := .takeover, reqFrames := p.reqFrames + 1 }) s else s

/-- Both members' reports against the image (R364). -/
def imageCheck (s : State) : State :=
  if s.pair.role != .active && s.pair.role != .standby then s
  else
    let dq := if s.pair.role == .active then dqImage s else s.pair.imageDq
    let sq := if s.pair.role == .active then sqImage s else s.pair.imageSq
    let own := dqReport s == dq && sqMap s == sq
    let driving := s.pair.partner == some .active || s.pair.partner == some .standby
    let part := !driving || !s.pair.mirror || (s.pair.partDq == dq && s.pair.partSq == sq)
    let s := modPair (fun p => { p with ownDiff := if own then 0 else p.ownDiff + 1, partDiff := if part then 0 else p.partDiff + 1 }) s
    if s.pair.partDiff ≥ 2 && own then raiseF 0x7808 wide (setFenceOut true s) else s

/-- SEL_CONFLICT or SVC_ADDR_CONFLICT for 2 frames counts as two members that claim ACTIVE (Table 15-7). -/
def conflictCheck (s : State) : State :=
  let on := s.pair.role == .active && ((s.link.mean.n > 0 && s.link.sample.selConflict) || s.net.svcSeen)
  let s := { s with net := { s.net with svcSeen := false } }
  let s := modPair (fun p => { p with conflict := if on then p.conflict + 1 else 0 }) s
  if s.pair.conflict = 2 then settleClaim s.pair.partnerEpoch s else s

/-- A self-lease is renewed each frame (R369). -/
def renewSelf (s : State) : State :=
  if s.pair.role == .active && s.pair.lease == .self then modPair (fun p => { p with leaseEnd := s.now + leaseNs s }) s else s

/-- The heartbeat to the witness: a datagram where PAIR_WIT_IP names one, and a frame on the chassis witness bus with PAIR_WIT_BUS (R366). -/
def sendToWitness (h : Heartbeat) (s : State) : State :=
  let net := cfgN Ent.PAIR_WIT_IP s ≠ 0
  let bus := cfgB Ent.PAIR_WIT_BUS s
  let s := if net then sendWitness true (heartbeatBytes h) s else s
  let s := if bus then sendWitness false (heartbeatBytes h) s else s
  if net || bus then modPair (fun p => { p with
    sends := (h.frameCtr, s.now) :: p.sends.filter fun x => x.2 + 100000000 ≥ s.now }) s else s

/-- The heartbeat to the witness and the HEARTBEAT class (R360, R366). -/
def sendHeartbeat (s : State) : State :=
  let h := ownHeartbeat s
  let s := if s.pair.paired then sendToWitness h s else s
  if cfgB Ent.PAIR_ENABLE s then sendMirror clsHeartbeat (heartbeatBytes h ++ toBytes 2 (dqReport s) ++ toBytes 1 (sqMap s)) s else s

/-- A member with the role STANDBY_PAIR follows its partner's sweeps (R28). -/
def listenStep (s : State) : State := if s.pair.role == .standby && s.sys.guardIn then startListening s else s

/-- Step 8 of a frame. -/
def pairFrame (s : State) : State :=
  sendHeartbeat (guardOn s.pair.paired (fun s => renewSelf (conflictCheck (imageCheck (listenStep (rejoinStep (electionStep s)))))) s)

/-- Step 9: the STATE class (Table 15-3). -/
def sendState (s : State) : State :=
  if s.pair.paired && s.pair.role == .active then sendMirror clsState (stateMirrorBytes (ownStateMirror s)) s else s

/-! ### The witness (R367, R368) -/

/-- The pair a slot of PAIR_WIT_SERVE names. -/
def servedPair (slot : Nat) (s : State) : Nat := fieldU (cfgBytes Ent.PAIR_WIT_SERVE s) (2 * slot) 2

/-- The heartbeats of member x of the served pair that this frame brought, each with its path. A datagram comes only through N. -/
def hbsOf (slot x : Nat) (heard : List (Bool × List Byte)) (s : State) : List (Bool × Heartbeat) :=
  heard.filterMap fun f => if f.1 && isFenced .n s then none
    else ((heartbeatFrame f.2).filter fun h => h.pair == servedPair slot s && h.member == x).map fun h => (f.1, h)

/-- What the witness knows of a pair after a frame's heartbeats (R365, R368). One that has restarted takes the EPOCH of the member that
reports ACTIVE. DESIGN CHOICE (log 35): until a member reports ACTIVE, its EPOCH is 0. -/
def witnessHears (hb : Nat → Option Heartbeat) (w : Served) : Served :=
  let here (x : Nat) : Bool := (hb x).isSome
  let w : Served := match w.known, [0, 1].find? fun x => (hb x).any (·.role == 0) with
    | false, some x => { w with epoch := match hb x with | some h => h.epoch | none => 0
                                known := true }
    | _, _ => w
  let named := [0, 1].find? fun x => (hb x).any fun h => h.role == 0 && h.epoch == w.epoch
  { w with
    miss0 := if here 0 then 0 else incSat8 w.miss0, miss1 := if here 1 then 0 else incSat8 w.miss1
    heard := if here 0 || here 1 then min 3 (w.heard + 1) else w.heard
    active := match named with
      | some x => some x
      | none => w.active.filter fun x => !here x }

/-- The decision of R368: the member addressed and 0 RENEW, 1 GRANT or 2 REFUSE. -/
def witnessRule (missMax : Nat) (hb : Nat → Option Heartbeat) (w : Served) : Option (Nat × Nat) :=
  let here (x : Nat) : Bool := (hb x).isSome
  let miss (x : Nat) : Nat := if x = 0 then w.miss0 else w.miss1
  let others : List Nat := match w.active with | some 0 => [1] | some _ => [0] | none => [0, 1]
  let req (x q : Nat) : Bool := (hb x).any fun h => h.request == q
  let ready (x : Nat) : Bool := (hb x).any (·.ready)
  let refuse : Option (Nat × Nat) := (others.find? fun y => req y 1).map fun y => (y, 2)
  match w.active.filter here with
  | some x =>
    if req x 0 then some (x, 0)
    else match others.find? fun y => (req x 2 || req x 3) && ready y with
      | some y => some (y, 1)
      | none => refuse
  | none =>
    let gone := match w.active with | some x => decide (missMax ≤ miss x) | none => true
    match others.find? fun y => gone && req y 1 && ready y with
    | some y => some (y, 1)
    | none => refuse

/-- The lease frame for member x leaves on each path that brought its heartbeat (R366). -/
def sendLease (slot x decision epoch : Nat) (hs : List (Bool × Heartbeat)) (s : State) : State :=
  forAll hs (fun h s => sendWitness h.1 (leaseBytes { pair := servedPair slot s, member := x, decision := decision, epoch := epoch
                                                      ctr := h.2.frameCtr, witness := s.sys.plantAddr, net := h.1 }) s) s

/-- The decision at 700 µs after each frame boundary (R368), once in a frame. A witness that has restarted issues nothing until it has
received 3 frames of heartbeats (R365). -/
def witnessDecision (slot : Nat) (heard : List (Bool × List Byte)) (s : State) : State :=
  guardOn (servedPair slot s ≠ 65535 && (getAt s.pair.served slot).frame != some s.sys.frames) (fun s =>
    let hs (x : Nat) : List (Bool × Heartbeat) := hbsOf slot x heard s
    let hb (x : Nat) : Option Heartbeat := ((hs x).head?).map (·.2)
    let w := witnessHears hb { getAt s.pair.served slot with frame := some s.sys.frames }
    let put (w : Served) (s : State) : State := modPair (fun p => { p with served := setAt p.served slot w }) s
    if w.heard < 3 then put w s
    else match witnessRule (cfgN Ent.PAIR_MISS_MAX s) hb w with
      | none => put w s
      | some (x, d) =>
        let up := (w.epoch + 1) % 65536
        if d = 1 then sendLease slot x 1 up (hs x) (put { w with epoch := up, active := none, known := true } s)
        else sendLease slot x d w.epoch (hs x) (put w s)) s

/-- WITNESS_DECISION (R368). -/
def execWitnessDecision (slot : Fin 4) (heard : List (Bool × List Byte)) (s : State) : Host.Outcome State Fault Refusal :=
  whenLiveK (fun s => witnessDecision slot.val heard (atTime (s.frameAt + 700000) s)) s

/-- PAIR_SERVED. -/
def servedBytes (s : State) : List Byte :=
  (List.range 4).flatMap fun i =>
    let w := getAt s.pair.served i
    toBytes 2 (servedPair i s) ++ toBytes 2 w.epoch ++ toBytes 1 (w.active.getD 255) ++ toBytes 1 w.miss0 ++ toBytes 1 w.miss1 ++ [0#8]

end Sys2Proof.Machine
end

