-- ==== Sys2Proof/Machine/Rec.lean ====
section
/-! DEFINITION. The lifetime recorder (18_lifetime_recorder). Records are numbered as in Table 18-1. -/
namespace Sys2Proof.Machine
open Sys2Proof

/-! ### Records (R410 to R413) -/

/-- SET and INDEX of record r (Table 18-1). -/
def recSet (r : Nat) : Nat × Nat :=
  if r < 2560 then (1, r) else if r < 2576 then (2, r - 2560) else if r < 2832 then (3, r - 2576)
  else if r < 2836 then (4, r - 2832) else if r < 2837 then (5, 0) else (6, r - 2837)

/-- The payload of a record nothing has been written to: zeros, and a marker for each extreme (R412). -/
def blankPayload (r : Nat) : List Byte :=
  match (recSet r).1 with
  | 3 => toBytes 2 0 ++ toBytes 2 0xFFFF ++ toBytes 2 0x8000 ++ toBytes 2 0x8000 ++ List.replicate 40 0
  | 5 => (List.range 3).flatMap fun _ => toBytes 4 0x7FFFFFFF ++ toBytes 4 0 ++ toBytes 4 0x80000000 ++ toBytes 4 0
  | _ => List.replicate 48 0

/-- Both slots of record r. -/
def recPair (r : Nat) (s : State) : RecPair :=
  match s.recd.recs.find? (·.1 == r) with
  | some (_, p) => p
  | none => ⟨{ pay := blankPayload r }, { pay := blankPayload r }⟩

/-- A slot is older than another by (PCYC, OP_SEC). -/
def olderSlot (x y : RecSlot) : Bool := x.pcyc < y.pcyc || (x.pcyc == y.pcyc && x.opSec < y.opSec)

/-- The newer copy (R413). -/
def recNow (r : Nat) (s : State) : RecSlot :=
  let p := recPair r s
  if olderSlot p.a p.b then p.b else p.a

/-- Put a value under a key into a list with rising keys. -/
def putKey {α : Type} (k : Nat) (x : α) : List (Nat × α) → List (Nat × α)
  | [] => [(k, x)]
  | (j, y) :: r => if j == k then (k, x) :: r else if k < j then (k, x) :: (j, y) :: r else (j, y) :: putKey k x r

/-- Write a record: into the older slot, slot A on a tie (R413). -/
def recWrite (r : Nat) (x : RecSlot) (s : State) : State :=
  let p := recPair r s
  let x := { x with opSec := s.sys.opSec, pcyc := s.sys.pcyc }
  let p := if olderSlot p.b p.a then { p with b := x } else { p with a := x }
  { s with recd := { s.recd with recs := putKey r p s.recd.recs } }

/-- Bytes 0-59 of a record (Table 18-3). -/
def recBytes60 (r : Nat) (x : RecSlot) : List Byte :=
  toBytes 1 (recSet r).1 ++ toBytes 1 (b2n x.sat + 2 * b2n x.rebuilt) ++ toBytes 2 (recSet r).2 ++ toBytes 4 x.opSec ++
  toBytes 4 x.pcyc ++ x.pay

/-- The 64 bytes of a record, from its newer copy. -/
def recBytes (r : Nat) (s : State) : List Byte :=
  let b := recBytes60 r (recNow r s)
  b ++ toBytes 4 (crc32c b)

/-- The pending increments of record r: field and count. -/
def pendingOf (r : Nat) (s : State) : List (Nat × Nat) :=
  s.recd.pend.filterMap fun x => if x.1 / 16 == r then some (x.1 % 16, x.2) else none

/-- Add increments to the 32-bit fields of a payload with saturation; whether some field has reached its limit (R416). -/
def addFields (incs : List (Nat × Nat)) (pay : List Byte) : List Byte × Bool :=
  incs.foldl (fun acc x =>
    let v := incSat32 (fieldU acc.1 (4 * x.1) 4) x.2
    (splice acc.1 (4 * x.1) (toBytes 4 v), acc.2 || v == 4294967295)) (pay, false)

/-- A pending payload of extremes and GEN in the stored one: the counters stay (Table 18-4). -/
def mergeExt (r : Nat) (ext pay : List Byte) : List Byte := if (recSet r).1 = 3 then ext.take 28 ++ pay.drop 28 else ext

/-- Write record r with its pending increments. -/
def commitRecord (r : Nat) (s : State) : State :=
  let x := recNow r s
  let (pay, sat) := addFields (pendingOf r s) x.pay
  let s := if sat && !x.sat then raiseF 0x7C03 wide s else s
  recWrite r { x with pay := pay, sat := x.sat || sat } { s with recd := { s.recd with pend := s.recd.pend.filter fun y => y.1 / 16 != r } }

/-- Write the pending extremes and GEN of record r. -/
def commitExt (r : Nat) (ext : List Byte) (s : State) : State :=
  let x := recNow r s
  recWrite r { x with pay := mergeExt r ext x.pay } { s with recd := { s.recd with ext := s.recd.ext.filter fun y => y.1 != r } }

/-- Write every record with pending increments or extremes. -/
def commitAll (s : State) : State :=
  let s := forAll s.recd.ext (fun x s => commitExt x.1 x.2 s) s
  let s := forAll (s.recd.pend.map (·.1 / 16)).eraseDups commitRecord s
  { s with recd := { s.recd with lastCommit := s.sys.opSec } }

/-- The recorder counts: J is not fenced (R417). -/
def recCounts (s : State) : Bool := !isFenced .j s

/-- The recorder writes records now: none in a hold or a merge, and none while VBP is below 33 V (R417, R418). -/
def recWrites (s : State) : Bool := s.recd.state == .running && s.sup.vbpState == .normal

/-! ### Counting (R414, R415) -/

/-- Add to the pending count of a field of a record. -/
def addPend (r field n : Nat) (s : State) : State :=
  if n = 0 then s
  else
    let k := r * 16 + field
    let old := match s.recd.pend.find? (·.1 == k) with | some x => x.2 | none => 0
    { s with recd := { s.recd with pend := putKey k (old + n) s.recd.pend } }

/-- The payload of extremes in force: pending or stored. -/
def extNow (r : Nat) (s : State) : List Byte :=
  match s.recd.ext.find? (·.1 == r) with
  | some x => x.2
  | none => (recNow r s).pay

/-- A payload of extremes that has changed waits for its write. -/
def putExt (r : Nat) (pay : List Byte) (s : State) : State :=
  if pay == extNow r s then s else { s with recd := { s.recd with ext := putKey r pay s.recd.ext } }

/-- The bin of a value on an axis (R411). -/
def binOf (edges : List Int) (v : Int) : Nat := (edges.filter fun e => e ≤ v).length

/-- Table 18-2: temperature. -/
def tempEdges : List Int := [-200, -100, 0, 100, 200, 250, 300, 350, 400, 450, 550]

/-- Table 18-2: SOC. -/
def socEdges : List Int := [1000, 2000, 3000, 4000, 5000, 6000, 7000, 8000, 9000]

/-- Table 18-2: rate. -/
def rateEdges : List Int := [-1500, -1000, -750, -500, -250, -100, -20, 0, 20, 100, 250, 500, 750, 1000, 1500]

/-- Table 18-2: VBP. -/
def vbpEdges : List Int := [36000, 40000, 44000, 46000, 48000, 50000, 52000, 54000, 60000, 66000, 75000]

/-- Table 18-2: die temperature. -/
def dieEdges : List Int := [0, 250, 500, 700, 850, 950, 1050, 1150, 1250, 1350, 1450]

/-- Table 18-2: VF. -/
def vfEdges : List Int := [15000, 18000, 20000, 22000, 23000, 24000, 25000, 26000, 28000, 30000, 32000]

/-- A cell value passes R76 for the recorder: VALID and not AGED. -/
def recTakes (q : Qual) : Bool := q.valid && !q.aged

/-- The new value and time of an extreme in a payload: value at `o` of `n` bytes, time at `ot`. -/
def widen (beyond : Bool) (o n : Nat) (v : Int) (ot op : Nat) (pay : List Byte) : List Byte :=
  if beyond then splice (splice pay o (toBytesS n v)) ot (toBytes 4 op) else pay

/-- EST_SOC_REP as J receives it: absent while E is fenced (R15). -/
def eSoc (n : Nat) (s : State) : Option Nat := if isFenced .e s then none else repSoc n s

/-- The mean current of the second as J receives it. -/
def eMean (s : State) : Option Int := if isFenced .e s then none else s.est.m

/-- POS_DWELL and POS_EXTREMES of one mapped position. -/
def countPos (n : Nat) (s : State) : State :=
  let c := cellAt n s
  let r := 2576 + n
  let s := addPend r 8 1 s
  let s := match recTakes c.tq, eSoc n s with
    | true, some soc => addPend (10 * n + binOf socEdges soc) (binOf tempEdges c.t) 1 s
    | _, _ => addPend r 7 1 s
  let p := extNow r s
  let op := s.sys.opSec
  let p := if recTakes c.vq then
      widen (c.v < fieldU p 2 2) 2 2 c.v 12 op (widen (c.v > fieldU p 0 2) 0 2 c.v 8 op p) else p
  let p := if recTakes c.tq then
      widen (fieldU p 6 2 == 0x8000 || c.t < fieldS p 6 2) 6 2 c.t 20 op (widen (c.t > fieldS p 4 2) 4 2 c.t 16 op p) else p
  putExt r p s

/-- GEN of a position: the larger of the recorder's own and the learned record's (R414). -/
def countGen (n : Nat) (s : State) : State :=
  let p := extNow (2576 + n) s
  let g := max (fieldU p 24 2) (learnedAt n s).gen
  putExt (2576 + n) (splice p 24 (toBytes 2 g)) (modLp n (fun q => { q with recGen := g }) s)

/-- STR_CURRENT; a cell temperature must pass R76 for the recorder. -/
def countStr (s : State) : State :=
  let temps := (positions s).filterMap fun n => if recTakes (cellAt n s).tq then some (cellAt n s).t else none
  match eMean s, temps with
  | some m, t :: ts =>
    if ratedCap s = 0 then addPend 2837 11 1 s
    else addPend (2560 + binOf rateEdges (divT (m * 1000) (ratedCap s))) (binOf tempEdges (ts.foldl max t)) 1 s
  | _, _ => addPend 2837 11 1 s

/-- CONVERTER: counters and phase seconds. 1 Ah is 3.6e12 nC; 1 kWh is 3.6e18 nC mV. -/
def countConverter (s : State) : State :=
  let ah := 3600000000000
  let kwh := 3600000000000000000
  let r := s.recd
  let s := addPend 2837 0 (r.qDis / ah) (addPend 2837 1 (r.qChg / ah) s)
  let s := addPend 2837 2 (r.wDis / kwh) (addPend 2837 3 (r.wChg / kwh) s)
  let s := { s with recd := { s.recd with qDis := r.qDis % ah, qChg := r.qChg % ah, wDis := r.wDis % kwh, wChg := r.wChg % kwh } }
  let s := addPend 2837 (if s.sp.mode.running then 4 else if s.sp.mode == .standby then 5 else 6) 1 s
  let s := addPend 2837 7 r.dirs (addPend 2837 9 r.trips s)
  let s := addPend 2837 8 (s.sp.loadSteps - r.seenSteps) (addPend 2837 10 (s.prot.breaks - r.seenBreaks) s)
  forAll (List.range 12) (fun j s => if s.link.last.run && bitOf s.link.last.en j then addPend 2838 j 1 s else s) s

/-- MODULE_HIST and MODULE_EXTREMES, counted by every member. -/
def countModule (s : State) : State :=
  let vbp := s.sup.vbp
  let die := s.sup.dieTemp
  let vf := s.dio.vf
  let s := addPend 2832 (binOf vbpEdges vbp) 1 (addPend 2833 (binOf dieEdges die) 1 (addPend 2834 (binOf vfEdges vf) 1 s))
  let up (p : Nat) : Bool := (getAt s.net.ports p).link
  let conds := if isFenced .n s then [] else [up 0, up 1, up 2, up 3, s.net.rxA, s.net.rxB, !s.net.rxA && !s.net.rxB, s.ptp.state == .locked, s.ptp.state == .slewing,
    s.ptp.state == .holdover, s.ptp.state == .free, s.ptp.ref == some 2 || s.ptp.ref == some 3]
  let s := forAll (List.range 12) (fun i s => if conds.getD i false then addPend 2835 i 1 s else s) s
  let op := s.sys.opSec
  let ext (k : Nat) (v : Int) (p : List Byte) : List Byte :=
    widen (v > fieldS p (16 * k + 8) 4) (16 * k + 8) 4 v (16 * k + 12) op (widen (v < fieldS p (16 * k) 4) (16 * k) 4 v (16 * k + 4) op p)
  putExt 2836 (ext 2 vf (ext 1 die (ext 0 vbp (extNow 2836 s)))) s

/-- Each operating second, once (R414): the extremes of the second before are written (R417; not below 33 V), then the second is
counted. -/
def recSecond (s : State) : State :=
  guardOn (recCounts s && s.recd.secAt != s.sys.opSec) (fun s =>
    let s := if recWrites s then forAll s.recd.ext (fun x s => commitExt x.1 x.2 s) s else s
    let s := if acts s then forAll (positions s) countPos (countStr (countConverter s)) else s
    let s := { s with recd := { s.recd with
      dirs := 0, trips := 0, seenSteps := s.sp.loadSteps, seenBreaks := s.prot.breaks, secAt := s.sys.opSec } }
    forAll (List.range 256) countGen (countModule s)) s

/-- REC_SECOND (R414). -/
def execRecSecond (s : State) : Host.Outcome State Fault Refusal := whenLiveK recSecond s

/-- CVT_V_STRING as J receives it: absent while C is fenced (R15). -/
def cVolts (s : State) : Nat := if isFenced .c s then 0 else s.link.mean.vStr.natAbs

/-- The charge and energy of the ended frame (R415), from the current R84 uses before the charge efficiency. A fenced E gives no current
(R15). -/
def recCharge (s : State) : State :=
  guardOn (acts s && recCounts s && !isFenced .e s && s.est.source != .none) (fun s =>
    let q := s.est.iFrame.natAbs * 1000
    let w := q * cVolts s
    if s.est.iFrame ≥ 0 then { s with recd := { s.recd with qDis := s.recd.qDis + q, wDis := s.recd.wDis + w } }
    else { s with recd := { s.recd with qChg := s.recd.qChg + q, wChg := s.recd.wChg + w } }) s

/-! ### Commits and the hold (R417 to R419, R421) -/

/-- REC_COMMIT (R417): a commit that falls due during a hold, or below 33 V, is skipped. -/
def recCommit (s : State) : State :=
  guardOn (recCounts s && s.sys.opSec ≥ s.recd.dueAt) (fun s =>
    let int := cfgN Ent.REC_COMMIT_INT s
    let s := if recWrites s then commitAll s else s
    { s with recd := { s.recd with interval := int, dueAt := s.sys.opSec + int } }) s

/-- REC_COMMIT (R417). -/
def execRecCommit (s : State) : Host.Outcome State Fault Refusal := whenLiveK recCommit s

/-- The status that REC_HOLD answers to a session (R419): none where it is accepted. -/
def holdRefusal (ses secs : Nat) (s : State) : Option Nat :=
  let owner := if s.recd.holdSes ≠ 0 then s.recd.holdSes else match s.recd.holdWant with | some (x, _) => x | none => 0
  let busy := s.recd.state != .running || s.recd.holdWant.isSome
  if secs = 0 then (if owner = ses then none else if busy then some 0x11 else none)
  else if busy && owner ≠ ses then some 0x16
  else none

/-- REC_HOLD takes effect (R418, R419). -/
def recHold (ses secs : Nat) (s : State) : State :=
  if secs = 0 then (if s.recd.holdSes = ses then endHold s else { s with recd := { s.recd with holdWant := none } })
  else if s.recd.state == .held then
    { s with recd := { s.recd with holdEnd := min (s.now + secs * 1000000000) (s.recd.holdFrom + 60000000000) } }
  else { s with recd := { s.recd with holdWant := some (ses, secs) } }

/-- An accepted hold starts at a frame boundary (R418). -/
def recBoundary (s : State) : State :=
  match s.recd.holdWant with
  | some (ses, secs) =>
    if s.recd.state == .running && recCounts s then
      { s with recd := { s.recd with
        state := .held, holdSes := ses, holdFrom := s.now, holdEnd := s.now + secs * 1000000000, holdWant := none } }
    else { s with recd := { s.recd with holdWant := none } }
  | none => s

/-- HOLD_END (R419): its duration ends. A hold that has lasted 60 s raises 0x7C04. -/
def holdEnd (s : State) : State :=
  guardOn (s.recd.state == .held && s.now ≥ s.recd.holdEnd) (fun s =>
    endHold (if s.now ≥ s.recd.holdFrom + 60000000000 then raiseF 0x7C04 wide s else s)) s

/-- HOLD_END (R419). -/
def execHoldEnd (s : State) : Host.Outcome State Fault Refusal := whenLiveK holdEnd s

/-- MERGE_END (R419): the next commit falls due REC_COMMIT_INT later. -/
def mergeEnd (s : State) : State :=
  guardOn (s.recd.state == .merging && recCounts s && s.sup.vbpState == .normal) (fun s =>
    let s := commitAll s
    { s with recd := { s.recd with state := .running, dueAt := s.sys.opSec + s.recd.interval } }) s

/-- MERGE_END (R419). -/
def execMergeEnd (s : State) : Host.Outcome State Fault Refusal := whenLiveK mergeEnd s

/-! ### At a start (R413, R416, R417) -/

/-- One record with failed copies: rewritten from the valid one, or rebuilt with the GEN of the learned record. -/
def recRepair (r : Nat) (aBad bBad : Bool) (s : State) : State :=
  let p := recPair r s
  let put (p : RecPair) (s : State) : State := { s with recd := { s.recd with recs := putKey r p s.recd.recs } }
  match aBad, bBad with
  | false, false => s
  | true, false => clearF 0x7C01 wide (put { p with a := p.b } (raiseF 0x7C01 wide s))
  | false, true => clearF 0x7C01 wide (put { p with b := p.a } (raiseF 0x7C01 wide s))
  | true, true =>
    let pay := blankPayload r
    let pay := if (recSet r).1 = 3 then splice pay 24 (toBytes 2 (learnedAt (r - 2576) s).gen) else pay
    let x : RecSlot := { rebuilt := true, pay := pay, opSec := s.sys.opSec, pcyc := s.sys.pcyc }
    raiseF 0x7C02 wide (put ⟨x, x⟩ { s with recd := { s.recd with invalid := incSat16 s.recd.invalid } })

/-- The recorder at a start: failed copies, and the seconds lost since the last commit (R417). -/
def recStart (bad : List (Nat × Bool × Bool)) (s : State) : State :=
  let s := forAll (bad.filter fun x => x.1 < 2839) (fun x s => recRepair x.1 x.2.1 x.2.2 s) s
  let gone := s.sys.opSec - s.recd.lastCommit
  let s := if gone > 0 then raiseF 0x7C05 wide { s with recd := { s.recd with lost := incSat32 s.recd.lost gone } } else s
  { s with recd := { s.recd with secAt := s.sys.opSec, dueAt := s.sys.opSec + cfgN Ent.REC_COMMIT_INT s, interval := cfgN Ent.REC_COMMIT_INT s } }

/-- Records with SATURATED set. -/
def saturated (s : State) : List Nat := (s.recd.recs.filter fun x => (recNow x.1 s).sat).map (·.1)

/-! ### What readers see (Table 18-6) -/

/-- REC_DATA (R420). -/
def recData (s : State) : List Byte := (List.range 2839).flatMap fun r => recBytes r s

/-- REC_STATE. -/
def recStateCode (s : State) : Nat :=
  if isFenced .j s then 3 else match s.recd.state with | .running => 0 | .held => 1 | .merging => 2

/-- REC_HOLD_LEFT. -/
def holdLeft (s : State) : Nat := if s.recd.state == .held then (s.recd.holdEnd - s.now + 999999999) / 1000000000 else 0

end Sys2Proof.Machine
end

