-- ==== Sys2Proof/Machine/Reply.lean ====
section
/-! DEFINITION. How replies of the object access protocol leave (10_object_dictionary R247, R249). -/
namespace Sys2Proof.Machine
open Sys2Proof

/-- Bytes 0 to 25 + LEN of a message (Table 10-5), and its CRC. -/
def messageBytes (kind op flags status ses seq index sub jseq : Nat) (payload : List Byte) : List Byte :=
  let b := toBytes 1 (16 + kind) ++ toBytes 1 op ++ toBytes 1 flags ++ toBytes 1 status ++ toBytes 4 ses ++ toBytes 4 seq ++
    toBytes 2 index ++ toBytes 1 sub ++ [0] ++ toBytes 8 jseq ++ toBytes 2 payload.length ++ payload
  b ++ toBytes 4 (crc32c b)

/-- The bytes of a reply. -/
def replyBytes (r : Reply) : List Byte := messageBytes 2 r.op r.flags r.status r.ses r.seq r.index r.sub r.jseq r.payload

/-- Cut a message into segments of at most `n` message bytes (R249): segment byte, bytes, padding of 0xCC to a CAN length. -/
def segments (fd : Bool) (n : Nat) : Nat → Nat → List Byte → List (List Byte)
  | 0, _, _ => []
  | fuel + 1, i, bs =>
    let last := bs.length ≤ n
    let seg := toBytes 1 ((if i = 0 then 128 else 0) + (if last then 64 else 0) + i % 64) ++ bs.take n
    let out := seg ++ List.replicate (dlcLen fd (dlcFor seg.length) - seg.length) 0xCC#8
    if last then [out] else out :: segments fd n fuel (i + 1) (bs.drop n)

/-- The channel that carries the protocol (R249). -/
def sesCan (s : State) : Option CanCh :=
  match cfgN Ent.SES_CAN_CHANNEL s with
  | 1 => some .can1
  | 2 => some .can2
  | _ => none

/-- Send a reply: to the address and port of its request, or in segments on the CAN channel. -/
def sendReply (r : Reply) (s : State) : State :=
  match r.dest with
  | .udp _ _ _ => emit (.reply r) s
  | .can => match sesCan s with
    | some ch =>
      let fd := cfgB Ent.CAN_FD s (chNo ch)
      let bytes := replyBytes r
      forAll (segments fd (if fd then 63 else 7) (bytes.length + 1) 0 bytes)
        (fun seg s => emit (.canSegment ch (cfgN Ent.SES_CAN_RSP_ID s) seg) s) s
    | none => s

end Sys2Proof.Machine
end

