-- ==== Sys2Proof/Machine/Start.lean ====
section
/-! DEFINITION. Start-up, tiers, shutdown, hibernation (14_startup_and_service_tiers), the geographic address and the lamps
(20_backplane_connector). -/
namespace Sys2Proof.Machine
open Sys2Proof

/-- Change the system registers. -/
def modSys (f : SysRegs → SysRegs) (s : State) : State := { s with sys := f s.sys }

/-! ### Power-good (R335, R341, R342, Table 14-2) -/

/-- The P island failed a test of its own SRAM (R341, R428). -/
def pTestFails (c : StartChecks) : Bool := c.spareFail.contains .p || c.sramFail.contains .p || c.marchFail.contains .p

/-- The islands that a start-up test fences: SRAM tests name their island; MRAM belongs to J (Table 14-4, Table 17-2). DEDUCED
(log 38): the flash checker stands on the same path as the MRAM's, so its island is J too. -/
def testFenced (c : StartChecks) : List Island :=
  let all : List Island := c.spareFail ++ c.sramFail ++ c.marchFail ++ (if c.mramOk && c.flashOk then [] else [Island.j])
  all.eraseDups.filter (· != Island.p)

/-- SYS_SELFTEST of a start, all tests ended. -/
def selftestBits (c : StartChecks) (imageOk : Bool) : Nat :=
  b2n (!c.spareFail.isEmpty) + 2 * b2n (!c.sramFail.isEmpty) + 4 * b2n (!c.mramOk) + 8 * b2n (!c.flashOk) +
  16 * b2n (!c.marchFail.isEmpty) + 32 * b2n (!imageOk) + 64 * b2n (!c.coresAgree)

/-- A bank passes the check of a start (R380); one with an uncorrectable block is marked as failing (R406). -/
def bankPasses (b : Nat) (s : State) : Bool := packageOk b s && !(s.mem.bankBad.any (·.1 == b))

/-- The copies of the bank pointer are checked; an invalid one is rewritten from the valid one (R389). -/
def checkPointer (c : StartChecks) (s : State) : State :=
  let s := { s with fw := { s.fw with ptrA := { s.fw.ptrA with ok := c.ptrAOk }, ptrB := { s.fw.ptrB with ok := c.ptrBOk } } }
  match c.ptrAOk, c.ptrBOk with
  | true, true => s
  | true, false => clearF 0x7A09 wide { raiseF 0x7A09 wide s with fw := { s.fw with ptrB := s.fw.ptrA } }
  | false, true => clearF 0x7A09 wide { raiseF 0x7A09 wide s with fw := { s.fw with ptrA := s.fw.ptrB } }
  | false, false => raiseF 0x7A09 wide s

/-- The bank is chosen and booted, or the recovery responder runs (R342, R389). -/
def bootBank (c : StartChecks) (s : State) : State :=
  let s := checkPointer c s
  let named := (pointerBank s.fw).map (·.bank)
  let first := named.getD 0
  let boot (b : Nat) (s : State) : State :=
    setValid b true { s with sys := { s.sys with imageOk := true, bootBank := b }, fw := { s.fw with running := b } }
  if bankPasses first s then boot first s
  else
    let s := setValid first false s
    if bankPasses (1 - first) s then
      let s := boot (1 - first) s
      if named.isSome then raiseF 0x1022 wide s else s
    else
      let s := raiseF 0x1023 wide (setValid (1 - first) false s)
      { s with sys := { s.sys with imageOk := false }, fw := { s.fw with state := .recovery, recNext := 0 } }

/-- The energy of the hold-up store in mJ (R426): products in U64, which wrap below 20 V (R9); e is a U32. -/
def gaugeEnergy (c vs : Nat) : Nat := c * ((vs * vs + 2 ^ 64 - 20000 * 20000) % 2 ^ 64) % 2 ^ 64 / 2000000000 % 2 ^ 32

/-- The time it lasts at a power p in mW, in µs, a U32 (R426). -/
def gaugeTime (e p : Nat) : Nat := e * 1000000 / max p 500 % 2 ^ 32

/-- The capacitance of the hold-up store is measured (R426): the full-load time at 60 V against 10 ms. -/
def holdupMeasured (c : Nat) (s : State) : State :=
  let s := { s with sup := { s.sup with holdC := c, holdAt := some s.now } }
  let t := gaugeTime (gaugeEnergy c 60000) 9500
  if t < 10000 then raiseF 0x1006 wide s else if 10000 < t then clearF 0x1006 wide s else s

/-- The power-up sequence begins (Table 14-2). Frame boundaries fall on the whole milliseconds of the local clock, so that they fall on
those of plant time once it is locked (R17). -/
def powerGood (c : StartChecks) (s : State) : State :=
  guardOn (s.sys.phase == .off && !s.sys.pFailed) (fun s =>
    if pTestFails c then modSys (fun x => { x with pFailed := true }) (recordCause .pMemory s)
    else
      let cause := if s.sys.causeRec then s.sys.cause else .powerOn
      let s := modSys (fun x => { x with
        phase := .started, tier := .guard_, guardIn := false, t0 := s.now, pcyc := incSat32 x.pcyc, upMs := 0, frames := 0
        cause := cause, causeRec := false, gaRun := [], gaTries := 0, gaOk := false, gaAt := none, gaDiff := none, calBegan := some s.now
        guardMs := none, watchMs := none, limitedMs := none, fullMs := none, block := 0 }) s
      let s := { s with frameAt := s.now - s.now % 1000000, flt := { s.flt with events := s.flt.events ++ [⟨0, causeCode cause, .start, s.now⟩] } }
      let s := applySoftMap c.softAOk c.softBOk s
      let s := bootBank c s
      let s := forAll (testFenced c) (fun i s => fenceIsland i 0x1020 (raiseF 0x1020 (islandNo i) s)) s
      let s := if c.coresAgree then s
        else raiseF 0x1020 (islandNo .s) { s with saf := { s.saf with state := .failed } }
      let s := { s with net := { s.net with fenceA := !c.lanAOk, fenceB := !c.lanBOk } }
      let s := setF (!c.lanAOk) 0x7005 wide (setF (!c.lanBOk) 0x7006 wide s)
      let s := holdupMeasured c.holdupUf s
      let s := recStart c.recBad s
      modSys (fun x => { x with
        selftest := selftestBits c x.imageOk, testFail := !(testFenced c).isEmpty || !c.coresAgree
        journalCut := c.journalCut }) s) s

/-- POWER_GOOD (R335). -/
def execPowerGood (st : StartChecks) (s : State) : Host.Outcome State Fault Refusal := alwaysK (powerGood st) s

/-! ### Tiers (R338 to R340, R343) -/

/-- Milliseconds since power-good. -/
def msSinceT0 (s : State) : Nat := (s.now - s.sys.t0) / 1000000

/-- A tier has been reached: 0x1021 and SYS_TIER_BLOCK clear (R340). -/
def tierReached (s : State) : State := clearF 0x1021 wide (modSys (fun x => { x with block := 0 }) s)

/-- TIER_GUARD (Table 14-3): S and F run. A module that acts begins to enumerate once its images are booted (Table 14-2). -/
def tierGuard (s : State) : State :=
  guardOn (!s.sys.guardIn && !isFenced .s s && !isFenced .f s && !bitOf s.sys.selftest 6) (fun s =>
    let s := tierReached (modSys (fun x => { x with guardIn := true, guardMs := some (msSinceT0 s) }) s)
    if !s.sys.imageOk then s else if acts s then startEnumeration s else s) s

/-- TIER_GUARD (R338). -/
def execTierGuard (s : State) : Host.Outcome State Fault Refusal := whenLiveK tierGuard s

/-- The enumeration has ended, and the first sweep is done or none is due (Table 14-3). A member that listens does not enumerate. -/
def chainReady (s : State) : Bool :=
  if !acts s then true
  else match s.chain.state with
    | .enumerating => false
    | .failed => true
    | .unconfigured => nodeCount s = 0
    | .running => s.cells.sweepNo ≥ 1
    | .degraded => s.cells.sweepNo ≥ 1
    | .singleRadio => s.cells.sweepNo ≥ 1

/-- In a pair, an ACTIVE member has been elected (R371). -/
def elected (s : State) : Bool := !s.pair.paired || s.pair.role == .active || s.pair.partner == some .active

/-- TIER_WATCH (Table 14-3): protection, the safety functions and the estimator start. -/
def tierWatch (s : State) : State :=
  guardOn (s.sys.guardIn && s.sys.tier == .guard_ && s.sys.imageOk && s.sys.gaOk && !isFenced .h s && chainReady s && elected s)
    (fun s =>
      let s := tierReached (modSys (fun x => { x with tier := .watch, watchMs := some (msSinceT0 s) }) s)
      let s := startEst s
      let s := withSq startSafety s
      let s := forAll s.sys.recorded (fun x s => raiseAt x.2 x.1 wide s) s
      let s := modSys (fun x => { x with recorded := [] }) s
      let s := raiseLatch s
      if (saturated s).isEmpty then s else raiseF 0x7C03 wide s) s

/-- TIER_WATCH (R338). -/
def execTierWatch (s : State) : Host.Outcome State Fault Refusal := whenLiveK tierWatch s

/-- TIER_FULL (Table 14-3). -/
def tierFull (s : State) : State :=
  guardOn (s.sys.tier == .limited && (s.est.restored || ratedCap s = 0) && (s.ident.loaded || ratedCap s = 0) &&
      !s.chctl.idWait && (List.range 256).all (fun n => (lpAt n s).entry.isNone) && !s.sys.testFail && (s.locked || msSinceT0 s ≥ 18000)) (fun s =>
    tierReached (modSys (fun x => { x with tier := .full, fullMs := some (msSinceT0 s) }) s)) s

/-- TIER_FULL (R338). -/
def execTierFull (s : State) : Host.Outcome State Fault Refusal := whenLiveK tierFull s

/-- The fault code of what holds the next tier back, or 0x1021 itself (R340). -/
def tierBlocker (s : State) : Nat :=
  let first (cs : List Nat) : Nat := (cs.find? fun c => anyActive c s).getD 0x1021
  if !s.sys.guardIn then first [0x1020, 0x1103, 0x1007]
  else match s.sys.tier with
    | .guard_ => first [0x1023, 0x1030, 0x1020, 0x7807, 0x1103]
    | .watch => first [0x1103, 0x1020]
    | .limited => first [0x1020]
    | .full => 0

/-- The next tier and its deadline in ms (Table 14-3). -/
def nextTier (s : State) : Option (Tier × Nat) :=
  if !s.sys.guardIn then some (.guard_, 150)
  else match s.sys.tier with
    | .guard_ => some (.watch, 1500)
    | .watch => some (.limited, 6000)
    | .limited => some (.full, 20000)
    | .full => none

/-- TIER_LATE (R340). -/
def tierLate (s : State) : State :=
  match nextTier s with
  | some (_, ms) =>
    guardOn (msSinceT0 s ≥ ms) (fun s => raiseF 0x1021 wide (modSys (fun x => { x with block := tierBlocker s }) s)) s
  | none => s

/-- TIER_LATE (R340). -/
def execTierLate (s : State) : Host.Outcome State Fault Refusal := whenLiveK tierLate s

/-! ### Shutdown and resets (R337, R344, R347) -/

/-- The writes made when VBP falls below 33 V: the checkpoint, then the record batch (R104, R120). -/
def lowWrites (s : State) : State := startBatch (writeCheckpoint s)

/-- The end of a shutdown (R337, steps 2 to 4). -/
def finishShutdown (cause : ResetCause) (s : State) : State :=
  resetModule cause (keep (fun s =>
    let s := if acts s && !parked s then withSq uncommandedOpen s else s
    if s.sup.lowWrites then s else lowWrites s) s)

/-- A shutdown or a commanded reset begins: an active member with a STANDBY_PAIR partner hands over first (R337, R347). -/
def handOverFirst (cause : ResetCause) (s : State) : State :=
  if s.pair.paired && s.pair.role == .active && s.pair.partner == some .standby then
    modSys (fun x => { x with downDue := some (2, cause) }) (startHandover s)
  else modSys (fun x => { x with downDue := some (0, cause) }) s

/-- A cause that is a command: no shutdown writes precede its reset. -/
def commanded : ResetCause → Bool
  | .command => true | .selftest => true
  | .powerOn => false | .brownOut => false | .pwrEn => false | .extraction => false | .freeze => false | .tap => false
  | .pMemory => false

/-- At a frame boundary: a shutdown whose handover is done, or took its 2 frames, ends (R337); a commanded reset follows its
reply (R347). -/
def downBoundary (s : State) : State :=
  match s.sys.downDue with
  | none => s
  | some (n, cause) =>
    if n = 0 || s.pair.role != .active then (if commanded cause then resetModule cause s else finishShutdown cause s)
    else modSys (fun x => { x with downDue := some (n - 1, cause) }) s

/-- The cause of a shutdown (Table 14-5). -/
def shutdownCause : ShutdownWhy → ResetCause
  | .pwrEn _ => .pwrEn | .presentS => .extraction | .holdup => .brownOut

/-- What lasts long enough to be a power cycle (R425). -/
def powerCycle : ShutdownWhy → Bool
  | .pwrEn ms => decide (100 ≤ ms)
  | .presentS => true
  | .holdup => true

/-- What lasts long enough to start a shutdown (R337). -/
def longEnough : ShutdownWhy → Bool
  | .pwrEn ms => decide (1 ≤ ms)
  | .presentS => true
  | .holdup => true

/-- SHUTDOWN_START (R337, R425, R431). -/
def shutdownStart (why : ShutdownWhy) (s : State) : State :=
  match s.sys.phase with
  | .off => if powerCycle why then modSys (fun x => { x with pFailed := false }) s else s
  | .latched => if powerCycle why then resetModule (shutdownCause why) s else s
  | .frozen => if longEnough why then resetModule .freeze s else s
  | .started =>
    if !longEnough why || s.sys.downDue.any (fun d => !commanded d.2) then s
    else
      let s := keep (handOverFirst (shutdownCause why)) s
      if s.sys.downDue.any (·.1 == 0) then finishShutdown (shutdownCause why) s else s

/-- SHUTDOWN_START (R337). -/
def execShutdownStart (why : ShutdownWhy) (s : State) : Host.Outcome State Fault Refusal := always (shutdownStart why) s

/-- A reset of a module that has power and is not latched off (R344, R425). -/
def resetPowered (cause : ResetCause) (s : State) : State :=
  if s.sys.phase == .off || s.sys.phase == .latched then s else resetModule cause s

/-- MODULE_RESET (R344). A latched shutdown ends only with a power cycle (R425). -/
def execModuleReset (cause : ResetCause) (s : State) : Host.Outcome State Fault Refusal :=
  always (resetPowered cause) s

/-! ### Calibration (R349) -/

/-- A calibration rotation begins (R348, R349). -/
def calStart (s : State) : State :=
  if s.sys.calRun then s else modSys (fun x => { x with calRun := true, calStep := 0, calBegan := some s.now, calStepAt := s.now }) s

/-- CAL_ROTATION_START (R349): every SYS_CAL_INT. -/
def execCalRotationStart (s : State) : Host.Outcome State Fault Refusal :=
  whenLiveK (fun s => guardOn (due s.sys.calBegan (cfgN Ent.SYS_CAL_INT s * 1000000000) s) calStart s) s

/-- CAL_ROTATION_STEP (R349): after 200 ms the freed channel is calibrated and becomes the new spare; the fifth step ends the
rotation. -/
def calStep (s : State) : State :=
  guardOn (s.sys.calRun && s.sys.calStepAt + 200000000 ≤ s.now) (fun s =>
    let s := modSys (fun x => { x with calStep := x.calStep + 1, calStepAt := x.calStepAt + 200000000, calSpare := (x.calSpare + 1) % 5 }) s
    if s.sys.calStep < 5 then s
    else
      let s := forAll s.sys.calWait sendReply s
      modSys (fun x => { x with calRun := false, calStep := 0, calLast := s.now, calWait := [] }) s) s

/-- CAL_ROTATION_STEP (R349). -/
def execCalRotationStep (s : State) : Host.Outcome State Fault Refusal := whenLiveK calStep s

/-! ### Hibernation (R350, R351) -/

/-- MODULE_HIBERNATE (R350): C and the lanes stop, without lane faults. -/
def moduleHibernate (s : State) : State :=
  guardOn (cfgB Ent.SYS_HIB_EN s && tierAtLeast .full s && parked s && !seqRuns s && s.est.state == .hibernating && !s.est.waking)
    (fun s =>
      let s := assertSelect none s
      { s with sys := { s.sys with hibernating := true }, link := { s.link with lane0 := .down, lane1 := .down, moveFrom := none } }) s

/-- MODULE_HIBERNATE (R350). -/
def execModuleHibernate (s : State) : Host.Outcome State Fault Refusal := whenLiveK moduleHibernate s

/-! ### The geographic address (R441, R443) -/

/-- GA_READ (R443), every 1 ms: three agreeing readings latch; 100 without agreement raise 0x1030. -/
def gaRead (g : Nat) (s : State) : State :=
  guardOn (!s.sys.gaOk && !isActive 0x1030 wide s && due s.sys.gaAt 1000000 s) (fun s =>
    let run := (g :: s.sys.gaRun).take 3
    let s := modSys (fun x => { x with gaAt := some s.now, gaRun := run, gaTries := x.gaTries + 1 }) s
    if run.length == 3 && run.all (· == g) then
      { modSys (fun x => { x with gaOk := true, plantAddr := g }) s with pair := { s.pair with member := g % 2 } }
    else if s.sys.gaTries ≥ 100 then raiseF 0x1030 wide s else s) s

/-- GA_READ (R443). -/
def execGaRead (reading : BitVec 9) (s : State) : Host.Outcome State Fault Refusal := whenLiveK (gaRead reading.toNat) s

/-- GA_CHECK (R443), every 100 ms: a reading that differs for 100 ms raises 0x1031; one that matches clears it. -/
def gaCheck (g : Nat) (s : State) : State :=
  guardOn (s.sys.gaOk && due s.sys.gaAt 100000000 s) (fun s =>
    let s := modSys (fun x => { x with gaAt := some s.now }) s
    if g = s.sys.plantAddr then clearF 0x1031 wide (modSys (fun x => { x with gaDiff := none }) s)
    else match s.sys.gaDiff with
      | none => modSys (fun x => { x with gaDiff := some s.now }) s
      | some t => if s.now ≥ t + 100000000 then raiseF 0x1031 wide s else s) s

/-- GA_CHECK (R443). -/
def execGaCheck (reading : BitVec 9) (s : State) : Host.Outcome State Fault Refusal := whenLiveK (gaCheck reading.toNat) s

/-! ### Lamps (R446, Table 20-5) -/

/-- Colours of a lamp. -/
inductive LampColour where
  | green | amber | red
  deriving DecidableEq, Repr, Inhabited

/-- A lamp's pattern: steady, or flashing at a frequency in 0.1 Hz. -/
inductive Lamp where
  | dark
  | steady (c : LampColour)
  | flash (c : LampColour) (tenthHz : Nat)
  deriving DecidableEq, Repr, Inhabited

/-- PWR, RUN, PAIR and FAULT. -/
def lamps (s : State) : Lamp × Lamp × Lamp × Lamp :=
  match s.sys.phase with
  | .frozen => (.steady .amber, .steady .amber, .steady .amber, .steady .amber)
  | .latched => (.dark, .dark, .dark, .flash .red 40)
  | .off => (.dark, .dark, .dark, .dark)
  | .started =>
    let pwr : Lamp := if s.sys.downDue.any (fun d => !commanded d.2) || s.sup.vbpState != .normal then .flash .green 40 else .steady .green
    let run : Lamp := match s.sys.tier with
      | .guard_ => .steady .amber
      | .watch => .flash .green 10
      | .limited => .flash .green 20
      | .full => if s.sys.hibernating then .flash .green 2 else .steady .green
    let pair : Lamp :=
      if !s.pair.paired then .dark
      else match s.pair.role with
        | .fenced => .steady .red
        | .detached => .steady .amber
        | .active => if s.pair.lease == .self then .flash .amber 10 else .steady .green
        | .standby => .flash .green 10
    let fenced := [Island.p, .h, .c, .e, .m, .n, .s, .f, .b, .j].any fun i => isFenced i s
    let fault : Lamp :=
      if s.prot.tripped || s.saf.state == .latched || s.saf.state == .failed || s.saf.state == .unsealed || fenced then .steady .red
      else if s.flt.active.isEmpty then .dark else .steady .amber
    (pwr, run, pair, fault)

end Sys2Proof.Machine
end

