-- ==== Sys2Proof/Machine/Sup.lean ====
section
/-! DEFINITION. Supervision, latched shutdown, hold-up gauge, clock freeze and the test access port (19_supervision_and_freeze). -/
namespace Sys2Proof.Machine
open Sys2Proof

/-- Change the supervision registers. -/
def modSup (f : SupRegs → SupRegs) (s : State) : State := { s with sup := f s.sup }

/-! ### Die temperature (R423 to R425) -/

/-- A code that MRAM records, to be shown after restart (R470). -/
def recordCode (code : Nat) (s : State) : State :=
  modSys (fun x => { x with recorded := x.recorded.filter (·.1 != code) ++ [(code, s.now)] }) s

/-- Steps 2 to 4 of a latched shutdown (R424): the safe outputs open, and every other island is held in reset. -/
def goLatched (s : State) : State :=
  let s := if s.pair.paired || parked s then s else uncommandedOpen s
  let s := assertSelect none (modSup (fun x => { x with latchIn := none }) s)
  { s with
    sys := { s.sys with phase := .latched }
    prot := { s.prot with
      main := { s.prot.main with coil := false }, neg := { s.prot.neg with coil := false }, pre := { s.prot.pre with coil := false } }
    link := { s.link with lane0 := .down, lane1 := .down } }

/-- A latched shutdown falls due (R424). -/
def latchShutdown (s : State) : State :=
  if s.sys.phase == .latched || s.sup.latchIn.isSome then s
  else
    let s := recordCode 0x1003 (raiseF 0x1003 wide s)
    let s := modSup (fun x => { x with shutdowns := incSat32 x.shutdowns, lastShutdown := s.now }) s
    if s.pair.paired && live s then modSup (fun x => { x with latchIn := some 2 }) (resign s) else goLatched s

/-- At a frame boundary: a pair member's latched shutdown goes on once it is FENCED, or 2 frames later (R424). -/
def latchBoundary (s : State) : State :=
  match s.sup.latchIn with
  | none => s
  | some n => if n = 0 || s.pair.role == .fenced then goLatched s else modSup (fun x => { x with latchIn := some (n - 1) }) s

/-- The evaluation of every 100 ms (R423): the rate against the reading of 1 s before. DEDUCED (log 39): none until a second of
readings exists. -/
def rateStep (temp : Int) (s : State) : State :=
  let old := s.sup.temps.getD 9 temp
  let known := s.sup.temps.length ≥ 10
  let rate := if known then (temp - old) * 10 else 0
  let s := modSup (fun x => { x with
    dieRate := rate, temps := (temp :: x.temps).take 10
    fastRun := if rate > 100 then x.fastRun + 1 else 0, slowRun := if rate ≤ 100 then x.slowRun + 1 else 0
    rushRun := if rate > 400 && temp > 1000 then x.rushRun + 1 else 0 }) s
  let s := if s.sup.fastRun ≥ 100 then raiseF 0x1002 wide s else s
  let s := if s.sup.slowRun ≥ 100 then clearF 0x1002 wide s else s
  if s.sup.rushRun ≥ 20 then latchShutdown s else s

/-- DIE_TEMP_READ (R423): every 10 ms. -/
def dieTempRead (temp : Int) (s : State) : State :=
  guardOn ((s.sys.phase == .started || s.sys.phase == .frozen) && due s.sup.readAt 10000000 s) (fun s =>
    let s := modSup (fun x => { x with
      readAt := some s.now, dieTemp := temp, reads := (x.reads + 1) % 10, coolRun := if temp < 1200 then x.coolRun + 1 else 0
      hotRun := if temp ≥ 1450 then x.hotRun + 1 else 0, rushRun := if temp > 1000 then x.rushRun else 0 }) s
    let s := if temp ≥ 1250 then raiseF 0x1001 wide s else s
    let s := if s.sup.coolRun ≥ 1000 then clearF 0x1001 wide s else s
    let s := if s.sup.reads = 0 then rateStep temp s else s
    if s.sup.hotRun ≥ 2 then latchShutdown s else s) s

/-- DIE_TEMP_READ (R423). -/
def execDieTempRead (temp : Int) (t : Nat) (s : State) : Host.Outcome State Fault Refusal :=
  alwaysK (fun s => withSq (dieTempRead temp) (atTime t s)) s

/-! ### Hold-up gauge and VBP (R426, R427) -/

/-- The energy of the hold-up store and the time it lasts (R426), and how VBP stands to its two levels (R427). -/
def gaugeTaken (vStore vbp power : Nat) (s : State) : State :=
  let e := gaugeEnergy s.sup.holdC vStore
  modSup (fun x => { x with
    holdE := e, holdT := gaugeTime e power, vbp := vbp, gaugeAt := some s.now
    lowFrom := sinceNow (vbp < 33000) x.lowFrom s, highFrom := sinceNow (34000 < vbp) x.highFrom s }) s

/-- A shortfall in VBP_LOW (R427). -/
def shortfall (s : State) : Bool := s.sup.vbpState == .low && s.sup.holdT ≤ 10500

/-- 0x1005, recorded for the next start (R427). -/
def shortfallRaise (s : State) : State :=
  recordCode 0x1005 (raiseF 0x1005 wide (modSup (fun x => { x with vbpState := .shortfall }) s))

/-- HOLDUP_GAUGE (R426), every 100 µs: a shortfall starts the shutdown (R427). -/
def holdupGauge (vStore vbp power : Nat) (s : State) : State :=
  if due s.sup.gaugeAt 100000 s then
    let s := keep (gaugeTaken vStore vbp power) s
    if shortfall s then shutdownStart .holdup (keep shortfallRaise s) else s
  else s

/-- HOLDUP_GAUGE (R426). -/
def execHoldupGauge (vStore vbp power t : Nat) (s : State) : Host.Outcome State Fault Refusal :=
  whenLive (fun s => holdupGauge vStore vbp power (atTime t s)) s

/-- HOLDUP_TEST (R426): every hour. -/
def execHoldupTest (capUf : Nat) (s : State) : Host.Outcome State Fault Refusal :=
  whenLiveK (fun s => guardOn (due s.sup.holdAt 3600000000000 s) (holdupMeasured capUf) s) s

/-- VBP_LOW begins once VBP has stayed below 33 V for 50 µs: 0x1004 and the writes of R104 and R120 (R427). -/
def vbpLowEntry (s : State) : State :=
  guardOn (s.sup.vbpState == .normal && heldFor s.sup.lowFrom 50000 s) (fun s =>
    modSup (fun x => { x with lowWrites := true }) (lowWrites (raiseF 0x1004 wide (modSup (fun x => { x with vbpState := .low }) s)))) s

/-- VBP_LOW_ENTRY (R427). -/
def execVbpLowEntry (t : Nat) (s : State) : Host.Outcome State Fault Refusal := whenLiveK (fun s => vbpLowEntry (atTime t s)) s

/-- VBP_LOW ends once VBP has stayed above 34 V for 1 ms (R427). -/
def vbpLowExit (s : State) : State :=
  guardOn (s.sup.vbpState != .normal && heldFor s.sup.highFrom 1000000 s) (fun s =>
    clearF 0x1004 wide (modSup (fun x => { x with vbpState := .normal, lowWrites := false }) s)) s

/-- VBP_LOW_EXIT (R427). -/
def execVbpLowExit (t : Nat) (s : State) : Host.Outcome State Fault Refusal := whenLiveK (fun s => vbpLowExit (atTime t s)) s

/-! ### Clock freeze (R429 to R431) -/

/-- S opens every safe output, and the next DUTY frame carries MODE OFF (Table 19-3, step 2). DEDUCED (log 40): a contactor that
drops so is an uncommanded open under R329; outputs of class B wait for a new command, as after a loss of VF (R328). -/
def freezeOpen (s : State) : State :=
  withSq (fun s =>
    let lost := (protOutputs s).any fun k => sqOn k s
    let s := forAll ((List.range 4).filter (bitOf (sqClass s))) holdSq s
    { s with
      sup := { s.sup with frz := .opened, frzAt := s.now }
      dio := { s.dio with dropped := s.dio.dropped || lost }
      link := { s.link with offReq := true } }) s

/-- FRZ has been asserted for 1 ms (R429, R430). -/
def frzAssert (s : State) : State :=
  let s := modSup (fun x => { x with frzIn := true }) s
  if !bitOf s.saf.dip 2 then raiseF 0x1008 wide s
  else if s.sup.frz != .idle || s.sup.latchIn.isSome then s
  else if !cfgB Ent.SUP_FRZ_IMMEDIATE s && handoverReady s then
    modSup (fun x => { x with frz := .resigning, frzLeft := 2 }) (startHandover s)
  else freezeOpen s

/-- FRZ_ASSERT (R429). -/
def execFrzAssert (s : State) : Host.Outcome State Fault Refusal := whenLiveK frzAssert s

/-- At a frame boundary: the handover of a freeze has ended, or took its 2 frames (Table 19-3). -/
def frzBoundary (s : State) : State :=
  if s.sup.frz != .resigning then s
  else if s.pair.role != .active || s.sup.frzLeft = 0 then freezeOpen s
  else modSup (fun x => { x with frzLeft := x.frzLeft - 1 }) s

/-- CLOCK_STOP (R430): one PWM period after the safe outputs opened, the module is FROZEN. -/
def clockStop (s : State) : State :=
  guardOn (s.sup.frz == .opened && s.sup.frzAt + s.tb.period / 1000 ≤ s.now) (fun s =>
    let s := recordCode 0x1009 (assertSelect none s)
    { s with sys := { s.sys with phase := .frozen }, sup := { s.sup with freezes := incSat32 s.sup.freezes } }) s

/-- CLOCK_STOP (R430). -/
def execClockStop (t : Nat) (s : State) : Host.Outcome State Fault Refusal := whenLiveK (fun s => clockStop (atTime t s)) s

/-- FRZ_RELEASE (R430): before the clocks stop it abandons the freeze. -/
def execFrzRelease (s : State) : Host.Outcome State Fault Refusal :=
  whenLiveK (fun s => withSq (modSup fun x => { x with frzIn := false, frz := .idle, frzLeft := 0 }) s) s

/-! ### The test access port (R432) -/

/-- The port answers while the module is powered. -/
def powered (s : State) : Bool := s.sys.phase != .off

/-- The module is frozen: the scan instructions act. -/
def frozen (s : State) : Bool := s.sys.phase == .frozen

/-- IDCODE: 32 bits, bit 0 first. -/
def execIdcode (s : State) : Host.Outcome State Fault Refusal :=
  alwaysK (fun s => guardOn (powered s) (emit (.tap ((List.range 32).map fun i => bitOf Config.idcode i))) s) s

/-- SCAN_SEL: an island's chain is selected; outside a freeze it returns all ones and changes nothing. -/
def execScanSel (i : Nat) (s : State) : Host.Outcome State Fault Refusal :=
  alwaysK (fun s =>
    if frozen s then (if i < 10 then modSup (fun x => { x with scan := i, scanPos := 0 }) s else s)
    else guardOn (powered s) (emit (.tap (List.replicate 8 true))) s) s

/-- SCAN_DATA: n bits of the selected chain, which goes round; outside a freeze it returns all ones. -/
def execScanData (n : Nat) (s : State) : Host.Outcome State Fault Refusal :=
  alwaysK (fun s =>
    if frozen s then
      let len := max 1 (Config.scanMap s.sup.scan)
      let bits := (List.range n).map fun k => Config.scanBit s.sup.scan ((s.sup.scanPos + k) % len)
      emit (.tap bits) (modSup (fun x => { x with scanPos := (x.scanPos + n) % len }) s)
    else guardOn (powered s) (emit (.tap (List.replicate n true))) s) s

/-- TAP_RESET: Update-DR resets the module. -/
def execTapReset (s : State) : Host.Outcome State Fault Refusal :=
  always (resetPowered .tap) s

/-- BYPASS: the 1-bit register, which IEEE 1149.1 has captured as 0 (PRESUMED, log 159). -/
def execBypass (s : State) : Host.Outcome State Fault Refusal :=
  alwaysK (fun s => guardOn (powered s) (emit (.tap [false])) s) s

/-- SUP_FENCED. -/
def fencedMap (s : State) : Nat :=
  bitMap 10 fun k => [Island.p, .h, .c, .e, .m, .n, .s, .f, .b, .j].any fun i => islandNo i == k && isFenced i s

end Sys2Proof.Machine
end

