-- ==== Sys2Proof/Machine/Dict.lean ====
section
/-! DEFINITION. What a read of each dictionary entry returns (10_object_dictionary R245, R267 and the dictionary table of each
chapter), and what DESCRIBE returns (Table 10-6). -/
namespace Sys2Proof.Machine

/-! ### Codes of what readers see -/

/-- CHN_STATE. -/
def chainStateCode : ChainState → Nat
  | .unconfigured => 0 | .enumerating => 1 | .running => 2 | .degraded => 3 | .singleRadio => 4 | .failed => 5

/-- CHN_NODE_STATE. -/
def nodeStateCode : NodeState → Nat
  | .absent => 0 | .ok => 1 | .unreached => 2 | .nodeFault => 3 | .unkeyed => 4

/-- A quality byte (Table 3-1). -/
def qualByte (q : Qual) : Nat :=
  b2n q.valid + 2 * b2n q.aged + 4 * b2n q.split + 8 * b2n q.compensated + 16 * b2n q.unreached + 32 * b2n q.nodeFault

/-- CELL_LEAD_SRC_LO and _HI. -/
def leadSrcCode : LeadSrc → Nat
  | .none => 0 | .configured => 1 | .learned => 2

/-- STR_MAP_STATE. -/
def mapStateCode : MapState → Nat
  | .unmapped => 0 | .mapped => 1 | .mismatch => 2

/-- EST_STATE. -/
def estStateCode : EstState → Nat
  | .off => 0 | .tableOnly => 1 | .running => 2 | .hibernating => 3 | .fenced => 4

/-- EST_I_SOURCE. -/
def iSourceCode : ISource → Nat
  | .coulomb => 0 | .stage => 1 | .none => 2

/-- TBL_STATE. -/
def tblStateCode : TblState → Nat
  | .empty => 0 | .stored => 1 | .cached => 2 | .corrupt => 3

/-- EST_LEARN_STATE. -/
def learnStateCode : LearnState → Nat
  | .idle => 0 | .journaled => 1 | .writing => 2 | .deferred => 3

/-- A lane's four bits of CVT_LINK_STATE. -/
def laneStateCode : LaneState → Nat
  | .down => 0 | .training => 1 | .up => 2 | .selected => 3

/-- CU_STATE. -/
def cuStateCode : CuState → Nat
  | .off => 0 | .run => 1 | .track => 2 | .fenced => 3 | .spare => 4

/-- CVT_TB_STATE. -/
def tbStateCode : TbState → Nat
  | .free => 0 | .locking => 1 | .locked => 2 | .gliding => 3 | .stage => 4

/-- CU_ENGINE_STATE. -/
def engStateCode : EngState → Nat
  | .idle => 0 | .running => 1 | .held => 2

/-- PAIR_ROLE. -/
def roleCode : Role → Nat
  | .active => 0 | .standby => 1 | .detached => 2 | .fenced => 3

/-- PAIR_LEASE_STATE. -/
def leaseStateCode : LeaseState → Nat
  | .none => 0 | .witness => 1 | .self => 2 | .expired => 3

/-- EVENT of Table 22-4. -/
def faultEvCode : FaultEv → Nat
  | .raised => 1 | .cleared => 2 | .suppressed => 3 | .start => 4

/-- SUP_VBP_STATE. -/
def vbpStateCode : VbpState → Nat
  | .normal => 0 | .low => 1 | .shortfall => 2

/-! ### Values that are worked out when they are read -/

/-- CELL_FAULT: the highest active 0x21NN code of the position or of its node (Table 22-3, log 41). -/
def cellFault (n : Nat) (s : State) : Nat :=
  ((s.flt.active.filter fun a => a.code / 256 == 0x21 &&
    (if [0x2102, 0x2105].contains a.code then a.inst == (cellAt n s).node && a.inst != 0 else a.inst == n)).map (·.code)).foldl max 0

/-- CHN_SWEEP_FLAGS. -/
def sweepFlagBits (s : State) : Nat :=
  b2n s.chain.lastSplit + 2 * b2n s.chain.lastStretched + 4 * b2n (s.chain.state == .degraded)

/-- CHN_NODE_HOP_B: hop of node h from radio B. -/
def hopB (h : Nat) (s : State) : Nat := if 1 ≤ h && h ≤ s.chain.n then s.chain.n + 1 - h else 0

/-- CVT_LANE_ACTIVE. -/
def laneActive (s : State) : Nat := if s.link.lane0 == .selected then 0 else if s.link.lane1 == .selected then 1 else 0xFF

/-- CU_SNAPSHOT. -/
def cuSnapshot (u : Cu) : List Byte :=
  toBytesS 4 u.e1 ++ toBytesS 4 u.e2 ++ toBytesS 4 u.e3 ++ toBytesS 6 u.u1 ++ toBytesS 6 u.u2 ++ toBytesS 6 u.u3

/-- Bytes a journal entry takes in its ring: Table 10-8, padded to a multiple of 8. -/
def jLen (e : JEntry) : Nat := (24 + e.payload.length + 7) / 8 * 8

/-- SES_JOURNAL_FREE: the ring has 4 MiB (R256). -/
def journalFree (s : State) : Nat := 4194304 - sumN (s.ses.journal.map jLen)

/-- SES_TABLE: slots 1 to 65. -/
def sesTable (s : State) : List Byte :=
  (upTo 1 65).flatMap fun k => match s.ses.open_.find? fun x => x.id % 65536 == k with
    | some x => toBytes 4 x.id ++ toBytes 8 x.client ++ toBytes 4 x.next
    | none => List.replicate 16 0

/-- The time of a lease left, ms (PAIR_LEASE_LEFT). -/
def leaseLeft (s : State) : Nat :=
  if s.pair.lease == .witness || s.pair.lease == .self then min 100 ((s.pair.leaseEnd - s.now + 999999) / 1000000) else 0

/-- FLT_SUMMARY. -/
def fltSummary (s : State) : Nat := bitMap 7 fun c => s.flt.active.any fun a => faultClass a.code == c

/-- The active list in the order of R469: highest class first, oldest first within a class. -/
def fltSorted (s : State) : List ActiveFault :=
  sortBy (fun a b => faultClass b.code < faultClass a.code || (faultClass a.code == faultClass b.code && a.since ≤ b.since)) s.flt.active

/-- FLT_ACTIVE: at most 64 items of 16 bytes (R469). -/
def fltActive (s : State) : List Byte :=
  ((fltSorted s).take 64).flatMap fun a =>
    toBytes 2 a.code ++ toBytes 2 a.inst ++ toBytes 1 (faultClass a.code) ++ [0, 0, 0] ++ toBytes 8 (time64 a.since)

/-- The 32 bytes of a log entry (Table 22-4). -/
def logBytes (e : LogEntry) : List Byte :=
  let b := toBytes 4 e.seq ++ toBytes 2 e.code ++ toBytes 2 e.inst ++ toBytes 1 (faultEvCode e.ev) ++ toBytes 1 (faultClass e.code) ++
    toBytes 1 e.member ++ toBytes 1 e.count ++ toBytes 8 (time64 e.time) ++ toBytes 4 e.opSec ++ toBytes 4 e.pcyc
  b ++ toBytes 4 (crc32c b)

/-- FLT_LOG slot by slot (R474): the entry with number SEQ stands in slot SEQ mod 32,768; a slot never written reads zeros (log 42). -/
def fltLog (s : State) : List Byte :=
  (List.range 32768).flatMap fun k => match s.flt.log.find? fun e => e.seq % 32768 == k with
    | some e => logBytes e
    | none => List.replicate 32 0

/-- DIO_DQ_CURRENT and DIO_SQ_CURRENT: free values (log 43). -/
def currentsOf (safe : Bool) (n : Nat) (s : State) : List Byte :=
  (List.range n).flatMap fun k => toBytes 2 (Config.outputCurrent safe k s.now)

/-! ### The value of each read-only entry -/

/-- How instance k of an entry reads. -/
abbrev Reader := Nat → State → Val

/-- A natural number of the module. -/
def rdN (f : State → Nat) : Reader := fun _ s => .num (f s)
/-- An integer of the module. -/
def rdI (f : State → Int) : Reader := fun _ s => .num (f s)
/-- A truth value of the module. -/
def rdB (f : State → Bool) : Reader := fun _ s => .num (b2n (f s))
/-- A plant time of the module. -/
def rdT (f : State → Nat) : Reader := fun _ s => .num (time64 (f s))
/-- Bytes of the module. -/
def rdO (f : State → List Byte) : Reader := fun _ s => .bytes (f s)
/-- A natural number of an instance. -/
def rdNk (f : Nat → State → Nat) : Reader := fun k s => .num (f k s)
/-- An integer of an instance. -/
def rdIk (f : Nat → State → Int) : Reader := fun k s => .num (f k s)
/-- A plant time of an instance. -/
def rdTk (f : Nat → State → Nat) : Reader := fun k s => .num (time64 (f k s))
/-- Bytes of an instance. -/
def rdOk (f : Nat → State → List Byte) : Reader := fun k s => .bytes (f k s)
/-- A field of node h = k + 1. -/
def rdNode (f : Node → Nat) : Reader := fun k s => .num (f (nodeAt (k + 1) s))
/-- A field of position k. -/
def rdCell (f : Cell → Nat) : Reader := fun k s => .num (f (cellAt k s))
/-- A field of context k. -/
def rdCtx (f : Ctx → Nat) : Reader := fun k s => .num (f (ctxAt k s))
/-- A field of the learned record of position k. -/
def rdLearn (f : Learned → Nat) : Reader := fun k s => .num (f (learnedAt k s))

/-- Tables 2-13, 2-14, 3-5 and 3-6. -/
def readChain : List (Entry × Reader) := [
  (Ent.CHN_STATE, rdN fun s => chainStateCode s.chain.state),
  (Ent.CHN_SWEEP_CTR, rdN fun s => s.chain.sweepCtr),
  (Ent.CHN_LAST_INSTANT, rdT fun s => s.chain.lastInstant),
  (Ent.CHN_SWEEP_FLAGS, rdN sweepFlagBits),
  (Ent.CHN_BREAK_LO, rdN fun s => s.chain.breakLo),
  (Ent.CHN_BREAK_HI, rdN fun s => s.chain.breakHi),
  (Ent.CHN_EFF_PERIOD, rdN fun s => s.chain.effPeriod),
  (Ent.CHN_H_MAX, rdN fun s => s.chain.hmax),
  (Ent.CHN_CRC_ERR_A, rdN fun s => s.chain.crcErrA),
  (Ent.CHN_CRC_ERR_B, rdN fun s => s.chain.crcErrB),
  (Ent.CHN_MIC_ERR, rdN fun s => s.chain.micErr),
  (Ent.CHN_SPLIT_SWEEPS, rdN fun s => s.chain.splitSweeps),
  (Ent.CHN_CHAN_ACTIVE, rdN fun s => s.chain.chA * 256 + s.chain.chB),
  (Ent.CHN_MIN_PERIOD, rdN fun s => minPeriodCfg (nodeCount s) (cfgN Ent.CHN_SPLIT s)),
  (Ent.CHN_NODE_ID, rdNode (·.id)),
  (Ent.CHN_NODE_STATE, rdNode fun x => nodeStateCode x.state),
  (Ent.CHN_NODE_HOP_B, rdNk fun k s => hopB (k + 1) s),
  (Ent.CHN_NODE_CELLS, rdNode (·.cells)),
  (Ent.CHN_NODE_RSSI, rdIk fun k s => (nodeAt (k + 1) s).rssi),
  (Ent.CHN_NODE_LAST_SWEEP, rdNode (·.lastSweep)),
  (Ent.CHN_NODE_STATUS, rdNode (·.status)),
  (Ent.CHN_NODE_FW, rdNode (·.fw))]

/-- Tables 3-5 and 3-6. -/
def readCells : List (Entry × Reader) := [
  (Ent.STR_BAL_ACTIVE, rdN fun s => ((positions s).filter fun n => (cellAt n s).duty > 0).length),
  (Ent.STR_LEAD_FAULTS, rdN fun s => ((positions s).filter fun n => (cellAt n s).leadFlt).length),
  (Ent.STR_MAP_STATE, rdN fun s => mapStateCode s.cells.map),
  (Ent.CELL_VOLTAGE, rdCell (·.v)),
  (Ent.CELL_V_QUAL, rdCell fun c => qualByte c.vq),
  (Ent.CELL_TEMP, rdIk fun k s => (cellAt k s).t),
  (Ent.CELL_T_QUAL, rdCell fun c => qualByte c.tq),
  (Ent.CELL_INSTANT, rdTk fun k s => (cellAt k s).instant),
  (Ent.CELL_V_RAW, rdCell (·.raw)),
  (Ent.CELL_V_CORR, rdIk fun k s => (cellAt k s).corr),
  (Ent.CELL_NODE, rdCell (·.node)),
  (Ent.CELL_INPUT, rdCell (·.input)),
  (Ent.CELL_BAL_DUTY, rdCell (·.duty)),
  (Ent.CELL_LEAD_SRC_LO, rdCell fun c => leadSrcCode c.srcLo),
  (Ent.CELL_LEAD_SRC_HI, rdCell fun c => leadSrcCode c.srcHi),
  (Ent.CELL_FAULT, rdNk cellFault)]

/-- Table 4-5. -/
def readEst : List (Entry × Reader) := [
  (Ent.EST_STATE, rdN fun s => estStateCode (estStateOf s)),
  (Ent.EST_STR_SOC, rdN fun s => strSocNow s),
  (Ent.EST_STR_UNC, rdN fun s => s.est.strUnc),
  (Ent.EST_REST_STATE, rdN fun s => (restStateOf s).code),
  (Ent.EST_REST_TIMER, rdN fun s => s.est.restT),
  (Ent.EST_I_FRAME, rdI fun s => s.est.iFrame),
  (Ent.EST_I_SOURCE, rdN fun s => iSourceCode s.est.source),
  (Ent.EST_FLAGS, rdN estFlagsOf),
  (Ent.TBL_CACHE_USED, rdN fun s => ((List.range 16).filter fun k => setState k s == .cached).length),
  (Ent.TBL_CRC, rdNk setCrc),
  (Ent.TBL_STATE, rdNk fun k s => tblStateCode (setState k s)),
  (Ent.TBL_USERS, rdNk fun k s => ((positions s).filter fun n => tsetOf n s == k).length)]

/-- Table 4-6. -/
def readCtx : List (Entry × Reader) := [
  (Ent.EST_SOC_INT, rdNk fun n s => (pubSoc (ctxAt n s).socInt n s).getD 65535),
  (Ent.EST_SOC_REP, rdNk fun n s => (repSoc n s).getD 65535),
  (Ent.EST_SOC_UNC, rdNk pubUnc),
  (Ent.EST_CAP, rdCtx (·.cap)),
  (Ent.EST_CAP_AGE, rdNk fun n s => min 4294967295 (opNow s - (ctxAt n s).capTime)),
  (Ent.EST_RDC, rdNk fun n s => (divRound (ctxAt n s).rdc 256).toNat),
  (Ent.EST_RDC_T, rdNk fun n s => (rdcAtTemp n s).toNat),
  (Ent.EST_SOH_C, rdCtx (·.sohC)),
  (Ent.EST_SOH_R, rdCtx (·.sohR)),
  (Ent.EST_TEMP, rdIk tempOf),
  (Ent.EST_ANCHOR_AGE, rdNk anchorAge),
  (Ent.EST_QUAL, rdNk qualOf),
  (Ent.EST_RESID, rdIk fun n s => (ctxAt n s).resid),
  (Ent.EST_R_COUNT, rdCtx (·.rCount)),
  (Ent.EST_CONTEXT, rdOk ctxBytes)]

/-- Tables 5-5 to 5-7. -/
def readIdent : List (Entry × Reader) := [
  (Ent.EST_LIFE_MIN_DAYS, rdN fun s => s.ident.lifeMin),
  (Ent.EST_STALE_COUNT, rdN fun s => ((List.range 256).filter fun n => (learnedAt n s).stale).length),
  (Ent.EST_CAP_N, rdLearn (·.capN)),
  (Ent.EST_CAP_LAST, rdLearn (·.capLast)),
  (Ent.EST_AGE, rdNk fun n s => min 4294967295 (opNow s - (learnedAt n s).firstSeen)),
  (Ent.EST_THRU, rdLearn fun r => min 4294967295 (r.thru / 3600000)),
  (Ent.EST_EFC, rdNk fun n s => efcOf (learnedAt n s) s),
  (Ent.EST_R_BOL, rdLearn fun r => (divRound r.rBol 256).toNat),
  (Ent.EST_LIFE_DAYS, rdNk fun n s => (lpAt n s).lifeDays),
  (Ent.EST_LIFE_EFC, rdNk fun n s => (lpAt n s).lifeEfc),
  (Ent.EST_LEARNED, rdOk fun n s => learnedBytes (learnedAt n s)),
  (Ent.EST_LEARN_STATE, rdNk fun n s => learnStateCode (learnStateOf n s)),
  (Ent.EST_LEARN_LAST, rdNk fun n s => (lpAt n s).last),
  (Ent.CELL_MOD_ID, rdLearn (·.modId)),
  (Ent.CELL_GEN, rdLearn (·.gen))]

/-- Tables 6-8 and 6-9. -/
def readCvt : List (Entry × Reader) := [
  (Ent.CVT_STAGE_ID, rdN fun s => s.link.stage.id),
  (Ent.CVT_STAGE_PHASES, rdN fun s => s.link.stage.phases),
  (Ent.CVT_STAGE_FSW_MIN, rdN fun s => s.link.stage.fswMin),
  (Ent.CVT_STAGE_FSW_MAX, rdN fun s => s.link.stage.fswMax),
  (Ent.CVT_STAGE_I_RATED, rdN fun s => s.link.stage.iRated),
  (Ent.CVT_STAGE_VBUS_MAX, rdI fun s => s.link.stage.vbusMax),
  (Ent.CVT_STAGE_VSTR_MAX, rdI fun s => s.link.stage.vstrMax),
  (Ent.CVT_IPH_LSB, rdN fun s => s.link.stage.iphLsb),
  (Ent.CVT_STAGE_FW, rdN fun s => s.link.stage.fw),
  (Ent.CVT_STAGE_FAULTS, rdN fun s => s.link.stage.faults),
  (Ent.CVT_LINK_STATE, rdN fun s => laneStateCode s.link.lane0 + 16 * laneStateCode s.link.lane1),
  (Ent.CVT_LANE_ACTIVE, rdN laneActive),
  (Ent.CVT_TB_STATE, rdN fun s => tbStateCode s.tb.state),
  (Ent.CVT_TB_PHASE_ERR, rdI fun s => s.tb.phaseErr),
  (Ent.CVT_PWM_PERIOD, rdN fun s => s.tb.period),
  (Ent.CVT_DUTY_SEQ, rdN fun s => s.link.seq),
  (Ent.CVT_DUTY_APPLIED, rdN fun s => s.link.last.duty),
  (Ent.CVT_PHASE_EN, rdN fun s => s.link.last.en),
  (Ent.CVT_PHASE_FAULTED, rdN fun s => s.link.faulted),
  (Ent.CVT_V_STRING, rdI fun s => s.link.mean.vStr),
  (Ent.CVT_V_BUS, rdI fun s => s.link.mean.vBus),
  (Ent.CVT_I_STAGE, rdI fun s => s.link.mean.iStr),
  (Ent.CVT_I_PHASE, rdO fun s => s.link.mean.iPh.flatMap (toBytesS 4)),
  (Ent.CVT_HS_TEMP, rdO fun s => s.link.sample.tHs.flatMap (toBytesS 2)),
  (Ent.CVT_IMBALANCE, rdO fun s => s.tb.imbPhase.flatMap (toBytes 2)),
  (Ent.CVT_SAMPLE_LATE, rdN fun s => s.link.late),
  (Ent.CVT_SAMPLE_CRC_ERR, rdN fun s => s.link.crcErr),
  (Ent.CVT_DSEQ_ERR, rdN fun s => s.link.dseqErr)]

/-- Tables 6-10, 7-7 and 7-8. -/
def readUnits : List (Entry × Reader) := [
  (Ent.CU_ENGINE_STATE, rdN fun s => engStateCode s.link.engine),
  (Ent.CU_COMPUTE_MAX, rdN fun s => s.link.computeMax),
  (Ent.CU_FENCED_MASK, rdN fun s => bitMap 8 fun u => (cuAt u s).state == .fenced),
  (Ent.CU_STATE, rdNk fun u s => cuStateCode (cuAt u s).state),
  (Ent.CU_WRAPS, rdNk fun u s => (cuAt u s).wraps),
  (Ent.CU_SNAPSHOT, rdOk fun u s => cuSnapshot (cuAt u s)),
  (Ent.CU_OUT, rdIk fun u s => (cuAt u s).out),
  (Ent.SP_MODE, rdN fun s => s.sp.mode.code),
  (Ent.SP_STATE, rdN fun s => spStateOf (s.prot.result == .running) s),
  (Ent.SP_STATUS, rdN spStatusOf),
  (Ent.SP_RAMP_VALUE, rdI fun s => divRound s.sp.r 65536),
  (Ent.SP_I_REF, rdI fun s => s.sp.iRef),
  (Ent.SP_V_REF, rdI fun s => s.sp.vRef),
  (Ent.SP_I_BUS, rdI fun s => s.sp.iBus),
  (Ent.SP_AI_X, rdI fun s => s.sp.ai.y),
  (Ent.SP_PI_X, rdI fun s => s.sp.pi.y),
  (Ent.SP_PHASES_ON, rdN fun s => phaseCount s.sp.en),
  (Ent.SP_LOAD_STEPS, rdN fun s => s.sp.loadSteps)]

/-- Tables 8-5 and 8-6. -/
def readProt : List (Entry × Reader) := [
  (Ent.PROT_STATE, rdN protState),
  (Ent.PROT_CAUSE, rdN fun s => s.prot.cause),
  (Ent.PROT_SEQ, rdN fun s => s.prot.seq.code),
  (Ent.PROT_SEQ_STEP, rdN fun s => s.prot.step),
  (Ent.PROT_SEQ_RESULT, rdN fun s => s.prot.result.code),
  (Ent.PROT_SEQ_RESUMED, rdB fun s => s.prot.resumed),
  (Ent.PROT_SEQ_JSEQ, rdN fun s => s.prot.seqJ),
  (Ent.PROT_COILS, rdN coilsOf),
  (Ent.PROT_BREAKS, rdN fun s => s.prot.breaks),
  (Ent.PROT_K_OPS, rdN fun s => s.prot.kOps),
  (Ent.PROT_TM_DEMAND, rdN fun s => s.prot.tmD),
  (Ent.DSP_P_GRANT, rdI fun s => s.dsp.pGrant),
  (Ent.DSP_I_GRANT, rdI fun s => s.dsp.iGrant),
  (Ent.DSP_I_DIS_LIM, rdN fun s => s.prot.dis.toNat),
  (Ent.DSP_I_CHG_LIM, rdN fun s => s.prot.chg.toNat),
  (Ent.DSP_P_DIS_AVAIL, rdI fun s => s.prot.pDis),
  (Ent.DSP_P_CHG_AVAIL, rdI fun s => s.prot.pChg),
  (Ent.DSP_E_DIS_AVAIL, rdN fun s => s.prot.eDis),
  (Ent.DSP_E_CHG_AVAIL, rdN fun s => s.prot.eChg),
  (Ent.DSP_REST_REQ, rdN fun s => s.dsp.restReq),
  (Ent.DSP_REST_REMAIN, rdN restRemain)]

/-- Table 9-12. -/
def readSaf : List (Entry × Reader) := [
  (Ent.SAF_STATE, rdN fun s => s.saf.state.code),
  (Ent.SAF_ADDR, rdN fun s => s.saf.addr),
  (Ent.SAF_DIP, rdN fun s => s.saf.dip),
  (Ent.SAF_LAN_MODE, rdB oneLan),
  (Ent.SAF_DEMAND, rdN fun s => demandByte s.saf.demand),
  (Ent.SAF_LATCH_CAUSE, rdN fun s => s.saf.cause),
  (Ent.SAF_PARAM_CRC, rdN paramCrc),
  (Ent.SAF_TR_IS, rdN (reaction .is)),
  (Ent.SAF_TR_OV, rdN (reaction .ov)),
  (Ent.SAF_TR_UV, rdN (reaction .uv)),
  (Ent.SAF_TR_OT, rdN (reaction .ot)),
  (Ent.SAF_TR_OC, rdN (reaction .oc)),
  (Ent.SAF_TR_MS, rdN (reaction .ms)),
  (Ent.SAF_RESET_LAST, rdN fun s => s.saf.resetLast.code),
  (Ent.SAF_RESET_COUNT, rdN fun s => s.saf.resetCount),
  (Ent.SAF_FRAMES_OK, rdN fun s => s.saf.ok),
  (Ent.SAF_FRAMES_BAD, rdN fun s => s.saf.bad),
  (Ent.SAF_COPY_MISMATCH, rdN fun s => s.saf.mismatch),
  (Ent.SAF_SINGLE_COPY, rdN fun s => s.saf.single),
  (Ent.SAF_WD_EXPIRED, rdN fun s => s.saf.wdCount)]

/-- Tables 10-12 to 10-14. -/
def readSes : List (Entry × Reader) := [
  (Ent.SYS_VENDOR, rdO fun _ => textBytes "Krytveval"),
  (Ent.SYS_PRODUCT, rdO fun _ => textBytes "VS2560"),
  (Ent.SYS_HW_ISSUE, rdN fun _ => Config.hwIssue.toNat),
  (Ent.SYS_SERIAL, rdO fun _ => Config.serial),
  (Ent.SYS_FW_PACKAGE, rdN fun s => bankField s.fw.running 4 4 s),
  (Ent.SYS_DICT_VERSION, rdN fun _ => 0x0100),
  (Ent.SYS_PLANT_ADDR, rdN fun s => s.sys.plantAddr),
  (Ent.SYS_CHASSIS, rdN fun s => s.sys.plantAddr / 16),
  (Ent.SYS_SLOT, rdN fun s => s.sys.plantAddr % 16),
  (Ent.SYS_TIER, rdN fun s => s.sys.tier.code),
  (Ent.TIME_NOW, rdT fun s => s.now),
  (Ent.TIME_OP_SECONDS, rdN fun s => s.sys.opSec),
  (Ent.TIME_POWER_CYCLES, rdN fun s => s.sys.pcyc),
  (Ent.TIME_UPTIME, rdN fun s => s.sys.upMs / 1000),
  (Ent.TIME_FRAME_CTR, rdN fun s => s.sys.frames),
  (Ent.SES_COUNT, rdN fun s => s.ses.open_.length),
  (Ent.SES_TABLE, rdO sesTable),
  (Ent.SES_JSEQ, rdN fun s => s.ses.jseq),
  (Ent.SES_JOURNAL_FREE, rdN journalFree),
  (Ent.SES_IDLE_PEND, rdN fun s => s.ses.idle.length),
  (Ent.SES_IDLE_LAST, rdN fun s => s.ses.idleLast),
  (Ent.SES_IDLE_ENTRY, rdN fun s => s.ses.idleEntry),
  (Ent.SES_GAPS, rdN fun s => s.ses.gaps),
  (Ent.SES_REPLAYS, rdN fun s => s.ses.replays),
  (Ent.SES_CRC_ERR, rdN fun s => s.ses.crcErr)]

/-- Tables 11-3 and 11-4. -/
def readNet : List (Entry × Reader) := [
  (Ent.NET_MAC, rdO fun _ => Config.mac),
  (Ent.NET_IP_ACTIVE, rdN fun s => s.net.ip),
  (Ent.NET_SVC_MAC, rdO svcMac),
  (Ent.NET_LINK, rdN netLink),
  (Ent.NET_LAN_STATE, rdN netLanState),
  (Ent.NET_PORT_STATS, rdO portStats),
  (Ent.NET_PRP_STATS, rdO prpStats),
  (Ent.NET_DROP_NOBUF, rdN fun s => s.net.dropNoBuf),
  (Ent.NET_CELLS_FREE, rdN cellsFree),
  (Ent.NET_DHCP_LEASE, rdN fun s => (s.net.leaseEnd.map fun t => (t - s.now) / 1000000000).getD 0),
  (Ent.PTP_STATE, rdN fun s => s.ptp.state.code),
  (Ent.PTP_REF, rdN fun s => s.ptp.ref.getD 0xFF),
  (Ent.PTP_OFFSET, rdI fun s => s.ptp.offset),
  (Ent.PTP_FREQ, rdI fun s => s.ptp.freq),
  (Ent.PTP_GM_P, rdN (gmOf 0)),
  (Ent.PTP_GM_S, rdN (gmOf 2)),
  (Ent.PTP_INST_STATE, rdN instState),
  (Ent.PTP_LINK_DELAY, rdO linkDelays),
  (Ent.PTP_UTC_OFFSET, rdI utcOffset),
  (Ent.PTP_DOM_OFFSET, rdI fun s => (domDiff s).getD 0),
  (Ent.PTP_HOLDOVER_S, rdN fun s => s.ptp.holdMs / 1000),
  (Ent.PTP_STEP_MS, rdI fun s => s.ptp.stepMs),
  (Ent.PTP_REF_CHANGES, rdN fun s => s.ptp.changes)]

/-- Tables 12-5, 12-6 and 13-7. -/
def readField : List (Entry × Reader) := [
  (Ent.CAN_STATE, rdNk canState),
  (Ent.CAN_TEC, rdNk fun c s => (chan c s).tec),
  (Ent.CAN_REC, rdNk fun c s => (chan c s).rec_),
  (Ent.CAN_MB_IMAGE, rdOk mbImage),
  (Ent.CAN_ND_MAP, rdNk fun c s => (chan c s).nd),
  (Ent.CAN_STATS, rdOk canStats),
  (Ent.CAN_LAST_ERROR, rdNk fun c s => (chan c s).lastErr),
  (Ent.CAN_WAKE_CAUSE, rdNk fun c s => (chan c s).wakeCause),
  (Ent.DIO_DI_STATE, rdN fun s => bitMap 32 fun n => diState n s),
  (Ent.DIO_DI_VALID, rdN fun s => bitMap 32 fun n => diValid n s),
  (Ent.DIO_DI_RAW, rdN fun s => bitMap 32 fun n => (diAt n s).raw),
  (Ent.DIO_DI_DIAG, rdO fun s => (List.range 32).flatMap fun n => toBytes 1 (diDiag n s)),
  (Ent.DIO_DQ_STATE, rdN fun s => bitMap 16 fun k => dqOn k s),
  (Ent.DIO_DQ_DIAG, rdO fun s => (List.range 16).flatMap fun k => toBytes 1 (dqDiag k s)),
  (Ent.DIO_DQ_CURRENT, rdO (currentsOf false 16)),
  (Ent.DIO_SQ_STATE, rdN sqStateOf),
  (Ent.DIO_SQ_DIAG, rdO fun s => (List.range 4).flatMap fun k => toBytes 1 (sqDiag k s)),
  (Ent.DIO_SQ_CURRENT, rdO (currentsOf true 4)),
  (Ent.DIO_SQ_TESTS, rdN fun s => s.dio.tests),
  (Ent.DIO_VF, rdI fun s => s.dio.vf),
  (Ent.DIO_VF_STATE, rdN fun s => s.dio.vfState.code),
  (Ent.DIO_GROUP_FENCED, rdN groupFenced)]

/-- Tables 14-10 and 15-9. -/
def readSys : List (Entry × Reader) := [
  (Ent.SYS_RESET_CAUSE, rdN fun s => causeCode s.sys.cause),
  (Ent.SYS_RESET_TIME, rdT fun s => s.sys.resetAt),
  (Ent.SYS_RESET_COUNT, rdN fun s => s.sys.resets),
  (Ent.SYS_TIER_TIMES, rdO fun s => [s.sys.guardMs, s.sys.watchMs, s.sys.limitedMs, s.sys.fullMs].flatMap fun x => toBytes 4 (x.getD 0xFFFFFFFF)),
  (Ent.SYS_TIER_BLOCK, rdN fun s => s.sys.block),
  (Ent.SYS_SELFTEST, rdN fun s => s.sys.selftest),
  (Ent.SYS_CAL_LAST, rdT fun s => s.sys.calLast),
  (Ent.SYS_HIB_STATE, rdB fun s => s.sys.hibernating),
  (Ent.SYS_BOOT_BANK, rdN fun s => s.sys.bootBank),
  (Ent.PAIR_MODE, rdB fun s => s.pair.paired),
  (Ent.PAIR_ID, rdN pairId),
  (Ent.PAIR_ROLE, rdN fun s => roleCode s.pair.role),
  (Ent.PAIR_PARTNER_ROLE, rdN fun s => (s.pair.partner.map roleCode).getD 0xFF),
  (Ent.PAIR_EPOCH, rdN fun s => s.pair.epoch),
  (Ent.PAIR_LEASE_STATE, rdN fun s => leaseStateCode s.pair.lease),
  (Ent.PAIR_LEASE_LEFT, rdN leaseLeft),
  (Ent.PAIR_MIRROR_STATE, rdN fun s => b2n s.pair.mir0 + 2 * b2n s.pair.mir1 + 4 * b2n s.pair.alive),
  (Ent.PAIR_WITNESS_SEEN, rdN fun s => b2n s.pair.witBus + 2 * b2n s.pair.witNet),
  (Ent.PAIR_READY, rdB pairReady),
  (Ent.PAIR_LANE_HELD, rdB fun s => s.pair.laneHeld),
  (Ent.PAIR_FENCE, rdN fun s => b2n s.pair.fenceIn + 2 * b2n s.pair.fenceOut),
  (Ent.PAIR_FAILOVERS, rdN fun s => s.pair.failovers),
  (Ent.PAIR_LAST_FAILOVER, rdT fun s => s.pair.lastFailover),
  (Ent.PAIR_LAST_GAP, rdN fun s => s.pair.lastGap),
  (Ent.PAIR_SERVED, rdO servedBytes)]

/-- Tables 16-5 and 17-3. -/
def readFw : List (Entry × Reader) := [
  (Ent.FW_STATE, rdN fun s => fwStateCode s.fw.state),
  (Ent.FW_BLOCK_NEXT, rdN fun s => s.fw.block),
  (Ent.FW_BLOCKS, rdN deltaBlocks),
  (Ent.FW_TARGET_PKG, rdN deltaTarget),
  (Ent.FW_BANK_ACTIVE, rdN bankActive),
  (Ent.FW_BANK_PKG, rdO bankPkg),
  (Ent.FW_SCHEMA, rdN runningSchema),
  (Ent.FW_RUNNING_PAIR, rdN fun s => s.fw.pairNo),
  (Ent.FW_PROBATION, rdN fun s => s.fw.probation),
  (Ent.FW_LAST_RESULT, rdN fun s => fwResultCode s.fw.last),
  (Ent.FW_ACTIVATIONS, rdN fun s => s.fw.activations),
  (Ent.MEM_LAP_TIMES, rdO (regionWords (·.lapTime))),
  (Ent.MEM_CORRECTED, rdO (regionWords (·.corrected))),
  (Ent.MEM_CHECKBIT, rdO (regionWords (·.checkbit))),
  (Ent.MEM_UNCORR, rdO (regionWords (·.uncorr))),
  (Ent.MEM_LAST_ERROR, rdO lastErrorBytes),
  (Ent.MEM_SPARES_FUSED, rdN fun _ => Config.sparesFused),
  (Ent.MEM_SPARES_SOFT, rdN fun s => s.mem.applied),
  (Ent.MEM_SPARES_PENDING, rdN fun s => s.mem.pending),
  (Ent.MEM_SPARES_FREE, rdN sparesFree),
  (Ent.MEM_SOFT_MAP, rdO softMapBytes)]

/-- Tables 18-6, 19-5 and 22-6. -/
def readSup : List (Entry × Reader) := [
  (Ent.REC_DATA, rdO recData),
  (Ent.REC_STATE, rdN recStateCode),
  (Ent.REC_HOLD_LEFT, rdN holdLeft),
  (Ent.REC_HOLD_SES, rdN fun s => s.recd.holdSes),
  (Ent.REC_LAST_COMMIT, rdN fun s => s.recd.lastCommit),
  (Ent.REC_INVALID, rdN fun s => s.recd.invalid),
  (Ent.REC_SATURATED, rdN fun s => (saturated s).length),
  (Ent.REC_LOST_S, rdN fun s => s.recd.lost),
  (Ent.REC_LAYOUT, rdN fun _ => 0x0100),
  (Ent.SUP_DIE_TEMP, rdI fun s => s.sup.dieTemp),
  (Ent.SUP_DIE_RATE, rdI fun s => s.sup.dieRate),
  (Ent.SUP_DIE_STATE, rdB (isActive 0x1001 wide)),
  (Ent.SUP_SHUTDOWNS, rdN fun s => s.sup.shutdowns),
  (Ent.SUP_LAST_SHUTDOWN, rdT fun s => s.sup.lastShutdown),
  (Ent.SUP_HOLDUP_E, rdN fun s => s.sup.holdE),
  (Ent.SUP_HOLDUP_T, rdN fun s => s.sup.holdT),
  (Ent.SUP_HOLDUP_C, rdN fun s => s.sup.holdC),
  (Ent.SUP_VBP, rdI fun s => s.sup.vbp),
  (Ent.SUP_VBP_STATE, rdN fun s => vbpStateCode s.sup.vbpState),
  (Ent.SUP_FENCED, rdN fencedMap),
  (Ent.SUP_FENCE_CAUSE, rdO fun s => s.sup.cause.toList.flatMap (toBytes 2)),
  (Ent.SUP_FRZ_STATE, rdB fun s => s.sup.frz != .idle),
  (Ent.SUP_FREEZES, rdN fun s => s.sup.freezes),
  (Ent.SUP_IDCODE, rdN fun _ => Config.idcode),
  (Ent.SUP_SCAN_MAP, rdO fun _ => (List.range 10).flatMap fun i => toBytes 4 (Config.scanMap i)),
  (Ent.FLT_SUMMARY, rdN fltSummary),
  (Ent.FLT_ACTIVE_COUNT, rdN fun s => min 65535 s.flt.active.length),
  (Ent.FLT_ACTIVE, rdO fltActive),
  (Ent.FLT_ACTIVE_OVERFLOW, rdB fun s => decide (s.flt.active.length > 64)),
  (Ent.FLT_LOG, rdO fltLog),
  (Ent.FLT_LOG_SEQ, rdN fun s => s.flt.logSeq),
  (Ent.FLT_LOG_ENTRIES, rdN fun s => s.flt.log.length),
  (Ent.FLT_SUPPRESSED, rdN fun s => s.flt.suppressed)]

/-- Entries of other classes that read something else than their stored value: dispatch requests as last taken (R206), and the
classes of the outputs that protection uses (R328). -/
def readOther : List (Entry × Reader) := [
  (Ent.DSP_P_REQ, rdI fun s => s.dsp.pReq),
  (Ent.DSP_I_REQ, rdI fun s => s.dsp.iReq),
  (Ent.DIO_SQ_CLASS, rdN sqClass)]

/-- Every entry whose value is worked out of the state. -/
def roTable : List (Entry × Reader) :=
  readChain ++ readCells ++ readEst ++ readCtx ++ readIdent ++ readCvt ++ readUnits ++ readProt ++ readSaf ++ readSes ++ readNet ++
  readField ++ readSys ++ readFw ++ readSup ++ readOther

/-- Find the reader of an entry. -/
def readerIn (e : Entry) : List (Entry × Reader) → Option Reader
  | [] => none
  | (x, f) :: xs => if x.index == e.index && x.sub == e.sub then some f else readerIn e xs

/-- The value of instance k of an entry as a read sees it: the value in force (R245, R260). -/
def readVal (e : Entry) (k : Nat) (s : State) : Val :=
  match readerIn e roTable with
  | some f => f k s
  | none => cfgVal e k s

/-- The bytes of that value. -/
def readBytes (e : Entry) (k : Nat) (s : State) : List Byte := encodeVal e.ty (readVal e k s)

/-! ### DESCRIBE -/

/-- The UTF-8 bytes of a text (Table 10-1). -/
def utf8 (t : String) : List Byte := t.toUTF8.data.toList.map fun b => BitVec.ofNat 8 b.toNat

/-- The smallest and the greatest number of a type. -/
def tyLimits (t : Ty) : Int × Int :=
  let n := 8 * (tyLen t).getD 0
  if tySigned t then (-(2 ^ (n - 1)), 2 ^ (n - 1) - 1) else (0, 2 ^ n - 1)

/-- MIN and MAX of a numeric entry. -/
def rangeLimits (e : Entry) : Int × Int :=
  match e.range with
  | .any => tyLimits e.ty
  | .between lo hi => (lo, hi)
  | .zeroOr lo hi => (min 0 lo, hi)
  | .orVal v lo hi => (min v lo, max v hi)
  | .length _ _ => tyLimits e.ty

/-- A field of DESCRIBE: a U8 length and its bytes. -/
def shortField (bs : List Byte) : List Byte := toBytes 1 (bs.take 255).length ++ bs.take 255

/-- DEFAULT, MIN and MAX; of a STR or OCTETS entry the manual states no limits, and no default of more than 255 bytes fits (log 44). -/
def describeLimits (e : Entry) : List Byte :=
  if (tyLen e.ty).isSome then
    shortField (encodeVal e.ty e.dflt) ++ shortField (encodeVal e.ty (.num (rangeLimits e).1)) ++
    shortField (encodeVal e.ty (.num (rangeLimits e).2))
  else
    let a := entryAddr e
    shortField (if (valBytes e.dflt).length ≤ 255 then valBytes e.dflt else Config.describeField a 0) ++
    shortField (Config.describeField a 1) ++ shortField (Config.describeField a 2)

/-- The reply payload of DESCRIBE (Table 10-6). -/
def describeBytes (e : Entry) : List Byte :=
  toBytes 1 (tyCode e.ty) ++ toBytes 1 (accessCode e.access) ++ toBytes 1 (persistCode e.persist) ++ [0] ++
  shortField (utf8 e.name) ++ shortField (utf8 e.unit) ++ describeLimits e

end Sys2Proof.Machine
end

