-- ==== Sys2Proof/Machine/Rules.lean ====
section
/-! DEFINITION. The rules that link entries (R261 check 2), each from the chapter that owns it, and what an owner lets change only
while PARKED (R261 check 3). -/
namespace Sys2Proof.Machine
open Sys2Proof

/-! ### Rules that link entries -/

/-- A rule that links entries: the entries and instances it is about, and what must hold of the values in force. -/
structure LinkRule where
  on : Entry → Nat → Bool
  ok : State → Bool

/-- The rule is about every instance of these entries. -/
def about (es : List Entry) : Entry → Nat → Bool := fun e _ => es.any fun x => x.index == e.index && x.sub == e.sub

/-- Entries strictly rise in this order. -/
def rising (es : List Entry) : LinkRule :=
  { on := about es, ok := fun s => increasing (es.map fun e => cfg e s) }

/-- The entries of a table set that its check reads (R87). -/
def setEntries : List Entry := Ent.TBL_DATA :: taxisEntries ++ rfactEntries

/-- The periods of R156. -/
def ptpFreqs : List Nat :=
  [10000, 12500, 12800, 15625, 16000, 20000, 25000, 31250, 32000, 40000, 50000, 62500, 64000, 78125, 80000, 100000]

/-- A mask is contiguous (Table 11-3). -/
def maskOk (m : Nat) : Bool := (List.range 33).any fun k => m + 2 ^ k == 2 ^ 32

/-- NET_IP + 511 lies in the subnet of NET_IP (R275). -/
def subnetOk (ip m : Nat) : Bool :=
  let size := 2 ^ 32 - m
  ip + 511 < 2 ^ 32 && ip / size == (ip + 511) / size

/-- Each corner settles within half the configured sweep period (R50). -/
def cornersOk (s : State) : Bool :=
  let fits (c : Nat) : Bool := 2 * settlingUs c ≤ cfgN Ent.CHN_SWEEP_PERIOD s * 1000
  fits (cfgN Ent.CHN_FILTER_CORNER s) &&
  (List.range 32).all fun k => let c := cfgN Ent.CHN_NODE_CORNER s k; c == 4 || fits c

/-- The three units of CVT_CU_MAP are 0 to 7 and distinct (Table 6-9). -/
def cuMapOk (m : Nat) : Bool :=
  let v := m % 16
  let d := m / 16 % 16
  let c := m / 256
  v < 8 && d < 8 && c < 8 && v != d && v != c && d != c

/-- Debounce times and sample intervals (R312, R315). -/
def debounceOk (s : State) : Bool :=
  ((List.range 4).all fun g => 5 ≤ diInterval g s && diInterval g s ≤ 1000) &&
  (List.range 32).all fun n => 10 ≤ diDebounce n s && 2 * diInterval (n / 8) s ≤ diDebounce n s

/-- Four asymmetries within ±10,000 ns (Table 11-4). -/
def asymOk (s : State) : Bool :=
  (List.range 4).all fun p => let x := fieldS (cfgBytes Ent.PTP_ASYM s) (4 * p) 4; -10000 ≤ x && x ≤ 10000

/-- The CAN entries whose values the rules of chapter 12 read. -/
def canEntries : List Entry :=
  [Ent.CAN_FD, Ent.CAN_NBR, Ent.CAN_NSP, Ent.CAN_NSJW, Ent.CAN_DBR, Ent.CAN_DSP, Ent.CAN_DSJW, Ent.CAN_WAKE_MODE, Ent.CAN_FILTERS,
   Ent.CAN_MB_CFG]

/-- Rules of the chain, the estimator and the converter. DEDUCED (log 45): R24 as a rule on the two channels. -/
def linkRulesA : List LinkRule := [
  { on := about [Ent.CHN_NODE_COUNT, Ent.CHN_SPLIT], ok := fun s => splitOk (nodeCount s) (cfgN Ent.CHN_SPLIT s) },
  { on := about [Ent.CHN_SWEEP_PERIOD, Ent.CHN_NODE_COUNT, Ent.CHN_SPLIT]
    ok := fun s => minPeriodCfg (nodeCount s) (cfgN Ent.CHN_SPLIT s) ≤ cfgN Ent.CHN_SWEEP_PERIOD s },
  { on := about [Ent.CHN_SWEEP_PERIOD, Ent.CHN_FILTER_CORNER, Ent.CHN_NODE_CORNER], ok := cornersOk },
  { on := about [Ent.CHN_CHAN_A, Ent.CHN_CHAN_B], ok := fun s => channelsOk (cfgN Ent.CHN_CHAN_A s) (cfgN Ent.CHN_CHAN_B s) },
  { on := about [Ent.CHN_SWEEP_PERIOD, Ent.PROT_SILENCE_T]
    ok := fun s => 2 * cfgN Ent.CHN_SWEEP_PERIOD s ≤ cfgN Ent.PROT_SILENCE_T s },
  { on := about [Ent.CHN_SWEEP_PERIOD], ok := fun s => 2 * cfgN Ent.CHN_SWEEP_PERIOD s ≤ cfgN Ent.SAF_SILENCE_T s },
  { on := about [Ent.EST_TSET], ok := fun s => (setsInUse s).length ≤ 10 },
  { on := about [Ent.CVT_PWM_FREQ, Ent.CVT_TB_SOURCE]
    ok := fun s => tbSource s != 2 || ptpFreqs.contains (cfgN Ent.CVT_PWM_FREQ s) },
  { on := about [Ent.CVT_DUTY_MIN, Ent.CVT_DUTY_MAX, Ent.SP_START_DUTY]
    ok := fun s => cfg Ent.CVT_DUTY_MIN s ≤ cfg Ent.CVT_DUTY_MAX s && cfg Ent.CVT_DUTY_MIN s ≤ cfg Ent.SP_START_DUTY s &&
      cfg Ent.SP_START_DUTY s ≤ cfg Ent.CVT_DUTY_MAX s },
  { on := about [Ent.CVT_IMB_WARN, Ent.CVT_IMB_SHED], ok := fun s => cfg Ent.CVT_IMB_WARN s ≤ cfg Ent.CVT_IMB_SHED s },
  { on := about [Ent.CVT_CU_MAP], ok := fun s => cuMapOk (cfgN Ent.CVT_CU_MAP s) },
  { on := about [Ent.SP_PI_F0, Ent.SP_PI_F1], ok := fun s => cfg Ent.SP_PI_F0 s != cfg Ent.SP_PI_F1 s },
  { on := about [Ent.SP_PHASE_MIN, Ent.CVT_PHASES]
    ok := fun s => cfgN Ent.CVT_PHASES s == 0 || cfgN Ent.SP_PHASE_MIN s ≤ cfgN Ent.CVT_PHASES s }]

/-- Rules of protection, network, bus and field (R190, R193 and the range columns that name another entry). -/
def linkRulesB : List LinkRule := [
  rising [Ent.PROT_OV_WARN, Ent.PROT_OV_LIMIT, Ent.PROT_OV_TRIP],
  rising [Ent.PROT_UV_TRIP, Ent.PROT_UV_LIMIT, Ent.PROT_UV_WARN],
  rising [Ent.PROT_OT_WARN, Ent.PROT_OT_LIMIT, Ent.PROT_OT_TRIP],
  rising [Ent.PROT_OC_DIS_WARN, Ent.PROT_I_DIS_MAX, Ent.PROT_OC_DIS_TRIP],
  rising [Ent.PROT_OC_CHG_WARN, Ent.PROT_I_CHG_MAX, Ent.PROT_OC_CHG_TRIP],
  rising [Ent.PROT_TD_START, Ent.PROT_OT_LIMIT],
  rising [Ent.PROT_T_CHG_MIN, Ent.PROT_T_CHG_FULL],
  rising [Ent.PROT_TM_T0, Ent.PROT_TM_T1, Ent.PROT_TM_T2, Ent.PROT_TM_T3],
  { on := about [Ent.PROT_TM_OFF, Ent.PROT_TM_ON], ok := fun s => cfg Ent.PROT_TM_OFF s ≤ cfg Ent.PROT_TM_ON s },
  { on := about [Ent.PROT_SQ_POS, Ent.PROT_SQ_NEG, Ent.PROT_SQ_PRE], ok := fun s => (protOutputs s).Nodup },
  { on := about [Ent.SES_CAN_REQ_ID, Ent.SES_CAN_RSP_ID], ok := fun s => cfg Ent.SES_CAN_REQ_ID s != cfg Ent.SES_CAN_RSP_ID s },
  { on := about [Ent.NET_MASK], ok := fun s => maskOk (cfgN Ent.NET_MASK s) },
  { on := about [Ent.NET_IP_MODE, Ent.NET_IP, Ent.NET_MASK]
    ok := fun s => cfg Ent.NET_IP_MODE s != 1 || subnetOk (cfgN Ent.NET_IP s) (cfgN Ent.NET_MASK s) },
  { on := about [Ent.PTP_DOMAIN_P, Ent.PTP_DOMAIN_S], ok := fun s => cfg Ent.PTP_DOMAIN_P s != cfg Ent.PTP_DOMAIN_S s },
  { on := about [Ent.PTP_ASYM], ok := asymOk },
  { on := about canEntries, ok := canRulesOk },
  { on := about [Ent.DIO_DI_INTERVAL, Ent.DIO_DI_DEBOUNCE], ok := debounceOk }]

/-- The check of R87 on each table set. -/
def linkRulesT : List LinkRule :=
  (List.range 16).map fun k => { on := fun e i => about setEntries e i && i == k, ok := setOk k }

/-- Every rule that links entries. -/
def linkRules : List LinkRule := linkRulesA ++ linkRulesB ++ linkRulesT

/-- The entry and instance of an address. -/
def entryAt (a : Nat) : Option (Entry × Nat) := findEntry (a / 256) (a % 256)

/-- The values in force with a set of values applied. -/
def overlay (set : List (Nat × Val)) (s : State) : State :=
  set.foldl (fun s x => match entryAt x.1 with | some (e, k) => setCfg e k x.2 s | none => s) s

/-- The first entry of a set for which a rule does not hold with the set applied (R261 check 2). -/
def linkFault (set : List (Nat × Val)) (s : State) : Option Nat :=
  let t := overlay set s
  (set.find? fun x => match entryAt x.1 with
    | some (e, k) => linkRules.any fun r => r.on e k && !r.ok t
    | none => false).map (·.1)

/-! ### What its owner lets change only while PARKED (R261 check 3) -/

/-- A value of a set differs from the value in force. -/
def changes (a : Nat) (v : Val) (s : State) : Bool :=
  match entryAt a with
  | some (e, k) => cfgVal e k s != v
  | none => false

/-- The sets in use whose data a change set replaces (R88). -/
def setsChanged (set : List (Nat × Val)) (s : State) : List Nat :=
  (setsInUse (overlay set s)).filter fun j => (setsInUse s).contains j && set.any fun x => match entryAt x.1 with
    | some (e, k) => about setEntries e k && k == j && cfgVal e k s != x.2
    | none => false

/-- The cache has a free slot for the new data of every set in use that changes (R88). -/
def slotsFree (set : List (Nat × Val)) (s : State) : Bool :=
  (setsInUse (overlay set s)).length + (setsChanged set s).length ≤ 10

/-- An entry of a change set that may not change while the string is not PARKED (R88, R154). -/
def needsIdle (set : List (Nat × Val)) (a : Nat) (v : Val) (s : State) : Bool :=
  match entryAt a with
  | some (e, k) =>
    if about [Ent.CVT_CU_MAP] e k then changes a v s
    else if about [Ent.CU_TYPE, Ent.CU_SHIFT] e k then mapped k s && changes a v s
    else if about setEntries e k then !slotsFree set s && (setsChanged set s).contains k
    else false
  | none => false

/-- The first entry of a set that needs the string PARKED. -/
def idleFault (set : List (Nat × Val)) (s : State) : Option Nat :=
  if parked s then none else (set.find? fun x => needsIdle set x.1 x.2 s).map (·.1)

end Sys2Proof.Machine
end

