-- ==== Sys2Proof/Machine/Apply.lean ====
section
/-! DEFINITION. What an accepted value or command does in the area that owns its entry (10_object_dictionary R245, R255, and the
owning chapters), and the checks by which a write or command is answered (Table 10-11). -/
namespace Sys2Proof.Machine
open Sys2Proof

/-! ### A value comes into force -/

/-- A new address must be probed before it is used (R275, log 46). -/
def dropAddress (s : State) : State := { s with net := { s.net with
    ip := 0, probe := 0, leaseEnd := none, renewAt := none, dhcpIp := 0, dhcpAt := none } }

/-- The PTP instances of a domain begin anew, and the reference is chosen again (R282). -/
def restartDomain (first : Nat) (s : State) : State := chooseRef (modInst (first + 1) (fun _ => {}) (modInst first (fun _ => {}) s))

/-- The witness begins anew for each slot whose pair changed (R368). -/
def restartServed (old : List Byte) (s : State) : State :=
  let new := cfgBytes Ent.PAIR_WIT_SERVE s
  let served := s.pair.served.mapIdx fun i x => if slice old (2 * i) 2 == slice new (2 * i) 2 then x else {}
  { s with pair := { s.pair with served := served } }

/-- Whether an entry is the given one. -/
def isEnt (x e : Entry) : Bool := x.index == e.index && x.sub == e.sub

/-- A dictionary write to an EST_ or TBL_ entry wakes the E island (R107). -/
def wakesE (e : Entry) : Bool :=
  (0x3200 ≤ e.index && e.index < 0x3340) || (e.index == 0x3000 && 0x40 ≤ e.sub)

/-- What the owner of an entry does with a new value besides reading it; `old` is the value before. -/
def valueTaken (e : Entry) (k : Nat) (v old : Val) (s : State) : State :=
  if about setEntries e k then rewriteSet k s
  else if isEnt Ent.NET_IP_MODE e || isEnt Ent.NET_IP e then (if old == v then s else dropAddress s)
  else if isEnt Ent.EST_RATED_CAP e then ratedChange s
  else if isEnt Ent.PTP_DOMAIN_P e then restartDomain 0 s
  else if isEnt Ent.PTP_DOMAIN_S e then restartDomain 2 s
  else if isEnt Ent.PTP_ENABLE e then chooseRef s
  else if isEnt Ent.PAIR_WIT_SERVE e then restartServed (valBytes old) s
  else if isEnt Ent.SYS_HIB_EN e then (if valInt v = 0 then modSys (fun x => { x with hibernating := false }) s else s)
  else if isEnt Ent.DIO_DQ_CMD e then
    { s with dio := { s.dio with
      dqWrite := s.dio.dqWrite ||| (valInt v).toNat
      dqRise := s.dio.dqRise ||| bitMap 16 fun k => bitOf (valInt v).toNat k && !bitOf (valInt old).toNat k } }
  else if isEnt Ent.DIO_SQ_CMD e then { s with dio := { s.dio with sqWrite := s.dio.sqWrite ||| (valInt v).toNat } }
  else s

/-- A value comes into force, and its owner takes it; a lead's resistance enters both entries of a shared lead (R70). -/
def putValue (e : Entry) (k : Nat) (v : Val) (s : State) : State :=
  let s := if wakesE e then keep wakeE s else s
  if isEnt Ent.CELL_LEAD_R_LO e then writeLead k false (valInt v) s
  else if isEnt Ent.CELL_LEAD_R_HI e then writeLead k true (valInt v) s
  else keep (valueTaken e k v (cfgVal e k s)) (setCfg e k v s)

/-- The values of a set come into force together (R261). -/
def applySet (set : List (Nat × Val)) (s : State) : State :=
  forAll set (fun x s => match entryAt x.1 with | some (e, k) => putValue e k x.2 s | none => s) s

/-! ### Mode commands (R165, Table 7-2) -/

/-- The string leaves PARKED by a command: E wakes (R107) and sleeping CAN channels wake (R305). -/
def leaveParked (s : State) : State := canLeaveParked (wakeE s)

/-- How SP_MODE_CMD is answered. -/
def modeVerdict (v : Nat) (s : State) : Nat :=
  if seqRuns s then
    if v = 0 && s.prot.seq == .precharge && s.prot.abortTo.isNone then stAccepted else stBusy
  else if s.sp.mode.code = v then (if s.sp.mode.running && s.sp.toStandby then stAccepted else stDone)
  else match s.sp.mode with
    | .parked => if v = 1 then (prechargeRefusal (!s.sys.hibernating) s).getD stAccepted else stRange
    | .standby =>
      if v = 0 then stAccepted
      else if !tierAtLeast .limited s then stTier
      else if s.prot.tripped then stBusy
      else if !anySelected s || runRefused s then stIdle
      else stAccepted
    | .busVoltage => stAccepted
    | .stringCurrent => stAccepted
    | .stringPower => stAccepted

/-- The mode of a command value of 2, 3 or 4. -/
def modeOf : Nat → Mode
  | 2 => .busVoltage
  | 3 => .stringCurrent
  | _ => .stringPower

/-- An accepted mode command under a JSEQ (R165, R200, R201, R203): hibernation ends, and the check for a lane waits up to 5 ms
(R351). -/
def modeEffect (j v : Nat) (s : State) : State :=
  let hib := s.sys.hibernating
  let s := modSys (fun x => { x with hibernating := false }) s
  if v = 0 then acceptSeq .open_ j 0 s
  else if v = 1 then
    if parked s then
      let s := acceptSeq .precharge j 1 (leaveParked s)
      { s with prot := { s.prot with laneBy := if hib then some (s.now + 5000000) else none } }
    else { s with sp := { s.sp with accepted := .standby } }
  else { s with sp := { s.sp with accepted := .run (modeOf v) } }

/-! ### Commands: the entries of class WO -/

/-- Who writes: the session, and whether it is a service session. -/
structure Writer where
  ses     : Nat
  service : Bool

/-- A command that needs the string PARKED. -/
def parkedOr (s : State) : Nat := if parked s then stAccepted else stBusy

/-- How an accepted-work command with a valid value is answered, for the first half of the chapters. -/
def commandVerdictA (e : Entry) (k : Nat) (v : Val) (s : State) : Option Nat :=
  let on := valInt v != 0
  if isEnt Ent.CHN_PACK_KEY e then some (parkedOr s)
  else if isEnt Ent.CHN_ENUMERATE e then some (if on then parkedOr s else stDone)
  else if isEnt Ent.CHN_KEY_NODE e then some stAccepted
  else if isEnt Ent.EST_REST_REQ e then some (if valInt v < cfg Ent.EST_REST_TIME s then stRange else stAccepted)
  else if isEnt Ent.EST_ID_ACK_ALL e || isEnt Ent.CELL_ID_ACK e then some (if on then stAccepted else stDone)
  else if isEnt Ent.CVT_PHASE_RESTORE e then some stAccepted
  else if isEnt Ent.SP_MODE_CMD e then some (modeVerdict (valInt v).toNat s)
  else if isEnt Ent.PROT_EMERGENCY_OPEN e then some (if on then stAccepted else stDone)
  else if isEnt Ent.PROT_TRIP_RESET e then
    some (if !on || !s.prot.tripped then stDone else if tripPresent s then stBusy else stAccepted)
  else if isEnt Ent.DSP_REST_GRANT e then some stAccepted
  else if isEnt Ent.CAN_TX e then
    let n := fieldU (valBytes v) 0 1
    some (if !txBufOk k n s then stRange else if cfg Ent.CAN_ENABLE s k == 2 then stAccess
      else if txBusy k n s then stDeferred else stAccepted)
  else if isEnt Ent.CAN_RECOVER e then some (if on && canState k s == 3 then stAccepted else stDone)
  else if isEnt Ent.CAN_SLEEP e then some stAccepted
  else if isEnt Ent.DIO_DQ_RETRY e then some stAccepted
  else none

/-- How FW_ACTIVATE is answered (R386, R394). -/
def activateVerdict (v : Nat) (s : State) : Nat :=
  if v = 2 then stAccepted
  else if !tierAtLeast .full s then stTier
  else if s.fw.state != .verified || s.fw.starting || (s.pair.paired && (s.pair.role == .detached || s.pair.role == .fenced)) then stAccess
  else if !schemaOk s then stRange
  else if seqRuns s then stBusy
  else stAccepted

/-- The same, for the second half of the chapters. -/
def commandVerdictB (w : Writer) (e : Entry) (v : Val) (s : State) : Nat :=
  let on := valInt v != 0
  if isEnt Ent.SYS_RESET_CMD e then (if on then parkedOr s else stDone)
  else if isEnt Ent.SYS_SELFTEST_REQ e then
    match (valInt v).toNat with
    | 1 => stDeferred
    | 2 => if s.sys.calRun then stDone else stAccepted
    | _ => parkedOr s
  else if isEnt Ent.PAIR_HANDOVER e then (if !on then stDone else if handoverReady s then stAccepted else stAccess)
  else if isEnt Ent.PAIR_FORCE_ACTIVE e then
    (if !on then stDone else if w.service && s.pair.paired && s.pair.role != .active && s.pair.noGrant then stAccepted else stAccess)
  else if isEnt Ent.FW_APPLY e then
    (if !on then stDone else if !tierAtLeast .limited s then stTier else if s.fw.state != .deltaStored then stAccess else stAccepted)
  else if isEnt Ent.FW_ACTIVATE e then activateVerdict (valInt v).toNat s
  else if isEnt Ent.FW_ABORT e then
    (if !on then stDone
     else if s.fw.state == .applying || s.fw.state == .verifying || s.fw.state == .probation then stAccepted else stAccess)
  else if isEnt Ent.FW_DELTA e then (if fwBusy s then stAccess else if (deltaFault (valBytes v) s).isSome then stRange else stAccepted)
  else if isEnt Ent.REC_HOLD e then (holdRefusal w.ses (valInt v).toNat s).getD stAccepted
  else stAccess

/-- How a command with a valid value is answered. -/
def commandVerdict (w : Writer) (e : Entry) (k : Nat) (v : Val) (s : State) : Nat :=
  (commandVerdictA e k v s).getD (commandVerdictB w e v s)

/-- What an accepted command does, for the first half of the chapters. -/
def commandEffectA (e : Entry) (k : Nat) (v : Val) (j : Nat) (s : State) : Option State :=
  let n := (valInt v).toNat
  if isEnt Ent.CHN_PACK_KEY e then some (packKey (valBytes v) s)
  else if isEnt Ent.CHN_ENUMERATE e then some (if acts s then startEnumeration s else s)
  else if isEnt Ent.CHN_KEY_NODE e then some (keyNode n s)
  else if isEnt Ent.EST_REST_REQ e then some (wakeE { s with dsp := { s.dsp with restReq := n } })
  else if isEnt Ent.EST_ID_ACK_ALL e then some (wakeE (forAll (List.range 256) ackId s))
  else if isEnt Ent.CELL_ID_ACK e then some (ackId k s)
  else if isEnt Ent.CVT_PHASE_RESTORE e then some (phaseRestore n s)
  else if isEnt Ent.SP_MODE_CMD e then some (modeEffect j n s)
  else if isEnt Ent.PROT_EMERGENCY_OPEN e then some { s with prot := { s.prot with seqJ := j } }
  else if isEnt Ent.PROT_TRIP_RESET e then some (tripReset s)
  else if isEnt Ent.DSP_REST_GRANT e then some (restGrant n s)
  else if isEnt Ent.CAN_TX e then some (canTxAccept k (valBytes v) s)
  else if isEnt Ent.CAN_RECOVER e then some (startRecovery k s)
  else if isEnt Ent.CAN_SLEEP e then some (if n = 1 then sleepRequest k s else wakeChan k 4 s)
  else if isEnt Ent.DIO_DQ_RETRY e then some (dqRetry n s)
  else none

/-- The same, for the second half. A hold is not executed from the partner's journal (R418); a reset, a handover and a forced role
are the member's own; FW_ACTIVATE 1 is SELF, 2 is executed only by the partner (R394). -/
def commandEffectB (own : Bool) (ses : Nat) (e : Entry) (v : Val) (s : State) : State :=
  let n := (valInt v).toNat
  if isEnt Ent.FW_APPLY e then applyStart s
  else if isEnt Ent.FW_ABORT e then fwAbortEffect s
  else if isEnt Ent.FW_DELTA e then deltaComplete (valBytes v) s
  else if isEnt Ent.FW_ACTIVATE e then
    (if own && n = 1 then activate s
     else if !own && n = 2 && s.pair.role == .standby && activateVerdict 1 s == stAccepted then activate s else s)
  else if !own then s
  else if isEnt Ent.SYS_RESET_CMD e then handOverFirst .command s
  else if isEnt Ent.SYS_SELFTEST_REQ e then (if n = 2 then calStart s else if n = 3 then handOverFirst .selftest s else s)
  else if isEnt Ent.PAIR_HANDOVER e then startHandover s
  else if isEnt Ent.PAIR_FORCE_ACTIVE e then forceActive s
  else if isEnt Ent.REC_HOLD e then recHold ses n s
  else s

/-- What an accepted command does; `own` is false where it comes from the partner's journal. -/
def commandEffect (own : Bool) (ses : Nat) (e : Entry) (k : Nat) (v : Val) (j : Nat) (s : State) : State :=
  (commandEffectA e k v j s).getD (commandEffectB own ses e v s)

/-! ### Writes: the check and the effect by access class (Table 10-2) -/

/-- Bits of a write that differ from the value in force. -/
def flipped (e : Entry) (v : Val) (s : State) : Nat := (valInt v).toNat ^^^ cfgN e s

/-- An output command that protection drives (R318, R322). -/
def protectionBits (e : Entry) (v : Val) (s : State) : Bool :=
  (isEnt Ent.DIO_DQ_CMD e && (flipped e v s &&& cfgN Ent.PROT_TM_DQ s) != 0) ||
  (isEnt Ent.DIO_SQ_CMD e && (flipped e v s &&& bitMap 4 (protOutputs s).contains) != 0)

/-- Work accepted or in the batch, and not yet in force, writes instance k of an entry. -/
def writeUnderWay (e : Entry) (k : Nat) (s : State) : Bool :=
  (s.ses.awaiting.map (·.2) ++ s.ses.batch).any fun w => match w with
    | .request r _ => (r.op == 0x02 || r.op == 0x11) && r.index * 256 + r.sub == entryAddr e k
    | .own _ _ => false

/-- A write that changes nothing (R255): it names the value in force, nothing before it in the batch writes the entry, and no
more than that value hangs on it, as on an output command (R234, R328) or the resistance of a shared lead (R70). -/
def sameValue (e : Entry) (k : Nat) (v : Val) (s : State) : Bool :=
  cfgVal e k s == v && !writeUnderWay e k s && !about [Ent.DIO_DQ_CMD, Ent.DIO_SQ_CMD, Ent.CELL_LEAD_R_LO, Ent.CELL_LEAD_R_HI] e k

/-- A single write in force alone: RW and RWI, with the rules that link entries (log 47). -/
def plainVerdict (e : Entry) (k : Nat) (v : Val) (s : State) : Nat :=
  if protectionBits e v s then stAccess
  else if (linkFault [(entryAddr e k, v)] s).isSome then stRange
  else if sameValue e k v s then stDone
  else stAccepted

/-- The bytes of the values in a change set. -/
def setBytes (set : List (Nat × Val)) : Nat :=
  sumN (set.map fun x => match entryAt x.1 with | some (e, _) => (encodeVal e.ty x.2).length | none => 0)

/-- A write enters the change set: at most 512 entries and 64 KiB of values (R260). -/
def stageVerdict (e : Entry) (k : Nat) (v : Val) (staged : List (Nat × Val)) : Nat :=
  let set := storeIns (entryAddr e k) v staged
  if set.length ≤ 512 && setBytes set ≤ 65536 then stAccepted else stRange

/-- How a sequenced write of a value is answered (R244, R245). -/
def writeVerdict (w : Writer) (staged : List (Nat × Val)) (e : Entry) (k : Nat) (bs : List Byte) (s : State) : Nat :=
  match e.access with
  | .ro => stAccess
  | .saf => stSafety
  | .rw => if isEnt Ent.DSP_P_REQ e || isEnt Ent.DSP_I_REQ e then stAccess else checked fun v => plainVerdict e k v s
  | .rwi => checked fun v => if parked s then plainVerdict e k v s else stIdle
  | .rwc => checked fun v => stageVerdict e k v staged
  | .wo =>
    if isEnt Ent.FW_DELTA e && fwBusy s then stAccess
    else if isEnt Ent.FW_DELTA e then
      match decodeVal e bs with
      | some v => commandVerdict w e k v s
      | none => stType
    else checked fun v => commandVerdict w e k v s
where
  /-- Type and range first (R244). -/
  checked (f : Val → Nat) : Nat :=
    match decodeVal e bs with
    | none => stType
    | some v => if valueOk e v then f v else stRange

/-- What an accepted write does (R245); an RWC value enters the change set instead. -/
def writeEffect (own : Bool) (ses : Nat) (e : Entry) (k : Nat) (bs : List Byte) (j : Nat) (s : State) : State :=
  match decodeVal e bs with
  | none => s
  | some v => match e.access with
    | .rw => putValue e k v s
    | .rwi => putValue e k v s
    | .wo => keep (commandEffect own ses e k v j) s
    | .ro => s
    | .saf => s
    | .rwc => if wakesE e then keep wakeE s else s

/-- What a write that is refused or changes nothing still does: 0x7A05 for a schema outside its bounds (R386), and a write to an
EST_ or TBL_ entry wakes E (R107). -/
def refusedEffect (e : Entry) (status : Nat) (s : State) : State :=
  if isEnt Ent.FW_ACTIVATE e && status == stRange && !schemaOk s then raiseF 0x7A05 wide s
  else if status == stDone && wakesE e then wakeE s
  else s

end Sys2Proof.Machine
end

