-- ==== Sys2Proof/Machine/Journal.lean ====
section
/-! DEFINITION. Accepted work (10_object_dictionary R255 to R259): what a request does to its session, the frame's batch and its
commit, the partner's acknowledgement, the replay at a start, and the JOURNAL and BULK classes of the mirror link. -/
namespace Sys2Proof.Machine
open Sys2Proof

/-! ### Sessions by identity -/

/-- The open session with an identity. -/
def sessionOf (id : Nat) (s : State) : Option Session := s.ses.open_.find? (·.id == id)

/-- Change the session registers. -/
def modSes (f : SessionRegs → SessionRegs) (s : State) : State := { s with ses := f s.ses }

/-- Change a session. -/
def modSession (id : Nat) (f : Session → Session) (s : State) : State :=
  modSes (fun r => { r with open_ := r.open_.map fun x => if x.id == id then f x else x }) s

/-- Slot 65 holds the service session (R250). -/
def serviceSlot : Nat := 65

/-- The lowest free slot for a client (R250). -/
def freeSlot (service : Bool) (s : State) : Option Nat :=
  let used (k : Nat) : Bool := s.ses.open_.any fun x => x.id % 65536 == k
  if service then (if used serviceSlot then none else some serviceSlot) else (upTo 1 64).find? fun k => !used k

/-- A new session (R250). -/
def openSession (id client : Nat) (service : Bool) (s : State) : State :=
  let x : Session := { id := id, client := client, service := service, last := s.now }
  modSes (fun r => { r with open_ := r.open_ ++ [x], gen := (id / 65536 + 1) % 65536 }) s

/-- A session closes: its set, held requests and cache go, and a hold it keeps ends (R251, R419). -/
def dropSession (id : Nat) (s : State) : State :=
  let s := if s.recd.holdSes == id then endHold s else s
  modSes (fun r => { r with open_ := r.open_.filter fun x => x.id != id }) s

/-! ### Block writes (R265) -/

/-- What a chunk leads to. -/
inductive BlockEnd where
  | more | mismatch | value (bs : List Byte)
  deriving DecidableEq, Repr, Inhabited

/-- The ranges cover every byte from 0 to total - 1. -/
def covered (total : Nat) (got : List (Nat × Nat)) : Bool :=
  total ≤ (sortBy (fun a b => a.1 ≤ b.1) got).foldl (fun reach r => if r.1 ≤ reach then max reach (r.1 + r.2) else reach) 0

/-- A chunk enters the buffer; one that names another entry, TOTAL or VCRC starts a new buffer. -/
def blockStep (r : Req) (b : Option BlockBuf) : Option BlockBuf × BlockEnd :=
  let total := fieldU r.payload 0 4
  let off := fieldU r.payload 4 4
  let vcrc := fieldU r.payload 8 4
  let data := r.payload.drop 12
  let fresh : BlockBuf := { index := r.index, sub := r.sub, total := total, vcrc := vcrc, data := [], got := [] }
  let buf : BlockBuf := match b with
    | some x => if x.index == r.index && x.sub == r.sub && x.total == total && x.vcrc == vcrc then x else fresh
    | none => fresh
  let buf : BlockBuf := { buf with data := splice buf.data off data, got := buf.got ++ [(off, data.length)] }
  if !covered total buf.got then (some buf, .more)
  else if crc32c (buf.data.take total) == vcrc then (none, .value (buf.data.take total))
  else (none, .mismatch)

/-- The form of a chunk: 1 to 1,024 bytes that lie within TOTAL, and a TOTAL that the entry can hold (R244, R265). -/
def chunkFault (r : Req) (e : Entry) : Option Nat :=
  let n := r.payload.length - 12
  let total := fieldU r.payload 0 4
  let long := match e.range with
    | .length _ hi => decide (hi < total)
    | _ => match tyLen e.ty with
      | some k => decide (k < total)
      | none => false
  if r.payload.length < 13 || 1024 < n then some stType
  else if long then some stType
  else if total < fieldU r.payload 4 4 + n then some stRange
  else none

/-! ### What a request does to its session -/

/-- A request to open a session: it is unsequenced (Table 10-6). -/
def isOpen (r : Req) : Bool := r.op == 0x30 && r.h.seq == 0

/-- The entry and instance that a request names. -/
def reqEntry (r : Req) : Option (Entry × Nat) := findEntry r.index r.sub

/-- The address that a request names. -/
def reqAddr (r : Req) : Nat := r.index * 256 + r.sub

/-- A write of 1 to PROT_TRIP_RESET that has been found acceptable. -/
def isTripReset (r : Req) (reply : Reply) : Bool :=
  reply.status == stAccepted && (reqEntry r).any fun e => isEnt Ent.PROT_TRIP_RESET e.1

/-- A reset of the trip latch in the frame's batch is judged at the evaluation of this frame: while a trip condition is present it is
answered BUSY_PROTECTING (R197). -/
def judgeResets (s : State) : State :=
  if tripPresent s then
    modSes (fun q => { q with batch := q.batch.map fun w => match w with
      | .request r reply => .request r (if isTripReset r reply then { reply with status := stBusy } else reply)
      | .own t p => .own t p }) s
  else s

/-- An accepted RWC value enters the change set (R260). -/
def stageValue (r : Req) (bs : List Byte) (x : Session) : Session :=
  match reqEntry r with
  | some (e, _) => if e.access == .rwc then
      match decodeVal e bs with
      | some v => { x with staged := storeIns (reqAddr r) v x.staged }
      | none => x
    else x
  | none => x

/-- A chunk that is refused as such, and so not gathered: of no entry, of a wrong form, or of FW_DELTA while it is busy. -/
def chunkRefused (r : Req) (status : Nat) : Bool :=
  match reqEntry r with
  | none => true
  | some (e, _) => (chunkFault r e).isSome || (status == stAccess && isEnt Ent.FW_DELTA e)

/-- What a request with a final status does to its session's change set and block buffer. -/
def sessionStep (r : Req) (status : Nat) (x : Session) : Session :=
  let ok := status == stAccepted
  match r.op with
  | 0x02 => if ok then stageValue r r.payload x else x
  | 0x11 =>
    if chunkRefused r status then x
    else match blockStep r x.block with
      | (b, .value bs) => if ok then stageValue r bs { x with block := b } else { x with block := b }
      | (b, _) => { x with block := b }
  | 0x20 => if ok then { x with staged := [] } else x
  | 0x21 => { x with staged := [] }
  | _ => x

/-! ### What accepted work does (R255) -/

/-- The effect of a write with its status. -/
def valueEffect (own : Bool) (r : Req) (status : Nat) (bs : List Byte) (j : Nat) (s : State) : State :=
  match reqEntry r with
  | some (e, k) =>
    if status == stAccepted then writeEffect own r.h.ses e k bs j s
    else if status == stRange && isEnt Ent.FW_DELTA e then keep (deltaComplete bs) s
    else keep (refusedEffect e status) s
  | none => s

/-- The effect of a chunk: a value that is complete is written; a chunk of FW_DELTA clears the firmware codes (Table 16-6), and a
delta that fails its checks empties the store (R382). -/
def chunkEffect (own : Bool) (r : Req) (status j : Nat) (block : Option BlockBuf) (s : State) : State :=
  let delta := match reqEntry r with | some (e, _) => isEnt Ent.FW_DELTA e | none => false
  if chunkRefused r status then s
  else
    let s := if delta then keep deltaWrite s else s
    match (blockStep r block).2 with
    | .value bs => valueEffect own r status bs j s
    | .mismatch => s
    | .more => s

/-- A commit is queued for the next frame boundary (R261) or for PARKED (R262). -/
def commitEffect (atIdle : Bool) (j : Nat) (set : List (Nat × Val)) (s : State) : State :=
  if atIdle then modSes (fun r => { r with idle := r.idle ++ [{ jseq := j, set := set }] }) s
  else modSes (fun r => { r with toApply := r.toApply ++ [(j, set)] }) s

/-- What a request does outside its session once its work is accepted under JSEQ j. -/
def outerEffect (own : Bool) (r : Req) (status j : Nat) (x : Session) (s : State) : State :=
  match r.op with
  | 0x02 => valueEffect own r status r.payload j s
  | 0x11 => chunkEffect own r status j x.block s
  | 0x20 => if status == stAccepted then keep (commitEffect (fieldU r.payload 0 1 == 1) j x.staged) s else s
  | 0x22 => if status == stAccepted then
      let c := fieldU r.payload 0 8
      markDone c (modSes (fun q => { q with idle := q.idle.filter fun i => i.jseq != c }) s)
    else s
  | 0x31 => keep (dropSession x.id) s
  | _ => s

/-- A journal entry's work is complete once nothing of it is open (R256). -/
def settleDone (j : Nat) (s : State) : State :=
  if s.prot.openWork.any (·.1 == j) || s.ses.toApply.any (·.1 == j) || s.ses.idle.any (·.jseq == j) then s else markDone j s

/-- The work of a sequenced request takes effect; its reply enters the session's cache of 32 (R253). -/
def requestEffect (own : Bool) (r : Req) (reply : Reply) (s : State) : State :=
  match sessionOf r.h.ses s with
  | none => keep (settleDone reply.jseq) s
  | some x =>
    keep (fun s =>
      settleDone reply.jseq (modSession x.id (fun y =>
        let y := sessionStep r reply.status y
        { y with cache := (reply :: y.cache).take 32 }) s)) (outerEffect own r reply.status reply.jseq x s)

/-! ### The batch and its commit (R257) -/

/-- A request that a SYS_SELFTEST_REQ 2 makes during a rotation: its reply waits for the rotation's end (R349). -/
def waitsForCal (r : Req) (status : Nat) (s : State) : Bool :=
  r.op == 0x02 && r.index == 0x1000 && (reqEntry r).any (fun x => isEnt Ent.SYS_SELFTEST_REQ x.1) && status == stDone &&
    fieldU r.payload 0 1 == 2 && s.sys.calRun

/-- The completion of an entry is committed: its work is open no more (R256). -/
def closeWork (j : Nat) (s : State) : State :=
  let s := closeLearn j (markDone j s)
  { s with prot := { s.prot with openWork := s.prot.openWork.filter fun w => w.1 != j } }

/-- What an entry of the module's own does once it is committed (R115, R118, R256). -/
def ownEffect (type : Nat) (payload : List Byte) (j : Nat) (s : State) : State :=
  match type with
  | 0x02 => closeWork (fieldU payload 0 8) (markDone j s)
  | 0x04 => markDone (fieldU payload 0 8) (markDone j s)
  | 0x30 => modLp (fieldU payload 0 2) (fun p => { p with committed := true, entryJ := j }) s
  | 0x31 => modLp (fieldU payload 0 2) (fun p => { p with idReady := true }) (markDone j s)
  | _ => markDone j s

/-- Work is accepted: it takes effect, and the reply leaves (R255). -/
def release (j : Nat) (w : Work) (s : State) : State :=
  match w with
  | .request r reply =>
    let reply := { reply with jseq := j }
    if isOpen r then
      keep (fun s =>
        sendReply reply (settleDone j (openSession reply.ses (fieldU r.payload 0 8) (bitOf r.h.flags 0) s))) s
    else
      let wait := waitsForCal r reply.status s
      keep (fun s => if wait then modSys (fun x => { x with calWait := x.calWait ++ [reply] }) s else sendReply reply s)
        (requestEffect true r reply s)
  | .own type payload => keep (ownEffect type payload j) s

/-- The partner must acknowledge: it stands by (R255). -/
def needsAck (s : State) : Bool := s.pair.paired && s.pair.role == .active && s.pair.partner == some .standby

/-- A REQUEST payload (R256). -/
def requestPayload (r : Req) (reply : Reply) : List Byte :=
  toBytes 1 r.op ++ toBytes 1 reply.status ++ toBytes 2 reply.index ++ toBytes 1 reply.sub ++ [0] ++
  toBytes 2 r.payload.length ++ r.payload ++ toBytes 2 reply.payload.length ++ reply.payload

/-- A SESSION payload: 1 opened or 2 closed, SES_ID, CLIENT, service (log 48). -/
def sessionPayload (kind id client : Nat) (service : Bool) : List Byte :=
  toBytes 1 kind ++ toBytes 4 id ++ toBytes 8 client ++ toBytes 1 (b2n service)

/-- The journal entry of a piece of work. -/
def entryOf (j : Nat) : Work → JEntry
  | .request r reply =>
    if isOpen r then
      { jseq := j, type := 0x03, ses := reply.ses, reqSeq := 0
        payload := sessionPayload 1 reply.ses (fieldU r.payload 0 8) (bitOf r.h.flags 0), done := false }
    else { jseq := j, type := 0x01, ses := r.h.ses, reqSeq := r.h.seq, payload := requestPayload r reply, done := false }
  | .own type payload => { jseq := j, type := type, ses := 0, reqSeq := 0, payload := payload, done := false }

/-- The reply of a request still stands in its session's cache (R256). -/
def stillCached (e : JEntry) (s : State) : Bool :=
  e.type == 0x01 && match sessionOf e.ses s with
    | some x => x.cache.any (·.seq == e.reqSeq)
    | none => false

/-- An entry whose value still stands in a change set or block buffer of its session is not complete. -/
def stillStaged (e : JEntry) (s : State) : Bool :=
  e.type == 0x01 && match sessionOf e.ses s with
    | some x =>
      let a := fieldU e.payload 2 3
      x.staged.any (·.1 == a) || x.block.any fun b => b.index * 256 + b.sub == a
    | none => false

/-- Space is reclaimed from the oldest entries, up to the first whose work is open or whose reply is cached (R256). -/
def reclaim (s : State) : State :=
  modSes (fun r => { r with journal := r.journal.dropWhile fun e => e.done && !stillCached e s && !stillStaged e s }) s

/-- Put an entry into the journal under the next JSEQ (R256). -/
def putEntry (w : Work) (s : State) : State :=
  let j := s.ses.jseq + 1
  modSes (fun r => { r with jseq := j, journal := r.journal ++ [entryOf j w] }) s

/-- The mirrored form of an entry. -/
def jMirror (e : JEntry) : JMirror := { jseq := e.jseq, type := e.type, ses := e.ses, reqSeq := e.reqSeq, payload := e.payload }

/-- A piece of work is journaled, then released at once, or once the partner has acknowledged it (R255). -/
def commitEntry (w : Work) (s : State) : State :=
  let s := putEntry w s
  if needsAck s then modSes (fun r => { r with awaiting := r.awaiting ++ [(r.jseq, w)] }) s else release s.ses.jseq w s

/-- Commit one piece of work. A SESSION_OPEN whose client has a session, or that finds no free slot, changes nothing and is not
journaled (R250). -/
def commitWork (w : Work) (s : State) : State :=
  match w with
  | .request r reply =>
    if isOpen r then
      let client := fieldU r.payload 0 8
      let service := bitOf r.h.flags 0
      let pendingOpen := s.ses.awaiting.any fun a => match a.2 with
        | .request q _ => isOpen q
        | .own _ _ => false
      match s.ses.open_.find? fun x => x.client == client && x.service == service with
      | some x => keep (sendReply { reply with ses := x.id, payload := toBytes 4 x.next }) s
      | none => match freeSlot service s with
        | some k =>
          if pendingOpen then modSes (fun q => { q with batch := q.batch ++ [w] }) s
          else commitEntry (.request r { reply with ses := s.ses.gen * 65536 + k, payload := toBytes 4 1 }) s
        | none => keep (sendReply { reply with status := stLimit }) s
    else commitEntry w s
  | .own _ _ => commitEntry w s

/-- Step 9: the frame's batch, at most 64 (R257). While J is fenced, while the member resigns, and at a member that neither acts
nor may be forced to, nothing commits. The batch goes to the partner in one JOURNAL message (R360). -/
def commitBatch (s : State) : State :=
  if isFenced .j s || s.pair.request == .resign || !(acts s || s.pair.noGrant) then s
  else
    let before := s.ses.jseq
    let now := s.ses.batch.take 64
    let s := modSes (fun r => { r with batch := r.batch.drop 64 }) s
    let s := forAll now commitWork s
    let new := s.ses.journal.filter fun e => before < e.jseq
    let s := if needsAck s && !new.isEmpty then sendMirror clsJournal ((new.map jMirror).flatMap journalBytes) s else s
    reclaim s

/-- Work that waited for the partner is released, in the order of JSEQ, up to an acknowledged one. -/
def releaseUpTo (j : Nat) (s : State) : State :=
  let ready := s.ses.awaiting.filter (·.1 ≤ j)
  let s := modSes (fun r => { r with awaiting := r.awaiting.filter fun a => !(a.1 ≤ j) }) s
  reclaim (forAll ready (fun a s => release a.1 a.2 s) s)

/-- With no partner that must acknowledge, what waits is accepted (R255). -/
def releaseIfAlone (s : State) : State :=
  if acts s && !needsAck s && !s.ses.awaiting.isEmpty then releaseUpTo s.ses.jseq s else s

/-- JOURNAL_ACK (R255). -/
def journalAck (jseq : Nat) (s : State) : State :=
  guardOn (s.pair.paired && s.pair.role == .active) (fun s =>
    releaseUpTo jseq { s with pair := { s.pair with ack := max s.pair.ack jseq } }) s

/-- JOURNAL_ACK (R255). -/
def execJournalAck (lane : Lane) (frame : List Byte) (s : State) : Host.Outcome State Fault Refusal :=
  whenLive (mirrorTake clsAck lane frame fun b => guardOn (b.length == 8) (journalAck (fieldU b 0 8))) s

/-- MIRROR_SILENT (R372): with the partner DETACHED, waiting work is accepted. -/
def execMirrorSilent (s : State) : Host.Outcome State Fault Refusal := whenLive (fun s => releaseIfAlone (keep mirrorSilent s)) s

/-- MIRROR_HEARTBEAT (R364). -/
def execMirrorHeartbeat (lane : Lane) (frame : List Byte) (s : State) : Host.Outcome State Fault Refusal :=
  whenLive (fun s => releaseIfAlone (keep (mirrorTake clsHeartbeat lane frame takeHeartbeat) s)) s

/-! ### Work from a journal: the partner's (R246, R394) and the replay at a start (R258) -/

/-- The request and reply of a REQUEST payload. -/
def parseRequest (e : JMirror) : Req × Reply :=
  let p := e.payload
  let n := fieldU p 6 2
  let m := fieldU p (8 + n) 2
  let via : Via := .udp 0 0 true
  let h : Hdr := { via := via, ses := e.ses, seq := e.reqSeq, crc := 0 }
  ({ h := h, op := fieldU p 0 1, index := fieldU p 2 2, sub := fieldU p 4 1, payload := slice p 8 n },
   { dest := via, op := fieldU p 0 1, flags := 0, status := fieldU p 1 1, ses := e.ses, seq := e.reqSeq, index := fieldU p 2 2,
     sub := fieldU p 4 1, jseq := e.jseq, payload := slice p (10 + n) m })

/-- The number after s in the cycle of 1 to 2^32 - 1 (R252). -/
def nextSeq (s : Nat) : Nat := if s ≥ 4294967295 then 1 else s + 1

/-- A SESSION entry. -/
def sessionEntry (e : JMirror) (s : State) : State :=
  let id := fieldU e.payload 1 4
  match fieldU e.payload 0 1 with
  | 1 => openSession id (fieldU e.payload 5 8) (fieldU e.payload 13 1 == 1) s
  | _ => dropSession id s

/-- A CAP_LEARN entry of the partner stands open here until its completion (R118). -/
def learnEntry (e : JMirror) (s : State) : State :=
  let c := capLearnOf e.payload
  modLp c.pos (fun x => { x with entry := some c, committed := true, entryJ := e.jseq, state := .journaled }) s

/-- A COMPLETION entry. -/
def completionEntry (e : JMirror) (s : State) : State := closeWork (fieldU e.payload 0 8) s

/-- An AT_IDLE_APPLY entry: the JSEQ of the set, the status, the failing entry (log 48). -/
def idleEntry (e : JMirror) (s : State) : State :=
  let c := fieldU e.payload 0 8
  let st := fieldU e.payload 8 1
  let set := ((s.ses.idle.find? (·.jseq == c)).map (·.set)).getD []
  let s := if st == stDone then applySet set s else s
  markDone c (modSes (fun r => { r with
    idle := r.idle.filter fun i => i.jseq != c, idleLast := st, idleEntry := fieldU e.payload 9 4 }) s)

/-- An entry of the partner's journal takes effect here: the same journaled write (R246), on this member's own banks (R394). -/
def replicaEffect (e : JMirror) (s : State) : State :=
  match e.type with
  | 0x01 =>
    let (r, reply) := parseRequest e
    modSession e.ses (fun x => { x with next := nextSeq e.reqSeq, last := s.now }) (requestEffect false r reply s)
  | 0x02 => keep (completionEntry e) s
  | 0x03 => keep (sessionEntry e) s
  | 0x04 => idleEntry e s
  | 0x30 => keep (learnEntry e) s
  | _ => s

/-- The standby commits one mirrored entry: the next in sequence (R258, R259). -/
def replicaEntry (e : JMirror) (s : State) : State :=
  if e.jseq = s.ses.jseq + 1 then
    let je : JEntry := { jseq := e.jseq, type := e.type, ses := e.ses, reqSeq := e.reqSeq, payload := e.payload
                         done := !(e.type == 0x01 || e.type == 0x30) }
    replicaEffect e (modSes (fun r => { r with jseq := e.jseq, journal := r.journal ++ [je] }) s)
  else s

/-- MIRROR_JOURNAL (R259): the standby, and a joining member that has its bulk, commits the batch and acknowledges it. Sets
that a commit queues take effect at its own next frame boundary. -/
def mirrorJournal (es : List JMirror) (s : State) : State :=
  guardOn (s.pair.paired && !isFenced .j s && (s.pair.role == .standby || (s.pair.role == .detached && s.pair.rejoinBulk))) (fun s =>
    let s := reclaim (forAll es replicaEntry s)
    keep (sendMirror clsAck (toBytes 8 s.ses.jseq)) s) s

/-- MIRROR_JOURNAL (R259). -/
def execMirrorJournal (lane : Lane) (frame : List Byte) (s : State) : Host.Outcome State Fault Refusal :=
  whenLive (mirrorTake clsJournal lane frame fun b => mirrorJournal (journalOf b.length b)) s

/-- What a taken journal restores of one entry: sessions, change sets, the AT_IDLE queue and open sequences; the values it wrote
came with the configuration. -/
def restoreEntry (e : JMirror) (s : State) : State :=
  match e.type with
  | 0x01 =>
    let (r, reply) := parseRequest e
    match sessionOf e.ses s with
    | none => s
    | some x =>
      let s := if r.op = 0x20 && reply.status == stAccepted && fieldU r.payload 0 1 == 1 then commitEffect true e.jseq x.staged s
        else if r.op = 0x22 || r.op = 0x31 then outerEffect false r reply.status e.jseq x s
        else s
      modSession e.ses (fun y =>
        let y := sessionStep r reply.status y
        { y with next := nextSeq e.reqSeq, cache := (reply :: y.cache).take 32 }) s
  | 0x03 => sessionEntry e s
  | 0x04 =>
    let c := fieldU e.payload 0 8
    modSes (fun r => { r with idle := r.idle.filter fun i => i.jseq != c }) s
  | 0x30 => learnEntry e s
  | 0x02 => completionEntry e s
  | _ => s

/-- The partner's journal in place of the member's own (R259), the learned records and the latest checkpoint's contexts. -/
def takeBulk (m : BulkMirror) (s : State) : State :=
  let s := modSes (fun r => { r with
    open_ := [], batch := [], awaiting := [], toApply := [], idle := []
    jseq := (m.journal.getLast?.map (·.jseq)).getD 0
    journal := m.journal.map fun e => { jseq := e.jseq, type := e.type, ses := e.ses, reqSeq := e.reqSeq, payload := e.payload
                                        done := e.type != 0x30 } }) s
  let s := forAll m.journal restoreEntry s
  let s := forAll m.records (fun x s => mirrorRecord x.1 x.2 s) s
  let c : CtxMirror := { ctx := m.ckpt, sweep := s.chain.sweepCtr, cmdA := s.chain.cmdCtrA, cmdB := s.chain.cmdCtrB }
  modPair (fun p => { p with rejoinBulk := true }) (mirrorContext c s)

/-- MIRROR_BULK (R376): a joining member takes its partner's configuration, with the pack key, which no store lists because no host can
read it (R54), and the journal, records and contexts. -/
def mirrorBulk (m : BulkMirror) (s : State) : State :=
  let a := entryAddr Ent.CHN_PACK_KEY
  let key := ((storeGet a m.config).map valBytes).getD s.chctl.packKey
  guardOn (s.pair.paired && s.pair.rejoin.isSome) (fun s =>
    keep (takeBulk m) (overlay (storeDel a m.config) { s with store := [], chctl := { s.chctl with packKey := key } })) s

/-- MIRROR_BULK (R376). -/
def execMirrorBulk (lane : Lane) (frame : List Byte) (s : State) : Host.Outcome State Fault Refusal :=
  whenLive (mirrorTake clsBulk lane frame fun b s => match bulkMirrorOf b with
    | some m => mirrorBulk m s
    | none => s) s

/-! ### Tier LIMITED (R258, R338) -/

/-- A cut behind the newest entry: the entries after it, and what only they held, are gone (R258): 0x1024 (R341). -/
def cutJournal (kept : Nat) (s : State) : State :=
  let gone := s.ses.journal.drop kept
  let last := match (s.ses.journal.take kept).getLast? with
    | some e => e.jseq
    | none => match gone with
      | e :: _ => e.jseq - 1
      | [] => s.ses.jseq
  let lost (x : Session) : Session :=
    match gone.find? fun e => e.type == 0x01 && e.ses == x.id with
    | some e => { x with next := e.reqSeq, cache := x.cache.filter fun r => r.jseq ≤ last }
    | none => x
  let opened (x : Session) : Bool := gone.any fun e => e.type == 0x03 && fieldU e.payload 0 1 == 1 && fieldU e.payload 1 4 == x.id
  let s := modSes (fun r => { r with
    journal := r.journal.take kept, jseq := last
    open_ := (r.open_.filter fun x => !opened x).map lost
    toApply := r.toApply.filter fun x => x.1 ≤ last, idle := r.idle.filter fun i => i.jseq ≤ last }) s
  let s := { s with
    prot := { s.prot with openWork := s.prot.openWork.filter fun w => w.1 ≤ last }
    ident := { s.ident with pos := s.ident.pos.map fun p =>
      if p.entry.isSome && last < p.entryJ then { p with entry := none, committed := false, state := .idle } else p } }
  if gone.isEmpty then s else raiseF 0x1024 wide s

/-- Sets that are due come into force, each under its JSEQ (R261). -/
def applyDue (due : List (Nat × List (Nat × Val))) (s : State) : State := forAll due (fun x s => markDone x.1 (applySet x.2 s)) s

/-- What the start found of the journal is taken over (R258). -/
def takeCut (s : State) : State :=
  match s.sys.journalCut with
  | some k => keep (cutJournal k) (modSys (fun x => { x with journalCut := none }) s)
  | none => s

/-- The journal is replayed (R258): sessions and queued sets stand as their entries left them; committed sets that had not been
applied are applied; a module that acts resumes its sequence (R204). -/
def replay (s : State) : State :=
  let s := takeCut s
  let due := s.ses.toApply
  let s := modSes (fun r => { r with toApply := [], replayed := true }) s
  let s := applyDue due s
  if acts s then keep resumeSeq s else s

/-- TIER_LIMITED (Table 14-3): the journal replayed, or taken from the partner. -/
def tierLimited (s : State) : State :=
  guardOn (s.sys.tier == .watch && s.sys.guardIn && !isFenced .j s) (fun s =>
    keep (fun s => tierReached (modSys (fun x => { x with tier := .limited, limitedMs := some (msSinceT0 s) }) s))
      (replay s)) s

/-- TIER_LIMITED (R338). -/
def execTierLimited (s : State) : Host.Outcome State Fault Refusal := whenLive tierLimited s

end Sys2Proof.Machine
end

