-- ==== Sys2Proof/Machine/Session.lean ====
section
/-! DEFINITION. The object access protocol (10_object_dictionary R243 to R266): how a request is received, ordered within its
session, checked and answered, over UDP and CAN; and the recovery responder (R342, R391). -/
namespace Sys2Proof.Machine
open Sys2Proof

/-! ### Answers -/

/-- A reply to a request that changes nothing else. -/
def mkReply (r : Req) (status flags : Nat) (payload : List Byte) : Reply :=
  { dest := r.h.via, op := r.op, flags := flags, status := status, ses := r.h.ses, seq := r.h.seq, index := r.index, sub := r.sub
    jseq := 0, payload := payload }

/-- Answer a request at once. -/
def answer (r : Req) (status flags : Nat) (payload : List Byte) (s : State) : State := sendReply (mkReply r status flags payload) s

/-- FLAGS bit 1, NO_SESSION. -/
def noSession : Nat := 2

/-- FLAGS bit 2, NOT_ACTIVE. -/
def notActive : Nat := 4

/-- FLAGS bit 3, MORE. -/
def moreFlag : Nat := 8

/-- The CRC of a request (Table 10-5). -/
def requestCrc (r : Req) : Nat :=
  crc32c (toBytes 1 (r.h.ver * 16 + r.h.kind) ++ toBytes 1 r.op ++ toBytes 1 r.h.flags ++ toBytes 1 r.h.status ++ toBytes 4 r.h.ses ++
    toBytes 4 r.h.seq ++ toBytes 2 r.index ++ toBytes 1 r.sub ++ toBytes 1 r.h.rsv ++ toBytes 8 r.h.jseq ++
    toBytes 2 r.payload.length ++ r.payload)

/-- A message that is not discarded (R247). -/
def formOk (r : Req) : Bool := r.h.ver == 1 && r.payload.length ≤ 1400 && r.h.crc == requestCrc r

/-! ### What a read answers -/

/-- READ (R245): the status and the value. -/
def readAnswer (r : Req) (s : State) : Nat × List Byte :=
  match reqEntry r with
  | none => (stAccess, [])
  | some (e, k) =>
    if e.access == .wo then (stAccess, [])
    else
      let v := readBytes e k s
      if 1400 < v.length then (Config.longReadStatus (reqAddr r) % 256, []) else (stDone, v)

/-- DESCRIBE (Table 10-6). -/
def describeAnswer (r : Req) : Nat × List Byte :=
  match reqEntry r with
  | none => (stAccess, [])
  | some (e, _) => (stDone, describeBytes e)

/-- The outcome of a BLOCK_READ. -/
structure BlockAnswer where
  status  : Nat
  more    : Bool := false
  payload : List Byte := []
  snap    : Option Snapshot           -- what the session holds afterwards
  snapNo  : Nat                       -- last number issued

/-- A chunk of a value: SNAP, TOTAL, OFFSET, data; and whether bytes remain after it. -/
def chunkOf (snap off max_ : Nat) (v : List Byte) : List Byte × Bool :=
  (toBytes 2 snap ++ toBytes 4 v.length ++ toBytes 4 off ++ slice v off max_, off + max_ < v.length)

/-- BLOCK_READ (R264): a snapshot of up to 65,536 bytes, or a live read of a longer value. -/
def blockAnswer (r : Req) (x : Session) (s : State) : BlockAnswer :=
  let refuse (st : Nat) : BlockAnswer := { status := st, snap := x.snap, snapNo := s.ses.snapNo }
  let snap := fieldU r.payload 0 2
  let off := fieldU r.payload 2 4
  let max_ := fieldU r.payload 6 2
  if r.payload.length != 8 then refuse stType
  else match reqEntry r with
    | none => refuse stAccess
    | some (e, k) =>
      if e.access == .wo then refuse stAccess
      else if max_ = 0 || 1024 < max_ then refuse stRange
      else if isEnt Ent.REC_DATA e && isFenced .j s then refuse stDeferred
      else if snap != 0 then
        match x.snap with
        | some n =>
          if n.id == snap && n.index == r.index && n.sub == r.sub then
            let (p, more) := chunkOf snap off max_ n.value
            { status := stDone, more := more, payload := p, snap := if more then some n else none, snapNo := s.ses.snapNo }
          else refuse stRange
        | none => refuse stRange
      else
        let v := readBytes e k s
        if 65536 < v.length then
          let (p, more) := chunkOf 0 off max_ v
          { status := stDone, more := more, payload := p, snap := if off = 0 then none else x.snap, snapNo := s.ses.snapNo }
        else if off != 0 then refuse stRange
        else
          let no := s.ses.snapNo % 65535 + 1
          let (p, more) := chunkOf no 0 max_ v
          let keep : Snapshot := { id := no, index := r.index, sub := r.sub, value := v }
          { status := stDone, more := more, payload := p, snap := if more then some keep else none, snapNo := no }

/-- What a BLOCK_READ leaves in its session. -/
def keepSnap (id : Nat) (b : BlockAnswer) (s : State) : State :=
  modSession id (fun x => { x with snap := b.snap }) (modSes (fun q => { q with snapNo := b.snapNo }) s)

/-! ### The checks of sequenced requests (R244, R245, R260 to R265) -/

/-- The session as the work already accepted or in the batch will leave it. -/
def projected (x : Session) (s : State) : Session :=
  (s.ses.awaiting.map (·.2) ++ s.ses.batch).foldl (fun y w => match w with
    | .request r reply => if r.h.ses == x.id then sessionStep r reply.status y else y
    | .own _ _ => y) x

/-- The writer a session is. -/
def writerOf (x : Session) : Writer := { ses := x.id, service := x.service }

/-- How a WRITE is answered. -/
def writeAnswer (r : Req) (x : Session) (s : State) : Nat :=
  match reqEntry r with
  | none => stAccess
  | some (e, k) => writeVerdict (writerOf x) x.staged e k r.payload s

/-- How a chunk is answered (R265). -/
def chunkAnswer (r : Req) (x : Session) (s : State) : Nat :=
  match reqEntry r with
  | none => stAccess
  | some (e, k) =>
    match chunkFault r e with
    | some st => st
    | none =>
      if isEnt Ent.FW_DELTA e && fwBusy s then stAccess
      else match (blockStep r x.block).2 with
        | .more => stAccepted
        | .mismatch => stRange
        | .value bs => writeVerdict (writerOf x) x.staged e k bs s

/-- Sets in the AT_IDLE queue, with those whose commit is under way. -/
def idleCount (s : State) : Nat :=
  s.ses.idle.length + ((s.ses.awaiting.map (·.2) ++ s.ses.batch).filter fun w => match w with
    | .request r reply => r.op == 0x20 && fieldU r.payload 0 1 == 1 && reply.status == stAccepted
    | .own _ _ => false).length

/-- COMMIT (R261, R262): the status, and the failing entry of a refused one. -/
def commitAnswer (r : Req) (x : Session) (s : State) : Nat × Option Nat :=
  let mode := fieldU r.payload 0 1
  if r.payload.length != 1 then (stType, none)
  else if 1 < mode then (stRange, none)
  else if x.staged.isEmpty then (stDone, none)
  else match linkFault x.staged s with
    | some a => (stRange, some a)
    | none =>
      if mode = 1 then (if 8 ≤ idleCount s then (stDeferred, none) else (stAccepted, none))
      else match idleFault x.staged s with
        | some a => (stIdle, some a)
        | none => (stAccepted, none)

/-- CANCEL_AT_IDLE (R262): DONE where no queued set has the JSEQ. -/
def cancelAnswer (r : Req) (s : State) : Nat :=
  if r.payload.length != 8 then stType
  else if s.ses.idle.any (·.jseq == fieldU r.payload 0 8) then stAccepted
  else stDone

/-- The reply to a sequenced request, and what a BLOCK_READ leaves. -/
def check (r : Req) (x : Session) (s : State) : Reply × Option BlockAnswer :=
  let plain (st : Nat) : Reply × Option BlockAnswer := (mkReply r st 0 [], none)
  match r.op with
  | 0x01 => let (st, v) := readAnswer r s; (mkReply r st 0 v, none)
  | 0x02 => plain (writeAnswer r x s)
  | 0x03 => let (st, v) := describeAnswer r; (mkReply r st 0 v, none)
  | 0x10 => let b := blockAnswer r x s; (mkReply r b.status (if b.more then moreFlag else 0) b.payload, some b)
  | 0x11 => plain (chunkAnswer r x s)
  | 0x20 => match commitAnswer r x s with
    | (st, some a) => ({ mkReply r st 0 [] with index := a / 256, sub := a % 256 }, none)
    | (st, none) => plain st
  | 0x21 => plain (if x.staged.isEmpty then stDone else stAccepted)
  | 0x22 => plain (cancelAnswer r s)
  | 0x31 => plain stAccepted
  | _ => plain stAccess

/-! ### Execution in order (R253) -/

/-- The value that an accepted request writes. -/
def writtenValue (r : Req) (x : Session) : List Byte :=
  if r.op = 0x11 then (match (blockStep r x.block).2 with | .value bs => bs | .more => [] | .mismatch => []) else r.payload

/-- A request that names PROT_EMERGENCY_OPEN. -/
def namesOpen (r : Req) : Bool := (reqEntry r).any fun e => isEnt Ent.PROT_EMERGENCY_OPEN e.1

/-- A WRITE of 1 to PROT_EMERGENCY_OPEN, which H passes to S on receipt, whatever becomes of its turn and its entry (R202). -/
def opensOnReceipt (r : Req) : Bool := r.op == 0x02 && r.payload == [1#8] && namesOpen r

/-- A chunk that completes such a write: its value is known in its turn, before its entry has committed (R202, R255). -/
def opensAtOnce (r : Req) (x : Session) (status : Nat) : Bool :=
  r.op == 0x11 && status == stAccepted && writtenValue r x == [1#8] && namesOpen r

/-- A request whose turn has come: it is checked, joins the frame's batch (R257), and its session advances. -/
def execute (r : Req) (id : Nat) (s : State) : State :=
  match sessionOf id s with
  | none => s
  | some x =>
    let y := projected x s
    let (reply, b) := check r y s
    let s := match b with
      | some b => keepSnap id b s
      | none => s
    let s := if opensAtOnce r y reply.status then withSq emergencyOpen s else s
    modSession id (fun x => { x with next := nextSeq r.h.seq }) (modSes (fun q => { q with batch := q.batch ++ [.request r reply] }) s)

/-- Held requests whose turn has come (R253). `run` executes one request. -/
def runHeld (run : Req → Nat → State → State) : Nat → Nat → State → State
  | 0, _, s => s
  | n + 1, id, s =>
    match sessionOf id s with
    | none => s
    | some x => match x.held.find? (·.req.h.seq == x.next) with
      | none => s
      | some h => runHeld run n id (run h.req id (modSession id (fun x => { x with held := x.held.filter fun g => g.req.h.seq != x.next }) s))

/-- The signed distance from e to a sequence number in the cycle of 1 to 2^32 - 1. -/
def seqDiff (q e : Nat) : Int :=
  let m : Int := 4294967295
  let d := ((q : Int) - e) % m
  if 2147483647 < d then d - m else d

/-- SEQ_GAP to one request (R253). -/
def gapReply (next : Nat) (r : Req) (s : State) : State :=
  modSes (fun q => { q with gaps := incSat32 q.gaps }) (answer r stGap 0 (toBytes 4 next) s)

/-- SEQ_GAP to every held request of a session, which are discarded (R253). -/
def gapHeld (x : Session) (s : State) : State :=
  modSession x.id (fun y => { y with held := [] }) (forAll x.held (fun h s => gapReply x.next h.req s) s)

/-- A cached reply leaves again (R253), as RESUMED for a sequence run again after a reset (R204). One that still waits for a
rotation's end (R349) does not. -/
def resend (r : Req) (c : Reply) (s : State) : State :=
  if s.sys.calWait.any fun w => w.ses == c.ses && w.seq == c.seq then s
  else
    let again := s.prot.resumed && c.jseq == s.prot.seqJ && c.status == stAccepted
    modSes (fun q => { q with replays := incSat32 q.replays })
      (sendReply { c with dest := r.h.via, flags := c.flags ||| 1, status := if again then stResumed else c.status } s)

/-- S opens on receipt of a request that is neither a repetition nor held already (R202). -/
def openOnReceipt (r : Req) (x : Session) (s : State) : State :=
  if opensOnReceipt r && 0 ≤ seqDiff r.h.seq x.next && !x.held.any (·.req.h.seq == r.h.seq) then withSq emergencyOpen s else s

/-- A sequenced request, sorted by its distance (R253). `full`: nothing can be journaled (R256). -/
def ordered (run : Req → Nat → State → State) (full : Bool) (r : Req) (x : Session) (s : State) : State :=
  let d := seqDiff r.h.seq x.next
  if d < -32 then gapReply x.next r s
  else if d < 0 then
    match x.cache.find? (·.seq == r.h.seq) with
    | some c => resend r c s
    | none => s
  else if full then answer r stDeferred 0 [] s
  else if d = 0 then runHeld run 16 x.id (run r x.id s)
  else if x.held.any (·.req.h.seq == r.h.seq) then s
  else if d ≤ 16 && x.held.length < 16 then modSession x.id (fun y => { y with held := y.held ++ [{ req := r, since := s.now }] }) s
  else gapHeld x (gapReply x.next r s)

/-! ### Unsequenced requests (R252) -/

/-- A dispatch write that matches the running mode waits for step 7 (R206). -/
def dispatchRequest (r : Req) (e : Entry) (s : State) : State :=
  match decodeVal e r.payload with
  | none => answer r stType 0 [] s
  | some v =>
    if !valueOk e v then answer r stRange 0 [] s
    else
      let power := isEnt Ent.DSP_P_REQ e
      if dispatchMatches power s then
        { s with dsp := { s.dsp with writes := s.dsp.writes ++ [{ req := r, power := power, value := valInt v }] } }
      else answer r stAccess 0 [] s

/-- A write of DSP_P_REQ or DSP_I_REQ. -/
def dispatchEntry (r : Req) : Option Entry :=
  match reqEntry r with
  | some (e, _) => if isEnt Ent.DSP_P_REQ e || isEnt Ent.DSP_I_REQ e then some e else none
  | none => none

/-- SESSION_STATE. -/
def statePayload (x : Session) : List Byte := toBytes 4 x.next ++ toBytes 1 x.held.length ++ toBytes 2 x.staged.length

/-- SESSION_OPEN (R250): a client with a session is answered at once; another joins the batch, since opening is journaled. Where J is
fenced nothing is journaled, and opening is DEFERRED. -/
def openRequest (r : Req) (s : State) : State :=
  let service := bitOf r.h.flags 0
  if r.payload.length != 8 then answer r stType 0 [] s
  else if service && !s.ses.svcEn then answer r stAccess 0 [] s
  else match s.ses.open_.find? fun x => x.client == fieldU r.payload 0 8 && x.service == service with
    | some x => sendReply { mkReply r stDone 0 (toBytes 4 x.next) with ses := x.id } s
    | none =>
      if (freeSlot service s).isNone then answer r stLimit 0 [] s
      else if isFenced .j s then answer r stDeferred 0 [] s
      else modSes (fun q => { q with batch := q.batch ++ [.request r (mkReply r stDone 0 [])] }) s

/-- The opcodes of Table 10-6. -/
def opKnown (op : Nat) : Bool := [0x01, 0x02, 0x03, 0x10, 0x11, 0x20, 0x21, 0x22, 0x30, 0x31, 0x32].contains op

/-- Unsequenced READ, DESCRIBE and BLOCK_READ: what a member answers from WATCH on, and in any role. -/
def plainRead (r : Req) : Bool := r.h.seq == 0 && (r.op == 0x01 || r.op == 0x03 || r.op == 0x10)

/-- An unsequenced request that names an open session, or none where it may. -/
def unsequenced (r : Req) (x : Option Session) (s : State) : State :=
  match r.op with
  | 0x01 => let (st, v) := readAnswer r s; answer r st 0 v s
  | 0x03 => let (st, v) := describeAnswer r; answer r st 0 v s
  | 0x02 => match dispatchEntry r with
    | some e => dispatchRequest r e s
    | none => answer r stAccess 0 [] s
  | 0x10 => match x with
    | some x =>
      let b := blockAnswer r x s
      answer r b.status (if b.more then moreFlag else 0) b.payload (keepSnap x.id b s)
    | none => answer r stAccess noSession [] s
  | 0x32 => match x with
    | some x => answer r stDone 0 (statePayload x) s
    | none => answer r stAccess noSession [] s
  | _ => answer r stAccess 0 [] s

/-- SES_ID 0 is accepted for unsequenced READ and DESCRIBE and for dispatch writes (R247). -/
def mayHaveNoSession (r : Req) : Bool :=
  r.h.seq == 0 && (r.op == 0x01 || r.op == 0x03 || (r.op == 0x02 && (dispatchEntry r).isSome))

/-- A request that names an open session (R251), or none where it may. -/
def inSession (r : Req) (s : State) : State :=
  match sessionOf r.h.ses s with
  | none => if r.h.ses = 0 && mayHaveNoSession r then unsequenced r none s else answer r stAccess noSession [] s
  | some x =>
    let s := modSession x.id (fun y => { y with last := s.now }) s
    if r.h.seq = 0 then unsequenced r (some x) s
    else ordered execute (isFenced .j s || journalFree s < 65536) r x (openOnReceipt r x s)

/-! ### The recovery responder (R342, R391) -/

/-- The entries it reads: of the prefixes SYS_, FW_ and FLT_. -/
def responderReads (r : Req) : Bool := r.index == 0x1000 || r.index == 0x7800 || r.index == 0x7F00

/-- A chunk of the load. -/
def isRecoveryChunk (r : Req) : Bool := r.op == 0x11 && (reqEntry r).any fun e => isEnt Ent.FW_RECOVERY e.1

/-- The requests it handles. -/
def responderHandles (r : Req) : Bool :=
  ((r.op == 0x01 || r.op == 0x03) && responderReads r) || (r.op == 0x32 && r.h.seq == 0) || (r.op == 0x31 && r.h.seq != 0) ||
    (isRecoveryChunk r && r.h.seq != 0)

/-- A sequenced request at the responder: nothing is journaled, and the reply leaves at once. -/
def respond (r : Req) (id : Nat) (s : State) : State :=
  let (st, payload, s) : Nat × List Byte × State :=
    match r.op with
    | 0x01 => let (st, v) := readAnswer r s; (st, v, s)
    | 0x03 => let (st, v) := describeAnswer r; (st, v, s)
    | 0x11 =>
      if r.payload.length < 13 || 1036 < r.payload.length then (stType, [], s)
      else
        let (st, t) := recoveryChunk (fieldU r.payload 0 4) (fieldU r.payload 4 4) (fieldU r.payload 8 4) (r.payload.drop 12) s
        (st, [], t)
    | _ => (stDone, [], s)
  let reply := mkReply r st 0 payload
  let s := modSession id (fun x => { x with next := nextSeq r.h.seq, cache := (reply :: x.cache).take 32 }) s
  let s := sendReply reply s
  if r.op = 0x31 then dropSession id s else s

/-- SESSION_OPEN at the responder. -/
def respondOpen (r : Req) (s : State) : State :=
  let client := fieldU r.payload 0 8
  if !bitOf r.h.flags 0 then answer r stAccess noSession [] s
  else if r.payload.length != 8 then answer r stType 0 [] s
  else if !s.ses.svcEn then answer r stAccess 0 [] s
  else match s.ses.open_.find? (·.service) with
    | some x =>
      if x.client == client then sendReply { mkReply r stDone 0 (toBytes 4 x.next) with ses := x.id } s else answer r stLimit 0 [] s
    | none =>
      let id := s.ses.gen * 65536 + serviceSlot
      sendReply { mkReply r stDone 0 (toBytes 4 1) with ses := id } (openSession id client true s)

/-- The responder: only the service session, only over UDP. -/
def responder (r : Req) (s : State) : State :=
  match r.h.via with
  | .can => s
  | .udp _ _ _ =>
    if isOpen r then respondOpen r s
    else match s.ses.open_.find? fun x => x.service && x.id == r.h.ses with
      | none => answer r stAccess noSession [] s
      | some x =>
        let s := modSession x.id (fun y => { y with last := s.now }) s
        if !responderHandles r then answer r stTier 0 [] s
        else if r.h.seq = 0 then unsequenced r (some x) s
        else ordered respond false r x s

/-! ### Reception -/

/-- The address that the request was sent to is this member's (R248, R277). -/
def reaches (r : Req) (s : State) : Bool :=
  match r.h.via with
  | .udp _ _ own => !isFenced .n s && (own || (acts s && cfgN Ent.NET_SVC_IP s != 0))
  | .can => (sesCan s).isSome && !isFenced .b s

/-- A request of the service session by which a member that waits for a GRANT is made ACTIVE (R371, R373; log 50). -/
def forcing (r : Req) (s : State) : Bool :=
  s.pair.paired && s.pair.role != .active && s.pair.noGrant &&
  if isOpen r then bitOf r.h.flags 0
  else (sessionOf r.h.ses s).any (·.service) &&
    (r.op == 0x31 || r.op == 0x32 || (r.op == 0x02 && (reqEntry r).any fun e => isEnt Ent.PAIR_FORCE_ACTIVE e.1))

/-- A request that reaches a module which answers in its tier and role (R248, R258). -/
def receiveOpen (r : Req) (s : State) : State :=
  if forcing r s then (if isOpen r then openRequest r s else inSession r s)
  else if !tierAtLeast .watch s then s
  else if s.pair.paired && s.pair.role != .active && !plainRead r then answer r stAccess notActive [] s
  else if !plainRead r && !(tierAtLeast .limited s && s.ses.replayed) then answer r stTier 0 [] s
  else if isOpen r then openRequest r s
  else inSession r s

/-- A message of the object access protocol (R247, R248, R259). -/
def receive (r : Req) (s : State) : State :=
  if !reaches r s then s
  else if !formOk r then modSes (fun q => { q with crcErr := incSat32 q.crcErr }) s
  else if r.h.kind != 1 || !opKnown r.op then s
  else if isFenced .h s then
    match r.h.via with
    | .udp _ _ _ => if tierAtLeast .watch s then answer r stFenced 0 [] s else s
    | .can => s
  else if responderRuns s then responder r s
  else if 0 < s.ses.resumeIn then s
  else receiveOpen r s

/-! ### The rows: one per kind of request -/

/-- A request. -/
def request (h : Hdr) (op index sub : Nat) (payload : List Byte) (s : State) : Host.Outcome State Fault Refusal :=
  whenLiveK (receive { h := h, op := op, index := index, sub := sub, payload := payload }) s

/-- A WRITE of instance k of an entry. -/
def writeOf (e : Entry) (h : Hdr) (payload : List Byte) (s : State) (k : Nat := 0) : Host.Outcome State Fault Refusal :=
  request h 0x02 (e.index + e.istep * k) (e.sub + e.sstep * k) payload s

/-- READ (R245). -/
def execRead (h : Hdr) (index : Word16) (sub : Byte) (s : State) : Host.Outcome State Fault Refusal :=
  request h 0x01 index.toNat sub.toNat [] s

/-- WRITE (R245). -/
def execWrite (h : Hdr) (index : Word16) (sub : Byte) (payload : List Byte) (s : State) : Host.Outcome State Fault Refusal :=
  request h 0x02 index.toNat sub.toNat payload s

/-- DESCRIBE (R247). -/
def execDescribe (h : Hdr) (index : Word16) (sub : Byte) (s : State) : Host.Outcome State Fault Refusal :=
  request h 0x03 index.toNat sub.toNat [] s

/-- BLOCK_READ (R264). -/
def execBlockRead (h : Hdr) (index : Word16) (sub : Byte) (payload : List Byte) (s : State) : Host.Outcome State Fault Refusal :=
  request h 0x10 index.toNat sub.toNat payload s

/-- BLOCK_WRITE (R265). -/
def execBlockWrite (h : Hdr) (index : Word16) (sub : Byte) (payload : List Byte) (s : State) : Host.Outcome State Fault Refusal :=
  request h 0x11 index.toNat sub.toNat payload s

/-- COMMIT_NOW (R261). -/
def execCommitNow (h : Hdr) (s : State) : Host.Outcome State Fault Refusal := request h 0x20 0 0 [0#8] s

/-- COMMIT_AT_IDLE (R262). -/
def execCommitAtIdle (h : Hdr) (s : State) : Host.Outcome State Fault Refusal := request h 0x20 0 0 [1#8] s

/-- DISCARD (R260). -/
def execDiscard (h : Hdr) (s : State) : Host.Outcome State Fault Refusal := request h 0x21 0 0 [] s

/-- CANCEL_AT_IDLE (R262). -/
def execCancelAtIdle (h : Hdr) (payload : List Byte) (s : State) : Host.Outcome State Fault Refusal := request h 0x22 0 0 payload s

/-- SESSION_OPEN (R250). -/
def execSessionOpen (h : Hdr) (payload : List Byte) (s : State) : Host.Outcome State Fault Refusal := request h 0x30 0 0 payload s

/-- SESSION_CLOSE (R251). -/
def execSessionClose (h : Hdr) (s : State) : Host.Outcome State Fault Refusal := request h 0x31 0 0 [] s

/-- SESSION_STATE (R250). -/
def execSessionState (h : Hdr) (s : State) : Host.Outcome State Fault Refusal := request h 0x32 0 0 [] s

/-- CHN_ENUMERATE (R26). -/
def execChnEnumerate (h : Hdr) (payload : List Byte) (s : State) : Host.Outcome State Fault Refusal :=
  writeOf Ent.CHN_ENUMERATE h payload s

/-- CHN_PACK_KEY_WRITE (R54). -/
def execChnPackKeyWrite (h : Hdr) (payload : List Byte) (s : State) : Host.Outcome State Fault Refusal :=
  writeOf Ent.CHN_PACK_KEY h payload s

/-- CHN_KEY_NODE (R54). -/
def execChnKeyNode (h : Hdr) (payload : List Byte) (s : State) : Host.Outcome State Fault Refusal :=
  writeOf Ent.CHN_KEY_NODE h payload s

/-- LEAD_R_WRITE (R70): of the lower or the upper lead of a position. -/
def execLeadRWrite (h : Hdr) (pos : Fin 256) (hi : Bool) (payload : List Byte) (s : State) : Host.Outcome State Fault Refusal :=
  writeOf (if hi then Ent.CELL_LEAD_R_HI else Ent.CELL_LEAD_R_LO) h payload s pos.val

/-- EST_REST_REQ (R97). -/
def execEstRestReq (h : Hdr) (payload : List Byte) (s : State) : Host.Outcome State Fault Refusal :=
  writeOf Ent.EST_REST_REQ h payload s

/-- CELL_ID_ACK (R128). -/
def execCellIdAck (h : Hdr) (pos : Fin 256) (payload : List Byte) (s : State) : Host.Outcome State Fault Refusal :=
  writeOf Ent.CELL_ID_ACK h payload s pos.val

/-- EST_ID_ACK_ALL (R128). -/
def execEstIdAckAll (h : Hdr) (payload : List Byte) (s : State) : Host.Outcome State Fault Refusal :=
  writeOf Ent.EST_ID_ACK_ALL h payload s

/-- CVT_PHASE_RESTORE (R160). -/
def execCvtPhaseRestore (h : Hdr) (payload : List Byte) (s : State) : Host.Outcome State Fault Refusal :=
  writeOf Ent.CVT_PHASE_RESTORE h payload s

/-- MODE_CMD_PARKED (R165): a write of 0 to SP_MODE_CMD. -/
def execModeCmdParked (h : Hdr) (payload : List Byte) (s : State) : Host.Outcome State Fault Refusal :=
  writeOf Ent.SP_MODE_CMD h payload s

/-- MODE_CMD_STANDBY (R165): a write of 1 to SP_MODE_CMD. -/
def execModeCmdStandby (h : Hdr) (payload : List Byte) (s : State) : Host.Outcome State Fault Refusal :=
  writeOf Ent.SP_MODE_CMD h payload s

/-- MODE_CMD_RUN (R165): a write of 2, 3 or 4 to SP_MODE_CMD. -/
def execModeCmdRun (h : Hdr) (payload : List Byte) (s : State) : Host.Outcome State Fault Refusal :=
  writeOf Ent.SP_MODE_CMD h payload s

/-- PROT_TRIP_RESET (R197). -/
def execProtTripReset (h : Hdr) (payload : List Byte) (s : State) : Host.Outcome State Fault Refusal :=
  writeOf Ent.PROT_TRIP_RESET h payload s

/-- PROT_EMERGENCY_OPEN (R202). -/
def execProtEmergencyOpen (h : Hdr) (payload : List Byte) (s : State) : Host.Outcome State Fault Refusal :=
  writeOf Ent.PROT_EMERGENCY_OPEN h payload s

/-- DSP_P_REQ (R206). -/
def execDspPReq (h : Hdr) (payload : List Byte) (s : State) : Host.Outcome State Fault Refusal := writeOf Ent.DSP_P_REQ h payload s

/-- DSP_I_REQ (R206). -/
def execDspIReq (h : Hdr) (payload : List Byte) (s : State) : Host.Outcome State Fault Refusal := writeOf Ent.DSP_I_REQ h payload s

/-- DSP_REST_GRANT (R209). -/
def execDspRestGrant (h : Hdr) (payload : List Byte) (s : State) : Host.Outcome State Fault Refusal :=
  writeOf Ent.DSP_REST_GRANT h payload s

/-- CAN_TX (R298). -/
def execCanTx (h : Hdr) (ch : CanCh) (payload : List Byte) (s : State) : Host.Outcome State Fault Refusal :=
  writeOf Ent.CAN_TX h payload s (chNo ch)

/-- CAN_RECOVER (R302). -/
def execCanRecover (h : Hdr) (ch : CanCh) (payload : List Byte) (s : State) : Host.Outcome State Fault Refusal :=
  writeOf Ent.CAN_RECOVER h payload s (chNo ch)

/-- CAN_SLEEP (R305). -/
def execCanSleep (h : Hdr) (ch : CanCh) (payload : List Byte) (s : State) : Host.Outcome State Fault Refusal :=
  writeOf Ent.CAN_SLEEP h payload s (chNo ch)

/-- CAN_WAKE_WRITE (R305): a write of 0 to CAN_SLEEP. -/
def execCanWakeWrite (h : Hdr) (ch : CanCh) (payload : List Byte) (s : State) : Host.Outcome State Fault Refusal :=
  writeOf Ent.CAN_SLEEP h payload s (chNo ch)

/-- DIO_DQ_CMD (R318). -/
def execDioDqCmd (h : Hdr) (payload : List Byte) (s : State) : Host.Outcome State Fault Refusal := writeOf Ent.DIO_DQ_CMD h payload s

/-- DIO_DQ_RETRY (R319). -/
def execDioDqRetry (h : Hdr) (payload : List Byte) (s : State) : Host.Outcome State Fault Refusal :=
  writeOf Ent.DIO_DQ_RETRY h payload s

/-- DIO_SQ_CMD (R322). -/
def execDioSqCmd (h : Hdr) (payload : List Byte) (s : State) : Host.Outcome State Fault Refusal := writeOf Ent.DIO_SQ_CMD h payload s

/-- SYS_RESET_CMD (R347). -/
def execSysResetCmd (h : Hdr) (payload : List Byte) (s : State) : Host.Outcome State Fault Refusal :=
  writeOf Ent.SYS_RESET_CMD h payload s

/-- SELFTEST_MEMORY (R348): a write of 1 to SYS_SELFTEST_REQ. -/
def execSelftestMemory (h : Hdr) (payload : List Byte) (s : State) : Host.Outcome State Fault Refusal :=
  writeOf Ent.SYS_SELFTEST_REQ h payload s

/-- SELFTEST_INPUT_CAL (R348): a write of 2 to SYS_SELFTEST_REQ. -/
def execSelftestInputCal (h : Hdr) (payload : List Byte) (s : State) : Host.Outcome State Fault Refusal :=
  writeOf Ent.SYS_SELFTEST_REQ h payload s

/-- SELFTEST_RESTART_TEST (R348): a write of 3 to SYS_SELFTEST_REQ. -/
def execSelftestRestartTest (h : Hdr) (payload : List Byte) (s : State) : Host.Outcome State Fault Refusal :=
  writeOf Ent.SYS_SELFTEST_REQ h payload s

/-- PAIR_HANDOVER (R375). -/
def execPairHandover (h : Hdr) (payload : List Byte) (s : State) : Host.Outcome State Fault Refusal :=
  writeOf Ent.PAIR_HANDOVER h payload s

/-- PAIR_FORCE_ACTIVE (R373). -/
def execPairForceActive (h : Hdr) (payload : List Byte) (s : State) : Host.Outcome State Fault Refusal :=
  writeOf Ent.PAIR_FORCE_ACTIVE h payload s

/-- FW_APPLY (R383). -/
def execFwApply (h : Hdr) (payload : List Byte) (s : State) : Host.Outcome State Fault Refusal := writeOf Ent.FW_APPLY h payload s

/-- FW_ABORT (R384). -/
def execFwAbort (h : Hdr) (payload : List Byte) (s : State) : Host.Outcome State Fault Refusal := writeOf Ent.FW_ABORT h payload s

/-- FW_ACTIVATE_SELF (R386): a write of 1 to FW_ACTIVATE. -/
def execFwActivateSelf (h : Hdr) (payload : List Byte) (s : State) : Host.Outcome State Fault Refusal :=
  writeOf Ent.FW_ACTIVATE h payload s

/-- FW_ACTIVATE_PARTNER (R394): a write of 2 to FW_ACTIVATE. -/
def execFwActivatePartner (h : Hdr) (payload : List Byte) (s : State) : Host.Outcome State Fault Refusal :=
  writeOf Ent.FW_ACTIVATE h payload s

/-- FW_RECOVERY_CHUNK (R391). -/
def execFwRecoveryChunk (h : Hdr) (payload : List Byte) (s : State) : Host.Outcome State Fault Refusal :=
  request h 0x11 Ent.FW_RECOVERY.index Ent.FW_RECOVERY.sub payload s

/-- REC_HOLD (R418). -/
def execRecHold (h : Hdr) (payload : List Byte) (s : State) : Host.Outcome State Fault Refusal := writeOf Ent.REC_HOLD h payload s

/-! ### Requests over CAN (R249) -/

/-- A request from the bytes of a message; none where the message is shorter than its own LEN says. -/
def parseMessage (b : List Byte) : Option Req :=
  let n := fieldU b 24 2
  if b.length < 30 + n then none
  else
    let h : Hdr :=
      { via := .can, ver := fieldU b 0 1 / 16, kind := fieldU b 0 1 % 16, flags := fieldU b 2 1, status := fieldU b 3 1
        ses := fieldU b 4 4, seq := fieldU b 8 4, rsv := fieldU b 15 1, jseq := fieldU b 16 8, crc := fieldU b (26 + n) 4 }
    some { h := h, op := fieldU b 1 1, index := fieldU b 12 2, sub := fieldU b 14 1, payload := slice b 26 n }

/-- A complete message (R249); one that is cut short fails its CRC (R247). -/
def canMessage (b : List Byte) (s : State) : State :=
  match parseMessage b with
  | some r => receive r s
  | none => modSes (fun q => { q with crcErr := incSat32 q.crcErr }) s

/-- More than 50 ms have passed since the last segment of an unfinished message (R249). -/
def segmentLate (s : State) : Bool := match s.ses.canRx with | some (_, _, t) => decide (t + 50000000 < s.now) | none => false

/-- A segment (R249): FIRST discards an unfinished message; a break of the SCNT order discards the message. -/
def canSegment (bytes : List Byte) (s : State) : State :=
  let s := if segmentLate s then modSes (fun q => { q with canRx := none }) s else s
  let sb := fieldU bytes 0 1
  let scnt := sb % 64
  let data := bytes.drop 1
  let got : Option (List Byte) :=
    if bitOf sb 7 then (if scnt = 0 then some data else none)
    else match s.ses.canRx with
      | some (b, prev, _) => if scnt == (prev + 1) % 64 then some (b ++ data) else none
      | none => none
  match got with
  | none => modSes (fun q => { q with canRx := none }) s
  | some b =>
    if bitOf sb 6 then canMessage b (modSes (fun q => { q with canRx := none }) s)
    else modSes (fun q => { q with canRx := some (b, scnt, s.now) }) s

/-- CAN_SEGMENT (R249): one frame's data under SES_CAN_REQ_ID on the configured channel. -/
def execCanSegment (bytes : List Byte) (s : State) : Host.Outcome State Fault Refusal :=
  whenLiveK (fun s => guardOn ((sesCan s).isSome && !isFenced .b s && !isFenced .h s && !bytes.isEmpty) (canSegment bytes) s) s

/-- CAN_SEGMENT_TIMEOUT (R249). -/
def execCanSegmentTimeout (s : State) : Host.Outcome State Fault Refusal :=
  whenLiveK (fun s => guardOn (segmentLate s) (modSes fun q => { q with canRx := none }) s) s

/-! ### Timers of a session -/

/-- The open session in a slot. -/
def sessionIn (slot : Nat) (s : State) : Option Session := s.ses.open_.find? (·.id % 65536 == slot)

/-- GAP_TIMEOUT (R253): a held request has waited SES_GAP_T. -/
def gapTimeout (slot : Nat) (s : State) : State :=
  match sessionIn slot s with
  | some x => guardOn (x.held.any fun h => h.since + cfgN Ent.SES_GAP_T s * 1000000 ≤ s.now) (gapHeld x) s
  | none => s

/-- GAP_TIMEOUT (R253). -/
def execGapTimeout (slot : Nat) (s : State) : Host.Outcome State Fault Refusal := whenLiveK (gapTimeout slot) s

/-- A session closes by itself; closing is journaled, but not by the responder (R251, R342). -/
def closeSession (x : Session) (s : State) : State :=
  let s := dropSession x.id s
  if responderRuns s then s else journalOwn 0x03 (sessionPayload 2 x.id x.client x.service) s

/-- SESSION_IDLE_TIMEOUT (R251): SES_IDLE_T has passed without a request. The member that acts closes its sessions. -/
def sessionIdleTimeout (slot : Nat) (s : State) : State :=
  match sessionIn slot s with
  | some x => guardOn ((acts s || responderRuns s) && x.last + cfgN Ent.SES_IDLE_T s * 1000000000 ≤ s.now) (closeSession x) s
  | none => s

/-- SESSION_IDLE_TIMEOUT (R251). -/
def execSessionIdleTimeout (slot : Nat) (s : State) : Host.Outcome State Fault Refusal := whenLiveK (sessionIdleTimeout slot) s

/-- SNAPSHOT_TIMEOUT (R264): 10 s without a request. -/
def snapshotTimeout (slot : Nat) (s : State) : State :=
  match sessionIn slot s with
  | some x => guardOn (x.last + 10000000000 ≤ s.now) (modSession x.id fun y => { y with snap := none }) s
  | none => s

/-- SNAPSHOT_TIMEOUT (R264). -/
def execSnapshotTimeout (slot : Nat) (s : State) : Host.Outcome State Fault Refusal := whenLiveK (snapshotTimeout slot) s

/-- SVC_EN released (R250): the service session closes. -/
def svcEnRelease (s : State) : State :=
  let s := modSes (fun q => { q with svcEn := false }) s
  forAll (s.ses.open_.filter (·.service)) closeSession s

/-- SVC_EN_RELEASE (R250). -/
def execSvcEnRelease (s : State) : Host.Outcome State Fault Refusal := whenLiveK svcEnRelease s

end Sys2Proof.Machine
end

