-- ==== Sys2Proof/Machine/Shift.lean ====
section
/-! DEFINITION. The one step of the local clock (R285): every instant that the module holds moves by the same amount, so that no
interval changes. Times that a record in MRAM shows stay as they were written (DEDUCED, log 51). -/
namespace Sys2Proof.Machine
open Sys2Proof

/-- An instant moved by d ns. -/
def moveT (d : Int) (t : Nat) : Nat := ((t : Int) + d).toNat

/-- An optional instant moved. -/
def moveO (d : Int) (t : Option Nat) : Option Nat := t.map (moveT d)

/-- Instants of the chain. -/
def moveHalf (d : Int) (h : HalfSweep) : HalfSweep :=
  { h with doneAt := moveT d h.doneAt, recInstant := moveT d h.recInstant, recEndAt := moveT d h.recEndAt }

/-- The instant at which a REPLY is due. -/
def moveAwait (d : Int) (a : Option Await) : Option Await := a.map fun x => { x with due := moveT d x.due }

/-- Instants of the running sweep. -/
def moveSweep (d : Int) (x : Sweep) : Sweep :=
  { x with launch := moveT d x.launch, instant := moveT d x.instant, a := moveHalf d x.a, b := moveHalf d x.b
           got := x.got.map fun g => { g with instant := moveT d g.instant } }

/-- Instants of a cell. -/
def moveCell (d : Int) (c : Cell) : Cell :=
  { c with instant := moveT d c.instant, lastValid := moveO d c.lastValid, lastValidT := moveO d c.lastValidT }

/-- Chain and cells. -/
def moveChain (d : Int) (s : State) : State :=
  { s with
    chain := { s.chain with sweep := moveSweep d s.chain.sweep, lastInstant := moveT d s.chain.lastInstant }
    chctl := { s.chctl with
      enumEnd := moveT d s.chctl.enumEnd, busyA := moveT d s.chctl.busyA, busyB := moveT d s.chctl.busyB
      awaitA := moveAwait d s.chctl.awaitA, awaitB := moveAwait d s.chctl.awaitB }
    cells := { s.cells with
      nodes := s.cells.nodes.map fun n => { n with dutyAt := moveT d n.dutyAt }
      cells := s.cells.cells.map (moveCell d)
      done := s.cells.done.map (moveCell d) } }

/-- The estimator: coulomb stamps and rest points. -/
def moveEst (d : Int) (s : State) : State :=
  { s with
    ident := { s.ident with
      pendSince := moveT d s.ident.pendSince, hourAt := moveO d s.ident.hourAt
      pos := s.ident.pos.map fun p => { p with waitSince := moveO d p.waitSince } }
    est := { s.est with
      samples := s.est.samples.map fun c => { c with t := moveT d c.t }
      lastUseAt := moveT d s.est.lastUseAt, countedTo := moveT d s.est.countedTo, noneSince := moveO d s.est.noneSince, cpAt := moveO d s.est.cpAt
      stageI := s.est.stageI.map fun x => (moveT d x.1, x.2)
      hibSince := moveT d s.est.hibSince, restDue := moveO d s.est.restDue, pseudoDue := moveO d s.est.pseudoDue } }

/-- Persistences of a position. -/
def movePos (d : Int) (p : PosProt) : PosProt :=
  { p with ovWarn := moveO d p.ovWarn, ovTrip := moveO d p.ovTrip, uvWarn := moveO d p.uvWarn, uvTrip := moveO d p.uvTrip
           otWarn := moveO d p.otWarn, otTrip := moveO d p.otTrip, faultSince := moveT d p.faultSince }

/-- Persistences of a current source. -/
def moveSrc (d : Int) (p : SrcProt) : SrcProt :=
  { p with disWarn := moveO d p.disWarn, disTrip := moveO d p.disTrip, chgWarn := moveO d p.chgWarn, chgTrip := moveO d p.chgTrip }

/-- Instants of a contactor. -/
def moveContactor (d : Int) (c : Contactor) : Contactor := { c with coilAt := moveT d c.coilAt, auxAt := moveT d c.auxAt }

/-- Protection and the safety functions. -/
def moveProt (d : Int) (s : State) : State :=
  { s with
    prot := { s.prot with
      pos := s.prot.pos.map (movePos d), mappedAt := moveT d s.prot.mappedAt
      srcC := moveSrc d s.prot.srcC, srcS := moveSrc d s.prot.srcS
      bothMissing := moveO d s.prot.bothMissing, xchkSince := moveO d s.prot.xchkSince, laneBy := moveO d s.prot.laneBy
      stepAt := moveT d s.prot.stepAt, main := moveContactor d s.prot.main, neg := moveContactor d s.prot.neg
      pre := moveContactor d s.prot.pre, offSince := moveT d s.prot.offSince, weldSince := moveO d s.prot.weldSince }
    saf := { s.saf with
      heldCopies := s.saf.heldCopies.map fun h => { h with at_ := moveT d h.at_ }
      lone := s.saf.lone.map (moveT d), ranAt := moveT d s.saf.ranAt, cycleAt := moveO d s.saf.cycleAt
      wdFrom := moveT d s.saf.wdFrom, statAt := moveO d s.saf.statAt, scanAt := moveT d s.saf.scanAt
      trSince := s.saf.trSince.map (moveO d), rstAt := moveO d s.saf.rstAt } }

/-- Link, timebase and set-point sources. -/
def moveLink (d : Int) (s : State) : State :=
  { s with
    link := { s.link with
      lateAt := s.link.lateAt.map (moveT d), doneAt := moveT d s.link.doneAt
      imbWarn := s.link.imbWarn.map (moveO d), imbShed := s.link.imbShed.map (moveO d) }
    tb := { s.tb with
      lastEdge := moveO d s.tb.lastEdge, edge := s.tb.edge + d * 1000, valley := moveT (d * 2 / 5) s.tb.valley
      arrival := s.tb.arrival.map fun x => (moveT d x.1, x.2) }
    sp := { s.sp with
      ai := { s.sp.ai with rise := moveO d s.sp.ai.rise, since := moveT d s.sp.ai.since }
      pi := { s.sp.pi with rise := moveO d s.sp.pi.rise, since := moveT d s.sp.pi.since }
      holdEnd := moveO d s.sp.holdEnd, lowSince := moveO d s.sp.lowSince }
    dsp := { s.dsp with restEnd := moveO d s.dsp.restEnd, silentFrom := moveO d s.dsp.silentFrom } }

/-- Instants of a PTP instance; its offset follows the local clock's step. -/
def moveInst (d : Int) (x : PtpInst) : PtpInst :=
  { x with masters := x.masters.map (fun m => { m with at_ := moveT d m.at_ }), master := x.master.map (fun m => { m with at_ := moveT d m.at_ })
           gmSince := moveT d x.gmSince, syncAt := moveT d x.syncAt, usableSince := moveO d x.usableSince
           offset := if x.master.isSome then x.offset + d else x.offset }

/-- Field, network, PTP and CAN. -/
def moveField (d : Int) (s : State) : State :=
  { s with
    dio := { s.dio with
      di := s.dio.di.map fun x => { x with condAt := moveT d x.condAt }
      dq := s.dio.dq.map fun x => { x with cycles := x.cycles.map (moveT d), olSince := x.olSince.map fun y => (moveT d y.1, y.2) }
      sq := s.dio.sq.map fun x => { x with
        change := moveT d x.change, testAt := moveO d x.testAt, limSince := moveO d x.limSince
        lowSince := moveO d x.lowSince, extSince := moveO d x.extSince }
      test := s.dio.test.map fun x => (x.1, x.2.1, moveT d x.2.2), strobeAt := s.dio.strobeAt.map (moveO d)
      vfAt := moveO d s.dio.vfAt, ovSince := moveO d s.dio.ovSince, lowSince := moveO d s.dio.lowSince
      retSince := moveO d s.dio.retSince }
    net := { s.net with
      seen := s.net.seen.map fun x => { x with at_ := moveT d x.at_ }
      nodes := s.net.nodes.map fun x => (x.1, moveT d x.2)
      ports := s.net.ports.map fun x => { x with pdAt := moveO d x.pdAt }
      fdbA := s.net.fdbA.map fun x => { x with at_ := moveT d x.at_ }, fdbB := s.net.fdbB.map fun x => { x with at_ := moveT d x.at_ }
      heardA := moveO d s.net.heardA, heardB := moveO d s.net.heardB, supAt := moveO d s.net.supAt
      garpAt := moveO d s.net.garpAt, renewAt := moveO d s.net.renewAt, dhcpAt := moveO d s.net.dhcpAt
      probeAt := moveT d s.net.probeAt
      wrongAt := s.net.wrongAt.map (fun x => (x.1, moveT d x.2)), dropAt := s.net.dropAt.map (moveT d), pings := s.net.pings.map (moveT d)
      leaseEnd := moveO d s.net.leaseEnd }
    ptp := { s.ptp with
      pend := s.ptp.pend.map fun p => { p with t := moveT d p.t }
      inst := s.ptp.inst.map (moveInst d)
      offset := satS 32 (s.ptp.offset + d), storeAt := moveO d s.ptp.storeAt
      freqLog := s.ptp.freqLog.map fun x => (moveT d x.1, x.2)
      domSince := moveO d s.ptp.domSince, lanSince := moveO d s.ptp.lanSince }
    can := { s.can with tmAt := moveO d s.can.tmAt, ch := s.can.ch.map fun c =>
      { c with
        txd := c.txd.map (moveT d), sleepAt := moveT d c.sleepAt, offAt := moveT d c.offAt, recAt := moveT d c.recAt
        bufs := c.bufs.map fun m => { m with stamp := moveT d m.stamp }
        fifo := c.fifo.map fun m => { m with stamp := moveT d m.stamp }
        image := c.image.map fun m => { m with stamp := moveT d m.stamp } } } }

/-- Sessions, faults, memory, recorder, pair and system. -/
def moveHost (d : Int) (s : State) : State :=
  { s with
    ses := { s.ses with canRx := s.ses.canRx.map (fun x => (x.1, x.2.1, moveT d x.2.2)), open_ := s.ses.open_.map fun x =>
      { x with last := moveT d x.last, held := x.held.map fun h => { h with since := moveT d h.since } } }
    flt := { s.flt with
      active := s.flt.active.map fun a => { a with since := moveT d a.since, seen := moveT d a.seen }
      events := s.flt.events.map fun e => { e with time := moveT d e.time }
      windows := s.flt.windows.map fun w => { w with times := w.times.map (moveT d) } }
    mem := { s.mem with regions := s.mem.regions.map fun r => { r with recent := r.recent.map (moveT d), readAt := r.readAt.map (moveT d) } }
    recd := { s.recd with holdFrom := moveT d s.recd.holdFrom, holdEnd := moveT d s.recd.holdEnd }
    pair := { s.pair with
      leaseEnd := moveT d s.pair.leaseEnd, leaseAt := moveO d s.pair.leaseAt
      sends := s.pair.sends.map fun x => (x.1, moveT d x.2)
      ctxAt := moveO d s.pair.ctxAt, rejoin := moveO d s.pair.rejoin, rejoinAt := moveT d s.pair.rejoinAt }
    sup := { s.sup with
      readAt := moveO d s.sup.readAt, holdAt := moveO d s.sup.holdAt, gaugeAt := moveO d s.sup.gaugeAt
      lowFrom := moveO d s.sup.lowFrom, highFrom := moveO d s.sup.highFrom, frzAt := moveT d s.sup.frzAt }
    sys := { s.sys with
      t0 := moveT d s.sys.t0, gaDiff := moveO d s.sys.gaDiff, gaAt := moveO d s.sys.gaAt
      calBegan := moveO d s.sys.calBegan, calStepAt := moveT d s.sys.calStepAt } }

/-- Every instant moves. -/
def moveAll (d : Int) (s : State) : State :=
  moveHost d (moveField d (moveLink d (moveProt d (moveEst d (moveChain d { s with now := moveT d s.now, frameAt := moveT d s.frameAt })))))

/-- The step that falls due at this frame boundary (R285). -/
def clockStep (s : State) : State :=
  match s.ptp.stepDue with
  | some ms => moveAll (ms * 1000000) { s with ptp := { s.ptp with stepDue := none, stepMs := ms } }
  | none => s

end Sys2Proof.Machine
end

