-- ==== Sys2Proof/Machine/Clear.lean ====
section
/-! DEFINITION. How a code clears by time (R466), and how J writes the fault log (R471 to R473). -/
namespace Sys2Proof.Machine
open Sys2Proof

/-! ### Codes that clear once their cause has been absent (R466, Table 22-1) -/

/-- The codes whose owning table, or the default of Table 22-1, clears them by time or by sweeps without their cause. Every other
code clears at an event, which clears it in the command of that event. -/
def timeCleared : List Nat := [
  0x1008, 0x1009, 0x1101,
  0x2003, 0x2004, 0x2005, 0x2006, 0x2007, 0x2008, 0x200A, 0x200B,
  0x2103, 0x2104, 0x2105, 0x2106, 0x2107, 0x2109,
  0x3001, 0x3003, 0x3004, 0x3006, 0x300A, 0x300C,
  0x4003, 0x4004, 0x4005, 0x4008, 0x400A, 0x400B, 0x400C, 0x4010,
  0x5001, 0x5003, 0x5005, 0x5007, 0x5009, 0x500C, 0x500D, 0x500E, 0x500F, 0x5013, 0x5016,
  0x580B, 0x580D, 0x580E, 0x580F, 0x5812,
  0x6001, 0x6003, 0x6004, 0x6010, 0x6011, 0x6020, 0x6022, 0x6031, 0x6033,
  0x6807, 0x6808, 0x6809, 0x680A,
  0x7001, 0x7002, 0x7003, 0x7004, 0x7005, 0x7006, 0x7007, 0x7008, 0x7010, 0x7012, 0x7014, 0x7015, 0x7016,
  0x7801, 0x7804, 0x7805, 0x7806, 0x780C,
  0x7C04, 0x7C05]

/-- The codes that clear after 60 s whatever their cause. -/
def after60s : List Nat := [0x1009, 0x7805, 0x7C04, 0x7C05]

/-- A position's value lies beyond a level. -/
def above (x : Option Nat) (lim : Int) : Bool := match x with | some v => decide ((v : Int) > lim) | none => false

/-- A source's current, as it flows out of the string or into it, lies beyond a level. -/
def beyond (i : Option Int) (dis : Bool) (lim : Int) : Bool := match i with | some v => decide ((if dis then v else -v) > lim) | none => false

/-- The codes of Tables 2-15 and 3-7 that clear 10 sweeps after their cause (R57, R78). -/
def sweepCleared : List Nat :=
  [0x2003, 0x2004, 0x2005, 0x2006, 0x2007, 0x2008, 0x200A, 0x200B, 0x2103, 0x2104, 0x2105, 0x2106, 0x2107, 0x2109]

/-- The cause of a chain, cell or estimator code that the state shows. -/
def causeChain (code inst : Nat) (s : State) : Bool :=
  if sweepCleared.contains code then !tenClean code inst s
  else match code with
  | 0x3006 => !setStored (tsetOf inst s) s
  | 0x300C => 10 ≤ (flAt inst s).outRun
  | 0x1008 => s.sup.frzIn && !bitOf s.saf.dip 2
  | 0x1101 =>
    cfgN Ent.MEM_CORR_WARN s < ((region inst s).recent.filter fun t => s.now < t + 3600000000000).length
  | _ => false

/-- The cause of a link, protection or safety code that the state shows. -/
def causeControl (code inst : Nat) (s : State) : Bool :=
  let p := ppAt inst s
  match code with
  | 0x4003 => cfgN Ent.CVT_SAMPLE_MISS_MAX s ≤ s.link.missRun
  | 0x4005 => 3 ≤ s.link.dseqRun
  | 0x4004 => 10 < (s.link.lateAt.filter fun t => s.now < t + 1000000000).length
  | 0x4008 => s.link.stage.known && freqUnsupported s
  | 0x400A => tbSource s = 1 && edgeOutOfRange s
  | 0x400B => s.link.sample.selConflict || laneIgnored s.link.sample s
  | 0x4010 => s.tb.imbPhase.any fun m => cfgN Ent.CVT_IMB_WARN s < m
  | 0x400C => s.link.sample.stopped && s.link.last.run
  | 0x5001 => above p.v (cfg Ent.PROT_OV_WARN s)
  | 0x5003 => match p.v with | some v => decide ((v : Int) < cfg Ent.PROT_UV_WARN s) | none => false
  | 0x5005 => match p.t with | some t => decide (t > cfg Ent.PROT_OT_WARN s) | none => false
  | 0x5007 => beyond s.prot.iC true (cfg Ent.PROT_OC_DIS_WARN s) || beyond s.prot.iS true (cfg Ent.PROT_OC_DIS_WARN s)
  | 0x5009 => beyond s.prot.iC false (cfg Ent.PROT_OC_CHG_WARN s) || beyond s.prot.iS false (cfg Ent.PROT_OC_CHG_WARN s)
  | 0x500C => s.prot.xchkSince.isSome
  | 0x500D => s.prot.iC.isNone != s.prot.iS.isNone
  | 0x500E => p.faulted && p.silent
  | 0x500F => p.faulted && !p.silent
  | 0x580B => s.saf.swInvalid
  | 0x580E => 10 < (s.saf.lone.filter fun t => s.now < t + 1000000000).length
  | 0x580F => s.saf.rst || !rstFor 1000000000 s
  | 0x5812 => levelInside s
  | _ => false

/-- The cause of a field, network or pair code that the state shows. -/
def causeField (code inst : Nat) (s : State) : Bool :=
  match code with
  | 0x6001 => s.dio.vf < 18000
  | 0x6003 => s.dio.vf > 32000
  | 0x6020 => dqLimiting inst s
  | 0x6022 => (dqAt inst s).olSince.isSome
  | 0x6031 => (sqAt inst s).limSince.isSome
  | 0x6033 => (sqAt inst s).lowSince.isSome
  | 0x6004 => s.dio.vf < -1000
  | 0x6010 => (diAt inst s).cond == .open_
  | 0x6011 => (diAt inst s).cond == .short
  | 0x7001 => !(getAt s.net.ports 0).link
  | 0x7002 => !(getAt s.net.ports 1).link
  | 0x7003 => !(getAt s.net.ports 2).link
  | 0x7004 => !(getAt s.net.ports 3).link
  | 0x7005 => !s.net.rxA
  | 0x7006 => !s.net.rxB
  | 0x7007 => 10 < wrongCount .a s || 10 < wrongCount .b s
  | 0x7008 => 100 < (s.net.dropAt.filter fun t => s.now < t + 1000000000).length
  | 0x7010 => s.ptp.state == .holdover
  | 0x7014 => s.net.ports.toList.any fun x => x.link && !x.capable
  | 0x7012 => s.ptp.domSince.isSome
  | 0x7015 => s.ptp.lanSince.isSome
  | 0x7016 => s.net.svcSeen
  | 0x7801 => mirrorUp s && !(s.pair.mir0 && s.pair.mir1)
  | 0x7804 => s.pair.role == .active && s.pair.lease == .expired
  | 0x780C => mirrorUp s && !aliveOn s
  | _ => false

/-- What of a code's cause the state shows. -/
def causePresent (code inst : Nat) (s : State) : Bool := causeChain code inst s || causeControl code inst s || causeField code inst s

/-- How long the cause of a code must have been absent, in ns, where no sweeps are counted (Table 22-1). -/
def absentNs (code : Nat) : Nat :=
  if code / 256 = 0x11 then 3600000000000 else if code / 256 = 0x30 then 60000000000 else 1000000000

/-- The clearing time of an active code has passed: 60 s from its raise, 10 sweeps, or the time of its domain since its cause was last
seen (R57, R78, R466). -/
def clearDue (a : ActiveFault) (s : State) : Bool :=
  if after60s.contains a.code then a.since + 60000000000 ≤ s.now
  else !causePresent a.code a.inst s &&
    (sweepCleared.contains a.code || a.code == 0x580F ||
      (if a.code == 0x6010 || a.code == 0x6011 then wireLasted a.inst s else a.seen + absentNs a.code ≤ s.now))

/-- The causes that the state shows at a frame are seen. -/
def seeCauses (s : State) : State := seenF (fun a => causePresent a.code a.inst s) s

/-- FAULT_CLEAR: the code clears for the instance. With 0x580F the block on resets ends (R235). -/
def faultClear (code inst : Nat) (s : State) : State :=
  guardOn (timeCleared.contains code && s.flt.active.any fun a => a.code == code && a.inst == inst && clearDue a s) (fun s =>
    if code = 0x580F then unblock s else clearF code inst s) s

/-- FAULT_CLEAR (R466): the event is the end of the clearing time. -/
def execFaultClear (code inst : Nat) (s : State) : Host.Outcome State Fault Refusal := whenLiveK (faultClear code inst) s

/-! ### The fault log (R471 to R473) -/

/-- Write an entry into the ring of 32,768. -/
def writeLog (code inst : Nat) (ev : FaultEv) (count time : Nat) (s : State) : State :=
  let e : LogEntry :=
    { seq := s.flt.logSeq + 1, code := code, inst := inst, ev := ev, member := if s.pair.paired then s.pair.member else 0
      count := count, time := time, opSec := s.sys.opSec, pcyc := s.sys.pcyc }
  { s with flt := { s.flt with log := (e :: s.flt.log).take 32768, logSeq := s.flt.logSeq + 1 } }

/-- The order of the events of a frame: TIME, CODE, INSTANCE, RAISED before CLEARED; a START entry first. -/
def eventBefore (a b : FaultEvent) : Bool :=
  let k (e : FaultEvent) : List Nat :=
    [if e.ev == .start then 0 else 1, e.time, e.code, e.inst, if e.ev == .cleared then 1 else 0]
  k a ≤ k b

/-- The RAISED events of the last 60 s of a code and instance. -/
def recentTimes (w : Suppress) (s : State) : List Nat := w.times.filter fun t => s.now < t + 60000000000

/-- A SUPPRESSED entry for each code and instance whose window has freed (R473); windows without content go. -/
def flushWindows (s : State) : State :=
  let ws := s.flt.windows.map fun w => { w with times := recentTimes w s }
  let free (w : Suppress) : Bool := 0 < w.count && w.times.length < s.flt.suppressMax
  let s := forAll (ws.filter free) (fun w s => writeLog w.code w.inst .suppressed (min 255 w.count) s.now s) s
  let ws := ws.map fun w => if free w then { w with count := 0 } else w
  { s with flt := { s.flt with windows := ws.filter fun w => 0 < w.count || !w.times.isEmpty } }

/-- The window of a code and instance. -/
def windowOf (code inst : Nat) (s : State) : Suppress :=
  (s.flt.windows.find? fun w => w.code == code && w.inst == inst).getD { code := code, inst := inst, times := [], count := 0 }

/-- Put a window. -/
def putWindow (w : Suppress) (s : State) : State :=
  { s with flt := { s.flt with windows := w :: s.flt.windows.filter fun x => !(x.code == w.code && x.inst == w.inst) } }

/-- One event: logged, or counted as suppressed (R473; DEDUCED, log 52: from the FLT_SUPPRESS_MAX-th RAISED event on, also the
CLEARED event of that one). -/
def logEvent (e : FaultEvent) (s : State) : State :=
  if e.ev == .start then writeLog 0 e.inst .start 0 e.time s
  else
    let w := windowOf e.code e.inst s
    if s.flt.suppressMax ≤ w.times.length then
      let s := putWindow { w with count := w.count + 1 } s
      { s with flt := { s.flt with suppressed := incSat32 s.flt.suppressed } }
    else
      let s := if e.ev == .raised then putWindow { w with times := e.time :: w.times } s else s
      writeLog e.code e.inst e.ev 0 e.time s

/-- Step 9: J writes the events of the frame; while it is fenced none are logged (R472). -/
def logFrame (s : State) : State :=
  let es := s.flt.events
  let s := { s with flt := { s.flt with events := [] } }
  if isFenced .j s then s else forAll (sortBy eventBefore es) logEvent (flushWindows s)

end Sys2Proof.Machine
end

