-- ==== Sys2Proof/Machine/Frame.lean ====
section
/-! DEFINITION. The frame tick and the order of a frame's host tasks (01_string_and_chassis R17 to R19, Table 1-3). -/
namespace Sys2Proof.Machine
open Sys2Proof

/-! ### What a frame boundary does -/

/-- One frame later. -/
def advance (s : State) : State :=
  let b := s.frameAt + 1000000
  let n := s.sys.frames + 1
  { s with
    now := max s.now b, frameAt := b
    sys := { s.sys with frames := n, upMs := s.sys.upMs + 1, opSec := if n % 1000 = 0 then incSat32 s.sys.opSec else s.sys.opSec }
    ses := { s.ses with resumeIn := s.ses.resumeIn - 1 } }

/-- Committed sets replace their shadow copies together (R261). -/
def applyCommitted (s : State) : State :=
  guardOn s.ses.replayed (fun s =>
    applyDue s.ses.toApply (modSes (fun r => { r with toApply := [] }) s)) s

/-- The outcome of a queued set is journaled (R262, log 48). -/
def idleOutcome (j st fail : Nat) (s : State) : State :=
  let s := modSes (fun r => { r with idle := r.idle.filter fun x => x.jseq != j, idleLast := st, idleEntry := fail }) s
  journalOwn 0x04 (toBytes 8 j ++ toBytes 1 st ++ toBytes 4 fail) s

/-- One queued set: check 2 again, then applied or dropped whole (R262). -/
def applyIdle (i : IdleSet) (s : State) : State :=
  match linkFault i.set s with
  | some a => keep (idleOutcome i.jseq stRange a) s
  | none => keep (idleOutcome i.jseq stDone 0) (applySet i.set s)

/-- The queued sets, in JSEQ order, once the string is PARKED and no sequence runs (R262). A standby follows the journal. -/
def atIdleApply (s : State) : State :=
  guardOn (s.ses.replayed && acts s && !isFenced .j s && !isFenced .h s && parked s && !seqRuns s) (fun s =>
    forAll (sortBy (fun a b => a.jseq ≤ b.jseq) s.ses.idle) applyIdle s) s

/-- AT_IDLE_APPLY (R262). -/
def execAtIdleApply (s : State) : Host.Outcome State Fault Refusal := whenLive atIdleApply s

/-- What the owners of the registers do at a frame boundary. -/
def boundaryRegs (s : State) : State :=
  let s := { s with flt := { s.flt with suppressMax := cfgN Ent.FLT_SUPPRESS_MAX s } }
  takeGrant (netTick (canBoundary (applyOutputs (recBoundary (lapTick s)))))

/-- Everything that waits for a frame boundary. -/
def boundary (s : State) : State :=
  keep boundaryRegs (atIdleApply (applyCommitted (keep fwBoundary s)))

/-! ### The steps of Table 1-3 -/

/-- Step 2 and what the recorder takes of the ended frame a..b. -/
def step2 (a b : Nat) (s : State) : State := recCharge (closeFrame a b s)

/-- H reads the CAN buffers at step 3 (R296). -/
def canRead (s : State) : State := if isFenced .h s || isFenced .b s then s else canService s

/-- Step 3: E updates the contexts; after a sweep the CONTEXT class goes to the partner (R360). -/
def step3 (s : State) : State :=
  let swept := s.cells.sweepNew
  let s := estStep (canRead (closeMeans s))
  if swept && s.pair.paired && s.pair.role == .active then sendMirror clsContext (ctxMirrorBytes (ownCtxMirror s)) s else s

/-- Steps 4 to 6: protection, the limits, and what H writes to C. -/
def step456 (a b : Nat) (s : State) : State := limitsToC (sopStep (coolingStep (judgeResets (protStep a b (phaseAdd s)))))

/-- Step 7: one dispatch write is judged again and answered (R206). -/
def answerDispatch (w : DspWrite) (s : State) : State :=
  if dispatchMatches w.power s then
    keep (fun s => answer w.req stDone 0 (toBytesS 4 (dispatchAnswer w s)) s) (dispatchWrite w s)
  else keep (answer w.req stAccess 0 []) s

/-- Step 7. -/
def step7 (s : State) : State :=
  let ws := s.dsp.writes
  let s := { s with dsp := { s.dsp with writes := [] } }
  if isFenced .h s then s else forAll ws answerDispatch (keep dispatchWatch s)

/-- Step 9: the frame's journal entries, the STATE class, the fault log. -/
def step9 (s : State) : State := keep (fun s => logFrame (seeCauses (sendState s))) (commitBatch (releaseIfAlone s))

/-- The host tasks of the frame a..b in the order of Table 1-3, after what plant time does in it. -/
def frameTasks (a b : Nat) (s : State) : State :=
  step9 (keep pairFrame (step7 (keep (fun s => step456 a b (step3 (step2 a b (ptpTick s)))) s)))

/-- FRAME_TICK (R17): ALIVE_OUT toggles and ALIVE_IN is looked at (R356); shutdowns that fall due come first, and a module they stop has no
frame. -/
def frameTick (alive : Bool) (s : State) : State :=
  let s := downBoundary (keep (fun s => emit .aliveOut (partnerTick alive (clockStep (advance s)))) s)
  if !live s then s
  else
    let s := keep (withSq fun s => frzBoundary (latchBoundary s)) s
    if !live s then s
    else withSq (fun s => frameTasks (s.frameAt - 1000000) s.frameAt (boundary s)) s

/-- FRAME_TICK (R17): `alive` tells whether ALIVE_IN has toggled since the last tick. -/
def execFrameTick (alive : Bool) (s : State) : Host.Outcome State Fault Refusal := whenLive (frameTick alive) s

end Sys2Proof.Machine
end

