-- ==== Sys2Proof/Machine/Dispatch.lean ====
section
/-! DEFINITION. One arm per command: each arm is one direct call of that command's meaning. -/
namespace Sys2Proof.Machine
open Sys2Proof

/-- The effect of a command on everything but the queue. -/
def exec (i : Instr) (s : State) : Host.Outcome State Fault Refusal :=
  match i with
  | .frameTick alive => Sys2Proof.Machine.execFrameTick alive s
  | .faultClear code inst => Sys2Proof.Machine.execFaultClear code inst s
  | .islandHang island => Sys2Proof.Machine.execIslandHang island s
  | .sweepLaunch t heard => Sys2Proof.Machine.execSweepLaunch t heard s
  | .trainReceive radio t body => Sys2Proof.Machine.execTrainReceive radio t body s
  | .trainDeadline radio t => Sys2Proof.Machine.execTrainDeadline radio t s
  | .recoveryStart radio t => Sys2Proof.Machine.execRecoveryStart radio t s
  | .recoveryEnd radio t => Sys2Proof.Machine.execRecoveryEnd radio t s
  | .dutyFrameSend radio t => Sys2Proof.Machine.execDutyFrameSend radio t s
  | .serviceExchange radio t heard => Sys2Proof.Machine.execServiceExchange radio t heard s
  | .readIdReply radio t sender body => Sys2Proof.Machine.execReadIdReply radio t sender body s
  | .readLeadStatusReply radio t body => Sys2Proof.Machine.execReadLeadStatusReply radio t body s
  | .chnEnumerate h payload => Sys2Proof.Machine.execChnEnumerate h payload s
  | .enumerationEnd rounds mismatch bReaches => Sys2Proof.Machine.execEnumerationEnd rounds mismatch bReaches s
  | .autoChannelEval radio => Sys2Proof.Machine.execAutoChannelEval radio s
  | .identityPoll => Sys2Proof.Machine.execIdentityPoll s
  | .chnPackKeyWrite h payload => Sys2Proof.Machine.execChnPackKeyWrite h payload s
  | .chnKeyNode h payload => Sys2Proof.Machine.execChnKeyNode h payload s
  | .radioFault radio => Sys2Proof.Machine.execRadioFault radio s
  | .leadLearnTriple => Sys2Proof.Machine.execLeadLearnTriple s
  | .leadRWrite h pos hi payload => Sys2Proof.Machine.execLeadRWrite h pos hi payload s
  | .coulombWord bytes t => Sys2Proof.Machine.execCoulombWord bytes t s
  | .coulLost => Sys2Proof.Machine.execCoulLost s
  | .sourceNoneTimeout => Sys2Proof.Machine.execSourceNoneTimeout s
  | .restSecond => Sys2Proof.Machine.execRestSecond s
  | .tempHoldExpiry pos => Sys2Proof.Machine.execTempHoldExpiry pos s
  | .tablePagerLoad set crcOk => Sys2Proof.Machine.execTablePagerLoad set crcOk s
  | .checkpointWrite => Sys2Proof.Machine.execCheckpointWrite s
  | .contextRestore aOk bOk => Sys2Proof.Machine.execContextRestore aOk bOk s
  | .eHibernate => Sys2Proof.Machine.execEHibernate s
  | .eWake cause => Sys2Proof.Machine.execEWake cause s
  | .eTimerWake => Sys2Proof.Machine.execETimerWake s
  | .estRestReq h payload => Sys2Proof.Machine.execEstRestReq h payload s
  | .capLearnCompute pos => Sys2Proof.Machine.execCapLearnCompute pos s
  | .capRecordWrite pos first second => Sys2Proof.Machine.execCapRecordWrite pos first second s
  | .learnDeferred pos => Sys2Proof.Machine.execLearnDeferred pos s
  | .openLearnCompletion pos => Sys2Proof.Machine.execOpenLearnCompletion pos s
  | .learnedCopyRewrite pos slotB => Sys2Proof.Machine.execLearnedCopyRewrite pos slotB s
  | .recordBatchHourly => Sys2Proof.Machine.execRecordBatchHourly s
  | .cellIdAck h pos payload => Sys2Proof.Machine.execCellIdAck h pos payload s
  | .estIdAckAll h payload => Sys2Proof.Machine.execEstIdAckAll h payload s
  | .sampleFrame lane t bytes computeNs => Sys2Proof.Machine.execSampleFrame lane t bytes computeNs s
  | .sampleDeadline t => Sys2Proof.Machine.execSampleDeadline t s
  | .dutySend t => Sys2Proof.Machine.execDutySend t s
  | .pwmBoundary t => Sys2Proof.Machine.execPwmBoundary t s
  | .dwellEnd => Sys2Proof.Machine.execDwellEnd s
  | .sampleLost => Sys2Proof.Machine.execSampleLost s
  | .laneTraining lane => Sys2Proof.Machine.execLaneTraining lane s
  | .laneUp lane => Sys2Proof.Machine.execLaneUp lane s
  | .laneDown lane => Sys2Proof.Machine.execLaneDown lane s
  | .identReply bytes => Sys2Proof.Machine.execIdentReply bytes s
  | .faultsReply bytes => Sys2Proof.Machine.execFaultsReply bytes s
  | .faultClearReply bytes => Sys2Proof.Machine.execFaultClearReply bytes s
  | .syncInEdge t => Sys2Proof.Machine.execSyncInEdge t s
  | .tbSourceLoss t => Sys2Proof.Machine.execTbSourceLoss t s
  | .tbLocked => Sys2Proof.Machine.execTbLocked s
  | .phaseImbalance phase shed => Sys2Proof.Machine.execPhaseImbalance phase shed s
  | .cvtPhaseRestore h payload => Sys2Proof.Machine.execCvtPhaseRestore h payload s
  | .modeCmdParked h payload => Sys2Proof.Machine.execModeCmdParked h payload s
  | .modeCmdStandby h payload => Sys2Proof.Machine.execModeCmdStandby h payload s
  | .modeCmdRun h payload => Sys2Proof.Machine.execModeCmdRun h payload s
  | .aiSpSample t micro openInput => Sys2Proof.Machine.execAiSpSample t micro openInput s
  | .piSpEdge t high => Sys2Proof.Machine.execPiSpEdge t high s
  | .lossOfSignal src => Sys2Proof.Machine.execLossOfSignal src s
  | .signalRestored src => Sys2Proof.Machine.execSignalRestored src s
  | .phaseShed => Sys2Proof.Machine.execPhaseShed s
  | .redistributionEnd => Sys2Proof.Machine.execRedistributionEnd s
  | .shedHoldEnd => Sys2Proof.Machine.execShedHoldEnd s
  | .xchkTimeout => Sys2Proof.Machine.execXchkTimeout s
  | .protTripReset h payload => Sys2Proof.Machine.execProtTripReset h payload s
  | .sequenceTimer => Sys2Proof.Machine.execSequenceTimer s
  | .dischargeWaitTimeout => Sys2Proof.Machine.execDischargeWaitTimeout s
  | .prechargeTimeout => Sys2Proof.Machine.execPrechargeTimeout s
  | .openWaitTimeout => Sys2Proof.Machine.execOpenWaitTimeout s
  | .protEmergencyOpen h payload => Sys2Proof.Machine.execProtEmergencyOpen h payload s
  | .dspPReq h payload => Sys2Proof.Machine.execDspPReq h payload s
  | .dspIReq h payload => Sys2Proof.Machine.execDspIReq h payload s
  | .dispatchTimeout => Sys2Proof.Machine.execDispatchTimeout s
  | .dspRestGrant h payload => Sys2Proof.Machine.execDspRestGrant h payload s
  | .restWindowEnd => Sys2Proof.Machine.execRestWindowEnd s
  | .safetyCycle completed agree di31 => Sys2Proof.Machine.execSafetyCycle completed agree di31 s
  | .safetyDataFrame bytes t => Sys2Proof.Machine.execSafetyDataFrame bytes t s
  | .paramWrite bytes t => Sys2Proof.Machine.execParamWrite bytes t s
  | .copyWindowExpiry => Sys2Proof.Machine.execCopyWindowExpiry s
  | .safetyWatchdogExpiry => Sys2Proof.Machine.execSafetyWatchdogExpiry s
  | .statusFrameSend => Sys2Proof.Machine.execStatusFrameSend s
  | .switchScan addr dip => Sys2Proof.Machine.execSwitchScan addr dip s
  | .safetyResetPulse => Sys2Proof.Machine.execSafetyResetPulse s
  | .stuckReset => Sys2Proof.Machine.execStuckReset s
  | .trExceedsPst f => Sys2Proof.Machine.execTrExceedsPst f s
  | .read h index sub => Sys2Proof.Machine.execRead h index sub s
  | .write h index sub payload => Sys2Proof.Machine.execWrite h index sub payload s
  | .describe h index sub => Sys2Proof.Machine.execDescribe h index sub s
  | .blockRead h index sub payload => Sys2Proof.Machine.execBlockRead h index sub payload s
  | .blockWrite h index sub payload => Sys2Proof.Machine.execBlockWrite h index sub payload s
  | .commitNow h => Sys2Proof.Machine.execCommitNow h s
  | .commitAtIdle h => Sys2Proof.Machine.execCommitAtIdle h s
  | .discard h => Sys2Proof.Machine.execDiscard h s
  | .cancelAtIdle h payload => Sys2Proof.Machine.execCancelAtIdle h payload s
  | .atIdleApply => Sys2Proof.Machine.execAtIdleApply s
  | .sessionOpen h payload => Sys2Proof.Machine.execSessionOpen h payload s
  | .sessionClose h => Sys2Proof.Machine.execSessionClose h s
  | .sessionState h => Sys2Proof.Machine.execSessionState h s
  | .gapTimeout slot => Sys2Proof.Machine.execGapTimeout slot s
  | .sessionIdleTimeout slot => Sys2Proof.Machine.execSessionIdleTimeout slot s
  | .snapshotTimeout slot => Sys2Proof.Machine.execSnapshotTimeout slot s
  | .canSegment bytes => Sys2Proof.Machine.execCanSegment bytes s
  | .canSegmentTimeout => Sys2Proof.Machine.execCanSegmentTimeout s
  | .ethFrameReceive port frame => Sys2Proof.Machine.execEthFrameReceive port frame s
  | .fdbAgeOut lan mac => Sys2Proof.Machine.execFdbAgeOut lan mac s
  | .prpSupervisionSend => Sys2Proof.Machine.execPrpSupervisionSend s
  | .lanSilent lan => Sys2Proof.Machine.execLanSilent lan s
  | .addressProbeEnd => Sys2Proof.Machine.execAddressProbeEnd s
  | .dhcpLeaseExpiry => Sys2Proof.Machine.execDhcpLeaseExpiry s
  | .gratuitousArp => Sys2Proof.Machine.execGratuitousArp s
  | .pdelayReqSend port t => Sys2Proof.Machine.execPdelayReqSend port t s
  | .pdelayReqAnswer port msg t1 t2 => Sys2Proof.Machine.execPdelayReqAnswer port msg t1 t2 s
  | .pdelayResp port resp follow t => Sys2Proof.Machine.execPdelayResp port resp follow t s
  | .syncMessage port msg t out => Sys2Proof.Machine.execSyncMessage port msg t out s
  | .followUp port msg t => Sys2Proof.Machine.execFollowUp port msg t s
  | .announce port msg t => Sys2Proof.Machine.execAnnounce port msg t s
  | .syncReceiptTimeout inst => Sys2Proof.Machine.execSyncReceiptTimeout inst s
  | .revertTimer => Sys2Proof.Machine.execRevertTimer s
  | .holdoverExpiry => Sys2Proof.Machine.execHoldoverExpiry s
  | .clockStore => Sys2Proof.Machine.execClockStore s
  | .domainDisagree lans => Sys2Proof.Machine.execDomainDisagree lans s
  | .canFrameReceive ch f => Sys2Proof.Machine.execCanFrameReceive ch f s
  | .canTx h ch payload => Sys2Proof.Machine.execCanTx h ch payload s
  | .canTxResult ch buf res => Sys2Proof.Machine.execCanTxResult ch buf res s
  | .busOff ch => Sys2Proof.Machine.execBusOff ch s
  | .canRecover h ch payload => Sys2Proof.Machine.execCanRecover h ch payload s
  | .autoRecoveryDelay ch => Sys2Proof.Machine.execAutoRecoveryDelay ch s
  | .recoveryComplete ch => Sys2Proof.Machine.execRecoveryComplete ch s
  | .tmFrameSend => Sys2Proof.Machine.execTmFrameSend s
  | .canSleep h ch payload => Sys2Proof.Machine.execCanSleep h ch payload s
  | .canWakeWrite h ch payload => Sys2Proof.Machine.execCanWakeWrite h ch payload s
  | .sleepTimeout ch => Sys2Proof.Machine.execSleepTimeout ch s
  | .canWake ch sign => Sys2Proof.Machine.execCanWake ch sign s
  | .txdTimeout ch => Sys2Proof.Machine.execTxdTimeout ch s
  | .diSample group levels t => Sys2Proof.Machine.execDiSample group levels t s
  | .diDebounceExpiry n => Sys2Proof.Machine.execDiDebounceExpiry n s
  | .wireFaultReport n t => Sys2Proof.Machine.execWireFaultReport n t s
  | .dioDqCmd h payload => Sys2Proof.Machine.execDioDqCmd h payload s
  | .dioDqRetry h payload => Sys2Proof.Machine.execDioDqRetry h payload s
  | .dqThermalCycle k => Sys2Proof.Machine.execDqThermalCycle k s
  | .dqOpenLoad k ma mv t => Sys2Proof.Machine.execDqOpenLoad k ma mv t s
  | .dioSqCmd h payload => Sys2Proof.Machine.execDioSqCmd h payload s
  | .sqOvercurrent k ma t => Sys2Proof.Machine.execSqOvercurrent k ma t s
  | .sqReadbackFault k ma high low t => Sys2Proof.Machine.execSqReadbackFault k ma high low t s
  | .testPulseStart k t => Sys2Proof.Machine.execTestPulseStart k t s
  | .testPulseEnd k mv t => Sys2Proof.Machine.execTestPulseEnd k mv t s
  | .vfSample mv t => Sys2Proof.Machine.execVfSample mv t s
  | .vfUnpowered t => Sys2Proof.Machine.execVfUnpowered t s
  | .returningEnd t => Sys2Proof.Machine.execReturningEnd t s
  | .powerGood st => Sys2Proof.Machine.execPowerGood st s
  | .tierGuard => Sys2Proof.Machine.execTierGuard s
  | .tierWatch => Sys2Proof.Machine.execTierWatch s
  | .tierLimited => Sys2Proof.Machine.execTierLimited s
  | .tierFull => Sys2Proof.Machine.execTierFull s
  | .tierLate => Sys2Proof.Machine.execTierLate s
  | .shutdownStart why => Sys2Proof.Machine.execShutdownStart why s
  | .moduleReset cause => Sys2Proof.Machine.execModuleReset cause s
  | .sysResetCmd h payload => Sys2Proof.Machine.execSysResetCmd h payload s
  | .selftestMemory h payload => Sys2Proof.Machine.execSelftestMemory h payload s
  | .selftestInputCal h payload => Sys2Proof.Machine.execSelftestInputCal h payload s
  | .selftestRestartTest h payload => Sys2Proof.Machine.execSelftestRestartTest h payload s
  | .calRotationStart => Sys2Proof.Machine.execCalRotationStart s
  | .calRotationStep => Sys2Proof.Machine.execCalRotationStep s
  | .moduleHibernate => Sys2Proof.Machine.execModuleHibernate s
  | .mirrorDuty lane frame => Sys2Proof.Machine.execMirrorDuty lane frame s
  | .mirrorJournal lane frame => Sys2Proof.Machine.execMirrorJournal lane frame s
  | .journalAck lane frame => Sys2Proof.Machine.execJournalAck lane frame s
  | .mirrorHeartbeat lane frame => Sys2Proof.Machine.execMirrorHeartbeat lane frame s
  | .mirrorState lane frame => Sys2Proof.Machine.execMirrorState lane frame s
  | .mirrorContext lane frame => Sys2Proof.Machine.execMirrorContext lane frame s
  | .mirrorRecord lane frame => Sys2Proof.Machine.execMirrorRecord lane frame s
  | .mirrorBulk lane frame => Sys2Proof.Machine.execMirrorBulk lane frame s
  | .orderHandover lane frame => Sys2Proof.Machine.execOrderHandover lane frame s
  | .rejoinReq lane frame => Sys2Proof.Machine.execRejoinReq lane frame s
  | .rejoinDone lane frame => Sys2Proof.Machine.execRejoinDone lane frame s
  | .rejoinTimeout => Sys2Proof.Machine.execRejoinTimeout s
  | .mirrorSilent => Sys2Proof.Machine.execMirrorSilent s
  | .mirrorLaneDown lane => Sys2Proof.Machine.execMirrorLaneDown lane s
  | .aliveLost => Sys2Proof.Machine.execAliveLost s
  | .witnessDecision slot heard => Sys2Proof.Machine.execWitnessDecision slot heard s
  | .leaseRenew net frame => Sys2Proof.Machine.execLeaseRenew net frame s
  | .leaseGrant net frame => Sys2Proof.Machine.execLeaseGrant net frame s
  | .leaseRefuse net frame => Sys2Proof.Machine.execLeaseRefuse net frame s
  | .leaseExpiry => Sys2Proof.Machine.execLeaseExpiry s
  | .grantWaitTimeout => Sys2Proof.Machine.execGrantWaitTimeout s
  | .pairHandover h payload => Sys2Proof.Machine.execPairHandover h payload s
  | .pairForceActive h payload => Sys2Proof.Machine.execPairForceActive h payload s
  | .fenceInAssert => Sys2Proof.Machine.execFenceInAssert s
  | .fwApply h payload => Sys2Proof.Machine.execFwApply h payload s
  | .fwBlockDone got => Sys2Proof.Machine.execFwBlockDone got s
  | .fwVerifyDone => Sys2Proof.Machine.execFwVerifyDone s
  | .fwAbort h payload => Sys2Proof.Machine.execFwAbort h payload s
  | .fwActivateSelf h payload => Sys2Proof.Machine.execFwActivateSelf h payload s
  | .fwActivatePartner h payload => Sys2Proof.Machine.execFwActivatePartner h payload s
  | .shadowHandover importNs => Sys2Proof.Machine.execShadowHandover importNs s
  | .shadowTimeout importFailed => Sys2Proof.Machine.execShadowTimeout importFailed s
  | .healthCommit clean => Sys2Proof.Machine.execHealthCommit clean s
  | .healthTimeout => Sys2Proof.Machine.execHealthTimeout s
  | .fwRecoveryChunk h payload => Sys2Proof.Machine.execFwRecoveryChunk h payload s
  | .scrubStep region t raw reread => Sys2Proof.Machine.execScrubStep region t raw reread s
  | .lapEnd region => Sys2Proof.Machine.execLapEnd region s
  | .lapLate region => Sys2Proof.Machine.execLapLate region s
  | .recSecond => Sys2Proof.Machine.execRecSecond s
  | .recCommit => Sys2Proof.Machine.execRecCommit s
  | .recHold h payload => Sys2Proof.Machine.execRecHold h payload s
  | .holdEnd => Sys2Proof.Machine.execHoldEnd s
  | .mergeEnd => Sys2Proof.Machine.execMergeEnd s
  | .dieTempRead temp t => Sys2Proof.Machine.execDieTempRead temp t s
  | .holdupGauge vStore vbp power t => Sys2Proof.Machine.execHoldupGauge vStore vbp power t s
  | .holdupTest capUf => Sys2Proof.Machine.execHoldupTest capUf s
  | .vbpLowEntry t => Sys2Proof.Machine.execVbpLowEntry t s
  | .vbpLowExit t => Sys2Proof.Machine.execVbpLowExit t s
  | .frzAssert => Sys2Proof.Machine.execFrzAssert s
  | .clockStop t => Sys2Proof.Machine.execClockStop t s
  | .frzRelease => Sys2Proof.Machine.execFrzRelease s
  | .idcode => Sys2Proof.Machine.execIdcode s
  | .scanSel sel => Sys2Proof.Machine.execScanSel sel s
  | .scanData n => Sys2Proof.Machine.execScanData n s
  | .tapReset => Sys2Proof.Machine.execTapReset s
  | .bypass => Sys2Proof.Machine.execBypass s
  | .gaRead reading => Sys2Proof.Machine.execGaRead reading s
  | .gaCheck reading => Sys2Proof.Machine.execGaCheck reading s
  | .ethLinkChange port up => Sys2Proof.Machine.execEthLinkChange port up s
  | .fenceInRelease => Sys2Proof.Machine.execFenceInRelease s
  | .svcEnRelease => Sys2Proof.Machine.execSvcEnRelease s
  | .announceReceiptTimeout inst => Sys2Proof.Machine.execAnnounceReceiptTimeout inst s
  | .gmQualTExpiry inst => Sys2Proof.Machine.execGmQualTExpiry inst s
  | .dqCurrentLimit k ma => Sys2Proof.Machine.execDqCurrentLimit k ma s
  | .fieldGroupSelfCheckFail g => Sys2Proof.Machine.execFieldGroupSelfCheckFail g s
  | .canControllerSelfCheckFail ch => Sys2Proof.Machine.execCanControllerSelfCheckFail ch s

end Sys2Proof.Machine
end

