-- ==== Sys2Proof/Safety.lean ====
section
/-! DEFINITION. What counts as a safe state of the block, and the vocabulary of the statements: parts of the state, completion with a
frame, and requests that reach an open session. -/
namespace Sys2Proof.Machine
open Sys2Proof

/-! ### Safe states -/

/-- The configuration store is in its one canonical form: addresses rise strictly. -/
def StoreInv (s : State) : Prop := storeWf s.store = true

/-- No safe output is on: the four switch pairs are open (R216, R221). -/
def allOpen (s : State) : Prop := sqMap s = 0

/-! ### Frames -/

/-- The parts of the state. What a command sends (`out`) is no part: it begins empty with every command. -/
inductive Part where
  | pending | now | frameAt | locked | freeNo | store | sys | ses | flt | chain | chctl | cells | est | ident | link | tb | sp | prot
  | dsp | saf | dio | net | ptp | can | sup | pair | mem | fw | recd
  deriving DecidableEq, Repr

/-- Two states agree in a part. -/
def Part.same (s t : State) : Part → Prop
  | .pending => t.pending = s.pending
  | .now => t.now = s.now
  | .frameAt => t.frameAt = s.frameAt
  | .locked => t.locked = s.locked
  | .freeNo => t.freeNo = s.freeNo
  | .store => t.store = s.store
  | .sys => t.sys = s.sys
  | .ses => t.ses = s.ses
  | .flt => t.flt = s.flt
  | .chain => t.chain = s.chain
  | .chctl => t.chctl = s.chctl
  | .cells => t.cells = s.cells
  | .est => t.est = s.est
  | .ident => t.ident = s.ident
  | .link => t.link = s.link
  | .tb => t.tb = s.tb
  | .sp => t.sp = s.sp
  | .prot => t.prot = s.prot
  | .dsp => t.dsp = s.dsp
  | .saf => t.saf = s.saf
  | .dio => t.dio = s.dio
  | .net => t.net = s.net
  | .ptp => t.ptp = s.ptp
  | .can => t.can = s.can
  | .sup => t.sup = s.sup
  | .pair => t.pair = s.pair
  | .mem => t.mem = s.mem
  | .fw => t.fw = s.fw
  | .recd => t.recd = s.recd

/-- Every part but those listed is unchanged: the queue, the configuration and every register group. -/
def Only (ps : List Part) (s t : State) : Prop := ∀ p, p ∉ ps → p.same s t

/-- The command completes: exec answers a next state, which differs at most in the parts listed, and of which P holds. -/
def Ends (i : Instr) (s : State) (ps : List Part) (P : State → Prop) : Prop :=
  ∃ t, exec i s = .next t ∧ Only ps s t ∧ P t

/-- The command completes and sends exactly `out`; nothing else changes. -/
def Sends (i : Instr) (s : State) (out : List Output) : Prop := exec i s = .next { s with out := out }

/-! ### Requests -/

/-- A WRITE of instance k of an entry. -/
def writeReq (e : Entry) (h : Hdr) (p : List Byte) (k : Nat := 0) : Req :=
  { h := h, op := 0x02, index := e.index + e.istep * k, sub := e.sub + e.sstep * k, payload := p }

/-- The request that a command is, for every command that is one. -/
def requestOf : Instr → Option Req
  | .chnEnumerate h payload => some (writeReq Ent.CHN_ENUMERATE h payload)
  | .chnPackKeyWrite h payload => some (writeReq Ent.CHN_PACK_KEY h payload)
  | .chnKeyNode h payload => some (writeReq Ent.CHN_KEY_NODE h payload)
  | .leadRWrite h pos hi payload => some (writeReq (if hi then Ent.CELL_LEAD_R_HI else Ent.CELL_LEAD_R_LO) h payload pos.val)
  | .estRestReq h payload => some (writeReq Ent.EST_REST_REQ h payload)
  | .cellIdAck h pos payload => some (writeReq Ent.CELL_ID_ACK h payload pos.val)
  | .estIdAckAll h payload => some (writeReq Ent.EST_ID_ACK_ALL h payload)
  | .cvtPhaseRestore h payload => some (writeReq Ent.CVT_PHASE_RESTORE h payload)
  | .modeCmdParked h payload => some (writeReq Ent.SP_MODE_CMD h payload)
  | .modeCmdStandby h payload => some (writeReq Ent.SP_MODE_CMD h payload)
  | .modeCmdRun h payload => some (writeReq Ent.SP_MODE_CMD h payload)
  | .protTripReset h payload => some (writeReq Ent.PROT_TRIP_RESET h payload)
  | .protEmergencyOpen h payload => some (writeReq Ent.PROT_EMERGENCY_OPEN h payload)
  | .dspPReq h payload => some (writeReq Ent.DSP_P_REQ h payload)
  | .dspIReq h payload => some (writeReq Ent.DSP_I_REQ h payload)
  | .dspRestGrant h payload => some (writeReq Ent.DSP_REST_GRANT h payload)
  | .read h index sub => some { h := h, op := 0x01, index := index.toNat, sub := sub.toNat, payload := [] }
  | .write h index sub payload => some { h := h, op := 0x02, index := index.toNat, sub := sub.toNat, payload := payload }
  | .describe h index sub => some { h := h, op := 0x03, index := index.toNat, sub := sub.toNat, payload := [] }
  | .blockRead h index sub payload => some { h := h, op := 0x10, index := index.toNat, sub := sub.toNat, payload := payload }
  | .blockWrite h index sub payload => some { h := h, op := 0x11, index := index.toNat, sub := sub.toNat, payload := payload }
  | .commitNow h => some { h := h, op := 0x20, index := 0, sub := 0, payload := [0#8] }
  | .commitAtIdle h => some { h := h, op := 0x20, index := 0, sub := 0, payload := [1#8] }
  | .discard h => some { h := h, op := 0x21, index := 0, sub := 0, payload := [] }
  | .cancelAtIdle h payload => some { h := h, op := 0x22, index := 0, sub := 0, payload := payload }
  | .sessionOpen h payload => some { h := h, op := 0x30, index := 0, sub := 0, payload := payload }
  | .sessionClose h => some { h := h, op := 0x31, index := 0, sub := 0, payload := [] }
  | .sessionState h => some { h := h, op := 0x32, index := 0, sub := 0, payload := [] }
  | .canTx h ch payload => some (writeReq Ent.CAN_TX h payload (chNo ch))
  | .canRecover h ch payload => some (writeReq Ent.CAN_RECOVER h payload (chNo ch))
  | .canSleep h ch payload => some (writeReq Ent.CAN_SLEEP h payload (chNo ch))
  | .canWakeWrite h ch payload => some (writeReq Ent.CAN_SLEEP h payload (chNo ch))
  | .dioDqCmd h payload => some (writeReq Ent.DIO_DQ_CMD h payload)
  | .dioDqRetry h payload => some (writeReq Ent.DIO_DQ_RETRY h payload)
  | .dioSqCmd h payload => some (writeReq Ent.DIO_SQ_CMD h payload)
  | .sysResetCmd h payload => some (writeReq Ent.SYS_RESET_CMD h payload)
  | .selftestMemory h payload => some (writeReq Ent.SYS_SELFTEST_REQ h payload)
  | .selftestInputCal h payload => some (writeReq Ent.SYS_SELFTEST_REQ h payload)
  | .selftestRestartTest h payload => some (writeReq Ent.SYS_SELFTEST_REQ h payload)
  | .pairHandover h payload => some (writeReq Ent.PAIR_HANDOVER h payload)
  | .pairForceActive h payload => some (writeReq Ent.PAIR_FORCE_ACTIVE h payload)
  | .fwApply h payload => some (writeReq Ent.FW_APPLY h payload)
  | .fwAbort h payload => some (writeReq Ent.FW_ABORT h payload)
  | .fwActivateSelf h payload => some (writeReq Ent.FW_ACTIVATE h payload)
  | .fwActivatePartner h payload => some (writeReq Ent.FW_ACTIVATE h payload)
  | .fwRecoveryChunk h payload => some { writeReq Ent.FW_RECOVERY h payload with op := 0x11 }
  | .recHold h payload => some (writeReq Ent.REC_HOLD h payload)
  | _ => none

/-- A sequenced request of the open session x reaches the acting module at tier LIMITED or above, and there is room in the journal
(R248, R251, R256, R258, R259). -/
def Arrives (r : Req) (x : Session) (s : State) : Prop :=
  live s = true ∧ acts s = true ∧ reaches r s = true ∧ formOk r = true ∧ r.h.kind = 1 ∧
    isFenced .h s = false ∧ isFenced .j s = false ∧ responderRuns s = false ∧ s.ses.resumeIn = 0 ∧ s.ses.replayed = true ∧
    tierAtLeast .limited s = true ∧ sessionOf r.h.ses s = some x ∧ r.h.seq ≠ 0 ∧ 65536 ≤ journalFree s

/-- Its turn has come, and nothing is held (R253). -/
def Ready (r : Req) (x : Session) (s : State) : Prop := Arrives r x s ∧ r.h.seq = x.next ∧ x.held = []

/-- The state with the request's arrival noted in its session. -/
def arrived (x : Session) (s : State) : State := modSession x.id (fun y => { y with last := s.now }) s.begin

/-- The session as the work before this request will leave it, and the reply that the checks give. -/
def checked (r : Req) (x : Session) (s : State) : Reply :=
  (check r (projected { x with last := s.now } (arrived x s)) (arrived x s)).1

/-- An unsequenced request over UDP reaches the acting module, which serves the host (R248, R252, R258, R259). -/
def Asks (r : Req) (s : State) : Prop :=
  live s = true ∧ acts s = true ∧ reaches r s = true ∧ formOk r = true ∧ r.h.kind = 1 ∧ r.h.seq = 0 ∧
    (∃ a p own, r.h.via = .udp a p own) ∧
    isFenced .h s = false ∧ responderRuns s = false ∧ s.ses.resumeIn = 0 ∧ s.ses.replayed = true ∧ tierAtLeast .limited s = true

/-! ### Messages -/

/-- A PTP message of a type reaches port p in a whole, good frame of a supported version (R270, R278). -/
def ptpArrives (type p : Nat) (f : List Byte) (s : State) : Bool :=
  portUp p s && etOf f == 0x88F7 && ptpType (payloadOf f) == type && decide (64 ≤ f.length) && decide (f.length ≤ 1528) && fcsOk f &&
    ptpVersionOk (payloadOf f)

/-- The last frame of a content of a class reaches a member that takes it: valid, of an EPOCH not below its own, no second copy, and
with fewer than 4,096 bytes (R358 to R360, log 145). -/
def mirrorEnds (cls : Nat) (f : List Byte) (s : State) : Bool :=
  mirrorValid cls f s && !mirrorStale f s && mirrorAhead cls f s && fieldU f 6 2 != 4096

/-- The frames that a content of a class sends on both lanes. -/
def mirrorSent (cls : Nat) (content : List Byte) (s : State) : List Output := (sendMirror cls content { s with out := [] }).out

end Sys2Proof.Machine
end

