-- ==== Sys2Proof/Certificates/Slice0/Obligations.lean ====
section
/-! DEFINITION. The statements about the model that are to be proved: each formalises rules of the manual, named in its docstring. -/
open Sys2Proof Sys2Proof.Machine

/-! ### The block and its queue -/

/-- A step runs the command at the front of the queue on the state with the queue's rest.
With an empty queue the block idles: nothing changes (DESIGN CHOICE, log 54). -/
def Obligations.StepRunsTheFrontCommand : Prop :=
  (∀ (c : Instr) (rest : List Instr) (s : State), s.pending = c :: rest → step s = exec c { s with pending := rest }) ∧
  (∀ s : State, s.pending = [] → step s = .next s)

/-- No command stops the module: each one is answered with a next state, and none touches the queue behind it. -/
def Obligations.EveryCommandCompletesAndKeepsTheQueue : Prop :=
  ∀ (c : Instr) (s : State), ∃ t, exec c s = .next t ∧ t.pending = s.pending

/-- Every step keeps the configuration store canonical: addresses rise strictly, so that equal configurations are equal data. -/
def Obligations.StepKeepsTheStoreCanonical : Prop :=
  ∀ s t : State, StoreInv s → step s = .next t → StoreInv t

/-- The configuration store is canonical at reset. -/
def Obligations.ResetStoreIsCanonical : Prop := StoreInv State.reset

/-! ### Requests of the object access protocol -/

/-- A sequenced request whose turn has come is checked, joins the frame's batch with its reply, and its session's next number
advances (R253, R255, R257). The one request that S acts on before, PROT_EMERGENCY_OPEN (R202), has a statement of its own. -/
def Obligations.SequencedRequestIsCheckedAndQueued : Prop :=
  ∀ (i : Instr) (r : Req) (x : Session) (s : State), requestOf i = some r → r.op ≠ 0x30 → r.op ≠ 0x32 → opKnown r.op = true →
    Ready r x s → opensOnReceipt r = false → opensAtOnce r (projected { x with last := s.now } (arrived x s)) (checked r x s).status = false →
    Ends i s [.ses] fun t =>
      t.ses.batch = s.ses.batch ++ [.request r (checked r x s)] ∧
      ∃ z, sessionOf x.id t = some z ∧ z.next = nextSeq r.h.seq ∧ z.staged = x.staged ∧ z.held = []

/-- Unsequenced READ, DESCRIBE, BLOCK_READ and SESSION_STATE of an open session are answered at once and change only what the
session notes of them (R244, R245, R252, R264). -/
def Obligations.UnsequencedReadsAreAnsweredAtOnce : Prop :=
  ∀ (i : Instr) (r : Req) (x : Session) (s : State), requestOf i = some r → Asks r s → sessionOf r.h.ses s = some x →
    let u := arrived x s
    let y := { x with last := s.now }
    (r.op = 0x01 → Ends i s [.ses] fun t =>
      t.ses = u.ses ∧ t.out = [.reply (mkReply r (readAnswer r u).1 0 (readAnswer r u).2)]) ∧
    (r.op = 0x03 → Ends i s [.ses] fun t =>
      t.ses = u.ses ∧ t.out = [.reply (mkReply r (describeAnswer r).1 0 (describeAnswer r).2)]) ∧
    (r.op = 0x10 → Ends i s [.ses] fun t =>
      t.ses = (keepSnap x.id (blockAnswer r y u) u).ses ∧
      t.out = [.reply (mkReply r (blockAnswer r y u).status (if (blockAnswer r y u).more then moreFlag else 0)
        (blockAnswer r y u).payload)]) ∧
    (r.op = 0x32 → Ends i s [.ses] fun t =>
      t.ses = u.ses ∧
      t.out = [.reply (mkReply r stDone 0 (toBytes 4 x.next ++ toBytes 1 x.held.length ++ toBytes 2 x.staged.length))])

/-- SESSION_OPEN (R250): a client with a session is told its number again; another joins the batch where a slot is free, is
answered LIMIT where none is, and DEFERRED where J is fenced and nothing can be journaled. -/
def Obligations.SessionOpenAnswers : Prop :=
  ∀ (h : Hdr) (p : List Byte) (s : State),
    let r : Req := { h := h, op := 0x30, index := 0, sub := 0, payload := p }
    let service := bitOf h.flags 0
    let found := s.ses.open_.find? fun x => x.client == fieldU p 0 8 && x.service == service
    Asks r s → p.length = 8 → (service = true → s.ses.svcEn = true) →
      (∀ x, found = some x → Sends (.sessionOpen h p) s [.reply { mkReply r stDone 0 (toBytes 4 x.next) with ses := x.id }]) ∧
      (found = none → (freeSlot service s).isSome = true → isFenced .j s = true →
        Sends (.sessionOpen h p) s [.reply (mkReply r stDeferred 0 [])]) ∧
      (found = none → (freeSlot service s).isSome = true → isFenced .j s = false → Ends (.sessionOpen h p) s [.ses] fun t =>
        t.ses = { s.ses with batch := s.ses.batch ++ [.request r (mkReply r stDone 0 [])] } ∧ t.out = []) ∧
      (found = none → freeSlot service s = none → Sends (.sessionOpen h p) s [.reply (mkReply r stLimit 0 [])])

/-- A write of DSP_P_REQ or DSP_I_REQ outside the sequence waits for step 7 of the frame where it matches the running mode, and is
answered ACCESS where it does not (R206). -/
def Obligations.DispatchWritesWaitForStepSeven : Prop :=
  ∀ (h : Hdr) (p : List Byte) (s : State) (power : Bool),
    let e := if power then Ent.DSP_P_REQ else Ent.DSP_I_REQ
    let i : Instr := if power then .dspPReq h p else .dspIReq h p
    let r := writeReq e h p
    ∀ v, Asks r s → h.ses = 0 → sessionOf 0 s = none → decodeVal e p = some v → valueOk e v = true →
      (dispatchMatches power s = true → Ends i s [.dsp] fun t =>
        t.dsp = { s.dsp with writes := s.dsp.writes ++ [{ req := r, power := power, value := valInt v }] } ∧ t.out = []) ∧
      (dispatchMatches power s = false → Sends i s [.reply (mkReply r stAccess 0 [])])

/-- A request out of its turn (R253): up to 16 ahead it is held, further ahead it and all held are answered SEQ_GAP with the expected
number; more than 32 behind it is answered SEQ_GAP; within 32 behind its cached reply leaves again as a replay. -/
def Obligations.RequestsOutOfTurn : Prop :=
  ∀ (i : Instr) (r : Req) (x : Session) (s : State), requestOf i = some r → r.op ≠ 0x30 → r.op ≠ 0x32 → opKnown r.op = true →
    Arrives r x s → x.held = [] → (∃ a p own, r.h.via = .udp a p own) →
    let d := seqDiff r.h.seq x.next
    (opensOnReceipt r = false → 1 ≤ d → d ≤ 16 → Ends i s [.ses] fun t =>
      t.out = [] ∧ t.ses.batch = s.ses.batch ∧
      ∃ z, sessionOf x.id t = some z ∧ z.next = x.next ∧ z.held = [{ req := r, since := s.now }]) ∧
    (opensOnReceipt r = false → 16 < d → Ends i s [.ses] fun t =>
      t.out = [.reply (mkReply r stGap 0 (toBytes 4 x.next))] ∧ t.ses.gaps = incSat32 s.ses.gaps ∧ t.ses.batch = s.ses.batch) ∧
    (d < -32 → Ends i s [.ses] fun t =>
      t.out = [.reply (mkReply r stGap 0 (toBytes 4 x.next))] ∧ t.ses.gaps = incSat32 s.ses.gaps ∧ t.ses.batch = s.ses.batch) ∧
    (∀ c, -32 ≤ d → d < 0 → x.cache.find? (·.seq == r.h.seq) = some c → s.sys.calWait = [] → s.prot.resumed = false →
      Ends i s [.ses] fun t =>
        t.out = [.reply { c with dest := r.h.via, flags := c.flags ||| 1 }] ∧ t.ses.replays = incSat32 s.ses.replays ∧
        t.ses.batch = s.ses.batch)

/-- Requests that are not served (R247, R248, R258): a bad form is counted and dropped; a member that does not act answers ACCESS
with NOT_ACTIVE; below LIMITED a sequenced request is answered TIER; with H fenced C answers for it. -/
def Obligations.RequestsNotServed : Prop :=
  ∀ (i : Instr) (r : Req) (s : State) (a : Word32) (p : Word16) (own : Bool), requestOf i = some r → r.h.via = .udp a p own → live s = true →
    reaches r s = true →
    (formOk r = false → Ends i s [.ses] fun t => t.ses = { s.ses with crcErr := incSat32 s.ses.crcErr } ∧ t.out = []) ∧
    (formOk r = true → r.h.kind = 1 → opKnown r.op = true →
      (isFenced .h s = true → tierAtLeast .watch s = true → Sends i s [.reply (mkReply r stFenced 0 [])]) ∧
      (isFenced .h s = false → responderRuns s = false → s.ses.resumeIn = 0 → tierAtLeast .watch s = true → plainRead r = false →
        s.pair.noGrant = false →
        (acts s = false → Sends i s [.reply (mkReply r stAccess notActive [])]) ∧
        (acts s = true → tierAtLeast .limited s = false → Sends i s [.reply (mkReply r stTier 0 [])])))

/-- The timers of a slot (R251, R253, R264) and the end of a CAN message's wait (R249), at their instants.
A CAN segment (R249): FIRST begins a message, the next number goes on with it within 50 ms, a break of the order discards it.
SVC_EN_RELEASE (R250): the service session closes, and its closing is journaled; every other session stays. -/
def Obligations.SessionTimers : Prop :=
  (∀ (k : Nat) (x : Session) (s : State), live s = true → sessionIn k s = some x →
     (x.held ≠ [] → (∀ g ∈ x.held, ∃ a p own, g.req.h.via = .udp a p own) →
       (x.held.any fun g => g.since + cfgN Ent.SES_GAP_T s * 1000000 ≤ s.now) = true →
       Ends (.gapTimeout k) s [.ses] fun t =>
         t.out = x.held.map (fun g => .reply (mkReply g.req stGap 0 (toBytes 4 x.next))) ∧
         t.ses.open_ = s.ses.open_.map fun y => if y.id == x.id then { y with held := [] } else y) ∧
     (acts s = true → responderRuns s = false → x.last + cfgN Ent.SES_IDLE_T s * 1000000000 ≤ s.now → s.recd.holdSes ≠ x.id →
       Ends (.sessionIdleTimeout k) s [.ses] fun t =>
         t.out = [] ∧ t.ses.open_ = s.ses.open_.filter (·.id != x.id) ∧
         t.ses.batch = s.ses.batch ++ [.own 0x03 (sessionPayload 2 x.id x.client x.service)]) ∧
     (x.last + 10000000000 ≤ s.now → Ends (.snapshotTimeout k) s [.ses] fun t =>
       t.out = [] ∧ t.ses.open_ = s.ses.open_.map fun y => if y.id == x.id then { y with snap := none } else y) ∧
     (segmentLate s = true → Ends .canSegmentTimeout s [.ses] fun t => t.ses = { s.ses with canRx := none } ∧ t.out = []) ∧
     (segmentLate s = false → Sends .canSegmentTimeout s [])) ∧
  (∀ (b : Byte) (data : List Byte) (s : State), live s = true → (sesCan s).isSome = true → isFenced .b s = false →
     isFenced .h s = false → bitOf b.toNat 6 = false →
     (bitOf b.toNat 7 = true → b.toNat % 64 = 0 → Ends (.canSegment (b :: data)) s [.ses] fun t =>
       t.out = [] ∧ t.ses = { s.ses with canRx := some (data, 0, s.now) }) ∧
     (∀ got prev at_, bitOf b.toNat 7 = false → s.ses.canRx = some (got, prev, at_) →
       Ends (.canSegment (b :: data)) s [.ses] fun t =>
         t.out = [] ∧ t.ses = { s.ses with canRx :=
           if s.now ≤ at_ + 50000000 ∧ b.toNat % 64 = (prev + 1) % 64 then some (got ++ data, b.toNat % 64, s.now) else none })) ∧
  (∀ (x : Session) (s : State), live s = true → responderRuns s = false → s.ses.open_.filter (·.service) = [x] →
     s.recd.holdSes ≠ x.id →
     Ends .svcEnRelease s [.ses] fun t =>
       t.out = [] ∧ t.ses.svcEn = false ∧ t.ses.open_ = s.ses.open_.filter (·.id != x.id) ∧
       t.ses.batch = s.ses.batch ++ [.own 0x03 (sessionPayload 2 x.id x.client true)])

/-! ### The chain and the cells -/

/-- SWEEP_LAUNCH (R28, R37, R41, R44, R53): on the frame boundary at which a launch is due, a chain that can sweep starts a sweep at t:
CHN_SWEEP_CTR counts, or follows the beacon that a listening member hears; no record has arrived, and the sampling instant lies
(H_max - 1) * 48 µs after the launch. At any other instant nothing is launched. -/
def Obligations.SweepLaunchStartsASweep : Prop :=
  ∀ (t : Nat) (heard : List (Radio × List Byte)) (s : State), live s = true →
    (launchDue t s = true → Ends (.sweepLaunch t heard) s [.now, .flt, .chain, .chctl, .cells] fun u =>
      u.now = max s.now t ∧ u.chain.sweepCtr = (if acts s then (s.chain.sweepCtr + 1) % 2 ^ 40 else launchCtr heard s) ∧
      u.chain.sweep.active = true ∧ u.chain.sweep.run = true ∧
      u.chain.sweep.launch = t ∧ u.chain.sweep.got = [] ∧ u.chain.sweep.split = false ∧
      u.chain.sweep.instant = t + (u.chain.hmax - 1) * 48000 ∧ u.chain.n = s.chain.n ∧
      u.chctl.period = cfgN Ent.CHN_SWEEP_PERIOD s ∧ u.chctl.balMode = cfgN Ent.STR_BAL_MODE s) ∧
    (launchDue t s = false → Sends (.sweepLaunch t heard) s [])

/-- The events of a running sweep at one radio: a good train in time ends its half and takes each record whose tag verifies; one whose
CRC fails is counted, one of another sweep rejected; a deadline passed ends the half broken, and not before it has passed; a recovery
beacon goes out towards the break, 100 µs after the radio's own half at the earliest, and its deadline ends it
(R30, R35, R41, R42, R53). -/
def Obligations.SweepEventsEndTheirHalf : Prop :=
  ∀ (r : Radio) (t : Nat) (s : State), live s = true → s.chain.sweep.active = true → canSweep s = true → radioFenced r s = false →
    (∀ b, airCrcOk b = true → trainOk r b = true → trainNow b s = true → bitOf (fieldU b 4 1) 6 = false →
      (halfSweep r s).done = false → t ≤ trainDue r s →
      ∃ u, exec (.trainReceive r t b) s = .next u ∧ u.pending = s.pending ∧ (halfSweep r u).done = true ∧
        (halfSweep r u).doneAt = t ∧ u.now = max s.now t ∧
        ∀ x ∈ (trainRecs b).zipIdx, 1 ≤ trainNode r (fieldU b 2 1) x.2 → trainNode r (fieldU b 2 1) x.2 ≤ s.chain.n →
          (recordPlain (trainNode r (fieldU b 2 1) x.2) x.1 s).isSome = true →
          (u.chain.sweep.got.any fun g => g.node == trainNode r (fieldU b 2 1) x.2) = true) ∧
    (∀ b, sweepDone s = false →
      (airCrcOk b = false → Ends (.trainReceive r t b) s [.now, .chain, .chctl] fun u =>
        u.chain.crcErrA = (if r = .a then incSat32 s.chain.crcErrA else s.chain.crcErrA) ∧
        u.chain.crcErrB = (if r = .b then incSat32 s.chain.crcErrB else s.chain.crcErrB) ∧ u.chain.sweep = s.chain.sweep) ∧
      (airCrcOk b = true → trainOk r b = true → trainNow b s = false →
        Ends (.trainReceive r t b) s [.now, .chain, .chctl, .flt] fun u =>
          u.chain.sweep = s.chain.sweep ∧ u.chain.crcErrA = s.chain.crcErrA ∧ u.chain.crcErrB = s.chain.crcErrB)) ∧
    ((halfSweep r s).done = false → trainDue r s ≤ t → ∃ u, exec (.trainDeadline r t) s = .next u ∧ u.pending = s.pending ∧
      (halfSweep r u).done = true ∧ (halfSweep r u).doneAt = trainDue r s ∧ (halfSweep r u).broken = true ∧ u.now = max s.now t ∧
      isActive (if r = .a then 0x2003 else 0x2004) wide u = true) ∧
    ((halfSweep r s).done = false → t < trainDue r s → Sends (.trainDeadline r t) s []) ∧
    (needsRecovery (otherRadio r) s = true → (halfSweep r s).done = true → (halfSweep (otherRadio r) s).done = true →
      (halfSweep r s).recovering = false → (halfSweep r s).recovered = false →
      (r = .b ∨ (halfSweep .a s).broken = false ∨ (halfSweep .b s).recovered = true) →
      (recoveryFrom r s ≤ t → Ends (.recoveryStart r t) s [.now, .chain] fun u =>
        (halfSweep r u).recovering = true ∧ (halfSweep r u).recReach = recoveryReach r s ∧
        (halfSweep r u).recInstant = t + (recoveryReach r s - 1) * 48000 ∧
        u.out = if acts s then
          [.radio r (channelOf r s) 10
            (onAir (beaconBody s.chctl.packKey r (recoveryReach r s) (recoveryReach r s) s.chain.sweepCtr true))] else []) ∧
      (t < recoveryFrom r s → Sends (.recoveryStart r t) s [])) ∧
    ((halfSweep r s).recovering = true → recoveryDue r s ≤ t →
      ∃ u, exec (.recoveryEnd r t) s = .next u ∧ u.pending = s.pending ∧
        (halfSweep r u).recovering = false ∧ (halfSweep r u).recovered = true ∧ (halfSweep r u).recEndAt = recoveryDue r s ∧
        u.now = max s.now t)

/-- What the acting member sends on the chain: the DUTY frame of a half once, 100 µs after its train; a queued COMMAND in the service
window, where it ends 100 µs before the next launch, each unit counted (R29, R37, R39, R52, R53).
The periodic tasks of the chain: the identity poll after 1,000 sweeps queues READ_ID for each node (R122); the channel
evaluation after 100 sweeps begins a new count (R49); a learning triple is scheduled 3 sweeps ahead (R71).
What the chain hears or suffers outside a sweep: a lead status names a node's open leads (R63); a failed radio baseband is
fenced, the other serves every node, and with both gone the chain has FAILED (R47). -/
def Obligations.ChainFramesLeave : Prop :=
  (∀ (r : Radio) (t : Nat) (s : State), live s = true → acts s = true → radioFenced r s = false →
     (canSweep s = true → s.chain.sweep.run = true → 0 < halfLen r s → (halfSweep r s).done = true →
       (halfSweep r s).dutySent = false → s.chain.sweep.split = false →
       (dutyDue r s ≤ t → Ends (.dutyFrameSend r t) s [.now, .chain, .cells] fun u =>
         u.out = [.radio r (channelOf r s) 10
           (onAir (dutyBody r (cmdCtr r s) ((halfNodes r s).map fun h => (keyOf h s, nodeDuties h s))))] ∧
         (halfSweep r u).dutySent = true ∧ cmdCtr r u = (cmdCtr r s + (halfNodes r s).length) % 2 ^ 40 ∧
         u.cells.cells = s.cells.cells) ∧
       (t < dutyDue r s → Sends (.dutyFrameSend r t) s [])) ∧
     (∀ c rest, canExchange s = true → popCmd r s.chctl.queue = some (c, rest) → busyUntil r s ≤ t → awaited r s = none →
       stampCmd r c s = (c, s) → (∀ k, c ≠ .learn false k) → inWindow r t s = true →
       (exchangeFits t (cmdTime r c s) s = true →
         Ends (.serviceExchange r t none) s [.now, .chain, .chctl, .cells] fun u =>
           u.out = [.radio r (channelOf r s) (cmdPower c s) (onAir (cmdBody r c ((cmdCtr r s + 1) % 2 ^ 40) s))] ∧
           u.chctl.queue = rest ∧ busyUntil r u = t + cmdTime r c s * 1000 ∧ cmdCtr r u = (cmdCtr r s + 1) % 2 ^ 40 ∧
           (∀ h, c = .readId h → awaited r u = some ⟨h, 0xA0, t + cmdTime r c s * 1000⟩)) ∧
       (exchangeFits t (cmdTime r c s) s = false → Sends (.serviceExchange r t none) s []))) ∧
  (∀ (s : State), live s = true → acts s = true → canSweep s = true →
     (1000 ≤ s.chctl.sincePoll → Ends .identityPoll s [.chctl] fun u =>
       u.out = [] ∧ u.chctl = { s.chctl with
         sincePoll := 0
         queue := s.chctl.queue ++ (upTo 1 s.chain.n).filterMap fun h => match servedBy h s with
           | some r => if radioFenced r s then none else some ⟨r, .readId h⟩
           | none => none }) ∧
     (100 ≤ s.chctl.evalSweepsA →
       Ends (.autoChannelEval .a) s [.chctl] (fun u => u.chctl.framesA = 0 ∧ u.chctl.failsA = 0 ∧
         u.chctl.framesB = s.chctl.framesB ∧ u.chctl.failsB = s.chctl.failsB ∧ u.chctl.evalSweepsA = 0 ∧
         (s.chctl.failsA * 100 ≤ s.chctl.framesA * 5 → u.chctl.chanPend = s.chctl.chanPend))) ∧
     (100 ≤ s.chctl.evalSweepsB →
       Ends (.autoChannelEval .b) s [.chctl] (fun u => u.chctl.framesB = 0 ∧ u.chctl.failsB = 0 ∧
         u.chctl.framesA = s.chctl.framesA ∧ u.chctl.failsA = s.chctl.failsA ∧ u.chctl.evalSweepsB = 0 ∧
         (s.chctl.failsB * 100 ≤ s.chctl.framesB * 5 → u.chctl.chanPend = s.chctl.chanPend))) ∧
     (s.cells.map = .mapped → cfgB Ent.STR_LEAD_LEARN s = true → s.chctl.balMode = 0 → s.chctl.triple = none →
       cfgN Ent.STR_LEAD_LEARN_INT s ≤ s.chctl.sinceLearn → Ends .leadLearnTriple s [.chctl] fun u =>
         u.chctl.triple = some { k := s.chain.sweepCtr + 3, s := s.chctl.learnPhase } ∧ u.chctl.sinceLearn = 0 ∧
         u.chctl.balActs = s.chctl.balActs ++ [(s.chain.sweepCtr + 3, 1), (s.chain.sweepCtr + 4, 0)])) ∧
  (∀ (s : State), live s = true →
     (∀ (r : Radio) (t : Nat) (b : List Byte) (p : List Byte),
       let h := replyNode r b s
       s.cells.map = .mapped → isFenced .m s = false → radioFenced r s = false → airCrcOk b = true → replyOk r b s = true →
       replyPayload r (some (nodeAt h s).id) b s = some p → p.length = 5 → fieldU p 0 1 = 0xA1 →
       Ends (.readLeadStatusReply r t b) s [.now, .chctl, .cells, .flt] fun u =>
         (nodeAt h u).openLeads = fieldU p 1 4 % 2 ^ 17 ∧ (nodeAt h u).leadKnown = true ∧ (nodeAt h u).multiWait = false ∧
         (nodeAt h u).replyCtr = fieldU b 5 5 ∧ ∀ k, 1 ≤ k → k ≤ 32 → k ≠ h → nodeAt k u = nodeAt k s) ∧
     (∀ r, radioFenced r s = false → Ends (.radioFault r) s [.chain, .chctl, .cells, .flt] fun u =>
       radioFenced r u = true ∧ radioFenced (otherRadio r) u = radioFenced (otherRadio r) s ∧
       isActive (if r = .a then 0x200C else 0x200D) wide u = true ∧
       (radioFenced (otherRadio r) s = true → u.chain.state = .failed) ∧
       (radioFenced (otherRadio r) s = false → (s.chain.state = .running ∨ s.chain.state = .degraded) →
         u.chain.state = .singleRadio ∧ u.chain.topo = .single)))

/-- ENUMERATION_END (R26, R27): the expected nodes, found from both ends, set the chain running, and the acting member reads each one's
identity. A wrong count or a difference leaves the chain FAILED with 0x2001 or 0x2002. Nothing is mapped before the CELLS of every node
are known: with the last READ_ID reply they are, and where they match STR_POS_COUNT the map is formed (R58). -/
def Obligations.EnumerationFormsTheMap : Prop :=
  (∀ (rounds : List (List EnumClaim)) (s : State) (mis reach : Bool), live s = true → s.chain.state = .enumerating →
    let found := (enumWalk 0 false rounds).2
    let ps : List Part := [.chain, .chctl, .cells, .prot, .flt]
    found.length ≤ 32 →
    (found.length = nodeCount s → mis = false → reach = true →
      Ends (.enumerationEnd rounds mis reach) s ps fun u =>
        u.chain.n = found.length ∧
        u.chain.state = (if s.chain.fencedA || s.chain.fencedB then .singleRadio else .running) ∧
        u.cells.map = .unmapped ∧ u.chctl.idWait = true ∧ isActive 0x2001 wide u = false ∧ isActive 0x2002 wide u = false ∧
        (∀ h, 1 ≤ h → h ≤ found.length → (nodeAt h u).rssi = found.getD (h - 1) 0 ∧ (nodeAt h u).answered = false) ∧
        (acts s = true → ∀ h r, 1 ≤ h → h ≤ found.length → servedBy h u = some r → radioFenced r s = false →
          ⟨r, .readId h⟩ ∈ u.chctl.queue)) ∧
    ((found.length ≠ nodeCount s ∨ mis = true ∨ reach = false) →
      Ends (.enumerationEnd rounds mis reach) s ps fun u =>
        u.chain.state = .failed ∧ u.cells.map = .unmapped ∧ u.cells.posCount = 0 ∧
        (found.length ≠ nodeCount s → isActive 0x2001 wide u = true) ∧
        ((mis = true ∨ reach = false) → isActive 0x2002 wide u = true))) ∧
  (∀ (r : Radio) (t : Nat) (id : Word64) (b p : List Byte) (s : State), live s = true →
    let h := replyNode r b s
    let cells (k : Nat) : Nat := if k = h then fieldU p 9 1 else (nodeAt k s).cells
    let total := sumN ((upTo 1 s.chain.n).map cells)
    isFenced .m s = false → radioFenced r s = false → airCrcOk b = true → replyOk r b s = true → s.chain.n ≤ 32 →
    replyPayload r (some id.toNat) b s = some p → p.length = 14 → fieldU p 0 1 = 0xA0 → fieldU p 1 8 = id.toNat →
    s.cells.map ≠ .mapped → s.chctl.idWait = true → (∀ k, 1 ≤ k → k ≤ s.chain.n → k ≠ h → (nodeAt k s).answered = true) →
    Ends (.readIdReply r t (some id) b) s [.now, .store, .chain, .chctl, .cells, .prot, .flt, .ident, .ses] fun u =>
      (nodeAt h u).id = id.toNat ∧ (nodeAt h u).fw = fieldU p 10 4 ∧ (nodeAt h u).answered = true ∧ u.chctl.idWait = false ∧
      (total = cfgN Ent.STR_POS_COUNT s → total ≤ 256 → u.cells.map = .mapped ∧ u.cells.posCount = total) ∧
      (total ≠ cfgN Ent.STR_POS_COUNT s → u.cells.map = .mismatch ∧ isActive 0x2108 wide u = true))

/-! ### The estimator, the tables, capacity and identity -/

/-- The estimator's timed events, each at its instant and not before: no usable sample for 10 ms (R83), no source for 1 s (R83), a second
of rest, of 1,000 frames (R91), no valid temperature for 60 s (R90), a table in use loaded or found corrupt (R88).
COULOMB_WORD (R81, R82, R83): a word in form, with status clear, is a usable sample at its instant, EST_SHUNT_LAT before the end
of its CRC; a word out of form is none. -/
def Obligations.EstimatorTimedEvents : Prop :=
  (∀ (s : State), live s = true →
     (max s.est.lastUseAt s.sys.t0 + 10000000 ≤ s.now → Ends .coulLost s [.est, .flt] fun u =>
       u.est = { s.est with coulLost := true, usableRun := 0 } ∧ isActive 0x3002 wide u = true) ∧
     (s.now < max s.est.lastUseAt s.sys.t0 + 10000000 → Sends .coulLost s []) ∧
     (∀ t, s.est.noneSince = some t → s.est.source = .none → parked s = false → isFenced .e s = false →
       (t + 1000000000 ≤ s.now → Ends .sourceNoneTimeout s [.est, .flt] fun u =>
         u.est.ctx = s.est.ctx ∧ ∀ n ∈ positions s, (flAt n u).valid = false) ∧
       (s.now < t + 1000000000 → Sends .sourceNoneTimeout s [])) ∧
     (∀ m, estRuns s = true → s.est.secNone = false → s.est.secI ≠ [] → m = divT (sumI s.est.secI) s.est.secI.length →
       (1000 ≤ s.est.secFrames → Ends .restSecond s [.est] fun u =>
         u.est.m = some m ∧ u.est.secI = [] ∧ u.est.secFrames = 0 ∧ u.est.mHist = (some m :: s.est.mHist).take 60 ∧
         u.est.restT = (if m.natAbs * 50 ≤ ratedCap s then s.est.restT + 1 else 0)) ∧
       (s.est.secFrames < 1000 → Sends .restSecond s [])) ∧
     (∀ n : Fin 256, (doneAt n.val s).tq.valid = false → isFenced .e s = false →
       (lastTempAt n.val s + 60000000000 ≤ s.now → Ends (.tempHoldExpiry n) s [.est] fun u =>
         u.est.ctx = s.est.ctx ∧ flAt n.val u = { flAt n.val s with tempOld := true, countOnly := true } ∧
         ∀ k : Fin 256, k ≠ n → flAt k.val u = flAt k.val s) ∧
       (s.now < lastTempAt n.val s + 60000000000 → Sends (.tempHoldExpiry n) s [])) ∧
     (∀ k : Fin 16,
       (needsLoad k.val s = true → Ends (.tablePagerLoad k true) s [.est] fun u =>
         getAt u.est.tbl k.val = { getAt s.est.tbl k.val with wait := false, loaded := storedSet k.val s } ∧
         usableSet k.val u = usableSet k.val s) ∧
       (needsLoad k.val s = true → Ends (.tablePagerLoad k false) s [.est, .flt] fun u =>
         setState k.val u = .corrupt ∧ (getAt u.est.tbl k.val).loaded = none ∧ usableSet k.val u = none ∧
         isActive 0x3005 k.val u = true) ∧
       (∀ b, needsLoad k.val s = false → Sends (.tablePagerLoad k b) s []))) ∧
  (∀ (b : List Byte) (t : Nat) (s : State), live s = true →
     let good := b.length = 8 ∧ fieldU b 0 1 = 0xC3 ∧ fieldU b 6 2 = crc16 (b.take 6)
     (good → fieldU b 4 1 = 0 → Ends (.coulombWord b t) s [.now, .est, .flt] fun u =>
       u.now = max s.now t ∧ u.est.lastSeq = some (fieldU b 5 1) ∧ u.est.lastUse = fieldS b 1 3 ∧
       u.est.samples.head? = some ⟨t - cfgN Ent.EST_SHUNT_LAT s * 1000, fieldS b 1 3, true⟩) ∧
     (¬ good → Ends (.coulombWord b t) s [.now] fun u => u.now = max s.now t))

/-- Checkpoints, restore and hibernation (R104 to R107), each when it is due: every EST_CKPT_INT the older copy is written with the next
number; a restore sets the estimator running, with 0x300B where no copy passes; a string quiet for EST_HIB_DELAY hibernates and its
accumulator takes over the words that no frame has counted; a wake ends module hibernation; after 15 min the charge is applied. -/
def Obligations.CheckpointsRestoreAndHibernation : Prop :=
  ∀ (s : State), live s = true →
    (estRuns s = true → s.est.restored = true →
      (due s.est.cpAt (cfgN Ent.EST_CKPT_INT s * 1000000000) s = true → Ends .checkpointWrite s [.est] fun u =>
        u.est.ctx = s.est.ctx ∧ u.est.fl = s.est.fl ∧ u.est.cpAt = some s.now ∧
        (s.est.cpA.seq ≤ s.est.cpB.seq → u.est.cpB = s.est.cpB ∧ u.est.cpA.valid = true ∧ u.est.cpA.ctx = s.est.ctx.toList ∧
          u.est.cpA.seq = s.est.cpB.seq + 1) ∧
        (s.est.cpB.seq < s.est.cpA.seq → u.est.cpA = s.est.cpA ∧ u.est.cpB.valid = true ∧ u.est.cpB.ctx = s.est.ctx.toList ∧
          u.est.cpB.seq = s.est.cpA.seq + 1)) ∧
      (due s.est.cpAt (cfgN Ent.EST_CKPT_INT s * 1000000000) s = false → Sends .checkpointWrite s [])) ∧
    (∀ a b, restoreDue s = true → Ends (.contextRestore a b) s [.est, .ident, .flt, .ses, .pair] fun u =>
      u.est.restored = true ∧ u.est.state = (if ratedCap s = 0 then .off else .running) ∧ u.ident.loaded = true ∧
      u.est.cpAt = some s.now ∧ u.ident.hourAt = some s.now ∧
      (s.pair.paired = false → bestCheckpoint a b s.est = none → isActive 0x300B wide u = true)) ∧
    (estRuns s = true → s.est.restored = true →
      (quiet s.est.m s = true → cfgN Ent.EST_HIB_DELAY s * 60 ≤ s.est.quietT →
        Ends .eHibernate s [.est, .ident, .flt, .pair] fun u =>
          u.est.state = .hibernating ∧ u.est.hibSince = s.now ∧ u.est.waking = false ∧
          u.est.hibAcc = sumI ((s.est.samples.filter fun c => s.est.countedTo ≤ c.t).map (·.x))) ∧
      (s.est.quietT < cfgN Ent.EST_HIB_DELAY s * 60 → Sends .eHibernate s [])) ∧
    (∀ c, (c = .current → 4 ≤ s.est.wakeRun) → Ends (.eWake c) s [.est, .sys] fun u =>
      u.sys = { s.sys with hibernating := false } ∧
      (s.est.state = .hibernating → isFenced .e s = false → u.est = { s.est with waking := true })) ∧
    (s.est.wakeRun < 4 → Sends (.eWake .current) s []) ∧
    (s.est.state = .hibernating → isFenced .e s = false → s.est.waking = false →
      (s.est.hibSince + 900000000000 ≤ s.now → Ends .eTimerWake s [.est, .cells, .ident, .flt, .ses] fun u =>
        u.est.state = .hibernating ∧ u.est.hibAcc = 0 ∧ u.cells.sweepNew = false) ∧
      (s.now < s.est.hibSince + 900000000000 → Sends .eTimerWake s []))

/-- Capacity learning (R111 to R118): an entry committed is computed; its record is written, verified, to the copy with the lower
number, and the completion DONE is journaled; while the gauge is short the write is deferred, with 0x3011 after 60 s; after a restore an
entry whose record was written completes, in journal order.
Learned records (R112, R116, R120): a copy that fails is made good from the other, or the record is rebuilt where both fail; the hourly
batch writes every record with no entry open, or waits for the gauge. -/
def Obligations.CapacityLearningCompletes : Prop :=
  (∀ (n : Fin 256) (s : State) (e : CapLearn), live s = true → acts s = true →
     (lpAt n.val s).entry = some e → e.gen = (learnedAt n.val s).gen →
     let p := lpAt n.val s
     let done : Work := .own 0x02 (toBytes 8 p.entryJ ++ toBytes 1 1 ++ toBytes 2 n.val ++ toBytes 4 e.target)
     (∀ r, p.committed = true → p.closing = false → p.next = none → learnCompute n.val e s = some r →
       Ends (.capLearnCompute n) s [.ident] fun u => lpAt n.val u = { p with next := some r, state := .writing }) ∧
     (∀ r x y, p.next = some r → gaugeOk 10 s = true → (x || y) = true → topSeq p < 4294967295 →
       Ends (.capRecordWrite n x y) s [.ident, .ses, .flt, .pair] fun u =>
         (lpAt n.val u).closing = true ∧ (lpAt n.val u).next = none ∧ (lpAt n.val u).enter = true ∧ (lpAt n.val u).last = 1 ∧
         learnedAt n.val u = { learnedInto r (learnedAt n.val s) with seq := topSeq p + 1 } ∧
         u.ses.batch = s.ses.batch ++ [done] ∧ (s.ident.pendBatch = false → isActive 0x3011 n.val u = false)) ∧
     (∀ r x y, p.next = some r → gaugeOk 10 s = false → Ends (.capRecordWrite n x y) s [.ident] fun u =>
       lpAt n.val u = { p with state := .deferred, waitSince := some (p.waitSince.getD s.now) }) ∧
     (s.ident.loaded = true → s.est.restored = true → p.committed = true → p.closing = false → p.next = none →
       earlierOpen n.val s = false → e.target ≤ topSeq p → Ends (.openLearnCompletion n) s [.ident, .ses, .flt] fun u =>
         (lpAt n.val u).closing = true ∧ (lpAt n.val u).last = 1 ∧ (lpAt n.val u).enter = true ∧
         learnedAt n.val u = learnedAt n.val s ∧ u.ses.batch = s.ses.batch ++ [done])) ∧
  (∀ (n : Fin 256) (s : State) (t : Nat), live s = true → waitingSince n.val s = some t →
     (t + 60000000000 ≤ s.now → Ends (.learnDeferred n) s [.flt] fun u => isActive 0x3011 n.val u = true) ∧
     (s.now < t + 60000000000 → Sends (.learnDeferred n) s [])) ∧
  (∀ (s : State), live s = true →
     (∀ (n : Fin 256) (b : Bool), gaugeOk 10 s = true →
       ((lpAt n.val s).aOk = true → (lpAt n.val s).bOk = true → Ends (.learnedCopyRewrite n b) s [.ident, .flt] fun u =>
         (lpAt n.val u).aOk = true ∧ (lpAt n.val u).bOk = true ∧ (lpAt n.val u).a = (lpAt n.val u).b ∧
         (lpAt n.val u).a = (if b then (lpAt n.val s).a else (lpAt n.val s).b) ∧ isActive 0x3012 n.val u = false) ∧
       ((if b then (lpAt n.val s).aOk else (lpAt n.val s).bOk) = false → s.est.restored = true →
         Ends (.learnedCopyRewrite n b) s [.ident, .flt, .est, .pair] fun u =>
           learnedAt n.val u = { rebuiltRecord n.val s with seq := 1 } ∧ (flAt n.val u).stale = true ∧
           isActive 0x3013 n.val u = true)) ∧
     (s.ident.loaded = true → acts s = true → due s.ident.hourAt 3600000000000 s = true →
       (gaugeOk 2560 s = true → Ends .recordBatchHourly s [.ident, .est, .flt, .pair] fun u =>
         u.ident.pendBatch = false ∧ u.ident.hourAt = some s.now ∧
         ∀ n : Fin 256, (validCopy (lpAt n.val s)).isSome = true → topSeq (lpAt n.val s) < 4294967295 →
           topSeq (lpAt n.val u) = topSeq (lpAt n.val s) + (if (lpAt n.val s).entry.isSome then 0 else 1)) ∧
       (gaugeOk 2560 s = false → Ends .recordBatchHourly s [.ident] fun u =>
         u.ident = { s.ident with
           pendBatch := true, pendSince := (if s.ident.pendBatch then s.ident.pendSince else s.now), hourAt := some s.now })) ∧
     (due s.ident.hourAt 3600000000000 s = false → Sends .recordBatchHourly s []))

/-! ### The stage link -/

/-- The lanes (R138, R139): training begins on a wired lane that is DOWN; two good SAMPLE frames bring it UP, which asks IDENT and,
where no select is asserted, selects lane 0 or, without it, lane 1; a selected lane that falls hands its select to the other lane
at the next boundary, any other raises its fault.
The stage's service replies (R137, R145, R161): one that passes its CRC and answers a waiting request by opcode and TAG is taken. IDENT
is kept and compared with the configuration, 0x4007 where it does not fit and 0x4008 where the frequency lies outside its range; FAULTS
raises 0x4006; only a FAULT_CLEAR reply of 0 clears it. Any other frame changes nothing. -/
def Obligations.LanesTrainSelectAndFall : Prop :=
  (∀ (l : Lane) (s : State), live s = true →
     (cRuns s = true → wired l s = true → laneState l s = .down → Ends (.laneTraining l) s [.link] fun u =>
       u.out = [] ∧ laneState l u = .training ∧ laneGood l u = 0 ∧ laneState (otherLane l) u = laneState (otherLane l) s ∧
       u.link.select = s.link.select) ∧
     (cRuns s = true → laneState l s = .training → 2 ≤ laneGood l s → s.pair.paired = false → s.pair.handing = false →
       Ends (.laneUp l) s [.link, .flt] fun u =>
         laneState l u = .up ∧ laneState (otherLane l) u = laneState (otherLane l) s ∧ u.link.identReq = true ∧
         isActive (0x4001 + laneNo l) wide u = false ∧
         u.link.select = match s.link.select with
           | some k => some k
           | none => some (if laneUp .l0 u then 0 else 1)) ∧
     (laneState l s ≠ .down → isSelected l s = true → s.pair.paired = false → laneUp (otherLane l) s = true →
       Ends (.laneDown l) s [.link] fun u =>
         laneState l u = .down ∧ u.link.moveFrom = some (laneNo l) ∧ u.link.select = s.link.select ∧ u.out = []) ∧
     (laneState l s ≠ .down → s.pair.paired = false → (isSelected l s = false ∨ laneUp (otherLane l) s = false) →
       Ends (.laneDown l) s [.link, .flt] fun u =>
         laneState l u = .down ∧ isActive (0x4001 + laneNo l) wide u = true ∧
         u.link.select = if isSelected l s then none else s.link.select)) ∧
  (∀ (s : State), live s = true →
     (∀ b p : List Byte, svcReply 1 b s = some p → p.length = 35 → Ends (.identReply b) s [.link, .flt] fun u =>
       u.link.stage = { s.link.stage with
         id := fieldU p 0 8, phases := fieldU p 8 1, fswMin := fieldU p 9 4, fswMax := fieldU p 13 4, iRated := fieldU p 17 4
         vbusMax := fieldS p 21 4, vstrMax := fieldS p 25 4, iphLsb := fieldU p 29 2, fw := fieldU p 31 4, known := true } ∧
       (∀ r ∈ u.link.svc, r.tag ≠ fieldU b 2 1) ∧
       isActive 0x4007 wide u = decide (fieldU p 8 1 ≠ cfgN Ent.CVT_PHASES s ∨ fieldS p 21 4 < cfg Ent.CVT_VBUS_LIMIT s ∨
         fieldS p 25 4 < cfg Ent.CVT_VSTR_LIMIT s) ∧
       ((cfgN Ent.CVT_PWM_FREQ s < fieldU p 9 4 ∨ fieldU p 13 4 < cfgN Ent.CVT_PWM_FREQ s) → isActive 0x4008 wide u = true)) ∧
     (∀ b p : List Byte, svcReply 2 b s = some p → p.length = 4 → Ends (.faultsReply b) s [.link, .flt] fun u =>
       u.link.stage = { s.link.stage with faults := fieldU p 0 4 } ∧ u.link.clearReq = true ∧ isActive 0x4006 wide u = true) ∧
     (∀ b p : List Byte, svcReply 3 b s = some p → p.length = 4 → Ends (.faultClearReply b) s [.link, .flt] fun u =>
       u.link.stage = { s.link.stage with faults := fieldU p 0 4 } ∧ u.link.clearReq = decide (fieldU p 0 4 ≠ 0) ∧
       isActive 0x4006 wide u = (if fieldU p 0 4 = 0 then false else isActive 0x4006 wide s)) ∧
     (∀ (op : Nat) (b : List Byte),
       (fieldU b (b.length - 4) 4 ≠ crc32c (b.take (b.length - 4)) ∨ fieldU b 1 1 ≠ op + 128 ∨
         ∀ r ∈ s.link.svc, r.op = op → r.tag ≠ fieldU b 2 1) →
       (op = 1 → Sends (.identReply b) s []) ∧ (op = 2 → Sends (.faultsReply b) s []) ∧ (op = 3 → Sends (.faultClearReply b) s [])))

/-- SAMPLE frames of a module alone (R134, R139, R141, R143, R144): a bad one is not used; in TRAINING good ones are counted; on a
lane that is UP the first of a period that comes in time is kept, and the lane the stage obeys is SELECTED where its select is asserted;
a late one is not used. At its deadline a period without one counts, once.
SAMPLE_LOST (R144): after CVT_SAMPLE_MISS_MAX such periods 0x4003, and a running mode falls to STANDBY with MODE OFF. -/
def Obligations.SampleFramesAreTaken : Prop :=
  (∀ (l : Lane) (t : Nat) (b : List Byte) (c : Nat) (s : State), live s = true → s.pair.paired = false → s.pair.handing = false →
     s.pair.laneHeld = false → s.sp.mode.running = false → cRuns s = true →
     (wired l s = true →
       (sampleOk b = false → Ends (.sampleFrame l t b c) s [.now, .link] fun u =>
         u.now = max s.now t ∧ u.link = { s.link with moved := [], badCrc := true } ∧ u.out = []) ∧
       (sampleOk b = true → laneState l s = .training → Ends (.sampleFrame l t b c) s [.now, .link] fun u =>
         laneGood l u = laneGood l s + 1 ∧ laneState l u = .training ∧ u.link.sample = s.link.sample) ∧
       (sampleOk b = true → laneUp l s = true → s.link.usable = false → 0 < s.tb.boundaries → peakNs s ≤ t → t ≤ sampleBy s →
         Ends (.sampleFrame l t b c) s [.now, .link, .est, .flt] fun u =>
           u.link.sample = parseSample b ∧ u.link.usable = true ∧ u.link.missRun = 0 ∧ u.link.computed = true ∧
           u.link.doneAt = t + c ∧ u.link.next.run = false ∧ u.link.next.en = 0 ∧ u.link.accNow.n = 1 ∧
           (isSelected l s = true → (parseSample b).lane = stageLane l s → laneState l u = .selected) ∧
           ((parseSample b).selConflict = true → isActive 0x400B wide u = true) ∧
           ((parseSample b).fault = true → u.link.faultsReq = true)) ∧
       (sampleOk b = true → laneUp l s = true → (s.link.usable = true ∨ t < peakNs s ∨ sampleBy s < t) →
         Ends (.sampleFrame l t b c) s [.now, .link] fun u =>
           u.link.sample = s.link.sample ∧ u.link.usable = s.link.usable)) ∧
     (0 < s.tb.boundaries → s.link.judged = false → s.link.usable = false →
       (sampleBy s ≤ t → Ends (.sampleDeadline t) s [.now, .link, .flt] fun u =>
         let lane := laneUp .l0 s || laneUp .l1 s
         u.link.judged = true ∧ u.link.usable = false ∧
         u.link.late = (if lane && !s.link.badCrc then incSat32 s.link.late else s.link.late) ∧
         u.link.crcErr = (if lane && s.link.badCrc then incSat32 s.link.crcErr else s.link.crcErr) ∧
         u.link.missRun = (if lane then s.link.missRun + 1 else s.link.missRun)) ∧
       (t < sampleBy s → Sends (.sampleDeadline t) s [])) ∧
     (s.link.judged = true → Sends (.sampleDeadline t) s [])) ∧
  (∀ s : State, live s = true →
     (cfgN Ent.CVT_SAMPLE_MISS_MAX s ≤ s.link.missRun → Ends .sampleLost s [.sp, .link, .flt] fun u =>
       isActive 0x4003 wide u = true ∧ (s.sp.mode.running = false → u.sp = s.sp ∧ u.link = s.link) ∧
       (s.sp.mode.running = true → drives s = true → u.sp.mode = .standby ∧ u.link.next.run = false ∧ u.sp.r = 0)) ∧
     (s.link.missRun < cfgN Ent.CVT_SAMPLE_MISS_MAX s → Sends .sampleLost s []))

/-- In STRING_CURRENT the unit of the direction computes the duty of the next DUTY frame from the reference less I_sum (R147, R151,
R152): its error clamped, its sum shifted and limited to the duty limits latched at the boundary, and its histories shifted. -/
def Obligations.CurrentLoopComputesTheDuty : Prop :=
  ∀ (l : Lane) (t : Nat) (b : List Byte) (c : Nat) (s : State), live s = true → cRuns s = true → s.pair.paired = false →
    s.pair.handing = false → s.pair.laneHeld = false → wired l s = true → laneUp l s = true → sampleOk b = true →
    s.link.usable = false → 0 < s.tb.boundaries → peakNs s ≤ t → t ≤ sampleBy s →
    s.sp.mode = .stringCurrent → inControl s = true → (parseSample b).stopped = false → s.sp.modeOff = false → s.sp.dwell = 0 →
    s.sp.flipDue = false → 0 < s.sp.quiet →
    let k := loopOf s.sp.dir s
    let x := parseSample b
    let e := clampI (-s.sp.chgLim) s.sp.disLim (divT s.sp.r 65536) - iSumOf x s.sp.en s.link.stage.iphLsb
    let run := cuRun (cuAt k s) e s.link.lat.dutyMin s.link.lat.dutyMax
    k < 8 → k ≠ s.link.vloop → loopOf (opposite s.sp.dir) s ≠ k → (cuAt k s).state = .run → run.2 = false →
    run.1.sat < (cuAt k s).satMax →
      Ends (.sampleFrame l t b c) s [.now, .link, .sp, .est, .flt] fun u =>
        u.link.sample = x ∧ u.link.computed = true ∧ u.link.next.duty = run.1.out.toNat ∧ u.link.next.run = true ∧
        u.link.next.held = false ∧ u.link.next.en = s.sp.en ∧ cuAt k u = run.1 ∧
        run.1.out = clampI s.link.lat.dutyMin s.link.lat.dutyMax
          (asr (wrapS 48 (cuSum (cuAt k s) (clampI (-((cuAt k s).emax : Int)) (cuAt k s).emax e))) (cuAt k s).shift)

/-- DUTY_SEND of a module alone (R135, R137, R141, R143, R163): within 10 ns of t_D the computed duty, or the last one with HELD, leaves
under the next SEQ on every wired lane, one frame in a period, and after it at most one service request, with the next TAG; a
computation that is not complete in time raises 0x4103, and the third in a row ends the switching. -/
def Obligations.DutyFramesLeave : Prop :=
  ∀ (t : Nat) (s : State), live s = true → cRuns s = true → s.pair.paired = false → s.pair.handSeq = none → s.pair.fenceIn = false →
    s.sp.flipDue = false →
    let complete := decide (s.link.doneAt ≤ t)
    let base := if s.link.computed && complete then { s.link.next with held := false } else { s.link.last with held := true }
    let off := !s.sp.mode.running || s.sp.modeOff || s.link.offReq
    let d : DutyOut := { base with act := inControl s, run := base.run && !(inControl s && off) }
    let seq := (s.link.seq + 1) % 65536
    let now := decide (dutyAt s ≤ t + 10) && decide (t ≤ dutyAt s + 10) && !s.link.sent
    (now = true → (complete = true ∨ s.link.usable = false) → Ends (.dutySend t) s [.now, .link] fun u =>
      u.link.seq = seq ∧ u.link.last = d ∧ u.link.sent = true ∧ u.link.overRun = 0 ∧ .dutyFrame 0 (dutyBytes seq d) ∈ u.out ∧
      (.dutyFrame 1 (dutyBytes seq d) ∈ u.out ↔ wired .l1 s = true) ∧
      (∀ op ln, svcNext s = some op → ln ∈ svcLanes s → u.link.tag = (s.link.tag + 1) % 256 ∧
        .stageService (laneNo ln) (svcFrame op s.link.tag []) ∈ u.out ∧ ⟨op, s.link.tag, 0⟩ ∈ u.link.svc)) ∧
    (now = true → complete = false → s.link.usable = true → Ends (.dutySend t) s [.now, .link, .flt, .sp] fun u =>
      u.link.seq = seq ∧ u.link.last = d ∧ d.held = true ∧ u.link.overRun = s.link.overRun + 1 ∧
      isActive 0x4103 wide u = true ∧ .dutyFrame 0 (dutyBytes seq d) ∈ u.out ∧
      (s.link.overRun < 2 → u.sp = s.sp) ∧
      (2 ≤ s.link.overRun → s.sp.mode.running = true → u.sp.mode = .standby ∧ u.link.next.run = false)) ∧
    (now = false → Sends (.dutySend t) s [])

/-- A PWM boundary of a module alone that does not switch (R142, R154, R155, R166, R167): where the phase accumulator turns over, STG_SYNC
leaves, limits and units are latched and the period begins anew; a run action then starts its mode with every healthy phase at its
angle and the loop at the start duty, or raises 0x4012 where no phase is left. -/
def Obligations.BoundariesLatchAndStart : Prop :=
  ∀ (t : Nat) (s : State), live s = true → cRuns s = true → s.pair.paired = false → s.sp.toStandby = false →
    s.link.moveFrom = none →
    let common (u : State) : Prop :=
      u.now = max s.now t ∧ (s.tb.boundaries ≠ 0 → u.tb.valley = s.tb.valley + valleySteps s.tb.phase s.tb.period) ∧
      u.tb.boundaries = s.tb.boundaries + 1 ∧ .stgSync ∈ u.out ∧
      u.link.usable = false ∧ u.link.computed = false ∧ u.link.judged = false ∧ u.link.sent = false ∧
      u.sp.disLim = s.sp.wDis ∧ u.sp.chgLim = s.sp.wChg ∧
      u.link.lat.dutyMin = cfg Ent.CVT_DUTY_MIN s ∧ u.link.lat.dutyMax = cfg Ent.CVT_DUTY_MAX s ∧
      u.link.vloop = cfgN Ent.CVT_CU_MAP s % 16 ∧ u.link.dis = cfgN Ent.CVT_CU_MAP s / 16 % 16 ∧
      u.link.chg = cfgN Ent.CVT_CU_MAP s / 256 % 16
    (valleyDue t s = true → s.sp.mode.running = false → s.sp.req = .none →
      Ends (.pwmBoundary t) s [.now, .tb, .link, .sp, .pair, .flt] fun u =>
        common u ∧ u.sp.mode = s.sp.mode ∧ u.sp.en = s.sp.en ∧ u.link.next = s.link.next) ∧
    (∀ m, valleyDue t s = true → s.sp.mode = .standby → s.sp.req = .run m → m.running = true → s.sp.dwell = 0 →
      (healthyPhases s ≠ 0 → Ends (.pwmBoundary t) s [.now, .tb, .link, .sp, .pair, .flt, .dsp] fun u =>
        common u ∧ u.sp.mode = m ∧ u.sp.req = .none ∧ u.sp.en = healthyPhases s ∧ u.sp.ang = anglesFor (healthyPhases s) ∧
        u.sp.modeOff = false ∧ u.sp.r = (if m = .busVoltage then s.link.sample.vBus * 65536 else 0) ∧
        (loopOf u.sp.dir u < 8 → (m = .busVoltage → u.link.vloop ≠ loopOf u.sp.dir u) →
          (cuAt (loopOf u.sp.dir u) u).out = startDuty s)) ∧
      (healthyPhases s = 0 → Ends (.pwmBoundary t) s [.now, .tb, .link, .sp, .pair, .flt] fun u =>
        common u ∧ u.sp.mode = .standby ∧ u.sp.req = .none ∧ isActive 0x4012 wide u = true)) ∧
    (valleyDue t s = false → Sends (.pwmBoundary t) s [])

/-- The timebase (R155, R157, R158): a SYNC_IN edge is kept, its period and instant filtered; a lost source glides from the last locked
value and raises 0x4009; 16 periods within 20 ns lock and clear it; while the stage switches, no period differs from the last by more
than 0.05 % of the nominal one, with a source or without. -/
def Obligations.TimebaseFollowsItsSource : Prop :=
  ∀ (s : State), live s = true → followsStage s = false →
    (∀ t, tbSource s = 1 → Ends (.syncInEdge t) s [.now, .tb] fun u =>
      u.now = max s.now t ∧ u.tb.lastEdge = some t ∧
      (s.tb.lastEdge = none → u.tb.filt = nominalPs s ∧ u.tb.edge = (t : Int) * 1000) ∧
      (∀ e, s.tb.lastEdge = some e →
        u.tb.filt = s.tb.filt + divT (((t : Int) - e) * 1000 - s.tb.filt) 16 ∧
        u.tb.edge = s.tb.edge + u.tb.filt + divT ((t : Int) * 1000 - (s.tb.edge + u.tb.filt)) 16)) ∧
    (∀ t, tbSource s ≠ 0 →
      (sourceLost (atTime t s) = true → Ends (.tbSourceLoss t) s [.now, .tb, .flt] fun u =>
        isActive 0x4009 wide u = true ∧ u.tb.state = (if s.tb.state = .free then .free else .gliding) ∧
        u.tb.period = (if s.tb.state = .locked then (limitPeriod s.tb.lostRate s).toNat else s.tb.period) ∧
        (tbSource s = 1 → edgeOutOfRange s = true → isActive 0x400A wide u = true)) ∧
      (sourceLost (atTime t s) = false → Ends (.tbSourceLoss t) s [.now] fun u => u.now = max s.now t)) ∧
    (s.tb.state = .locking → 16 ≤ s.tb.lockRun → Ends .tbLocked s [.tb, .flt] fun u =>
      u.tb = { s.tb with state := .locked } ∧ isActive 0x4009 wide u = false) ∧
    (∀ t, cRuns s = true → valleyDue t s = true → s.link.last.run = true →
      (tbSource s = 0 → ∃ u, exec (.pwmBoundary t) s = .next u ∧
        u.tb.state = .free ∧ u.tb.period = (glide (nominalPs s) s).toNat ∧
        (glide (nominalPs s) s - s.tb.period).natAbs ≤ (slewPs s).natAbs) ∧
      (tbSource s ≠ 0 → 0 ≤ slewPs s → slewPs s ≤ s.tb.period → ∃ u, exec (.pwmBoundary t) s = .next u ∧
        ((u.tb.period : Int) - s.tb.period).natAbs ≤ (slewPs s).natAbs))

/-! ### Set-points, ramps, phases -/

/-- The ramp (R171, R176): a boundary moves r by at most one step of the mode's rate and never out of its limits. -/
def Obligations.RampStaysInItsLimits : Prop :=
  ∀ (s : State) (lo hi : Int), rampBounds s.sp.mode s = (lo, hi) → lo ≤ hi →
    lo * 65536 ≤ (rampStep s).sp.r ∧ (rampStep s).sp.r ≤ hi * 65536 ∧
    (0 ≤ rampStepOf (rampRate s.sp.mode s) s → lo * 65536 ≤ s.sp.r → s.sp.r ≤ hi * 65536 →
      (((rampStep s).sp.r - s.sp.r).natAbs : Int) ≤ rampStepOf (rampRate s.sp.mode s) s)

/-- The external set-points (R169, R170): a sample is scaled, limited and filtered; a condition that has lasted SP_LOS_TIME, or a silent
pulse input, is a loss, which keeps the value from before it and, where its source is selected with the action STANDBY, orders the
ramp-down; a source without a condition for 100 ms returns. Neither happens before its time. -/
def Obligations.SetpointSources : Prop :=
  ∀ (s : State), live s = true →
    (∀ (t : Nat) (x : Int) (op : Bool), isFenced .f s = false → isActive 0x6040 wide s = false →
      Ends (.aiSpSample t x op) s [.now, .sp] fun u =>
        u.now = max s.now t ∧ u.sp.pi = s.sp.pi ∧
        u.sp.ai.y = wrapS 32 (s.sp.ai.y + divT ((u.sp.ai.lastX - s.sp.ai.y) * filterCoef 100 (cfg Ent.SP_AI_FILT s)) 65536) ∧
        (cfgN Ent.SP_AI_MODE s = 0 → u.sp.ai.lastX = clampI (-65536) 65536 (divT (x * 65536) 10000000) ∧
          u.sp.ai.cond = (op || decide (10500000 < x.natAbs))) ∧
        (cfgN Ent.SP_AI_MODE s ≠ 0 → u.sp.ai.lastX = clampI 0 65536 (divT ((x - 4000) * 65536) 16000) ∧
          u.sp.ai.cond = decide (x < 3600 ∨ 21000 < x))) ∧
    (∀ t high : Nat, isFenced .f s = false → isActive 0x6041 wide s = false →
      (s.sp.pi.rise = none → Ends (.piSpEdge t high) s [.now, .sp] fun u =>
        u.now = max s.now t ∧ u.sp.pi = { s.sp.pi with rise := some t }) ∧
      (∀ t0, s.sp.pi.rise = some t0 → Ends (.piSpEdge t high) s [.now, .sp] fun u =>
        let per : Int := (t - t0 : Nat)
        u.now = max s.now t ∧ u.sp.pi.rise = some t ∧ u.sp.ai = s.sp.ai ∧
        u.sp.pi.y = wrapS 32 (s.sp.pi.y +
          divT ((u.sp.pi.lastX - s.sp.pi.y) * filterCoef (divT per 1000) (cfg Ent.SP_PI_FILT s)) 65536) ∧
        (cfgN Ent.SP_PI_MODE s ≠ 0 → u.sp.pi.lastX = clampI 0 65536 (divT (high * 65536) per)) ∧
        (cfgN Ent.SP_PI_MODE s = 0 → u.sp.pi.lastX = wrapS 32 (divT ((1000000000 - cfg Ent.SP_PI_F0 s * per) * 65536)
          (per * (cfg Ent.SP_PI_F1 s - cfg Ent.SP_PI_F0 s)))))) ∧
    (∀ k, let due := ((sourceOf k s).cond = true ∧ (sourceOf k s).since + cfgN Ent.SP_LOS_TIME s * 1000000 ≤ s.now) ∨
        (k = .pi ∧ s.sp.pi.rise.getD 0 + cfgN Ent.SP_LOS_TIME s * 1000000 ≤ s.now)
      (due → Ends (.lossOfSignal k) s [.sp, .flt] fun u =>
        (sourceOf k u).lost = true ∧ isActive (losCode k) wide u = true ∧ u.sp.mode = s.sp.mode ∧
        (sourceOf k u).hold = (if (sourceOf k s).cond then (sourceOf k s).hold else (sourceOf k s).y) ∧
        (selected s = some k → losAction k s = 2 → s.sp.mode.running = true → s.sp.toStandby = false →
          u.sp.accepted = (if s.sp.accepted = .opening then .opening else .standby)) ∧
        ((selected s = none ∨ (selected s = some k ∧ losAction k s ≠ 2)) → u.sp.accepted = s.sp.accepted)) ∧
      (¬ due → Sends (.lossOfSignal k) s [])) ∧
    (∀ k, let silent := k = .pi ∧ s.sp.pi.rise.getD 0 + cfgN Ent.SP_LOS_TIME s * 1000000 ≤ s.now
      ((sourceOf k s).cond = false → (sourceOf k s).since + 100000000 ≤ s.now → ¬ silent →
        Ends (.signalRestored k) s [.sp, .flt] fun u =>
          sourceOf k u = { sourceOf k s with lost := false } ∧ isActive (losCode k) wide u = false) ∧
      ((sourceOf k s).cond = true ∨ s.now < (sourceOf k s).since + 100000000 → Sends (.signalRestored k) s []))

/-- Direction and phases (R160, R175, R183, R185, R187): the end of a dwell whose periods have run flips the direction and preloads its
loop with d_z; a load low for SP_SHED_DELAY takes the highest enabled phase at the next boundary; the hold ends after SP_SHED_HOLD; a
redistribution is over once its 16 steps are made, and its last one reaches the new angles; an imbalance that has lasted CVT_IMB_TIME
warns with 0x4010 or sheds its phase with 0x4011, one in a frame. -/
def Obligations.DirectionAndPhases : Prop :=
  ∀ (s : State), live s = true →
    (s.sp.flipDue = true → s.sp.mode.running = true → loopOf (opposite s.sp.dir) s < 8 →
      Ends .dwellEnd s [.sp, .link, .recd] fun u =>
        u.sp.dir = opposite s.sp.dir ∧ u.sp.flipDue = false ∧ u.recd.dirs = s.recd.dirs + 1 ∧
        (cuAt (loopOf (opposite s.sp.dir) s) u).out = s.sp.dz) ∧
    (s.sp.flipDue = false → Sends .dwellEnd s []) ∧
    (∀ j t, shedOpen s = true → loadLow s = true → (List.range 12).reverse.find? (bitOf s.sp.en) = some j →
      s.sp.lowSince = some t →
      (t + cfgN Ent.SP_SHED_DELAY s * 1000000 ≤ s.now → Ends .phaseShed s [.sp] fun u =>
        u.sp = { s.sp with wantShed := some j, changed := true, lowSince := none }) ∧
      (s.now < t + cfgN Ent.SP_SHED_DELAY s * 1000000 → Sends .phaseShed s [])) ∧
    (∀ t, s.sp.holdEnd = some t →
      (t ≤ s.now → Ends .shedHoldEnd s [.sp] fun u => u.sp = { s.sp with shedHold := false, holdEnd := none }) ∧
      (s.now < t → Sends .shedHoldEnd s [])) ∧
    (s.sp.redist = 0 → Ends .redistributionEnd s [.sp] fun u => u.sp = { s.sp with moving := false }) ∧
    (s.sp.redist ≠ 0 → Sends .redistributionEnd s []) ∧
    (s.sp.redist = 1 → (redistStep s).sp.redist = 0 ∧ ∀ j, j < 12 → (redistStep s).sp.ang.getD j 0 = s.sp.toAng.getD j 0) ∧
    (∀ (j : Fin 12) (shed : Bool), s.sp.mode.running = true → bitOf s.sp.en j.val = true →
      (imbalanceDue j.val shed s = true →
        (shed = false → Ends (.phaseImbalance j shed) s [.flt] fun u => isActive 0x4010 wide u = true) ∧
        (shed = true → s.sp.changed = false → Ends (.phaseImbalance j shed) s [.sp, .link, .flt] fun u =>
          isActive 0x4011 j.val u = true ∧ u.sp.wantShed = some j.val ∧ u.sp.changed = true ∧
          bitOf u.link.faulted j.val = true) ∧
        (shed = true → s.sp.changed = true → Sends (.phaseImbalance j shed) s [])) ∧
      (imbalanceDue j.val shed s = false → Sends (.phaseImbalance j shed) s []))

/-! ### Protection and dispatch -/

/-- The sequence timers (R200, R201), each when its step has lasted its time and not before: PRECHARGE_CLOSE closes the precharge
contactor, opens it, and ends in STANDBY; OPEN opens the negative contactor, and ends in PARKED; a wait that ends too late fails with its
code or opens under load.
A trip (R197), here of a string voltage found before the precharge contactor closes: its code, every coil off, MODE OFF, PARKED,
the sequence FAILED, and the latch with the first cause. -/
def Obligations.SequenceTimersStep : Prop :=
  (∀ (s : State), live s = true → s.prot.result = .running →
     let past (ms : Nat) : Prop := s.prot.stepAt + ms * 1000000 ≤ s.now
     let close := cfgN Ent.PROT_K_CLOSE_T s
     let open_ := cfgN Ent.PROT_K_OPEN_T s
     (s.prot.seq = .precharge → s.prot.step = 2 → past close → s.link.mean.vStr ≤ cfg Ent.PROT_WELD_V s →
       Ends .sequenceTimer s [.prot, .dio, .link] fun u =>
         u.prot.pre.coil = true ∧ u.prot.step = 4 ∧ u.prot.stepAt = s.now ∧ u.prot.main = s.prot.main ∧ u.prot.neg = s.prot.neg) ∧
     (s.prot.seq = .precharge → s.prot.step = 5 → past close → Ends .sequenceTimer s [.prot, .dio, .link] fun u =>
       u.prot.pre.coil = false ∧ u.prot.step = 6 ∧ u.prot.main = s.prot.main ∧ u.prot.neg = s.prot.neg) ∧
     (s.prot.seq = .precharge → s.prot.step = 6 → past open_ → Ends .sequenceTimer s [.prot, .ses, .flt, .sp, .link] fun u =>
       u.prot.result = .complete ∧ u.prot.step = 7 ∧ u.sp.mode = .standby ∧ u.prot.main = s.prot.main) ∧
     (s.prot.seq = .open_ → s.prot.step = 3 → past open_ → Ends .sequenceTimer s [.prot, .dio, .link] fun u =>
       u.prot.neg.coil = false ∧ u.prot.step = 4 ∧ u.prot.main = s.prot.main ∧ u.prot.pre = s.prot.pre) ∧
     (s.prot.seq = .open_ → s.prot.step = 4 → past open_ → Ends .sequenceTimer s [.prot, .ses, .flt, .sp, .link] fun u =>
       u.prot.result = .complete ∧ u.prot.step = 5 ∧ u.sp.mode = .parked) ∧
     (¬ past (if s.prot.seq = .precharge ∧ s.prot.step ≠ 6 then close else open_) → Sends .sequenceTimer s []) ∧
     (s.prot.seq = .precharge → s.prot.step = 1 →
       (past (cfgN Ent.PROT_DISCH_WAIT s) → Ends .dischargeWaitTimeout s [.prot, .ses, .flt, .dio, .link] fun u =>
         coilsOff u = true ∧ u.prot.result = .failed ∧ isActive 0x5014 wide u = true) ∧
       (¬ past (cfgN Ent.PROT_DISCH_WAIT s) → Sends .dischargeWaitTimeout s [])) ∧
     (s.prot.seq = .precharge → s.prot.step = 4 →
       (past (cfgN Ent.PROT_PRE_TIMEOUT s) → Ends .prechargeTimeout s [.prot, .ses, .flt, .dio, .link] fun u =>
         coilsOff u = true ∧ u.prot.result = .failed ∧ isActive 0x5013 wide u = true) ∧
       (¬ past (cfgN Ent.PROT_PRE_TIMEOUT s) → Sends .prechargeTimeout s [])) ∧
     (s.prot.seq = .open_ → s.prot.step = 2 →
       (past (cfgN Ent.PROT_OPEN_WAIT s) → Ends .openWaitTimeout s [.prot, .flt, .dio, .link] fun u =>
         u.prot.main.coil = false ∧ u.prot.pre.coil = false ∧ u.prot.step = 3 ∧ u.prot.breaks = incSat32 s.prot.breaks ∧
         isActive 0x5016 wide u = true) ∧
       (¬ past (cfgN Ent.PROT_OPEN_WAIT s) → Sends .openWaitTimeout s []))) ∧
  (∀ (s : State), live s = true → drives s = true → s.prot.result = .running → s.prot.seq = .precharge → s.prot.step = 2 →
     s.prot.stepAt + cfgN Ent.PROT_K_CLOSE_T s * 1000000 ≤ s.now →
     cfg Ent.PROT_WELD_V s < s.link.mean.vStr → Ends .sequenceTimer s [.prot, .ses, .flt, .dio, .link, .sp, .recd] fun u =>
       isActive 0x5011 wide u = true ∧ coilsOff u = true ∧ u.link.offReq = true ∧ u.sp.mode = .parked ∧ u.prot.result = .failed ∧
       u.prot.tripped = true ∧
       (s.prot.tripped = false → u.prot.cause = 0x5011 ∧ u.prot.tripInst = wide ∧ u.prot.tripTime = s.now) ∧
       (s.prot.tripped = true → u.prot.cause = s.prot.cause ∧ u.prot.tripTime = s.prot.tripTime))

/-- Disagreement, dispatch and rest (R195, R207, R209): a disagreement that lasts PROT_XCHK_T raises 0x500C; a silence of DSP_TIMEOUT
raises 0x5017, once, and holds, takes zero or orders the ramp-down; a rest window ends when its time is out. -/
def Obligations.ProtectionAndDispatchTimers : Prop :=
  ∀ (s : State), live s = true →
    (∀ t, s.prot.xchkSince = some t →
      (t + cfgN Ent.PROT_XCHK_T s * 1000000 ≤ s.now → Ends .xchkTimeout s [.flt] fun u => isActive 0x500C wide u = true) ∧
      (s.now < t + cfgN Ent.PROT_XCHK_T s * 1000000 → Sends .xchkTimeout s [])) ∧
    (∀ t, s.dsp.restEnd = some t →
      (t ≤ s.now → Ends .restWindowEnd s [.dsp] fun u => u.dsp = { s.dsp with restEnd := none }) ∧
      (s.now < t → Sends .restWindowEnd s [])) ∧
    (∀ t, s.dsp.silentFrom = some t → 0 < cfgN Ent.DSP_TIMEOUT s → cfgN Ent.SP_SOURCE s = 0 →
      (s.sp.mode = .stringCurrent ∨ s.sp.mode = .stringPower) →
      (t + cfgN Ent.DSP_TIMEOUT s * 1000000 ≤ s.now →
        (cfgN Ent.DSP_TIMEOUT_ACT s = 0 → Ends .dispatchTimeout s [.flt, .dsp] fun u =>
          isActive 0x5017 wide u = true ∧ u.dsp = { s.dsp with silentFrom := none }) ∧
        (cfgN Ent.DSP_TIMEOUT_ACT s = 1 → StoreInv s → Ends .dispatchTimeout s [.flt, .dsp, .store] fun u =>
          isActive 0x5017 wide u = true ∧ StoreInv u ∧ u.dsp = { s.dsp with silentFrom := none } ∧
          (s.sp.mode = .stringPower → cfg Ent.SP_P_SET u = 0 ∧ cfg Ent.SP_I_SET u = cfg Ent.SP_I_SET s) ∧
          (s.sp.mode = .stringCurrent → cfg Ent.SP_I_SET u = 0 ∧ cfg Ent.SP_P_SET u = cfg Ent.SP_P_SET s)) ∧
        (2 ≤ cfgN Ent.DSP_TIMEOUT_ACT s → Ends .dispatchTimeout s [.flt, .dsp, .sp] fun u =>
          isActive 0x5017 wide u = true ∧ u.dsp = { s.dsp with silentFrom := none } ∧
          u.sp = { s.sp with accepted := if s.sp.accepted = .opening then .opening else .standby })) ∧
      (s.now < t + cfgN Ent.DSP_TIMEOUT s * 1000000 → Sends .dispatchTimeout s []))

/-! ### Safety functions -/

/-- The safety cycle (R213, R219 to R221, R233): it starts at a frame tick, or 1 ms after the last one, and at no other instant; a cycle
not completed, or a second one in which the cores differ, opens every safe output until a reset; a VALID voltage above SAF_OV_LEVEL
demands SF-OV, latches, and opens the outputs of SAF_Q_MASK; DI31 found low after high ends a pulse of the length measured. -/
def Obligations.SafetyCycleDemandsAndFails : Prop :=
  ∀ (s : State) (di : Bool), live s = true → isFenced .s s = false →
    (cycleDue s = true → s.saf.state ≠ .failed →
      (∀ done agree, (done = false ∨ (agree = false ∧ 1 ≤ s.saf.diffRun)) →
        Ends (.safetyCycle done agree di) s [.saf, .dio, .flt, .link] fun u =>
          u.saf.state = .failed ∧ isActive 0x5808 wide u = true ∧ allOpen u) ∧
      (safRuns s = false → Ends (.safetyCycle true true di) s [.saf] fun u =>
        u.saf.diffRun = 0 ∧ u.saf.cycleAt = some s.now ∧ u.saf.state = s.saf.state ∧ u.saf.demand = s.saf.demand) ∧
      (safRuns s = true → s.saf.applied = true → exceedsPst .ov s = false →
        anyCell (fun c => c.vq.valid && decide ((c.v : Int) > safI Ent.SAF_OV_LEVEL s)) s = true →
        Ends (.safetyCycle true true di) s [.saf, .flt, .dio, .link, .pair] fun u =>
          u.saf.demand.ov = true ∧ isActive 0x5802 wide u = true ∧ u.saf.state = .latched ∧ u.saf.cycleAt = some s.now ∧
          ∀ k, k < 4 → bitOf (safN Ent.SAF_Q_MASK s) k = true → sqOn k u = false)) ∧
    (∀ done agree t, cycleDue s = true → vfOn s = true → s.saf.rst = true → s.saf.rstAt = some t →
      Ends (.safetyCycle done agree false) s [.saf, .flt, .dio, .link, .pair] fun u =>
        u.saf.pulse = some (s.saf.rstLow, s.now - t) ∧ u.saf.rst = false ∧ u.saf.rstAt = some s.now) ∧
    (∀ done agree, cycleDue s = false → Sends (.safetyCycle done agree di) s [])

/-- Frames of the command connection (R224 to R227): a first good copy waits for its partner; the partner's equal copy accepts the
frame, whose PERMIT is taken; a bad frame is counted; a copy left alone for 2 ms is discarded and counted; the watchdog, once its time
has passed, demands SF-IS; a status frame leaves on each LAN when it is due. -/
def Obligations.SafetyFramesArePaired : Prop :=
  ∀ (s : State), live s = true → isFenced .s s = false →
    (∀ b t, isFenced .n s = false → safN Ent.SAF_IS_EN s ≠ 0 →
      (parseSafFrame b s = none → Ends (.safetyDataFrame b t) s [.now, .saf] fun u =>
        u.now = max s.now t ∧ u.saf = { s.saf with bad := incSat32 s.saf.bad }) ∧
      (∀ f, parseSafFrame b s = some f → f.kind = 1 → f.conn = safN Ent.SAF_CONN_CMD s → 1 ≤ f.seq → permitOk f.data = true →
        seqPlace f.seq s = .next →
        (s.saf.heldCopies = [] → oneLan s = false →
          Ends (.safetyDataFrame b t) s [.now, .saf] fun u =>
            u.now = max s.now t ∧ u.saf = { s.saf with heldCopies := [⟨copyLan f, b, max s.now t, false⟩] }) ∧
        (∀ h, s.saf.heldCopies = [h] → h.taken = false → fieldU h.bytes 6 2 = f.seq → h.lan ≠ copyLan f →
          max s.now t ≤ h.at_ + 2000000 → copyBody h.bytes = copyBody b →
          Ends (.safetyDataFrame b t) s [.now, .saf] fun u =>
            u.saf.heldCopies = [] ∧ u.saf.lastSeq = some f.seq ∧ u.saf.ok = incSat32 s.saf.ok ∧ u.saf.wdExpired = false ∧
            u.saf.wdFrom = max s.now t ∧ u.saf.statDue = true ∧
            u.saf.permit = bitOf (f.data.getD 0 0).toNat 0 ∧ u.saf.bad = s.saf.bad))) ∧
    (∀ h, s.saf.heldCopies = [h] → h.taken = false →
      (h.at_ + 2000000 ≤ s.now → Ends .copyWindowExpiry s [.saf, .flt] fun u =>
        u.saf.heldCopies = [] ∧ u.saf.single = incSat32 s.saf.single) ∧
      (s.now < h.at_ + 2000000 → Sends .copyWindowExpiry s [])) ∧
    (s.saf.ran = true → safN Ent.SAF_IS_EN s = 1 → s.saf.wdExpired = false →
      (s.saf.wdFrom + watchdogMs s * 1000000 ≤ s.now → Ends .safetyWatchdogExpiry s [.saf, .flt, .dio, .link, .pair] fun u =>
        u.saf.wdExpired = true ∧ u.saf.lastSeq = none ∧ u.saf.heldCopies = [] ∧ u.saf.wdCount = incSat32 s.saf.wdCount ∧
        u.saf.demand.is = true ∧ isActive 0x580C wide u = true ∧
        u.saf.state = if safRuns s then .latched else s.saf.state) ∧
      (s.now < s.saf.wdFrom + watchdogMs s * 1000000 → Sends .safetyWatchdogExpiry s [])) ∧
    (safN Ent.SAF_CONN_STAT s ≠ 0 →
      (statusDue s = true → Ends .statusFrameSend s [.saf] fun u =>
        let seq := if 65535 ≤ s.saf.statSeq then 1 else s.saf.statSeq + 1
        let copy (l : Lan) : List Output :=
          if safetyLan l s then [.safetyFrame l (buildSafFrame 1 (l == .b) seq (statusData s) s)] else []
        u.saf = { s.saf with statSeq := seq, statDue := false, statAt := some s.now } ∧ u.out = copy .a ++ copy .b) ∧
      (statusDue s = false → Sends .statusFrameSend s []))

/-- A PARAM_WRITE accepted in 1oo1 (R228, R232): without the configuration switch it is answered ACCESS and nothing is written; with it,
in PARKED, a good value of a safety parameter is in force and answered ACCEPTED. -/
def Obligations.SafetyParametersAreWritten : Prop :=
  ∀ (b : List Byte) (t : Nat) (f : SafFrame) (s : State), live s = true → isFenced .s s = false → isFenced .n s = false →
    parseSafFrame b s = some f → f.kind = 2 → f.conn = safN Ent.SAF_CONN_CMD s → 1 ≤ f.seq → 4 ≤ f.data.length →
    s.saf.heldCopies = [] → seqPlace f.seq s = .next → oneLan s = true →
    let index := fieldU f.data 0 2
    let sub := fieldU f.data 2 1
    (bitOf s.saf.dip 0 = false → Ends (.paramWrite b t) s [.now, .saf] fun u =>
      let copy (l : Lan) : List Output := if safetyLan l s
        then [.safetyFrame l (buildSafFrame 3 (l == .b) u.saf.statSeq (f.data.take 3 ++ toBytes 1 stAccess) u)] else []
      u.out = copy .a ++ copy .b) ∧
    (∀ e k v, bitOf s.saf.dip 0 = true → findEntry index sub = some (e, k) → e.access = .saf → parked s = true →
      decodeVal e (f.data.drop 3) = some v → valueOk e v = true → safLinkOk e (setCfg e k v s) = true → StoreInv s →
      Ends (.paramWrite b t) s [.now, .saf, .store, .dio, .link, .flt, .pair] fun u =>
        cfgVal e k u = v ∧ StoreInv u ∧
        ∀ l, safetyLan l u = true →
          .safetyFrame l (buildSafFrame 3 (l == .b) u.saf.statSeq (f.data.take 3 ++ toBytes 1 stAccepted) u) ∈ u.out)

/-- Switches, reset and reaction times (R229, R233 to R235, R240): a scan outside the codes fences the outputs with 0x580B, a changed
one latches with 0x580A; a reset pulse of 100 ms to 3 s after a low level of 100 ms clears a latch without demand; an input high for 3 s
is stuck and blocks resets until a low level of 1 s; a function slower than its process safety time for 1 s demands with 0x5811. -/
def Obligations.SafetySwitchesResetAndTimes : Prop :=
  ∀ (s : State), live s = true → isFenced .s s = false →
    (∀ a d : Byte,
      (scanDue s = true → Ends (.switchScan a d) s [.saf, .dio, .link, .flt, .pair] fun u =>
        u.saf.addr = a.toNat ∧ u.saf.dip = d.toNat ∧ u.saf.scanned = true ∧ u.saf.scanAt = s.now ∧
        ((a.toNat = 0 ∨ a.toNat = 255 ∨ 8 ≤ d.toNat) → u.saf.swInvalid = true ∧ isActive 0x580B wide u = true ∧ allOpen u) ∧
        (s.saf.scanned = false → u.saf.addr0 = a.toNat ∧ u.saf.lan0 = bitOf d.toNat 1 ∧ u.saf.state = s.saf.state) ∧
        (s.saf.scanned = true → a.toNat ≠ s.saf.addr0 → u.saf.swChanged = true ∧ isActive 0x580A wide u = true ∧
          (s.saf.state = .permitted → u.saf.state = .latched))) ∧
      (scanDue s = false → Sends (.switchScan a d) s [])) ∧
    (∀ low high, s.saf.pulse = some (low, high) →
      let put (r : ResetLast) : SafetyRegs := { s.saf with pulse := none, resetLast := r }
      (s.saf.stuck = false →
        (high < 100000000 → Ends .safetyResetPulse s [.saf] fun u => u.saf = put .short) ∧
        (100000000 ≤ high → (3000000000 < high ∨ low < 100000000) → Ends .safetyResetPulse s [.saf] fun u =>
          u.saf = { s.saf with pulse := none }) ∧
        (100000000 ≤ high → high ≤ 3000000000 → 100000000 ≤ low →
          (s.saf.state = .latched → demandPresent s = false → Ends .safetyResetPulse s [.saf, .flt, .dio, .link] fun u =>
            u.saf = { put .done with state := .permitted, resetCount := incSat32 s.saf.resetCount } ∧
            ∀ c ∈ [0x5800, 0x5801, 0x5802, 0x5803, 0x5804, 0x5805, 0x5806, 0x580C, 0x5811], isActive c wide u = false) ∧
          (s.saf.state = .latched → demandPresent s = true → Ends .safetyResetPulse s [.saf] fun u =>
            u.saf = put .refusedDemand) ∧
          (s.saf.state ≠ .latched → Ends .safetyResetPulse s [.saf] fun u => u.saf = put .noLatch))) ∧
      (s.saf.stuck = true → low < 1000000000 → Ends .safetyResetPulse s [.saf] fun u => u.saf = { s.saf with pulse := none }) ∧
      (s.saf.stuck = true → 1000000000 ≤ low → high < 100000000 → Ends .safetyResetPulse s [.saf, .flt] fun u =>
        u.saf = { put .short with stuck := false } ∧ isActive 0x580F wide u = false)) ∧
    (s.saf.pulse = none → Sends .safetyResetPulse s []) ∧
    (∀ t, s.saf.rst = true → s.saf.rstAt = some t → s.saf.stuck = false →
      (t + 3000000000 ≤ s.now → Ends .stuckReset s [.saf, .flt] fun u =>
        u.saf = { s.saf with stuck := true, resetLast := .stuck } ∧ isActive 0x580F wide u = true) ∧
      (s.now < t + 3000000000 → Sends .stuckReset s [])) ∧
    (∀ f,
      (trDue f s = true → safRuns s = true → Ends (.trExceedsPst f) s [.saf, .flt, .dio, .link, .pair] fun u =>
        u.saf.state = .latched ∧ isActive 0x5811 wide u = true) ∧
      (trDue f s = false → Sends (.trExceedsPst f) s []))

/-! ### Field inputs and outputs -/

/-- Digital inputs (R310, R312, R314 to R317): at the interval of a group, and not before, a strobe reads each of its inputs and steps its
debounce; the debounce time ends with the raw level taken; a wire fault that has lasted its time, or a failed group, makes inputs
invalid. -/
def Obligations.DigitalInputsAreDebounced : Prop :=
  ∀ (s : State) (t : Nat), live s = true →
    (∀ (g : Fin 4) (rs : List DiReading),
      (∀ i r, rs[i]? = some r → i < 8 → strobeDue g.val (atTime t s) = true → diBlocked (8 * g.val + i) s = false →
        Ends (.diSample g rs t) s [.now, .dio] fun u =>
          let d := diAt (8 * g.val + i) s
          let raw := (rawLevel (bitOf (cfgN Ent.DIO_DI_TYPE s) g.val) r).getD d.raw
          let v := diAt (8 * g.val + i) u
          getAt u.dio.strobeAt g.val = some (max s.now t) ∧
          v.raw = raw ∧ v.run = min (d.run + diInterval g.val s) 65535 ∧
          v.valid = (d.valid || decide (diDebounce (8 * g.val + i) s ≤ min (d.run + diInterval g.val s) 65535)) ∧
          (raw = d.state → v.state = d.state ∧ v.cnt = 0) ∧
          (raw ≠ d.state → diDebounce (8 * g.val + i) s ≤ d.cnt + diInterval g.val s → v.state = raw ∧ v.cnt = 0) ∧
          (raw ≠ d.state → d.cnt + diInterval g.val s < diDebounce (8 * g.val + i) s →
            v.state = d.state ∧ v.cnt = d.cnt + diInterval g.val s)) ∧
      (strobeDue g.val (atTime t s) = false → Ends (.diSample g rs t) s [.now] fun u => u.now = max s.now t)) ∧
    (∀ n : Fin 32, diBlocked n.val s = false → (diAt n.val s).raw ≠ (diAt n.val s).state → diDebounce n.val s ≤ (diAt n.val s).cnt →
      Ends (.diDebounceExpiry n) s [.dio] fun u =>
        diAt n.val u = { diAt n.val s with state := (diAt n.val s).raw, cnt := 0 } ∧
        ∀ m : Fin 32, m ≠ n → diAt m.val u = diAt m.val s) ∧
    (∀ n : Fin 32, bitOf (cfgN Ent.DIO_DI_OW_EN s) n.val = true → vfDiag s = true → diFenced (n.val / 8) s = false →
      let lasts : Prop := (diAt n.val s).condAt + max (diDebounce n.val s * 1000) 10000000 ≤ max s.now t
      ((diAt n.val s).cond ≠ .ok → lasts → Ends (.wireFaultReport n t) s [.now, .dio, .flt] fun u =>
        isActive (if (diAt n.val s).cond = .short then 0x6011 else 0x6010) n.val u = true ∧ diValid n.val u = false) ∧
      (¬ lasts → Ends (.wireFaultReport n t) s [.now] fun u => u.now = max s.now t)) ∧
    (∀ g : Fin 4, Ends (.fieldGroupSelfCheckFail (.di g)) s [.dio, .flt] fun u =>
      isActive 0x6012 g.val u = true ∧ ∀ i, i < 8 → diValid (8 * g.val + i) u = false) ∧
    (∀ q : Fin 4, Ends (.fieldGroupSelfCheckFail (.dq q)) s [.flt] fun u =>
      isActive 0x6023 q.val u = true ∧ ∀ k, k / 4 = q.val → dqOn k u = false) ∧
    (Ends (.fieldGroupSelfCheckFail .ai) s [.sp, .flt] fun u => isActive 0x6040 wide u = true ∧ u.sp.ai.cond = true) ∧
    (Ends (.fieldGroupSelfCheckFail .pi) s [.sp, .flt] fun u => isActive 0x6041 wide u = true ∧ u.sp.pi.cond = true)

/-- Diagnosis of the outputs (R319, R320, R323 to R326): current limit, the third thermal cycle within 10 s, an open load that has lasted
10 ms; a safe output overloaded for 100 µs or that fails its test opens; a load or a voltage that does not fit for 10 ms is told; a
test starts when it is due, opens the high side and the low side in turn, and ends after DIO_SQ_TP_LEN. -/
def Obligations.OutputsAreDiagnosed : Prop :=
  ∀ (s : State) (t : Nat), live s = true →
    let now := max s.now t
    (∀ (k : Fin 16) (ma : Nat), let l := dqLead k.val s
      let s1 := modDq k.val (fun d => { d with ma := ma }) s
      (dqOn l s = true → 1200 * (dqGroup l s).length ≤ dqCurrent l s1 → Ends (.dqCurrentLimit k ma) s [.dio, .flt] fun u =>
        isActive 0x6020 l u = true ∧ u.dio = s1.dio) ∧
      (dqCurrent l s1 < 1200 * (dqGroup l s).length → Ends (.dqCurrentLimit k ma) s [.dio] fun u => u.dio = s1.dio)) ∧
    (∀ k : Fin 16, dqOn k.val s = true →
      let times := (s.now :: (dqAt (dqLead k.val s) s).cycles).filter fun t => t + 10000000000 ≥ s.now
      (3 ≤ times.length → Ends (.dqThermalCycle k) s [.dio, .flt] fun u =>
        isActive 0x6021 (dqLead k.val s) u = true ∧ dqOn k.val u = false) ∧
      (times.length < 3 → Ends (.dqThermalCycle k) s [.dio] fun u => (dqAt (dqLead k.val s) u).cycles = times)) ∧
    (∀ (k : Fin 16) (ma mv : Nat), let l := dqLead k.val s
      let s1 := modDq k.val (fun d => { d with ma := ma }) s
      bitOf (cfgN Ent.DIO_DQ_OL_EN s) l = true → vfDiag s = true → dqFenced (l / 4) s = false →
      (∀ t0, olShows l mv s1 = true → (dqAt l s).olSince = some (t0, dqOn l s) →
        (t0 + 10000000 ≤ now → Ends (.dqOpenLoad k ma mv t) s [.now, .dio, .flt] fun u => isActive 0x6022 l u = true) ∧
        (now < t0 + 10000000 → Ends (.dqOpenLoad k ma mv t) s [.now, .dio] fun u => (dqAt l u).olSince = some (t0, dqOn l s))) ∧
      (olShows l mv s1 = true → (dqAt l s).olSince = none → Ends (.dqOpenLoad k ma mv t) s [.now, .dio] fun u =>
        (dqAt l u).olSince = some (now, dqOn l s)) ∧
      (olShows l mv s1 = false → Ends (.dqOpenLoad k ma mv t) s [.now, .dio] fun u => (dqAt l u).olSince = none)) ∧
    (∀ (k : Fin 4) (ma : Nat) (high low : Int), sqOn k.val s = true →
      (4000 ≤ ma →
        (∀ t0, (sqAt k.val s).limSince = some t0 → t0 + 100000 ≤ now →
          Ends (.sqOvercurrent k ma t) s [.now, .dio, .flt, .link] fun u =>
            isActive 0x6031 k.val u = true ∧ sqOn k.val u = false ∧ u.link.offReq = true) ∧
        ((sqAt k.val s).limSince = none → Ends (.sqOvercurrent k ma t) s [.now, .dio] fun u =>
          (sqAt k.val u).limSince = some now ∧ sqOn k.val u = true)) ∧
      (∀ t0, vfDiag s = true → ma < 20 → (sqAt k.val s).lowSince = some t0 → t0 + 10000000 ≤ now →
        Ends (.sqReadbackFault k ma high low t) s [.now, .dio, .flt] fun u => isActive 0x6033 k.val u = true) ∧
      (testDue k.val (atTime t s) = true → Ends (.testPulseStart k t) s [.now, .dio] fun u =>
        u.dio.test = some (k.val, (sqAt k.val s).high, now + cfgN Ent.DIO_SQ_TP_LEN s * 1000) ∧
        (sqAt k.val u).high = !(sqAt k.val s).high ∧ (sqAt k.val u).testAt = some now)) ∧
    (∀ k : Fin 4, testDue k.val (atTime t s) = false → Ends (.testPulseStart k t) s [.now] fun u => u.now = now) ∧
    (∀ (k : Fin 4) (ma t0 : Nat) (high low : Int), sqOn k.val s = false → nodeHeld high low s = true →
      (sqAt k.val s).extSince = some t0 → t0 + 10000000 ≤ now →
      Ends (.sqReadbackFault k ma high low t) s [.now, .dio, .flt] fun u => isActive 0x6032 k.val u = true) ∧
    (∀ (k : Fin 4) (mv : Int) (high : Bool) (stop : Nat), s.dio.test = some (k.val, high, stop) →
      (stop ≤ now → nodeOff high mv s = true → Ends (.testPulseEnd k mv t) s [.now, .dio] fun u =>
        u.dio = { s.dio with test := none, tests := incSat32 s.dio.tests }) ∧
      (stop ≤ now → nodeOff high mv s = false → Ends (.testPulseEnd k mv t) s [.now, .dio, .flt, .link] fun u =>
        u.dio.test = none ∧ isActive 0x6030 k.val u = true ∧ sqOn k.val u = false) ∧
      (now < stop → Ends (.testPulseEnd k mv t) s [.now] fun u => u.now = now))

/-- The field supply (R327, R328), measured every 100 µs: the states of Table 13-4 by its voltage, above 32 V and below 15 V once it has
lasted 1 ms; without it or with it reversed every output is off; it returns through 20 ms of RETURNING. -/
def Obligations.FieldSupplyStates : Prop :=
  ∀ (s : State) (t : Nat), live s = true → isFenced .f s = false →
    let now := max s.now t
    (∀ mv : Int, due s.dio.vfAt 100000 (atTime t s) = true →
      let put (x : VfState) (ov : Option Nat) : FieldRegs :=
        { s.dio with vf := mv, vfAt := some now, lowSince := none, vfState := x, ovSince := ov }
      (s.dio.vfState = .normal → 18000 ≤ mv → mv ≤ 32000 → Ends (.vfSample mv t) s [.now, .dio] fun u => u.dio = put .normal none) ∧
      (s.dio.vfState = .normal → -1000 ≤ mv → mv < 18000 → Ends (.vfSample mv t) s [.now, .dio, .flt] fun u =>
        u.dio.vfState = .uvWarn ∧ u.dio.vf = mv ∧ isActive 0x6001 wide u = true ∧
        u.dio.lowSince = (if mv < 15000 then some (s.dio.lowSince.getD now) else none)) ∧
      (∀ t0, s.dio.vfState = .normal → 32000 < mv → s.dio.ovSince = some t0 → t0 + 1000000 ≤ now →
        Ends (.vfSample mv t) s [.now, .dio, .flt] fun u => u.dio.vfState = .overvoltage ∧ isActive 0x6003 wide u = true) ∧
      (s.dio.vfState = .normal → 32000 < mv → s.dio.ovSince = none → Ends (.vfSample mv t) s [.now, .dio] fun u =>
        u.dio = put .normal (some now)) ∧
      (s.dio.vfState ≠ .reversed → mv < -1000 → Ends (.vfSample mv t) s [.now, .dio, .flt, .link] fun u =>
        u.dio.vfState = .reversed ∧ isActive 0x6004 wide u = true ∧ allOpen u ∧ ∀ k, dqOn k u = false) ∧
      (s.dio.vfState = .unpowered → 18000 < mv → Ends (.vfSample mv t) s [.now, .dio] fun u =>
        u.dio = { put .returning s.dio.ovSince with retSince := some now })) ∧
    (∀ mv : Int, due s.dio.vfAt 100000 (atTime t s) = false → Ends (.vfSample mv t) s [.now] fun u => u.now = now) ∧
    (∀ t0, s.dio.lowSince = some t0 → s.dio.vfState ≠ .unpowered → s.dio.vfState ≠ .reversed →
      (t0 + 1000000 ≤ now → Ends (.vfUnpowered t) s [.now, .dio, .flt, .link] fun u =>
        u.dio.vfState = .unpowered ∧ isActive 0x6002 wide u = true ∧ allOpen u ∧ ∀ k, dqOn k u = false) ∧
      (now < t0 + 1000000 → Ends (.vfUnpowered t) s [.now] fun u => u.now = now)) ∧
    (∀ t0, s.dio.vfState = .returning → s.dio.retSince = some t0 →
      (t0 + 20000000 ≤ now → Ends (.returningEnd t) s [.now, .dio, .flt, .link] fun u =>
        u.dio.vfState = .normal ∧ isActive 0x6002 wide u = false) ∧
      (now < t0 + 20000000 → Ends (.returningEnd t) s [.now] fun u => u.now = now))

/-! ### Power, tiers, resets -/

/-- Power-good and the tiers (R335, R338, R340, R428): the module starts in GUARD; a P island that fails its test leaves it off; each
tier is entered on its conditions with its time, and one that is late is told with 0x1021. -/
def Obligations.PowerGoodAndTiers : Prop :=
  ∀ (s : State),
    (∀ c, s.sys.phase = .off → s.sys.pFailed = false → pTestFails c = false → ∃ u, exec (.powerGood c) s = .next u ∧
      u.pending = s.pending ∧ u.store = s.store ∧ u.sys.phase = .started ∧ u.sys.tier = .guard_ ∧ u.sys.guardIn = false ∧
      u.sys.t0 = s.now ∧ u.sys.pcyc = incSat32 s.sys.pcyc ∧ u.sys.gaOk = false) ∧
    (∀ c, s.sys.phase = .off → s.sys.pFailed = false → pTestFails c = true → Ends (.powerGood c) s [.sys] fun u =>
      u.sys.phase = .off ∧ u.sys.pFailed = true ∧ u.sys.cause = .pMemory) ∧
    (live s = true → s.sys.guardIn = false → isFenced .s s = false → isFenced .f s = false → bitOf s.sys.selftest 6 = false →
      Ends .tierGuard s [.sys, .flt, .chain, .chctl] fun u =>
        u.sys.guardIn = true ∧ u.sys.guardMs = some (msSinceT0 s) ∧ u.sys.tier = s.sys.tier ∧
        (acts s = true → s.sys.imageOk = true → nodeCount s ≠ 0 → (s.chain.fencedA = false ∨ s.chain.fencedB = false) →
          isFenced .m s = false → u.chain.state = .enumerating)) ∧
    (live s = true → s.sys.guardIn = true → s.sys.tier = .guard_ → s.sys.imageOk = true → s.sys.gaOk = true →
      isFenced .h s = false → chainReady s = true → elected s = true → ∃ u, exec .tierWatch s = .next u ∧ u.pending = s.pending ∧
        u.store = s.store ∧ u.sys.tier = .watch ∧ u.sys.watchMs = some (msSinceT0 s) ∧
        (s.saf.state ≠ .failed → u.saf.ran = true ∧ u.saf.ranAt = s.now ∧ u.saf.permit = true)) ∧
    (live s = true → s.sys.guardIn = true → s.sys.tier = .watch → isFenced .j s = false →
      ∃ u, exec .tierLimited s = .next u ∧ u.pending = s.pending ∧ u.sys.tier = .limited ∧ u.sys.limitedMs.isSome = true ∧
        u.ses.replayed = true) ∧
    (live s = true → s.sys.tier = .limited → ratedCap s = 0 → s.chctl.idWait = false → (∀ n, n < 256 → (lpAt n s).entry = none) → s.sys.testFail = false →
      (s.locked = true ∨ 18000 ≤ msSinceT0 s) → Ends .tierFull s [.sys, .flt] fun u =>
        u.sys.tier = .full ∧ u.sys.fullMs = some (msSinceT0 s)) ∧
    (∀ t ms, live s = true → nextTier s = some (t, ms) → ms ≤ msSinceT0 s → Ends .tierLate s [.sys, .flt] fun u =>
      isActive 0x1021 wide u = true ∧ u.sys = { s.sys with block := tierBlocker s })

/-- A reset (R246, R344, R345): the cause, its time and the count are recorded; the module is at the start of the power-up sequence;
the sealed and persistent configuration, the journal, the fault log, the trip latch and the soft spare map stay. -/
def Obligations.ResetsKeepWhatMramHolds : Prop :=
  ∀ (s : State),
    let kept (cause : ResetCause) (u : State) : Prop :=
      u.pending = s.pending ∧ u.sys.phase = .off ∧ u.sys.tier = .guard_ ∧ u.sys.cause = cause ∧ u.sys.causeRec = true ∧
      u.sys.resetAt = s.now ∧ u.sys.resets = incSat32 s.sys.resets ∧ u.sys.opSec = s.sys.opSec ∧ u.sys.pcyc = s.sys.pcyc ∧
      u.store = keptStore s ∧ u.ses.journal = s.ses.journal ∧ u.ses.jseq = s.ses.jseq ∧ u.ses.idle = s.ses.idle ∧
      u.flt.log = s.flt.log ∧ u.flt.logSeq = s.flt.logSeq ∧ u.prot.tripped = s.prot.tripped ∧ u.prot.cause = s.prot.cause ∧
      u.mem.softMap = s.mem.softMap ∧ u.recd.recs = s.recd.recs ∧ u.link.faulted = s.link.faulted ∧ u.sp.mode = .parked ∧
      coilsOff u = true ∧ allOpen u
    (∀ cause, s.sys.phase ≠ .off → s.sys.phase ≠ .latched →
      (∃ u, exec (.moduleReset cause) s = .next u ∧ kept cause u) ∧ (∃ u, exec .tapReset s = .next u ∧ kept .tap u)) ∧
    (∀ why, live s = true → longEnough why = true → s.pair.paired = false → s.sys.downDue = none →
      ∃ u, exec (.shutdownStart why) s = .next u ∧ u.pending = s.pending ∧ u.store = keptStore s ∧ u.sys.phase = .off ∧
        u.sys.cause = shutdownCause why ∧ u.sys.resets = incSat32 s.sys.resets ∧ u.sp.mode = .parked ∧ allOpen u) ∧
    (∀ why, s.sys.phase = .latched → powerCycle why = true → ∃ u, exec (.shutdownStart why) s = .next u ∧ kept (shutdownCause why) u) ∧
    (∀ why, s.sys.phase = .frozen → longEnough why = true → ∃ u, exec (.shutdownStart why) s = .next u ∧ kept .freeze u) ∧
    (∀ why, s.sys.phase = .off → powerCycle why = true → Ends (.shutdownStart why) s [.sys] fun u =>
      u.sys = { s.sys with pFailed := false })

/-- Calibration, address, hibernation (R349, R350, R443): a rotation begins every SYS_CAL_INT and makes five steps of 200 ms, the freed
channel the spare; readings of every 1 ms that agree three times latch the geographic address; one, of every 100 ms, that differs for
100 ms raises 0x1031; what is not due changes nothing; hibernation stops the lanes without faults. -/
def Obligations.CalibrationAddressAndHibernation : Prop :=
  ∀ (s : State), live s = true →
    (s.sys.calRun = false → due s.sys.calBegan (cfgN Ent.SYS_CAL_INT s * 1000000000) s = true → Ends .calRotationStart s [.sys] fun u =>
      u.sys = { s.sys with calRun := true, calStep := 0, calBegan := some s.now, calStepAt := s.now }) ∧
    ((s.sys.calRun = true ∨ due s.sys.calBegan (cfgN Ent.SYS_CAL_INT s * 1000000000) s = false) → Sends .calRotationStart s []) ∧
    (s.sys.calRun = true → s.sys.calStepAt + 200000000 ≤ s.now →
      (s.sys.calStep < 4 → Ends .calRotationStep s [.sys] fun u => u.out = [] ∧ u.sys = { s.sys with
        calStep := s.sys.calStep + 1, calStepAt := s.sys.calStepAt + 200000000, calSpare := (s.sys.calSpare + 1) % 5 }) ∧
      (s.sys.calStep = 4 → Ends .calRotationStep s [.sys] fun u =>
        u.sys = { s.sys with
          calStep := 0, calStepAt := s.sys.calStepAt + 200000000, calSpare := (s.sys.calSpare + 1) % 5
          calRun := false, calLast := s.now, calWait := [] } ∧
        ((∀ r ∈ s.sys.calWait, ∃ a p own, r.dest = .udp a p own) → u.out = s.sys.calWait.map .reply))) ∧
    ((s.sys.calRun = false ∨ s.now < s.sys.calStepAt + 200000000) → Sends .calRotationStep s []) ∧
    (∀ g : BitVec 9, s.sys.gaOk = false → isActive 0x1030 wide s = false → due s.sys.gaAt 1000000 s = true →
      (s.sys.gaRun = [g.toNat, g.toNat] → Ends (.gaRead g) s [.sys, .pair] fun u =>
        u.sys.gaOk = true ∧ u.sys.plantAddr = g.toNat ∧ u.pair = { s.pair with member := g.toNat % 2 }) ∧
      (s.sys.gaRun = [] → s.sys.gaTries < 99 → Ends (.gaRead g) s [.sys] fun u =>
        u.sys = { s.sys with gaAt := some s.now, gaRun := [g.toNat], gaTries := s.sys.gaTries + 1 }) ∧
      (s.sys.gaRun = [] → 99 ≤ s.sys.gaTries → Ends (.gaRead g) s [.sys, .flt] fun u => isActive 0x1030 wide u = true)) ∧
    (∀ g : BitVec 9, (s.sys.gaOk = true ∨ due s.sys.gaAt 1000000 s = false) → Sends (.gaRead g) s []) ∧
    (∀ g : BitVec 9, s.sys.gaOk = true → due s.sys.gaAt 100000000 s = true →
      (g.toNat = s.sys.plantAddr → Ends (.gaCheck g) s [.sys, .flt] fun u =>
        u.sys = { s.sys with gaAt := some s.now, gaDiff := none } ∧ isActive 0x1031 wide u = false) ∧
      (g.toNat ≠ s.sys.plantAddr → s.sys.gaDiff = none → Ends (.gaCheck g) s [.sys] fun u =>
        u.sys = { s.sys with gaAt := some s.now, gaDiff := some s.now }) ∧
      (∀ t, g.toNat ≠ s.sys.plantAddr → s.sys.gaDiff = some t → t + 100000000 ≤ s.now → Ends (.gaCheck g) s [.sys, .flt] fun u =>
        u.sys = { s.sys with gaAt := some s.now } ∧ isActive 0x1031 wide u = true)) ∧
    (∀ g : BitVec 9, (s.sys.gaOk = false ∨ due s.sys.gaAt 100000000 s = false) → Sends (.gaCheck g) s []) ∧
    (cfgB Ent.SYS_HIB_EN s = true → tierAtLeast .full s = true → parked s = true → seqRuns s = false → s.est.state = .hibernating →
      s.est.waking = false → Ends .moduleHibernate s [.sys, .link] fun u =>
        u.sys = { s.sys with hibernating := true } ∧ u.link.lane0 = .down ∧ u.link.lane1 = .down ∧ u.link.select = none)

/-! ### Supervision -/

/-- Temperature, hold-up and VBP (R423, R424, R426, R427): 125.0 °C warns; two reads at 145.0 °C or above latch a module alone off with
every safe output open; the gauge computes energy and time; VBP_LOW writes what R104 and R120 ask; a shortfall shuts the module down.
ISLAND_HANG (R428): 0x1007 and the fence with its cause, the configuration untouched; a hang of the P island resets the module
(with cause P_MEMORY, DEDUCED, log 29). -/
def Obligations.SupervisionActs : Prop :=
  (∀ (s : State),
     (∀ (x : Int) (t : Nat),
       ((s.sys.phase = .started ∨ s.sys.phase = .frozen) → due s.sup.readAt 10000000 (atTime t s) = true →
         ∃ u, exec (.dieTempRead x t) s = .next u ∧ u.pending = s.pending ∧ u.store = s.store ∧ u.now = max s.now t ∧
           u.sup.readAt = some (max s.now t) ∧ u.sup.dieTemp = x ∧ (1250 ≤ x → isActive 0x1001 wide u = true) ∧
           (1450 ≤ x → 1 ≤ s.sup.hotRun → s.pair.paired = false → s.sup.latchIn = none →
             u.sys.phase = .latched ∧ isActive 0x1003 wide u = true ∧ u.sup.shutdowns = incSat32 s.sup.shutdowns ∧
             u.sup.lastShutdown = max s.now t ∧ allOpen u ∧ coilsOff u = true)) ∧
       (due s.sup.readAt 10000000 (atTime t s) = false → Ends (.dieTempRead x t) s [.now] fun u => u.now = max s.now t)) ∧
     (∀ v b p t : Nat, live s = true →
       let e := s.sup.holdC * ((v * v + 2 ^ 64 - 20000 * 20000) % 2 ^ 64) % 2 ^ 64 / 2000000000 % 2 ^ 32
       let lasts := e * 1000000 / max p 500 % 2 ^ 32
       let now := max s.now t
       (due s.sup.gaugeAt 100000 (atTime t s) = true →
         ((s.sup.vbpState ≠ .low ∨ 10500 < lasts) → Ends (.holdupGauge v b p t) s [.now, .sup] fun u => u.now = now ∧
           u.sup = { s.sup with
             holdE := e, holdT := lasts, vbp := b, gaugeAt := some now
             lowFrom := if b < 33000 then some (s.sup.lowFrom.getD now) else none
             highFrom := if 34000 < b then some (s.sup.highFrom.getD now) else none }) ∧
         (s.sup.vbpState = .low → lasts ≤ 10500 → s.pair.paired = false → s.sys.downDue = none →
           ∃ u, exec (.holdupGauge v b p t) s = .next u ∧ u.pending = s.pending ∧ u.sys.phase = .off ∧ u.sys.cause = .brownOut ∧
             (0x1005, now) ∈ u.sys.recorded ∧ u.store = keptStore s)) ∧
       (due s.sup.gaugeAt 100000 (atTime t s) = false → Ends (.holdupGauge v b p t) s [.now] fun u => u.now = now)) ∧
     (∀ c, live s = true →
       let e := c * 3200000000 % 2 ^ 64 / 2000000000 % 2 ^ 32
       let lasts := e * 1000000 / 9500 % 2 ^ 32
       (due s.sup.holdAt 3600000000000 s = true → Ends (.holdupTest c) s [.sup, .flt] fun u =>
         u.sup = { s.sup with holdC := c, holdAt := some s.now } ∧
         (lasts < 10000 → isActive 0x1006 wide u = true) ∧ (10000 < lasts → isActive 0x1006 wide u = false) ∧
         (lasts = 10000 → isActive 0x1006 wide u = isActive 0x1006 wide s)) ∧
       (due s.sup.holdAt 3600000000000 s = false → Sends (.holdupTest c) s [])) ∧
     (∀ t : Nat, live s = true →
       (∀ t0, s.sup.vbpState = .normal → s.sup.lowFrom = some t0 →
         (t0 + 50000 ≤ max s.now t → Ends (.vbpLowEntry t) s [.now, .sup, .flt, .est, .ident, .pair] fun u =>
           u.sup = { s.sup with vbpState := .low, lowWrites := true } ∧ isActive 0x1004 wide u = true ∧
           (s.est.restored = true → isFenced .e s = false → max u.est.cpA.seq u.est.cpB.seq = max s.est.cpA.seq s.est.cpB.seq + 1)) ∧
         (max s.now t < t0 + 50000 → Ends (.vbpLowEntry t) s [.now] fun u => u.now = max s.now t)) ∧
       (∀ t0, s.sup.vbpState ≠ .normal → s.sup.highFrom = some t0 →
         (t0 + 1000000 ≤ max s.now t → Ends (.vbpLowExit t) s [.now, .sup, .flt] fun u =>
           u.sup = { s.sup with vbpState := .normal, lowWrites := false } ∧ isActive 0x1004 wide u = false) ∧
         (max s.now t < t0 + 1000000 → Ends (.vbpLowExit t) s [.now] fun u => u.now = max s.now t)))) ∧
  (∀ (i : Island) (s : State), live s = true →
     (i ≠ .p → isFenced i s = false → ∃ u, exec (.islandHang i) s = .next u ∧ u.pending = s.pending ∧ u.store = s.store ∧
       isFenced i u = true ∧ getAt u.sup.cause (islandNo i) = 0x1007 ∧ isActive 0x1007 (islandNo i) u = true ∧
       isActive 0x1010 (islandNo i) u = true ∧ ∀ k, k ≠ i → isFenced k u = isFenced k s) ∧
     (i = .p → ∃ u, exec (.islandHang i) s = .next u ∧ u.pending = s.pending ∧ u.sys.phase = .off ∧ u.sys.cause = .pMemory ∧
       u.store = keptStore s))

/-- The clock freeze (R429, R430): not permitted by the switch it is refused with 0x1008; permitted, a member whose partner is ready
hands over first, and a module alone opens every safe output, sends MODE OFF, and stops its clocks one PWM period later; a release
before that abandons it.
The test access port (R432): IDCODE and BYPASS answer while the module is powered; outside a freeze the scan instructions return
ones and change nothing; in a freeze they select a chain and shift it round (its bits are the implementation's). -/
def Obligations.ClockFreeze : Prop :=
  (∀ (s : State), live s = true →
     (bitOf s.saf.dip 2 = false → Ends .frzAssert s [.sup, .flt] fun u =>
       u.sup = { s.sup with frzIn := true } ∧ isActive 0x1008 wide u = true) ∧
     (bitOf s.saf.dip 2 = true → s.sup.frz = .idle → s.sup.latchIn = none →
       (s.pair.paired = false → Ends .frzAssert s [.sup, .dio, .link] fun u =>
         u.sup = { s.sup with frzIn := true, frz := .opened, frzAt := s.now } ∧ allOpen u ∧ u.link.offReq = true) ∧
       (cfgB Ent.SUP_FRZ_IMMEDIATE s = false → handoverReady s = true → Ends .frzAssert s [.sup, .pair] fun u =>
         u.sup = { s.sup with frzIn := true, frz := .resigning, frzLeft := 2 } ∧ u.pair.handing = true)) ∧
     (∀ t, s.sup.frz = .opened →
       (s.sup.frzAt + s.tb.period / 1000 ≤ max s.now t → Ends (.clockStop t) s [.now, .sys, .sup, .link] fun u =>
         u.sys.phase = .frozen ∧ u.sup.freezes = incSat32 s.sup.freezes ∧ (0x1009, max s.now t) ∈ u.sys.recorded ∧
         u.link.select = none) ∧
       (max s.now t < s.sup.frzAt + s.tb.period / 1000 → Ends (.clockStop t) s [.now] fun u => u.now = max s.now t)) ∧
     (Ends .frzRelease s [.sup, .dio, .link] fun u => u.sup = { s.sup with frzIn := false, frz := .idle, frzLeft := 0 })) ∧
  (∀ (s : State) (i n : Nat),
     (powered s = true → Sends .idcode s [.tap ((List.range 32).map fun k => bitOf Config.idcode k)] ∧
       Sends .bypass s [.tap [false]]) ∧
     (powered s = true → frozen s = false → Sends (.scanSel i) s [.tap (List.replicate 8 true)] ∧
       Sends (.scanData n) s [.tap (List.replicate n true)]) ∧
     (frozen s = true → i < 10 → Ends (.scanSel i) s [.sup] fun u => u.sup = { s.sup with scan := i, scanPos := 0 } ∧ u.out = []) ∧
     (frozen s = true → Ends (.scanData n) s [.sup] fun u =>
       let len := max 1 (Config.scanMap s.sup.scan)
       u.sup = { s.sup with scanPos := (s.sup.scanPos + n) % len } ∧
       u.out = [.tap ((List.range n).map fun k => Config.scanBit s.sup.scan ((s.sup.scanPos + k) % len))]))

/-! ### The plant network and its time -/

/-- Frames of the plant network (R268 to R270): one of a wrong length or FCS is counted; a good one for another station leaves on the
other port of its LAN as it came, and its source is learned. -/
def Obligations.FramesAreForwarded : Prop :=
  ∀ (port : Port) (f : List Byte) (s : State), live s = true → portUp (portNo port) s = true →
    let p := portNo port
    let body := bodyOf f
    ((f.length < 64 ∨ 1528 < f.length) → Ends (.ethFrameReceive port f) s [.net] fun u =>
      (getAt u.net.ports p).rx = wrapU 32 ((getAt s.net.ports p).rx + 1) ∧
      (getAt u.net.ports p).drops = wrapU 32 ((getAt s.net.ports p).drops + 1) ∧ u.out = []) ∧
    (64 ≤ f.length → f.length ≤ 1528 → fcsOk f = false → Ends (.ethFrameReceive port f) s [.net, .flt] fun u =>
      (getAt u.net.ports p).rx = wrapU 32 ((getAt s.net.ports p).rx + 1) ∧
      (getAt u.net.ports p).fcs = wrapU 32 ((getAt s.net.ports p).fcs + 1) ∧ u.net.fdbA = s.net.fdbA ∧ u.net.fdbB = s.net.fdbB) ∧
    (64 ≤ f.length → f.length ≤ 1528 → fcsOk f = true → forEndpoint (dstOf body) s = false → isLinkLocal (dstOf body) = false →
      etOf body ≠ 0x8808 → ownPtp body = false → cfg Ent.NET_SVC_IP s = 0 →
      bitOf (cfgN Ent.NET_FWD_EN s) (match lanOf p with | .a => 0 | .b => 1) = true → srcOf body ≠ dstOf body →
      learnedOn (lanOf p) (dstOf body) s ≠ some p → portUp (otherPort p) s = true → portIdle (otherPort p) body s = true →
      Ends (.ethFrameReceive port f) s [.net] fun u =>
        u.out = [.eth (portOf (otherPort p)) f] ∧
        (isGroup (srcOf body) = false → ((fdb (lanOf p) s).filter (·.mac != srcOf body)).length < 1024 →
          learnedOn (lanOf p) (srcOf body) u = some p))

/-- The endpoint's timed work (R268, R269, R272, R273, R275, R277): links, ageing, supervision, silence, addresses, announcements; what
is not due changes nothing. A probe lasts 4 s and begins anew after a conflict: the model's choice (log 142). -/
def Obligations.NetworkEvents : Prop :=
  ∀ (s : State), live s = true →
    (∀ (port : Port) (up : Bool), Ends (.ethLinkChange port up) s [.net, .ptp, .locked, .flt] fun u =>
      (getAt u.net.ports (portNo port)).link = up ∧
      (up = false → isActive (0x7001 + portNo port) wide u = true ∧ (getAt u.net.ports (portNo port)).capable = false ∧
        (getAt u.net.ports (portNo port)).queue = [])) ∧
    (∀ (l : Lan) (mac : List Byte),
      let age := cfgN Ent.NET_FDB_AGE s * 1000000000
      Ends (.fdbAgeOut l mac) s [.net] fun u =>
        fdb l u = (fdb l s).filter (fun e => e.mac != mac || decide (s.now < e.at_ + age)) ∧
        ((∀ e ∈ fdb l s, e.mac = mac → e.at_ + age ≤ s.now) → learnedOn l mac u = none)) ∧
    (isFenced .n s = false → due s.net.supAt 2000000000 s = true → Ends .prpSupervisionSend s [.net, .flt] fun u =>
      u.net.supSeq = (s.net.supSeq + 1) % 65536 ∧ u.net.supAt = some s.now ∧ u.net.prpSeq = (s.net.prpSeq + 1) % 65536 ∧
      u.net.sentA = wrapU 32 (s.net.sentA + b2n (portUp 0 s || portUp 1 s)) ∧
      u.net.sentB = wrapU 32 (s.net.sentB + b2n (portUp 2 s || portUp 3 s))) ∧
    ((isFenced .n s = true ∨ due s.net.supAt 2000000000 s = false) → Sends .prpSupervisionSend s []) ∧
    (∀ l : Lan,
      let heard := (match l with | .a => s.net.heardA | .b => s.net.heardB).getD s.sys.t0
      let ms := cfgN Ent.NET_LAN_SILENT_T s
      (isFenced .n s = false → heard + ms * 1000000 ≤ s.now → Ends (.lanSilent l) s [.net, .flt] fun u =>
        isActive (match l with | .a => 0x7005 | .b => 0x7006) wide u = true ∧
        u.net = match l with | .a => { s.net with rxA := false } | .b => { s.net with rxB := false }) ∧
      (s.now < heard + ms * 1000000 → Sends (.lanSilent l) s [])) ∧
    (isFenced .n s = false → s.net.probe ≠ 0 → s.net.probeAt + 4000000000 ≤ s.now →
      (s.net.probeHit = false → Ends .addressProbeEnd s [.net, .flt] fun u =>
        u.net = { s.net with ip := s.net.probe, probe := 0 } ∧ isActive 0x7009 wide u = false) ∧
      (s.net.probeHit = true → Ends .addressProbeEnd s [.net, .flt] fun u =>
        u.net.ip = 0 ∧ u.net.probe = s.net.probe ∧ u.net.probeAt = s.now ∧ u.net.probeHit = false ∧
        isActive 0x7009 wide u = true)) ∧
    ((s.net.probe = 0 ∨ s.now < s.net.probeAt + 4000000000) → Sends .addressProbeEnd s []) ∧
    (∀ t, cfg Ent.NET_IP_MODE s = 2 → s.net.leaseEnd = some t →
      (t ≤ s.now → Ends .dhcpLeaseExpiry s [.net, .flt] fun u =>
        u.net = { s.net with leaseEnd := none } ∧ isActive 0x700A wide u = true) ∧
      (s.now < t → Sends .dhcpLeaseExpiry s [])) ∧
    (isFenced .n s = false → s.net.garpLeft ≠ 0 → due s.net.garpAt 1000000 s = true → Ends .gratuitousArp s [.net, .flt] fun u =>
      u.net.garpLeft = s.net.garpLeft - 1 ∧ u.net.garpAt = some s.now) ∧
    (due s.net.garpAt 1000000 s = false → Sends .gratuitousArp s [])

/-- Peer delay (R280): a request goes out every 1 s under the next sequence number, and a request is answered with its turnaround added;
three exchanges in a row at or below PTP_LINK_DELAY_MAX make a port capable, three bad or unanswered ones end that. -/
def Obligations.PeerDelayMakesPortsCapable : Prop :=
  ∀ (port : Port) (s : State), live s = true →
    let p := portNo port
    let x := getAt s.net.ports p
    (∀ t, portUp p s = true →
      let bytes := pdelayFrame 2 p (cfgN Ent.PTP_DOMAIN_P s) 0 ((x.pdSeq + 1) % 65536) (List.replicate 20 0#8)
      let asked (u : State) : Prop :=
        (getAt u.net.ports p).pdSeq = (x.pdSeq + 1) % 65536 ∧ (getAt u.net.ports p).pdAt = some (max s.now t) ∧
        (getAt u.net.ports p).pdOut = true ∧ u.net.prpSeq = s.net.prpSeq ∧
        (portIdle p bytes s = true → u.out = [.eth port (bytes ++ fcsOf bytes)])
      (due x.pdAt 1000000000 (atTime t s) = true →
        (x.pdOut = false → Ends (.pdelayReqSend port t) s [.now, .net, .flt] asked) ∧
        (x.pdOut = true → Ends (.pdelayReqSend port t) s [.now, .net, .ptp, .locked, .flt] fun u =>
          asked u ∧ (getAt u.net.ports p).okRun = 0 ∧ (getAt u.net.ports p).failRun = min (x.failRun + 1) 3 ∧
          (getAt u.net.ports p).capable = (x.capable && decide (x.failRun < 2)) ∧
          (2 ≤ x.failRun → isActive 0x7014 wide u = true))) ∧
      (due x.pdAt 1000000000 (atTime t s) = false → Ends (.pdelayReqSend port t) s [.now] fun u => u.now = max s.now t)) ∧
    (∀ m t1 t2, ptpArrives 2 p m s = true → Ends (.pdelayReqAnswer port m t1 t2) s [.now, .net, .flt] fun u =>
      let q := payloadOf (bodyOf m)
      let bytes := pdelayFrame 3 p (ptpDomain q) (wrapS 64 (ptpCorr q + ((t2 : Int) - t1) * 65536)) (ptpSeq q)
        (List.replicate 10 0#8 ++ slice q 20 10)
      (getAt u.net.ports p).rx = wrapU 32 (x.rx + 1) ∧ (portIdle p bytes s = true → u.out = [.eth port (bytes ++ fcsOf bytes)])) ∧
    (∀ resp follow t t1, ptpArrives 3 p resp s = true →
      let m := payloadOf (bodyOf resp)
      let g := payloadOf (bodyOf follow)
      let delay := linkDelay t1 t m g
      (x.pdOut = true → answers p m s = true → x.pdAt = some t1 →
        (ptpTwoStep m = true → ptpArrives 10 p follow s = true ∧ answers p g s = true ∧ ptpSrc g = ptpSrc m) →
        (delay ≤ cfgN Ent.PTP_LINK_DELAY_MAX s → Ends (.pdelayResp port resp follow t) s [.now, .net, .ptp, .locked, .flt] fun u =>
          let y := getAt u.net.ports p
          y.pdOut = false ∧ y.delay = delay ∧ y.okRun = min (x.okRun + 1) 3 ∧ y.failRun = 0 ∧
          y.capable = (x.capable || decide (2 ≤ x.okRun))) ∧
        (cfgN Ent.PTP_LINK_DELAY_MAX s < delay → Ends (.pdelayResp port resp follow t) s [.now, .net, .ptp, .locked, .flt] fun u =>
          let y := getAt u.net.ports p
          y.pdOut = false ∧ y.delay = x.delay ∧ y.okRun = 0 ∧ y.failRun = min (x.failRun + 1) 3 ∧
          y.capable = (x.capable && decide (x.failRun < 2)) ∧ (2 ≤ x.failRun → isActive 0x7014 wide u = true))) ∧
      ((x.pdOut = false ∨ answers p m s = false) → Ends (.pdelayResp port resp follow t) s [.now, .net] fun u =>
        getAt u.net.ports p = { x with rx := wrapU 32 (x.rx + 1) } ∧ u.out = []))

/-- PTP messages (R281, R282): Announce data of an accepted interval are taken by the instances of their LAN and domain; a one-step Sync
of an instance's master gives it its offset; a two-step Sync waits for its Follow_Up, which gives it; nothing is used from a port that is
not capable. -/
def Obligations.PtpMessagesReachTheirInstances : Prop :=
  ∀ (port : Port) (f : List Byte) (t out : Nat) (s : State), live s = true →
    let p := portNo port
    let m := payloadOf (bodyOf f)
    let cap := (getAt s.net.ports p).capable
    let takes (dom : Nat) (src : Nat) (i : Nat) : Prop :=
      i < 4 ∧ instLan i = lanOf p ∧ instDomain i s = dom ∧ (inst i s).master.map (·.src) = some src
    (ptpArrives 11 p f s = true →
      (∀ every, cfgB Ent.PTP_ENABLE s = true → ptpEvery 0 1 m = some every →
        Ends (.announce port f t) s [.now, .net, .ptp, .locked, .flt] fun u =>
          ∀ i, i < 4 → instLan i = lanOf p → instDomain i s = ptpDomain m →
            { masterOf m with at_ := max s.now t, every := every } ∈ (inst i u).masters ∧
            (inst i u).master = bestMaster (inst i u).masters) ∧
      (ptpEvery 0 1 m = none → Ends (.announce port f t) s [.now, .net, .flt] fun u => u.now = max s.now t)) ∧
    (ptpArrives 0 p f s = true →
      (cap = false → Ends (.syncMessage port f t out) s [.now, .net] fun u => u.now = max s.now t ∧ u.out = []) ∧
      (cap = true → ptpTwoStep m = true → Ends (.syncMessage port f t out) s [.now, .net, .ptp, .flt] fun u =>
        u.ptp.inst = s.ptp.inst ∧
        u.ptp.pend.head? = some { port := p, src := ptpSrc m, seq := ptpSeq m, domain := ptpDomain m, t := t
                                  add := ((out : Int) - t) * 65536 + ingressCorr p s, corr := ptpCorr m
                                  every := ptpEvery (-4) 1 m }) ∧
      (cap = true → ptpTwoStep m = false → (ptpEvery (-4) 1 m).isSome = true →
        Ends (.syncMessage port f t out) s [.now, .net, .ptp, .locked, .flt, .freeNo] fun u =>
          ∀ i, takes (ptpDomain m) (ptpSrc m) i → (inst i u).sync = true ∧ (inst i u).syncAt = max s.now t ∧ (inst i u).port = p ∧
            (inst i u).offset = (t : Int) - ptpStamp m - Int.fdiv (ptpCorr m + ingressCorr p s) 65536)) ∧
    (ptpArrives 8 p f s = true →
      (∀ x, s.ptp.pend = [x] → x.port = p → x.src = ptpSrc m → x.seq = ptpSeq m → x.domain = ptpDomain m → x.every.isSome = true →
        t ≤ x.t + 100000000 → cap = true → Ends (.followUp port f t) s [.now, .net, .ptp, .locked, .flt, .freeNo] fun u =>
          u.ptp.pend = [] ∧ ∀ i, takes x.domain x.src i → (inst i u).sync = true ∧ (inst i u).port = p ∧
            (inst i u).offset = (x.t : Int) - ptpStamp m - Int.fdiv (x.corr + ptpCorr m + ingressCorr p s) 65536) ∧
      (s.ptp.pend = [] → Ends (.followUp port f t) s [.now, .net] fun u => u.now = max s.now t ∧ u.out = []))

/-- The timers of plant time (R278, R282 to R284, R286): masters, qualification, Syncs, the return to the primary domain, the end of
holdover, the stored clock, and a disagreement; what is not due changes nothing. -/
def Obligations.PtpTimers : Prop :=
  ∀ (s : State), live s = true →
    (∀ (i : Fin 4), Ends (.announceReceiptTimeout i) s [.ptp, .locked, .flt] fun u =>
      (inst i.val u).masters = (inst i.val s).masters.filter (fun m => decide (s.now < m.at_ + 3 * m.every)) ∧
      (inst i.val u).master = bestMaster (inst i.val u).masters) ∧
    (∀ (i : Fin 4), Ends (.gmQualTExpiry i) s [.ptp, .locked, .flt] fun u =>
      (inst i.val u).qual = ((inst i.val s).qual || ((inst i.val s).master.isSome &&
        decide ((inst i.val s).gmSince + cfgN Ent.PTP_GM_QUAL_T s * 1000000000 ≤ s.now))) ∧
      (inst i.val u).master = (inst i.val s).master) ∧
    (∀ (i : Fin 4), Ends (.syncReceiptTimeout i) s [.ptp, .locked, .flt] fun u =>
      (inst i.val u).sync = ((inst i.val s).sync && decide (s.now < (inst i.val s).syncAt + 3 * (inst i.val s).every)) ∧
      ((inst i.val u).sync = false → u.ptp.ref ≠ some i.val)) ∧
    (∀ k, s.ptp.ref = some k → 2 ≤ k → cfg Ent.PTP_REVERT_T s ≠ 0 →
      (∀ i, revertTo s = some i → Ends .revertTimer s [.ptp, .locked, .flt] fun u =>
        u.ptp.ref = some i ∧ u.ptp.state = .slewing ∧ u.locked = true ∧ isActive 0x7011 wide u = false ∧
        (s.ptp.lastRef = some k → u.ptp.changes = incSat32 s.ptp.changes)) ∧
      (revertTo s = none → Sends .revertTimer s [])) ∧
    (s.ptp.state = .holdover →
      (cfgN Ent.PTP_HOLDOVER_T s * 1000 ≤ s.ptp.holdMs → Ends .holdoverExpiry s [.ptp, .locked, .flt] fun u =>
        u.ptp = { s.ptp with state := .free, freq := s.ptp.storedFreq } ∧ u.locked = false ∧ isActive 0x7013 wide u = true) ∧
      (s.ptp.holdMs < cfgN Ent.PTP_HOLDOVER_T s * 1000 → Sends .holdoverExpiry s [])) ∧
    (due s.ptp.storeAt 1000000000 s = true → Ends .clockStore s [.ptp] fun u =>
      u.ptp = { s.ptp with stored := s.now, storedFreq := s.ptp.freq, storeAt := some s.now }) ∧
    (due s.ptp.storeAt 1000000000 s = false → Sends .clockStore s []) ∧
    (∀ d, domDiff s = some d → (trackDiff s).ptp.domSince =
      if cfgN Ent.PTP_DOM_DIS s < d.natAbs then some (s.ptp.domSince.getD s.now) else none) ∧
    (∀ d, lanDiff s = some d → (trackDiff s).ptp.lanSince =
      if cfgN Ent.PTP_LAN_DIS s < d.natAbs then some (s.ptp.lanSince.getD s.now) else none) ∧
    (∀ t, s.ptp.domSince = some t →
      (t + 10000000000 ≤ s.now → Ends (.domainDisagree false) s [.flt] fun u => isActive 0x7012 wide u = true) ∧
      (s.now < t + 10000000000 → Sends (.domainDisagree false) s [])) ∧
    (∀ t, s.ptp.lanSince = some t →
      (t + 10000000000 ≤ s.now → Ends (.domainDisagree true) s [.flt] fun u => isActive 0x7015 wide u = true) ∧
      (s.now < t + 10000000000 → Sends (.domainDisagree true) s []))

/-! ### The container message bus -/

/-- CAN reception and transmission (R294, R295, R298, R299): a frame that a filter admits enters the FIFO or its buffer; a frame sent
leaves its buffer SENT; one that lost arbitration stays pending where it may be tried again; a buffer that cannot have been tried has
no result. -/
def Obligations.CanFramesAreReceivedAndSent : Prop :=
  ∀ (ch : CanCh) (s : State), live s = true →
    let c := chNo ch
    (∀ (f : CanFrame) (n : Nat), canActive c s = true → (f.fd = true → cfgB Ent.CAN_FD s c = true) → f.rtr = false →
      matchFilter c (ofFrame f 0 s) s = some n →
      ((canFilter c n s).target = 0x40 → (chan c s).fifo.length < 32 → Ends (.canFrameReceive ch f) s [.can, .flt] fun u =>
        (chan c u).fifo = (chan c s).fifo ++ [ofFrame f n s] ∧ (chan c u).received = incSat32 (chan c s).received ∧
        (chan c u).bufs = (chan c s).bufs) ∧
      (∀ b : Fin 64, (canFilter c n s).target = b.val → bufDir c b.val s = 1 → Ends (.canFrameReceive ch f) s [.can, .flt] fun u =>
        getAt (chan c u).bufs b.val = { ofFrame f n s with ovl := bitOf (chan c s).nd b.val } ∧ bitOf (chan c u).nd b.val = true ∧
        (chan c u).received = incSat32 (chan c s).received ∧ (chan c u).fifo = (chan c s).fifo ∧
        (bitOf (chan c s).nd b.val = true → isActive (0x6807 + c) wide u = true))) ∧
    (∀ (b : Fin 64) (r : TxOutcome), attempted c b.val s = false → Sends (.canTxResult ch b r) s []) ∧
    (∀ b : Fin 64, attempted c b.val s = true →
      (Ends (.canTxResult ch b .sent) s [.can, .flt] fun u =>
        u.out = [.canFrame ch (getAt (chan c s).bufs b.val)] ∧
        getAt (chan c u).bufs b.val = { getAt (chan c s).bufs b.val with res := .sent, stamp := s.now } ∧
        (chan c u).sent = incSat32 (chan c s).sent ∧ (chan c u).tec = (chan c s).tec - 1 ∧ (chan c u).wire = none ∧ isActive (0x6805 + c) wide u = false) ∧
      (oneShot c b.val s = false → Ends (.canTxResult ch b .lostArb) s [.can] fun u =>
        u.out = [] ∧ (chan c u).bufs = (chan c s).bufs ∧ (chan c u).arbLost = incSat32 (chan c s).arbLost) ∧
      (oneShot c b.val s = true → Ends (.canTxResult ch b .lostArb) s [.can] fun u =>
        (getAt (chan c u).bufs b.val).res = .lostArb ∧ (chan c u).arbLost = incSat32 (chan c s).arbLost))

/-- Bus-off, recovery, the cooling frame, sleep, wake and the fence of a channel (R300 to R302, R305 to R307); what is not due changes
nothing. -/
def Obligations.CanChannelEvents : Prop :=
  ∀ (ch : CanCh) (s : State), live s = true →
    let c := chNo ch
    (canSends c s = true → 255 < (chan c s).tec + 8 → Ends (.busOff ch) s [.can, .flt] fun u =>
      (chan c u).mode = .busOff ∧ (chan c u).tec = 256 ∧ (chan c u).busOffs = incSat32 (chan c s).busOffs ∧ (chan c u).offAt = s.now ∧
      noPending c u = true ∧ isActive (0x6801 + c) wide u = true) ∧
    ((chan c s).tec + 8 ≤ 255 → Sends (.busOff ch) s []) ∧
    (cfg Ent.CAN_RECOVERY s c = 1 → canState c s = 3 →
      ((chan c s).offAt + cfgN Ent.CAN_RECOVERY_DELAY s c * 1000000 ≤ s.now → Ends (.autoRecoveryDelay ch) s [.can] fun u =>
        chan c u = { chan c s with mode := .recovering, recAt := s.now }) ∧
      (s.now < (chan c s).offAt + cfgN Ent.CAN_RECOVERY_DELAY s c * 1000000 → Sends (.autoRecoveryDelay ch) s [])) ∧
    (canState c s = 4 →
      ((chan c s).recAt + recoveryNs c s ≤ s.now → Ends (.recoveryComplete ch) s [.can, .flt] fun u =>
        (chan c u).mode = .run ∧ (chan c u).tec = 0 ∧ (chan c u).rec_ = 0 ∧ isActive (0x6801 + c) wide u = false ∧
        ∀ b : Fin 64, (getAt (chan c u).bufs b.val).res ≠ .busOff) ∧
      (s.now < (chan c s).recAt + recoveryNs c s → Sends (.recoveryComplete ch) s [])) ∧
    (isFenced .h s = false → cfgN Ent.CAN_TM_CHANNEL s = c + 1 →
      let every := cfgN Ent.CAN_TM_PERIOD s * 1000000
      (canSends c s = true → due s.can.tmAt every s = true → Ends .tmFrameSend s [.can, .freeNo] fun u =>
        (getAt (chan c u).bufs 62).res = .pending ∧ (getAt (chan c u).bufs 62).dlc = 8 ∧
        ((getAt (chan c u).bufs 62).data).take 2 = toBytes 2 s.prot.tmD ∧ u.can.tmCtr = (s.can.tmCtr + 1) % 256 ∧
        u.can.tmAt = some s.now) ∧
      (due s.can.tmAt every s = false → Sends .tmFrameSend s [])) ∧
    ((chan c s).sleepReq = true → (chan c s).mode = .run →
      ((chan c s).sleepAt + 100000000 ≤ s.now → Ends (.sleepTimeout ch) s [.can] fun u =>
        (chan c u).mode = .sleep ∧ (chan c u).sleepReq = false ∧ noPending c u = true) ∧
      (s.now < (chan c s).sleepAt + 100000000 → Sends (.sleepTimeout ch) s [])) ∧
    (∀ w, canState c s = 5 → wakeSign c w s = none → Ends (.canWake ch w) s [.can] fun u => (chan c u).mode = (chan c s).mode) ∧
    (∀ w cause, canState c s = 5 → wakeSign c w s = some cause → Ends (.canWake ch w) s [.can, .est, .sys] fun u =>
      (chan c u).mode = (if 255 < (chan c s).tec then .busOff else .run) ∧ (chan c u).wakeCause = cause ∧ (chan c u).fifo = (chan c s).fifo ∧ u.sys.hibernating = false) ∧
    (canFenced c s = false → Ends (.txdTimeout ch) s [.can, .flt] fun u =>
      isActive (0x6809 + c) wide u = true ∧
      (2 ≤ ((chan c s).txd.filter fun t => s.now < t + 1000000000).length → (chan c u).mode = .fenced)) ∧
    (Ends (.canControllerSelfCheckFail ch) s [.can, .flt] fun u =>
      (chan c u).mode = .fenced ∧ ((chan c s).mode ≠ .fenced → isActive (0x680B + c) wide u = true))

/-! ### The pair -/

/-- What a standby takes from the active member (R259, R358 to R361, R363, R364, R376): the DUTY, STATE, CONTEXT, RECORD, JOURNAL, BULK and
HEARTBEAT classes. A frame that is not valid changes nothing; a second copy, or one of an EPOCH below the member's own, is heard and no
more. A member that claims ACTIVE with the lower EPOCH leaves the role. What each content spells is the model's (log 145). -/
def Obligations.PairMirrorsAreTaken : Prop :=
  ∀ (s : State) (l : Lane) (f : List Byte), live s = true →
    let b (cls : Nat) : List Byte := collected cls f s
    (∀ x ∈ [(clsDuty, Instr.mirrorDuty l f), (clsState, Instr.mirrorState l f), (clsContext, Instr.mirrorContext l f),
        (clsRecord, Instr.mirrorRecord l f), (clsBulk, Instr.mirrorBulk l f), (clsJournal, Instr.mirrorJournal l f),
        (clsAck, Instr.journalAck l f)],
      (mirrorValid x.1 f s = false → Sends x.2 s []) ∧
      (mirrorValid x.1 f s = true → (mirrorStale f s = true ∨ mirrorAhead x.1 f s = false) → Ends x.2 s [.pair] fun u =>
        u.out = [] ∧ u.pair = (hearLane l s).pair)) ∧
    (∀ m, mirrorEnds clsDuty f s = true → dutyMirrorOf (b clsDuty) = some m → (tracks s = true ∨ s.pair.role = .detached) →
      Ends (.mirrorDuty l f) s [.pair, .sp, .link] fun u =>
        u.pair.dutyGot = true ∧ u.sp.iRef = m.iRef ∧ u.sp.dir = (if m.dirChg then .chg else .dis) ∧ u.sp.dwell = m.dwell ∧
        u.sp.tgt = m.target * 65536 ∧ u.sp.r = m.target * 65536 ∧ u.sp.en = m.en ∧
        u.sp.redist = (if m.redist = 0 then 0 else 16 - m.redist) ∧ u.link.seq = m.seq ∧ u.link.next.duty = m.duty ∧
        u.link.next.run = m.run ∧ u.link.next.act = false) ∧
    (∀ m, mirrorEnds clsState f s = true → stateMirrorOf (b clsState) = some m → s.pair.paired = true → s.pair.role ≠ .active →
      StoreInv s → Ends (.mirrorState l f) s [.store, .pair, .dio, .prot, .est, .link] fun u =>
        StoreInv u ∧ u.dio.dqCmd = m.dq ∧ u.dio.sqCmd = m.sq ∧ u.pair.imageDq = m.dq ∧ u.pair.imageSq = m.sq ∧
        u.prot.tripped = m.tripped ∧ u.prot.cause = m.cause ∧ u.prot.main.coil = bitOf m.coils 0 ∧
        u.prot.neg.coil = bitOf m.coils 1 ∧ u.prot.pre.coil = bitOf m.coils 2) ∧
    (∀ m, mirrorEnds clsContext f s = true → ctxMirrorOf (b clsContext) = some m → s.pair.paired = true → s.pair.role ≠ .active →
      Ends (.mirrorContext l f) s [.est, .pair, .chain] fun u =>
        u.pair.ctxAt = some s.now ∧ u.chain.sweepCtr = m.sweep ∧ u.chain.cmdCtrA = m.cmdA ∧ u.chain.cmdCtrB = m.cmdB ∧
        (∀ n c, n < 256 → m.ctx[n]? = some c → ctxAt n u = ctxOfBytes c s) ∧ ∀ n, m.ctx.length ≤ n → ctxAt n u = ctxAt n s) ∧
    (∀ n : Fin 256, mirrorEnds clsRecord f s = true → (b clsRecord).length = 66 → fieldU (b clsRecord) 0 2 = n.val →
      s.pair.paired = true → s.pair.role ≠ .active → Ends (.mirrorRecord l f) s [.ident, .pair] fun u =>
        let p := lpAt n.val s
        let r := learnedOfBytes ((b clsRecord).drop 2)
        let other (x : Learned) : Learned := if r.seq ≤ x.seq then r else x
        lpAt n.val u = (if writeToA p then { p with a := r, aOk := true, b := other p.b } else { p with b := r, bOk := true, a := other p.a }) ∧
        ∀ k : Fin 256, k ≠ n → lpAt k.val u = lpAt k.val s) ∧
    (∀ m, mirrorEnds clsBulk f s = true → bulkMirrorOf (b clsBulk) = some m → s.pair.paired = true → s.pair.rejoin.isSome = true →
      ∃ u, exec (.mirrorBulk l f) s = .next u ∧ u.pending = s.pending ∧
        u.pair.rejoinBulk = true ∧ u.ses.journal.map (·.jseq) = m.journal.map (·.jseq)) ∧
    (∀ e, mirrorEnds clsJournal f s = true → journalOf (b clsJournal).length (b clsJournal) = [e] → s.pair.paired = true →
      s.pair.role = .standby → isFenced .j s = false →
      (e.jseq ≠ s.ses.jseq + 1 → Ends (.mirrorJournal l f) s [.ses, .pair] fun u =>
        u.ses.jseq = s.ses.jseq ∧ u.out = mirrorSent clsAck (toBytes 8 s.ses.jseq) s) ∧
      (e.jseq = s.ses.jseq + 1 → e.type = 3 → fieldU e.payload 0 1 = 1 → Ends (.mirrorJournal l f) s [.ses, .pair] fun u =>
        u.ses.jseq = e.jseq ∧ u.out = mirrorSent clsAck (toBytes 8 e.jseq) s ∧
        u.ses.open_ = s.ses.open_ ++ [{ id := fieldU e.payload 1 4, client := fieldU e.payload 5 8
                                        service := fieldU e.payload 13 1 == 1, last := s.now }])) ∧
    (∀ h, mirrorEnds clsHeartbeat f s = true → heartbeatOf (b clsHeartbeat) = some h → (b clsHeartbeat).length = 15 →
      h.member = 1 - s.pair.member → cfgB Ent.PAIR_ENABLE s = true → h.pair = pairId s →
      (s.pair.paired = true → s.pair.role = .standby → h.role = 0 → epochAbove s.pair.epoch h.epoch = false →
        Ends (.mirrorHeartbeat l f) s [.pair] fun u =>
          u.pair.partner = some .active ∧ u.pair.partnerReady = h.ready ∧ u.pair.partnerEpoch = h.epoch ∧
          u.pair.partDq = fieldU (b clsHeartbeat) 12 2 ∧ u.pair.partSq = fieldU (b clsHeartbeat) 14 1 ∧ u.pair.role = .standby ∧
          u.pair.epoch = if epochAbove h.epoch s.pair.epoch then h.epoch else s.pair.epoch) ∧
      (s.pair.paired = false → tierAtLeast .watch s = false → Ends (.mirrorHeartbeat l f) s [.pair] fun u =>
        u.pair.paired = true ∧ u.pair.role = if h.role = 0 then .detached else .standby) ∧
      (s.pair.paired = true → s.pair.role = .active → s.pair.request = .none → h.role = 0 →
        epochAbove h.epoch s.pair.epoch = true →
        Ends (.mirrorHeartbeat l f) s [.pair, .flt, .link, .recd, .dio] fun u =>
          u.pair.role = .fenced ∧ allOpen u ∧ isActive 0x780A wide u = true))

/-- The orders of a handover and a rejoin, the silence of the mirror link, a lane and the ALIVE line, and the fences (R357, R358, R370,
R372, R375, R376): each completes, also where it changes nothing because its time or its member has not come. -/
def Obligations.PairRolesChange : Prop :=
  ∀ (s : State) (l : Lane), live s = true →
    (∀ f, mirrorEnds clsOrder f s = true →
      let b := collected clsOrder f s
      (fieldU f 8 1 = ordHandover → b.length = 3 → s.pair.paired = true → s.pair.role = .standby → Ends (.orderHandover l f) s [.pair] fun u =>
        u.out = [] ∧ u.pair.handSeq = (if s.pair.laneHeld then none else some (fieldU b 1 2)) ∧ u.pair.released = true ∧
        u.pair.grant = (if s.pair.partnerLease then s.pair.grant else some (s.pair.epoch + 1)) ∧ u.pair.role = .standby) ∧
      (fieldU f 8 1 = ordRejoinReq → s.pair.paired = true → s.pair.role = .active → Ends (.rejoinReq l f) s [.pair] fun u =>
        u.out = mirrorSent clsBulk (bulkMirrorBytes (ownBulk s)) s ∧ u.pair.role = .active) ∧
      (fieldU f 8 1 = ordRejoinDone → s.pair.paired = true → s.pair.role = .active → Ends (.rejoinDone l f) s [.pair, .flt] fun u =>
        u.pair.partner = some .standby ∧ u.pair.fenceOut = false ∧ u.pair.role = .active ∧
        isActive 0x7802 wide u = false ∧ isActive 0x7808 wide u = false)) ∧
    (∀ f, mirrorValid clsOrder f s = false → Sends (.orderHandover l f) s [] ∧ Sends (.rejoinReq l f) s [] ∧ Sends (.rejoinDone l f) s []) ∧
    (∀ t, s.pair.rejoin = some t →
      (t + 10000000000 ≤ s.now → Ends .rejoinTimeout s [.pair, .flt] fun u =>
        u.pair = { s.pair with rejoin := none, rejoinBulk := false, rejoinRun := 0, rejoinAt := s.now + 60000000000 } ∧
        isActive 0x780B wide u = true) ∧
      (s.now < t + 10000000000 → Sends .rejoinTimeout s [])) ∧
    (s.pair.paired = true → mirrorUp s = false →
      (s.pair.role = .active → s.ses.awaiting = [] → Ends .mirrorSilent s [.pair, .flt] fun u =>
        u.pair.role = .active ∧ u.pair.partner = some .detached ∧ u.pair.partnerReady = false ∧ u.pair.fenceOut = true ∧
        isActive 0x7802 wide u = true) ∧
      (s.pair.role = .standby → aliveOn s = true → s.pair.laneHeld = false → Ends .mirrorSilent s [.pair, .dio, .link] fun u =>
        u.pair.role = .detached ∧ u.pair.partner = none ∧ allOpen u) ∧
      (s.pair.role = .standby → aliveOn s = false → laneUp .l0 s = true → Ends .mirrorSilent s [.pair] fun u =>
        u.pair.role = .standby ∧ u.pair.request = .takeover ∧ u.pair.partner = none) ∧
      ((s.pair.role = .detached ∨ s.pair.role = .fenced) → Ends .mirrorSilent s [.pair] fun u =>
        u.pair.role = s.pair.role ∧ u.pair.partner = none ∧ u.pair.rejoin = none)) ∧
    (mirrorUp s = true → s.ses.awaiting = [] → Sends .mirrorSilent s []) ∧
    (s.pair.paired = true → aliveOn s = false →
      (mirrorUp s = true → Ends .aliveLost s [.flt] fun u => isActive 0x780C wide u = true) ∧
      (mirrorUp s = false → pairReady s = true → Ends .aliveLost s [.pair] fun u =>
        u.pair.role = .standby ∧ u.pair.request = .takeover)) ∧
    (aliveOn s = true → Sends .aliveLost s []) ∧
    (mirrorLane l s = true → Ends (.mirrorLaneDown l) s [.pair, .flt] fun u =>
      isActive 0x7801 wide u = true ∧
      u.pair = match l with | .l0 => { s.pair with mir0 := false } | .l1 => { s.pair with mir1 := false }) ∧
    (mirrorLane l s = false → Sends (.mirrorLaneDown l) s []) ∧
    (Ends .fenceInAssert s [.pair, .flt, .link, .dio, .recd] fun u =>
      u.pair.fenceIn = true ∧ isActive 0x7809 wide u = true ∧ allOpen u ∧ u.link.select = none ∧
      (s.pair.paired = true → s.pair.role ≠ .active → u.pair.role = .fenced)) ∧
    (Ends .fenceInRelease s [.pair, .flt, .link, .dio] fun u =>
      u.pair = { s.pair with fenceIn := false } ∧ isActive 0x7809 wide u = false)

/-- Leases and the witness (R365, R366, R368 to R371, R373, R374): a lease frame extends the lease from the heartbeat it echoes; a higher
EPOCH ends the role; a refusal detaches; expiry and the end of the grant wait as R369 and R371 say; the witness decides once a frame,
700 µs after its boundary, and grants, renews, refuses or is silent. -/
def Obligations.LeasesAndWitness : Prop :=
  ∀ (s : State), live s = true →
    (∀ net f, (leaseFor 0 net f s = none → Sends (.leaseRenew net f) s []) ∧ (leaseFor 1 net f s = none → Sends (.leaseGrant net f) s []) ∧
      (leaseFor 2 net f s = none → Sends (.leaseRefuse net f) s [])) ∧
    (s.pair.paired = true →
    (∀ net f l t, leaseFor 0 net f s = some l → toMe l s = true → s.pair.role = .active → epochAbove l.epoch s.pair.epoch = false →
      s.pair.sends.find? (·.1 == l.ctr) = some (l.ctr, t) → Ends (.leaseRenew net f) s [.pair, .flt] fun u =>
        u.pair.role = .active ∧ u.pair.lease = .witness ∧ u.pair.leaseEnd = max s.pair.leaseEnd (t + leaseNs s) ∧
        u.pair.leaseAt = some s.now ∧ isActive 0x7803 wide u = false) ∧
    (∀ net f l, leaseFor 0 net f s = some l → s.pair.role = .active → s.pair.request = .none → epochAbove l.epoch s.pair.epoch = true →
      Ends (.leaseRenew net f) s [.pair, .flt, .link, .recd, .dio] fun u =>
        u.pair.role = .fenced ∧ allOpen u ∧ isActive 0x780A wide u = true) ∧
    (∀ net f l, leaseFor 1 net f s = some l → toMe l s = true → s.pair.role ≠ .active → Ends (.leaseGrant net f) s [.pair, .flt] fun u =>
      u.pair.grant = some l.epoch ∧ u.pair.role = s.pair.role ∧ u.pair.epoch = s.pair.epoch ∧
      ∀ t, s.pair.sends.find? (·.1 == l.ctr) = some (l.ctr, t) → u.pair.leaseEnd = max s.pair.leaseEnd (t + leaseNs s)) ∧
    (∀ net f l, leaseFor 2 net f s = some l → toMe l s = true → s.pair.role = .standby →
      (aliveOn s = true → Ends (.leaseRefuse net f) s [.pair, .flt, .link, .dio] fun u =>
        u.pair.role = .detached ∧ u.pair.laneHeld = false ∧ allOpen u ∧ isActive 0x7806 wide u = true) ∧
      (aliveOn s = false → Ends (.leaseRefuse net f) s [.pair, .flt] fun u =>
        u.pair.role = .standby ∧ isActive 0x7806 wide u = true)) ∧
    (s.pair.role = .active → s.pair.leaseEnd ≤ s.now →
      (witnessLostToBoth s = true → Ends .leaseExpiry s [.pair, .flt] fun u =>
        u.pair = { s.pair with lease := .self, leaseEnd := s.now + leaseNs s } ∧ isActive 0x7803 wide u = true) ∧
      (witnessLostToBoth s = false → s.pair.handing = false → Ends .leaseExpiry s [.pair, .flt] fun u =>
        u.pair.lease = .expired ∧ u.pair.role = .active ∧ u.pair.request = .handover ∧ u.pair.handing = true ∧
        isActive 0x7804 wide u = true ∧ ∃ d, u.pair.handSeq = some d ∧
          u.out = mirrorSent clsOrder (toBytes 1 ordHandover ++ toBytes 2 d) s)) ∧
    (s.now < s.pair.leaseEnd → Sends .leaseExpiry s []) ∧
    (s.pair.role = .standby → s.pair.request = .takeover → cfgN Ent.PAIR_GRANT_WAIT s ≤ s.pair.reqFrames →
      (s.pair.laneHeld = true → Ends .grantWaitTimeout s [.pair, .flt, .sp] fun u =>
        u.pair = { s.pair with noGrant := true } ∧ isActive 0x7807 wide u = true ∧ (s.sp.mode.running = true → u.sp.accepted ≠ .none)) ∧
      (s.pair.laneHeld = false → mirrorUp s = false → Ends .grantWaitTimeout s [.pair, .flt] fun u =>
        u.pair = { s.pair with noGrant := true } ∧ isActive 0x7807 wide u = true) ∧
      (s.pair.laneHeld = false → mirrorUp s = true → s.pair.partnerReq = .takeover → s.pair.member = 0 →
        ∃ u, exec .grantWaitTimeout s = .next u ∧
          u.pending = s.pending ∧ u.store = s.store ∧ u.pair.role = .active ∧ u.pair.lease = .self ∧
          u.pair.leaseEnd = s.now + leaseNs s ∧ u.pair.epoch = (s.pair.epoch + 1) % 65536)) ∧
    (s.pair.reqFrames < cfgN Ent.PAIR_GRANT_WAIT s → Sends .grantWaitTimeout s [])) ∧
    (∀ (slot : Fin 4) (heard : List (Bool × List Byte)),
      let w := getAt s.pair.served slot.val
      ((servedPair slot.val s = 65535 ∨ w.frame = some s.sys.frames) → Ends (.witnessDecision slot heard) s [.now] fun u =>
        u.now = max s.now (s.frameAt + 700000) ∧ u.out = []) ∧
      (∀ net f h, servedPair slot.val s ≠ 65535 → w.frame ≠ some s.sys.frames → heard = [(net, f)] → heartbeatFrame f = some h →
        (net = true → isFenced .n s = false) → h.pair = servedPair slot.val s → w.known = true → 2 ≤ w.heard →
        let answers (decision epoch : Nat) (u : State) : Prop :=
          let lease := witnessFrame (leaseBytes {
            pair := servedPair slot.val s, member := h.member, decision := decision, epoch := epoch, ctr := h.frameCtr
            witness := s.sys.plantAddr, net := net })
          u.now = max s.now (s.frameAt + 700000) ∧ (getAt u.pair.served slot.val).epoch = epoch ∧
          u.out = [.witness net (if net then lease else [0x55#8, 0xD5#8] ++ lease)]
        (w.active = none → h.member = 1 → h.role ≠ 0 → h.ready = true → h.request = 1 →
          Ends (.witnessDecision slot heard) s [.now, .pair] (answers 1 ((w.epoch + 1) % 65536))) ∧
        (h.member = 0 → h.role = 0 → h.epoch = w.epoch → h.request = 0 →
          Ends (.witnessDecision slot heard) s [.now, .pair] fun u =>
            answers 0 w.epoch u ∧ (getAt u.pair.served slot.val).active = some 0) ∧
        (w.active = some 0 → incSat8 w.miss0 < cfgN Ent.PAIR_MISS_MAX s → h.member = 1 → h.role ≠ 0 → h.request = 1 →
          Ends (.witnessDecision slot heard) s [.now, .pair] (answers 2 w.epoch))))

/-! ### Firmware update -/

/-- The update of the inactive bank (R380, R383, R384, R386 to R388, R390): each block is written and read back, once more where it
does not pass its CRC; the package is verified; the shadow hands over, and its health commits or ends the new image.
A chunk of the recovery load (R342, R391), in turn, of the service session, to a module without a valid image: the first chunk
invalidates bank A and is written; one that does not go on where the last ended is answered RANGE. -/
def Obligations.FirmwareUpdateAdvances : Prop :=
  (∀ (s : State), live s = true →
     let b := s.fw.block
     let bytes := deltaBlock b s
     let into := inactiveBank s
     (∀ got, s.fw.state = .applying → s.sys.imageOk = true → tierAtLeast .limited s = true →
       let good := bytes.length = 4096 ∧ crc32c got = fieldU s.fw.delta (64 + 8 * b) 4
       (s.fw.abort = false →
         (good → Ends (.fwBlockDone got) s [.fw] fun u =>
           u.fw.block = b + 1 ∧ u.fw.retried = false ∧ (bankBlocks into u).find? (·.1 == b) = some (b, got) ∧
           bankBlocks (bankActive s) u = bankBlocks (bankActive s) s ∧
           u.fw.state = if deltaBlocks s ≤ b + 1 then .verifying else .applying) ∧
         (¬good → s.fw.retried = false → Ends (.fwBlockDone got) s [.fw] fun u =>
           u.fw.block = b ∧ u.fw.retried = true ∧ u.fw.state = .applying) ∧
         (¬good → s.fw.retried = true → Ends (.fwBlockDone got) s [.fw, .flt] fun u =>
           u.fw.block = b ∧ u.fw.state = .failed ∧ u.fw.last = .failed ∧ isActive 0x7A03 wide u = true)) ∧
       (s.fw.abort = true → Ends (.fwBlockDone got) s [.fw] fun u =>
         u.fw.state = .idle ∧ u.fw.abort = false ∧ bankBlocks (bankActive s) u = bankBlocks (bankActive s) s)) ∧
     (∀ got, tierAtLeast .limited s = false → Sends (.fwBlockDone got) s []) ∧
     (s.fw.state = .verifying → Ends .fwVerifyDone s [.fw, .mem, .flt] fun u =>
       if packageOk into s = true then
         u.fw.state = .verified ∧ bankValid into u = true ∧ (∀ x ∈ u.mem.bankBad, x.1 ≠ into) ∧
         (u.mem.bankBad = [] → isActive 0x1108 wide u = false)
       else u.mem = s.mem ∧ u.fw.state = .rejected ∧ u.fw.last = .rejected ∧
         isActive (if packageSound into s = true then 0x7A0A else 0x7A04) wide u = true) ∧
     (s.fw.state = .shadow →
       (∀ ns, 16 ≤ s.fw.framesIn → ns ≤ 980000 → Ends (.shadowHandover ns) s [.fw, .est] fun u =>
         u.fw = { s.fw with state := .probation, probation := 0, running := into, pairNo := 1 - s.fw.pairNo } ∧
         u.est = { s.est with slot := 1 - s.fw.pairNo }) ∧
       (∀ ns, (s.fw.framesIn < 16 ∨ 980000 < ns) → Sends (.shadowHandover ns) s []) ∧
       (∀ failed, (failed = true ∨ 2000 ≤ s.fw.framesIn) → Ends (.shadowTimeout failed) s [.fw, .flt] fun u =>
         u.fw.state = .rejected ∧ u.fw.running = s.fw.running ∧ isActive 0x7A06 wide u = true) ∧
       (s.fw.framesIn < 2000 → Sends (.shadowTimeout false) s [])) ∧
     (s.fw.state = .probation →
       (cfgN Ent.FW_HEALTH_MIN s ≤ s.fw.probation → s.fw.backNext = none → Ends (.healthCommit true) s [.fw] fun u =>
         u.fw = { s.fw with commitNext := true }) ∧
       (∀ clean, (s.fw.probation < cfgN Ent.FW_HEALTH_MIN s ∨ clean = false) → Sends (.healthCommit clean) s []) ∧
       (s.fw.commitNext = false →
         (1000 ≤ s.fw.probation → Ends .healthTimeout s [.fw] fun u => u.fw = { s.fw with backNext := some 0x7A07 }) ∧
         (s.fw.probation < 1000 → Sends .healthTimeout s [])))) ∧
  (∀ (h : Hdr) (p : List Byte) (x : Session) (s : State) (a : Word32) (q : Word16),
     let r : Req := { writeReq Ent.FW_RECOVERY h p with op := 0x11 }
     let total := fieldU p 0 4
     let off := fieldU p 4 4
     let n := p.length - 12
     live s = true → s.sys.imageOk = false → isFenced .h s = false → isFenced .n s = false → h.via = .udp a q true →
       formOk r = true → h.kind = 1 → sessionOf h.ses s = some x → x.service = true → x.held = [] → h.seq = x.next → h.seq ≠ 0 →
       13 ≤ p.length → p.length ≤ 1036 →
       (off = 0 → s.fw.recNext = 0 → 4096 ≤ total → total ≤ 33554432 → n < total →
         Ends (.fwRecoveryChunk h p) s [.ses, .fw] fun u =>
           u.out = [.reply (mkReply r stDone 0 [])] ∧ u.fw.state = .applying ∧ u.fw.recNext = n ∧ u.fw.recTotal = total ∧
           u.fw.validA = false ∧ bankBytes 0 0 n u = p.drop 12) ∧
       (off ≠ 0 → off ≠ s.fw.recNext → Ends (.fwRecoveryChunk h p) s [.ses] fun u =>
         u.out = [.reply (mkReply r stRange 0 [])] ∧ u.fw = s.fw))

/-! ### Memory and the recorder -/

/-- The scrubber (R21, R398, R400, R402, R403, R405, R406, R428): an engine reads its blocks in turn and at its pace; a good block is left;
a single error is written back and counted; an uncorrectable block of flash is told, one of an island's SRAM fences the island, and one
of the P island resets the module; a lap ends with the highest block, and one over its limit is told. -/
def Obligations.ScrubberCorrectsAndContains : Prop :=
  ∀ (r : Fin 13) (t : Nat) (raw : List Byte) (s : State), live s = true → isFenced .j s = false →
    let x := region r.val s
    let off := 8 * x.walk
    (∀ again, readDue r.val (atTime t s) = false → Sends (.scrubStep r t raw again) s []) ∧
    (readDue r.val (atTime t s) = true →
      (∀ again, (decodeBlock raw).1 = .none → Ends (.scrubStep r t raw again) s [.now, .mem] fun u =>
        u.out = [] ∧ region r.val u = { x with walk := x.walk + 1, readAt := some (max s.now t) }) ∧
      ((decodeBlock raw).1 = .data → Ends (.scrubStep r t raw raw) s [.now, .mem, .flt] fun u =>
        (region r.val u).corrected = incSat32 x.corrected ∧ (region r.val u).uncorr = x.uncorr ∧ (region r.val u).walk = x.walk + 1 ∧
        u.mem.lastKind = .data ∧ u.mem.lastRegion = r.val ∧ u.mem.lastOffset = off ∧ u.mem.lastTime = max s.now t ∧
        u.out = if r.val < 11 then [.memWrite r.val off (decodeBlock raw).2] else []) ∧
      ((decodeBlock raw).1 = .check → Ends (.scrubStep r t raw raw) s [.now, .mem, .flt] fun u =>
        (region r.val u).checkbit = incSat32 x.checkbit ∧ (region r.val u).corrected = x.corrected ∧
        (region r.val u).walk = x.walk + 1 ∧ u.mem.lastKind = .check) ∧
      (∀ again, (decodeBlock raw).1 = .uncorrectable →
        (11 ≤ r.val → Ends (.scrubStep r t raw again) s [.now, .mem, .flt, .fw] fun u =>
          (region r.val u).uncorr = incSat32 x.uncorr ∧ isActive 0x1108 wide u = true ∧
          bankValid (r.val - 11) u = false ∧ (r.val - 11, x.walk) ∈ u.mem.bankBad) ∧
        (∀ i, regionOwner r.val = some i → i ≠ .p → ∃ u, exec (.scrubStep r t raw again) s = .next u ∧ u.pending = s.pending ∧
          u.store = s.store ∧ isFenced i u = true ∧ isActive 0x1103 r.val u = true ∧ isActive 0x1010 (islandNo i) u = true ∧
          ∀ k, k ≠ i → isFenced k u = isFenced k s) ∧
        (r.val = 0 → ∃ u, exec (.scrubStep r t raw again) s = .next u ∧ u.pending = s.pending ∧ u.sys.phase = .off ∧
          u.sys.cause = .pMemory ∧ u.store = keptStore s))) ∧
    (regionBlocks r.val ≤ x.walk → Ends (.lapEnd r) s [.mem, .flt] fun u =>
      region r.val u = { x with lap := x.lap + 1, lapTime := x.lapMs / 1000, lapMs := 0, walk := 0 } ∧
      (x.lapMs / 1000 ≤ lapLimit r.val s → isActive 0x1104 r.val u = false)) ∧
    (x.walk < regionBlocks r.val → Sends (.lapEnd r) s []) ∧
    (lapLimit r.val s * 1000 < x.lapMs → Ends (.lapLate r) s [.flt] (fun u => isActive 0x1104 r.val u = true)) ∧
    (x.lapMs ≤ lapLimit r.val s * 1000 → Sends (.lapLate r) s [])

/-- The recorder (R411, R414, R417 to R419): a value falls into the bin between its edges; each second is counted; a commit writes what is pending, and is skipped during a hold and while VBP is low; a hold ends
after its duration and is merged. -/
def Obligations.RecorderCountsAndCommits : Prop :=
  (∀ edges ∈ [tempEdges, socEdges, rateEdges, vbpEdges, dieEdges, vfEdges], ∀ v : Int,
    binOf edges v ≤ edges.length ∧ ∀ (i : Nat) (e : Int), edges[i]? = some e → (i < binOf edges v ↔ e ≤ v)) ∧
  tempEdges = [-200, -100, 0, 100, 200, 250, 300, 350, 400, 450, 550] ∧
  socEdges = [1000, 2000, 3000, 4000, 5000, 6000, 7000, 8000, 9000] ∧
  rateEdges = [-1500, -1000, -750, -500, -250, -100, -20, 0, 20, 100, 250, 500, 750, 1000, 1500] ∧
  vbpEdges = [36000, 40000, 44000, 46000, 48000, 50000, 52000, 54000, 60000, 66000, 75000] ∧
  dieEdges = [0, 250, 500, 700, 850, 950, 1050, 1150, 1250, 1350, 1450] ∧
  vfEdges = [15000, 18000, 20000, 22000, 23000, 24000, 25000, 26000, 28000, 30000, 32000] ∧
  ∀ (s : State), live s = true → isFenced .j s = false →
    (s.recd.secAt = s.sys.opSec → Sends .recSecond s []) ∧
    (s.recd.secAt ≠ s.sys.opSec → Ends .recSecond s [.recd, .ident] fun u =>
      u.recd.secAt = s.sys.opSec ∧ u.recd.dirs = 0 ∧ u.recd.trips = 0 ∧ u.recd.seenSteps = s.sp.loadSteps ∧ u.recd.seenBreaks = s.prot.breaks ∧
      u.recd.lastCommit = s.recd.lastCommit ∧ u.recd.state = s.recd.state ∧
      ((acts s = false ∨ s.cells.posCount ≤ 256) →
        let key := 2832 * 16 + binOf vbpEdges s.sup.vbp
        (u.recd.pend.find? (·.1 == key)).map (·.2) = some (((s.recd.pend.find? (·.1 == key)).map (·.2)).getD 0 + 1))) ∧
    (s.recd.dueAt ≤ s.sys.opSec →
      (s.recd.state = .running → s.sup.vbpState = .normal → Ends .recCommit s [.recd, .flt] fun u =>
        u.recd.pend = [] ∧ u.recd.ext = [] ∧ u.recd.lastCommit = s.sys.opSec ∧ u.recd.interval = cfgN Ent.REC_COMMIT_INT s ∧
        u.recd.dueAt = s.sys.opSec + cfgN Ent.REC_COMMIT_INT s) ∧
      (s.recd.state ≠ .running ∨ s.sup.vbpState ≠ .normal → Ends .recCommit s [.recd] fun u =>
        u.recd = { s.recd with
          interval := cfgN Ent.REC_COMMIT_INT s, dueAt := s.sys.opSec + cfgN Ent.REC_COMMIT_INT s })) ∧
    (s.recd.state = .held → s.recd.holdEnd ≤ s.now → Ends .holdEnd s [.recd, .flt] fun u =>
      u.recd = { s.recd with state := .merging, holdSes := 0, holdWant := none } ∧
      (s.recd.holdFrom + 60000000000 ≤ s.now → isActive 0x7C04 wide u = true)) ∧
    (s.recd.state = .merging → s.sup.vbpState = .normal → Ends .mergeEnd s [.recd, .flt] fun u =>
      u.recd.pend = [] ∧ u.recd.ext = [] ∧ u.recd.state = .running ∧ u.recd.lastCommit = s.sys.opSec ∧
      u.recd.dueAt = s.sys.opSec + s.recd.interval)

/-! ### Accepted work -/

/-- How a sequenced WRITE in its turn is answered (R244, R245, R260, and the owner's rule of each command): it joins the batch with
this status. -/
def Obligations.CommandsAreJudged : Prop :=
  ∀ (i : Instr) (r : Req) (x : Session) (s : State), requestOf i = some r → r.op = 0x02 → Ready r x s →
    let a := arrived x s
    let answered (st : Nat) : Prop := Ends i s [.ses] fun t => t.ses.batch = s.ses.batch ++ [.request r (mkReply r st 0 [])]
    (reqEntry r = none → answered stAccess) ∧
    (∀ e k, reqEntry r = some (e, k) →
      let settings := e.access = .rwi ∨ e.access = .rwc ∨ (e.access = .rw ∧ dispatchEntry r = none)
      (e.access = .ro → answered stAccess) ∧ (e.access = .saf → answered stSafety) ∧
      (settings → decodeVal e r.payload = none → answered stType) ∧
      (∀ v, settings → decodeVal e r.payload = some v → valueOk e v = false → answered stRange) ∧
      (∀ v, decodeVal e r.payload = some v → valueOk e v = true →
        (e.access = .rwi → parked a = false → answered stIdle) ∧
        ((e.access = .rwi ∧ parked a = true) ∨ (e.access = .rw ∧ dispatchEntry r = none) →
          (protectionBits e v a = true → answered stAccess) ∧
          (protectionBits e v a = false → (linkFault [(entryAddr e k, v)] a).isSome = true → answered stRange) ∧
          (protectionBits e v a = false → linkFault [(entryAddr e k, v)] a = none →
            answered (if sameValue e k v a then stDone else stAccepted))) ∧
        (e.access = .rwc →
          let set := storeIns (entryAddr e k) v (projected { x with last := s.now } a).staged
          answered (if set.length ≤ 512 ∧ setBytes set ≤ 65536 then stAccepted else stRange)))) ∧
    (∀ n : Nat,
      let writes (e : Entry) : Prop := ∃ k, reqEntry r = some (e, k) ∧ decodeVal e r.payload = some (.num n) ∧ valueOk e (.num n) = true
      (writes Ent.CHN_ENUMERATE → n = 1 → answered (if parked a then stAccepted else stBusy)) ∧
      (writes Ent.CHN_KEY_NODE → answered stAccepted) ∧
      (writes Ent.EST_REST_REQ → answered (if (n : Int) < cfg Ent.EST_REST_TIME a then stRange else stAccepted)) ∧
      (writes Ent.CELL_ID_ACK → n = 1 → answered stAccepted) ∧
      (writes Ent.EST_ID_ACK_ALL → n = 1 → answered stAccepted) ∧
      (writes Ent.CVT_PHASE_RESTORE → answered stAccepted) ∧
      (writes Ent.DSP_REST_GRANT → answered stAccepted) ∧
      (writes Ent.DIO_DQ_RETRY → answered stAccepted) ∧
      (writes Ent.PROT_TRIP_RESET → n = 1 →
        answered (if s.prot.tripped = false then stDone else if tripPresent a then stBusy else stAccepted)) ∧
      (writes Ent.SP_MODE_CMD →
        (seqRuns a = true → answered (if n = 0 ∧ s.prot.seq = .precharge ∧ s.prot.abortTo = none then stAccepted else stBusy)) ∧
        (seqRuns a = false →
          (s.sp.mode.code = n → s.sp.toStandby = false → answered stDone) ∧
          (s.sp.mode = .parked → 2 ≤ n → answered stRange) ∧
          (s.sp.mode = .parked → n = 1 → answered ((prechargeRefusal (!s.sys.hibernating) a).getD stAccepted)) ∧
          (s.sp.mode = .standby → n = 0 → answered stAccepted) ∧
          (s.sp.mode = .standby → 2 ≤ n →
            answered (if s.prot.tripped then stBusy else if anySelected a = false ∨ runRefused a = true then stIdle else stAccepted)) ∧
          (s.sp.mode.running = true → s.sp.mode.code ≠ n → answered stAccepted))) ∧
      (writes Ent.SYS_RESET_CMD → n = 1 → answered (if parked a then stAccepted else stBusy)) ∧
      (writes Ent.SYS_SELFTEST_REQ →
        (n = 1 → answered stDeferred) ∧ (n = 2 → answered (if s.sys.calRun then stDone else stAccepted)) ∧
        (n = 3 → answered (if parked a then stAccepted else stBusy))) ∧
      (writes Ent.PAIR_HANDOVER → n = 1 → answered (if handoverReady a then stAccepted else stAccess)) ∧
      (writes Ent.FW_APPLY → n = 1 → answered (if s.fw.state = .deltaStored then stAccepted else stAccess)) ∧
      (writes Ent.FW_ABORT → n = 1 →
        answered (if s.fw.state = .applying ∨ s.fw.state = .verifying ∨ s.fw.state = .probation then stAccepted else stAccess)) ∧
      (writes Ent.FW_ACTIVATE → (n = 1 → answered (activateVerdict 1 a)) ∧ (n = 2 → answered stAccepted)) ∧
      (writes Ent.REC_HOLD → answered ((holdRefusal x.id n a).getD stAccepted)) ∧
      (∀ k, reqEntry r = some (Ent.CAN_RECOVER, k) → decodeVal Ent.CAN_RECOVER r.payload = some (.num 1) →
        answered (if canState k a = 3 then stAccepted else stDone)) ∧
      (writes Ent.CAN_SLEEP → answered stAccepted)) ∧
    (∀ bs, reqEntry r = some (Ent.CHN_PACK_KEY, 0) → decodeVal Ent.CHN_PACK_KEY r.payload = some (.bytes bs) →
      valueOk Ent.CHN_PACK_KEY (.bytes bs) = true → answered (if parked a then stAccepted else stBusy)) ∧
    (∀ bs k, reqEntry r = some (Ent.CAN_TX, k) → decodeVal Ent.CAN_TX r.payload = some (.bytes bs) →
      valueOk Ent.CAN_TX (.bytes bs) = true →
      let n := fieldU bs 0 1
      answered (if txBufOk k n a = false then stRange else if cfg Ent.CAN_ENABLE a k = 2 then stAccess
        else if txBusy k n a then stDeferred else stAccepted)) ∧
    (reqEntry r = some (Ent.PROT_EMERGENCY_OPEN, 0) → r.payload = [1#8] →
      ∃ t, exec i s = .next t ∧ t.pending = s.pending ∧ t.store = s.store ∧ coilsOff t = true ∧ t.sp.mode = .parked ∧
        t.prot.seq = .emergency ∧ t.prot.result = .complete ∧ t.link.offReq = true ∧
        ∃ pre, t.ses.batch = pre ++ [.request r (mkReply r stAccepted 0 [])])

/-- Work that the partner acknowledges is accepted (R253, R255, R260 to R262): a command acts, a value comes into force or enters the
change set, a commit is queued, and the reply leaves with the JSEQ of its entry. -/
def Obligations.AcknowledgedWorkIsAccepted : Prop :=
  ∀ (l : Lane) (f : List Byte) (j : Nat) (r : Req) (x : Session) (reply : Reply) (s : State) (ip : Word32) (port : Word16) (own : Bool), live s = true →
    mirrorEnds clsAck f s = true → collected clsAck f s = toBytes 8 j → j < 2 ^ 64 → s.pair.paired = true → s.pair.role = .active →
    s.ses.awaiting = [(j, .request r reply)] → reply.dest = .udp ip port own → reply.status = stAccepted → sessionOf r.h.ses s = some x →
    let heard := (putPart clsAck (fieldU f 4 2) [] (hearLane l s)).pair
    let s0 : State := { s with out := [], ses := { s.ses with awaiting := [] }, pair := { heard with ack := max s.pair.ack j } }
    let sent : Output := .reply { reply with jseq := j }
    (∀ e k v, r.op = 0x02 → reqEntry r = some (e, k) → decodeVal e r.payload = some v →
      (e.access = .wo → ∃ u, exec (.journalAck l f) s = .next u ∧ u.pending = s.pending ∧ u.store = s.store ∧
        Only [.pending, .store, .ses] (commandEffect true r.h.ses e k v j s0) u ∧
        u.out = (commandEffect true r.h.ses e k v j s0).out ++ [sent]) ∧
      ((e.access = .rw ∨ e.access = .rwi) → isEnt Ent.CELL_LEAD_R_LO e = false → isEnt Ent.CELL_LEAD_R_HI e = false → StoreInv s →
        ∃ u, exec (.journalAck l f) s = .next u ∧ u.pending = s.pending ∧ cfgVal e k u = v ∧ StoreInv u ∧ sent ∈ u.out ∧
          ∀ b, b ≠ entryAddr e k → storeGet b u.store = storeGet b s.store) ∧
      (e.access = .rwc → Ends (.journalAck l f) s [.ses, .pair, .est, .sys] fun u =>
        (wakesE e = false → u.est = s.est ∧ u.sys = s.sys) ∧
        u.out = [sent] ∧ ∃ y, sessionOf x.id u = some y ∧ y.staged = storeIns (reqAddr r) v x.staged ∧
          y.cache = ({ reply with jseq := j } :: x.cache).take 32)) ∧
    (r.op = 0x20 → r.payload = [0#8] → Ends (.journalAck l f) s [.ses, .pair] fun u =>
      u.out = [sent] ∧ u.ses.toApply = s.ses.toApply ++ [(j, x.staged)] ∧ ∃ y, sessionOf x.id u = some y ∧ y.staged = []) ∧
    (r.op = 0x20 → r.payload = [1#8] → Ends (.journalAck l f) s [.ses, .pair] fun u =>
      u.out = [sent] ∧ u.ses.idle = s.ses.idle ++ [{ jseq := j, set := x.staged }] ∧ ∃ y, sessionOf x.id u = some y ∧ y.staged = []) ∧
    (r.op = 0x21 → Ends (.journalAck l f) s [.ses, .pair] fun u =>
      u.out = [sent] ∧ ∃ y, sessionOf x.id u = some y ∧ y.staged = []) ∧
    (∀ c, r.op = 0x22 → fieldU r.payload 0 8 = c → Ends (.journalAck l f) s [.ses, .pair] fun u =>
      u.out = [sent] ∧ u.ses.idle = s.ses.idle.filter (·.jseq != c)) ∧
    (r.op = 0x31 → s.recd.holdSes ≠ x.id → Ends (.journalAck l f) s [.ses, .pair] fun u =>
      u.out = [sent] ∧ u.ses.open_ = s.ses.open_.filter (·.id != x.id))

/-- What each accepted command does (R26, R54, R97, R128, R160, R165, R197, R209, R302, R305, R319, R347, R348, R373, R375, R383, R384,
R386, R418). -/
def Obligations.AcceptedCommandsAct : Prop :=
  ∀ (ses j k n : Nat) (s : State),
    let after (e : Entry) : State := commandEffect true ses e k (.num n) j s
    (acts s = true → nodeCount s ≠ 0 → (s.chain.fencedA = false ∨ s.chain.fencedB = false) → isFenced .m s = false →
      Only [.chain, .chctl] s (after Ent.CHN_ENUMERATE) ∧ (after Ent.CHN_ENUMERATE).chain.state = .enumerating) ∧
    ((nodeAt n s).state = .unkeyed → 1 ≤ n → n ≤ 32 → (nodeAt n (after Ent.CHN_KEY_NODE)).key = s.chctl.packKey) ∧
    ((nodeAt n s).state ≠ .unkeyed → after Ent.CHN_KEY_NODE = s) ∧
    (∀ key, (commandEffect true ses Ent.CHN_PACK_KEY 0 (.bytes key) j s).chctl.packKey = key) ∧
    (Only [.dsp, .sys, .est] s (after Ent.EST_REST_REQ) ∧ (after Ent.EST_REST_REQ).dsp = { s.dsp with restReq := n }) ∧
    (Only [.flt] s (after Ent.CELL_ID_ACK) ∧ isActive 0x200E k (after Ent.CELL_ID_ACK) = false) ∧
    (Only [.flt, .sys, .est] s (after Ent.EST_ID_ACK_ALL) ∧ ∀ p, p < 256 → isActive 0x200E p (after Ent.EST_ID_ACK_ALL) = false) ∧
    (Only [.link, .flt] s (after Ent.CVT_PHASE_RESTORE) ∧ ∀ p, p < 12 →
      bitOf (after Ent.CVT_PHASE_RESTORE).link.faulted p = (bitOf s.link.faulted p && !bitOf n p) ∧
      (bitOf n p = true → isActive 0x4011 p (after Ent.CVT_PHASE_RESTORE) = false)) ∧
    (n = 0 → seqRuns s = false → Only [.prot, .flt, .sys] s (after Ent.SP_MODE_CMD) ∧ (after Ent.SP_MODE_CMD).prot.seq = .open_ ∧
      (after Ent.SP_MODE_CMD).prot.seqJ = j ∧ (after Ent.SP_MODE_CMD).prot.seqWait = true) ∧
    (n = 1 → seqRuns s = false → parked s = true → Only [.prot, .flt, .sys, .est, .can] s (after Ent.SP_MODE_CMD) ∧
      (after Ent.SP_MODE_CMD).prot.seq = .precharge ∧ (after Ent.SP_MODE_CMD).prot.seqJ = j ∧
      (after Ent.SP_MODE_CMD).prot.seqWait = true) ∧
    (2 ≤ n → Only [.sp, .sys] s (after Ent.SP_MODE_CMD) ∧
      (after Ent.SP_MODE_CMD).sp = { s.sp with accepted := .run (modeOf n) }) ∧
    (Only [.prot, .flt] s (after Ent.PROT_TRIP_RESET) ∧ (after Ent.PROT_TRIP_RESET).prot = { s.prot with tripped := false, cause := 0 } ∧
      ∀ c ∈ [0x5002, 0x5004, 0x5006, 0x5008, 0x500A, 0x5010, 0x5011, 0x5012], anyActive c (after Ent.PROT_TRIP_RESET) = false) ∧
    (Only [.dsp] s (after Ent.DSP_REST_GRANT) ∧ (after Ent.DSP_REST_GRANT).dsp = { s.dsp with
      restEnd := if n = 0 then none else some (s.frameAt + 1000000 + n * 60000000000) }) ∧
    (k < 2 → canState k s = 3 → Only [.can] s (after Ent.CAN_RECOVER) ∧
      chan k (after Ent.CAN_RECOVER) = { chan k s with mode := .recovering, recAt := s.now }) ∧
    (k < 2 → n = 0 → Only [.can] s (after Ent.CAN_SLEEP) ∧ (chan k (after Ent.CAN_SLEEP)).sleepReq = false ∧
      (chan k (after Ent.CAN_SLEEP)).mode ≠ .sleep) ∧
    (∀ p, k < 2 → let u := commandEffect true ses Ent.CAN_TX k (.bytes p) j s
      Only [.can] s u ∧ chan k u = { chan k s with toSend := (chan k s).toSend ++ [(fieldU p 0 1, txMsg p)] }) ∧
    (Only [.dio, .flt] s (after Ent.DIO_DQ_RETRY) ∧ ∀ q, q < 16 → bitOf n q = true → dqLead q s = q →
      isActive 0x6021 q (after Ent.DIO_DQ_RETRY) = false) ∧
    (needsAck s = false → Only [.sys] s (after Ent.SYS_RESET_CMD) ∧ (after Ent.SYS_RESET_CMD).sys.downDue = some (0, .command)) ∧
    (n = 3 → needsAck s = false → Only [.sys] s (after Ent.SYS_SELFTEST_REQ) ∧
      (after Ent.SYS_SELFTEST_REQ).sys.downDue = some (0, .selftest)) ∧
    (n = 2 → s.sys.calRun = false → Only [.sys] s (after Ent.SYS_SELFTEST_REQ) ∧
      (after Ent.SYS_SELFTEST_REQ).sys = { s.sys with calRun := true, calStep := 0, calBegan := some s.now, calStepAt := s.now }) ∧
    (Only [.pair] s (after Ent.PAIR_HANDOVER) ∧ (after Ent.PAIR_HANDOVER).pair.request = .handover ∧
      (after Ent.PAIR_HANDOVER).pair.handing = true) ∧
    (s.pair.paired = true → s.pair.role ≠ .active → (after Ent.PAIR_FORCE_ACTIVE).pair.role = .active ∧
      (after Ent.PAIR_FORCE_ACTIVE).pair.lease = .self ∧ (after Ent.PAIR_FORCE_ACTIVE).pair.fenceOut = true) ∧
    (s.fw.state = .deltaStored → Only [.fw] s (after Ent.FW_APPLY) ∧ (after Ent.FW_APPLY).fw.state = .applying ∧
      (after Ent.FW_APPLY).fw.block = 0 ∧ bankValid (inactiveBank s) (after Ent.FW_APPLY) = false) ∧
    (Only [.fw] s (after Ent.FW_ABORT) ∧ (s.fw.state = .applying → (after Ent.FW_ABORT).fw = { s.fw with abort := true }) ∧
      (s.fw.state = .verifying → (after Ent.FW_ABORT).fw = { s.fw with state := .idle }) ∧
      (s.fw.state = .probation → (after Ent.FW_ABORT).fw = { s.fw with backNext := some 0x7A08 })) ∧
    (s.fw.state = .verified → (n = 1 → Only [.fw, .sys] s (after Ent.FW_ACTIVATE) ∧ (after Ent.FW_ACTIVATE).fw.starting = true) ∧
      (n = 2 → after Ent.FW_ACTIVATE = s)) ∧
    (1 ≤ n → s.recd.state ≠ .held → Only [.recd] s (after Ent.REC_HOLD) ∧
      (after Ent.REC_HOLD).recd = { s.recd with holdWant := some (ses, n) })

/-! ### The frame, settled sets, faults that clear -/

/-- FRAME_TICK (R17, R337, R344, R347, R472): J writes every event of a frame at its step 9; a commanded reset comes at the boundary, with
its cause.
Sets queued for PARKED, and codes that clear by time (R262, R466): a set that still passes is applied with its outcome journaled, one
that does not is dropped whole; FAULT_CLEAR clears an active code once its clearing time has passed: 60 s, 10 sweeps, or the time of its
domain since its cause was last seen. -/
def Obligations.FrameTickRunsTheFrame : Prop :=
  (∀ (s : State) (alive : Bool), live s = true → s.ptp.stepDue = none →
     (s.sys.downDue = none → s.sup.latchIn = none → s.sup.frz = .idle → ∃ u, exec (.frameTick alive) s = .next u ∧
       u.pending = s.pending ∧ u.flt.events = []) ∧
     (∀ c, s.sys.downDue = some (0, c) → (c = .command ∨ c = .selftest) → s.fw.state ≠ .probation →
       ∃ u, exec (.frameTick alive) s = .next u ∧ u.pending = s.pending ∧ u.sys.phase = .off ∧ u.sys.cause = c ∧
         u.sys.resets = incSat32 s.sys.resets ∧ u.sys.resetAt = max s.now (s.frameAt + 1000000) ∧ u.store = keptStore s ∧
         u.flt.active = [])) ∧
  (∀ (s : State), live s = true →
     (∀ q, s.ses.replayed = true → acts s = true → isFenced .j s = false → isFenced .h s = false → parked s = true →
       seqRuns s = false → s.ses.idle = [q] →
       (∀ a, linkFault q.set s = some a → Ends .atIdleApply s [.ses] fun u =>
         u.ses.idle = [] ∧ u.ses.idleLast = stRange ∧ u.ses.idleEntry = a ∧
         u.ses.batch = s.ses.batch ++ [.own 0x04 (toBytes 8 q.jseq ++ toBytes 1 stRange ++ toBytes 4 a)]) ∧
       (∀ a v e k, linkFault q.set s = none → q.set = [(a, v)] → entryAt a = some (e, k) → isEnt Ent.CELL_LEAD_R_LO e = false →
         isEnt Ent.CELL_LEAD_R_HI e = false → StoreInv s → ∃ u, exec .atIdleApply s = .next u ∧ u.pending = s.pending ∧
           u.ses.idle = [] ∧ u.ses.idleLast = stDone ∧ cfgVal e k u = v ∧ StoreInv u)) ∧
     ((parked s = false ∨ seqRuns s = true) → Sends .atIdleApply s []) ∧
     (∀ code inst,
       let due := s.flt.active.any fun a => a.code == code && a.inst == inst && clearDue a s
       (timeCleared.contains code = true → due = true → (code = 0x580F → inst = wide) →
         Ends (.faultClear code inst) s [.flt, .saf] fun u =>
           isActive code inst u = false ∧ (code ≠ 0x580F → u.saf = s.saf) ∧
           u.flt.events = s.flt.events ++ [⟨code, inst, .cleared, s.now⟩] ∧
           ∀ c k, (c ≠ code ∨ k ≠ inst) → isActive c k u = isActive c k s) ∧
       ((timeCleared.contains code = false ∨ due = false) → Sends (.faultClear code inst) s [])) ∧
     (∀ a : ActiveFault,
       (after60s.contains a.code = true → clearDue a s = decide (a.since + 60000000000 ≤ s.now)) ∧
       (after60s.contains a.code = false → causePresent a.code a.inst s = true → clearDue a s = false) ∧
       (after60s.contains a.code = false → causePresent a.code a.inst s = false → sweepCleared.contains a.code = true →
         clearDue a s = true) ∧
       (after60s.contains a.code = false → sweepCleared.contains a.code = false → a.code ∉ [0x580F, 0x6010, 0x6011] →
         causePresent a.code a.inst s = false → clearDue a s = decide (a.seen + absentNs a.code ≤ s.now))))

/-! ### Reset and power -/

/-- The reset state, and a module without power (R246, R335, R344, R425): the configuration gives every entry its default
(where the manual gives none, the model's value: log 1), no session is open, no fault is
active and no output is on; whatever reaches a module that is not started changes nothing, but for the events of its power, its reset,
its die diode and its test access port. Registers whose reset value the manual does not give are not named here. -/
def Obligations.ResetValuesAndNoPower : Prop :=
  (∀ e k, e ∈ Ent.all → cfgVal e k State.reset = e.dflt) ∧
  State.reset.pending = [] ∧ live State.reset = false ∧ State.reset.sys.tier = .guard_ ∧ State.reset.ses.open_ = [] ∧
  State.reset.ses.journal = [] ∧ State.reset.flt.active = [] ∧ State.reset.flt.log = [] ∧ State.reset.sp.mode = .parked ∧
  State.reset.prot.tripped = false ∧ coilsOff State.reset = true ∧ allOpen State.reset ∧ (∀ k, dqOn k State.reset = false) ∧
  State.reset.cells.map = .unmapped ∧ State.reset.fw.state = .idle ∧ State.reset.pair.fenceOut = false ∧
  ∀ (i : Instr) (s : State), live s = false → (∀ c, i ≠ .powerGood c) → (∀ w, i ≠ .shutdownStart w) → (∀ c, i ≠ .moduleReset c) →
    (∀ d t, i ≠ .dieTempRead d t) → i ≠ .idcode → (∀ n, i ≠ .scanSel n) → (∀ n, i ≠ .scanData n) → i ≠ .tapReset → i ≠ .bypass →
    Sends i s []

/-! ### The code of a memory block -/

/-- Every single error of a stored block is corrected, and every double error is seen as uncorrectable (R397 to R399); three errors may be
taken for one, and four may pass unseen. -/
def Obligations.MemoryCodeCorrectsSingleErrors : Prop :=
  let flipped (n : Nat) (b : List Byte) : List Byte := b.set (n / 8) (b.getD (n / 8) 0 ^^^ (1#8 <<< (n % 8)))
  (∀ d : List Byte, d.length = 8 →
    (encodeBlock d).length = 10 ∧ (encodeBlock d).take 8 = d ∧ decodeBlock (encodeBlock d) = (.none, encodeBlock d) ∧
    (∀ n, n < 64 → decodeBlock (flipped n (encodeBlock d)) = (.data, encodeBlock d)) ∧
    (∀ n, 64 ≤ n → n < 80 → decodeBlock (flipped n (encodeBlock d)) = (.check, encodeBlock d)) ∧
    (∀ m n, m < n → n < 80 → (decodeBlock (flipped m (flipped n (encodeBlock d)))).1 = .uncorrectable)) ∧
  (∃ d a b c, d.length = 8 ∧ a < b ∧ b < c ∧ c < 80 ∧ (decodeBlock (flipped a (flipped b (flipped c (encodeBlock d))))).1 = .data) ∧
  (∃ d a b c e, d.length = 8 ∧ a < b ∧ b < c ∧ c < e ∧ e < 80 ∧
    (decodeBlock (flipped a (flipped b (flipped c (flipped e (encodeBlock d)))))).1 = .none)
end

