-- ==== Sys2Proof/Laws/State.lean ====
section
/-! SUPPORT. One lemma per field for each operation that updates the state: what the operation leaves, and what it writes. -/
namespace Sys2Proof.Laws
open Sys2Proof Sys2Proof.Machine

/-! ### The start of a command -/

@[simp] theorem begin_pending (s : State) : (s.begin).pending = s.pending := rfl
@[simp] theorem begin_now (s : State) : (s.begin).now = s.now := rfl
@[simp] theorem begin_frameAt (s : State) : (s.begin).frameAt = s.frameAt := rfl
@[simp] theorem begin_locked (s : State) : (s.begin).locked = s.locked := rfl
@[simp] theorem begin_freeNo (s : State) : (s.begin).freeNo = s.freeNo := rfl
@[simp] theorem begin_store (s : State) : (s.begin).store = s.store := rfl
@[simp] theorem begin_out (s : State) : (s.begin).out = [] := rfl
@[simp] theorem begin_sys (s : State) : (s.begin).sys = s.sys := rfl
@[simp] theorem begin_ses (s : State) : (s.begin).ses = s.ses := rfl
@[simp] theorem begin_flt (s : State) : (s.begin).flt = s.flt := rfl
@[simp] theorem begin_chain (s : State) : (s.begin).chain = s.chain := rfl
@[simp] theorem begin_chctl (s : State) : (s.begin).chctl = s.chctl := rfl
@[simp] theorem begin_cells (s : State) : (s.begin).cells = s.cells := rfl
@[simp] theorem begin_est (s : State) : (s.begin).est = s.est := rfl
@[simp] theorem begin_ident (s : State) : (s.begin).ident = s.ident := rfl
@[simp] theorem begin_link (s : State) : (s.begin).link = s.link := rfl
@[simp] theorem begin_tb (s : State) : (s.begin).tb = s.tb := rfl
@[simp] theorem begin_sp (s : State) : (s.begin).sp = s.sp := rfl
@[simp] theorem begin_prot (s : State) : (s.begin).prot = s.prot := rfl
@[simp] theorem begin_dsp (s : State) : (s.begin).dsp = s.dsp := rfl
@[simp] theorem begin_saf (s : State) : (s.begin).saf = s.saf := rfl
@[simp] theorem begin_dio (s : State) : (s.begin).dio = s.dio := rfl
@[simp] theorem begin_net (s : State) : (s.begin).net = s.net := rfl
@[simp] theorem begin_ptp (s : State) : (s.begin).ptp = s.ptp := rfl
@[simp] theorem begin_can (s : State) : (s.begin).can = s.can := rfl
@[simp] theorem begin_sup (s : State) : (s.begin).sup = s.sup := rfl
@[simp] theorem begin_pair (s : State) : (s.begin).pair = s.pair := rfl
@[simp] theorem begin_mem (s : State) : (s.begin).mem = s.mem := rfl
@[simp] theorem begin_fw (s : State) : (s.begin).fw = s.fw := rfl
@[simp] theorem begin_recd (s : State) : (s.begin).recd = s.recd := rfl

/-! ### The queue -/

@[simp] theorem keepQueue_pending (s t : State) : (s.keepQueue t).pending = s.pending := rfl
@[simp] theorem keepQueue_now (s t : State) : (s.keepQueue t).now = t.now := rfl
@[simp] theorem keepQueue_frameAt (s t : State) : (s.keepQueue t).frameAt = t.frameAt := rfl
@[simp] theorem keepQueue_locked (s t : State) : (s.keepQueue t).locked = t.locked := rfl
@[simp] theorem keepQueue_freeNo (s t : State) : (s.keepQueue t).freeNo = t.freeNo := rfl
@[simp] theorem keepQueue_store (s t : State) : (s.keepQueue t).store = t.store := rfl
@[simp] theorem keepQueue_out (s t : State) : (s.keepQueue t).out = t.out := rfl
@[simp] theorem keepQueue_sys (s t : State) : (s.keepQueue t).sys = t.sys := rfl
@[simp] theorem keepQueue_ses (s t : State) : (s.keepQueue t).ses = t.ses := rfl
@[simp] theorem keepQueue_flt (s t : State) : (s.keepQueue t).flt = t.flt := rfl
@[simp] theorem keepQueue_chain (s t : State) : (s.keepQueue t).chain = t.chain := rfl
@[simp] theorem keepQueue_chctl (s t : State) : (s.keepQueue t).chctl = t.chctl := rfl
@[simp] theorem keepQueue_cells (s t : State) : (s.keepQueue t).cells = t.cells := rfl
@[simp] theorem keepQueue_est (s t : State) : (s.keepQueue t).est = t.est := rfl
@[simp] theorem keepQueue_ident (s t : State) : (s.keepQueue t).ident = t.ident := rfl
@[simp] theorem keepQueue_link (s t : State) : (s.keepQueue t).link = t.link := rfl
@[simp] theorem keepQueue_tb (s t : State) : (s.keepQueue t).tb = t.tb := rfl
@[simp] theorem keepQueue_sp (s t : State) : (s.keepQueue t).sp = t.sp := rfl
@[simp] theorem keepQueue_prot (s t : State) : (s.keepQueue t).prot = t.prot := rfl
@[simp] theorem keepQueue_dsp (s t : State) : (s.keepQueue t).dsp = t.dsp := rfl
@[simp] theorem keepQueue_saf (s t : State) : (s.keepQueue t).saf = t.saf := rfl
@[simp] theorem keepQueue_dio (s t : State) : (s.keepQueue t).dio = t.dio := rfl
@[simp] theorem keepQueue_net (s t : State) : (s.keepQueue t).net = t.net := rfl
@[simp] theorem keepQueue_ptp (s t : State) : (s.keepQueue t).ptp = t.ptp := rfl
@[simp] theorem keepQueue_can (s t : State) : (s.keepQueue t).can = t.can := rfl
@[simp] theorem keepQueue_sup (s t : State) : (s.keepQueue t).sup = t.sup := rfl
@[simp] theorem keepQueue_pair (s t : State) : (s.keepQueue t).pair = t.pair := rfl
@[simp] theorem keepQueue_mem (s t : State) : (s.keepQueue t).mem = t.mem := rfl
@[simp] theorem keepQueue_fw (s t : State) : (s.keepQueue t).fw = t.fw := rfl
@[simp] theorem keepQueue_recd (s t : State) : (s.keepQueue t).recd = t.recd := rfl

/-! ### An effect that leaves the configuration -/

@[simp] theorem keep_pending (f : State → State) (s : State) : (keep f s).pending = (f s).pending := rfl
@[simp] theorem keep_now (f : State → State) (s : State) : (keep f s).now = (f s).now := rfl
@[simp] theorem keep_frameAt (f : State → State) (s : State) : (keep f s).frameAt = (f s).frameAt := rfl
@[simp] theorem keep_locked (f : State → State) (s : State) : (keep f s).locked = (f s).locked := rfl
@[simp] theorem keep_freeNo (f : State → State) (s : State) : (keep f s).freeNo = (f s).freeNo := rfl
@[simp] theorem keep_store (f : State → State) (s : State) : (keep f s).store = s.store := rfl
@[simp] theorem keep_out (f : State → State) (s : State) : (keep f s).out = (f s).out := rfl
@[simp] theorem keep_sys (f : State → State) (s : State) : (keep f s).sys = (f s).sys := rfl
@[simp] theorem keep_ses (f : State → State) (s : State) : (keep f s).ses = (f s).ses := rfl
@[simp] theorem keep_flt (f : State → State) (s : State) : (keep f s).flt = (f s).flt := rfl
@[simp] theorem keep_chain (f : State → State) (s : State) : (keep f s).chain = (f s).chain := rfl
@[simp] theorem keep_chctl (f : State → State) (s : State) : (keep f s).chctl = (f s).chctl := rfl
@[simp] theorem keep_cells (f : State → State) (s : State) : (keep f s).cells = (f s).cells := rfl
@[simp] theorem keep_est (f : State → State) (s : State) : (keep f s).est = (f s).est := rfl
@[simp] theorem keep_ident (f : State → State) (s : State) : (keep f s).ident = (f s).ident := rfl
@[simp] theorem keep_link (f : State → State) (s : State) : (keep f s).link = (f s).link := rfl
@[simp] theorem keep_tb (f : State → State) (s : State) : (keep f s).tb = (f s).tb := rfl
@[simp] theorem keep_sp (f : State → State) (s : State) : (keep f s).sp = (f s).sp := rfl
@[simp] theorem keep_prot (f : State → State) (s : State) : (keep f s).prot = (f s).prot := rfl
@[simp] theorem keep_dsp (f : State → State) (s : State) : (keep f s).dsp = (f s).dsp := rfl
@[simp] theorem keep_saf (f : State → State) (s : State) : (keep f s).saf = (f s).saf := rfl
@[simp] theorem keep_dio (f : State → State) (s : State) : (keep f s).dio = (f s).dio := rfl
@[simp] theorem keep_net (f : State → State) (s : State) : (keep f s).net = (f s).net := rfl
@[simp] theorem keep_ptp (f : State → State) (s : State) : (keep f s).ptp = (f s).ptp := rfl
@[simp] theorem keep_can (f : State → State) (s : State) : (keep f s).can = (f s).can := rfl
@[simp] theorem keep_sup (f : State → State) (s : State) : (keep f s).sup = (f s).sup := rfl
@[simp] theorem keep_pair (f : State → State) (s : State) : (keep f s).pair = (f s).pair := rfl
@[simp] theorem keep_mem (f : State → State) (s : State) : (keep f s).mem = (f s).mem := rfl
@[simp] theorem keep_fw (f : State → State) (s : State) : (keep f s).fw = (f s).fw := rfl
@[simp] theorem keep_recd (f : State → State) (s : State) : (keep f s).recd = (f s).recd := rfl

/-! ### A value in force -/

@[simp] theorem setCfg_pending (e : Entry) (k : Nat) (v : Val) (s : State) : (setCfg e k v s).pending = s.pending := rfl
@[simp] theorem setCfg_now (e : Entry) (k : Nat) (v : Val) (s : State) : (setCfg e k v s).now = s.now := rfl
@[simp] theorem setCfg_frameAt (e : Entry) (k : Nat) (v : Val) (s : State) : (setCfg e k v s).frameAt = s.frameAt := rfl
@[simp] theorem setCfg_locked (e : Entry) (k : Nat) (v : Val) (s : State) : (setCfg e k v s).locked = s.locked := rfl
@[simp] theorem setCfg_freeNo (e : Entry) (k : Nat) (v : Val) (s : State) : (setCfg e k v s).freeNo = s.freeNo := rfl
@[simp] theorem setCfg_store (e : Entry) (k : Nat) (v : Val) (s : State) : (setCfg e k v s).store = storePut (entryAddr e k) e.dflt v s.store := rfl
@[simp] theorem setCfg_out (e : Entry) (k : Nat) (v : Val) (s : State) : (setCfg e k v s).out = s.out := rfl
@[simp] theorem setCfg_sys (e : Entry) (k : Nat) (v : Val) (s : State) : (setCfg e k v s).sys = s.sys := rfl
@[simp] theorem setCfg_ses (e : Entry) (k : Nat) (v : Val) (s : State) : (setCfg e k v s).ses = s.ses := rfl
@[simp] theorem setCfg_flt (e : Entry) (k : Nat) (v : Val) (s : State) : (setCfg e k v s).flt = s.flt := rfl
@[simp] theorem setCfg_chain (e : Entry) (k : Nat) (v : Val) (s : State) : (setCfg e k v s).chain = s.chain := rfl
@[simp] theorem setCfg_chctl (e : Entry) (k : Nat) (v : Val) (s : State) : (setCfg e k v s).chctl = s.chctl := rfl
@[simp] theorem setCfg_cells (e : Entry) (k : Nat) (v : Val) (s : State) : (setCfg e k v s).cells = s.cells := rfl
@[simp] theorem setCfg_est (e : Entry) (k : Nat) (v : Val) (s : State) : (setCfg e k v s).est = s.est := rfl
@[simp] theorem setCfg_ident (e : Entry) (k : Nat) (v : Val) (s : State) : (setCfg e k v s).ident = s.ident := rfl
@[simp] theorem setCfg_link (e : Entry) (k : Nat) (v : Val) (s : State) : (setCfg e k v s).link = s.link := rfl
@[simp] theorem setCfg_tb (e : Entry) (k : Nat) (v : Val) (s : State) : (setCfg e k v s).tb = s.tb := rfl
@[simp] theorem setCfg_sp (e : Entry) (k : Nat) (v : Val) (s : State) : (setCfg e k v s).sp = s.sp := rfl
@[simp] theorem setCfg_prot (e : Entry) (k : Nat) (v : Val) (s : State) : (setCfg e k v s).prot = s.prot := rfl
@[simp] theorem setCfg_dsp (e : Entry) (k : Nat) (v : Val) (s : State) : (setCfg e k v s).dsp = s.dsp := rfl
@[simp] theorem setCfg_saf (e : Entry) (k : Nat) (v : Val) (s : State) : (setCfg e k v s).saf = s.saf := rfl
@[simp] theorem setCfg_dio (e : Entry) (k : Nat) (v : Val) (s : State) : (setCfg e k v s).dio = s.dio := rfl
@[simp] theorem setCfg_net (e : Entry) (k : Nat) (v : Val) (s : State) : (setCfg e k v s).net = s.net := rfl
@[simp] theorem setCfg_ptp (e : Entry) (k : Nat) (v : Val) (s : State) : (setCfg e k v s).ptp = s.ptp := rfl
@[simp] theorem setCfg_can (e : Entry) (k : Nat) (v : Val) (s : State) : (setCfg e k v s).can = s.can := rfl
@[simp] theorem setCfg_sup (e : Entry) (k : Nat) (v : Val) (s : State) : (setCfg e k v s).sup = s.sup := rfl
@[simp] theorem setCfg_pair (e : Entry) (k : Nat) (v : Val) (s : State) : (setCfg e k v s).pair = s.pair := rfl
@[simp] theorem setCfg_mem (e : Entry) (k : Nat) (v : Val) (s : State) : (setCfg e k v s).mem = s.mem := rfl
@[simp] theorem setCfg_fw (e : Entry) (k : Nat) (v : Val) (s : State) : (setCfg e k v s).fw = s.fw := rfl
@[simp] theorem setCfg_recd (e : Entry) (k : Nat) (v : Val) (s : State) : (setCfg e k v s).recd = s.recd := rfl

/-! ### A number in force -/

@[simp] theorem setCfgI_pending (e : Entry) (k : Nat) (v : Int) (s : State) : (setCfgI e k v s).pending = s.pending := rfl
@[simp] theorem setCfgI_now (e : Entry) (k : Nat) (v : Int) (s : State) : (setCfgI e k v s).now = s.now := rfl
@[simp] theorem setCfgI_frameAt (e : Entry) (k : Nat) (v : Int) (s : State) : (setCfgI e k v s).frameAt = s.frameAt := rfl
@[simp] theorem setCfgI_locked (e : Entry) (k : Nat) (v : Int) (s : State) : (setCfgI e k v s).locked = s.locked := rfl
@[simp] theorem setCfgI_freeNo (e : Entry) (k : Nat) (v : Int) (s : State) : (setCfgI e k v s).freeNo = s.freeNo := rfl
@[simp] theorem setCfgI_store (e : Entry) (k : Nat) (v : Int) (s : State) : (setCfgI e k v s).store = storePut (entryAddr e k) e.dflt (.num v) s.store := rfl
@[simp] theorem setCfgI_out (e : Entry) (k : Nat) (v : Int) (s : State) : (setCfgI e k v s).out = s.out := rfl
@[simp] theorem setCfgI_sys (e : Entry) (k : Nat) (v : Int) (s : State) : (setCfgI e k v s).sys = s.sys := rfl
@[simp] theorem setCfgI_ses (e : Entry) (k : Nat) (v : Int) (s : State) : (setCfgI e k v s).ses = s.ses := rfl
@[simp] theorem setCfgI_flt (e : Entry) (k : Nat) (v : Int) (s : State) : (setCfgI e k v s).flt = s.flt := rfl
@[simp] theorem setCfgI_chain (e : Entry) (k : Nat) (v : Int) (s : State) : (setCfgI e k v s).chain = s.chain := rfl
@[simp] theorem setCfgI_chctl (e : Entry) (k : Nat) (v : Int) (s : State) : (setCfgI e k v s).chctl = s.chctl := rfl
@[simp] theorem setCfgI_cells (e : Entry) (k : Nat) (v : Int) (s : State) : (setCfgI e k v s).cells = s.cells := rfl
@[simp] theorem setCfgI_est (e : Entry) (k : Nat) (v : Int) (s : State) : (setCfgI e k v s).est = s.est := rfl
@[simp] theorem setCfgI_ident (e : Entry) (k : Nat) (v : Int) (s : State) : (setCfgI e k v s).ident = s.ident := rfl
@[simp] theorem setCfgI_link (e : Entry) (k : Nat) (v : Int) (s : State) : (setCfgI e k v s).link = s.link := rfl
@[simp] theorem setCfgI_tb (e : Entry) (k : Nat) (v : Int) (s : State) : (setCfgI e k v s).tb = s.tb := rfl
@[simp] theorem setCfgI_sp (e : Entry) (k : Nat) (v : Int) (s : State) : (setCfgI e k v s).sp = s.sp := rfl
@[simp] theorem setCfgI_prot (e : Entry) (k : Nat) (v : Int) (s : State) : (setCfgI e k v s).prot = s.prot := rfl
@[simp] theorem setCfgI_dsp (e : Entry) (k : Nat) (v : Int) (s : State) : (setCfgI e k v s).dsp = s.dsp := rfl
@[simp] theorem setCfgI_saf (e : Entry) (k : Nat) (v : Int) (s : State) : (setCfgI e k v s).saf = s.saf := rfl
@[simp] theorem setCfgI_dio (e : Entry) (k : Nat) (v : Int) (s : State) : (setCfgI e k v s).dio = s.dio := rfl
@[simp] theorem setCfgI_net (e : Entry) (k : Nat) (v : Int) (s : State) : (setCfgI e k v s).net = s.net := rfl
@[simp] theorem setCfgI_ptp (e : Entry) (k : Nat) (v : Int) (s : State) : (setCfgI e k v s).ptp = s.ptp := rfl
@[simp] theorem setCfgI_can (e : Entry) (k : Nat) (v : Int) (s : State) : (setCfgI e k v s).can = s.can := rfl
@[simp] theorem setCfgI_sup (e : Entry) (k : Nat) (v : Int) (s : State) : (setCfgI e k v s).sup = s.sup := rfl
@[simp] theorem setCfgI_pair (e : Entry) (k : Nat) (v : Int) (s : State) : (setCfgI e k v s).pair = s.pair := rfl
@[simp] theorem setCfgI_mem (e : Entry) (k : Nat) (v : Int) (s : State) : (setCfgI e k v s).mem = s.mem := rfl
@[simp] theorem setCfgI_fw (e : Entry) (k : Nat) (v : Int) (s : State) : (setCfgI e k v s).fw = s.fw := rfl
@[simp] theorem setCfgI_recd (e : Entry) (k : Nat) (v : Int) (s : State) : (setCfgI e k v s).recd = s.recd := rfl

/-! ### Something sent -/

@[simp] theorem emit_pending (o : Output) (s : State) : (emit o s).pending = s.pending := rfl
@[simp] theorem emit_now (o : Output) (s : State) : (emit o s).now = s.now := rfl
@[simp] theorem emit_frameAt (o : Output) (s : State) : (emit o s).frameAt = s.frameAt := rfl
@[simp] theorem emit_locked (o : Output) (s : State) : (emit o s).locked = s.locked := rfl
@[simp] theorem emit_freeNo (o : Output) (s : State) : (emit o s).freeNo = s.freeNo := rfl
@[simp] theorem emit_store (o : Output) (s : State) : (emit o s).store = s.store := rfl
@[simp] theorem emit_out (o : Output) (s : State) : (emit o s).out = s.out ++ [o] := rfl
@[simp] theorem emit_sys (o : Output) (s : State) : (emit o s).sys = s.sys := rfl
@[simp] theorem emit_ses (o : Output) (s : State) : (emit o s).ses = s.ses := rfl
@[simp] theorem emit_flt (o : Output) (s : State) : (emit o s).flt = s.flt := rfl
@[simp] theorem emit_chain (o : Output) (s : State) : (emit o s).chain = s.chain := rfl
@[simp] theorem emit_chctl (o : Output) (s : State) : (emit o s).chctl = s.chctl := rfl
@[simp] theorem emit_cells (o : Output) (s : State) : (emit o s).cells = s.cells := rfl
@[simp] theorem emit_est (o : Output) (s : State) : (emit o s).est = s.est := rfl
@[simp] theorem emit_ident (o : Output) (s : State) : (emit o s).ident = s.ident := rfl
@[simp] theorem emit_link (o : Output) (s : State) : (emit o s).link = s.link := rfl
@[simp] theorem emit_tb (o : Output) (s : State) : (emit o s).tb = s.tb := rfl
@[simp] theorem emit_sp (o : Output) (s : State) : (emit o s).sp = s.sp := rfl
@[simp] theorem emit_prot (o : Output) (s : State) : (emit o s).prot = s.prot := rfl
@[simp] theorem emit_dsp (o : Output) (s : State) : (emit o s).dsp = s.dsp := rfl
@[simp] theorem emit_saf (o : Output) (s : State) : (emit o s).saf = s.saf := rfl
@[simp] theorem emit_dio (o : Output) (s : State) : (emit o s).dio = s.dio := rfl
@[simp] theorem emit_net (o : Output) (s : State) : (emit o s).net = s.net := rfl
@[simp] theorem emit_ptp (o : Output) (s : State) : (emit o s).ptp = s.ptp := rfl
@[simp] theorem emit_can (o : Output) (s : State) : (emit o s).can = s.can := rfl
@[simp] theorem emit_sup (o : Output) (s : State) : (emit o s).sup = s.sup := rfl
@[simp] theorem emit_pair (o : Output) (s : State) : (emit o s).pair = s.pair := rfl
@[simp] theorem emit_mem (o : Output) (s : State) : (emit o s).mem = s.mem := rfl
@[simp] theorem emit_fw (o : Output) (s : State) : (emit o s).fw = s.fw := rfl
@[simp] theorem emit_recd (o : Output) (s : State) : (emit o s).recd = s.recd := rfl

/-! ### The time -/

@[simp] theorem atTime_pending (t : Nat) (s : State) : (atTime t s).pending = s.pending := rfl
@[simp] theorem atTime_now (t : Nat) (s : State) : (atTime t s).now = max s.now t := rfl
@[simp] theorem atTime_frameAt (t : Nat) (s : State) : (atTime t s).frameAt = s.frameAt := rfl
@[simp] theorem atTime_locked (t : Nat) (s : State) : (atTime t s).locked = s.locked := rfl
@[simp] theorem atTime_freeNo (t : Nat) (s : State) : (atTime t s).freeNo = s.freeNo := rfl
@[simp] theorem atTime_store (t : Nat) (s : State) : (atTime t s).store = s.store := rfl
@[simp] theorem atTime_out (t : Nat) (s : State) : (atTime t s).out = s.out := rfl
@[simp] theorem atTime_sys (t : Nat) (s : State) : (atTime t s).sys = s.sys := rfl
@[simp] theorem atTime_ses (t : Nat) (s : State) : (atTime t s).ses = s.ses := rfl
@[simp] theorem atTime_flt (t : Nat) (s : State) : (atTime t s).flt = s.flt := rfl
@[simp] theorem atTime_chain (t : Nat) (s : State) : (atTime t s).chain = s.chain := rfl
@[simp] theorem atTime_chctl (t : Nat) (s : State) : (atTime t s).chctl = s.chctl := rfl
@[simp] theorem atTime_cells (t : Nat) (s : State) : (atTime t s).cells = s.cells := rfl
@[simp] theorem atTime_est (t : Nat) (s : State) : (atTime t s).est = s.est := rfl
@[simp] theorem atTime_ident (t : Nat) (s : State) : (atTime t s).ident = s.ident := rfl
@[simp] theorem atTime_link (t : Nat) (s : State) : (atTime t s).link = s.link := rfl
@[simp] theorem atTime_tb (t : Nat) (s : State) : (atTime t s).tb = s.tb := rfl
@[simp] theorem atTime_sp (t : Nat) (s : State) : (atTime t s).sp = s.sp := rfl
@[simp] theorem atTime_prot (t : Nat) (s : State) : (atTime t s).prot = s.prot := rfl
@[simp] theorem atTime_dsp (t : Nat) (s : State) : (atTime t s).dsp = s.dsp := rfl
@[simp] theorem atTime_saf (t : Nat) (s : State) : (atTime t s).saf = s.saf := rfl
@[simp] theorem atTime_dio (t : Nat) (s : State) : (atTime t s).dio = s.dio := rfl
@[simp] theorem atTime_net (t : Nat) (s : State) : (atTime t s).net = s.net := rfl
@[simp] theorem atTime_ptp (t : Nat) (s : State) : (atTime t s).ptp = s.ptp := rfl
@[simp] theorem atTime_can (t : Nat) (s : State) : (atTime t s).can = s.can := rfl
@[simp] theorem atTime_sup (t : Nat) (s : State) : (atTime t s).sup = s.sup := rfl
@[simp] theorem atTime_pair (t : Nat) (s : State) : (atTime t s).pair = s.pair := rfl
@[simp] theorem atTime_mem (t : Nat) (s : State) : (atTime t s).mem = s.mem := rfl
@[simp] theorem atTime_fw (t : Nat) (s : State) : (atTime t s).fw = s.fw := rfl
@[simp] theorem atTime_recd (t : Nat) (s : State) : (atTime t s).recd = s.recd := rfl

/-! ### Registers of one part: sys -/

@[simp] theorem modSys_pending (f : SysRegs → SysRegs) (s : State) : (modSys f s).pending = s.pending := rfl
@[simp] theorem modSys_now (f : SysRegs → SysRegs) (s : State) : (modSys f s).now = s.now := rfl
@[simp] theorem modSys_frameAt (f : SysRegs → SysRegs) (s : State) : (modSys f s).frameAt = s.frameAt := rfl
@[simp] theorem modSys_locked (f : SysRegs → SysRegs) (s : State) : (modSys f s).locked = s.locked := rfl
@[simp] theorem modSys_freeNo (f : SysRegs → SysRegs) (s : State) : (modSys f s).freeNo = s.freeNo := rfl
@[simp] theorem modSys_store (f : SysRegs → SysRegs) (s : State) : (modSys f s).store = s.store := rfl
@[simp] theorem modSys_out (f : SysRegs → SysRegs) (s : State) : (modSys f s).out = s.out := rfl
@[simp] theorem modSys_sys (f : SysRegs → SysRegs) (s : State) : (modSys f s).sys = f s.sys := rfl
@[simp] theorem modSys_ses (f : SysRegs → SysRegs) (s : State) : (modSys f s).ses = s.ses := rfl
@[simp] theorem modSys_flt (f : SysRegs → SysRegs) (s : State) : (modSys f s).flt = s.flt := rfl
@[simp] theorem modSys_chain (f : SysRegs → SysRegs) (s : State) : (modSys f s).chain = s.chain := rfl
@[simp] theorem modSys_chctl (f : SysRegs → SysRegs) (s : State) : (modSys f s).chctl = s.chctl := rfl
@[simp] theorem modSys_cells (f : SysRegs → SysRegs) (s : State) : (modSys f s).cells = s.cells := rfl
@[simp] theorem modSys_est (f : SysRegs → SysRegs) (s : State) : (modSys f s).est = s.est := rfl
@[simp] theorem modSys_ident (f : SysRegs → SysRegs) (s : State) : (modSys f s).ident = s.ident := rfl
@[simp] theorem modSys_link (f : SysRegs → SysRegs) (s : State) : (modSys f s).link = s.link := rfl
@[simp] theorem modSys_tb (f : SysRegs → SysRegs) (s : State) : (modSys f s).tb = s.tb := rfl
@[simp] theorem modSys_sp (f : SysRegs → SysRegs) (s : State) : (modSys f s).sp = s.sp := rfl
@[simp] theorem modSys_prot (f : SysRegs → SysRegs) (s : State) : (modSys f s).prot = s.prot := rfl
@[simp] theorem modSys_dsp (f : SysRegs → SysRegs) (s : State) : (modSys f s).dsp = s.dsp := rfl
@[simp] theorem modSys_saf (f : SysRegs → SysRegs) (s : State) : (modSys f s).saf = s.saf := rfl
@[simp] theorem modSys_dio (f : SysRegs → SysRegs) (s : State) : (modSys f s).dio = s.dio := rfl
@[simp] theorem modSys_net (f : SysRegs → SysRegs) (s : State) : (modSys f s).net = s.net := rfl
@[simp] theorem modSys_ptp (f : SysRegs → SysRegs) (s : State) : (modSys f s).ptp = s.ptp := rfl
@[simp] theorem modSys_can (f : SysRegs → SysRegs) (s : State) : (modSys f s).can = s.can := rfl
@[simp] theorem modSys_sup (f : SysRegs → SysRegs) (s : State) : (modSys f s).sup = s.sup := rfl
@[simp] theorem modSys_pair (f : SysRegs → SysRegs) (s : State) : (modSys f s).pair = s.pair := rfl
@[simp] theorem modSys_mem (f : SysRegs → SysRegs) (s : State) : (modSys f s).mem = s.mem := rfl
@[simp] theorem modSys_fw (f : SysRegs → SysRegs) (s : State) : (modSys f s).fw = s.fw := rfl
@[simp] theorem modSys_recd (f : SysRegs → SysRegs) (s : State) : (modSys f s).recd = s.recd := rfl

/-! ### Registers of one part: ses -/

@[simp] theorem modSes_pending (f : SessionRegs → SessionRegs) (s : State) : (modSes f s).pending = s.pending := rfl
@[simp] theorem modSes_now (f : SessionRegs → SessionRegs) (s : State) : (modSes f s).now = s.now := rfl
@[simp] theorem modSes_frameAt (f : SessionRegs → SessionRegs) (s : State) : (modSes f s).frameAt = s.frameAt := rfl
@[simp] theorem modSes_locked (f : SessionRegs → SessionRegs) (s : State) : (modSes f s).locked = s.locked := rfl
@[simp] theorem modSes_freeNo (f : SessionRegs → SessionRegs) (s : State) : (modSes f s).freeNo = s.freeNo := rfl
@[simp] theorem modSes_store (f : SessionRegs → SessionRegs) (s : State) : (modSes f s).store = s.store := rfl
@[simp] theorem modSes_out (f : SessionRegs → SessionRegs) (s : State) : (modSes f s).out = s.out := rfl
@[simp] theorem modSes_sys (f : SessionRegs → SessionRegs) (s : State) : (modSes f s).sys = s.sys := rfl
@[simp] theorem modSes_ses (f : SessionRegs → SessionRegs) (s : State) : (modSes f s).ses = f s.ses := rfl
@[simp] theorem modSes_flt (f : SessionRegs → SessionRegs) (s : State) : (modSes f s).flt = s.flt := rfl
@[simp] theorem modSes_chain (f : SessionRegs → SessionRegs) (s : State) : (modSes f s).chain = s.chain := rfl
@[simp] theorem modSes_chctl (f : SessionRegs → SessionRegs) (s : State) : (modSes f s).chctl = s.chctl := rfl
@[simp] theorem modSes_cells (f : SessionRegs → SessionRegs) (s : State) : (modSes f s).cells = s.cells := rfl
@[simp] theorem modSes_est (f : SessionRegs → SessionRegs) (s : State) : (modSes f s).est = s.est := rfl
@[simp] theorem modSes_ident (f : SessionRegs → SessionRegs) (s : State) : (modSes f s).ident = s.ident := rfl
@[simp] theorem modSes_link (f : SessionRegs → SessionRegs) (s : State) : (modSes f s).link = s.link := rfl
@[simp] theorem modSes_tb (f : SessionRegs → SessionRegs) (s : State) : (modSes f s).tb = s.tb := rfl
@[simp] theorem modSes_sp (f : SessionRegs → SessionRegs) (s : State) : (modSes f s).sp = s.sp := rfl
@[simp] theorem modSes_prot (f : SessionRegs → SessionRegs) (s : State) : (modSes f s).prot = s.prot := rfl
@[simp] theorem modSes_dsp (f : SessionRegs → SessionRegs) (s : State) : (modSes f s).dsp = s.dsp := rfl
@[simp] theorem modSes_saf (f : SessionRegs → SessionRegs) (s : State) : (modSes f s).saf = s.saf := rfl
@[simp] theorem modSes_dio (f : SessionRegs → SessionRegs) (s : State) : (modSes f s).dio = s.dio := rfl
@[simp] theorem modSes_net (f : SessionRegs → SessionRegs) (s : State) : (modSes f s).net = s.net := rfl
@[simp] theorem modSes_ptp (f : SessionRegs → SessionRegs) (s : State) : (modSes f s).ptp = s.ptp := rfl
@[simp] theorem modSes_can (f : SessionRegs → SessionRegs) (s : State) : (modSes f s).can = s.can := rfl
@[simp] theorem modSes_sup (f : SessionRegs → SessionRegs) (s : State) : (modSes f s).sup = s.sup := rfl
@[simp] theorem modSes_pair (f : SessionRegs → SessionRegs) (s : State) : (modSes f s).pair = s.pair := rfl
@[simp] theorem modSes_mem (f : SessionRegs → SessionRegs) (s : State) : (modSes f s).mem = s.mem := rfl
@[simp] theorem modSes_fw (f : SessionRegs → SessionRegs) (s : State) : (modSes f s).fw = s.fw := rfl
@[simp] theorem modSes_recd (f : SessionRegs → SessionRegs) (s : State) : (modSes f s).recd = s.recd := rfl

/-! ### Registers of one part: sup -/

@[simp] theorem modSup_pending (f : SupRegs → SupRegs) (s : State) : (modSup f s).pending = s.pending := rfl
@[simp] theorem modSup_now (f : SupRegs → SupRegs) (s : State) : (modSup f s).now = s.now := rfl
@[simp] theorem modSup_frameAt (f : SupRegs → SupRegs) (s : State) : (modSup f s).frameAt = s.frameAt := rfl
@[simp] theorem modSup_locked (f : SupRegs → SupRegs) (s : State) : (modSup f s).locked = s.locked := rfl
@[simp] theorem modSup_freeNo (f : SupRegs → SupRegs) (s : State) : (modSup f s).freeNo = s.freeNo := rfl
@[simp] theorem modSup_store (f : SupRegs → SupRegs) (s : State) : (modSup f s).store = s.store := rfl
@[simp] theorem modSup_out (f : SupRegs → SupRegs) (s : State) : (modSup f s).out = s.out := rfl
@[simp] theorem modSup_sys (f : SupRegs → SupRegs) (s : State) : (modSup f s).sys = s.sys := rfl
@[simp] theorem modSup_ses (f : SupRegs → SupRegs) (s : State) : (modSup f s).ses = s.ses := rfl
@[simp] theorem modSup_flt (f : SupRegs → SupRegs) (s : State) : (modSup f s).flt = s.flt := rfl
@[simp] theorem modSup_chain (f : SupRegs → SupRegs) (s : State) : (modSup f s).chain = s.chain := rfl
@[simp] theorem modSup_chctl (f : SupRegs → SupRegs) (s : State) : (modSup f s).chctl = s.chctl := rfl
@[simp] theorem modSup_cells (f : SupRegs → SupRegs) (s : State) : (modSup f s).cells = s.cells := rfl
@[simp] theorem modSup_est (f : SupRegs → SupRegs) (s : State) : (modSup f s).est = s.est := rfl
@[simp] theorem modSup_ident (f : SupRegs → SupRegs) (s : State) : (modSup f s).ident = s.ident := rfl
@[simp] theorem modSup_link (f : SupRegs → SupRegs) (s : State) : (modSup f s).link = s.link := rfl
@[simp] theorem modSup_tb (f : SupRegs → SupRegs) (s : State) : (modSup f s).tb = s.tb := rfl
@[simp] theorem modSup_sp (f : SupRegs → SupRegs) (s : State) : (modSup f s).sp = s.sp := rfl
@[simp] theorem modSup_prot (f : SupRegs → SupRegs) (s : State) : (modSup f s).prot = s.prot := rfl
@[simp] theorem modSup_dsp (f : SupRegs → SupRegs) (s : State) : (modSup f s).dsp = s.dsp := rfl
@[simp] theorem modSup_saf (f : SupRegs → SupRegs) (s : State) : (modSup f s).saf = s.saf := rfl
@[simp] theorem modSup_dio (f : SupRegs → SupRegs) (s : State) : (modSup f s).dio = s.dio := rfl
@[simp] theorem modSup_net (f : SupRegs → SupRegs) (s : State) : (modSup f s).net = s.net := rfl
@[simp] theorem modSup_ptp (f : SupRegs → SupRegs) (s : State) : (modSup f s).ptp = s.ptp := rfl
@[simp] theorem modSup_can (f : SupRegs → SupRegs) (s : State) : (modSup f s).can = s.can := rfl
@[simp] theorem modSup_sup (f : SupRegs → SupRegs) (s : State) : (modSup f s).sup = f s.sup := rfl
@[simp] theorem modSup_pair (f : SupRegs → SupRegs) (s : State) : (modSup f s).pair = s.pair := rfl
@[simp] theorem modSup_mem (f : SupRegs → SupRegs) (s : State) : (modSup f s).mem = s.mem := rfl
@[simp] theorem modSup_fw (f : SupRegs → SupRegs) (s : State) : (modSup f s).fw = s.fw := rfl
@[simp] theorem modSup_recd (f : SupRegs → SupRegs) (s : State) : (modSup f s).recd = s.recd := rfl

/-! ### Registers of one part: pair -/

@[simp] theorem modPair_pending (f : PairRegs → PairRegs) (s : State) : (modPair f s).pending = s.pending := rfl
@[simp] theorem modPair_now (f : PairRegs → PairRegs) (s : State) : (modPair f s).now = s.now := rfl
@[simp] theorem modPair_frameAt (f : PairRegs → PairRegs) (s : State) : (modPair f s).frameAt = s.frameAt := rfl
@[simp] theorem modPair_locked (f : PairRegs → PairRegs) (s : State) : (modPair f s).locked = s.locked := rfl
@[simp] theorem modPair_freeNo (f : PairRegs → PairRegs) (s : State) : (modPair f s).freeNo = s.freeNo := rfl
@[simp] theorem modPair_store (f : PairRegs → PairRegs) (s : State) : (modPair f s).store = s.store := rfl
@[simp] theorem modPair_out (f : PairRegs → PairRegs) (s : State) : (modPair f s).out = s.out := rfl
@[simp] theorem modPair_sys (f : PairRegs → PairRegs) (s : State) : (modPair f s).sys = s.sys := rfl
@[simp] theorem modPair_ses (f : PairRegs → PairRegs) (s : State) : (modPair f s).ses = s.ses := rfl
@[simp] theorem modPair_flt (f : PairRegs → PairRegs) (s : State) : (modPair f s).flt = s.flt := rfl
@[simp] theorem modPair_chain (f : PairRegs → PairRegs) (s : State) : (modPair f s).chain = s.chain := rfl
@[simp] theorem modPair_chctl (f : PairRegs → PairRegs) (s : State) : (modPair f s).chctl = s.chctl := rfl
@[simp] theorem modPair_cells (f : PairRegs → PairRegs) (s : State) : (modPair f s).cells = s.cells := rfl
@[simp] theorem modPair_est (f : PairRegs → PairRegs) (s : State) : (modPair f s).est = s.est := rfl
@[simp] theorem modPair_ident (f : PairRegs → PairRegs) (s : State) : (modPair f s).ident = s.ident := rfl
@[simp] theorem modPair_link (f : PairRegs → PairRegs) (s : State) : (modPair f s).link = s.link := rfl
@[simp] theorem modPair_tb (f : PairRegs → PairRegs) (s : State) : (modPair f s).tb = s.tb := rfl
@[simp] theorem modPair_sp (f : PairRegs → PairRegs) (s : State) : (modPair f s).sp = s.sp := rfl
@[simp] theorem modPair_prot (f : PairRegs → PairRegs) (s : State) : (modPair f s).prot = s.prot := rfl
@[simp] theorem modPair_dsp (f : PairRegs → PairRegs) (s : State) : (modPair f s).dsp = s.dsp := rfl
@[simp] theorem modPair_saf (f : PairRegs → PairRegs) (s : State) : (modPair f s).saf = s.saf := rfl
@[simp] theorem modPair_dio (f : PairRegs → PairRegs) (s : State) : (modPair f s).dio = s.dio := rfl
@[simp] theorem modPair_net (f : PairRegs → PairRegs) (s : State) : (modPair f s).net = s.net := rfl
@[simp] theorem modPair_ptp (f : PairRegs → PairRegs) (s : State) : (modPair f s).ptp = s.ptp := rfl
@[simp] theorem modPair_can (f : PairRegs → PairRegs) (s : State) : (modPair f s).can = s.can := rfl
@[simp] theorem modPair_sup (f : PairRegs → PairRegs) (s : State) : (modPair f s).sup = s.sup := rfl
@[simp] theorem modPair_pair (f : PairRegs → PairRegs) (s : State) : (modPair f s).pair = f s.pair := rfl
@[simp] theorem modPair_mem (f : PairRegs → PairRegs) (s : State) : (modPair f s).mem = s.mem := rfl
@[simp] theorem modPair_fw (f : PairRegs → PairRegs) (s : State) : (modPair f s).fw = s.fw := rfl
@[simp] theorem modPair_recd (f : PairRegs → PairRegs) (s : State) : (modPair f s).recd = s.recd := rfl

/-! ### A session -/

@[simp] theorem modSession_pending (i : Nat) (f : Session → Session) (s : State) : (modSession i f s).pending = s.pending := rfl
@[simp] theorem modSession_now (i : Nat) (f : Session → Session) (s : State) : (modSession i f s).now = s.now := rfl
@[simp] theorem modSession_frameAt (i : Nat) (f : Session → Session) (s : State) : (modSession i f s).frameAt = s.frameAt := rfl
@[simp] theorem modSession_locked (i : Nat) (f : Session → Session) (s : State) : (modSession i f s).locked = s.locked := rfl
@[simp] theorem modSession_freeNo (i : Nat) (f : Session → Session) (s : State) : (modSession i f s).freeNo = s.freeNo := rfl
@[simp] theorem modSession_store (i : Nat) (f : Session → Session) (s : State) : (modSession i f s).store = s.store := rfl
@[simp] theorem modSession_out (i : Nat) (f : Session → Session) (s : State) : (modSession i f s).out = s.out := rfl
@[simp] theorem modSession_sys (i : Nat) (f : Session → Session) (s : State) : (modSession i f s).sys = s.sys := rfl
@[simp] theorem modSession_flt (i : Nat) (f : Session → Session) (s : State) : (modSession i f s).flt = s.flt := rfl
@[simp] theorem modSession_chain (i : Nat) (f : Session → Session) (s : State) : (modSession i f s).chain = s.chain := rfl
@[simp] theorem modSession_chctl (i : Nat) (f : Session → Session) (s : State) : (modSession i f s).chctl = s.chctl := rfl
@[simp] theorem modSession_cells (i : Nat) (f : Session → Session) (s : State) : (modSession i f s).cells = s.cells := rfl
@[simp] theorem modSession_est (i : Nat) (f : Session → Session) (s : State) : (modSession i f s).est = s.est := rfl
@[simp] theorem modSession_ident (i : Nat) (f : Session → Session) (s : State) : (modSession i f s).ident = s.ident := rfl
@[simp] theorem modSession_link (i : Nat) (f : Session → Session) (s : State) : (modSession i f s).link = s.link := rfl
@[simp] theorem modSession_tb (i : Nat) (f : Session → Session) (s : State) : (modSession i f s).tb = s.tb := rfl
@[simp] theorem modSession_sp (i : Nat) (f : Session → Session) (s : State) : (modSession i f s).sp = s.sp := rfl
@[simp] theorem modSession_prot (i : Nat) (f : Session → Session) (s : State) : (modSession i f s).prot = s.prot := rfl
@[simp] theorem modSession_dsp (i : Nat) (f : Session → Session) (s : State) : (modSession i f s).dsp = s.dsp := rfl
@[simp] theorem modSession_saf (i : Nat) (f : Session → Session) (s : State) : (modSession i f s).saf = s.saf := rfl
@[simp] theorem modSession_dio (i : Nat) (f : Session → Session) (s : State) : (modSession i f s).dio = s.dio := rfl
@[simp] theorem modSession_net (i : Nat) (f : Session → Session) (s : State) : (modSession i f s).net = s.net := rfl
@[simp] theorem modSession_ptp (i : Nat) (f : Session → Session) (s : State) : (modSession i f s).ptp = s.ptp := rfl
@[simp] theorem modSession_can (i : Nat) (f : Session → Session) (s : State) : (modSession i f s).can = s.can := rfl
@[simp] theorem modSession_sup (i : Nat) (f : Session → Session) (s : State) : (modSession i f s).sup = s.sup := rfl
@[simp] theorem modSession_pair (i : Nat) (f : Session → Session) (s : State) : (modSession i f s).pair = s.pair := rfl
@[simp] theorem modSession_mem (i : Nat) (f : Session → Session) (s : State) : (modSession i f s).mem = s.mem := rfl
@[simp] theorem modSession_fw (i : Nat) (f : Session → Session) (s : State) : (modSession i f s).fw = s.fw := rfl
@[simp] theorem modSession_recd (i : Nat) (f : Session → Session) (s : State) : (modSession i f s).recd = s.recd := rfl

/-! ### A journal entry of the module's own -/

@[simp] theorem journalOwn_pending (t : Nat) (p : List Byte) (s : State) : (journalOwn t p s).pending = s.pending := rfl
@[simp] theorem journalOwn_now (t : Nat) (p : List Byte) (s : State) : (journalOwn t p s).now = s.now := rfl
@[simp] theorem journalOwn_frameAt (t : Nat) (p : List Byte) (s : State) : (journalOwn t p s).frameAt = s.frameAt := rfl
@[simp] theorem journalOwn_locked (t : Nat) (p : List Byte) (s : State) : (journalOwn t p s).locked = s.locked := rfl
@[simp] theorem journalOwn_freeNo (t : Nat) (p : List Byte) (s : State) : (journalOwn t p s).freeNo = s.freeNo := rfl
@[simp] theorem journalOwn_store (t : Nat) (p : List Byte) (s : State) : (journalOwn t p s).store = s.store := rfl
@[simp] theorem journalOwn_out (t : Nat) (p : List Byte) (s : State) : (journalOwn t p s).out = s.out := rfl
@[simp] theorem journalOwn_sys (t : Nat) (p : List Byte) (s : State) : (journalOwn t p s).sys = s.sys := rfl
@[simp] theorem journalOwn_flt (t : Nat) (p : List Byte) (s : State) : (journalOwn t p s).flt = s.flt := rfl
@[simp] theorem journalOwn_chain (t : Nat) (p : List Byte) (s : State) : (journalOwn t p s).chain = s.chain := rfl
@[simp] theorem journalOwn_chctl (t : Nat) (p : List Byte) (s : State) : (journalOwn t p s).chctl = s.chctl := rfl
@[simp] theorem journalOwn_cells (t : Nat) (p : List Byte) (s : State) : (journalOwn t p s).cells = s.cells := rfl
@[simp] theorem journalOwn_est (t : Nat) (p : List Byte) (s : State) : (journalOwn t p s).est = s.est := rfl
@[simp] theorem journalOwn_ident (t : Nat) (p : List Byte) (s : State) : (journalOwn t p s).ident = s.ident := rfl
@[simp] theorem journalOwn_link (t : Nat) (p : List Byte) (s : State) : (journalOwn t p s).link = s.link := rfl
@[simp] theorem journalOwn_tb (t : Nat) (p : List Byte) (s : State) : (journalOwn t p s).tb = s.tb := rfl
@[simp] theorem journalOwn_sp (t : Nat) (p : List Byte) (s : State) : (journalOwn t p s).sp = s.sp := rfl
@[simp] theorem journalOwn_prot (t : Nat) (p : List Byte) (s : State) : (journalOwn t p s).prot = s.prot := rfl
@[simp] theorem journalOwn_dsp (t : Nat) (p : List Byte) (s : State) : (journalOwn t p s).dsp = s.dsp := rfl
@[simp] theorem journalOwn_saf (t : Nat) (p : List Byte) (s : State) : (journalOwn t p s).saf = s.saf := rfl
@[simp] theorem journalOwn_dio (t : Nat) (p : List Byte) (s : State) : (journalOwn t p s).dio = s.dio := rfl
@[simp] theorem journalOwn_net (t : Nat) (p : List Byte) (s : State) : (journalOwn t p s).net = s.net := rfl
@[simp] theorem journalOwn_ptp (t : Nat) (p : List Byte) (s : State) : (journalOwn t p s).ptp = s.ptp := rfl
@[simp] theorem journalOwn_can (t : Nat) (p : List Byte) (s : State) : (journalOwn t p s).can = s.can := rfl
@[simp] theorem journalOwn_sup (t : Nat) (p : List Byte) (s : State) : (journalOwn t p s).sup = s.sup := rfl
@[simp] theorem journalOwn_pair (t : Nat) (p : List Byte) (s : State) : (journalOwn t p s).pair = s.pair := rfl
@[simp] theorem journalOwn_mem (t : Nat) (p : List Byte) (s : State) : (journalOwn t p s).mem = s.mem := rfl
@[simp] theorem journalOwn_fw (t : Nat) (p : List Byte) (s : State) : (journalOwn t p s).fw = s.fw := rfl
@[simp] theorem journalOwn_recd (t : Nat) (p : List Byte) (s : State) : (journalOwn t p s).recd = s.recd := rfl

/-! ### One of an array: Cell -/

@[simp] theorem modCell_pending (n : Nat) (f : Cell → Cell) (s : State) : (modCell n f s).pending = s.pending := rfl
@[simp] theorem modCell_now (n : Nat) (f : Cell → Cell) (s : State) : (modCell n f s).now = s.now := rfl
@[simp] theorem modCell_frameAt (n : Nat) (f : Cell → Cell) (s : State) : (modCell n f s).frameAt = s.frameAt := rfl
@[simp] theorem modCell_locked (n : Nat) (f : Cell → Cell) (s : State) : (modCell n f s).locked = s.locked := rfl
@[simp] theorem modCell_freeNo (n : Nat) (f : Cell → Cell) (s : State) : (modCell n f s).freeNo = s.freeNo := rfl
@[simp] theorem modCell_store (n : Nat) (f : Cell → Cell) (s : State) : (modCell n f s).store = s.store := rfl
@[simp] theorem modCell_out (n : Nat) (f : Cell → Cell) (s : State) : (modCell n f s).out = s.out := rfl
@[simp] theorem modCell_sys (n : Nat) (f : Cell → Cell) (s : State) : (modCell n f s).sys = s.sys := rfl
@[simp] theorem modCell_ses (n : Nat) (f : Cell → Cell) (s : State) : (modCell n f s).ses = s.ses := rfl
@[simp] theorem modCell_flt (n : Nat) (f : Cell → Cell) (s : State) : (modCell n f s).flt = s.flt := rfl
@[simp] theorem modCell_chain (n : Nat) (f : Cell → Cell) (s : State) : (modCell n f s).chain = s.chain := rfl
@[simp] theorem modCell_chctl (n : Nat) (f : Cell → Cell) (s : State) : (modCell n f s).chctl = s.chctl := rfl
@[simp] theorem modCell_est (n : Nat) (f : Cell → Cell) (s : State) : (modCell n f s).est = s.est := rfl
@[simp] theorem modCell_ident (n : Nat) (f : Cell → Cell) (s : State) : (modCell n f s).ident = s.ident := rfl
@[simp] theorem modCell_link (n : Nat) (f : Cell → Cell) (s : State) : (modCell n f s).link = s.link := rfl
@[simp] theorem modCell_tb (n : Nat) (f : Cell → Cell) (s : State) : (modCell n f s).tb = s.tb := rfl
@[simp] theorem modCell_sp (n : Nat) (f : Cell → Cell) (s : State) : (modCell n f s).sp = s.sp := rfl
@[simp] theorem modCell_prot (n : Nat) (f : Cell → Cell) (s : State) : (modCell n f s).prot = s.prot := rfl
@[simp] theorem modCell_dsp (n : Nat) (f : Cell → Cell) (s : State) : (modCell n f s).dsp = s.dsp := rfl
@[simp] theorem modCell_saf (n : Nat) (f : Cell → Cell) (s : State) : (modCell n f s).saf = s.saf := rfl
@[simp] theorem modCell_dio (n : Nat) (f : Cell → Cell) (s : State) : (modCell n f s).dio = s.dio := rfl
@[simp] theorem modCell_net (n : Nat) (f : Cell → Cell) (s : State) : (modCell n f s).net = s.net := rfl
@[simp] theorem modCell_ptp (n : Nat) (f : Cell → Cell) (s : State) : (modCell n f s).ptp = s.ptp := rfl
@[simp] theorem modCell_can (n : Nat) (f : Cell → Cell) (s : State) : (modCell n f s).can = s.can := rfl
@[simp] theorem modCell_sup (n : Nat) (f : Cell → Cell) (s : State) : (modCell n f s).sup = s.sup := rfl
@[simp] theorem modCell_pair (n : Nat) (f : Cell → Cell) (s : State) : (modCell n f s).pair = s.pair := rfl
@[simp] theorem modCell_mem (n : Nat) (f : Cell → Cell) (s : State) : (modCell n f s).mem = s.mem := rfl
@[simp] theorem modCell_fw (n : Nat) (f : Cell → Cell) (s : State) : (modCell n f s).fw = s.fw := rfl
@[simp] theorem modCell_recd (n : Nat) (f : Cell → Cell) (s : State) : (modCell n f s).recd = s.recd := rfl

/-! ### One of an array: Node -/

@[simp] theorem modNode_pending (n : Nat) (f : Node → Node) (s : State) : (modNode n f s).pending = s.pending := rfl
@[simp] theorem modNode_now (n : Nat) (f : Node → Node) (s : State) : (modNode n f s).now = s.now := rfl
@[simp] theorem modNode_frameAt (n : Nat) (f : Node → Node) (s : State) : (modNode n f s).frameAt = s.frameAt := rfl
@[simp] theorem modNode_locked (n : Nat) (f : Node → Node) (s : State) : (modNode n f s).locked = s.locked := rfl
@[simp] theorem modNode_freeNo (n : Nat) (f : Node → Node) (s : State) : (modNode n f s).freeNo = s.freeNo := rfl
@[simp] theorem modNode_store (n : Nat) (f : Node → Node) (s : State) : (modNode n f s).store = s.store := rfl
@[simp] theorem modNode_out (n : Nat) (f : Node → Node) (s : State) : (modNode n f s).out = s.out := rfl
@[simp] theorem modNode_sys (n : Nat) (f : Node → Node) (s : State) : (modNode n f s).sys = s.sys := rfl
@[simp] theorem modNode_ses (n : Nat) (f : Node → Node) (s : State) : (modNode n f s).ses = s.ses := rfl
@[simp] theorem modNode_flt (n : Nat) (f : Node → Node) (s : State) : (modNode n f s).flt = s.flt := rfl
@[simp] theorem modNode_chain (n : Nat) (f : Node → Node) (s : State) : (modNode n f s).chain = s.chain := rfl
@[simp] theorem modNode_chctl (n : Nat) (f : Node → Node) (s : State) : (modNode n f s).chctl = s.chctl := rfl
@[simp] theorem modNode_est (n : Nat) (f : Node → Node) (s : State) : (modNode n f s).est = s.est := rfl
@[simp] theorem modNode_ident (n : Nat) (f : Node → Node) (s : State) : (modNode n f s).ident = s.ident := rfl
@[simp] theorem modNode_link (n : Nat) (f : Node → Node) (s : State) : (modNode n f s).link = s.link := rfl
@[simp] theorem modNode_tb (n : Nat) (f : Node → Node) (s : State) : (modNode n f s).tb = s.tb := rfl
@[simp] theorem modNode_sp (n : Nat) (f : Node → Node) (s : State) : (modNode n f s).sp = s.sp := rfl
@[simp] theorem modNode_prot (n : Nat) (f : Node → Node) (s : State) : (modNode n f s).prot = s.prot := rfl
@[simp] theorem modNode_dsp (n : Nat) (f : Node → Node) (s : State) : (modNode n f s).dsp = s.dsp := rfl
@[simp] theorem modNode_saf (n : Nat) (f : Node → Node) (s : State) : (modNode n f s).saf = s.saf := rfl
@[simp] theorem modNode_dio (n : Nat) (f : Node → Node) (s : State) : (modNode n f s).dio = s.dio := rfl
@[simp] theorem modNode_net (n : Nat) (f : Node → Node) (s : State) : (modNode n f s).net = s.net := rfl
@[simp] theorem modNode_ptp (n : Nat) (f : Node → Node) (s : State) : (modNode n f s).ptp = s.ptp := rfl
@[simp] theorem modNode_can (n : Nat) (f : Node → Node) (s : State) : (modNode n f s).can = s.can := rfl
@[simp] theorem modNode_sup (n : Nat) (f : Node → Node) (s : State) : (modNode n f s).sup = s.sup := rfl
@[simp] theorem modNode_pair (n : Nat) (f : Node → Node) (s : State) : (modNode n f s).pair = s.pair := rfl
@[simp] theorem modNode_mem (n : Nat) (f : Node → Node) (s : State) : (modNode n f s).mem = s.mem := rfl
@[simp] theorem modNode_fw (n : Nat) (f : Node → Node) (s : State) : (modNode n f s).fw = s.fw := rfl
@[simp] theorem modNode_recd (n : Nat) (f : Node → Node) (s : State) : (modNode n f s).recd = s.recd := rfl

/-! ### One of an array: Cu -/

@[simp] theorem modCu_pending (n : Nat) (f : Cu → Cu) (s : State) : (modCu n f s).pending = s.pending := rfl
@[simp] theorem modCu_now (n : Nat) (f : Cu → Cu) (s : State) : (modCu n f s).now = s.now := rfl
@[simp] theorem modCu_frameAt (n : Nat) (f : Cu → Cu) (s : State) : (modCu n f s).frameAt = s.frameAt := rfl
@[simp] theorem modCu_locked (n : Nat) (f : Cu → Cu) (s : State) : (modCu n f s).locked = s.locked := rfl
@[simp] theorem modCu_freeNo (n : Nat) (f : Cu → Cu) (s : State) : (modCu n f s).freeNo = s.freeNo := rfl
@[simp] theorem modCu_store (n : Nat) (f : Cu → Cu) (s : State) : (modCu n f s).store = s.store := rfl
@[simp] theorem modCu_out (n : Nat) (f : Cu → Cu) (s : State) : (modCu n f s).out = s.out := rfl
@[simp] theorem modCu_sys (n : Nat) (f : Cu → Cu) (s : State) : (modCu n f s).sys = s.sys := rfl
@[simp] theorem modCu_ses (n : Nat) (f : Cu → Cu) (s : State) : (modCu n f s).ses = s.ses := rfl
@[simp] theorem modCu_flt (n : Nat) (f : Cu → Cu) (s : State) : (modCu n f s).flt = s.flt := rfl
@[simp] theorem modCu_chain (n : Nat) (f : Cu → Cu) (s : State) : (modCu n f s).chain = s.chain := rfl
@[simp] theorem modCu_chctl (n : Nat) (f : Cu → Cu) (s : State) : (modCu n f s).chctl = s.chctl := rfl
@[simp] theorem modCu_cells (n : Nat) (f : Cu → Cu) (s : State) : (modCu n f s).cells = s.cells := rfl
@[simp] theorem modCu_est (n : Nat) (f : Cu → Cu) (s : State) : (modCu n f s).est = s.est := rfl
@[simp] theorem modCu_ident (n : Nat) (f : Cu → Cu) (s : State) : (modCu n f s).ident = s.ident := rfl
@[simp] theorem modCu_tb (n : Nat) (f : Cu → Cu) (s : State) : (modCu n f s).tb = s.tb := rfl
@[simp] theorem modCu_sp (n : Nat) (f : Cu → Cu) (s : State) : (modCu n f s).sp = s.sp := rfl
@[simp] theorem modCu_prot (n : Nat) (f : Cu → Cu) (s : State) : (modCu n f s).prot = s.prot := rfl
@[simp] theorem modCu_dsp (n : Nat) (f : Cu → Cu) (s : State) : (modCu n f s).dsp = s.dsp := rfl
@[simp] theorem modCu_saf (n : Nat) (f : Cu → Cu) (s : State) : (modCu n f s).saf = s.saf := rfl
@[simp] theorem modCu_dio (n : Nat) (f : Cu → Cu) (s : State) : (modCu n f s).dio = s.dio := rfl
@[simp] theorem modCu_net (n : Nat) (f : Cu → Cu) (s : State) : (modCu n f s).net = s.net := rfl
@[simp] theorem modCu_ptp (n : Nat) (f : Cu → Cu) (s : State) : (modCu n f s).ptp = s.ptp := rfl
@[simp] theorem modCu_can (n : Nat) (f : Cu → Cu) (s : State) : (modCu n f s).can = s.can := rfl
@[simp] theorem modCu_sup (n : Nat) (f : Cu → Cu) (s : State) : (modCu n f s).sup = s.sup := rfl
@[simp] theorem modCu_pair (n : Nat) (f : Cu → Cu) (s : State) : (modCu n f s).pair = s.pair := rfl
@[simp] theorem modCu_mem (n : Nat) (f : Cu → Cu) (s : State) : (modCu n f s).mem = s.mem := rfl
@[simp] theorem modCu_fw (n : Nat) (f : Cu → Cu) (s : State) : (modCu n f s).fw = s.fw := rfl
@[simp] theorem modCu_recd (n : Nat) (f : Cu → Cu) (s : State) : (modCu n f s).recd = s.recd := rfl

/-! ### One of an array: Di -/

@[simp] theorem modDi_pending (n : Nat) (f : DiIn → DiIn) (s : State) : (modDi n f s).pending = s.pending := rfl
@[simp] theorem modDi_now (n : Nat) (f : DiIn → DiIn) (s : State) : (modDi n f s).now = s.now := rfl
@[simp] theorem modDi_frameAt (n : Nat) (f : DiIn → DiIn) (s : State) : (modDi n f s).frameAt = s.frameAt := rfl
@[simp] theorem modDi_locked (n : Nat) (f : DiIn → DiIn) (s : State) : (modDi n f s).locked = s.locked := rfl
@[simp] theorem modDi_freeNo (n : Nat) (f : DiIn → DiIn) (s : State) : (modDi n f s).freeNo = s.freeNo := rfl
@[simp] theorem modDi_store (n : Nat) (f : DiIn → DiIn) (s : State) : (modDi n f s).store = s.store := rfl
@[simp] theorem modDi_out (n : Nat) (f : DiIn → DiIn) (s : State) : (modDi n f s).out = s.out := rfl
@[simp] theorem modDi_sys (n : Nat) (f : DiIn → DiIn) (s : State) : (modDi n f s).sys = s.sys := rfl
@[simp] theorem modDi_ses (n : Nat) (f : DiIn → DiIn) (s : State) : (modDi n f s).ses = s.ses := rfl
@[simp] theorem modDi_flt (n : Nat) (f : DiIn → DiIn) (s : State) : (modDi n f s).flt = s.flt := rfl
@[simp] theorem modDi_chain (n : Nat) (f : DiIn → DiIn) (s : State) : (modDi n f s).chain = s.chain := rfl
@[simp] theorem modDi_chctl (n : Nat) (f : DiIn → DiIn) (s : State) : (modDi n f s).chctl = s.chctl := rfl
@[simp] theorem modDi_cells (n : Nat) (f : DiIn → DiIn) (s : State) : (modDi n f s).cells = s.cells := rfl
@[simp] theorem modDi_est (n : Nat) (f : DiIn → DiIn) (s : State) : (modDi n f s).est = s.est := rfl
@[simp] theorem modDi_ident (n : Nat) (f : DiIn → DiIn) (s : State) : (modDi n f s).ident = s.ident := rfl
@[simp] theorem modDi_link (n : Nat) (f : DiIn → DiIn) (s : State) : (modDi n f s).link = s.link := rfl
@[simp] theorem modDi_tb (n : Nat) (f : DiIn → DiIn) (s : State) : (modDi n f s).tb = s.tb := rfl
@[simp] theorem modDi_sp (n : Nat) (f : DiIn → DiIn) (s : State) : (modDi n f s).sp = s.sp := rfl
@[simp] theorem modDi_prot (n : Nat) (f : DiIn → DiIn) (s : State) : (modDi n f s).prot = s.prot := rfl
@[simp] theorem modDi_dsp (n : Nat) (f : DiIn → DiIn) (s : State) : (modDi n f s).dsp = s.dsp := rfl
@[simp] theorem modDi_saf (n : Nat) (f : DiIn → DiIn) (s : State) : (modDi n f s).saf = s.saf := rfl
@[simp] theorem modDi_net (n : Nat) (f : DiIn → DiIn) (s : State) : (modDi n f s).net = s.net := rfl
@[simp] theorem modDi_ptp (n : Nat) (f : DiIn → DiIn) (s : State) : (modDi n f s).ptp = s.ptp := rfl
@[simp] theorem modDi_can (n : Nat) (f : DiIn → DiIn) (s : State) : (modDi n f s).can = s.can := rfl
@[simp] theorem modDi_sup (n : Nat) (f : DiIn → DiIn) (s : State) : (modDi n f s).sup = s.sup := rfl
@[simp] theorem modDi_pair (n : Nat) (f : DiIn → DiIn) (s : State) : (modDi n f s).pair = s.pair := rfl
@[simp] theorem modDi_mem (n : Nat) (f : DiIn → DiIn) (s : State) : (modDi n f s).mem = s.mem := rfl
@[simp] theorem modDi_fw (n : Nat) (f : DiIn → DiIn) (s : State) : (modDi n f s).fw = s.fw := rfl
@[simp] theorem modDi_recd (n : Nat) (f : DiIn → DiIn) (s : State) : (modDi n f s).recd = s.recd := rfl

/-! ### One of an array: Dq -/

@[simp] theorem modDq_pending (n : Nat) (f : DqOut → DqOut) (s : State) : (modDq n f s).pending = s.pending := rfl
@[simp] theorem modDq_now (n : Nat) (f : DqOut → DqOut) (s : State) : (modDq n f s).now = s.now := rfl
@[simp] theorem modDq_frameAt (n : Nat) (f : DqOut → DqOut) (s : State) : (modDq n f s).frameAt = s.frameAt := rfl
@[simp] theorem modDq_locked (n : Nat) (f : DqOut → DqOut) (s : State) : (modDq n f s).locked = s.locked := rfl
@[simp] theorem modDq_freeNo (n : Nat) (f : DqOut → DqOut) (s : State) : (modDq n f s).freeNo = s.freeNo := rfl
@[simp] theorem modDq_store (n : Nat) (f : DqOut → DqOut) (s : State) : (modDq n f s).store = s.store := rfl
@[simp] theorem modDq_out (n : Nat) (f : DqOut → DqOut) (s : State) : (modDq n f s).out = s.out := rfl
@[simp] theorem modDq_sys (n : Nat) (f : DqOut → DqOut) (s : State) : (modDq n f s).sys = s.sys := rfl
@[simp] theorem modDq_ses (n : Nat) (f : DqOut → DqOut) (s : State) : (modDq n f s).ses = s.ses := rfl
@[simp] theorem modDq_flt (n : Nat) (f : DqOut → DqOut) (s : State) : (modDq n f s).flt = s.flt := rfl
@[simp] theorem modDq_chain (n : Nat) (f : DqOut → DqOut) (s : State) : (modDq n f s).chain = s.chain := rfl
@[simp] theorem modDq_chctl (n : Nat) (f : DqOut → DqOut) (s : State) : (modDq n f s).chctl = s.chctl := rfl
@[simp] theorem modDq_cells (n : Nat) (f : DqOut → DqOut) (s : State) : (modDq n f s).cells = s.cells := rfl
@[simp] theorem modDq_est (n : Nat) (f : DqOut → DqOut) (s : State) : (modDq n f s).est = s.est := rfl
@[simp] theorem modDq_ident (n : Nat) (f : DqOut → DqOut) (s : State) : (modDq n f s).ident = s.ident := rfl
@[simp] theorem modDq_link (n : Nat) (f : DqOut → DqOut) (s : State) : (modDq n f s).link = s.link := rfl
@[simp] theorem modDq_tb (n : Nat) (f : DqOut → DqOut) (s : State) : (modDq n f s).tb = s.tb := rfl
@[simp] theorem modDq_sp (n : Nat) (f : DqOut → DqOut) (s : State) : (modDq n f s).sp = s.sp := rfl
@[simp] theorem modDq_prot (n : Nat) (f : DqOut → DqOut) (s : State) : (modDq n f s).prot = s.prot := rfl
@[simp] theorem modDq_dsp (n : Nat) (f : DqOut → DqOut) (s : State) : (modDq n f s).dsp = s.dsp := rfl
@[simp] theorem modDq_saf (n : Nat) (f : DqOut → DqOut) (s : State) : (modDq n f s).saf = s.saf := rfl
@[simp] theorem modDq_net (n : Nat) (f : DqOut → DqOut) (s : State) : (modDq n f s).net = s.net := rfl
@[simp] theorem modDq_ptp (n : Nat) (f : DqOut → DqOut) (s : State) : (modDq n f s).ptp = s.ptp := rfl
@[simp] theorem modDq_can (n : Nat) (f : DqOut → DqOut) (s : State) : (modDq n f s).can = s.can := rfl
@[simp] theorem modDq_sup (n : Nat) (f : DqOut → DqOut) (s : State) : (modDq n f s).sup = s.sup := rfl
@[simp] theorem modDq_pair (n : Nat) (f : DqOut → DqOut) (s : State) : (modDq n f s).pair = s.pair := rfl
@[simp] theorem modDq_mem (n : Nat) (f : DqOut → DqOut) (s : State) : (modDq n f s).mem = s.mem := rfl
@[simp] theorem modDq_fw (n : Nat) (f : DqOut → DqOut) (s : State) : (modDq n f s).fw = s.fw := rfl
@[simp] theorem modDq_recd (n : Nat) (f : DqOut → DqOut) (s : State) : (modDq n f s).recd = s.recd := rfl

/-! ### One of an array: Sq -/

@[simp] theorem modSq_pending (n : Nat) (f : SqOut → SqOut) (s : State) : (modSq n f s).pending = s.pending := rfl
@[simp] theorem modSq_now (n : Nat) (f : SqOut → SqOut) (s : State) : (modSq n f s).now = s.now := rfl
@[simp] theorem modSq_frameAt (n : Nat) (f : SqOut → SqOut) (s : State) : (modSq n f s).frameAt = s.frameAt := rfl
@[simp] theorem modSq_locked (n : Nat) (f : SqOut → SqOut) (s : State) : (modSq n f s).locked = s.locked := rfl
@[simp] theorem modSq_freeNo (n : Nat) (f : SqOut → SqOut) (s : State) : (modSq n f s).freeNo = s.freeNo := rfl
@[simp] theorem modSq_store (n : Nat) (f : SqOut → SqOut) (s : State) : (modSq n f s).store = s.store := rfl
@[simp] theorem modSq_out (n : Nat) (f : SqOut → SqOut) (s : State) : (modSq n f s).out = s.out := rfl
@[simp] theorem modSq_sys (n : Nat) (f : SqOut → SqOut) (s : State) : (modSq n f s).sys = s.sys := rfl
@[simp] theorem modSq_ses (n : Nat) (f : SqOut → SqOut) (s : State) : (modSq n f s).ses = s.ses := rfl
@[simp] theorem modSq_flt (n : Nat) (f : SqOut → SqOut) (s : State) : (modSq n f s).flt = s.flt := rfl
@[simp] theorem modSq_chain (n : Nat) (f : SqOut → SqOut) (s : State) : (modSq n f s).chain = s.chain := rfl
@[simp] theorem modSq_chctl (n : Nat) (f : SqOut → SqOut) (s : State) : (modSq n f s).chctl = s.chctl := rfl
@[simp] theorem modSq_cells (n : Nat) (f : SqOut → SqOut) (s : State) : (modSq n f s).cells = s.cells := rfl
@[simp] theorem modSq_est (n : Nat) (f : SqOut → SqOut) (s : State) : (modSq n f s).est = s.est := rfl
@[simp] theorem modSq_ident (n : Nat) (f : SqOut → SqOut) (s : State) : (modSq n f s).ident = s.ident := rfl
@[simp] theorem modSq_link (n : Nat) (f : SqOut → SqOut) (s : State) : (modSq n f s).link = s.link := rfl
@[simp] theorem modSq_tb (n : Nat) (f : SqOut → SqOut) (s : State) : (modSq n f s).tb = s.tb := rfl
@[simp] theorem modSq_sp (n : Nat) (f : SqOut → SqOut) (s : State) : (modSq n f s).sp = s.sp := rfl
@[simp] theorem modSq_prot (n : Nat) (f : SqOut → SqOut) (s : State) : (modSq n f s).prot = s.prot := rfl
@[simp] theorem modSq_dsp (n : Nat) (f : SqOut → SqOut) (s : State) : (modSq n f s).dsp = s.dsp := rfl
@[simp] theorem modSq_saf (n : Nat) (f : SqOut → SqOut) (s : State) : (modSq n f s).saf = s.saf := rfl
@[simp] theorem modSq_net (n : Nat) (f : SqOut → SqOut) (s : State) : (modSq n f s).net = s.net := rfl
@[simp] theorem modSq_ptp (n : Nat) (f : SqOut → SqOut) (s : State) : (modSq n f s).ptp = s.ptp := rfl
@[simp] theorem modSq_can (n : Nat) (f : SqOut → SqOut) (s : State) : (modSq n f s).can = s.can := rfl
@[simp] theorem modSq_sup (n : Nat) (f : SqOut → SqOut) (s : State) : (modSq n f s).sup = s.sup := rfl
@[simp] theorem modSq_pair (n : Nat) (f : SqOut → SqOut) (s : State) : (modSq n f s).pair = s.pair := rfl
@[simp] theorem modSq_mem (n : Nat) (f : SqOut → SqOut) (s : State) : (modSq n f s).mem = s.mem := rfl
@[simp] theorem modSq_fw (n : Nat) (f : SqOut → SqOut) (s : State) : (modSq n f s).fw = s.fw := rfl
@[simp] theorem modSq_recd (n : Nat) (f : SqOut → SqOut) (s : State) : (modSq n f s).recd = s.recd := rfl

/-! ### One of an array: Lp -/

@[simp] theorem modLp_pending (n : Nat) (f : LearnPos → LearnPos) (s : State) : (modLp n f s).pending = s.pending := rfl
@[simp] theorem modLp_now (n : Nat) (f : LearnPos → LearnPos) (s : State) : (modLp n f s).now = s.now := rfl
@[simp] theorem modLp_frameAt (n : Nat) (f : LearnPos → LearnPos) (s : State) : (modLp n f s).frameAt = s.frameAt := rfl
@[simp] theorem modLp_locked (n : Nat) (f : LearnPos → LearnPos) (s : State) : (modLp n f s).locked = s.locked := rfl
@[simp] theorem modLp_freeNo (n : Nat) (f : LearnPos → LearnPos) (s : State) : (modLp n f s).freeNo = s.freeNo := rfl
@[simp] theorem modLp_store (n : Nat) (f : LearnPos → LearnPos) (s : State) : (modLp n f s).store = s.store := rfl
@[simp] theorem modLp_out (n : Nat) (f : LearnPos → LearnPos) (s : State) : (modLp n f s).out = s.out := rfl
@[simp] theorem modLp_sys (n : Nat) (f : LearnPos → LearnPos) (s : State) : (modLp n f s).sys = s.sys := rfl
@[simp] theorem modLp_ses (n : Nat) (f : LearnPos → LearnPos) (s : State) : (modLp n f s).ses = s.ses := rfl
@[simp] theorem modLp_flt (n : Nat) (f : LearnPos → LearnPos) (s : State) : (modLp n f s).flt = s.flt := rfl
@[simp] theorem modLp_chain (n : Nat) (f : LearnPos → LearnPos) (s : State) : (modLp n f s).chain = s.chain := rfl
@[simp] theorem modLp_chctl (n : Nat) (f : LearnPos → LearnPos) (s : State) : (modLp n f s).chctl = s.chctl := rfl
@[simp] theorem modLp_cells (n : Nat) (f : LearnPos → LearnPos) (s : State) : (modLp n f s).cells = s.cells := rfl
@[simp] theorem modLp_est (n : Nat) (f : LearnPos → LearnPos) (s : State) : (modLp n f s).est = s.est := rfl
@[simp] theorem modLp_link (n : Nat) (f : LearnPos → LearnPos) (s : State) : (modLp n f s).link = s.link := rfl
@[simp] theorem modLp_tb (n : Nat) (f : LearnPos → LearnPos) (s : State) : (modLp n f s).tb = s.tb := rfl
@[simp] theorem modLp_sp (n : Nat) (f : LearnPos → LearnPos) (s : State) : (modLp n f s).sp = s.sp := rfl
@[simp] theorem modLp_prot (n : Nat) (f : LearnPos → LearnPos) (s : State) : (modLp n f s).prot = s.prot := rfl
@[simp] theorem modLp_dsp (n : Nat) (f : LearnPos → LearnPos) (s : State) : (modLp n f s).dsp = s.dsp := rfl
@[simp] theorem modLp_saf (n : Nat) (f : LearnPos → LearnPos) (s : State) : (modLp n f s).saf = s.saf := rfl
@[simp] theorem modLp_dio (n : Nat) (f : LearnPos → LearnPos) (s : State) : (modLp n f s).dio = s.dio := rfl
@[simp] theorem modLp_net (n : Nat) (f : LearnPos → LearnPos) (s : State) : (modLp n f s).net = s.net := rfl
@[simp] theorem modLp_ptp (n : Nat) (f : LearnPos → LearnPos) (s : State) : (modLp n f s).ptp = s.ptp := rfl
@[simp] theorem modLp_can (n : Nat) (f : LearnPos → LearnPos) (s : State) : (modLp n f s).can = s.can := rfl
@[simp] theorem modLp_sup (n : Nat) (f : LearnPos → LearnPos) (s : State) : (modLp n f s).sup = s.sup := rfl
@[simp] theorem modLp_pair (n : Nat) (f : LearnPos → LearnPos) (s : State) : (modLp n f s).pair = s.pair := rfl
@[simp] theorem modLp_mem (n : Nat) (f : LearnPos → LearnPos) (s : State) : (modLp n f s).mem = s.mem := rfl
@[simp] theorem modLp_fw (n : Nat) (f : LearnPos → LearnPos) (s : State) : (modLp n f s).fw = s.fw := rfl
@[simp] theorem modLp_recd (n : Nat) (f : LearnPos → LearnPos) (s : State) : (modLp n f s).recd = s.recd := rfl

/-! ### One of an array: Region -/

@[simp] theorem modRegion_pending (n : Nat) (f : Region → Region) (s : State) : (modRegion n f s).pending = s.pending := rfl
@[simp] theorem modRegion_now (n : Nat) (f : Region → Region) (s : State) : (modRegion n f s).now = s.now := rfl
@[simp] theorem modRegion_frameAt (n : Nat) (f : Region → Region) (s : State) : (modRegion n f s).frameAt = s.frameAt := rfl
@[simp] theorem modRegion_locked (n : Nat) (f : Region → Region) (s : State) : (modRegion n f s).locked = s.locked := rfl
@[simp] theorem modRegion_freeNo (n : Nat) (f : Region → Region) (s : State) : (modRegion n f s).freeNo = s.freeNo := rfl
@[simp] theorem modRegion_store (n : Nat) (f : Region → Region) (s : State) : (modRegion n f s).store = s.store := rfl
@[simp] theorem modRegion_out (n : Nat) (f : Region → Region) (s : State) : (modRegion n f s).out = s.out := rfl
@[simp] theorem modRegion_sys (n : Nat) (f : Region → Region) (s : State) : (modRegion n f s).sys = s.sys := rfl
@[simp] theorem modRegion_ses (n : Nat) (f : Region → Region) (s : State) : (modRegion n f s).ses = s.ses := rfl
@[simp] theorem modRegion_flt (n : Nat) (f : Region → Region) (s : State) : (modRegion n f s).flt = s.flt := rfl
@[simp] theorem modRegion_chain (n : Nat) (f : Region → Region) (s : State) : (modRegion n f s).chain = s.chain := rfl
@[simp] theorem modRegion_chctl (n : Nat) (f : Region → Region) (s : State) : (modRegion n f s).chctl = s.chctl := rfl
@[simp] theorem modRegion_cells (n : Nat) (f : Region → Region) (s : State) : (modRegion n f s).cells = s.cells := rfl
@[simp] theorem modRegion_est (n : Nat) (f : Region → Region) (s : State) : (modRegion n f s).est = s.est := rfl
@[simp] theorem modRegion_ident (n : Nat) (f : Region → Region) (s : State) : (modRegion n f s).ident = s.ident := rfl
@[simp] theorem modRegion_link (n : Nat) (f : Region → Region) (s : State) : (modRegion n f s).link = s.link := rfl
@[simp] theorem modRegion_tb (n : Nat) (f : Region → Region) (s : State) : (modRegion n f s).tb = s.tb := rfl
@[simp] theorem modRegion_sp (n : Nat) (f : Region → Region) (s : State) : (modRegion n f s).sp = s.sp := rfl
@[simp] theorem modRegion_prot (n : Nat) (f : Region → Region) (s : State) : (modRegion n f s).prot = s.prot := rfl
@[simp] theorem modRegion_dsp (n : Nat) (f : Region → Region) (s : State) : (modRegion n f s).dsp = s.dsp := rfl
@[simp] theorem modRegion_saf (n : Nat) (f : Region → Region) (s : State) : (modRegion n f s).saf = s.saf := rfl
@[simp] theorem modRegion_dio (n : Nat) (f : Region → Region) (s : State) : (modRegion n f s).dio = s.dio := rfl
@[simp] theorem modRegion_net (n : Nat) (f : Region → Region) (s : State) : (modRegion n f s).net = s.net := rfl
@[simp] theorem modRegion_ptp (n : Nat) (f : Region → Region) (s : State) : (modRegion n f s).ptp = s.ptp := rfl
@[simp] theorem modRegion_can (n : Nat) (f : Region → Region) (s : State) : (modRegion n f s).can = s.can := rfl
@[simp] theorem modRegion_sup (n : Nat) (f : Region → Region) (s : State) : (modRegion n f s).sup = s.sup := rfl
@[simp] theorem modRegion_pair (n : Nat) (f : Region → Region) (s : State) : (modRegion n f s).pair = s.pair := rfl
@[simp] theorem modRegion_fw (n : Nat) (f : Region → Region) (s : State) : (modRegion n f s).fw = s.fw := rfl
@[simp] theorem modRegion_recd (n : Nat) (f : Region → Region) (s : State) : (modRegion n f s).recd = s.recd := rfl

/-! ### One of an array: Chan -/

@[simp] theorem modChan_pending (n : Nat) (f : CanChan → CanChan) (s : State) : (modChan n f s).pending = s.pending := rfl
@[simp] theorem modChan_now (n : Nat) (f : CanChan → CanChan) (s : State) : (modChan n f s).now = s.now := rfl
@[simp] theorem modChan_frameAt (n : Nat) (f : CanChan → CanChan) (s : State) : (modChan n f s).frameAt = s.frameAt := rfl
@[simp] theorem modChan_locked (n : Nat) (f : CanChan → CanChan) (s : State) : (modChan n f s).locked = s.locked := rfl
@[simp] theorem modChan_freeNo (n : Nat) (f : CanChan → CanChan) (s : State) : (modChan n f s).freeNo = s.freeNo := rfl
@[simp] theorem modChan_store (n : Nat) (f : CanChan → CanChan) (s : State) : (modChan n f s).store = s.store := rfl
@[simp] theorem modChan_out (n : Nat) (f : CanChan → CanChan) (s : State) : (modChan n f s).out = s.out := rfl
@[simp] theorem modChan_sys (n : Nat) (f : CanChan → CanChan) (s : State) : (modChan n f s).sys = s.sys := rfl
@[simp] theorem modChan_ses (n : Nat) (f : CanChan → CanChan) (s : State) : (modChan n f s).ses = s.ses := rfl
@[simp] theorem modChan_flt (n : Nat) (f : CanChan → CanChan) (s : State) : (modChan n f s).flt = s.flt := rfl
@[simp] theorem modChan_chain (n : Nat) (f : CanChan → CanChan) (s : State) : (modChan n f s).chain = s.chain := rfl
@[simp] theorem modChan_chctl (n : Nat) (f : CanChan → CanChan) (s : State) : (modChan n f s).chctl = s.chctl := rfl
@[simp] theorem modChan_cells (n : Nat) (f : CanChan → CanChan) (s : State) : (modChan n f s).cells = s.cells := rfl
@[simp] theorem modChan_est (n : Nat) (f : CanChan → CanChan) (s : State) : (modChan n f s).est = s.est := rfl
@[simp] theorem modChan_ident (n : Nat) (f : CanChan → CanChan) (s : State) : (modChan n f s).ident = s.ident := rfl
@[simp] theorem modChan_link (n : Nat) (f : CanChan → CanChan) (s : State) : (modChan n f s).link = s.link := rfl
@[simp] theorem modChan_tb (n : Nat) (f : CanChan → CanChan) (s : State) : (modChan n f s).tb = s.tb := rfl
@[simp] theorem modChan_sp (n : Nat) (f : CanChan → CanChan) (s : State) : (modChan n f s).sp = s.sp := rfl
@[simp] theorem modChan_prot (n : Nat) (f : CanChan → CanChan) (s : State) : (modChan n f s).prot = s.prot := rfl
@[simp] theorem modChan_dsp (n : Nat) (f : CanChan → CanChan) (s : State) : (modChan n f s).dsp = s.dsp := rfl
@[simp] theorem modChan_saf (n : Nat) (f : CanChan → CanChan) (s : State) : (modChan n f s).saf = s.saf := rfl
@[simp] theorem modChan_dio (n : Nat) (f : CanChan → CanChan) (s : State) : (modChan n f s).dio = s.dio := rfl
@[simp] theorem modChan_net (n : Nat) (f : CanChan → CanChan) (s : State) : (modChan n f s).net = s.net := rfl
@[simp] theorem modChan_ptp (n : Nat) (f : CanChan → CanChan) (s : State) : (modChan n f s).ptp = s.ptp := rfl
@[simp] theorem modChan_sup (n : Nat) (f : CanChan → CanChan) (s : State) : (modChan n f s).sup = s.sup := rfl
@[simp] theorem modChan_pair (n : Nat) (f : CanChan → CanChan) (s : State) : (modChan n f s).pair = s.pair := rfl
@[simp] theorem modChan_mem (n : Nat) (f : CanChan → CanChan) (s : State) : (modChan n f s).mem = s.mem := rfl
@[simp] theorem modChan_fw (n : Nat) (f : CanChan → CanChan) (s : State) : (modChan n f s).fw = s.fw := rfl
@[simp] theorem modChan_recd (n : Nat) (f : CanChan → CanChan) (s : State) : (modChan n f s).recd = s.recd := rfl

/-! ### One of an array: Port -/

@[simp] theorem modPort_pending (n : Nat) (f : EthPort → EthPort) (s : State) : (modPort n f s).pending = s.pending := rfl
@[simp] theorem modPort_now (n : Nat) (f : EthPort → EthPort) (s : State) : (modPort n f s).now = s.now := rfl
@[simp] theorem modPort_frameAt (n : Nat) (f : EthPort → EthPort) (s : State) : (modPort n f s).frameAt = s.frameAt := rfl
@[simp] theorem modPort_locked (n : Nat) (f : EthPort → EthPort) (s : State) : (modPort n f s).locked = s.locked := rfl
@[simp] theorem modPort_freeNo (n : Nat) (f : EthPort → EthPort) (s : State) : (modPort n f s).freeNo = s.freeNo := rfl
@[simp] theorem modPort_store (n : Nat) (f : EthPort → EthPort) (s : State) : (modPort n f s).store = s.store := rfl
@[simp] theorem modPort_out (n : Nat) (f : EthPort → EthPort) (s : State) : (modPort n f s).out = s.out := rfl
@[simp] theorem modPort_sys (n : Nat) (f : EthPort → EthPort) (s : State) : (modPort n f s).sys = s.sys := rfl
@[simp] theorem modPort_ses (n : Nat) (f : EthPort → EthPort) (s : State) : (modPort n f s).ses = s.ses := rfl
@[simp] theorem modPort_flt (n : Nat) (f : EthPort → EthPort) (s : State) : (modPort n f s).flt = s.flt := rfl
@[simp] theorem modPort_chain (n : Nat) (f : EthPort → EthPort) (s : State) : (modPort n f s).chain = s.chain := rfl
@[simp] theorem modPort_chctl (n : Nat) (f : EthPort → EthPort) (s : State) : (modPort n f s).chctl = s.chctl := rfl
@[simp] theorem modPort_cells (n : Nat) (f : EthPort → EthPort) (s : State) : (modPort n f s).cells = s.cells := rfl
@[simp] theorem modPort_est (n : Nat) (f : EthPort → EthPort) (s : State) : (modPort n f s).est = s.est := rfl
@[simp] theorem modPort_ident (n : Nat) (f : EthPort → EthPort) (s : State) : (modPort n f s).ident = s.ident := rfl
@[simp] theorem modPort_link (n : Nat) (f : EthPort → EthPort) (s : State) : (modPort n f s).link = s.link := rfl
@[simp] theorem modPort_tb (n : Nat) (f : EthPort → EthPort) (s : State) : (modPort n f s).tb = s.tb := rfl
@[simp] theorem modPort_sp (n : Nat) (f : EthPort → EthPort) (s : State) : (modPort n f s).sp = s.sp := rfl
@[simp] theorem modPort_prot (n : Nat) (f : EthPort → EthPort) (s : State) : (modPort n f s).prot = s.prot := rfl
@[simp] theorem modPort_dsp (n : Nat) (f : EthPort → EthPort) (s : State) : (modPort n f s).dsp = s.dsp := rfl
@[simp] theorem modPort_saf (n : Nat) (f : EthPort → EthPort) (s : State) : (modPort n f s).saf = s.saf := rfl
@[simp] theorem modPort_dio (n : Nat) (f : EthPort → EthPort) (s : State) : (modPort n f s).dio = s.dio := rfl
@[simp] theorem modPort_ptp (n : Nat) (f : EthPort → EthPort) (s : State) : (modPort n f s).ptp = s.ptp := rfl
@[simp] theorem modPort_can (n : Nat) (f : EthPort → EthPort) (s : State) : (modPort n f s).can = s.can := rfl
@[simp] theorem modPort_sup (n : Nat) (f : EthPort → EthPort) (s : State) : (modPort n f s).sup = s.sup := rfl
@[simp] theorem modPort_pair (n : Nat) (f : EthPort → EthPort) (s : State) : (modPort n f s).pair = s.pair := rfl
@[simp] theorem modPort_mem (n : Nat) (f : EthPort → EthPort) (s : State) : (modPort n f s).mem = s.mem := rfl
@[simp] theorem modPort_fw (n : Nat) (f : EthPort → EthPort) (s : State) : (modPort n f s).fw = s.fw := rfl
@[simp] theorem modPort_recd (n : Nat) (f : EthPort → EthPort) (s : State) : (modPort n f s).recd = s.recd := rfl

/-! ### One of an array: Ctx -/

@[simp] theorem modCtx_pending (n : Nat) (f : Ctx → Ctx) (s : State) : (modCtx n f s).pending = s.pending := rfl
@[simp] theorem modCtx_now (n : Nat) (f : Ctx → Ctx) (s : State) : (modCtx n f s).now = s.now := rfl
@[simp] theorem modCtx_frameAt (n : Nat) (f : Ctx → Ctx) (s : State) : (modCtx n f s).frameAt = s.frameAt := rfl
@[simp] theorem modCtx_locked (n : Nat) (f : Ctx → Ctx) (s : State) : (modCtx n f s).locked = s.locked := rfl
@[simp] theorem modCtx_freeNo (n : Nat) (f : Ctx → Ctx) (s : State) : (modCtx n f s).freeNo = s.freeNo := rfl
@[simp] theorem modCtx_store (n : Nat) (f : Ctx → Ctx) (s : State) : (modCtx n f s).store = s.store := rfl
@[simp] theorem modCtx_out (n : Nat) (f : Ctx → Ctx) (s : State) : (modCtx n f s).out = s.out := rfl
@[simp] theorem modCtx_sys (n : Nat) (f : Ctx → Ctx) (s : State) : (modCtx n f s).sys = s.sys := rfl
@[simp] theorem modCtx_ses (n : Nat) (f : Ctx → Ctx) (s : State) : (modCtx n f s).ses = s.ses := rfl
@[simp] theorem modCtx_flt (n : Nat) (f : Ctx → Ctx) (s : State) : (modCtx n f s).flt = s.flt := rfl
@[simp] theorem modCtx_chain (n : Nat) (f : Ctx → Ctx) (s : State) : (modCtx n f s).chain = s.chain := rfl
@[simp] theorem modCtx_chctl (n : Nat) (f : Ctx → Ctx) (s : State) : (modCtx n f s).chctl = s.chctl := rfl
@[simp] theorem modCtx_cells (n : Nat) (f : Ctx → Ctx) (s : State) : (modCtx n f s).cells = s.cells := rfl
@[simp] theorem modCtx_ident (n : Nat) (f : Ctx → Ctx) (s : State) : (modCtx n f s).ident = s.ident := rfl
@[simp] theorem modCtx_link (n : Nat) (f : Ctx → Ctx) (s : State) : (modCtx n f s).link = s.link := rfl
@[simp] theorem modCtx_tb (n : Nat) (f : Ctx → Ctx) (s : State) : (modCtx n f s).tb = s.tb := rfl
@[simp] theorem modCtx_sp (n : Nat) (f : Ctx → Ctx) (s : State) : (modCtx n f s).sp = s.sp := rfl
@[simp] theorem modCtx_prot (n : Nat) (f : Ctx → Ctx) (s : State) : (modCtx n f s).prot = s.prot := rfl
@[simp] theorem modCtx_dsp (n : Nat) (f : Ctx → Ctx) (s : State) : (modCtx n f s).dsp = s.dsp := rfl
@[simp] theorem modCtx_saf (n : Nat) (f : Ctx → Ctx) (s : State) : (modCtx n f s).saf = s.saf := rfl
@[simp] theorem modCtx_dio (n : Nat) (f : Ctx → Ctx) (s : State) : (modCtx n f s).dio = s.dio := rfl
@[simp] theorem modCtx_net (n : Nat) (f : Ctx → Ctx) (s : State) : (modCtx n f s).net = s.net := rfl
@[simp] theorem modCtx_ptp (n : Nat) (f : Ctx → Ctx) (s : State) : (modCtx n f s).ptp = s.ptp := rfl
@[simp] theorem modCtx_can (n : Nat) (f : Ctx → Ctx) (s : State) : (modCtx n f s).can = s.can := rfl
@[simp] theorem modCtx_sup (n : Nat) (f : Ctx → Ctx) (s : State) : (modCtx n f s).sup = s.sup := rfl
@[simp] theorem modCtx_pair (n : Nat) (f : Ctx → Ctx) (s : State) : (modCtx n f s).pair = s.pair := rfl
@[simp] theorem modCtx_mem (n : Nat) (f : Ctx → Ctx) (s : State) : (modCtx n f s).mem = s.mem := rfl
@[simp] theorem modCtx_fw (n : Nat) (f : Ctx → Ctx) (s : State) : (modCtx n f s).fw = s.fw := rfl
@[simp] theorem modCtx_recd (n : Nat) (f : Ctx → Ctx) (s : State) : (modCtx n f s).recd = s.recd := rfl

/-! ### One of an array: the flags of a context -/

@[simp] theorem modFl_pending (n : Nat) (f : CtxFlags → CtxFlags) (s : State) : (modFl n f s).pending = s.pending := rfl
@[simp] theorem modFl_now (n : Nat) (f : CtxFlags → CtxFlags) (s : State) : (modFl n f s).now = s.now := rfl
@[simp] theorem modFl_frameAt (n : Nat) (f : CtxFlags → CtxFlags) (s : State) : (modFl n f s).frameAt = s.frameAt := rfl
@[simp] theorem modFl_locked (n : Nat) (f : CtxFlags → CtxFlags) (s : State) : (modFl n f s).locked = s.locked := rfl
@[simp] theorem modFl_freeNo (n : Nat) (f : CtxFlags → CtxFlags) (s : State) : (modFl n f s).freeNo = s.freeNo := rfl
@[simp] theorem modFl_store (n : Nat) (f : CtxFlags → CtxFlags) (s : State) : (modFl n f s).store = s.store := rfl
@[simp] theorem modFl_out (n : Nat) (f : CtxFlags → CtxFlags) (s : State) : (modFl n f s).out = s.out := rfl
@[simp] theorem modFl_sys (n : Nat) (f : CtxFlags → CtxFlags) (s : State) : (modFl n f s).sys = s.sys := rfl
@[simp] theorem modFl_ses (n : Nat) (f : CtxFlags → CtxFlags) (s : State) : (modFl n f s).ses = s.ses := rfl
@[simp] theorem modFl_flt (n : Nat) (f : CtxFlags → CtxFlags) (s : State) : (modFl n f s).flt = s.flt := rfl
@[simp] theorem modFl_chain (n : Nat) (f : CtxFlags → CtxFlags) (s : State) : (modFl n f s).chain = s.chain := rfl
@[simp] theorem modFl_chctl (n : Nat) (f : CtxFlags → CtxFlags) (s : State) : (modFl n f s).chctl = s.chctl := rfl
@[simp] theorem modFl_cells (n : Nat) (f : CtxFlags → CtxFlags) (s : State) : (modFl n f s).cells = s.cells := rfl
@[simp] theorem modFl_ident (n : Nat) (f : CtxFlags → CtxFlags) (s : State) : (modFl n f s).ident = s.ident := rfl
@[simp] theorem modFl_link (n : Nat) (f : CtxFlags → CtxFlags) (s : State) : (modFl n f s).link = s.link := rfl
@[simp] theorem modFl_tb (n : Nat) (f : CtxFlags → CtxFlags) (s : State) : (modFl n f s).tb = s.tb := rfl
@[simp] theorem modFl_sp (n : Nat) (f : CtxFlags → CtxFlags) (s : State) : (modFl n f s).sp = s.sp := rfl
@[simp] theorem modFl_prot (n : Nat) (f : CtxFlags → CtxFlags) (s : State) : (modFl n f s).prot = s.prot := rfl
@[simp] theorem modFl_dsp (n : Nat) (f : CtxFlags → CtxFlags) (s : State) : (modFl n f s).dsp = s.dsp := rfl
@[simp] theorem modFl_saf (n : Nat) (f : CtxFlags → CtxFlags) (s : State) : (modFl n f s).saf = s.saf := rfl
@[simp] theorem modFl_dio (n : Nat) (f : CtxFlags → CtxFlags) (s : State) : (modFl n f s).dio = s.dio := rfl
@[simp] theorem modFl_net (n : Nat) (f : CtxFlags → CtxFlags) (s : State) : (modFl n f s).net = s.net := rfl
@[simp] theorem modFl_ptp (n : Nat) (f : CtxFlags → CtxFlags) (s : State) : (modFl n f s).ptp = s.ptp := rfl
@[simp] theorem modFl_can (n : Nat) (f : CtxFlags → CtxFlags) (s : State) : (modFl n f s).can = s.can := rfl
@[simp] theorem modFl_sup (n : Nat) (f : CtxFlags → CtxFlags) (s : State) : (modFl n f s).sup = s.sup := rfl
@[simp] theorem modFl_pair (n : Nat) (f : CtxFlags → CtxFlags) (s : State) : (modFl n f s).pair = s.pair := rfl
@[simp] theorem modFl_mem (n : Nat) (f : CtxFlags → CtxFlags) (s : State) : (modFl n f s).mem = s.mem := rfl
@[simp] theorem modFl_fw (n : Nat) (f : CtxFlags → CtxFlags) (s : State) : (modFl n f s).fw = s.fw := rfl
@[simp] theorem modFl_recd (n : Nat) (f : CtxFlags → CtxFlags) (s : State) : (modFl n f s).recd = s.recd := rfl

/-! ### One of an array: a table set -/

@[simp] theorem modSet_pending (k : Nat) (f : TblSlot → TblSlot) (s : State) : (modSet k f s).pending = s.pending := rfl
@[simp] theorem modSet_now (k : Nat) (f : TblSlot → TblSlot) (s : State) : (modSet k f s).now = s.now := rfl
@[simp] theorem modSet_frameAt (k : Nat) (f : TblSlot → TblSlot) (s : State) : (modSet k f s).frameAt = s.frameAt := rfl
@[simp] theorem modSet_locked (k : Nat) (f : TblSlot → TblSlot) (s : State) : (modSet k f s).locked = s.locked := rfl
@[simp] theorem modSet_freeNo (k : Nat) (f : TblSlot → TblSlot) (s : State) : (modSet k f s).freeNo = s.freeNo := rfl
@[simp] theorem modSet_store (k : Nat) (f : TblSlot → TblSlot) (s : State) : (modSet k f s).store = s.store := rfl
@[simp] theorem modSet_out (k : Nat) (f : TblSlot → TblSlot) (s : State) : (modSet k f s).out = s.out := rfl
@[simp] theorem modSet_sys (k : Nat) (f : TblSlot → TblSlot) (s : State) : (modSet k f s).sys = s.sys := rfl
@[simp] theorem modSet_ses (k : Nat) (f : TblSlot → TblSlot) (s : State) : (modSet k f s).ses = s.ses := rfl
@[simp] theorem modSet_flt (k : Nat) (f : TblSlot → TblSlot) (s : State) : (modSet k f s).flt = s.flt := rfl
@[simp] theorem modSet_chain (k : Nat) (f : TblSlot → TblSlot) (s : State) : (modSet k f s).chain = s.chain := rfl
@[simp] theorem modSet_chctl (k : Nat) (f : TblSlot → TblSlot) (s : State) : (modSet k f s).chctl = s.chctl := rfl
@[simp] theorem modSet_cells (k : Nat) (f : TblSlot → TblSlot) (s : State) : (modSet k f s).cells = s.cells := rfl
@[simp] theorem modSet_ident (k : Nat) (f : TblSlot → TblSlot) (s : State) : (modSet k f s).ident = s.ident := rfl
@[simp] theorem modSet_link (k : Nat) (f : TblSlot → TblSlot) (s : State) : (modSet k f s).link = s.link := rfl
@[simp] theorem modSet_tb (k : Nat) (f : TblSlot → TblSlot) (s : State) : (modSet k f s).tb = s.tb := rfl
@[simp] theorem modSet_sp (k : Nat) (f : TblSlot → TblSlot) (s : State) : (modSet k f s).sp = s.sp := rfl
@[simp] theorem modSet_prot (k : Nat) (f : TblSlot → TblSlot) (s : State) : (modSet k f s).prot = s.prot := rfl
@[simp] theorem modSet_dsp (k : Nat) (f : TblSlot → TblSlot) (s : State) : (modSet k f s).dsp = s.dsp := rfl
@[simp] theorem modSet_saf (k : Nat) (f : TblSlot → TblSlot) (s : State) : (modSet k f s).saf = s.saf := rfl
@[simp] theorem modSet_dio (k : Nat) (f : TblSlot → TblSlot) (s : State) : (modSet k f s).dio = s.dio := rfl
@[simp] theorem modSet_net (k : Nat) (f : TblSlot → TblSlot) (s : State) : (modSet k f s).net = s.net := rfl
@[simp] theorem modSet_ptp (k : Nat) (f : TblSlot → TblSlot) (s : State) : (modSet k f s).ptp = s.ptp := rfl
@[simp] theorem modSet_can (k : Nat) (f : TblSlot → TblSlot) (s : State) : (modSet k f s).can = s.can := rfl
@[simp] theorem modSet_sup (k : Nat) (f : TblSlot → TblSlot) (s : State) : (modSet k f s).sup = s.sup := rfl
@[simp] theorem modSet_pair (k : Nat) (f : TblSlot → TblSlot) (s : State) : (modSet k f s).pair = s.pair := rfl
@[simp] theorem modSet_mem (k : Nat) (f : TblSlot → TblSlot) (s : State) : (modSet k f s).mem = s.mem := rfl
@[simp] theorem modSet_fw (k : Nat) (f : TblSlot → TblSlot) (s : State) : (modSet k f s).fw = s.fw := rfl
@[simp] theorem modSet_recd (k : Nat) (f : TblSlot → TblSlot) (s : State) : (modSet k f s).recd = s.recd := rfl

/-! ### One of an array: a position under protection -/

@[simp] theorem modPp_pending (n : Nat) (f : PosProt → PosProt) (s : State) : (modPp n f s).pending = s.pending := rfl
@[simp] theorem modPp_now (n : Nat) (f : PosProt → PosProt) (s : State) : (modPp n f s).now = s.now := rfl
@[simp] theorem modPp_frameAt (n : Nat) (f : PosProt → PosProt) (s : State) : (modPp n f s).frameAt = s.frameAt := rfl
@[simp] theorem modPp_locked (n : Nat) (f : PosProt → PosProt) (s : State) : (modPp n f s).locked = s.locked := rfl
@[simp] theorem modPp_freeNo (n : Nat) (f : PosProt → PosProt) (s : State) : (modPp n f s).freeNo = s.freeNo := rfl
@[simp] theorem modPp_store (n : Nat) (f : PosProt → PosProt) (s : State) : (modPp n f s).store = s.store := rfl
@[simp] theorem modPp_out (n : Nat) (f : PosProt → PosProt) (s : State) : (modPp n f s).out = s.out := rfl
@[simp] theorem modPp_sys (n : Nat) (f : PosProt → PosProt) (s : State) : (modPp n f s).sys = s.sys := rfl
@[simp] theorem modPp_ses (n : Nat) (f : PosProt → PosProt) (s : State) : (modPp n f s).ses = s.ses := rfl
@[simp] theorem modPp_flt (n : Nat) (f : PosProt → PosProt) (s : State) : (modPp n f s).flt = s.flt := rfl
@[simp] theorem modPp_chain (n : Nat) (f : PosProt → PosProt) (s : State) : (modPp n f s).chain = s.chain := rfl
@[simp] theorem modPp_chctl (n : Nat) (f : PosProt → PosProt) (s : State) : (modPp n f s).chctl = s.chctl := rfl
@[simp] theorem modPp_cells (n : Nat) (f : PosProt → PosProt) (s : State) : (modPp n f s).cells = s.cells := rfl
@[simp] theorem modPp_est (n : Nat) (f : PosProt → PosProt) (s : State) : (modPp n f s).est = s.est := rfl
@[simp] theorem modPp_ident (n : Nat) (f : PosProt → PosProt) (s : State) : (modPp n f s).ident = s.ident := rfl
@[simp] theorem modPp_link (n : Nat) (f : PosProt → PosProt) (s : State) : (modPp n f s).link = s.link := rfl
@[simp] theorem modPp_tb (n : Nat) (f : PosProt → PosProt) (s : State) : (modPp n f s).tb = s.tb := rfl
@[simp] theorem modPp_sp (n : Nat) (f : PosProt → PosProt) (s : State) : (modPp n f s).sp = s.sp := rfl
@[simp] theorem modPp_dsp (n : Nat) (f : PosProt → PosProt) (s : State) : (modPp n f s).dsp = s.dsp := rfl
@[simp] theorem modPp_saf (n : Nat) (f : PosProt → PosProt) (s : State) : (modPp n f s).saf = s.saf := rfl
@[simp] theorem modPp_dio (n : Nat) (f : PosProt → PosProt) (s : State) : (modPp n f s).dio = s.dio := rfl
@[simp] theorem modPp_net (n : Nat) (f : PosProt → PosProt) (s : State) : (modPp n f s).net = s.net := rfl
@[simp] theorem modPp_ptp (n : Nat) (f : PosProt → PosProt) (s : State) : (modPp n f s).ptp = s.ptp := rfl
@[simp] theorem modPp_can (n : Nat) (f : PosProt → PosProt) (s : State) : (modPp n f s).can = s.can := rfl
@[simp] theorem modPp_sup (n : Nat) (f : PosProt → PosProt) (s : State) : (modPp n f s).sup = s.sup := rfl
@[simp] theorem modPp_pair (n : Nat) (f : PosProt → PosProt) (s : State) : (modPp n f s).pair = s.pair := rfl
@[simp] theorem modPp_mem (n : Nat) (f : PosProt → PosProt) (s : State) : (modPp n f s).mem = s.mem := rfl
@[simp] theorem modPp_fw (n : Nat) (f : PosProt → PosProt) (s : State) : (modPp n f s).fw = s.fw := rfl
@[simp] theorem modPp_recd (n : Nat) (f : PosProt → PosProt) (s : State) : (modPp n f s).recd = s.recd := rfl

/-! ### One of an array: Inst -/

@[simp] theorem modInst_pending (n : Nat) (f : PtpInst → PtpInst) (s : State) : (modInst n f s).pending = s.pending := rfl
@[simp] theorem modInst_now (n : Nat) (f : PtpInst → PtpInst) (s : State) : (modInst n f s).now = s.now := rfl
@[simp] theorem modInst_frameAt (n : Nat) (f : PtpInst → PtpInst) (s : State) : (modInst n f s).frameAt = s.frameAt := rfl
@[simp] theorem modInst_locked (n : Nat) (f : PtpInst → PtpInst) (s : State) : (modInst n f s).locked = s.locked := rfl
@[simp] theorem modInst_freeNo (n : Nat) (f : PtpInst → PtpInst) (s : State) : (modInst n f s).freeNo = s.freeNo := rfl
@[simp] theorem modInst_store (n : Nat) (f : PtpInst → PtpInst) (s : State) : (modInst n f s).store = s.store := rfl
@[simp] theorem modInst_out (n : Nat) (f : PtpInst → PtpInst) (s : State) : (modInst n f s).out = s.out := rfl
@[simp] theorem modInst_sys (n : Nat) (f : PtpInst → PtpInst) (s : State) : (modInst n f s).sys = s.sys := rfl
@[simp] theorem modInst_ses (n : Nat) (f : PtpInst → PtpInst) (s : State) : (modInst n f s).ses = s.ses := rfl
@[simp] theorem modInst_flt (n : Nat) (f : PtpInst → PtpInst) (s : State) : (modInst n f s).flt = s.flt := rfl
@[simp] theorem modInst_chain (n : Nat) (f : PtpInst → PtpInst) (s : State) : (modInst n f s).chain = s.chain := rfl
@[simp] theorem modInst_chctl (n : Nat) (f : PtpInst → PtpInst) (s : State) : (modInst n f s).chctl = s.chctl := rfl
@[simp] theorem modInst_cells (n : Nat) (f : PtpInst → PtpInst) (s : State) : (modInst n f s).cells = s.cells := rfl
@[simp] theorem modInst_est (n : Nat) (f : PtpInst → PtpInst) (s : State) : (modInst n f s).est = s.est := rfl
@[simp] theorem modInst_ident (n : Nat) (f : PtpInst → PtpInst) (s : State) : (modInst n f s).ident = s.ident := rfl
@[simp] theorem modInst_link (n : Nat) (f : PtpInst → PtpInst) (s : State) : (modInst n f s).link = s.link := rfl
@[simp] theorem modInst_tb (n : Nat) (f : PtpInst → PtpInst) (s : State) : (modInst n f s).tb = s.tb := rfl
@[simp] theorem modInst_sp (n : Nat) (f : PtpInst → PtpInst) (s : State) : (modInst n f s).sp = s.sp := rfl
@[simp] theorem modInst_prot (n : Nat) (f : PtpInst → PtpInst) (s : State) : (modInst n f s).prot = s.prot := rfl
@[simp] theorem modInst_dsp (n : Nat) (f : PtpInst → PtpInst) (s : State) : (modInst n f s).dsp = s.dsp := rfl
@[simp] theorem modInst_saf (n : Nat) (f : PtpInst → PtpInst) (s : State) : (modInst n f s).saf = s.saf := rfl
@[simp] theorem modInst_dio (n : Nat) (f : PtpInst → PtpInst) (s : State) : (modInst n f s).dio = s.dio := rfl
@[simp] theorem modInst_net (n : Nat) (f : PtpInst → PtpInst) (s : State) : (modInst n f s).net = s.net := rfl
@[simp] theorem modInst_can (n : Nat) (f : PtpInst → PtpInst) (s : State) : (modInst n f s).can = s.can := rfl
@[simp] theorem modInst_sup (n : Nat) (f : PtpInst → PtpInst) (s : State) : (modInst n f s).sup = s.sup := rfl
@[simp] theorem modInst_pair (n : Nat) (f : PtpInst → PtpInst) (s : State) : (modInst n f s).pair = s.pair := rfl
@[simp] theorem modInst_mem (n : Nat) (f : PtpInst → PtpInst) (s : State) : (modInst n f s).mem = s.mem := rfl
@[simp] theorem modInst_fw (n : Nat) (f : PtpInst → PtpInst) (s : State) : (modInst n f s).fw = s.fw := rfl
@[simp] theorem modInst_recd (n : Nat) (f : PtpInst → PtpInst) (s : State) : (modInst n f s).recd = s.recd := rfl

/-! ### The half of a sweep -/

@[simp] theorem modHalf_pending (r : Radio) (f : HalfSweep → HalfSweep) (s : State) : (modHalf r f s).pending = s.pending := by cases r <;> rfl
@[simp] theorem modHalf_now (r : Radio) (f : HalfSweep → HalfSweep) (s : State) : (modHalf r f s).now = s.now := by cases r <;> rfl
@[simp] theorem modHalf_frameAt (r : Radio) (f : HalfSweep → HalfSweep) (s : State) : (modHalf r f s).frameAt = s.frameAt := by cases r <;> rfl
@[simp] theorem modHalf_locked (r : Radio) (f : HalfSweep → HalfSweep) (s : State) : (modHalf r f s).locked = s.locked := by cases r <;> rfl
@[simp] theorem modHalf_freeNo (r : Radio) (f : HalfSweep → HalfSweep) (s : State) : (modHalf r f s).freeNo = s.freeNo := by cases r <;> rfl
@[simp] theorem modHalf_store (r : Radio) (f : HalfSweep → HalfSweep) (s : State) : (modHalf r f s).store = s.store := by cases r <;> rfl
@[simp] theorem modHalf_out (r : Radio) (f : HalfSweep → HalfSweep) (s : State) : (modHalf r f s).out = s.out := by cases r <;> rfl
@[simp] theorem modHalf_sys (r : Radio) (f : HalfSweep → HalfSweep) (s : State) : (modHalf r f s).sys = s.sys := by cases r <;> rfl
@[simp] theorem modHalf_ses (r : Radio) (f : HalfSweep → HalfSweep) (s : State) : (modHalf r f s).ses = s.ses := by cases r <;> rfl
@[simp] theorem modHalf_flt (r : Radio) (f : HalfSweep → HalfSweep) (s : State) : (modHalf r f s).flt = s.flt := by cases r <;> rfl
@[simp] theorem modHalf_chctl (r : Radio) (f : HalfSweep → HalfSweep) (s : State) : (modHalf r f s).chctl = s.chctl := by cases r <;> rfl
@[simp] theorem modHalf_cells (r : Radio) (f : HalfSweep → HalfSweep) (s : State) : (modHalf r f s).cells = s.cells := by cases r <;> rfl
@[simp] theorem modHalf_est (r : Radio) (f : HalfSweep → HalfSweep) (s : State) : (modHalf r f s).est = s.est := by cases r <;> rfl
@[simp] theorem modHalf_ident (r : Radio) (f : HalfSweep → HalfSweep) (s : State) : (modHalf r f s).ident = s.ident := by cases r <;> rfl
@[simp] theorem modHalf_link (r : Radio) (f : HalfSweep → HalfSweep) (s : State) : (modHalf r f s).link = s.link := by cases r <;> rfl
@[simp] theorem modHalf_tb (r : Radio) (f : HalfSweep → HalfSweep) (s : State) : (modHalf r f s).tb = s.tb := by cases r <;> rfl
@[simp] theorem modHalf_sp (r : Radio) (f : HalfSweep → HalfSweep) (s : State) : (modHalf r f s).sp = s.sp := by cases r <;> rfl
@[simp] theorem modHalf_prot (r : Radio) (f : HalfSweep → HalfSweep) (s : State) : (modHalf r f s).prot = s.prot := by cases r <;> rfl
@[simp] theorem modHalf_dsp (r : Radio) (f : HalfSweep → HalfSweep) (s : State) : (modHalf r f s).dsp = s.dsp := by cases r <;> rfl
@[simp] theorem modHalf_saf (r : Radio) (f : HalfSweep → HalfSweep) (s : State) : (modHalf r f s).saf = s.saf := by cases r <;> rfl
@[simp] theorem modHalf_dio (r : Radio) (f : HalfSweep → HalfSweep) (s : State) : (modHalf r f s).dio = s.dio := by cases r <;> rfl
@[simp] theorem modHalf_net (r : Radio) (f : HalfSweep → HalfSweep) (s : State) : (modHalf r f s).net = s.net := by cases r <;> rfl
@[simp] theorem modHalf_ptp (r : Radio) (f : HalfSweep → HalfSweep) (s : State) : (modHalf r f s).ptp = s.ptp := by cases r <;> rfl
@[simp] theorem modHalf_can (r : Radio) (f : HalfSweep → HalfSweep) (s : State) : (modHalf r f s).can = s.can := by cases r <;> rfl
@[simp] theorem modHalf_sup (r : Radio) (f : HalfSweep → HalfSweep) (s : State) : (modHalf r f s).sup = s.sup := by cases r <;> rfl
@[simp] theorem modHalf_pair (r : Radio) (f : HalfSweep → HalfSweep) (s : State) : (modHalf r f s).pair = s.pair := by cases r <;> rfl
@[simp] theorem modHalf_mem (r : Radio) (f : HalfSweep → HalfSweep) (s : State) : (modHalf r f s).mem = s.mem := by cases r <;> rfl
@[simp] theorem modHalf_fw (r : Radio) (f : HalfSweep → HalfSweep) (s : State) : (modHalf r f s).fw = s.fw := by cases r <;> rfl
@[simp] theorem modHalf_recd (r : Radio) (f : HalfSweep → HalfSweep) (s : State) : (modHalf r f s).recd = s.recd := by cases r <;> rfl

/-! ### A set-point source -/

@[simp] theorem modSource_pending (k : ExtSource) (f : Source → Source) (s : State) : (modSource k f s).pending = s.pending := by cases k <;> rfl
@[simp] theorem modSource_now (k : ExtSource) (f : Source → Source) (s : State) : (modSource k f s).now = s.now := by cases k <;> rfl
@[simp] theorem modSource_frameAt (k : ExtSource) (f : Source → Source) (s : State) : (modSource k f s).frameAt = s.frameAt := by cases k <;> rfl
@[simp] theorem modSource_locked (k : ExtSource) (f : Source → Source) (s : State) : (modSource k f s).locked = s.locked := by cases k <;> rfl
@[simp] theorem modSource_freeNo (k : ExtSource) (f : Source → Source) (s : State) : (modSource k f s).freeNo = s.freeNo := by cases k <;> rfl
@[simp] theorem modSource_store (k : ExtSource) (f : Source → Source) (s : State) : (modSource k f s).store = s.store := by cases k <;> rfl
@[simp] theorem modSource_out (k : ExtSource) (f : Source → Source) (s : State) : (modSource k f s).out = s.out := by cases k <;> rfl
@[simp] theorem modSource_sys (k : ExtSource) (f : Source → Source) (s : State) : (modSource k f s).sys = s.sys := by cases k <;> rfl
@[simp] theorem modSource_ses (k : ExtSource) (f : Source → Source) (s : State) : (modSource k f s).ses = s.ses := by cases k <;> rfl
@[simp] theorem modSource_flt (k : ExtSource) (f : Source → Source) (s : State) : (modSource k f s).flt = s.flt := by cases k <;> rfl
@[simp] theorem modSource_chain (k : ExtSource) (f : Source → Source) (s : State) : (modSource k f s).chain = s.chain := by cases k <;> rfl
@[simp] theorem modSource_chctl (k : ExtSource) (f : Source → Source) (s : State) : (modSource k f s).chctl = s.chctl := by cases k <;> rfl
@[simp] theorem modSource_cells (k : ExtSource) (f : Source → Source) (s : State) : (modSource k f s).cells = s.cells := by cases k <;> rfl
@[simp] theorem modSource_est (k : ExtSource) (f : Source → Source) (s : State) : (modSource k f s).est = s.est := by cases k <;> rfl
@[simp] theorem modSource_ident (k : ExtSource) (f : Source → Source) (s : State) : (modSource k f s).ident = s.ident := by cases k <;> rfl
@[simp] theorem modSource_link (k : ExtSource) (f : Source → Source) (s : State) : (modSource k f s).link = s.link := by cases k <;> rfl
@[simp] theorem modSource_tb (k : ExtSource) (f : Source → Source) (s : State) : (modSource k f s).tb = s.tb := by cases k <;> rfl
@[simp] theorem modSource_prot (k : ExtSource) (f : Source → Source) (s : State) : (modSource k f s).prot = s.prot := by cases k <;> rfl
@[simp] theorem modSource_dsp (k : ExtSource) (f : Source → Source) (s : State) : (modSource k f s).dsp = s.dsp := by cases k <;> rfl
@[simp] theorem modSource_saf (k : ExtSource) (f : Source → Source) (s : State) : (modSource k f s).saf = s.saf := by cases k <;> rfl
@[simp] theorem modSource_dio (k : ExtSource) (f : Source → Source) (s : State) : (modSource k f s).dio = s.dio := by cases k <;> rfl
@[simp] theorem modSource_net (k : ExtSource) (f : Source → Source) (s : State) : (modSource k f s).net = s.net := by cases k <;> rfl
@[simp] theorem modSource_ptp (k : ExtSource) (f : Source → Source) (s : State) : (modSource k f s).ptp = s.ptp := by cases k <;> rfl
@[simp] theorem modSource_can (k : ExtSource) (f : Source → Source) (s : State) : (modSource k f s).can = s.can := by cases k <;> rfl
@[simp] theorem modSource_sup (k : ExtSource) (f : Source → Source) (s : State) : (modSource k f s).sup = s.sup := by cases k <;> rfl
@[simp] theorem modSource_pair (k : ExtSource) (f : Source → Source) (s : State) : (modSource k f s).pair = s.pair := by cases k <;> rfl
@[simp] theorem modSource_mem (k : ExtSource) (f : Source → Source) (s : State) : (modSource k f s).mem = s.mem := by cases k <;> rfl
@[simp] theorem modSource_fw (k : ExtSource) (f : Source → Source) (s : State) : (modSource k f s).fw = s.fw := by cases k <;> rfl
@[simp] theorem modSource_recd (k : ExtSource) (f : Source → Source) (s : State) : (modSource k f s).recd = s.recd := by cases k <;> rfl

end Sys2Proof.Laws
end

