-- ==== Sys2Proof/Laws/Store.lean ====
section
/-! SUPPORT. The configuration store: reading after writing, the canonical form, and which effects keep that form. -/
namespace Sys2Proof.Laws
open Sys2Proof Sys2Proof.Machine

/-! ### Reading and writing by address -/

theorem storeWf_iff (st : List (Nat × Val)) : storeWf st = true ↔ st.Pairwise (fun a b => a.1 < b.1) := by
  simp [storeWf, List.pairwise_map]

theorem mem_storeIns {a : Nat} {x : Val} {st : List (Nat × Val)} {p : Nat × Val} (h : p ∈ storeIns a x st) :
    p = (a, x) ∨ p ∈ st := by
  induction st with
  | nil => simpa [storeIns] using h
  | cons q r ih =>
    obtain ⟨b, v⟩ := q
    simp only [storeIns] at h
    split at h
    · rcases List.mem_cons.1 h with h | h <;> simp [h]
    · split at h
      · rcases List.mem_cons.1 h with h | h <;> simp [h]
      · rcases List.mem_cons.1 h with h | h
        · simp [h]
        · rcases ih h with h | h <;> simp [h]

theorem mem_storeDel {a : Nat} {st : List (Nat × Val)} {p : Nat × Val} (h : p ∈ storeDel a st) : p ∈ st := by
  induction st with
  | nil => simp [storeDel] at h
  | cons q r ih =>
    obtain ⟨b, v⟩ := q
    simp only [storeDel] at h
    split at h
    · simp [h]
    · split at h
      · exact h
      · rcases List.mem_cons.1 h with h | h
        · simp [h]
        · simp [ih h]

theorem storeIns_wf (a : Nat) (x : Val) {st : List (Nat × Val)} (h : storeWf st = true) : storeWf (storeIns a x st) = true := by
  rw [storeWf_iff] at *
  induction st with
  | nil => simp [storeIns]
  | cons q r ih =>
    obtain ⟨b, v⟩ := q
    obtain ⟨hb, hr⟩ := List.pairwise_cons.1 h
    simp only [storeIns]
    split
    · rename_i hab
      have : b = a := by simpa using hab
      exact List.pairwise_cons.2 ⟨fun p hp => this ▸ hb p hp, hr⟩
    · split
      · rename_i hlt
        refine List.pairwise_cons.2 ⟨fun p hp => ?_, h⟩
        rcases List.mem_cons.1 hp with rfl | hp
        · exact hlt
        · exact lt_trans hlt (hb p hp)
      · rename_i hne hlt
        refine List.pairwise_cons.2 ⟨fun p hp => ?_, ih hr⟩
        rcases mem_storeIns hp with rfl | hp
        · have : b ≠ a := by simpa using hne
          simp only at *
          omega
        · exact hb p hp

theorem storeDel_wf (a : Nat) {st : List (Nat × Val)} (h : storeWf st = true) : storeWf (storeDel a st) = true := by
  rw [storeWf_iff] at *
  induction st with
  | nil => simp [storeDel]
  | cons q r ih =>
    obtain ⟨b, v⟩ := q
    obtain ⟨hb, hr⟩ := List.pairwise_cons.1 h
    simp only [storeDel]
    split
    · exact hr
    · split
      · exact h
      · exact List.pairwise_cons.2 ⟨fun p hp => hb p (mem_storeDel hp), ih hr⟩

theorem storePut_wf (a : Nat) (d x : Val) {st : List (Nat × Val)} (h : storeWf st = true) : storeWf (storePut a d x st) = true := by
  unfold storePut
  split
  · exact storeDel_wf a h
  · exact storeIns_wf a x h

theorem storeFilter_wf (p : Nat × Val → Bool) {st : List (Nat × Val)} (h : storeWf st = true) : storeWf (st.filter p) = true := by
  rw [storeWf_iff] at *
  exact h.filter p

/-- A value just inserted is read back. -/
theorem storeGet_storeIns_same (a : Nat) (x : Val) (st : List (Nat × Val)) : storeGet a (storeIns a x st) = some x := by
  induction st with
  | nil => simp [storeIns, storeGet]
  | cons q r ih =>
    obtain ⟨b, v⟩ := q
    simp only [storeIns]
    split
    · simp [storeGet]
    · split
      · simp [storeGet]
      · rename_i h1 h2
        have h1' : ¬ b = a := by simpa using h1
        simp [storeGet, h1', h2, ih]

/-- An insertion at one address leaves every other. -/
theorem storeGet_storeIns_other {a c : Nat} (x : Val) {st : List (Nat × Val)} (h : c ≠ a) (hw : storeWf st = true) :
    storeGet c (storeIns a x st) = storeGet c st := by
  rw [storeWf_iff] at hw
  induction st with
  | nil => simp [storeIns, storeGet, Ne.symm h]
  | cons q r ih =>
    obtain ⟨b, v⟩ := q
    obtain ⟨hb, hr⟩ := List.pairwise_cons.1 hw
    simp only [storeIns]
    split
    · rename_i hab
      have : b = a := by simpa using hab
      subst this
      simp [storeGet, Ne.symm h]
    · split
      · rename_i hne hlt
        simp only [storeGet]
        have : ¬ a = c := fun e => h e.symm
        simp only [beq_iff_eq, this, if_false]
        split
        · rename_i hca
          have : ¬ b = c := by omega
          have : c < b := by omega
          simp [*]
        · rfl
      · simp only [storeGet, ih hr]

/-- A deletion at an address leaves nothing there. -/
theorem storeGet_storeDel_same (a : Nat) {st : List (Nat × Val)} (hw : storeWf st = true) : storeGet a (storeDel a st) = none := by
  rw [storeWf_iff] at hw
  induction st with
  | nil => rfl
  | cons q r ih =>
    obtain ⟨b, v⟩ := q
    obtain ⟨hb, hr⟩ := List.pairwise_cons.1 hw
    simp only [storeDel]
    split
    · rename_i hab
      have hba : b = a := by simpa using hab
      cases r with
      | nil => rfl
      | cons t r' =>
        have : b < t.1 := hb t (by simp)
        obtain ⟨c, w⟩ := t
        simp only at this
        have h1 : ¬ c = a := by omega
        have h2 : a < c := by omega
        simp [storeGet, h1, h2]
    · split
      · rename_i h1 h2
        have h1' : ¬ b = a := by simpa using h1
        simp [storeGet, h1', h2]
      · rename_i h1 h2
        have h1' : ¬ b = a := by simpa using h1
        simp [storeGet, h1', h2, ih hr]

/-- A deletion at one address leaves every other. -/
theorem storeGet_storeDel_other {a c : Nat} {st : List (Nat × Val)} (h : c ≠ a) (hw : storeWf st = true) :
    storeGet c (storeDel a st) = storeGet c st := by
  rw [storeWf_iff] at hw
  induction st with
  | nil => rfl
  | cons q r ih =>
    obtain ⟨b, v⟩ := q
    obtain ⟨hb, hr⟩ := List.pairwise_cons.1 hw
    simp only [storeDel]
    split
    · rename_i hab
      have hba : b = a := by simpa using hab
      have hbc : ¬ b = c := by omega
      simp only [storeGet, beq_iff_eq, hbc, if_false]
      split
      · rename_i hlt
        cases r with
        | nil => rfl
        | cons t r' =>
          have : b < t.1 := hb t (by simp)
          obtain ⟨d, w⟩ := t
          simp only at this
          have h1 : ¬ d = c := by omega
          have h2 : c < d := by omega
          simp [storeGet, h1, h2]
      · rfl
    · split
      · rfl
      · simp only [storeGet, ih hr]

/-- Reading back a value put under an address, with its default. -/
theorem storeGet_storePut_same (a : Nat) (d x : Val) {st : List (Nat × Val)} (hw : storeWf st = true) :
    (storeGet a (storePut a d x st)).getD d = x := by
  unfold storePut
  split
  · rename_i h
    simp [storeGet_storeDel_same a hw, h]
  · simp [storeGet_storeIns_same]

theorem storeGet_storePut_other {a c : Nat} (d x : Val) {st : List (Nat × Val)} (h : c ≠ a) (hw : storeWf st = true) :
    storeGet c (storePut a d x st) = storeGet c st := by
  unfold storePut
  split
  · exact storeGet_storeDel_other h hw
  · exact storeGet_storeIns_other x h hw

/-! ### The value in force -/

/-- A value put in force is in force. -/
theorem cfgVal_setCfg_same (e : Entry) (k : Nat) (v : Val) {s : State} (h : StoreInv s) : cfgVal e k (setCfg e k v s) = v := by
  simpa [cfgVal] using storeGet_storePut_same (entryAddr e k) e.dflt v h

/-- Any other address keeps its value. -/
theorem cfgVal_setCfg_other {e f : Entry} {k j : Nat} (v : Val) {s : State} (hne : entryAddr f j ≠ entryAddr e k) (h : StoreInv s) :
    cfgVal f j (setCfg e k v s) = cfgVal f j s := by
  simp [cfgVal, storeGet_storePut_other e.dflt v hne h]

/-! ### Effects that keep the canonical form -/

/-- An effect that keeps the store canonical. -/
def KeepsInv (f : State → State) : Prop := ∀ s, StoreInv s → StoreInv (f s)

theorem keepsInv_of_store {f : State → State} (h : ∀ s, (f s).store = s.store) : KeepsInv f := fun s hs => by
  unfold StoreInv at *
  rw [h s]
  exact hs

theorem keep_inv (f : State → State) : KeepsInv (keep f) := keepsInv_of_store fun _ => rfl

theorem comp_inv {f g : State → State} (hf : KeepsInv f) (hg : KeepsInv g) : KeepsInv fun s => f (g s) :=
  fun s hs => hf _ (hg s hs)

theorem ite_inv {f g : State → State} {p : State → Bool} (hf : KeepsInv f) (hg : KeepsInv g) :
    KeepsInv fun s => if p s then f s else g s := fun s hs => by
  dsimp only
  split
  · exact hf s hs
  · exact hg s hs

theorem guardOn_inv {f : State → State} (p : Bool) (hf : KeepsInv f) : KeepsInv (guardOn p f) := fun s hs => by
  unfold guardOn
  split
  · exact hf s hs
  · exact hs

theorem foldl_inv {α : Type} (xs : List α) (f : State → α → State) (h : ∀ x s, StoreInv s → StoreInv (f s x)) (s : State) (hs : StoreInv s) :
    StoreInv (xs.foldl f s) := by
  induction xs generalizing s with
  | nil => exact hs
  | cons x xs ih => exact ih _ (h x s hs)

theorem forAll_inv {α : Type} (xs : List α) (f : α → State → State) (h : ∀ x, KeepsInv (f x)) : KeepsInv (forAll xs f) :=
  fun s hs => foldl_inv xs (fun s x => f x s) (fun x s hs => h x s hs) s hs

theorem setCfg_inv (e : Entry) (k : Nat) (v : Val) : KeepsInv (setCfg e k v) := fun _ hs => storePut_wf _ _ _ hs

theorem setCfgI_inv (e : Entry) (k : Nat) (v : Int) : KeepsInv (setCfgI e k v) := setCfg_inv e k (.num v)

theorem withSq_inv {f : State → State} (hf : KeepsInv f) : KeepsInv (withSq f) := fun s hs => keep_inv _ _ (hf s hs)

end Sys2Proof.Laws
end

