-- ==== Sys2Proof/Laws/Effects.lean ====
section
/-! SUPPORT. Every shared effect that writes the configuration keeps its canonical form: values, sets, journal entries, resets. -/
namespace Sys2Proof.Laws
open Sys2Proof Sys2Proof.Machine

/-! ### Leads and units -/

theorem setLead_inv (h k : Nat) (r : Int) (src : LeadSrc) : KeepsInv (setLead h k r src) := fun s hs => by
  unfold setLead
  dsimp only
  split <;> split <;> first
    | exact hs
    | exact setCfgI_inv _ _ _ _ hs
    | exact setCfgI_inv _ _ _ _ (setCfgI_inv _ _ _ _ hs)

theorem writeLead_inv (n : Nat) (hi : Bool) (r : Int) : KeepsInv (writeLead n hi r) := fun s hs => by
  unfold writeLead
  dsimp only
  split
  · refine setLead_inv _ _ _ _ _ ?_
    split <;> exact setCfgI_inv _ _ _ _ hs
  · split <;> exact setCfgI_inv _ _ _ _ hs

theorem shareLeads_inv (h : Nat) : KeepsInv (shareLeads h) := fun s hs => by
  unfold shareLeads
  refine forAll_inv _ _ (fun k s hs => ?_) s hs
  dsimp only
  split <;> exact setLead_inv _ _ _ _ _ hs

theorem shareAll_inv : KeepsInv shareAll := fun s hs =>
  guardOn_inv _ (fun _ hs => forAll_inv _ _ (fun h => shareLeads_inv h) _ hs) s hs

theorem raiseAt_store (t c i : Nat) (s : State) : (raiseAt t c i s).store = s.store := by
  unfold raiseAt
  split <;> rfl

@[simp] theorem raiseF_store (c i : Nat) (s : State) : (raiseF c i s).store = s.store := raiseAt_store _ _ _ _

theorem raiseF_inv (c i : Nat) : KeepsInv (raiseF c i) := keepsInv_of_store (raiseF_store c i)

theorem learnSample_inv (h k : Nat) (x : Int) : KeepsInv (learnSample h k x) := fun s hs => by
  unfold learnSample
  dsimp only
  split
  · exact raiseF_inv _ _ _ hs
  · split
    · exact setLead_inv _ _ _ _ _ hs
    · exact hs

theorem learnNode_inv (h : Nat) (x y z : List Nat) (b : Nat) : KeepsInv (learnNode h x y z b) := fun s hs => by
  unfold learnNode
  refine forAll_inv _ _ (fun i s hs => ?_) s hs
  dsimp only
  split
  · exact hs
  · split <;> split <;> split <;> (try split) <;> first
      | exact hs
      | exact learnSample_inv _ _ _ _ hs
      | exact learnSample_inv _ _ _ _ (learnSample_inv _ _ _ _ hs)

theorem learnSweep_inv : KeepsInv learnSweep := fun s hs => by
  unfold learnSweep
  split
  · exact hs
  · dsimp only
    split
    · exact hs
    · split
      · exact hs
      · split
        · split
          · exact hs
          · refine forAll_inv _ _ (fun h s hs => ?_) _ hs
            split
            · exact learnNode_inv _ _ _ _ _ _ hs
            · exact hs
        · split <;> exact hs

theorem sweepComplete_inv : KeepsInv sweepComplete := fun _ hs => keep_inv _ _ (learnSweep_inv _ (keep_inv _ _ hs))

theorem completeIfDone_inv : KeepsInv completeIfDone := fun s hs => by
  unfold completeIfDone
  split
  · exact sweepComplete_inv s hs
  · exact hs

theorem mapIfKnown_inv : KeepsInv mapIfKnown := fun s hs =>
  guardOn_inv _ (fun _ hs => keep_inv _ _ (shareAll_inv _ (keep_inv _ _ hs))) s hs

theorem takeSettings_inv : KeepsInv takeSettings := fun s hs => by
  unfold takeSettings
  dsimp only
  split
  · exact hs
  · exact setCfgI_inv _ _ _ _ (forAll_inv _ _ (fun _ s hs => forAll_inv _ _ (fun _ s hs => setCfgI_inv _ _ _ s hs) s hs) s hs)

/-! ### Values, sets and accepted work -/

theorem putValue_inv (e : Entry) (k : Nat) (v : Val) : KeepsInv (putValue e k v) := fun s hs => by
  unfold putValue
  have h : StoreInv (if wakesE e then keep wakeE s else s) := by
    split
    · exact keep_inv _ _ hs
    · exact hs
  dsimp only
  generalize (if wakesE e then keep wakeE s else s) = t at h ⊢
  split
  · exact writeLead_inv _ _ _ _ h
  · split
    · exact writeLead_inv _ _ _ _ h
    · exact keep_inv _ _ (setCfg_inv _ _ _ _ h)

theorem applySet_inv (set : List (Nat × Val)) : KeepsInv (applySet set) := fun s hs =>
  forAll_inv _ _ (fun x s hs => by
    split
    · exact putValue_inv _ _ _ _ hs
    · exact hs) s hs

@[simp] theorem markDone_store (j : Nat) (s : State) : (markDone j s).store = s.store := rfl

theorem markDone_inv (j : Nat) : KeepsInv (markDone j) := keepsInv_of_store (markDone_store j)

theorem applyDue_inv (due : List (Nat × List (Nat × Val))) : KeepsInv (applyDue due) := fun s hs =>
  forAll_inv _ _ (fun _ _ hs => markDone_inv _ _ (applySet_inv _ _ hs)) s hs

theorem overlay_inv (set : List (Nat × Val)) : KeepsInv (overlay set) := fun s hs =>
  foldl_inv _ _ (fun x s hs => by
    split
    · exact setCfg_inv _ _ _ _ hs
    · exact hs) s hs

theorem writeEffect_inv (own : Bool) (ses : Nat) (e : Entry) (k : Nat) (bs : List Byte) (j : Nat) :
    KeepsInv (writeEffect own ses e k bs j) := fun s hs => by
  unfold writeEffect
  split
  · exact hs
  · split <;> first
      | exact hs
      | exact putValue_inv _ _ _ _ hs
      | (split <;> exact hs)

theorem valueEffect_inv (own : Bool) (r : Req) (st : Nat) (bs : List Byte) (j : Nat) : KeepsInv (valueEffect own r st bs j) :=
  fun s hs => by
  unfold valueEffect
  split
  · split
    · exact writeEffect_inv _ _ _ _ _ _ _ hs
    · split <;> exact keep_inv _ _ hs
  · exact hs

theorem chunkEffect_inv (own : Bool) (r : Req) (st j : Nat) (b : Option BlockBuf) : KeepsInv (chunkEffect own r st j b) :=
  fun s hs => by
  unfold chunkEffect
  have go (p : Bool) : StoreInv (if p then keep deltaWrite s else s) := by
    split
    · exact keep_inv _ _ hs
    · exact hs
  dsimp only
  split
  · exact hs
  · split
    · exact valueEffect_inv _ _ _ _ _ _ (go _)
    · exact go _
    · exact go _

theorem outerEffect_inv (own : Bool) (r : Req) (st j : Nat) (x : Session) : KeepsInv (outerEffect own r st j x) :=
  fun s hs => by
  unfold outerEffect
  split
  · exact valueEffect_inv _ _ _ _ _ _ hs
  · exact chunkEffect_inv _ _ _ _ _ _ hs
  · split
    · exact keep_inv _ _ hs
    · exact hs
  · split <;> exact hs
  · exact keep_inv _ _ hs
  · exact hs

theorem requestEffect_inv (own : Bool) (r : Req) (p : Reply) : KeepsInv (requestEffect own r p) := fun s hs => by
  unfold requestEffect
  split
  · exact keep_inv _ _ hs
  · exact keep_inv _ _ (outerEffect_inv _ _ _ _ _ _ hs)

theorem release_inv (j : Nat) (w : Work) : KeepsInv (release j w) := fun s hs => by
  unfold release
  split
  · dsimp only
    split
    · exact keep_inv _ _ hs
    · exact keep_inv _ _ (requestEffect_inv _ _ _ _ hs)
  · exact keep_inv _ _ hs

theorem commitEntry_inv (w : Work) : KeepsInv (commitEntry w) := fun s hs => by
  unfold commitEntry
  dsimp only
  split
  · exact hs
  · exact release_inv _ _ _ hs

theorem commitWork_inv (w : Work) : KeepsInv (commitWork w) := fun s hs => by
  unfold commitWork
  split
  · split
    · dsimp only
      split
      · exact keep_inv _ _ hs
      · split
        · split
          · exact hs
          · exact commitEntry_inv _ _ hs
        · exact keep_inv _ _ hs
    · exact commitEntry_inv _ _ hs
  · exact commitEntry_inv _ _ hs

@[simp] theorem reclaim_store (s : State) : (reclaim s).store = s.store := rfl

theorem reclaim_inv : KeepsInv reclaim := keepsInv_of_store reclaim_store

/-- Sending a content on the mirror link leaves the configuration. -/
@[simp] theorem sendMirror_store (c : Nat) (b : List Byte) (s : State) : (sendMirror c b s).store = s.store := by
  have go (ps : List (List Byte)) : ∀ s : State, (forAll ps (sendFrame c) s).store = s.store := by
    unfold forAll
    induction ps with
    | nil => exact fun _ => rfl
    | cons p ps ih => exact fun s => (ih _).trans rfl
  exact go _ s

theorem sendMirror_inv (c : Nat) (b : List Byte) : KeepsInv (sendMirror c b) := keepsInv_of_store (sendMirror_store c b)

/-- A frame of a class: what uses its content keeps the form. -/
theorem mirrorTake_inv (c : Nat) (l : Lane) (f : List Byte) {use : List Byte → State → State} (h : ∀ b, KeepsInv (use b)) :
    KeepsInv (mirrorTake c l f use) := fun s hs => by
  unfold mirrorTake
  split
  · exact hs
  · dsimp only
    split
    · exact hs
    · split
      · exact hs
      · exact h _ _ hs

theorem commitBatch_inv : KeepsInv commitBatch := fun s hs => by
  unfold commitBatch
  split
  · exact hs
  · have h := forAll_inv (s.ses.batch.take 64) commitWork commitWork_inv
      (modSes (fun r => { r with batch := r.batch.drop 64 }) s) hs
    dsimp only
    refine reclaim_inv _ ?_
    split
    · exact sendMirror_inv _ _ _ h
    · exact h

theorem releaseAll_inv (xs : List (Nat × Work)) : KeepsInv (forAll xs fun a s => release a.1 a.2 s) :=
  forAll_inv _ _ fun a => release_inv a.1 a.2

theorem releaseUpTo_inv (j : Nat) : KeepsInv (releaseUpTo j) := fun s hs => by
  unfold releaseUpTo
  refine reclaim_inv _ (releaseAll_inv _ _ ?_)
  exact hs

theorem releaseIfAlone_inv : KeepsInv releaseIfAlone := fun s hs => by
  unfold releaseIfAlone
  split
  · exact releaseUpTo_inv _ _ hs
  · exact hs

theorem journalAck_inv (j : Nat) : KeepsInv (journalAck j) := fun s hs => by
  unfold journalAck
  refine guardOn_inv _ (fun s hs => releaseUpTo_inv _ _ ?_) s hs
  exact hs

/-! ### The partner's journal and the replay -/

theorem idleEntry_inv (e : JMirror) : KeepsInv (idleEntry e) := fun s hs => by
  unfold idleEntry
  dsimp only
  split
  · exact applySet_inv _ _ hs
  · exact hs

theorem replicaEffect_inv (e : JMirror) : KeepsInv (replicaEffect e) := fun s hs => by
  unfold replicaEffect
  split
  · exact requestEffect_inv _ _ _ _ hs
  · exact keep_inv _ _ hs
  · exact keep_inv _ _ hs
  · exact idleEntry_inv _ _ hs
  · exact keep_inv _ _ hs
  · exact hs

theorem replicaEntry_inv (e : JMirror) : KeepsInv (replicaEntry e) := fun s hs => by
  unfold replicaEntry
  split
  · exact replicaEffect_inv _ _ hs
  · exact hs

theorem mirrorJournal_inv (es : List JMirror) : KeepsInv (mirrorJournal es) := fun s hs =>
  guardOn_inv _ (fun s hs => by
    exact reclaim_inv _ (forAll_inv es replicaEntry replicaEntry_inv s hs)) s hs

theorem mirrorBulk_inv (m : BulkMirror) : KeepsInv (mirrorBulk m) := fun s hs =>
  guardOn_inv _ (fun s _ => keep_inv _ _ (overlay_inv _ _ (by rfl))) s hs

theorem mirrorState_inv (m : StateMirror) : KeepsInv (mirrorState m) := fun s hs =>
  guardOn_inv _ (withSq_inv fun s hs => keep_inv _ _ (by
    refine forAll_inv _ _ (fun x s hs => ?_) _ (setCfgI_inv _ _ _ _ (setCfgI_inv _ _ _ _ hs))
    split
    · split
      · exact setCfg_inv _ _ _ _ hs
      · exact hs
    · exact hs)) s hs

theorem takeCut_inv : KeepsInv takeCut := fun s hs => by
  unfold takeCut
  split
  · exact keep_inv _ _ hs
  · exact hs

theorem replay_inv : KeepsInv replay := fun s hs => by
  unfold replay
  have h := takeCut_inv s hs
  dsimp only
  generalize takeCut s = t at h ⊢
  have h2 := applyDue_inv t.ses.toApply (modSes (fun r => { r with toApply := [], replayed := true }) t) h
  split
  · exact keep_inv _ _ h2
  · exact h2

theorem tierLimited_inv : KeepsInv tierLimited := fun s hs => guardOn_inv _ (fun _ hs => keep_inv _ _ (replay_inv _ hs)) s hs

/-! ### Resets and shutdowns -/

theorem resetModule_inv (c : ResetCause) : KeepsInv (resetModule c) := fun s hs => by
  have h : StoreInv (coldState (recordCause c s)) := storeFilter_wf _ hs
  unfold resetModule
  dsimp only
  split
  · exact raiseF_inv _ _ _ h
  · exact h

theorem resetPowered_inv (c : ResetCause) : KeepsInv (resetPowered c) := fun s hs => by
  unfold resetPowered
  split
  · exact hs
  · exact resetModule_inv _ _ hs

theorem islandHang_inv (i : Island) : KeepsInv (islandHang i) := fun s hs => by
  unfold islandHang
  split
  · exact resetModule_inv _ _ hs
  · exact keep_inv _ _ hs

theorem finishShutdown_inv (c : ResetCause) : KeepsInv (finishShutdown c) := fun _ hs => resetModule_inv _ _ (keep_inv _ _ hs)

theorem downBoundary_inv : KeepsInv downBoundary := fun s hs => by
  unfold downBoundary
  split
  · exact hs
  · split
    · split
      · exact resetModule_inv _ _ hs
      · exact finishShutdown_inv _ _ hs
    · exact hs

theorem shutdownStart_inv (w : ShutdownWhy) : KeepsInv (shutdownStart w) := fun s hs => by
  unfold shutdownStart
  split
  · split <;> exact hs
  · split
    · exact resetModule_inv _ _ hs
    · exact hs
  · split
    · exact resetModule_inv _ _ hs
    · exact hs
  · split
    · exact hs
    · dsimp only
      split
      · exact finishShutdown_inv _ _ (keep_inv _ _ hs)
      · exact keep_inv _ _ hs

theorem holdupGauge_inv (v b p : Nat) : KeepsInv (holdupGauge v b p) := fun s hs => by
  unfold holdupGauge
  split
  · have h := keep_inv (gaugeTaken v b p) s hs
    generalize keep (gaugeTaken v b p) s = t at h ⊢
    dsimp only
    split
    · exact shutdownStart_inv _ _ (keep_inv _ _ h)
    · exact h
  · exact hs

theorem containBlock_inv (r : Nat) (raw : List Byte) : KeepsInv (containBlock r raw) := fun s hs => by
  unfold containBlock
  split
  · split
    · exact resetModule_inv _ _ hs
    · exact keep_inv _ _ hs
    · exact hs
  · exact hs

theorem scrubStep_inv (r t : Nat) (x y : List Byte) : KeepsInv (scrubStep r t x y) := fun s hs => by
  unfold scrubStep guardOn
  split
  · exact containBlock_inv _ _ _ (keep_inv _ (atTime t s) hs)
  · exact hs

/-! ### Safety parameters and dispatch -/

theorem paramWrite_inv (i sub : Nat) (v : List Byte) (s : State) (hs : StoreInv s) : StoreInv (paramWrite i sub v s).2 := by
  unfold paramWrite
  repeat' split
  all_goals first
    | exact hs
    | exact keep_inv _ _ (setCfg_inv _ _ _ _ hs)

theorem paramMessage_inv (b : List Byte) (t : Nat) : KeepsInv (paramMessage b t) := fun s hs => by
  unfold paramMessage
  split
  · exact hs
  · dsimp only
    split
    · exact keep_inv _ _ (paramWrite_inv _ _ _ _ (keep_inv _ _ hs))
    · exact keep_inv _ _ hs

theorem dispatchWrite_inv (w : DspWrite) : KeepsInv (dispatchWrite w) := fun s hs => by
  unfold dispatchWrite
  dsimp only
  split <;> exact keep_inv _ _ (setCfgI_inv _ _ _ _ (setCfgI_inv _ _ _ _ hs))

theorem dispatchTimeout_inv : KeepsInv dispatchTimeout := fun s hs =>
  guardOn_inv _ (fun s hs => by
    dsimp only
    split
    · exact keep_inv _ _ hs
    · split <;> exact setCfgI_inv _ _ _ _ (keep_inv _ _ hs)
    · exact keep_inv _ _ (keep_inv _ _ hs)) s hs

/-! ### The frame -/

theorem applyIdle_inv (i : IdleSet) : KeepsInv (applyIdle i) := fun s hs => by
  unfold applyIdle
  split
  · exact keep_inv _ _ hs
  · exact keep_inv _ _ (applySet_inv _ _ hs)

theorem applyCommitted_inv : KeepsInv applyCommitted := fun s hs => by
  unfold applyCommitted
  refine guardOn_inv _ (fun s hs => applyDue_inv _ _ ?_) s hs
  exact hs

theorem atIdleApply_inv : KeepsInv atIdleApply := fun s hs =>
  guardOn_inv _ (fun _ hs => forAll_inv _ _ applyIdle_inv _ hs) s hs

theorem boundary_inv : KeepsInv boundary := fun _ hs =>
  keep_inv _ _ (atIdleApply_inv _ (applyCommitted_inv _ (keep_inv _ _ hs)))

theorem answerDispatch_inv (w : DspWrite) : KeepsInv (answerDispatch w) := fun s hs => by
  unfold answerDispatch
  split
  · exact keep_inv _ _ (dispatchWrite_inv _ _ hs)
  · exact keep_inv _ _ hs

theorem step7_inv : KeepsInv step7 := fun s hs => by
  unfold step7
  dsimp only
  split
  · exact hs
  · exact forAll_inv _ _ answerDispatch_inv _ (keep_inv _ _ hs)

theorem step9_inv : KeepsInv step9 := fun _ hs => keep_inv _ _ (commitBatch_inv _ (releaseIfAlone_inv _ hs))

theorem frameTasks_inv (a b : Nat) : KeepsInv (frameTasks a b) := fun _ hs => by
  unfold frameTasks
  exact step9_inv _ (keep_inv _ _ (step7_inv _ (keep_inv _ _ hs)))

theorem frameTick_inv (alive : Bool) : KeepsInv (frameTick alive) := fun s hs => by
  unfold frameTick
  have h := downBoundary_inv _ (keep_inv (fun s => emit .aliveOut (partnerTick alive (clockStep (advance s)))) s hs)
  generalize downBoundary (keep (fun s => emit .aliveOut (partnerTick alive (clockStep (advance s)))) s) = t at h ⊢
  dsimp only
  split
  · exact h
  · split
    · exact keep_inv _ _ h
    · exact withSq_inv (fun _ hs => frameTasks_inv _ _ _ (boundary_inv _ hs)) _ (keep_inv _ _ h)

/-! ### How a command ends -/

theorem whenLive_inv {f : State → State} (hf : KeepsInv f) {s t : State} (h : whenLive f s = .next t) (hs : StoreInv s) :
    StoreInv t := by
  unfold whenLive at h
  cases h
  unfold StoreInv
  rw [keepQueue_store]
  split
  · exact hf _ hs
  · exact hs

theorem always_inv {f : State → State} (hf : KeepsInv f) {s t : State} (h : always f s = .next t) (hs : StoreInv s) : StoreInv t := by
  cases h
  exact hf _ hs

theorem whenLiveK_inv {f : State → State} {s t : State} (h : whenLiveK f s = .next t) (hs : StoreInv s) : StoreInv t := by
  cases h
  exact hs

theorem alwaysK_inv {f : State → State} {s t : State} (h : alwaysK f s = .next t) (hs : StoreInv s) : StoreInv t := by
  cases h
  exact hs

/-- A command that writes no configuration leaves all of it. -/
theorem whenLiveK_store {f : State → State} {s t : State} (h : whenLiveK f s = .next t) : t.store = s.store := by
  cases h
  rfl

theorem alwaysK_store {f : State → State} {s t : State} (h : alwaysK f s = .next t) : t.store = s.store := by
  cases h
  rfl

/-- On a module that is started, the effect is the next state's. -/
theorem whenLive_next {f : State → State} {s : State} (h : live s = true) : whenLive f s = .next (s.keepQueue (f s.begin)) := by
  simp [whenLive, h]

theorem whenLiveK_next {f : State → State} {s : State} (h : live s = true) :
    whenLiveK f s = .next { s.keepQueue (f s.begin) with store := s.store } := by
  simp [whenLiveK, h]

/-- On any other module only what it sent is forgotten. -/
theorem whenLive_dead {f : State → State} {s : State} (h : live s = false) : whenLive f s = .next s.begin := by
  simp [whenLive, h, State.keepQueue, State.begin]

theorem whenLiveK_dead {f : State → State} {s : State} (h : live s = false) : whenLiveK f s = .next s.begin := by
  simp [whenLiveK, h, State.keepQueue, State.begin]

end Sys2Proof.Laws
end

