-- ==== Sys2Proof/Laws/Frames.lean ====
section
/-! SUPPORT. Frames: which parts of the state the shared operations may change, and how a command's completion follows from them. -/
namespace Sys2Proof.Laws
open Sys2Proof Sys2Proof.Machine

theorem same_refl (p : Part) (s : State) : p.same s s := by cases p <;> rfl

theorem same_trans {p : Part} {s t u : State} (h : p.same s t) (k : p.same t u) : p.same s u := by
  cases p <;> exact Eq.trans k h

theorem only_refl (ps : List Part) (s : State) : Only ps s s := fun p _ => same_refl p s

theorem only_trans {ps : List Part} {s t u : State} (h : Only ps s t) (k : Only ps t u) : Only ps s u :=
  fun p hp => same_trans (h p hp) (k p hp)

theorem only_mono {ps qs : List Part} {s t : State} (h : Only ps s t) (hq : ∀ p ∈ ps, p ∈ qs) : Only qs s t :=
  fun p hp => h p fun h' => hp (hq p h')

theorem only_forAll {α : Type} (ps : List Part) (xs : List α) (f : α → State → State) (h : ∀ x s, Only ps s (f x s)) (s : State) :
    Only ps s (forAll xs f s) := by
  unfold forAll
  induction xs generalizing s with
  | nil => exact only_refl ps s
  | cons x xs ih => exact only_trans (h x s) (ih (f x s))

theorem only_guardOn {ps : List Part} {s : State} (p : Bool) (f : State → State) (h : Only ps s (f s)) : Only ps s (guardOn p f s) := by
  unfold guardOn
  split
  · exact h
  · exact only_refl ps s

theorem only_emit (o : Output) (s : State) : Only [] s (emit o s) := fun p _ => by cases p <;> rfl

theorem only_begin (s : State) : Only [] s s.begin := fun p _ => by cases p <;> rfl

theorem only_raiseAt (t c i : Nat) (s : State) : Only [.flt] s (raiseAt t c i s) := fun p hp => by
  unfold raiseAt
  split
  all_goals cases p <;> first | rfl | exact absurd (by simp) hp

theorem only_raiseF (c i : Nat) (s : State) : Only [.flt] s (raiseF c i s) := only_raiseAt _ _ _ _

theorem only_clearF (c i : Nat) (s : State) : Only [.flt] s (clearF c i s) := fun p hp => by
  unfold clearF
  split
  · cases p <;> first | rfl | exact absurd (by simp) hp
  · exact same_refl p s

theorem only_setF (on : Bool) (c i : Nat) (s : State) : Only [.flt] s (setF on c i s) := by
  unfold setF
  split
  · exact only_raiseF _ _ _
  · exact only_clearF _ _ _

theorem only_keep {ps : List Part} {f : State → State} {s : State} (h : Only ps s (f s)) : Only ps s (keep f s) := fun p hp => by
  cases p <;> first | exact h _ hp | rfl

/-- A code just raised is active. -/
theorem isActive_raiseF (c i : Nat) (s : State) : isActive c i (raiseF c i s) = true := by
  unfold raiseF raiseAt
  split
  · have h : isActive c i s = true := ‹_›
    have e (a : ActiveFault) : (if (a.code == c && a.inst == i) = true then { a with seen := s.now } else a).code = a.code := by split <;> rfl
    have k (a : ActiveFault) : (if (a.code == c && a.inst == i) = true then { a with seen := s.now } else a).inst = a.inst := by split <;> rfl
    simpa only [isActive, seenF, List.any_map, Function.comp_def, e, k] using h
  · simp [isActive]

/-- A code just cleared is not. -/
theorem isActive_clearF (c i : Nat) (s : State) : isActive c i (clearF c i s) = false := by
  unfold clearF
  split
  · simp only [isActive, List.any_filter, List.any_eq_false]
    intro x _
    cases x.code == c <;> cases x.inst == i <;> decide
  · exact Bool.eq_false_iff.2 ‹_›

/-! ### Completion -/

theorem only_of_effect {ps : List Part} {s u : State} (h : Only ps s.begin u) : Only ps s { s.keepQueue u with store := s.store } :=
  fun p hp => by cases p <;> first | exact h _ hp | rfl

/-- A command on a started module completes with its effect. -/
theorem ends_whenLiveK {i : Instr} {f : State → State} {s : State} {ps : List Part} {P : State → Prop} (he : exec i s = whenLiveK f s)
    (hl : live s = true) (ho : Only ps s.begin (f s.begin)) (hp : P { s.keepQueue (f s.begin) with store := s.store }) :
    Ends i s ps P :=
  ⟨_, he.trans (whenLiveK_next hl), only_of_effect ho, hp⟩

theorem ends_alwaysK {i : Instr} {f : State → State} {s : State} {ps : List Part} {P : State → Prop} (he : exec i s = alwaysK f s)
    (ho : Only ps s.begin (f s.begin)) (hp : P { s.keepQueue (f s.begin) with store := s.store }) : Ends i s ps P :=
  ⟨_, he, only_of_effect ho, hp⟩

theorem ends_whenLive {i : Instr} {f : State → State} {s : State} {ps : List Part} {P : State → Prop} (he : exec i s = whenLive f s)
    (hl : live s = true) (ho : Only ps s.begin (f s.begin)) (hp : P (s.keepQueue (f s.begin))) : Ends i s ps P :=
  ⟨_, he.trans (whenLive_next hl), fun p hq => by cases p <;> first | exact ho _ hq | rfl, hp⟩

end Sys2Proof.Laws
end

