-- ==== Sys2Proof/Tests/Slice0.lean ====
section
/-! SUPPORT. The tests: ill-formed commands that WellFormed refuses, the manual's own worked examples, and for every statement with
hypotheses a concrete state and operands that meet them, clause by clause. Expected values come from the manual, never from a run. -/
set_option Elab.async false
set_option maxRecDepth 100000

namespace Sys2Proof.Tests
open Sys2Proof Sys2Proof.Machine
/-! ### Witness states -/

/-- A request header with its CRC. -/
def hdr (via : Via) (ses seq flags op index sub : Nat) (p : List Byte) : Hdr :=
  let h : Hdr := { via := via, flags := flags, ses := ses, seq := seq, crc := 0 }
  { h with crc := requestCrc { h := h, op := op, index := index, sub := sub, payload := p } }

def host : Via := .udp 0x0A000001#32 5000#16 true
def hd (ses seq op index sub : Nat) (p : List Byte) : Hdr := hdr host ses seq 0 op index sub p
def one : Session := { id := 65537, client := 7, next := 5 }

/-- A module in tier FULL with one open session. -/
def up : State := { State.reset with
  now := 20000000000, frameAt := 20000000000
  sys := { State.reset.sys with phase := .started, tier := .full, guardIn := true, imageOk := true, gaOk := true }
  ses := { State.reset.ses with replayed := true, open_ := [one] } }

def withCfg (xs : List (Entry × Nat × Int)) (s : State) : State := xs.foldl (fun s x => setCfgI x.1 x.2.1 x.2.2 s) s
def tierIs (t : Tier) (s : State) : State := { s with sys := { s.sys with tier := t } }
def readCmd (ses seq ix sb : Nat) : Instr := .read (hd ses seq 1 ix sb []) (BitVec.ofNat 16 ix) (BitVec.ofNat 8 sb)
def writeCmd (ses seq : Nat) (e : Entry) (k : Nat) (p : List Byte) : Instr :=
  .write (hd ses seq 2 (e.index + e.istep * k) (e.sub + e.sstep * k) p) (BitVec.ofNat 16 (e.index + e.istep * k))
    (BitVec.ofNat 8 (e.sub + e.sstep * k)) p
def reqOf (i : Instr) : Req :=
  (requestOf i).getD { h := { via := .can, crc := 0 }, op := 0, index := 0, sub := 0, payload := [] }

/-- A chain of four nodes, running; nodes 1 and 2 belong to radio A. -/
def chained : State :=
  let s := withCfg [(Ent.CHN_NODE_COUNT, 0, 4), (Ent.CHN_SPLIT, 0, 2), (Ent.STR_POS_COUNT, 0, 4)] up
  { s with chain := { s.chain with state := .running, n := 4, hmax := 2, effPeriod := 20 }
           cells := { s.cells with map := .mapped, posCount := 4 } }
def sweeping : State := { chained with
  chain := { chained.chain with sweep := { active := true, launch := 20000000000, instant := 20000048000, hmax := 2 } } }
def setHalves (a b : HalfSweep) (s : State) : State :=
  { s with chain := { s.chain with sweep := { s.chain.sweep with a := a, b := b } } }

def paired (r : Role) (s : State) : State := { s with pair := { s.pair with paired := true, role := r } }
def inMode (m : Mode) (s : State) : State := { s with sp := { s.sp with mode := m } }
def fencedIn (i : Island) (s : State) : State := { s with sup := { s.sup with fenced := s.sup.fenced.close i } }
def withFault (code inst : Nat) (s : State) : State :=
  { s with flt := { s.flt with active := ⟨code, inst, s.now, s.now⟩ :: s.flt.active } }
/-! ### Ill-formed commands are refused (WellFormed) -/

/-- A request header with every field in range. -/
def goodHdr : Hdr := { via := .udp 0x0A000001#32 5000#16 true, flags := 0, ses := 65537, seq := 1, crc := 0 }

theorem test_good_request_is_well_formed : WellFormed (.commitNow goodHdr) = true := by decide
theorem test_hdr_ver_refused : WellFormed (.commitNow { goodHdr with ver := 16 }) = false := by decide
theorem test_hdr_kind_refused : WellFormed (.commitNow { goodHdr with kind := 16 }) = false := by decide
theorem test_hdr_flags_refused : WellFormed (.commitNow { goodHdr with flags := 256 }) = false := by decide
theorem test_hdr_status_refused : WellFormed (.commitNow { goodHdr with status := 256 }) = false := by decide
theorem test_hdr_ses_refused : WellFormed (.commitNow { goodHdr with ses := 2 ^ 32 }) = false := by decide
theorem test_hdr_seq_refused : WellFormed (.commitNow { goodHdr with seq := 2 ^ 32 }) = false := by decide
theorem test_hdr_rsv_refused : WellFormed (.commitNow { goodHdr with rsv := 256 }) = false := by decide
theorem test_hdr_jseq_refused : WellFormed (.commitNow { goodHdr with jseq := 2 ^ 64 }) = false := by decide
theorem test_hdr_crc_refused : WellFormed (.commitNow { goodHdr with crc := 2 ^ 32 }) = false := by decide
theorem test_long_payload_refused : WellFormed (.write goodHdr 0#16 0#8 (List.replicate 65536 0#8)) = false := by
  have h : payloadOk (List.replicate 65536 0#8) = false := by
    rw [payloadOk, List.length_replicate, decide_eq_false_iff_not]; omega
  show (_ && _ && (_ && payloadOk _)) = false
  rw [h, Bool.and_false, Bool.and_false]
theorem test_fault_code_refused : WellFormed (.faultClear 65536 0) = false := by decide
theorem test_beacon_heard_refused : WellFormed (.sweepLaunch 0 [(.a, [])]) = false := by decide
theorem test_train_refused : WellFormed (.trainReceive .a 0 (List.replicate 1549 0#8)) = false := by decide +kernel
theorem test_exchange_refused : WellFormed (.serviceExchange .a 0 (some [])) = false := by decide
theorem test_id_reply_refused : WellFormed (.readIdReply .a 0 none []) = false := by decide
theorem test_lead_reply_refused : WellFormed (.readLeadStatusReply .a 0 []) = false := by decide
theorem test_enumeration_refused : WellFormed (.enumerationEnd [[⟨40000, 1⟩]] false true) = false := by decide
theorem test_coulomb_word_refused : WellFormed (.coulombWord [0xC3#8] 0) = false := by decide
theorem test_safety_frame_refused : WellFormed (.safetyDataFrame (List.replicate 1501 0#8) 0) = false := by decide +kernel
theorem test_param_frame_refused : WellFormed (.paramWrite (List.replicate 1501 0#8) 0) = false := by decide +kernel
theorem test_gap_slot_refused : WellFormed (.gapTimeout 66) = false := by decide
theorem test_idle_slot_refused : WellFormed (.sessionIdleTimeout 0) = false := by decide
theorem test_snapshot_slot_refused : WellFormed (.snapshotTimeout 66) = false := by decide
theorem test_can_segment_refused : WellFormed (.canSegment []) = false := by decide
theorem test_di_sample_refused : WellFormed (.diSample 0 [] 0) = false := by decide
theorem test_fdb_mac_refused : WellFormed (.fdbAgeOut .a [1#8]) = false := by decide
theorem test_eth_frame_refused : WellFormed (.ethFrameReceive .a1 []) = false := by decide
theorem test_can_frame_id_refused : WellFormed (.canFrameReceive .can1 { id := 2048, ext := false, fd := false, brs := false, rtr := false, data := [] }) = false := by
  decide
theorem test_can_frame_data_refused :
    WellFormed (.canFrameReceive .can1 { id := 1, ext := false, fd := false, brs := false, rtr := false, data := List.replicate 9 0#8 }) = false := by
  decide
theorem test_scrub_block_refused : WellFormed (.scrubStep 0 0 [0#8] [0#8]) = false := by decide
theorem test_read_back_refused : WellFormed (.fwBlockDone [0#8]) = false := by decide
theorem test_scan_sel_refused : WellFormed (.scanSel 10) = false := by decide
theorem test_mirror_frames_refused :
    ([.mirrorDuty .l0 [], .mirrorJournal .l0 [], .journalAck .l0 [], .mirrorHeartbeat .l0 [], .mirrorState .l0 [], .mirrorContext .l0 [],
      .mirrorRecord .l0 [], .mirrorBulk .l0 [], .orderHandover .l0 [], .rejoinReq .l0 [], .rejoinDone .l0 []].all fun i => !WellFormed i) =
      true := by decide
theorem test_witness_frames_refused :
    ([.witnessDecision 0 [(true, [])], .leaseRenew true [], .leaseGrant true [], .leaseRefuse true []].all fun i => !WellFormed i) = true := by
  decide
theorem test_wake_frame_refused :
    WellFormed (.canWake .can1 (.frame { id := 2 ^ 29, ext := true, fd := false, brs := false, rtr := false, data := [] })) = false := by decide
theorem test_ptp_frames_refused :
    ([.pdelayReqAnswer .a1 [] 0 0, .syncMessage .a1 [] 0 0, .followUp .a1 [] 0, .announce .a1 [] 0,
      .pdelayResp .a1 [] [] 0].all fun i => !WellFormed i) = true := by decide

/-! ### The manual's worked examples -/

/-- 02_giton_chain, R38 and R39. -/
theorem test_chain_times : (minPeriod 32 16, minPeriod 16 8, tSched 16, tExchange 16 1 5, tDeliver 22) = (20, 10, 19808, 1992, 25568) := by
  decide +kernel

/-- 03_cell_sweeps_and_balancing, R67: the corrections of inputs 4, 5 and 6. -/
theorem test_lead_corrections :
    (inputCorr 0 119037 118925 20000 25000 true, inputCorr 119037 118925 0 25000 20000 true, inputCorr 118925 0 0 20000 20000 true) =
      (24, 24, -24) := by decide +kernel

/-- A module whose position 0 reads 3.3000 V, with the settings of the example of R75. -/
def dutyCase : State := modCell 0 (fun c => { c with v := 33000, node := 1 })
  { withCfg [(Ent.STR_BAL_R, 0, 27000), (Ent.STR_BAL_HORIZON, 0, 4), (Ent.CHN_SWEEP_PERIOD, 0, 20)] up with
    chctl := { up.chctl with balMode := 0, period := 20 } }

/-- 03_cell_sweeps_and_balancing, R75: 120 mAh above the reference gives 17/64. -/
theorem test_balancing_duty : positionDuty 0 120 dutyCase = (17, true) := by decide +kernel

/-- A 280 Ah string, 200 µA per count (04_estimation_engine, R81 and R84). -/
def estCase : State := withCfg [(Ent.EST_RATED_CAP, 0, 280000), (Ent.EST_SHUNT_LSB, 0, 200)] chained

/-- 04_estimation_engine, R81: 280 A of discharge and 50 A of charge. -/
theorem test_coulomb_counts :
    let word (b : List Byte) : List Byte := b ++ toBytes 2 (crc16 b)
    let x (b : List Byte) : List Int := (coulombWord (word b) 20000000000 estCase).est.samples.map (·.x)
    (x [0xC3#8, 0x15#8, 0x5C#8, 0xC0#8, 0#8, 1#8], x [0xC3#8, 0xFC#8, 0x2F#8, 0x70#8, 0#8, 1#8]) = ([1400000], [-250000]) := by
  decide +kernel

/-- 04_estimation_engine, R84: a frame of 32 samples at 280 A is 280,000,000 nC. -/
theorem test_frame_charge :
    (closeFrame 20000000000 20001000000 { estCase with est := { estCase.est with
      state := .running, samples := (List.range 32).map fun k => ⟨20000000000 + k * 31250, 1400000, true⟩ } }).est.dq = 280000000 := by
  decide +kernel

/-- 04_estimation_engine, R84: SOC_INT_X falls by 277,777 units, and a remainder of 7,840,000 is carried. -/
theorem test_charge_count :
    let u := countInto 0 280000000 (modCtx 0 (fun c => { c with cap := 280000, socInt := 500000000000 }) estCase)
    ((ctxAt 0 u).socInt, (ctxAt 0 u).rem) = (500000000000 - 277777, 7840000) := by decide +kernel

/-- A table set whose temperature point 4 is 15.0 °C with the factor 3,277 (04_estimation_engine, R101). -/
def flatSet : Tbl :=
  { taxis := [-300, -200, -100, 0, 150, 250, 350, 450], data := List.replicate 1584 33000
    rfact := [4096, 4096, 4096, 4096, 3277, 4096, 4096, 4096] }

/-- 04_estimation_engine, R101: a step of 70 A moves R_DC from 37,120 to 37,213. -/
theorem test_resistance_filter :
    (ctxAt 0 (resistanceSample 0 flatSet 110000 40000
      (modCtx 0 (fun c => { c with rdc := 37120, rCount := 10, vPrev := 33100, temp := 150 })
        { up with cells := { up.cells with done := modAt up.cells.done 0 fun c => { c with v := 32968 } } }))).rdc = 37213 := by decide +kernel

/-- 05_capacity_life_identity, R121: 1,095 days and 1,215 cycles. -/
theorem test_remaining_life :
    let s := withCfg [(Ent.EST_RATED_CAP, 0, 280000), (Ent.EST_EOL_CAP, 0, 8000)] up
    lifeOf { sohC := 9200, capN := 9, firstSeen := 0, thru := 81000 * 72 * 280000 } { s with sys := { s.sys with opSec := 730 * 86400 } } =
      (1095, 121500) := by decide +kernel

/-- A learned record of position 57 (05_capacity_life_identity, R114). -/
def recordOf57 (r : Learned) : State := modLp 57 (fun p => { p with a := r }) (withCfg [(Ent.EST_RATED_CAP, 0, 280000)] up)

/-- The pair of the example: 90.00 % to 45.00 % over 460,080,000,000,000 nC. -/
def pairOf57 (cap : Nat) : CapLearn := ⟨57, 3, 0, cap, 9000, 200, 0, 4500, 240, 0, 460080000000000⟩

/-- 05_capacity_life_identity, R114: CAP 267,500 with SOH_C 9,553 and STALE clear, then 271,625. -/
theorem test_capacity_learning :
    ((learnCompute 57 (pairOf57 262000) (recordOf57 { gen := 3, cap := 262000, sohC := 9357, stale := true })).map
      fun r => (r.cap, r.sohC, r.stale)) = some (267500, 9553, false) ∧
    ((learnCompute 57 (pairOf57 267500) (recordOf57 { gen := 3, cap := 267500 })).map (·.cap)) = some 271625 := by decide +kernel

/-- 06_stage_link_and_control_engine, Table 6-4: bytes 0 to 53 of the DUTY frame. -/
theorem test_duty_frame :
    dutyBytes54 0x1A2B { act := true, run := true, en := 0x3F, duty := 27197, angles := anglesFor 0x3F } =
      [0x11#8, 0x1A#8, 0x2B#8, 0x90#8, 0x00#8, 0x3F#8] ++ (List.replicate 6 [0x6A#8, 0x3D#8]).flatten ++ List.replicate 12 0#8 ++
      [0x00#8, 0x00#8, 0x2A#8, 0xAB#8, 0x55#8, 0x55#8, 0x80#8, 0x00#8, 0xAA#8, 0xAB#8, 0xD5#8, 0x55#8] ++ List.replicate 12 0#8 := by
  decide +kernel

/-- 06_stage_link_and_control_engine, R156: the valley delays of four strings. -/
theorem test_valley_delays :
    ([0, 2731, 5461, 8192].map fun k => offsetNs (withCfg [(Ent.CVT_PHASE_OFFSET, 0, k), (Ent.CVT_PWM_FREQ, 0, 25000)] up)) =
      [0, 1666, 3333, 5000] := by decide +kernel

/-- A string in STRING_CURRENT at 25 kHz (07_setpoints_modes_droop, Table 7-4). -/
def rampCase : State :=
  let s := withCfg [(Ent.SP_DI_MAX, 0, 100000), (Ent.SP_DIR_DWELL, 0, 4), (Ent.SP_DIR_HYST, 0, 0)] up
  { s with tb := { s.tb with period := 40000000 }
           sp := { s.sp with mode := .stringCurrent, dir := .dis, disLim := 200000, chgLim := 200000, wI := -30000 } }

/-- r and the dwell after one boundary from a reference of r mA. -/
def boundaryFrom (r dwell : Int) (d : Dir) : Int × Nat × Bool :=
  let s : State := { rampCase with sp := { rampCase.sp with r := r * 65536, dwell := dwell.toNat, dir := d, modeOff := dwell != 4 && dwell != 0 } }
  let u := if s.sp.dwell > 0 then dwellStep s else rampStep s
  let u := if u.sp.flipDue then dwellEnd u else u
  (u.sp.r / 65536, u.sp.dwell, u.sp.dir == .chg)

/-- 07_setpoints_modes_droop, Table 7-4: steps 3, 4, 5, 6, 7 and 8. -/
theorem test_direction_change :
    [boundaryFrom 20000 0 .dis, boundaryFrom 4000 0 .dis, boundaryFrom 0 4 .dis, boundaryFrom 0 1 .dis, boundaryFrom 0 0 .chg,
      boundaryFrom (-28000) 0 .chg] =
    [(16000, 0, false), (0, 4, false), (0, 3, false), (0, 0, true), (-4000, 0, true), (-30000, 0, true)] := by decide +kernel

/-- 08_protection_and_dispatch, R199: 509,992 mA and 300,000 mA. -/
theorem test_power_limits :
    let s := withCfg [(Ent.EST_RATED_CAP, 0, 280000), (Ent.PROT_R_FALLBACK, 0, 500)] up
    let s : State := { s with cells := { s.cells with map := .mapped, posCount := 1 }, est := { s.est with state := .running }
                              prot := { s.prot with pos := modAt s.prot.pos 0 fun p => { p with v := some 33000, t := some 500 } } }
    posLimits 100000 0 (modFl 0 (fun f => { f with valid := true }) (modCtx 0 (fun c => { c with socRep := 150000000000, unc := 400 }) s)) =
      some (509992, 300000) := by decide +kernel

/-- 09_safety_functions, R240: 43 ms, 305 ms, and 69 ms after a re-split. -/
theorem test_reaction_times :
    let s (h : Nat) (t : Topology) : State := { up with chain := { up.chain with n := 32, hmax := h, topo := t, resplitLo := 10, resplitHi := 11 } }
    (reaction .ov (s 16 .configured), reaction .ms (s 16 .configured), reaction .ov (s 22 .resplit)) = (43, 305, 69) := by decide +kernel

/-- 09_safety_functions, Table 9-6: the frame is taken with its fields. -/
theorem test_safety_command_frame :
    let b := [0x11#8, 0x80#8, 0x5A#8, 0x1C#8, 0x00#8, 0x42#8, 0x01#8, 0x07#8, 0x00#8, 0x64#8, 0x02#8, 0x01#8, 0xFE#8]
    let v := [0x5A#8, 0x1C#8, 0x00#8, 0x42#8, 0x27#8, 0x01#8, 0x00#8, 0x00#8]
    let s := withCfg [(Ent.SAF_PEER_ADDR, 0, 1)] up
    (parseSafFrame (b ++ toBytes 4 (crc32c (v ++ b))) { s with saf := { s.saf with addr := 0x27 } }).map
      (fun f => (f.kind, f.lanB, f.conn, f.seq, f.data)) = some (1, true, 0x5A1C0042, 263, [0x01#8, 0xFE#8]) := by decide +kernel

/-- 10_object_dictionary, Table 10-7: the reply's bytes 0 to 25, and its length of 30. -/
theorem test_reply_bytes :
    let b := messageBytes 2 2 0 0 0x0002000B 1001 0x4200 1 0x4A1C07 []
    (b.take 26, b.length) =
      ([0x12#8, 0x02#8, 0x00#8, 0x00#8, 0x00#8, 0x02#8, 0x00#8, 0x0B#8, 0x00#8, 0x00#8, 0x03#8, 0xE9#8, 0x42#8, 0x00#8, 0x01#8, 0x00#8,
        0x00#8, 0x00#8, 0x00#8, 0x00#8, 0x00#8, 0x4A#8, 0x1C#8, 0x07#8, 0x00#8, 0x00#8], 30) := by decide +kernel

/-- 10_object_dictionary, R249: a 30-byte reply on CAN FD and on classical CAN. -/
theorem test_can_segments :
    ((segments true 63 31 0 (List.replicate 30 0)).map fun x => (x.length, x.headD 0)) = [(32, 0xC0#8)] ∧
    ((segments false 7 31 0 (List.replicate 30 0)).map fun x => x.headD 0) = [0x80#8, 0x01#8, 0x02#8, 0x03#8, 0x44#8] := by
  decide +kernel

/-- 12_message_bus, R292: 500,000 bit/s and 2,000,000 bit/s. -/
theorem test_bit_timing :
    (bitTiming 500000 875 10 80, bitTiming 2000000 750 10 40) = (some (2, 69, 10, 10), some (1, 29, 10, 10)) := by decide +kernel

/-- 12_message_bus, R303: attempt 16 takes TEC to 128, and attempt 17 leaves it there. -/
theorem test_no_ack_count :
    let tec (n : Nat) : Nat :=
      let s := withCfg [(Ent.CAN_ENABLE, 0, 1)] up
      let s : State := { s with can := { s.can with ch := modAt s.can.ch 0 fun x =>
        { x with mode := .run, tec := n, bufs := modAt x.bufs 3 fun m => { m with res := .pending } } } }
      (chan 0 (txResult 0 3 .noAck s)).tec
    (tec 120, tec 128) = (128, 128) := by decide +kernel

/-- 17_memory_integrity, R399: bit 21 alone is corrected; with PR[2] it is uncorrectable. -/
theorem test_memory_code :
    let b := encodeBlock [0xEF#8, 0xCD#8, 0xAB#8, 0x89#8, 0x67#8, 0x45#8, 0x23#8, 0x01#8]
    (b.drop 8, decodeBlock (b.set 2 0x8B#8), (decodeBlock ((b.set 2 0x8B#8).set 8 0xFB#8)).1) =
      ([0xFF#8, 0x00#8], (.data, b), .uncorrectable) := by decide +kernel

/-- 19_supervision_and_freeze, R426: 240 mJ and 25,263 µs. -/
theorem test_holdup_gauge :
    let u := gaugeTaken 60000 48000 9500 { up with sup := { up.sup with holdC := 150 } }
    (u.sup.holdE, u.sup.holdT) = (240, 25263) := by decide +kernel

/-- 22_fault_and_status_reference, R474: bytes 0 to 27 of the log entry. -/
theorem test_log_entry :
    (logBytes ⟨76293, 0x2005, 14, .raised, 0, 0, 0x68A3F210 * 1000000000 + 500000000, 59310080, 87⟩).take 28 =
      [0x00#8, 0x01#8, 0x2A#8, 0x05#8, 0x20#8, 0x05#8, 0x00#8, 0x0E#8, 0x01#8, 0x02#8, 0x00#8, 0x00#8, 0x68#8, 0xA3#8, 0xF2#8, 0x10#8,
        0x1D#8, 0xCD#8, 0x65#8, 0x00#8, 0x03#8, 0x89#8, 0x00#8, 0x00#8, 0x00#8, 0x00#8, 0x00#8, 0x57#8] := by decide +kernel

/-- FIPS 197, appendix C.1: the cipher of 02_giton_chain, R52. -/
theorem test_aes :
    aes ((List.range 16).map (BitVec.ofNat 8 ·)) ((List.range 16).map fun k => BitVec.ofNat 8 (17 * k)) =
      [0x69#8, 0xC4#8, 0xE0#8, 0xD8#8, 0x6A#8, 0x7B#8, 0x04#8, 0x30#8, 0xD8#8, 0xCD#8, 0xB7#8, 0x80#8, 0x70#8, 0xB4#8, 0xC5#8, 0x5A#8] := by
  decide +kernel

/-! ### States that meet the hypotheses of the statements, one clause after another -/

def key16 : List Byte := List.replicate 16 7#8
/-- The chain's nodes hold keys and identities. -/
def keyedNodes : State := { sweeping with cells := { sweeping.cells with
  nodes := (upTo 1 4).foldl (fun v h => modAt v (h - 1) fun n => { n with id := h, key := key16, state := .ok, cells := 1 }) sweeping.cells.nodes } }
/-- A train of the records of two nodes, the first of them `first`, of sweep `lo`. -/
def trainBytes (r : Radio) (first lo : Nat) : List Byte :=
  withCrc (toBytes 1 0x41 ++ [1#8] ++ toBytes 1 first ++ [2#8] ++ toBytes 1 (dirBit r) ++ toBytes 3 lo ++
    ([0, 1].flatMap fun i => ccmSeal key16 (ccmNonce (trainNode r first i) lo) [] (List.replicate 44 0#8)))
/-- A REPLY of node h under the identity `id`. -/
def replyBytes (r : Radio) (h id : Nat) (p : List Byte) : List Byte :=
  let head := [0x31#8, 1#8] ++ toBytes 1 (hopFrom r h chained) ++ [1#8] ++ toBytes 1 (dirBit r) ++ toBytes 5 (2 ^ 39 + 7) ++ toBytes 1 p.length
  withCrc (head ++ ccmSeal key16 (ccmNonce id (2 ^ 39 + 7)) (replyAad head) p)
/-- The READ_LEAD_STATUS reply of node 2, with leads 0 and 2 open. -/
def leadReply : List Byte := [49#8, 1#8, 2#8, 1#8, 0#8, 128#8, 0#8, 0#8, 0#8, 7#8, 5#8, 92#8, 85#8, 17#8, 129#8, 255#8, 178#8, 5#8, 225#8, 229#8,
  16#8, 193#8, 173#8, 39#8]
def brokenB : State := setHalves { done := true } { done := true, broken := true } sweeping
def brokenBoth : State := setHalves { done := true, broken := true } { done := true, broken := true, recovered := true } sweeping
def recoveringA : State := setHalves { done := true, recovering := true, recInstant := 20000100000, recReach := 3 } { done := true, broken := true } sweeping
def window (r : Radio) (c : ChainCmd) : State :=
  let h : HalfSweep := { done := true, dutySent := true }
  let s := setHalves h h { sweeping with chain := { sweeping.chain with sweep := { sweeping.chain.sweep with run := true } } }
  { s with chctl := { s.chctl with queue := [⟨r, c⟩] } }
def dutyWaits : State :=
  let h : HalfSweep := { done := true, doneAt := 20000200000 }
  setHalves h h { keyedNodes with chain := { keyedNodes.chain with sweep := { keyedNodes.chain.sweep with run := true } } }
def tasksDue : State := let s := withCfg [(Ent.STR_LEAD_LEARN, 0, 1)] chained; { s with chctl := { s.chctl with sincePoll := 1000, evalSweepsA := 100, evalSweepsB := 100, framesA := 400, failsA := 30, framesB := 400, failsB := 1, sinceLearn := 100000 } }
def enumerating : State := { chained with chain := { chained.chain with state := .enumerating }, cells := State.reset.cells }
def fourRounds : List (List EnumClaim) := (upTo 1 4).map fun (k : Nat) => [{ rssi := -50 - (k : Int), token := k }]
/-- The last READ_ID reply of an enumeration of four nodes is awaited. -/
def reading : State := { keyedNodes with
  chain := { keyedNodes.chain with sweep := {} }
  cells := { keyedNodes.cells with map := .unmapped, posCount := 0, nodes := keyedNodes.cells.nodes.map fun n => { n with answered := n.id ≠ 2 } }
  chctl := { keyedNodes.chctl with idWait := true } }
def estimating : State := let s := withCfg [(Ent.EST_RATED_CAP, 0, 100000)] chained; { s with sys := { s.sys with t0 := 10000000000 }, est := { s.est with state := .running, restored := true, secI := [400, 600], secFrames := 1000, fl := modAt s.est.fl 2 fun f => { f with valid := true } } }
def sourceless : State := { inMode .standby estimating with est := { estimating.est with noneSince := some 19000000000, lastUseAt := 19999999999 } }
def aTbl : Tbl := flatSet
def paging : State :=
  let s := withCfg [(Ent.EST_TSET, 3, 15)] estimating
  let d : List Byte := flatSet.data.flatMap fun v => toBytes 2 v
  setCfg Ent.TBL_DATA 15 (.bytes d) s
def word8 : List Byte := let b := [0xC3#8] ++ toBytesS 3 (-5) ++ [0#8, 9#8]; b ++ toBytes 2 (crc16 b)
def restoring : State := let s := tierIs .limited estimating; { s with est := { s.est with restored := false, state := .off } }
def resting : State := { estimating with est := { estimating.est with m := some 3 } }
def asleep : State := { estimating with est := { estimating.est with state := .hibernating, wakeRun := 4, hibSince := 20000000000 }, sys := { estimating.sys with hibernating := true } }
def asleepLong : State := { asleep with now := 10 ^ 13, frameAt := 10 ^ 13 }
def quiet_ : State := { resting with est := { resting.est with quietT := 65535 } }
def sample5 : CapLearn := { pos := 5, gen := 0, target := 1, capBefore := 100000, socA := 9000, tempA := 250, timeA := 0, socB := 4000, tempB := 250, timeB := 100, q := 180000000000000 }
def learning (f : LearnPos → LearnPos) : State := let s := modLp 5 (fun p => f { p with a := { p.a with cap := 100000 }, b := { p.b with cap := 100000 }, entry := some sample5, committed := true, state := .journaled, entryJ := 3 }) estimating; { s with ident := { s.ident with loaded := true }, sup := { s.sup with holdT := 20000 } }
def written : State := learning fun p => { p with next := some { p.a with cap := 99000 }, state := .writing }
def linked (l0 l1 : LaneState) (sel : Option Nat) : State := { up with link := { up.link with lane0 := l0, lane1 := l1, good0 := 2, good1 := 2, select := sel } }
def ident35 : List Byte := toBytes 8 7 ++ toBytes 1 3 ++ toBytes 4 30000 ++ toBytes 4 40000 ++ toBytes 4 100000 ++ toBytesS 4 900000 ++ toBytesS 4 900000 ++ toBytes 2 100 ++ toBytes 4 1
/-- A service reply of the stage. -/
def svcBytes (op tag : Nat) (p : List Byte) : List Byte := withCrc (toBytes 1 0x31 ++ toBytes 1 (op + 128) ++ toBytes 1 tag ++ toBytes 1 p.length ++ p)
/-- The three requests await their replies. -/
def asked : State := { up with link := { up.link with svc := [⟨1, 5, 0⟩, ⟨2, 6, 0⟩, ⟨3, 7, 0⟩] } }
def sampleBytes (lane : Nat) : List Byte := let b := [0x21#8] ++ toBytes 2 0 ++ toBytes 2 1 ++ List.replicate 24 0#8 ++ toBytesS 4 700000 ++ toBytesS 4 750000 ++ toBytesS 4 0 ++ List.replicate 8 0#8 ++ toBytes 2 (lane * 32768 + 256 + 32); b ++ toBytes 4 (crc32c b)
def missing : State := let s := linked .up .training (some 0); { s with link := { s.link with missRun := 1000 }, tb := { s.tb with boundaries := 1, valley := 8000000000 } }
def looping : State := let s := inMode .stringCurrent (linked .selected .training (some 0)); { s with tb := { s.tb with boundaries := 1, valley := 8000000000 }, link := { s.link with cu := modAt s.link.cu 1 fun k => { k with state := .run, b := [512, 0, 0, 0] }, stage := { s.link.stage with iphLsb := 100 } }, sp := { s.sp with quiet := 3, en := 7, r := 5000 * 65536, disLim := 100000, chgLim := 100000 } }
def driving (comp us : Bool) (w : Int) : State := let s := withCfg [(Ent.CVT_PHASES, 0, 3), (Ent.CVT_LANE_WIRING, 0, w)] looping; { s with link := { s.link with computed := comp, usable := us, seq := 65535, identReq := true, doneAt := if us then 30000000000 else 0, next := { run := true, en := 7, duty := 300 } } }
def starting (m : Mode) (faulted : Nat) : State := let s := inMode .standby (driving true true 0); { s with sp := { s.sp with req := .run m }, link := { s.link with faulted := faulted } }
def synced (e : Option Nat) : State := let s := withCfg [(Ent.CVT_TB_SOURCE, 0, 1)] looping; { s with tb := { s.tb with lastEdge := e, filt := 40000000, edge := 20000000000000, state := .locking, lockRun := 16 }, link := { s.link with last := { run := true } } }
def sourced (k : ExtSource) (act : Int) (since : Nat) (cond : Bool) : State := let s := inMode .stringCurrent (withCfg [(Ent.SP_SOURCE, 0, if k = .ai then 1 else 2), (Ent.SP_AI_LOS_ACT, 0, act), (Ent.SP_PI_LOS_ACT, 0, act)] up); { s with sp := { s.sp with ai := { s.sp.ai with y := 9, hold := 4, cond := cond, since := since }, pi := { s.sp.pi with y := 7, cond := cond, since := since, rise := some 19999999999 } } }
def dwelling : State := { looping with sp := { looping.sp with flipDue := true, dz := 250 } }
def shedding (since : Nat) : State := let s := withCfg [(Ent.SP_PHASE_MIN, 0, 2), (Ent.SP_SHED_EN, 0, 1)] looping; { s with sp := { s.sp with lowSince := some since }, link := { s.link with mean := { s.link.mean with n := 3, iSum := 0 }, stage := { s.link.stage with iRated := 50000 } } }
def imbalanced (ch : Bool) : State := let l : List (Option Nat) := [none, some 19999999999, some 10000000000]; { looping with sp := { looping.sp with changed := ch }, link := { looping.link with imbWarn := l, imbShed := l } }
def sequencing (k : SeqKind) (n at_ : Nat) : State := { up with prot := { up.prot with result := .running, seq := k, step := n, stepAt := at_, main := { coil := n == 2 || k == .open_ }, neg := { coil := true }, pre := { coil := n == 5 } } }
def dispatched (m : Mode) (act : Int) (since : Nat) : State := let s := inMode m (withCfg [(Ent.DSP_TIMEOUT, 0, 100), (Ent.DSP_TIMEOUT_ACT, 0, act), (Ent.SP_I_SET, 0, 7000), (Ent.SP_P_SET, 0, 7000)] looping); { s with dsp := { s.dsp with silentFrom := some since } }
def safe : State := { chained with saf := { chained.saf with state := .permitted, ran := true, applied := true, addr := 3, dip := 3, addr0 := 3, lan0 := true, scanned := true, permit := true }, dio := { chained.dio with sqCmd := 15 }, prot := { chained.prot with main := { coil := true }, neg := { coil := true } } }
def overvolt : State := { safe with cells := { safe.cells with cells := modAt safe.cells.cells 2 fun c => { c with v := 37501, vq := { c.vq with valid := true } } } }
def safParam (xs : List (Entry × Int)) (s : State) : State := { s with saf := { s.saf with eff := xs.foldl (fun st x => storeIns (entryAddr x.1) (.num x.2) st) s.saf.eff } }
def safBytes (kind : Nat) (lanB : Bool) (conn seq : Nat) (data : List Byte) : List Byte := let b := toBytes 1 (16 + kind) ++ toBytes 1 (128 * b2n lanB) ++ toBytes 4 conn ++ toBytes 2 seq ++ toBytes 2 100 ++ toBytes 1 data.length ++ data; b ++ toBytes 4 (crc32c (virtualHeader conn 3 1 ++ b))
def commanded (dip : Nat) : State := let s := safParam [(Ent.SAF_CONN_CMD, 17), (Ent.SAF_CONN_STAT, 18)] safe; { s with saf := { s.saf with dip := dip, lan0 := bitOf dip 1 } }
def permitA : List Byte := safBytes 1 false 17 1 [1#8, 0xFE#8]
def permitB : List Byte := safBytes 1 true 17 1 [1#8, 0xFE#8]
def halfHeard : State := let s := commanded 1; { s with saf := { s.saf with heldCopies := [⟨.a, permitA, 20000000000, false⟩], permit := false } }
def param : List Byte := toBytes 2 0x5800 ++ toBytes 1 0x15 ++ toBytes 1 7
def latched : State := withFault 0x5800 wide { safe with saf := { safe.saf with state := .latched } }
def field : State := { up with dio := { up.dio with vf := 24000, vfState := .normal, sqCmd := 8, dqCmd := 0xFFFF }, saf := { up.saf with state := .permitted, ran := true } }
def level : DiReading := { mv := 24000, microA := 3000 }
def diWith (cnt : Nat) (raw : Bool) : State := { field with dio := { field.dio with di := modAt field.dio.di 9 fun d => { d with cnt := cnt, raw := raw } } }
def wired_ (c : Wire) (at_ : Nat) : State := let s := withCfg [(Ent.DIO_DI_OW_EN, 0, 0xFFFFFFFF)] field; { s with dio := { s.dio with di := modAt s.dio.di 9 fun d => { d with cond := c, condAt := at_ } } }
def guarding : State := let s := tierIs .guard_ chained; { s with sys := { s.sys with guardIn := false }, chain := { s.chain with state := .unconfigured } }
def watching : State := let s := tierIs .guard_ chained; { s with cells := { s.cells with sweepNo := 1 } }
def busy : State := inMode .stringCurrent { commanded 3 with flt := { up.flt with active := [⟨0x2001, wide, 3, 3⟩] }, prot := { up.prot with tripped := true, cause := 0x5002, main := { coil := true } } }
def phased (p : Phase) : State := { busy with sys := { busy.sys with phase := p, pFailed := true } }
def calibrating (n at_ : Nat) : State := { up with sys := { up.sys with calRun := true, calStep := n, calSpare := 4, calStepAt := at_ } }
def addressing (run : List Nat) (tries : Nat) (at_ : Option Nat) : State := { up with sys := { up.sys with gaOk := false, gaRun := run, gaTries := tries, gaAt := at_ } }
def freezable : State := { safe with saf := { safe.saf with dip := 4 } }
def onNet : State := let p : EthPort := { link := true, capable := true }; { up with net := { up.net with ports := Vector.replicate 4 p } }
def frameTo (d : Nat) : List Byte := let b := toBytes 6 d ++ toBytes 6 0x020000000009 ++ toBytes 2 0x0800 ++ List.replicate 46 7#8; b ++ fcsOf b
def ptpBytes (type twoStep domain seq : Nat) (corr : Int) (body : List Byte) (lg : Byte := 0#8) : List Byte := let b := toBytes 6 0x01005E000181 ++ toBytes 6 0x020000000009 ++ toBytes 2 0x88F7 ++ toBytes 1 type ++ [2#8] ++ toBytes 2 64 ++ toBytes 1 domain ++ [0#8] ++ toBytes 2 (512 * twoStep) ++ toBytesS 8 corr ++ toBytes 4 0 ++ toBytes 10 77 ++ toBytes 2 seq ++ [5#8, lg] ++ body; b ++ fcsOf b
def pdelayAsk : List Byte := ptpBytes 2 0 0 4 0 (List.replicate 20 0#8)
def exchanging (c : Bool) (ok bad : Nat) (out : Bool) : State := let p : EthPort := { link := true, capable := c, okRun := ok, failRun := bad, pdOut := out, pdSeq := 4, pdAt := if out then some 19999000000 else none }; { onNet with net := { onNet.net with ports := Vector.replicate 4 p } }
def announceMsg (lg : Byte) : List Byte := ptpBytes 11 0 (cfgN Ent.PTP_DOMAIN_P up) 1 0 (List.replicate 10 0#8 ++ toBytes 2 37 ++ [0#8, 128#8, 6#8, 0x21#8] ++ toBytes 2 0 ++ [128#8] ++ toBytes 8 5 ++ toBytes 2 0 ++ [0x20#8]) lg
def syncBytes (two : Nat) : List Byte := ptpBytes 0 two (cfgN Ent.PTP_DOMAIN_P up) 8 0 (toBytes 6 20 ++ toBytes 4 100 ++ List.replicate 12 0#8)
def slaved (c : Bool) : State := let m : Master := { src := 77 }; let s := exchanging c 3 0 false; { s with ptp := { s.ptp with inst := modAt s.ptp.inst 0 fun i => { i with masters := [m], master := some m } } }
def followBytes : List Byte := ptpBytes 8 0 (cfgN Ent.PTP_DOMAIN_P up) 8 65536 (toBytes 6 20 ++ toBytes 4 100 ++ List.replicate 12 0#8)
def awaitingFollow : State := let s := slaved true; { s with ptp := { s.ptp with pend := [{ port := 0, src := 77, seq := 8, domain := cfgN Ent.PTP_DOMAIN_P up, t := 20000000500, add := 400 * 65536, corr := 0, every := some 1000000000 }] } }
def timed : State := let m (k : Nat) : Master := { src := k, class_ := 6, at_ := 20000000000 }; let i (k : Nat) (o : Int) : PtpInst := { masters := [m k, m (k + 1)], master := some (m k), qual := true, sync := true, syncAt := 20000000000, usableSince := some 0, port := 0, offset := o }; { onNet with ptp := { onNet.ptp with inst := Vector.mk #[i 1 0, i 11 2000000, i 21 5000000, i 31 9000000] rfl, ref := some 2, lastRef := some 2, state := .locked, domSince := some 5, lanSince := some 5, holdMs := 1000 } }
def timedLate : State := let s : State := { timed with now := 10 ^ 13, frameAt := 10 ^ 13 }; { s with ptp := { s.ptp with state := .holdover, holdMs := 10 ^ 9 } }
def canFilters (target : Nat) : Val := .bytes (toBytes 4 0 ++ toBytes 4 0 ++ toBytes 1 target ++ [3#8, 0#8, 0#8] ++ (List.replicate 63 (toBytes 4 0 ++ toBytes 4 0 ++ [255#8, 3#8, 0#8, 0#8])).flatten)
def canMbs (n dir : Nat) (oneShot : Nat) : Val := .bytes (List.replicate (4 * n) 0#8 ++ [BitVec.ofNat 8 dir, BitVec.ofNat 8 oneShot, 0#8, 0#8] ++ List.replicate (252 - 4 * n) 0#8)
def onCan (target n dir shot : Nat) : State := setCfg Ent.CAN_MB_CFG 1 (canMbs n dir shot) (setCfg Ent.CAN_FILTERS 1 (canFilters target) (withCfg [(Ent.CAN_ENABLE, 1, 1)] up))
def canMsg : CanFrame := { id := 0x123, ext := false, fd := false, brs := false, rtr := false, data := [1#8, 2#8] }
def sending (shot : Nat) : State := let s := onCan 0x40 5 2 shot; withFault 0x6806 wide { s with can := { s.can with ch := modAt s.can.ch 1 fun c => { c with tec := 3, wire := some 5, bufs := modAt c.bufs 5 fun b => { b with res := .pending, id := 7 } } } }
def failing_ : State := let s := sending 0; { s with can := { s.can with ch := modAt s.can.ch 1 fun c => { c with tec := 248 } } }
def canIn (m : CanMode) (at_ : Nat) : State := let s := sending 0; { s with can := { s.can with ch := modAt s.can.ch 1 fun c => { c with mode := m, tec := 256, offAt := at_, recAt := at_, sleepAt := at_, sleepReq := m == .run, bufs := modAt c.bufs 5 fun b => { b with res := .busOff } } } }
def linkUp (s : State) : State := { s with pair := { s.pair with mirror := true, heard := true, silent := 0, alive := true, still := 0, mir0 := true, mir1 := true } }
def standby : State := paired .standby (linkUp chained)
def pairing (s : State) : State := withCfg [(Ent.PAIR_ENABLE, 0, 1)] s
def active : State := paired .active (linkUp { safe with pair := { safe.pair with partner := some .standby } })
/-- A frame of a class from the other member of the pair. -/
def fromOther (cls : Nat) (content : List Byte) : List Byte := mirrorFrame cls 0 content { up with pair := { up.pair with member := 1 } }
def dutyImage : DutyMirror := { seq := 9, run := true, dirChg := true, held := false, dwell := 0, duty := 300, en := 7, iRef := -5000, target := -5000, mode := 3, redist := 0 }
def stateImage : StateMirror := { dq := 5, sq := 8, sqClass := 0, dqClass := 1, ma := [], tripped := true, cause := 0x5002, tripInst := 3, tripTime := 7, seq := 2, step := 3, result := 1, seqJ := 4, coils := 5, breaks := 6, kOps := 8, mir := [], restarted := 0, substAt := 0 }
def ctxImage : CtxMirror := { ctx := [List.replicate 128 1#8, List.replicate 128 2#8], sweep := 6, cmdA := 7, cmdB := 8 }
def bulkImage : BulkMirror := { journal := [{ jseq := 4, type := 3, ses := 0, reqSeq := 0, payload := [2#8] }], records := [], ckpt := [], config := [] }
def opening (k : Nat) : JMirror := { jseq := k, type := 3, ses := 0, reqSeq := 0, payload := toBytes 1 1 ++ toBytes 4 65538 ++ toBytes 8 8 ++ toBytes 1 0 }
def beat (m role epoch req : Nat) : Heartbeat := { pair := 0, member := m, role := role, mirrorOk := true, aliveSeen := true, laneHeld := false, ready := true, epoch := epoch, frameCtr := 3, request := req, leaseSeen := true }
def beatBytes (role epoch : Nat) : List Byte := fromOther clsHeartbeat (heartbeatBytes (beat 1 role epoch 0) ++ toBytes 2 5 ++ [8#8])
/-- A lease frame for member 0 of pair 0. -/
def leaseIn (decision epoch : Nat) : List Byte := witnessFrame (leaseBytes { pair := 0, member := 0, decision := decision, epoch := epoch, ctr := 3, witness := 9, net := false })
def asking (mirror held : Bool) (n : Nat) : State := { standby with pair := { standby.pair with request := .takeover, reqFrames := n, silent := if mirror then 0 else 255, laneHeld := held, partnerReq := .takeover } }
def leasing (end_ : Nat) (lost : Bool) : State := { active with pair := { active.pair with leaseEnd := end_, partnerLease := !lost, sends := [(3, 19999000000)] } }
def silenced (r : Role) (alive : Bool) : State := let s := paired r (linked .up .up none); { s with pair := { s.pair with silent := 255, still := if alive then 0 else 255 } }
def rejoining (at_ : Nat) : State := { paired .detached standby with pair := { (paired .detached standby).pair with rejoin := some at_ } }
def witnessing (a : Option Nat) : State := let s := setCfg Ent.PAIR_WIT_SERVE 0 (.bytes (List.replicate 6 255#8 ++ toBytes 2 21)) active; { s with pair := { s.pair with served := modAt s.pair.served 3 fun w => { w with known := true, heard := 2, epoch := 65535, active := a } } }
def hbOf (m role epoch req : Nat) : List Byte := witnessFrame (heartbeatBytes { beat m role epoch req with pair := 21 })
def fill : List Byte := List.replicate 4096 0x5A#8
def deltaHead (n crc : Nat) : List Byte := List.replicate 52 0#8 ++ toBytes 2 n ++ List.replicate 10 0#8 ++ toBytes 4 crc ++ toBytes 4 (64 + 8 * n)
def delta (n : Nat) : List Byte := deltaHead n (crc32c fill) ++ List.replicate (8 * n - 8) 0#8 ++ [3#8] ++ toBytes 2 4096 ++ [0x5A#8, 0#8]
def updating (st : FwState) (n : Nat) : State := { up with fw := { up.fw with state := st, delta := delta n } }
def verifying (lo hi : Nat) : State := let s := updating .verifying 1; { s with fw := { s.fw with bankB := [(0, List.replicate 14 0#8 ++ toBytes 2 lo ++ toBytes 2 hi)] }, mem := { s.mem with bankBad := [(1, 4), (0, 9)] } }
def shadowed (n : Nat) : State := let s := updating .shadow 1; { s with fw := { s.fw with framesIn := n } }
def proving (n : Nat) : State := let s := updating .probation 1; { s with fw := { s.fw with probation := n } }
def applying (retried abort : Bool) (n : Nat) : State := let s := updating .applying n; { s with fw := { s.fw with retried := retried, abort := abort } }
def svc : Session := { id := 65601, client := 9, service := true, next := 5 }
def recovering (next : Nat) : State := { up with sys := { up.sys with imageOk := false }, ses := { up.ses with open_ := [svc] }, fw := { up.fw with recNext := next } }
def chunk0 : List Byte := toBytes 4 4096 ++ toBytes 4 0 ++ toBytes 4 0 ++ [7#8]
def chunk9 : List Byte := toBytes 4 4096 ++ toBytes 4 9 ++ toBytes 4 0 ++ [7#8]
def chunkHd (p : List Byte) : Hdr := hd 65601 5 0x11 Ent.FW_RECOVERY.index Ent.FW_RECOVERY.sub p
def good8 : List Byte := encodeBlock [1#8, 2#8, 3#8, 4#8, 5#8, 6#8, 7#8, 8#8]
def bad8 : List Byte := (good8.set 3 5#8).set 4 0xF0#8
def recording (st : RecState) : State := { safe with recd := { safe.recd with state := st, dueAt := 0, dirs := 2, pend := [(2832 * 16 + 4, 7)], ext := [(3, [1#8])], holdFrom := 0, holdEnd := 20000000000, holdSes := 65537 }, sup := { safe.sup with vbp := 47000 }, sys := { safe.sys with opSec := 20 } }
def walked (r n lap : Nat) : State := { sweeping with mem := { sweeping.mem with regions := modAt sweeping.mem.regions r fun x => { x with walk := n, lapMs := lap } } }
def idleSet (e : Entry) (v : Int) : State := { chained with ses := { chained.ses with idle := [{ jseq := 6, set := [(entryAddr e, .num v)] }] } }

/-- A request without a sequence number. -/
def ask (op ix sb : Nat) (p : List Byte) : Hdr := hd 65537 0 op ix sb p
def fullUp : State := { up with ses := { up.ses with open_ := (upTo 1 64).map fun k => { id := 65536 + k, client := 100 + k } } }
def openHd (flags client : Nat) : Hdr := hdr host 0 0 flags 0x30 0 0 (toBytes 8 client)
def dspHd (e : Entry) : Hdr := hd 0 0 2 e.index e.sub (toBytesS 4 5000)
/-- A session with a request held since 0, at an instant when every timer has run out. -/
def heldOne : Session := { one with held := [{ req := reqOf (readCmd 65537 7 0x4200 1), since := 0 }] }
def lateUp : State := withCfg [(Ent.SES_CAN_CHANNEL, 0, 1)] { up with ses := { up.ses with open_ := [heldOne], canRx := some ([1#8], 0, 0) }, now := 10 ^ 15, frameAt := 10 ^ 15 }
def segmented : State := { lateUp with ses := { lateUp.ses with canRx := some ([1#8], 0, 10 ^ 15 - 7) } }
def servicing : State := { up with ses := { up.ses with open_ := [one, { one with service := true, id := 65601 }] } }
def cached : State := { up with ses := { up.ses with open_ := [{ one with cache := [mkReply (reqOf (readCmd 65537 4 0x4200 1)) stDone 0 [3#8]] }] } }
/-- A WRITE in its turn of payload p to instance k of e. -/
def wr (e : Entry) (p : List Byte) (k : Nat := 0) : Instr := writeCmd 65537 5 e k p
def txp (b : Nat) : List Byte := toBytes 1 b ++ List.replicate 7 0#8
/-- A module with a latched trip whose cause is gone. -/
def trippedUp : State := { up with prot := { up.prot with tripped := true, iC := some 5 } }
/-- An ACTIVE member whose partner has yet to acknowledge entry 9, the request of i with its reply ACCEPTED. -/
def waiting (i : Instr) (s : State) : State :=
  { (paired .active (linkUp s)) with ses := { s.ses with awaiting := [(9, .request (reqOf i) (mkReply (reqOf i) stAccepted 0 []))] } }
def unkeyed : State := { chained with cells := { chained.cells with nodes := modAt chained.cells.nodes 2 fun n => { n with state := .unkeyed } } }
/-! ### The decidable parts of what a request meets -/

/-- The request came over UDP. -/
def isUdp (v : Via) : Bool := match v with | .udp _ _ _ => true | .can => false

/-- The decidable part of Arrives. -/
def arrivesB (r : Req) (x : Session) (s : State) : Bool :=
  live s && acts s && reaches r s && formOk r && r.h.kind == 1 && !isFenced .h s && !isFenced .j s && !responderRuns s &&
    s.ses.resumeIn == 0 && s.ses.replayed && tierAtLeast .limited s && sessionOf r.h.ses s == some x && r.h.seq != 0 &&
    decide (65536 ≤ journalFree s)

theorem arrives_of {r : Req} {x : Session} {s : State} (h : arrivesB r x s = true) : Arrives r x s := by
  simp only [arrivesB, Bool.and_eq_true, Bool.not_eq_true', beq_iff_eq, bne_iff_ne, decide_eq_true_eq] at h
  simpa [Arrives, and_assoc] using h

/-- The decidable part of Ready. -/
def readyB (r : Req) (x : Session) (s : State) : Bool := arrivesB r x s && r.h.seq == x.next && x.held.isEmpty

theorem ready_of {r : Req} {x : Session} {s : State} (h : readyB r x s = true) : Ready r x s := by
  simp only [readyB, Bool.and_eq_true, beq_iff_eq, List.isEmpty_iff] at h
  exact ⟨arrives_of h.1.1, h.1.2, h.2⟩

/-- The decidable part of Asks. -/
def asksB (r : Req) (s : State) : Bool :=
  live s && acts s && reaches r s && formOk r && r.h.kind == 1 && r.h.seq == 0 && isUdp r.h.via && !isFenced .h s &&
    !responderRuns s && s.ses.resumeIn == 0 && s.ses.replayed && tierAtLeast .limited s

theorem udp_of {v : Via} (h : isUdp v = true) : ∃ a p own, v = .udp a p own := by
  cases v with
  | udp a p own => exact ⟨a, p, own, rfl⟩
  | can => simp [isUdp] at h

theorem asks_of {r : Req} {s : State} (h : asksB r s = true) : Asks r s := by
  simp only [asksB, Bool.and_eq_true, Bool.not_eq_true', beq_iff_eq] at h
  obtain ⟨⟨⟨⟨⟨⟨⟨⟨⟨⟨⟨h1, h2⟩, h3⟩, h4⟩, h5⟩, h6⟩, h7⟩, h8⟩, h9⟩, h10⟩, h11⟩, h12⟩ := h
  exact ⟨h1, h2, h3, h4, h5, h6, udp_of h7, h8, h9, h10, h11, h12⟩

/-- A command that leaves as it is queued: no LEARN of a lead. -/
def keepsItsWord (c : ChainCmd) : Bool := match c with | .learn false _ => false | _ => true

/-- A request writes n to an instance of entry e. -/
def writesB (e : Entry) (n : Nat) (r : Req) : Bool :=
  match reqEntry r with
  | some (f, _) => f == e && decodeVal e r.payload == some (.num n) && valueOk e (.num n)
  | none => false

theorem writes_of {e : Entry} {n : Nat} {r : Req} (h : writesB e n r = true) :
    ∃ k, reqEntry r = some (e, k) ∧ decodeVal e r.payload = some (.num n) ∧ valueOk e (.num n) = true := by
  unfold writesB at h
  split at h
  · next f k hk =>
    simp only [Bool.and_eq_true, beq_iff_eq] at h
    exact ⟨k, by rw [hk, h.1.1], h.1.2, h.2⟩
  · cases h

/-! ### A state that meets the hypotheses of each clause of each statement -/

theorem test_meets_SequencedRequestIsCheckedAndQueued :
    (let s : State := up; let i : Instr := readCmd 65537 5 0x4200 1; let r : Req := (requestOf i).getD default;
     let x : Session := (sessionOf r.h.ses s).getD default;
      decide (requestOf i = some r ∧ r.op ≠ 0x30 ∧ r.op ≠ 0x32 ∧ opKnown r.op = true ∧ readyB r x s = true ∧ opensOnReceipt r = false ∧
        opensAtOnce r (projected { x with last := s.now } (arrived x s)) (checked r x s).status = false)) = true := by decide +kernel

theorem test_meets_UnsequencedReadsAreAnsweredAtOnce :
    (let s : State := up; let i : Instr := readCmd 65537 0 0x4200 1; let r : Req := (requestOf i).getD default;
     let x : Session := (sessionOf r.h.ses s).getD default;
      decide (requestOf i = some r ∧ asksB r s = true ∧ sessionOf r.h.ses s = some x ∧ r.op = 0x01)) = true ∧
    (let s : State := up; let i : Instr := .describe (ask 3 0x4200 1 []) 0x4200#16 1#8; let r : Req := (requestOf i).getD default;
     let x : Session := (sessionOf r.h.ses s).getD default;
      decide (requestOf i = some r ∧ asksB r s = true ∧ sessionOf r.h.ses s = some x ∧ r.op = 0x03)) = true ∧
    (let s : State := up;
     let i : Instr := (let p := toBytes 2 0 ++ toBytes 4 0 ++ toBytes 2 64; .blockRead (ask 0x10 0x3200 0x12 p) 0x3200#16 0x12#8 p);
     let r : Req := (requestOf i).getD default; let x : Session := (sessionOf r.h.ses s).getD default;
      decide (requestOf i = some r ∧ asksB r s = true ∧ sessionOf r.h.ses s = some x ∧ r.op = 0x10)) = true ∧
    (let s : State := up; let i : Instr := .sessionState (ask 0x32 0 0 []); let r : Req := (requestOf i).getD default;
     let x : Session := (sessionOf r.h.ses s).getD default;
      decide (requestOf i = some r ∧ asksB r s = true ∧ sessionOf r.h.ses s = some x ∧ r.op = 0x32)) = true := by decide +kernel

theorem test_meets_SessionOpenAnswers :
    (let s : State := up; let h : Hdr := openHd 0 7; let p : List Byte := toBytes 8 7;
     let r : Req := { h := h, op := 0x30, index := 0, sub := 0, payload := p }; let service := bitOf h.flags 0;
     let found := s.ses.open_.find? fun x => x.client == fieldU p 0 8 && x.service == service; let x := ((found).getD default);
      decide (asksB r s = true ∧ p.length = 8 ∧ (service = true → s.ses.svcEn = true) ∧ found = some x)) = true ∧
    (let s : State := { up with sup := { up.sup with fenced := { j := true } } }; let h : Hdr := openHd 0 8;
     let p : List Byte := toBytes 8 8; let r : Req := { h := h, op := 0x30, index := 0, sub := 0, payload := p };
     let service := bitOf h.flags 0; let found := s.ses.open_.find? fun x => x.client == fieldU p 0 8 && x.service == service;
      decide (asksB r s = true ∧ p.length = 8 ∧ (service = true → s.ses.svcEn = true) ∧ found = none ∧ (freeSlot service s).isSome = true ∧
        isFenced .j s = true)) = true ∧
    (let s : State := up; let h : Hdr := openHd 0 8; let p : List Byte := toBytes 8 8;
     let r : Req := { h := h, op := 0x30, index := 0, sub := 0, payload := p }; let service := bitOf h.flags 0;
     let found := s.ses.open_.find? fun x => x.client == fieldU p 0 8 && x.service == service;
      decide (asksB r s = true ∧ p.length = 8 ∧ (service = true → s.ses.svcEn = true) ∧ found = none ∧ (freeSlot service s).isSome = true ∧
        isFenced .j s = false)) = true ∧
    (let s : State := fullUp; let h : Hdr := openHd 0 7; let p : List Byte := toBytes 8 7;
     let r : Req := { h := h, op := 0x30, index := 0, sub := 0, payload := p }; let service := bitOf h.flags 0;
     let found := s.ses.open_.find? fun x => x.client == fieldU p 0 8 && x.service == service;
      decide (asksB r s = true ∧ p.length = 8 ∧ (service = true → s.ses.svcEn = true) ∧ found = none ∧
        freeSlot service s = none)) = true := by decide +kernel

theorem test_meets_DispatchWritesWaitForStepSeven :
    (let s : State := inMode .stringCurrent { estimating with est := { estimating.est with noneSince := some 19500000000, lastUseAt := 19999999999 } };
     let h : Hdr := dspHd Ent.DSP_I_REQ; let p : List Byte := toBytesS 4 5000; let power : Bool := false;
     let e := if power then Ent.DSP_P_REQ else Ent.DSP_I_REQ; let r := writeReq e h p; let v := ((decodeVal e p).getD default);
      decide (asksB r s = true ∧ h.ses = 0 ∧ sessionOf 0 s = none ∧ decodeVal e p = some v ∧ valueOk e v = true ∧
        dispatchMatches power s = true)) = true ∧
    (let s : State := up; let h : Hdr := dspHd Ent.DSP_P_REQ; let p : List Byte := toBytesS 4 5000; let power : Bool := true;
     let e := if power then Ent.DSP_P_REQ else Ent.DSP_I_REQ; let r := writeReq e h p; let v := ((decodeVal e p).getD default);
      decide (asksB r s = true ∧ h.ses = 0 ∧ sessionOf 0 s = none ∧ decodeVal e p = some v ∧ valueOk e v = true ∧
        dispatchMatches power s = false)) = true := by decide +kernel

theorem test_meets_RequestsOutOfTurn :
    (let s : State := up; let i : Instr := readCmd 65537 6 0x4200 1; let r : Req := (requestOf i).getD default;
     let x : Session := (sessionOf r.h.ses s).getD default; let d := seqDiff r.h.seq x.next;
      decide (requestOf i = some r ∧ r.op ≠ 0x30 ∧ r.op ≠ 0x32 ∧ opKnown r.op = true ∧ arrivesB r x s = true ∧ x.held = [] ∧
        isUdp r.h.via = true ∧ opensOnReceipt r = false ∧ 1 ≤ d ∧ d ≤ 16)) = true ∧
    (let s : State := up; let i : Instr := readCmd 65537 22 0x4200 1; let r : Req := (requestOf i).getD default;
     let x : Session := (sessionOf r.h.ses s).getD default; let d := seqDiff r.h.seq x.next;
      decide (requestOf i = some r ∧ r.op ≠ 0x30 ∧ r.op ≠ 0x32 ∧ opKnown r.op = true ∧ arrivesB r x s = true ∧ x.held = [] ∧
        isUdp r.h.via = true ∧ opensOnReceipt r = false ∧ 16 < d)) = true ∧
    (let s : State := up; let i : Instr := readCmd 65537 4294967267 0x4200 1; let r : Req := (requestOf i).getD default;
     let x : Session := (sessionOf r.h.ses s).getD default; let d := seqDiff r.h.seq x.next;
      decide (requestOf i = some r ∧ r.op ≠ 0x30 ∧ r.op ≠ 0x32 ∧ opKnown r.op = true ∧ arrivesB r x s = true ∧ x.held = [] ∧
        isUdp r.h.via = true ∧ d < -32)) = true ∧
    (let s : State := cached; let i : Instr := readCmd 65537 4 0x4200 1; let r : Req := (requestOf i).getD default;
     let x : Session := (sessionOf r.h.ses s).getD default; let d := seqDiff r.h.seq x.next;
     let c := ((x.cache.find? (·.seq == r.h.seq)).getD default);
      decide (requestOf i = some r ∧ r.op ≠ 0x30 ∧ r.op ≠ 0x32 ∧ opKnown r.op = true ∧ arrivesB r x s = true ∧ x.held = [] ∧
        isUdp r.h.via = true ∧ -32 ≤ d ∧ d < 0 ∧ x.cache.find? (·.seq == r.h.seq) = some c ∧ s.sys.calWait = [] ∧
        s.prot.resumed = false)) = true := by decide +kernel

theorem test_meets_RequestsNotServed :
    (let s : State := up; let i : Instr := .commitNow { (hd 65537 5 0x20 0 0 [0#8]) with crc := 5 };
     let r : Req := (requestOf i).getD default; let a : Word32 := (match r.h.via with | .udp a _ _ => a | _ => 0#32);
     let p : Word16 := (match r.h.via with | .udp _ p _ => p | _ => 0#16);
     let own : Bool := (match r.h.via with | .udp _ _ own => own | _ => false);
      decide (requestOf i = some r ∧ r.h.via = .udp a p own ∧ live s = true ∧ reaches r s = true ∧ formOk r = false)) = true ∧
    (let s : State := fencedIn .h up; let i : Instr := readCmd 65537 5 0x4200 1; let r : Req := (requestOf i).getD default;
     let a : Word32 := (match r.h.via with | .udp a _ _ => a | _ => 0#32);
     let p : Word16 := (match r.h.via with | .udp _ p _ => p | _ => 0#16);
     let own : Bool := (match r.h.via with | .udp _ _ own => own | _ => false);
      decide (requestOf i = some r ∧ r.h.via = .udp a p own ∧ live s = true ∧ reaches r s = true ∧ formOk r = true ∧ r.h.kind = 1 ∧
        opKnown r.op = true ∧ isFenced .h s = true ∧ tierAtLeast .watch s = true)) = true ∧
    (let s : State := paired .standby chained; let i : Instr := readCmd 65537 5 0x4200 1; let r : Req := (requestOf i).getD default;
     let a : Word32 := (match r.h.via with | .udp a _ _ => a | _ => 0#32);
     let p : Word16 := (match r.h.via with | .udp _ p _ => p | _ => 0#16);
     let own : Bool := (match r.h.via with | .udp _ _ own => own | _ => false);
      decide (requestOf i = some r ∧ r.h.via = .udp a p own ∧ live s = true ∧ reaches r s = true ∧ formOk r = true ∧ r.h.kind = 1 ∧
        opKnown r.op = true ∧ isFenced .h s = false ∧ responderRuns s = false ∧ s.ses.resumeIn = 0 ∧ tierAtLeast .watch s = true ∧
        plainRead r = false ∧ s.pair.noGrant = false ∧ acts s = false)) = true ∧
    (let s : State := tierIs .watch { chained with ses := { chained.ses with replayed := false } };
     let i : Instr := readCmd 65537 5 0x4200 1; let r : Req := (requestOf i).getD default;
     let a : Word32 := (match r.h.via with | .udp a _ _ => a | _ => 0#32);
     let p : Word16 := (match r.h.via with | .udp _ p _ => p | _ => 0#16);
     let own : Bool := (match r.h.via with | .udp _ _ own => own | _ => false);
      decide (requestOf i = some r ∧ r.h.via = .udp a p own ∧ live s = true ∧ reaches r s = true ∧ formOk r = true ∧ r.h.kind = 1 ∧
        opKnown r.op = true ∧ isFenced .h s = false ∧ responderRuns s = false ∧ s.ses.resumeIn = 0 ∧ tierAtLeast .watch s = true ∧
        plainRead r = false ∧ s.pair.noGrant = false ∧ acts s = true ∧ tierAtLeast .limited s = false)) = true := by decide +kernel

theorem test_meets_SessionTimers :
    (let s : State := lateUp; let k : Nat := 1; let x : Session := ((sessionIn k s).getD default);
      decide (live s = true ∧ sessionIn k s = some x ∧ x.held ≠ [] ∧ (x.held.all fun g => isUdp g.req.h.via) = true ∧
        (x.held.any fun g => g.since + cfgN Ent.SES_GAP_T s * 1000000 ≤ s.now) = true)) = true ∧
    (let s : State := asleepLong; let k : Nat := 1; let x : Session := ((sessionIn k s).getD default);
      decide (live s = true ∧ sessionIn k s = some x ∧ acts s = true ∧ responderRuns s = false ∧
        x.last + cfgN Ent.SES_IDLE_T s * 1000000000 ≤ s.now ∧ s.recd.holdSes ≠ x.id)) = true ∧
    (let s : State := up; let k : Nat := 1; let x : Session := ((sessionIn k s).getD default);
      decide (live s = true ∧ sessionIn k s = some x ∧ x.last + 10000000000 ≤ s.now)) = true ∧
    (let s : State := lateUp; let k : Nat := 1; let x : Session := ((sessionIn k s).getD default);
      decide (live s = true ∧ sessionIn k s = some x ∧ segmentLate s = true)) = true ∧
    (let s : State := up; let k : Nat := 1; let x : Session := ((sessionIn k s).getD default);
      decide (live s = true ∧ sessionIn k s = some x ∧ segmentLate s = false)) = true ∧
    (let s : State := lateUp; let b : Byte := 0x80#8;
      decide (live s = true ∧ (sesCan s).isSome = true ∧ isFenced .b s = false ∧ isFenced .h s = false ∧ bitOf b.toNat 6 = false ∧
        bitOf b.toNat 7 = true ∧ b.toNat % 64 = 0)) = true ∧
    (let s : State := lateUp; let b : Byte := 1#8; let got := ((s.ses.canRx.map (·.1)).getD []);
     let prev := ((s.ses.canRx.map (·.2.1)).getD 0); let at_ := ((s.ses.canRx.map (·.2.2)).getD 0);
      decide (live s = true ∧ (sesCan s).isSome = true ∧ isFenced .b s = false ∧ isFenced .h s = false ∧ bitOf b.toNat 6 = false ∧
        bitOf b.toNat 7 = false ∧ s.ses.canRx = some (got, prev, at_))) = true ∧
    (let s : State := servicing; let x : Session := ((s.ses.open_.filter (·.service)).headD default);
      decide (live s = true ∧ responderRuns s = false ∧ s.ses.open_.filter (·.service) = [x] ∧
        s.recd.holdSes ≠ x.id)) = true := by decide +kernel

theorem test_meets_SweepLaunchStartsASweep :
    (let s : State := chained; let t : Nat := s.frameAt;
      decide (live s = true ∧ launchDue t s = true)) = true ∧
    (let s : State := up; let t : Nat := s.frameAt;
      decide (live s = true ∧ launchDue t s = false)) = true := by decide +kernel

theorem test_meets_SweepEventsEndTheirHalf :
    (let s : State := sweeping; let r : Radio := .a; let t : Nat := s.now; let b := trainBytes r 2 (s.chain.sweepCtr);
      decide (live s = true ∧ s.chain.sweep.active = true ∧ canSweep s = true ∧ radioFenced r s = false ∧ airCrcOk b = true ∧
        trainOk r b = true ∧ trainNow b s = true ∧ bitOf (fieldU b 4 1) 6 = false ∧ (halfSweep r s).done = false ∧
        t ≤ trainDue r s)) = true ∧
    (let s : State := sweeping; let r : Radio := .a; let b := [1#8, 2#8, 3#8, 4#8, 5#8];
      decide (live s = true ∧ s.chain.sweep.active = true ∧ canSweep s = true ∧ radioFenced r s = false ∧ sweepDone s = false ∧
        airCrcOk b = false)) = true := by decide +kernel

theorem test_meets_SweepEventsEndTheirHalf_otherSweep :
    (let s : State := sweeping; let r : Radio := .a; let b := trainBytes r 2 99;
      decide (live s = true ∧ s.chain.sweep.active = true ∧ canSweep s = true ∧ radioFenced r s = false ∧ sweepDone s = false ∧
        airCrcOk b = true ∧ trainOk r b = true ∧ trainNow b s = false)) = true := by decide +kernel

theorem test_meets_SweepEventsEndTheirHalf_2 :
    (let s : State := sweeping; let r : Radio := .a; let t : Nat := trainDue r s;
      decide (live s = true ∧ s.chain.sweep.active = true ∧ canSweep s = true ∧ radioFenced r s = false ∧ (halfSweep r s).done = false ∧
        trainDue r s ≤ t)) = true ∧
    (let s : State := sweeping; let r : Radio := .a; let t : Nat := s.now;
      decide (live s = true ∧ s.chain.sweep.active = true ∧ canSweep s = true ∧ radioFenced r s = false ∧ (halfSweep r s).done = false ∧
        t < trainDue r s)) = true ∧
    (let s : State := brokenB; let r : Radio := .a; let t : Nat := s.now;
      decide (live s = true ∧ s.chain.sweep.active = true ∧ canSweep s = true ∧ radioFenced r s = false ∧
        needsRecovery (otherRadio r) s = true ∧ (halfSweep r s).done = true ∧ (halfSweep (otherRadio r) s).done = true ∧
        (halfSweep r s).recovering = false ∧ (halfSweep r s).recovered = false ∧
        (r = .b ∨ (halfSweep .a s).broken = false ∨ (halfSweep .b s).recovered = true) ∧ recoveryFrom r s ≤ t)) = true := by decide +kernel

theorem test_meets_SweepEventsEndTheirHalf_3 :
    (let s : State := brokenB; let r : Radio := .a; let t : Nat := recoveryFrom r s - 1;
      decide (live s = true ∧ s.chain.sweep.active = true ∧ canSweep s = true ∧ radioFenced r s = false ∧
        needsRecovery (otherRadio r) s = true ∧ (halfSweep r s).done = true ∧ (halfSweep (otherRadio r) s).done = true ∧
        (halfSweep r s).recovering = false ∧ (halfSweep r s).recovered = false ∧
        (r = .b ∨ (halfSweep .a s).broken = false ∨ (halfSweep .b s).recovered = true) ∧ t < recoveryFrom r s)) = true ∧
    (let s : State := recoveringA; let r : Radio := .a; let t : Nat := recoveryDue r s;
      decide (live s = true ∧ s.chain.sweep.active = true ∧ canSweep s = true ∧ radioFenced r s = false ∧
        (halfSweep r s).recovering = true ∧ recoveryDue r s ≤ t)) = true := by decide +kernel

theorem test_meets_ChainFramesLeave :
    (let s : State := dutyWaits; let r : Radio := .a; let t : Nat := dutyDue r s;
      decide (live s = true ∧ acts s = true ∧ radioFenced r s = false ∧ canSweep s = true ∧ s.chain.sweep.run = true ∧ 0 < halfLen r s ∧
        (halfSweep r s).done = true ∧ (halfSweep r s).dutySent = false ∧ s.chain.sweep.split = false ∧ dutyDue r s ≤ t)) = true ∧
    (let s : State := dutyWaits; let r : Radio := .a; let t : Nat := 20000000000;
      decide (live s = true ∧ acts s = true ∧ radioFenced r s = false ∧ canSweep s = true ∧ s.chain.sweep.run = true ∧ 0 < halfLen r s ∧
        (halfSweep r s).done = true ∧ (halfSweep r s).dutySent = false ∧ s.chain.sweep.split = false ∧ t < dutyDue r s)) = true ∧
    (let s : State := tasksDue;
      decide (live s = true ∧ acts s = true ∧ canSweep s = true ∧ 1000 ≤ s.chctl.sincePoll)) = true ∧
    (let s : State := tasksDue;
      decide (live s = true ∧ acts s = true ∧ canSweep s = true ∧ 100 ≤ s.chctl.evalSweepsA)) = true ∧
    (let s : State := tasksDue;
      decide (live s = true ∧ acts s = true ∧ canSweep s = true ∧ 100 ≤ s.chctl.evalSweepsB)) = true ∧
    (let s : State := tasksDue;
      decide (live s = true ∧ acts s = true ∧ canSweep s = true ∧ s.cells.map = .mapped ∧ cfgB Ent.STR_LEAD_LEARN s = true ∧
        s.chctl.balMode = 0 ∧ s.chctl.triple = none ∧ cfgN Ent.STR_LEAD_LEARN_INT s ≤ s.chctl.sinceLearn)) = true ∧
    (let s : State := up; let r := .a;
      decide (live s = true ∧ radioFenced r s = false)) = true := by decide +kernel

theorem test_meets_ChainFramesLeave_window :
    let s : State := window .a (.readId 1); let r : Radio := .a; let t : Nat := 20000000000; let c : ChainCmd := .readId 1;
    decide (live s = true ∧ acts s = true ∧ radioFenced r s = false ∧ canExchange s = true ∧ popCmd r s.chctl.queue = some (c, []) ∧
      busyUntil r s ≤ t ∧ awaited r s = none ∧ keepsItsWord c = true ∧ inWindow r t s = true ∧
      exchangeFits t (cmdTime r c s) s = true) = true ∧ stampCmd r c s = (c, s) := ⟨by decide +kernel, rfl⟩

theorem test_meets_ChainFramesLeave_noRoom :
    let s : State := window .a (.readId 1); let r : Radio := .a; let t : Nat := nextLaunch s; let c : ChainCmd := .readId 1;
    decide (live s = true ∧ acts s = true ∧ radioFenced r s = false ∧ canExchange s = true ∧ popCmd r s.chctl.queue = some (c, []) ∧
      busyUntil r s ≤ t ∧ awaited r s = none ∧ keepsItsWord c = true ∧ inWindow r t s = true ∧
      exchangeFits t (cmdTime r c s) s = false) = true ∧ stampCmd r c s = (c, s) := ⟨by decide +kernel, rfl⟩

theorem test_lead_reply_bytes : replyBytes .a 2 2 (toBytes 1 0xA1 ++ toBytes 4 5) = leadReply := by decide +kernel

theorem test_meets_ChainFramesLeave_reply :
    (let s : State := keyedNodes; let r : Radio := .a; let p : List Byte := [0xA1#8, 0#8, 0#8, 0#8, 5#8]; let h := replyNode r leadReply s;
      decide (live s = true ∧ s.cells.map = .mapped ∧ isFenced .m s = false ∧ radioFenced r s = false ∧ airCrcOk leadReply = true ∧
        replyOk r leadReply s = true ∧ replyPayload r (some (nodeAt h s).id) leadReply s = some p ∧ p.length = 5 ∧
        fieldU p 0 1 = 0xA1)) = true := by decide +kernel

theorem test_meets_EnumerationFormsTheMap :
    (let s : State := enumerating; let rounds : List (List EnumClaim) := fourRounds ++ [[], []]; let mis : Bool := false;
     let reach : Bool := true; let found := (enumWalk 0 false rounds).2;
      decide (live s = true ∧ s.chain.state = .enumerating ∧ found.length ≤ 32 ∧ found.length = nodeCount s ∧ mis = false ∧
        reach = true)) = true := by decide +kernel

theorem test_meets_EnumerationFormsTheMap_2 :
    (let s : State := enumerating; let rounds : List (List EnumClaim) := fourRounds ++ [[], []]; let mis : Bool := true;
     let reach : Bool := true; let found := (enumWalk 0 false rounds).2;
      decide (live s = true ∧ s.chain.state = .enumerating ∧ found.length ≤ 32 ∧
        (found.length ≠ nodeCount s ∨ mis = true ∨ reach = false))) = true := by decide +kernel

theorem test_meets_EnumerationFormsTheMap_3 :
    (let s : State := reading; let r : Radio := .a; let id : Word64 := 2;
     let b : List Byte := replyBytes r 2 2 (toBytes 1 0xA0 ++ toBytes 8 2 ++ [1#8] ++ toBytes 4 9);
     let p : List Byte := ((replyPayload r (some id.toNat) b s).getD default); let h := replyNode r b s;
      decide (live s = true ∧ isFenced .m s = false ∧ radioFenced r s = false ∧ airCrcOk b = true ∧ replyOk r b s = true ∧ s.chain.n ≤ 32 ∧
        replyPayload r (some id.toNat) b s = some p ∧ p.length = 14 ∧ fieldU p 0 1 = 0xA0 ∧ fieldU p 1 8 = id.toNat ∧
        s.cells.map ≠ .mapped ∧ s.chctl.idWait = true ∧
        ((upTo 1 s.chain.n).all fun k => k == h || (nodeAt k s).answered) = true)) = true := by decide +kernel

theorem test_meets_EstimatorTimedEvents :
    (let s : State := up;
      decide (live s = true ∧ max s.est.lastUseAt s.sys.t0 + 10000000 ≤ s.now)) = true ∧
    (let s : State := sourceless;
      decide (live s = true ∧ s.now < max s.est.lastUseAt s.sys.t0 + 10000000)) = true ∧
    (let s : State := sourceless; let t := (s.est.noneSince.getD 0);
      decide (live s = true ∧ s.est.noneSince = some t ∧ s.est.source = .none ∧ parked s = false ∧ isFenced .e s = false ∧
        t + 1000000000 ≤ s.now)) = true ∧
    (let s : State := inMode .stringCurrent { estimating with est := { estimating.est with noneSince := some 19500000000, lastUseAt := 19999999999 } };
     let t := (s.est.noneSince.getD 0);
      decide (live s = true ∧ s.est.noneSince = some t ∧ s.est.source = .none ∧ parked s = false ∧ isFenced .e s = false ∧
        s.now < t + 1000000000)) = true := by decide +kernel

theorem test_meets_EstimatorTimedEvents_2 :
    (let s : State := estimating; let m := divT (sumI s.est.secI) s.est.secI.length;
      decide (live s = true ∧ estRuns s = true ∧ s.est.secNone = false ∧ s.est.secI ≠ [] ∧ m = divT (sumI s.est.secI) s.est.secI.length ∧
        1000 ≤ s.est.secFrames)) = true ∧
    (let s : State := { estimating with est := { estimating.est with secFrames := 10 } };
     let m := divT (sumI s.est.secI) s.est.secI.length;
      decide (live s = true ∧ estRuns s = true ∧ s.est.secNone = false ∧ s.est.secI ≠ [] ∧ m = divT (sumI s.est.secI) s.est.secI.length ∧
        s.est.secFrames < 1000)) = true ∧
    (let s : State := asleepLong; let n : Fin 256 := 0;
      decide (live s = true ∧ (doneAt n.val s).tq.valid = false ∧ isFenced .e s = false ∧
        lastTempAt n.val s + 60000000000 ≤ s.now)) = true ∧
    (let s : State := up; let n : Fin 256 := 0;
      decide (live s = true ∧ (doneAt n.val s).tq.valid = false ∧ isFenced .e s = false ∧
        s.now < lastTempAt n.val s + 60000000000)) = true := by decide +kernel

theorem test_meets_EstimatorTimedEvents_3 :
    (let s : State := paging; let k : Fin 16 := 15;
      decide (live s = true ∧ needsLoad k.val s = true)) = true := by decide +kernel

theorem test_meets_EstimatorTimedEvents_words :
    (let s : State := up; let k : Fin 16 := 0;
      decide (live s = true ∧ needsLoad k.val s = false)) = true ∧
    (let s : State := up; let b : List Byte := word8;
      decide (live s = true ∧ ((b.length = 8 ∧ fieldU b 0 1 = 0xC3 ∧ fieldU b 6 2 = crc16 (b.take 6))) ∧ fieldU b 4 1 = 0)) = true ∧
    (let s : State := up; let b : List Byte := word8.set 1 9#8;
      decide (live s = true ∧ (¬ (b.length = 8 ∧ fieldU b 0 1 = 0xC3 ∧ fieldU b 6 2 = crc16 (b.take 6))))) = true := by decide +kernel

theorem test_meets_CheckpointsRestoreAndHibernation :
    (let s : State := estimating;
      decide (live s = true ∧ estRuns s = true ∧ s.est.restored = true ∧
        due s.est.cpAt (cfgN Ent.EST_CKPT_INT s * 1000000000) s = true)) = true ∧
    (let s : State := { estimating with est := { estimating.est with cpAt := some 20000000000 }, ident := { estimating.ident with loaded := true, hourAt := some 20000000000 } };
      decide (live s = true ∧ estRuns s = true ∧ s.est.restored = true ∧
        due s.est.cpAt (cfgN Ent.EST_CKPT_INT s * 1000000000) s = false)) = true ∧
    (let s : State := up;
      decide (live s = true ∧ restoreDue s = true)) = true ∧
    (let s : State := quiet_;
      decide (live s = true ∧ estRuns s = true ∧ s.est.restored = true ∧ quiet s.est.m s = true ∧
        cfgN Ent.EST_HIB_DELAY s * 60 ≤ s.est.quietT)) = true ∧
    (let s : State := estimating;
      decide (live s = true ∧ estRuns s = true ∧ s.est.restored = true ∧ s.est.quietT < cfgN Ent.EST_HIB_DELAY s * 60)) = true ∧
    (let s : State := up; let c := WakeCause.command;
      decide (live s = true ∧ (c = .current → 4 ≤ s.est.wakeRun))) = true ∧
    (let s : State := up;
      decide (live s = true ∧ s.est.wakeRun < 4)) = true ∧
    (let s : State := asleepLong;
      decide (live s = true ∧ s.est.state = .hibernating ∧ isFenced .e s = false ∧ s.est.waking = false ∧
        s.est.hibSince + 900000000000 ≤ s.now)) = true ∧
    (let s : State := asleep;
      decide (live s = true ∧ s.est.state = .hibernating ∧ isFenced .e s = false ∧ s.est.waking = false ∧
        s.now < s.est.hibSince + 900000000000)) = true := by decide +kernel

theorem test_meets_CapacityLearningCompletes :
    (let s : State := learning id; let n : Fin 256 := 5; let e : CapLearn := (((lpAt n.val s).entry).getD default); let p := lpAt n.val s;
     let r := ((learnCompute n.val e s).getD default);
      decide (live s = true ∧ acts s = true ∧ (lpAt n.val s).entry = some e ∧ e.gen = (learnedAt n.val s).gen ∧ p.committed = true ∧
        p.closing = false ∧ p.next = none ∧ learnCompute n.val e s = some r)) = true ∧
    (let s : State := written; let n : Fin 256 := 5; let e : CapLearn := (((lpAt n.val s).entry).getD default); let p := lpAt n.val s;
     let r := ((lpAt n.val s).next).getD default; let x := true; let y := true;
      decide (live s = true ∧ acts s = true ∧ (lpAt n.val s).entry = some e ∧ e.gen = (learnedAt n.val s).gen ∧ p.next = some r ∧
        gaugeOk 10 s = true ∧ (x || y) = true ∧ topSeq p < 4294967295)) = true ∧
    (let s : State := { written with sup := { written.sup with holdT := 0 } }; let n : Fin 256 := 5;
     let e : CapLearn := (((lpAt n.val s).entry).getD default); let p := lpAt n.val s; let r := ((lpAt n.val s).next).getD default;
      decide (live s = true ∧ acts s = true ∧ (lpAt n.val s).entry = some e ∧ e.gen = (learnedAt n.val s).gen ∧ p.next = some r ∧
        gaugeOk 10 s = false)) = true ∧
    (let s : State := learning fun p => { p with a := { p.a with seq := 5 } }; let n : Fin 256 := 5;
     let e : CapLearn := (((lpAt n.val s).entry).getD default); let p := lpAt n.val s;
      decide (live s = true ∧ acts s = true ∧ (lpAt n.val s).entry = some e ∧ e.gen = (learnedAt n.val s).gen ∧ s.ident.loaded = true ∧
        s.est.restored = true ∧ p.committed = true ∧ p.closing = false ∧ p.next = none ∧ earlierOpen n.val s = false ∧
        e.target ≤ topSeq p)) = true ∧
    (let s : State := { (learning fun p => { p with waitSince := some 5 }) with now := 10 ^ 14, frameAt := 10 ^ 14 }; let n : Fin 256 := 5;
     let t : Nat := 5;
      decide (live s = true ∧ waitingSince n.val s = some t ∧ t + 60000000000 ≤ s.now)) = true ∧
    (let s : State := learning fun p => { p with next := some { p.a with cap := 99000 }, state := .deferred, waitSince := some 5 };
     let n : Fin 256 := 5; let t : Nat := 5;
      decide (live s = true ∧ waitingSince n.val s = some t ∧ s.now < t + 60000000000)) = true ∧
    (let s : State := learning id; let n : Fin 256 := 2;
      decide (live s = true ∧ gaugeOk 10 s = true ∧ (lpAt n.val s).aOk = true ∧ (lpAt n.val s).bOk = true)) = true ∧
    (let s : State := { (learning fun p => { p with aOk := false, bOk := false }) with now := 10 ^ 14, frameAt := 10 ^ 14 };
     let n : Fin 256 := 5; let b : Bool := true;
      decide (live s = true ∧ gaugeOk 10 s = true ∧ ((if b then (lpAt n.val s).aOk else (lpAt n.val s).bOk) = false) ∧
        s.est.restored = true)) = true ∧
    (let s : State := learning id;
      decide (live s = true ∧ s.ident.loaded = true ∧ acts s = true ∧ due s.ident.hourAt 3600000000000 s = true ∧
        gaugeOk 2560 s = true)) = true ∧
    (let s : State := { written with sup := { written.sup with holdT := 0 } };
      decide (live s = true ∧ s.ident.loaded = true ∧ acts s = true ∧ due s.ident.hourAt 3600000000000 s = true ∧
        gaugeOk 2560 s = false)) = true ∧
    (let s : State := { estimating with est := { estimating.est with cpAt := some 20000000000 }, ident := { estimating.ident with loaded := true, hourAt := some 20000000000 } };
      decide (live s = true ∧ due s.ident.hourAt 3600000000000 s = false)) = true := by decide +kernel

theorem test_meets_LanesTrainSelectAndFall :
    (let s : State := up; let l : Lane := .l0;
      decide (live s = true ∧ cRuns s = true ∧ wired l s = true ∧ laneState l s = .down)) = true ∧
    (let s : State := linked .training .training none; let l : Lane := .l0;
      decide (live s = true ∧ cRuns s = true ∧ laneState l s = .training ∧ 2 ≤ laneGood l s ∧ s.pair.paired = false ∧
        s.pair.handing = false)) = true ∧
    (let s : State := linked .up .up (some 0); let l : Lane := .l0;
      decide (live s = true ∧ laneState l s ≠ .down ∧ isSelected l s = true ∧ s.pair.paired = false ∧
        laneUp (otherLane l) s = true)) = true ∧
    (let s : State := linked .training .training none; let l : Lane := .l0;
      decide (live s = true ∧ laneState l s ≠ .down ∧ s.pair.paired = false ∧
        (isSelected l s = false ∨ laneUp (otherLane l) s = false))) = true ∧
    (let s : State := asked; let b : List Byte := svcBytes 1 5 ident35; let p : List Byte := ((svcReply 1 b s).getD default);
      decide (live s = true ∧ svcReply 1 b s = some p ∧ p.length = 35)) = true ∧
    (let s : State := asked; let b : List Byte := svcBytes 2 6 [0#8, 0#8, 0#8, 3#8]; let p : List Byte := ((svcReply 2 b s).getD default);
      decide (live s = true ∧ svcReply 2 b s = some p ∧ p.length = 4)) = true ∧
    (let s : State := asked; let b : List Byte := svcBytes 3 7 [0#8, 0#8, 0#8, 0#8]; let p : List Byte := ((svcReply 3 b s).getD default);
      decide (live s = true ∧ svcReply 3 b s = some p ∧ p.length = 4)) = true ∧
    (let s : State := up; let op : Nat := 1; let b : List Byte := svcBytes 1 5 ident35;
      decide (live s = true ∧
        (fieldU b (b.length - 4) 4 ≠ crc32c (b.take (b.length - 4)) ∨ fieldU b 1 1 ≠ op + 128 ∨ ∀ r ∈ s.link.svc, r.op = op → r.tag ≠ fieldU b 2 1) ∧
        op = 1)) = true ∧
    (let s : State := up; let op : Nat := 2; let b : List Byte := svcBytes 1 5 ident35;
      decide (live s = true ∧
        (fieldU b (b.length - 4) 4 ≠ crc32c (b.take (b.length - 4)) ∨ fieldU b 1 1 ≠ op + 128 ∨ ∀ r ∈ s.link.svc, r.op = op → r.tag ≠ fieldU b 2 1) ∧
        op = 2)) = true ∧
    (let s : State := up; let op : Nat := 3; let b : List Byte := svcBytes 1 5 ident35;
      decide (live s = true ∧
        (fieldU b (b.length - 4) 4 ≠ crc32c (b.take (b.length - 4)) ∨ fieldU b 1 1 ≠ op + 128 ∨ ∀ r ∈ s.link.svc, r.op = op → r.tag ≠ fieldU b 2 1) ∧
        op = 3)) = true := by decide +kernel

theorem test_meets_SampleFramesAreTaken :
    (let s : State := up; let l : Lane := .l0; let b : List Byte := (sampleBytes 0).set 9 1#8;
      decide (live s = true ∧ s.pair.paired = false ∧ s.pair.handing = false ∧ s.pair.laneHeld = false ∧ s.sp.mode.running = false ∧
        cRuns s = true ∧ wired l s = true ∧ sampleOk b = false)) = true ∧
    (let s : State := linked .training .training none; let l : Lane := .l0; let b : List Byte := sampleBytes 0;
      decide (live s = true ∧ s.pair.paired = false ∧ s.pair.handing = false ∧ s.pair.laneHeld = false ∧ s.sp.mode.running = false ∧
        cRuns s = true ∧ wired l s = true ∧ sampleOk b = true ∧ laneState l s = .training)) = true ∧
    (let s : State := missing; let l : Lane := .l0; let t : Nat := peakNs s; let b : List Byte := sampleBytes 0;
      decide (live s = true ∧ s.pair.paired = false ∧ s.pair.handing = false ∧ s.pair.laneHeld = false ∧ s.sp.mode.running = false ∧
        cRuns s = true ∧ wired l s = true ∧ sampleOk b = true ∧ laneUp l s = true ∧ s.link.usable = false ∧ 0 < s.tb.boundaries ∧
        peakNs s ≤ t ∧ t ≤ sampleBy s)) = true ∧
    (let s : State := linked .training .up (some 1); let l : Lane := .l1; let t : Nat := sampleBy s + 1;
     let b : List Byte := sampleBytes 0;
      decide (live s = true ∧ s.pair.paired = false ∧ s.pair.handing = false ∧ s.pair.laneHeld = false ∧ s.sp.mode.running = false ∧
        cRuns s = true ∧ wired l s = true ∧ sampleOk b = true ∧ laneUp l s = true ∧
        (s.link.usable = true ∨ t < peakNs s ∨ sampleBy s < t))) = true ∧
    (let s : State := missing; let t : Nat := sampleBy s;
      decide (live s = true ∧ s.pair.paired = false ∧ s.pair.handing = false ∧ s.pair.laneHeld = false ∧ s.sp.mode.running = false ∧
        cRuns s = true ∧ 0 < s.tb.boundaries ∧ s.link.judged = false ∧ s.link.usable = false ∧ sampleBy s ≤ t)) = true ∧
    (let s : State := missing; let t : Nat := peakNs s;
      decide (live s = true ∧ s.pair.paired = false ∧ s.pair.handing = false ∧ s.pair.laneHeld = false ∧ s.sp.mode.running = false ∧
        cRuns s = true ∧ 0 < s.tb.boundaries ∧ s.link.judged = false ∧ s.link.usable = false ∧ t < sampleBy s)) = true ∧
    (let s : State := { up with link := { up.link with judged := true }, tb := { up.tb with boundaries := 1, valley := 8000000000 } };
      decide (live s = true ∧ s.pair.paired = false ∧ s.pair.handing = false ∧ s.pair.laneHeld = false ∧ s.sp.mode.running = false ∧
        cRuns s = true ∧ s.link.judged = true)) = true ∧
    (let s : State := missing;
      decide (live s = true ∧ cfgN Ent.CVT_SAMPLE_MISS_MAX s ≤ s.link.missRun)) = true ∧
    (let s : State := up;
      decide (live s = true ∧ s.link.missRun < cfgN Ent.CVT_SAMPLE_MISS_MAX s)) = true := by decide +kernel

theorem test_meets_CurrentLoopComputesTheDuty :
    (let s : State := looping; let l : Lane := .l0; let t : Nat := peakNs s; let b : List Byte := sampleBytes 0;
     let k := loopOf s.sp.dir s; let x := parseSample b;
     let e := clampI (-s.sp.chgLim) s.sp.disLim (divT s.sp.r 65536) - iSumOf x s.sp.en s.link.stage.iphLsb;
     let run := cuRun (cuAt k s) e s.link.lat.dutyMin s.link.lat.dutyMax;
      decide (live s = true ∧ cRuns s = true ∧ s.pair.paired = false ∧ s.pair.handing = false ∧ s.pair.laneHeld = false ∧ wired l s = true ∧
        laneUp l s = true ∧ sampleOk b = true ∧ s.link.usable = false ∧ 0 < s.tb.boundaries ∧ peakNs s ≤ t ∧ t ≤ sampleBy s ∧
        s.sp.mode = .stringCurrent ∧ inControl s = true ∧ (parseSample b).stopped = false ∧ s.sp.modeOff = false ∧ s.sp.dwell = 0 ∧
        s.sp.flipDue = false ∧ 0 < s.sp.quiet ∧ k < 8 ∧ k ≠ s.link.vloop ∧ loopOf (opposite s.sp.dir) s ≠ k ∧ (cuAt k s).state = .run ∧
        run.2 = false ∧ run.1.sat < (cuAt k s).satMax)) = true := by decide +kernel

theorem test_meets_DutyFramesLeave :
    (let s : State := up; let t : Nat := dutyAt s; let complete := decide (s.link.doneAt ≤ t);
     let now := decide (dutyAt s ≤ t + 10) && decide (t ≤ dutyAt s + 10) && !s.link.sent;
      decide (live s = true ∧ cRuns s = true ∧ s.pair.paired = false ∧ s.pair.handSeq = none ∧ s.pair.fenceIn = false ∧
        s.sp.flipDue = false ∧ now = true ∧ (complete = true ∨ s.link.usable = false))) = true ∧
    (let s : State := driving true true 0; let t : Nat := dutyAt s; let complete := decide (s.link.doneAt ≤ t);
     let now := decide (dutyAt s ≤ t + 10) && decide (t ≤ dutyAt s + 10) && !s.link.sent;
      decide (live s = true ∧ cRuns s = true ∧ s.pair.paired = false ∧ s.pair.handSeq = none ∧ s.pair.fenceIn = false ∧
        s.sp.flipDue = false ∧ now = true ∧ complete = false ∧ s.link.usable = true)) = true ∧
    (let s : State := up; let t : Nat := dutyAt s + 11;
     let now := decide (dutyAt s ≤ t + 10) && decide (t ≤ dutyAt s + 10) && !s.link.sent;
      decide (live s = true ∧ cRuns s = true ∧ s.pair.paired = false ∧ s.pair.handSeq = none ∧ s.pair.fenceIn = false ∧
        s.sp.flipDue = false ∧ now = false)) = true := by decide +kernel

theorem test_meets_BoundariesLatchAndStart :
    (let s : State := up; let t : Nat := s.now;
      decide (live s = true ∧ cRuns s = true ∧ s.pair.paired = false ∧ s.sp.toStandby = false ∧ s.link.moveFrom = none ∧
        valleyDue t s = true ∧ s.sp.mode.running = false ∧ s.sp.req = .none)) = true ∧
    (let s : State := starting .stringCurrent 0; let t : Nat := nextValley s * 5 / 2; let m := .stringCurrent;
      decide (live s = true ∧ cRuns s = true ∧ s.pair.paired = false ∧ s.sp.toStandby = false ∧ s.link.moveFrom = none ∧
        valleyDue t s = true ∧ s.sp.mode = .standby ∧ s.sp.req = .run m ∧ m.running = true ∧ s.sp.dwell = 0 ∧
        healthyPhases s ≠ 0)) = true ∧
    (let s : State := starting .stringPower 4095; let t : Nat := nextValley s * 5 / 2; let m := .stringPower;
      decide (live s = true ∧ cRuns s = true ∧ s.pair.paired = false ∧ s.sp.toStandby = false ∧ s.link.moveFrom = none ∧
        valleyDue t s = true ∧ s.sp.mode = .standby ∧ s.sp.req = .run m ∧ m.running = true ∧ s.sp.dwell = 0 ∧
        healthyPhases s = 0)) = true ∧
    (let s : State := missing; let t : Nat := s.now;
      decide (live s = true ∧ cRuns s = true ∧ s.pair.paired = false ∧ s.sp.toStandby = false ∧ s.link.moveFrom = none ∧
        valleyDue t s = false)) = true := by decide +kernel

theorem test_meets_TimebaseFollowsItsSource :
    (let s : State := synced none;
      decide (live s = true ∧ followsStage s = false ∧ tbSource s = 1)) = true ∧
    (let s : State := synced none; let t := s.now;
      decide (live s = true ∧ followsStage s = false ∧ tbSource s ≠ 0 ∧ sourceLost (atTime t s) = true)) = true ∧
    (let s : State := synced (some 20000009000); let t := s.now;
      decide (live s = true ∧ followsStage s = false ∧ tbSource s ≠ 0 ∧ sourceLost (atTime t s) = false)) = true ∧
    (let s : State := synced none;
      decide (live s = true ∧ followsStage s = false ∧ s.tb.state = .locking ∧ 16 ≤ s.tb.lockRun)) = true ∧
    (let s : State := withCfg [(Ent.CVT_TB_SOURCE, 0, 0)] (synced none); let t := 20000049000;
      decide (live s = true ∧ followsStage s = false ∧ cRuns s = true ∧ valleyDue t s = true ∧ s.link.last.run = true ∧
        tbSource s = 0)) = true ∧
    (let s : State := synced none; let t := 20000049000;
      decide (live s = true ∧ followsStage s = false ∧ cRuns s = true ∧ valleyDue t s = true ∧ s.link.last.run = true ∧ tbSource s ≠ 0 ∧
        0 ≤ slewPs s ∧ slewPs s ≤ s.tb.period)) = true := by decide +kernel

theorem test_meets_RampStaysInItsLimits :
    (let s : State := up; let lo : Int := (rampBounds s.sp.mode s).1; let hi : Int := (rampBounds s.sp.mode s).2;
      decide (rampBounds s.sp.mode s = (lo, hi) ∧ lo ≤ hi ∧ 0 ≤ rampStepOf (rampRate s.sp.mode s) s ∧ lo * 65536 ≤ s.sp.r ∧
        s.sp.r ≤ hi * 65536)) = true := by decide +kernel

theorem test_meets_SetpointSources :
    (let s : State := up;
      decide (live s = true ∧ isFenced .f s = false ∧ isActive 0x6040 wide s = false)) = true ∧
    (let s : State := up;
      decide (live s = true ∧ isFenced .f s = false ∧ isActive 0x6041 wide s = false ∧ s.sp.pi.rise = none)) = true ∧
    (let s : State := sourced .ai 2 0 true; let t0 := ((s.sp.pi.rise).getD default);
      decide (live s = true ∧ isFenced .f s = false ∧ isActive 0x6041 wide s = false ∧ s.sp.pi.rise = some t0)) = true ∧
    (let s : State := up; let k := .pi;
      decide (live s = true ∧ ((((sourceOf k s).cond = true ∧ (sourceOf k s).since + cfgN Ent.SP_LOS_TIME s * 1000000 ≤ s.now) ∨ (k = .pi ∧
        s.sp.pi.rise.getD 0 + cfgN Ent.SP_LOS_TIME s * 1000000 ≤ s.now))))) = true ∧
    (let s : State := up; let k := .ai;
      decide (live s = true ∧ (¬ (((sourceOf k s).cond = true ∧
        (sourceOf k s).since + cfgN Ent.SP_LOS_TIME s * 1000000 ≤ s.now) ∨ (k = .pi ∧
        s.sp.pi.rise.getD 0 + cfgN Ent.SP_LOS_TIME s * 1000000 ≤ s.now))))) = true ∧
    (let s : State := up; let k := .ai;
      decide (live s = true ∧ (sourceOf k s).cond = false ∧ (sourceOf k s).since + 100000000 ≤ s.now ∧ (¬ (k = .pi ∧
        s.sp.pi.rise.getD 0 + cfgN Ent.SP_LOS_TIME s * 1000000 ≤ s.now)))) = true ∧
    (let s : State := sourced .ai 2 0 true; let k := .ai;
      decide (live s = true ∧ ((sourceOf k s).cond = true ∨ s.now < (sourceOf k s).since + 100000000))) = true := by decide +kernel

theorem test_meets_DirectionAndPhases :
    (let s : State := dwelling;
      decide (live s = true ∧ s.sp.flipDue = true ∧ s.sp.mode.running = true ∧ loopOf (opposite s.sp.dir) s < 8)) = true ∧
    (let s : State := up;
      decide (live s = true ∧ s.sp.flipDue = false)) = true ∧
    (let s : State := shedding 0; let j := 2; let t := ((s.sp.lowSince).getD default);
      decide (live s = true ∧ shedOpen s = true ∧ loadLow s = true ∧ (List.range 12).reverse.find? (bitOf s.sp.en) = some j ∧
        s.sp.lowSince = some t ∧ t + cfgN Ent.SP_SHED_DELAY s * 1000000 ≤ s.now)) = true ∧
    (let s : State := shedding 20000000000; let j := 2; let t := ((s.sp.lowSince).getD default);
      decide (live s = true ∧ shedOpen s = true ∧ loadLow s = true ∧ (List.range 12).reverse.find? (bitOf s.sp.en) = some j ∧
        s.sp.lowSince = some t ∧ s.now < t + cfgN Ent.SP_SHED_DELAY s * 1000000)) = true ∧
    (let s : State := { looping with sp := { looping.sp with shedHold := true, holdEnd := some 5 } };
     let t := ((s.sp.holdEnd).getD default);
      decide (live s = true ∧ s.sp.holdEnd = some t ∧ t ≤ s.now)) = true ∧
    (let s : State := { looping with sp := { looping.sp with shedHold := true, holdEnd := some 30000000000 } };
     let t := ((s.sp.holdEnd).getD default);
      decide (live s = true ∧ s.sp.holdEnd = some t ∧ s.now < t)) = true ∧
    (let s : State := up;
      decide (live s = true ∧ s.sp.redist = 0)) = true ∧
    (let s : State := { looping with sp := { looping.sp with redist := 2, toAng := [0, 21845, 43690] } };
      decide (live s = true ∧ s.sp.redist ≠ 0)) = true ∧
    (let s : State := { looping with sp := { looping.sp with redist := 1, toAng := [0, 21845, 43690] } }; let j := 1;
      decide (live s = true ∧ s.sp.redist = 1 ∧ j < 12)) = true ∧
    (let s : State := imbalanced false; let j : Fin 12 := 2; let shed : Bool := false;
      decide (live s = true ∧ s.sp.mode.running = true ∧ bitOf s.sp.en j.val = true ∧ imbalanceDue j.val shed s = true ∧
        shed = false)) = true ∧
    (let s : State := imbalanced false; let j : Fin 12 := 2; let shed : Bool := true;
      decide (live s = true ∧ s.sp.mode.running = true ∧ bitOf s.sp.en j.val = true ∧ imbalanceDue j.val shed s = true ∧ shed = true ∧
        s.sp.changed = false)) = true ∧
    (let s : State := imbalanced true; let j : Fin 12 := 2; let shed : Bool := true;
      decide (live s = true ∧ s.sp.mode.running = true ∧ bitOf s.sp.en j.val = true ∧ imbalanceDue j.val shed s = true ∧ shed = true ∧
        s.sp.changed = true)) = true ∧
    (let s : State := looping; let j : Fin 12 := 1; let shed : Bool := true;
      decide (live s = true ∧ s.sp.mode.running = true ∧ bitOf s.sp.en j.val = true ∧
        imbalanceDue j.val shed s = false)) = true := by decide +kernel

theorem test_meets_SequenceTimersStep :
    (let s : State := sequencing .precharge 2 0; let close := cfgN Ent.PROT_K_CLOSE_T s;
      decide (live s = true ∧ s.prot.result = .running ∧ s.prot.seq = .precharge ∧ s.prot.step = 2 ∧
        (fun (ms : Nat) => (s.prot.stepAt + ms * 1000000 ≤ s.now)) close ∧ s.link.mean.vStr ≤ cfg Ent.PROT_WELD_V s)) = true ∧
    (let s : State := sequencing .precharge 5 0; let close := cfgN Ent.PROT_K_CLOSE_T s;
      decide (live s = true ∧ s.prot.result = .running ∧ s.prot.seq = .precharge ∧ s.prot.step = 5 ∧
        (fun (ms : Nat) => (s.prot.stepAt + ms * 1000000 ≤ s.now)) close)) = true ∧
    (let s : State := sequencing .precharge 6 0; let open_ := cfgN Ent.PROT_K_OPEN_T s;
      decide (live s = true ∧ s.prot.result = .running ∧ s.prot.seq = .precharge ∧ s.prot.step = 6 ∧
        (fun (ms : Nat) => (s.prot.stepAt + ms * 1000000 ≤ s.now)) open_)) = true ∧
    (let s : State := inMode .standby (sequencing .open_ 3 0); let open_ := cfgN Ent.PROT_K_OPEN_T s;
      decide (live s = true ∧ s.prot.result = .running ∧ s.prot.seq = .open_ ∧ s.prot.step = 3 ∧
        (fun (ms : Nat) => (s.prot.stepAt + ms * 1000000 ≤ s.now)) open_)) = true ∧
    (let s : State := inMode .standby (sequencing .open_ 4 0); let open_ := cfgN Ent.PROT_K_OPEN_T s;
      decide (live s = true ∧ s.prot.result = .running ∧ s.prot.seq = .open_ ∧ s.prot.step = 4 ∧
        (fun (ms : Nat) => (s.prot.stepAt + ms * 1000000 ≤ s.now)) open_)) = true ∧
    (let s : State := sequencing .precharge 1 20000000000; let close := cfgN Ent.PROT_K_CLOSE_T s; let open_ := cfgN Ent.PROT_K_OPEN_T s;
      decide (live s = true ∧ s.prot.result = .running ∧
        (¬ (fun (ms : Nat) => (s.prot.stepAt + ms * 1000000 ≤ s.now)) (if s.prot.seq = .precharge ∧
        s.prot.step ≠ 6 then close else open_)))) = true ∧
    (let s : State := sequencing .precharge 1 0;
      decide (live s = true ∧ s.prot.result = .running ∧ s.prot.seq = .precharge ∧ s.prot.step = 1 ∧
        (fun (ms : Nat) => (s.prot.stepAt + ms * 1000000 ≤ s.now)) (cfgN Ent.PROT_DISCH_WAIT s))) = true ∧
    (let s : State := sequencing .precharge 1 20000000000;
      decide (live s = true ∧ s.prot.result = .running ∧ s.prot.seq = .precharge ∧ s.prot.step = 1 ∧
        (¬ (fun (ms : Nat) => (s.prot.stepAt + ms * 1000000 ≤ s.now)) (cfgN Ent.PROT_DISCH_WAIT s)))) = true ∧
    (let s : State := sequencing .precharge 4 0;
      decide (live s = true ∧ s.prot.result = .running ∧ s.prot.seq = .precharge ∧ s.prot.step = 4 ∧
        (fun (ms : Nat) => (s.prot.stepAt + ms * 1000000 ≤ s.now)) (cfgN Ent.PROT_PRE_TIMEOUT s))) = true ∧
    (let s : State := sequencing .precharge 4 20000000000;
      decide (live s = true ∧ s.prot.result = .running ∧ s.prot.seq = .precharge ∧ s.prot.step = 4 ∧
        (¬ (fun (ms : Nat) => (s.prot.stepAt + ms * 1000000 ≤ s.now)) (cfgN Ent.PROT_PRE_TIMEOUT s)))) = true ∧
    (let s : State := sequencing .open_ 2 0;
      decide (live s = true ∧ s.prot.result = .running ∧ s.prot.seq = .open_ ∧ s.prot.step = 2 ∧
        (fun (ms : Nat) => (s.prot.stepAt + ms * 1000000 ≤ s.now)) (cfgN Ent.PROT_OPEN_WAIT s))) = true ∧
    (let s : State := sequencing .open_ 2 20000000000;
      decide (live s = true ∧ s.prot.result = .running ∧ s.prot.seq = .open_ ∧ s.prot.step = 2 ∧
        (¬ (fun (ms : Nat) => (s.prot.stepAt + ms * 1000000 ≤ s.now)) (cfgN Ent.PROT_OPEN_WAIT s)))) = true ∧
    (let s : State := let s := sequencing .precharge 2 0; { s with link := { s.link with mean := { s.link.mean with vStr := 500000 } } };
      decide (live s = true ∧ drives s = true ∧ s.prot.result = .running ∧ s.prot.seq = .precharge ∧ s.prot.step = 2 ∧
        s.prot.stepAt + cfgN Ent.PROT_K_CLOSE_T s * 1000000 ≤ s.now ∧
        cfg Ent.PROT_WELD_V s < s.link.mean.vStr)) = true := by decide +kernel

theorem test_meets_ProtectionAndDispatchTimers :
    (let s : State := { up with prot := { up.prot with xchkSince := some 1 } }; let t := ((s.prot.xchkSince).getD default);
      decide (live s = true ∧ s.prot.xchkSince = some t ∧ t + cfgN Ent.PROT_XCHK_T s * 1000000 ≤ s.now)) = true ∧
    (let s : State := { up with prot := { up.prot with xchkSince := some 20000000000 } }; let t := ((s.prot.xchkSince).getD default);
      decide (live s = true ∧ s.prot.xchkSince = some t ∧ s.now < t + cfgN Ent.PROT_XCHK_T s * 1000000)) = true ∧
    (let s : State := { up with dsp := { up.dsp with restEnd := some 5 } }; let t := ((s.dsp.restEnd).getD default);
      decide (live s = true ∧ s.dsp.restEnd = some t ∧ t ≤ s.now)) = true ∧
    (let s : State := { up with dsp := { up.dsp with restEnd := some 30000000000 } }; let t := ((s.dsp.restEnd).getD default);
      decide (live s = true ∧ s.dsp.restEnd = some t ∧ s.now < t)) = true ∧
    (let s : State := dispatched .stringCurrent 0 0; let t := ((s.dsp.silentFrom).getD default);
      decide (live s = true ∧ s.dsp.silentFrom = some t ∧ 0 < cfgN Ent.DSP_TIMEOUT s ∧ cfgN Ent.SP_SOURCE s = 0 ∧
        (s.sp.mode = .stringCurrent ∨ s.sp.mode = .stringPower) ∧ t + cfgN Ent.DSP_TIMEOUT s * 1000000 ≤ s.now ∧
        cfgN Ent.DSP_TIMEOUT_ACT s = 0)) = true ∧
    (let s : State := dispatched .stringPower 1 0; let t := ((s.dsp.silentFrom).getD default);
      decide (live s = true ∧ s.dsp.silentFrom = some t ∧ 0 < cfgN Ent.DSP_TIMEOUT s ∧ cfgN Ent.SP_SOURCE s = 0 ∧
        (s.sp.mode = .stringCurrent ∨ s.sp.mode = .stringPower) ∧ t + cfgN Ent.DSP_TIMEOUT s * 1000000 ≤ s.now ∧
        cfgN Ent.DSP_TIMEOUT_ACT s = 1 ∧ storeWf s.store = true)) = true ∧
    (let s : State := dispatched .stringPower 2 0; let t := ((s.dsp.silentFrom).getD default);
      decide (live s = true ∧ s.dsp.silentFrom = some t ∧ 0 < cfgN Ent.DSP_TIMEOUT s ∧ cfgN Ent.SP_SOURCE s = 0 ∧
        (s.sp.mode = .stringCurrent ∨ s.sp.mode = .stringPower) ∧ t + cfgN Ent.DSP_TIMEOUT s * 1000000 ≤ s.now ∧
        2 ≤ cfgN Ent.DSP_TIMEOUT_ACT s)) = true ∧
    (let s : State := dispatched .stringCurrent 0 20000000000; let t := ((s.dsp.silentFrom).getD default);
      decide (live s = true ∧ s.dsp.silentFrom = some t ∧ 0 < cfgN Ent.DSP_TIMEOUT s ∧ cfgN Ent.SP_SOURCE s = 0 ∧
        (s.sp.mode = .stringCurrent ∨ s.sp.mode = .stringPower) ∧
        s.now < t + cfgN Ent.DSP_TIMEOUT s * 1000000)) = true := by decide +kernel

theorem test_meets_SafetyCycleDemandsAndFails :
    (let s : State := up; let done := false; let agree := true;
      decide (live s = true ∧ isFenced .s s = false ∧ cycleDue s = true ∧ s.saf.state ≠ .failed ∧ (done = false ∨ (agree = false ∧
        1 ≤ s.saf.diffRun)))) = true ∧
    (let s : State := up;
      decide (live s = true ∧ isFenced .s s = false ∧ cycleDue s = true ∧ s.saf.state ≠ .failed ∧ safRuns s = false)) = true ∧
    (let s : State := overvolt;
      decide (live s = true ∧ isFenced .s s = false ∧ cycleDue s = true ∧ s.saf.state ≠ .failed ∧ safRuns s = true ∧ s.saf.applied = true ∧
        exceedsPst .ov s = false ∧ anyCell (fun c => c.vq.valid && decide ((c.v : Int) > safI Ent.SAF_OV_LEVEL s)) s = true)) = true ∧
    (let s : State := { safe with saf := { safe.saf with rst := true, rstAt := some 19800000000, rstLow := 200000000 }, dio := { safe.dio with vf := 24000, vfState := .normal } };
     let t := ((s.saf.rstAt).getD default);
      decide (live s = true ∧ isFenced .s s = false ∧ cycleDue s = true ∧ vfOn s = true ∧ s.saf.rst = true ∧
        s.saf.rstAt = some t)) = true ∧
    (let s : State := { safe with saf := { safe.saf with cycleAt := some 20000000000 } };
      decide (live s = true ∧ isFenced .s s = false ∧ cycleDue s = false)) = true := by decide +kernel

theorem test_meets_SafetyFramesArePaired :
    (let s : State := up; let b := permitA;
      decide (live s = true ∧ isFenced .s s = false ∧ isFenced .n s = false ∧ safN Ent.SAF_IS_EN s ≠ 0 ∧
        parseSafFrame b s = none)) = true ∧
    (let s : State := commanded 0; let b := permitA; let f := ((parseSafFrame b s).getD default);
      decide (live s = true ∧ isFenced .s s = false ∧ isFenced .n s = false ∧ safN Ent.SAF_IS_EN s ≠ 0 ∧ parseSafFrame b s = some f ∧
        f.kind = 1 ∧ f.conn = safN Ent.SAF_CONN_CMD s ∧ 1 ≤ f.seq ∧ permitOk f.data = true ∧ seqPlace f.seq s = .next ∧
        s.saf.heldCopies = [] ∧ oneLan s = false)) = true ∧
    (let s : State := halfHeard; let b := permitB; let t := s.now; let f := ((parseSafFrame b s).getD default);
     let h := ((s.saf.heldCopies).headD default);
      decide (live s = true ∧ isFenced .s s = false ∧ isFenced .n s = false ∧ safN Ent.SAF_IS_EN s ≠ 0 ∧ parseSafFrame b s = some f ∧
        f.kind = 1 ∧ f.conn = safN Ent.SAF_CONN_CMD s ∧ 1 ≤ f.seq ∧ permitOk f.data = true ∧ seqPlace f.seq s = .next ∧
        s.saf.heldCopies = [h] ∧ h.taken = false ∧ fieldU h.bytes 6 2 = f.seq ∧ h.lan ≠ copyLan f ∧ max s.now t ≤ h.at_ + 2000000 ∧
        copyBody h.bytes = copyBody b)) = true ∧
    (let s : State := { halfHeard with now := 20010000000 }; let h := ((s.saf.heldCopies).headD default);
      decide (live s = true ∧ isFenced .s s = false ∧ s.saf.heldCopies = [h] ∧ h.taken = false ∧ h.at_ + 2000000 ≤ s.now)) = true ∧
    (let s : State := halfHeard; let h := ((s.saf.heldCopies).headD default);
      decide (live s = true ∧ isFenced .s s = false ∧ s.saf.heldCopies = [h] ∧ h.taken = false ∧ s.now < h.at_ + 2000000)) = true ∧
    (let s : State := safe;
      decide (live s = true ∧ isFenced .s s = false ∧ s.saf.ran = true ∧ safN Ent.SAF_IS_EN s = 1 ∧ s.saf.wdExpired = false ∧
        s.saf.wdFrom + watchdogMs s * 1000000 ≤ s.now)) = true ∧
    (let s : State := { commanded 2 with saf := { (commanded 2).saf with wdFrom := 20000000000 } };
      decide (live s = true ∧ isFenced .s s = false ∧ s.saf.ran = true ∧ safN Ent.SAF_IS_EN s = 1 ∧ s.saf.wdExpired = false ∧
        s.now < s.saf.wdFrom + watchdogMs s * 1000000)) = true ∧
    (let s : State := commanded 0;
      decide (live s = true ∧ isFenced .s s = false ∧ safN Ent.SAF_CONN_STAT s ≠ 0 ∧ statusDue s = true)) = true ∧
    (let s : State := { commanded 2 with saf := { (commanded 2).saf with statAt := some 20000000000 } };
      decide (live s = true ∧ isFenced .s s = false ∧ safN Ent.SAF_CONN_STAT s ≠ 0 ∧ statusDue s = false)) = true := by decide +kernel

theorem test_meets_SafetyParametersAreWritten :
    (let s : State := commanded 2; let b : List Byte := safBytes 2 false 17 1 param;
     let f : SafFrame := ((parseSafFrame b s).getD default);
      decide (live s = true ∧ isFenced .s s = false ∧ isFenced .n s = false ∧ parseSafFrame b s = some f ∧ f.kind = 2 ∧
        f.conn = safN Ent.SAF_CONN_CMD s ∧ 1 ≤ f.seq ∧ 4 ≤ f.data.length ∧ s.saf.heldCopies = [] ∧ seqPlace f.seq s = .next ∧
        oneLan s = true ∧ bitOf s.saf.dip 0 = false)) = true ∧
    (let s : State := commanded 3; let b : List Byte := safBytes 2 false 17 1 param;
     let f : SafFrame := ((parseSafFrame b s).getD default); let index := fieldU f.data 0 2; let sub := fieldU f.data 2 1;
     let e := Ent.SAF_Q_MASK; let k := 0; let v := ((decodeVal e (f.data.drop 3)).getD default);
      decide (live s = true ∧ isFenced .s s = false ∧ isFenced .n s = false ∧ parseSafFrame b s = some f ∧ f.kind = 2 ∧
        f.conn = safN Ent.SAF_CONN_CMD s ∧ 1 ≤ f.seq ∧ 4 ≤ f.data.length ∧ s.saf.heldCopies = [] ∧ seqPlace f.seq s = .next ∧
        oneLan s = true ∧ bitOf s.saf.dip 0 = true ∧ findEntry index sub = some (e, k) ∧ e.access = .saf ∧ parked s = true ∧
        decodeVal e (f.data.drop 3) = some v ∧ valueOk e v = true ∧ safLinkOk e (setCfg e k v s) = true ∧
        storeWf s.store = true)) = true := by decide +kernel

theorem test_meets_SafetySwitchesResetAndTimes :
    (let s : State := up;
      decide (live s = true ∧ isFenced .s s = false ∧ scanDue s = true)) = true ∧
    (let s : State := { safe with saf := { safe.saf with scanned := true, scanAt := 20000000000 } };
      decide (live s = true ∧ isFenced .s s = false ∧ scanDue s = false)) = true ∧
    (let s : State := { latched with saf := { latched.saf with pulse := some (200000000, 99999999) } };
     let low := ((s.saf.pulse.map (·.1)).getD 0); let high := ((s.saf.pulse.map (·.2)).getD 0);
      decide (live s = true ∧ isFenced .s s = false ∧ s.saf.pulse = some (low, high) ∧ s.saf.stuck = false ∧ high < 100000000)) = true ∧
    (let s : State := { latched with saf := { latched.saf with pulse := some (200000000, 3000000001) } };
     let low := ((s.saf.pulse.map (·.1)).getD 0); let high := ((s.saf.pulse.map (·.2)).getD 0);
      decide (live s = true ∧ isFenced .s s = false ∧ s.saf.pulse = some (low, high) ∧ s.saf.stuck = false ∧ 100000000 ≤ high ∧
        (3000000000 < high ∨ low < 100000000))) = true ∧
    (let s : State := { latched with saf := { latched.saf with pulse := some (100000000, 3000000000) } };
     let low := ((s.saf.pulse.map (·.1)).getD 0); let high := ((s.saf.pulse.map (·.2)).getD 0);
      decide (live s = true ∧ isFenced .s s = false ∧ s.saf.pulse = some (low, high) ∧ s.saf.stuck = false ∧ 100000000 ≤ high ∧
        high ≤ 3000000000 ∧ 100000000 ≤ low ∧ s.saf.state = .latched ∧ demandPresent s = false)) = true ∧
    (let s : State := { latched with saf := { latched.saf with pulse := some (100000000, 3000000000), swChanged := true } };
     let low := ((s.saf.pulse.map (·.1)).getD 0); let high := ((s.saf.pulse.map (·.2)).getD 0);
      decide (live s = true ∧ isFenced .s s = false ∧ s.saf.pulse = some (low, high) ∧ s.saf.stuck = false ∧ 100000000 ≤ high ∧
        high ≤ 3000000000 ∧ 100000000 ≤ low ∧ s.saf.state = .latched ∧ demandPresent s = true)) = true ∧
    (let s : State := { safe with saf := { safe.saf with pulse := some (100000000, 100000000) } };
     let low := ((s.saf.pulse.map (·.1)).getD 0); let high := ((s.saf.pulse.map (·.2)).getD 0);
      decide (live s = true ∧ isFenced .s s = false ∧ s.saf.pulse = some (low, high) ∧ s.saf.stuck = false ∧ 100000000 ≤ high ∧
        high ≤ 3000000000 ∧ 100000000 ≤ low ∧ s.saf.state ≠ .latched)) = true ∧
    (let s : State := { latched with saf := { latched.saf with stuck := true, pulse := some (999999999, 100000000) } };
     let low := ((s.saf.pulse.map (·.1)).getD 0); let high := ((s.saf.pulse.map (·.2)).getD 0);
      decide (live s = true ∧ isFenced .s s = false ∧ s.saf.pulse = some (low, high) ∧ s.saf.stuck = true ∧ low < 1000000000)) = true ∧
    (let s : State := { latched with saf := { latched.saf with stuck := true, pulse := some (1000000000, 99999999) } };
     let low := ((s.saf.pulse.map (·.1)).getD 0); let high := ((s.saf.pulse.map (·.2)).getD 0);
      decide (live s = true ∧ isFenced .s s = false ∧ s.saf.pulse = some (low, high) ∧ s.saf.stuck = true ∧ 1000000000 ≤ low ∧
        high < 100000000)) = true ∧
    (let s : State := up;
      decide (live s = true ∧ isFenced .s s = false ∧ s.saf.pulse = none)) = true ∧
    (let s : State := { safe with saf := { safe.saf with rst := true, rstAt := some 17000000000 } }; let t := (s.saf.rstAt.getD 0);
      decide (live s = true ∧ isFenced .s s = false ∧ s.saf.rst = true ∧ s.saf.rstAt = some t ∧ s.saf.stuck = false ∧
        t + 3000000000 ≤ s.now)) = true ∧
    (let s : State := { safe with saf := { safe.saf with rst := true, rstAt := some 19800000000, rstLow := 200000000 }, dio := { safe.dio with vf := 24000, vfState := .normal } };
     let t := (s.saf.rstAt.getD 0);
      decide (live s = true ∧ isFenced .s s = false ∧ s.saf.rst = true ∧ s.saf.rstAt = some t ∧ s.saf.stuck = false ∧
        s.now < t + 3000000000)) = true ∧
    (let s : State := safParam [(Ent.SAF_PST_OV, 1)] { safe with saf := { safe.saf with trSince := List.replicate 6 (some 19000000000) } };
     let f := .ov;
      decide (live s = true ∧ isFenced .s s = false ∧ trDue f s = true ∧ safRuns s = true)) = true ∧
    (let s : State := up; let f := .is;
      decide (live s = true ∧ isFenced .s s = false ∧ trDue f s = false)) = true := by decide +kernel

theorem test_meets_DigitalInputsAreDebounced :
    (let s : State := up; let t : Nat := s.now; let g : Fin 4 := 0; let rs : List DiReading := [level, level]; let i := 1;
     let r := ((rs[i]?).getD default);
      decide (live s = true ∧ rs[i]? = some r ∧ i < 8 ∧ strobeDue g.val (atTime t s) = true ∧
        diBlocked (8 * g.val + i) s = false)) = true ∧
    (let s : State := { field with dio := { field.dio with strobeAt := Vector.replicate 4 (some 20000000000) } }; let t : Nat := s.now;
     let g : Fin 4 := 0;
      decide (live s = true ∧ strobeDue g.val (atTime t s) = false)) = true ∧
    (let s : State := { field with dio := { field.dio with di := modAt field.dio.di 31 fun d => { d with raw := true, cnt := 65535 } } };
     let n : Fin 32 := 31;
      decide (live s = true ∧ diBlocked n.val s = false ∧ (diAt n.val s).raw ≠ (diAt n.val s).state ∧
        diDebounce n.val s ≤ (diAt n.val s).cnt)) = true ∧
    (let s : State := wired_ .short 0; let t : Nat := s.now; let n : Fin 32 := 9;
      decide (live s = true ∧ bitOf (cfgN Ent.DIO_DI_OW_EN s) n.val = true ∧ vfDiag s = true ∧ diFenced (n.val / 8) s = false ∧
        (diAt n.val s).cond ≠ .ok ∧ ((diAt n.val s).condAt + max (diDebounce n.val s * 1000) 10000000 ≤ max s.now t))) = true ∧
    (let s : State := wired_ .open_ 19999999999; let t : Nat := s.now; let n : Fin 32 := 9;
      decide (live s = true ∧ bitOf (cfgN Ent.DIO_DI_OW_EN s) n.val = true ∧ vfDiag s = true ∧ diFenced (n.val / 8) s = false ∧
        (¬ ((diAt n.val s).condAt + max (diDebounce n.val s * 1000) 10000000 ≤ max s.now t)))) = true := by decide +kernel

theorem test_meets_OutputsAreDiagnosed :
    (let s : State := field; let k : Fin 16 := 0; let ma : Nat := 1200; let l := dqLead k.val s;
     let s1 := modDq k.val (fun d => { d with ma := ma }) s;
      decide (live s = true ∧ dqOn l s = true ∧ 1200 * (dqGroup l s).length ≤ dqCurrent l s1)) = true ∧
    (let s : State := up; let k : Fin 16 := 0; let ma : Nat := 0; let l := dqLead k.val s;
     let s1 := modDq k.val (fun d => { d with ma := ma }) s;
      decide (live s = true ∧ dqCurrent l s1 < 1200 * (dqGroup l s).length)) = true ∧
    (let s : State := { field with dio := { field.dio with dq := modAt field.dio.dq 15 fun d => { d with cycles := [15000000000, 10000000000], olSince := some (20000000000, true) } } };
     let k : Fin 16 := 15; let times := (s.now :: (dqAt (dqLead k.val s) s).cycles).filter fun t => t + 10000000000 ≥ s.now;
      decide (live s = true ∧ dqOn k.val s = true ∧ 3 ≤ times.length)) = true ∧
    (let s : State := field; let k : Fin 16 := 0;
     let times := (s.now :: (dqAt (dqLead k.val s) s).cycles).filter fun t => t + 10000000000 ≥ s.now;
      decide (live s = true ∧ dqOn k.val s = true ∧ times.length < 3)) = true ∧
    (let s : State := { field with dio := { field.dio with dq := modAt field.dio.dq 15 fun d => { d with cycles := [15000000000, 10000000000], olSince := some (20000000000, true) } } };
     let t : Nat := s.now + 20000000; let now := max s.now t; let k : Fin 16 := 15; let ma : Nat := 0; let mv : Nat := 5000;
     let l := dqLead k.val s; let s1 := modDq k.val (fun d => { d with ma := ma }) s; let t0 := (((dqAt l s).olSince.map (·.1)).getD 0);
      decide (live s = true ∧ bitOf (cfgN Ent.DIO_DQ_OL_EN s) l = true ∧ vfDiag s = true ∧ dqFenced (l / 4) s = false ∧
        olShows l mv s1 = true ∧ (dqAt l s).olSince = some (t0, dqOn l s) ∧ t0 + 10000000 ≤ now)) = true ∧
    (let s : State := { field with dio := { field.dio with dq := modAt field.dio.dq 15 fun d => { d with cycles := [15000000000, 10000000000], olSince := some (20000000000, true) } } };
     let t : Nat := s.now; let now := max s.now t; let k : Fin 16 := 15; let ma : Nat := 0; let mv : Nat := 5000; let l := dqLead k.val s;
     let s1 := modDq k.val (fun d => { d with ma := ma }) s; let t0 := (((dqAt l s).olSince.map (·.1)).getD 0);
      decide (live s = true ∧ bitOf (cfgN Ent.DIO_DQ_OL_EN s) l = true ∧ vfDiag s = true ∧ dqFenced (l / 4) s = false ∧
        olShows l mv s1 = true ∧ (dqAt l s).olSince = some (t0, dqOn l s) ∧ now < t0 + 10000000)) = true ∧
    (let s : State := up; let k : Fin 16 := 0; let ma : Nat := 0; let mv : Nat := 7000; let l := dqLead k.val s;
     let s1 := modDq k.val (fun d => { d with ma := ma }) s;
      decide (live s = true ∧ bitOf (cfgN Ent.DIO_DQ_OL_EN s) l = true ∧ vfDiag s = true ∧ dqFenced (l / 4) s = false ∧
        olShows l mv s1 = true ∧ (dqAt l s).olSince = none)) = true ∧
    (let s : State := up; let k : Fin 16 := 0; let ma : Nat := 0; let mv : Nat := 5000; let l := dqLead k.val s;
     let s1 := modDq k.val (fun d => { d with ma := ma }) s;
      decide (live s = true ∧ bitOf (cfgN Ent.DIO_DQ_OL_EN s) l = true ∧ vfDiag s = true ∧ dqFenced (l / 4) s = false ∧
        olShows l mv s1 = false)) = true ∧
    (let s : State := { field with dio := { field.dio with sq := modAt (modAt field.dio.sq 3 fun q => { q with limSince := some 20000000000, lowSince := some 20000000000 }) 1 fun q => { q with extSince := some 20000000000 } } };
     let t : Nat := s.now + 20000000; let now := max s.now t; let k : Fin 4 := 3; let ma : Nat := 5000;
     let t0 := ((sqAt k.val s).limSince.getD 0);
      decide (live s = true ∧ sqOn k.val s = true ∧ 4000 ≤ ma ∧ (sqAt k.val s).limSince = some t0 ∧ t0 + 100000 ≤ now)) = true ∧
    (let s : State := safe; let k : Fin 4 := 0; let ma : Nat := 5000;
      decide (live s = true ∧ sqOn k.val s = true ∧ 4000 ≤ ma ∧ (sqAt k.val s).limSince = none)) = true ∧
    (let s : State := { field with dio := { field.dio with sq := modAt (modAt field.dio.sq 3 fun q => { q with limSince := some 20000000000, lowSince := some 20000000000 }) 1 fun q => { q with extSince := some 20000000000 } } };
     let t : Nat := s.now + 20000000; let now := max s.now t; let k : Fin 4 := 3; let ma : Nat := 0;
     let t0 := ((sqAt k.val s).lowSince.getD 0);
      decide (live s = true ∧ sqOn k.val s = true ∧ vfDiag s = true ∧ ma < 20 ∧ (sqAt k.val s).lowSince = some t0 ∧
        t0 + 10000000 ≤ now)) = true ∧
    (let s : State := safe; let t : Nat := s.now; let k : Fin 4 := 0;
      decide (live s = true ∧ sqOn k.val s = true ∧ testDue k.val (atTime t s) = true)) = true ∧
    (let s : State := up; let t : Nat := s.now; let k : Fin 4 := 0;
      decide (live s = true ∧ testDue k.val (atTime t s) = false)) = true ∧
    (let s : State := { field with dio := { field.dio with sq := modAt (modAt field.dio.sq 3 fun q => { q with limSince := some 20000000000, lowSince := some 20000000000 }) 1 fun q => { q with extSince := some 20000000000 } } };
     let t : Nat := s.now + 20000000; let now := max s.now t; let k : Fin 4 := 1; let t0 : Nat := ((sqAt k.val s).extSince.getD 0);
     let high : Int := 0; let low : Int := 0;
      decide (live s = true ∧ sqOn k.val s = false ∧ nodeHeld high low s = true ∧ (sqAt k.val s).extSince = some t0 ∧
        t0 + 10000000 ≤ now)) = true ∧
    (let s : State := { field with dio := { field.dio with test := some (3, true, 20001000000) } }; let t : Nat := s.now + 20000000;
     let now := max s.now t; let k : Fin 4 := 3; let mv : Int := 0; let high : Bool := (((s.dio.test).map (·.2.1)).getD false);
     let stop : Nat := (((s.dio.test).map (·.2.2)).getD 0);
      decide (live s = true ∧ s.dio.test = some (k.val, high, stop) ∧ stop ≤ now ∧ nodeOff high mv s = true)) = true ∧
    (let s : State := { field with dio := { field.dio with test := some (3, true, 20001000000) } }; let t : Nat := s.now + 20000000;
     let now := max s.now t; let k : Fin 4 := 3; let mv : Int := 23000; let high : Bool := (((s.dio.test).map (·.2.1)).getD false);
     let stop : Nat := (((s.dio.test).map (·.2.2)).getD 0);
      decide (live s = true ∧ s.dio.test = some (k.val, high, stop) ∧ stop ≤ now ∧ nodeOff high mv s = false)) = true ∧
    (let s : State := { field with dio := { field.dio with test := some (3, true, 20001000000) } }; let t : Nat := s.now;
     let now := max s.now t; let k : Fin 4 := 3; let high : Bool := (((s.dio.test).map (·.2.1)).getD false);
     let stop : Nat := (((s.dio.test).map (·.2.2)).getD 0);
      decide (live s = true ∧ s.dio.test = some (k.val, high, stop) ∧ now < stop)) = true := by decide +kernel

theorem test_meets_FieldSupplyStates :
    (let s : State := up; let t : Nat := s.now; let mv : Int := 24000;
      decide (live s = true ∧ isFenced .f s = false ∧ due s.dio.vfAt 100000 (atTime t s) = true ∧ s.dio.vfState = .normal ∧ 18000 ≤ mv ∧
        mv ≤ 32000)) = true ∧
    (let s : State := up; let t : Nat := s.now; let mv : Int := 17999;
      decide (live s = true ∧ isFenced .f s = false ∧ due s.dio.vfAt 100000 (atTime t s) = true ∧ s.dio.vfState = .normal ∧ -1000 ≤ mv ∧
        mv < 18000)) = true ∧
    (let s : State := { field with dio := { field.dio with ovSince := some 20000000000 } }; let t : Nat := s.now + 30000000;
     let now := max s.now t; let mv : Int := 32001; let t0 := ((s.dio.ovSince).getD default);
      decide (live s = true ∧ isFenced .f s = false ∧ due s.dio.vfAt 100000 (atTime t s) = true ∧ s.dio.vfState = .normal ∧ 32000 < mv ∧
        s.dio.ovSince = some t0 ∧ t0 + 1000000 ≤ now)) = true ∧
    (let s : State := up; let t : Nat := s.now; let mv : Int := 32001;
      decide (live s = true ∧ isFenced .f s = false ∧ due s.dio.vfAt 100000 (atTime t s) = true ∧ s.dio.vfState = .normal ∧ 32000 < mv ∧
        s.dio.ovSince = none)) = true ∧
    (let s : State := up; let t : Nat := s.now; let mv : Int := -2000;
      decide (live s = true ∧ isFenced .f s = false ∧ due s.dio.vfAt 100000 (atTime t s) = true ∧ s.dio.vfState ≠ .reversed ∧
        mv < -1000)) = true ∧
    (let s : State := { field with dio := { field.dio with vfState := .unpowered } }; let t : Nat := s.now; let mv : Int := 24000;
      decide (live s = true ∧ isFenced .f s = false ∧ due s.dio.vfAt 100000 (atTime t s) = true ∧ s.dio.vfState = .unpowered ∧
        18000 < mv)) = true ∧
    (let s : State := { field with dio := { field.dio with vfAt := some 20000000000 } }; let t : Nat := s.now;
      decide (live s = true ∧ isFenced .f s = false ∧ due s.dio.vfAt 100000 (atTime t s) = false)) = true ∧
    (let s : State := { field with dio := { field.dio with vf := 14999, vfState := .uvWarn, lowSince := some 19999500000 } };
     let t : Nat := s.now + 30000000; let now := max s.now t; let t0 := ((s.dio.lowSince).getD default);
      decide (live s = true ∧ isFenced .f s = false ∧ s.dio.lowSince = some t0 ∧ s.dio.vfState ≠ .unpowered ∧ s.dio.vfState ≠ .reversed ∧
        t0 + 1000000 ≤ now)) = true ∧
    (let s : State := { field with dio := { field.dio with vf := 14999, vfState := .uvWarn, lowSince := some 19999500000 } };
     let t : Nat := s.now; let now := max s.now t; let t0 := ((s.dio.lowSince).getD default);
      decide (live s = true ∧ isFenced .f s = false ∧ s.dio.lowSince = some t0 ∧ s.dio.vfState ≠ .unpowered ∧ s.dio.vfState ≠ .reversed ∧
        now < t0 + 1000000)) = true ∧
    (let s : State := withFault 0x6002 wide { field with dio := { field.dio with vf := 18000, vfState := .returning, retSince := some 19999500000 } };
     let t : Nat := s.now + 30000000; let now := max s.now t; let t0 := ((s.dio.retSince).getD default);
      decide (live s = true ∧ isFenced .f s = false ∧ s.dio.vfState = .returning ∧ s.dio.retSince = some t0 ∧
        t0 + 20000000 ≤ now)) = true ∧
    (let s : State := withFault 0x6002 wide { field with dio := { field.dio with vf := 18000, vfState := .returning, retSince := some 19999500000 } };
     let t : Nat := s.now; let now := max s.now t; let t0 := ((s.dio.retSince).getD default);
      decide (live s = true ∧ isFenced .f s = false ∧ s.dio.vfState = .returning ∧ s.dio.retSince = some t0 ∧
        now < t0 + 20000000)) = true := by decide +kernel

theorem test_meets_PowerGoodAndTiers :
    (let s : State := State.reset; let c := {};
      decide (s.sys.phase = .off ∧ s.sys.pFailed = false ∧ pTestFails c = false)) = true ∧
    (let s : State := State.reset; let c := { marchFail := [.p] };
      decide (s.sys.phase = .off ∧ s.sys.pFailed = false ∧ pTestFails c = true)) = true ∧
    (let s : State := guarding;
      decide (live s = true ∧ s.sys.guardIn = false ∧ isFenced .s s = false ∧ isFenced .f s = false ∧
        bitOf s.sys.selftest 6 = false)) = true ∧
    (let s : State := watching;
      decide (live s = true ∧ s.sys.guardIn = true ∧ s.sys.tier = .guard_ ∧ s.sys.imageOk = true ∧ s.sys.gaOk = true ∧
        isFenced .h s = false ∧ chainReady s = true ∧ elected s = true)) = true ∧
    (let s : State := tierIs .watch { chained with ses := { chained.ses with replayed := false } };
      decide (live s = true ∧ s.sys.guardIn = true ∧ s.sys.tier = .watch ∧ isFenced .j s = false)) = true ∧
    (let s : State := tierIs .limited chained;
      decide (live s = true ∧ s.sys.tier = .limited ∧ ratedCap s = 0 ∧ s.chctl.idWait = false ∧
        ((List.range 256).all fun n => (lpAt n s).entry.isNone) = true ∧ s.sys.testFail = false ∧
        (s.locked = true ∨ 18000 ≤ msSinceT0 s))) = true ∧
    (let s : State := guarding; let t := (((nextTier s).map (·.1)).getD .watch); let ms := (((nextTier s).map (·.2)).getD 0);
      decide (live s = true ∧ nextTier s = some (t, ms) ∧ ms ≤ msSinceT0 s)) = true := by decide +kernel

theorem test_meets_ResetsKeepWhatMramHolds :
    (let s : State := up;
      decide (s.sys.phase ≠ .off ∧ s.sys.phase ≠ .latched)) = true ∧
    (let s : State := up; let why := ShutdownWhy.pwrEn 1;
      decide (live s = true ∧ longEnough why = true ∧ s.pair.paired = false ∧ s.sys.downDue = none)) = true ∧
    (let s : State := phased .latched; let why := ShutdownWhy.presentS;
      decide (s.sys.phase = .latched ∧ powerCycle why = true)) = true ∧
    (let s : State := phased .frozen; let why := ShutdownWhy.pwrEn 1;
      decide (s.sys.phase = .frozen ∧ longEnough why = true)) = true ∧
    (let s : State := State.reset; let why := ShutdownWhy.presentS;
      decide (s.sys.phase = .off ∧ powerCycle why = true)) = true := by decide +kernel

theorem test_meets_CalibrationAddressAndHibernation :
    (let s : State := up;
      decide (live s = true ∧ s.sys.calRun = false ∧ due s.sys.calBegan (cfgN Ent.SYS_CAL_INT s * 1000000000) s = true)) = true ∧
    (let s : State := calibrating 3 0;
      decide (live s = true ∧ (s.sys.calRun = true ∨ due s.sys.calBegan (cfgN Ent.SYS_CAL_INT s * 1000000000) s = false))) = true ∧
    (let s : State := calibrating 3 0;
      decide (live s = true ∧ s.sys.calRun = true ∧ s.sys.calStepAt + 200000000 ≤ s.now ∧ s.sys.calStep < 4)) = true ∧
    (let s : State := calibrating 4 0;
      decide (live s = true ∧ s.sys.calRun = true ∧ s.sys.calStepAt + 200000000 ≤ s.now ∧ s.sys.calStep = 4)) = true ∧
    (let s : State := up;
      decide (live s = true ∧ (s.sys.calRun = false ∨ s.now < s.sys.calStepAt + 200000000))) = true ∧
    (let s : State := addressing [5, 5] 2 none; let g : BitVec 9 := 5;
      decide (live s = true ∧ s.sys.gaOk = false ∧ isActive 0x1030 wide s = false ∧ due s.sys.gaAt 1000000 s = true ∧
        s.sys.gaRun = [g.toNat, g.toNat])) = true ∧
    (let s : State := addressing [] 98 (some 5);
      decide (live s = true ∧ s.sys.gaOk = false ∧ isActive 0x1030 wide s = false ∧ due s.sys.gaAt 1000000 s = true ∧ s.sys.gaRun = [] ∧
        s.sys.gaTries < 99)) = true ∧
    (let s : State := addressing [] 99 (some 5);
      decide (live s = true ∧ s.sys.gaOk = false ∧ isActive 0x1030 wide s = false ∧ due s.sys.gaAt 1000000 s = true ∧ s.sys.gaRun = [] ∧
        99 ≤ s.sys.gaTries)) = true ∧
    (let s : State := up;
      decide (live s = true ∧ (s.sys.gaOk = true ∨ due s.sys.gaAt 1000000 s = false))) = true ∧
    (let s : State := up; let g : BitVec 9 := 0;
      decide (live s = true ∧ s.sys.gaOk = true ∧ due s.sys.gaAt 100000000 s = true ∧ g.toNat = s.sys.plantAddr)) = true ∧
    (let s : State := up; let g : BitVec 9 := 1;
      decide (live s = true ∧ s.sys.gaOk = true ∧ due s.sys.gaAt 100000000 s = true ∧ g.toNat ≠ s.sys.plantAddr ∧
        s.sys.gaDiff = none)) = true ∧
    (let s : State := { up with sys := { up.sys with gaDiff := some 19900000000 } }; let g : BitVec 9 := 1;
     let t := ((s.sys.gaDiff).getD default);
      decide (live s = true ∧ s.sys.gaOk = true ∧ due s.sys.gaAt 100000000 s = true ∧ g.toNat ≠ s.sys.plantAddr ∧ s.sys.gaDiff = some t ∧
        t + 100000000 ≤ s.now)) = true ∧
    (let s : State := addressing [5, 5] 2 none;
      decide (live s = true ∧ (s.sys.gaOk = false ∨ due s.sys.gaAt 100000000 s = false))) = true ∧
    (let s : State := asleep;
      decide (live s = true ∧ cfgB Ent.SYS_HIB_EN s = true ∧ tierAtLeast .full s = true ∧ parked s = true ∧ seqRuns s = false ∧
        s.est.state = .hibernating ∧ s.est.waking = false)) = true := by decide +kernel

theorem test_meets_SupervisionActs :
    (let s : State := up; let t : Nat := s.now;
      decide ((s.sys.phase = .started ∨ s.sys.phase = .frozen) ∧ due s.sup.readAt 10000000 (atTime t s) = true)) = true ∧
    (let s : State := { up with sup := { up.sup with readAt := some 20019999999, gaugeAt := some 20019999999, holdAt := some 20000000000, holdC := 400 } };
     let t : Nat := s.now;
      decide (due s.sup.readAt 10000000 (atTime t s) = false)) = true ∧
    (let s : State := up; let v : Nat := 60000; let p : Nat := 9500; let t : Nat := s.now;
     let e := s.sup.holdC * ((v * v + 2 ^ 64 - 20000 * 20000) % 2 ^ 64) % 2 ^ 64 / 2000000000 % 2 ^ 32;
     let lasts := e * 1000000 / max p 500 % 2 ^ 32;
      decide (live s = true ∧ due s.sup.gaugeAt 100000 (atTime t s) = true ∧ (s.sup.vbpState ≠ .low ∨ 10500 < lasts))) = true ∧
    (let s : State := { busy with sup := { busy.sup with holdC := 400, vbpState := .low } }; let v : Nat := 30000; let p : Nat := 10000;
     let t : Nat := s.now; let e := s.sup.holdC * ((v * v + 2 ^ 64 - 20000 * 20000) % 2 ^ 64) % 2 ^ 64 / 2000000000 % 2 ^ 32;
     let lasts := e * 1000000 / max p 500 % 2 ^ 32;
      decide (live s = true ∧ due s.sup.gaugeAt 100000 (atTime t s) = true ∧ s.sup.vbpState = .low ∧ lasts ≤ 10500 ∧ s.pair.paired = false ∧
        s.sys.downDue = none)) = true ∧
    (let s : State := { up with sup := { up.sup with readAt := some 20019999999, gaugeAt := some 20019999999, holdAt := some 20000000000, holdC := 400 } };
     let t : Nat := s.now;
      decide (live s = true ∧ due s.sup.gaugeAt 100000 (atTime t s) = false)) = true ∧
    (let s : State := up;
      decide (live s = true ∧ due s.sup.holdAt 3600000000000 s = true)) = true ∧
    (let s : State := { up with sup := { up.sup with readAt := some 20019999999, gaugeAt := some 20019999999, holdAt := some 20000000000, holdC := 400 } };
      decide (live s = true ∧ due s.sup.holdAt 3600000000000 s = false)) = true ∧
    (let s : State := { up with sup := { up.sup with lowFrom := some 19999990000 } }; let t : Nat := s.now + 20000000;
     let t0 := ((s.sup.lowFrom).getD default);
      decide (live s = true ∧ s.sup.vbpState = .normal ∧ s.sup.lowFrom = some t0 ∧ t0 + 50000 ≤ max s.now t)) = true ∧
    (let s : State := { up with sup := { up.sup with lowFrom := some 19999990000 } }; let t : Nat := s.now;
     let t0 := ((s.sup.lowFrom).getD default);
      decide (live s = true ∧ s.sup.vbpState = .normal ∧ s.sup.lowFrom = some t0 ∧ max s.now t < t0 + 50000)) = true ∧
    (let s : State := withFault 0x1004 wide { up with sup := { up.sup with vbpState := .low, highFrom := some 19999990000 } };
     let t : Nat := s.now + 20000000; let t0 := ((s.sup.highFrom).getD default);
      decide (live s = true ∧ s.sup.vbpState ≠ .normal ∧ s.sup.highFrom = some t0 ∧ t0 + 1000000 ≤ max s.now t)) = true ∧
    (let s : State := withFault 0x1004 wide { up with sup := { up.sup with vbpState := .low, highFrom := some 19999990000 } };
     let t : Nat := s.now; let t0 := ((s.sup.highFrom).getD default);
      decide (live s = true ∧ s.sup.vbpState ≠ .normal ∧ s.sup.highFrom = some t0 ∧ max s.now t < t0 + 1000000)) = true ∧
    (let s : State := up; let i : Island := .h;
      decide (live s = true ∧ i ≠ .p ∧ isFenced i s = false)) = true ∧
    (let s : State := up; let i : Island := .p;
      decide (live s = true ∧ i = .p)) = true := by decide +kernel

theorem test_meets_ClockFreeze :
    (let s : State := up;
      decide (live s = true ∧ bitOf s.saf.dip 2 = false)) = true ∧
    (let s : State := freezable;
      decide (live s = true ∧ bitOf s.saf.dip 2 = true ∧ s.sup.frz = .idle ∧ s.sup.latchIn = none ∧ s.pair.paired = false)) = true ∧
    (let s : State := paired .active (linkUp { freezable with pair := { freezable.pair with partnerReady := true } });
      decide (live s = true ∧ bitOf s.saf.dip 2 = true ∧ s.sup.frz = .idle ∧ s.sup.latchIn = none ∧ cfgB Ent.SUP_FRZ_IMMEDIATE s = false ∧
        handoverReady s = true)) = true ∧
    (let s : State := { freezable with sup := { freezable.sup with frz := .opened, frzAt := 20000000000 } }; let t := s.now + 40000;
      decide (live s = true ∧ s.sup.frz = .opened ∧ s.sup.frzAt + s.tb.period / 1000 ≤ max s.now t)) = true ∧
    (let s : State := { freezable with sup := { freezable.sup with frz := .opened, frzAt := 20000000000 } }; let t := s.now;
      decide (live s = true ∧ s.sup.frz = .opened ∧ max s.now t < s.sup.frzAt + s.tb.period / 1000)) = true ∧
    (let s : State := up;
      decide (powered s = true ∧ frozen s = false)) = true ∧
    (let s : State := phased .frozen; let i : Nat := 0;
      decide (frozen s = true ∧ i < 10)) = true := by decide +kernel

theorem test_meets_FramesAreForwarded :
    (let s : State := onNet; let port : Port := .a1; let f : List Byte := List.replicate 1529 0#8;
      decide (live s = true ∧ portUp (portNo port) s = true ∧ (f.length < 64 ∨ 1528 < f.length))) = true ∧
    (let s : State := onNet; let port : Port := .a1; let f : List Byte := (frameTo 0x020000000001).set 20 0#8;
      decide (live s = true ∧ portUp (portNo port) s = true ∧ 64 ≤ f.length ∧ f.length ≤ 1528 ∧
        fcsOk f = false)) = true := by decide +kernel

theorem test_meets_NetworkEvents :
    (let s : State := up;
      decide (live s = true ∧ isFenced .n s = false ∧ due s.net.supAt 2000000000 s = true)) = true ∧
    (let s : State := { onNet with net := { onNet.net with supAt := some 20000000000, heardA := some 20000000000, heardB := some 20000000000, garpAt := some 20000000000 } };
      decide (live s = true ∧ (isFenced .n s = true ∨ due s.net.supAt 2000000000 s = false))) = true ∧
    (let s : State := up; let l : Lan := .a; let heard := (match l with | .a => s.net.heardA | .b => s.net.heardB).getD s.sys.t0;
     let ms := cfgN Ent.NET_LAN_SILENT_T s;
      decide (live s = true ∧ isFenced .n s = false ∧ heard + ms * 1000000 ≤ s.now)) = true ∧
    (let s : State := { onNet with net := { onNet.net with supAt := some 20000000000, heardA := some 20000000000, heardB := some 20000000000, garpAt := some 20000000000 } };
     let l : Lan := .a; let heard := (match l with | .a => s.net.heardA | .b => s.net.heardB).getD s.sys.t0;
     let ms := cfgN Ent.NET_LAN_SILENT_T s;
      decide (live s = true ∧ s.now < heard + ms * 1000000)) = true ∧
    (let s : State := { onNet with net := { onNet.net with probe := 9, probeAt := 16000000000, leaseEnd := some 7 } };
      decide (live s = true ∧ isFenced .n s = false ∧ s.net.probe ≠ 0 ∧ s.net.probeAt + 4000000000 ≤ s.now ∧
        s.net.probeHit = false)) = true ∧
    (let s : State := { onNet with net := { onNet.net with probe := 9, probeAt := 16000000000, probeHit := true } };
      decide (live s = true ∧ isFenced .n s = false ∧ s.net.probe ≠ 0 ∧ s.net.probeAt + 4000000000 ≤ s.now ∧
        s.net.probeHit = true)) = true ∧
    (let s : State := up;
      decide (live s = true ∧ (s.net.probe = 0 ∨ s.now < s.net.probeAt + 4000000000))) = true ∧
    (let s : State := let s := withCfg [(Ent.NET_IP_MODE, 0, 2)] onNet; { s with net := { s.net with leaseEnd := some 7, ip := 9 } };
     let t := ((s.net.leaseEnd).getD default);
      decide (live s = true ∧ cfg Ent.NET_IP_MODE s = 2 ∧ s.net.leaseEnd = some t ∧ t ≤ s.now)) = true ∧
    (let s : State := let s := withCfg [(Ent.NET_IP_MODE, 0, 2)] onNet; { s with net := { s.net with leaseEnd := some 30000000000, ip := 9 } };
     let t := ((s.net.leaseEnd).getD default);
      decide (live s = true ∧ cfg Ent.NET_IP_MODE s = 2 ∧ s.net.leaseEnd = some t ∧ s.now < t)) = true ∧
    (let s : State := { onNet with net := { onNet.net with garpLeft := 3, ip := 9, fdbB := [⟨[1#8], 2, 0⟩, ⟨[2#8], 3, 19999999999⟩], fdbA := [⟨[1#8], 0, 0⟩] } };
      decide (live s = true ∧ isFenced .n s = false ∧ s.net.garpLeft ≠ 0 ∧ due s.net.garpAt 1000000 s = true)) = true ∧
    (let s : State := { onNet with net := { onNet.net with supAt := some 20000000000, heardA := some 20000000000, heardB := some 20000000000, garpAt := some 20000000000 } };
      decide (live s = true ∧ due s.net.garpAt 1000000 s = false)) = true := by decide +kernel

theorem test_meets_PeerDelayMakesPortsCapable :
    (let s : State := onNet; let port : Port := .a1; let p := portNo port; let x := getAt s.net.ports p; let t := s.now;
      decide (live s = true ∧ portUp p s = true ∧ due x.pdAt 1000000000 (atTime t s) = true ∧ x.pdOut = false)) = true ∧
    (let s : State := exchanging false 2 1 true; let port : Port := .a1; let p := portNo port; let x := getAt s.net.ports p;
     let t := s.now + 2000000000;
      decide (live s = true ∧ portUp p s = true ∧ due x.pdAt 1000000000 (atTime t s) = true ∧ x.pdOut = true)) = true ∧
    (let s : State := exchanging false 2 1 true; let port : Port := .a1; let p := portNo port; let x := getAt s.net.ports p;
     let t := s.now;
      decide (live s = true ∧ portUp p s = true ∧ due x.pdAt 1000000000 (atTime t s) = false)) = true ∧
    (let s : State := onNet; let port : Port := .a1; let p := portNo port; let m := pdelayAsk;
      decide (live s = true ∧ ptpArrives 2 p m s = true)) = true := by decide +kernel

theorem test_meets_PtpMessagesReachTheirInstances :
    (let s : State := onNet; let port : Port := .a1; let f : List Byte := announceMsg 0#8; let p := portNo port;
     let m := payloadOf (bodyOf f); let every := ((ptpEvery 0 1 m).getD default);
      decide (live s = true ∧ ptpArrives 11 p f s = true ∧ cfgB Ent.PTP_ENABLE s = true ∧ ptpEvery 0 1 m = some every)) = true ∧
    (let s : State := onNet; let port : Port := .a1; let f : List Byte := announceMsg 5#8; let p := portNo port;
     let m := payloadOf (bodyOf f);
      decide (live s = true ∧ ptpArrives 11 p f s = true ∧ ptpEvery 0 1 m = none)) = true ∧
    (let s : State := exchanging false 2 1 true; let port : Port := .a1; let f : List Byte := syncBytes 0; let p := portNo port;
     let cap := (getAt s.net.ports p).capable;
      decide (live s = true ∧ ptpArrives 0 p f s = true ∧ cap = false)) = true ∧
    (let s : State := onNet; let port : Port := .a1; let f : List Byte := syncBytes 1; let p := portNo port; let m := payloadOf (bodyOf f);
     let cap := (getAt s.net.ports p).capable;
      decide (live s = true ∧ ptpArrives 0 p f s = true ∧ cap = true ∧ ptpTwoStep m = true)) = true ∧
    (let s : State := onNet; let port : Port := .a1; let f : List Byte := syncBytes 0; let p := portNo port; let m := payloadOf (bodyOf f);
     let cap := (getAt s.net.ports p).capable;
      decide (live s = true ∧ ptpArrives 0 p f s = true ∧ cap = true ∧ ptpTwoStep m = false ∧ (ptpEvery (-4) 1 m).isSome = true)) = true ∧
    (let s : State := awaitingFollow; let port : Port := .a1; let f : List Byte := followBytes; let t : Nat := s.now; let p := portNo port;
     let m := payloadOf (bodyOf f); let cap := (getAt s.net.ports p).capable; let x := ((s.ptp.pend).headD default);
      decide (live s = true ∧ ptpArrives 8 p f s = true ∧ s.ptp.pend = [x] ∧ x.port = p ∧ x.src = ptpSrc m ∧ x.seq = ptpSeq m ∧
        x.domain = ptpDomain m ∧ x.every.isSome = true ∧ t ≤ x.t + 100000000 ∧ cap = true)) = true ∧
    (let s : State := onNet; let port : Port := .a1; let f : List Byte := followBytes; let p := portNo port;
      decide (live s = true ∧ ptpArrives 8 p f s = true ∧ s.ptp.pend = [])) = true := by decide +kernel

theorem test_meets_PtpTimers :
    (let s : State := timedLate; let k := ((s.ptp.ref).getD default); let i := ((revertTo s).getD default);
      decide (live s = true ∧ s.ptp.ref = some k ∧ 2 ≤ k ∧ cfg Ent.PTP_REVERT_T s ≠ 0 ∧ revertTo s = some i)) = true ∧
    (let s : State := timed; let k := ((s.ptp.ref).getD default);
      decide (live s = true ∧ s.ptp.ref = some k ∧ 2 ≤ k ∧ cfg Ent.PTP_REVERT_T s ≠ 0 ∧ revertTo s = none)) = true ∧
    (let s : State := timedLate;
      decide (live s = true ∧ s.ptp.state = .holdover ∧ cfgN Ent.PTP_HOLDOVER_T s * 1000 ≤ s.ptp.holdMs)) = true ∧
    (let s : State := { timed with ptp := { timed.ptp with state := .holdover, storeAt := some 20000000000, domSince := some 15000000000, lanSince := some 15000000000 } };
      decide (live s = true ∧ s.ptp.state = .holdover ∧ s.ptp.holdMs < cfgN Ent.PTP_HOLDOVER_T s * 1000)) = true ∧
    (let s : State := up;
      decide (live s = true ∧ due s.ptp.storeAt 1000000000 s = true)) = true ∧
    (let s : State := { timed with ptp := { timed.ptp with state := .holdover, storeAt := some 20000000000, domSince := some 15000000000, lanSince := some 15000000000 } };
      decide (live s = true ∧ due s.ptp.storeAt 1000000000 s = false)) = true ∧
    (let s : State := timed; let d := ((domDiff s).getD default);
      decide (live s = true ∧ domDiff s = some d)) = true ∧
    (let s : State := timed; let d := ((lanDiff s).getD default);
      decide (live s = true ∧ lanDiff s = some d)) = true ∧
    (let s : State := timed; let t := ((s.ptp.domSince).getD default);
      decide (live s = true ∧ s.ptp.domSince = some t ∧ t + 10000000000 ≤ s.now)) = true ∧
    (let s : State := { timed with ptp := { timed.ptp with state := .holdover, storeAt := some 20000000000, domSince := some 15000000000, lanSince := some 15000000000 } };
     let t := ((s.ptp.domSince).getD default);
      decide (live s = true ∧ s.ptp.domSince = some t ∧ s.now < t + 10000000000)) = true ∧
    (let s : State := timed; let t := ((s.ptp.lanSince).getD default);
      decide (live s = true ∧ s.ptp.lanSince = some t ∧ t + 10000000000 ≤ s.now)) = true ∧
    (let s : State := { timed with ptp := { timed.ptp with state := .holdover, storeAt := some 20000000000, domSince := some 15000000000, lanSince := some 15000000000 } };
     let t := ((s.ptp.lanSince).getD default);
      decide (live s = true ∧ s.ptp.lanSince = some t ∧ s.now < t + 10000000000)) = true := by decide +kernel

theorem test_meets_CanFramesAreReceivedAndSent :
    (let s : State := onCan 0x40 5 0 0; let ch : CanCh := .can2; let c := chNo ch; let f : CanFrame := canMsg;
     let n : Nat := ((matchFilter c (ofFrame f 0 s) s).getD default);
      decide (live s = true ∧ canActive c s = true ∧ (f.fd = true → cfgB Ent.CAN_FD s c = true) ∧ f.rtr = false ∧
        matchFilter c (ofFrame f 0 s) s = some n ∧ (canFilter c n s).target = 0x40 ∧ (chan c s).fifo.length < 32)) = true ∧
    (let s : State := onCan 63 63 1 0; let ch : CanCh := .can2; let c := chNo ch; let f : CanFrame := canMsg;
     let n : Nat := ((matchFilter c (ofFrame f 0 s) s).getD default); let b : Fin 64 := 63;
      decide (live s = true ∧ canActive c s = true ∧ (f.fd = true → cfgB Ent.CAN_FD s c = true) ∧ f.rtr = false ∧
        matchFilter c (ofFrame f 0 s) s = some n ∧ (canFilter c n s).target = b.val ∧ bufDir c b.val s = 1)) = true ∧
    (let s : State := up; let ch : CanCh := .can2; let c := chNo ch; let b : Fin 64 := 5;
      decide (live s = true ∧ attempted c b.val s = false)) = true ∧
    (let s : State := sending 0; let ch : CanCh := .can2; let c := chNo ch; let b : Fin 64 := 5;
      decide (live s = true ∧ attempted c b.val s = true ∧ oneShot c b.val s = false)) = true ∧
    (let s : State := sending 1; let ch : CanCh := .can2; let c := chNo ch; let b : Fin 64 := 5;
      decide (live s = true ∧ attempted c b.val s = true ∧ oneShot c b.val s = true)) = true := by decide +kernel

theorem test_meets_CanChannelEvents :
    (let s : State := failing_; let ch : CanCh := .can2; let c := chNo ch;
      decide (live s = true ∧ canSends c s = true ∧ 255 < (chan c s).tec + 8)) = true ∧
    (let s : State := up; let ch : CanCh := .can2; let c := chNo ch;
      decide (live s = true ∧ (chan c s).tec + 8 ≤ 255)) = true ∧
    (let s : State := withCfg [(Ent.CAN_RECOVERY, 1, 1)] (canIn .busOff 0); let ch : CanCh := .can2; let c := chNo ch;
      decide (live s = true ∧ cfg Ent.CAN_RECOVERY s c = 1 ∧ canState c s = 3 ∧
        (chan c s).offAt + cfgN Ent.CAN_RECOVERY_DELAY s c * 1000000 ≤ s.now)) = true ∧
    (let s : State := withCfg [(Ent.CAN_RECOVERY, 1, 1)] (canIn .busOff 20000000000); let ch : CanCh := .can2; let c := chNo ch;
      decide (live s = true ∧ cfg Ent.CAN_RECOVERY s c = 1 ∧ canState c s = 3 ∧
        s.now < (chan c s).offAt + cfgN Ent.CAN_RECOVERY_DELAY s c * 1000000)) = true ∧
    (let s : State := canIn .recovering 0; let ch : CanCh := .can2; let c := chNo ch;
      decide (live s = true ∧ canState c s = 4 ∧ (chan c s).recAt + recoveryNs c s ≤ s.now)) = true ∧
    (let s : State := canIn .recovering 20000000000; let ch : CanCh := .can2; let c := chNo ch;
      decide (live s = true ∧ canState c s = 4 ∧ s.now < (chan c s).recAt + recoveryNs c s)) = true ∧
    (let s : State := withCfg [(Ent.CAN_TM_CHANNEL, 0, 2)] (onCan 0x40 5 0 0); let ch : CanCh := .can2; let c := chNo ch;
     let every := cfgN Ent.CAN_TM_PERIOD s * 1000000;
      decide (live s = true ∧ isFenced .h s = false ∧ cfgN Ent.CAN_TM_CHANNEL s = c + 1 ∧ canSends c s = true ∧
        due s.can.tmAt every s = true)) = true ∧
    (let s : State := let s := withCfg [(Ent.CAN_TM_CHANNEL, 0, 2)] (onCan 0x40 5 0 0); { s with can := { s.can with tmAt := some 20000000000 } };
     let ch : CanCh := .can2; let c := chNo ch; let every := cfgN Ent.CAN_TM_PERIOD s * 1000000;
      decide (live s = true ∧ isFenced .h s = false ∧ cfgN Ent.CAN_TM_CHANNEL s = c + 1 ∧ due s.can.tmAt every s = false)) = true ∧
    (let s : State := canIn .run 0; let ch : CanCh := .can2; let c := chNo ch;
      decide (live s = true ∧ (chan c s).sleepReq = true ∧ (chan c s).mode = .run ∧ (chan c s).sleepAt + 100000000 ≤ s.now)) = true ∧
    (let s : State := canIn .run 20000000000; let ch : CanCh := .can2; let c := chNo ch;
      decide (live s = true ∧ (chan c s).sleepReq = true ∧ (chan c s).mode = .run ∧ s.now < (chan c s).sleepAt + 100000000)) = true ∧
    (let s : State := withCfg [(Ent.CAN_WAKE_MODE, 1, 0)] (canIn .sleep 0); let ch : CanCh := .can2; let c := chNo ch;
     let w := .dominant 0;
      decide (live s = true ∧ canState c s = 5 ∧ wakeSign c w s = none)) = true ∧
    (let s : State := withCfg [(Ent.CAN_WAKE_MODE, 1, 0)] (canIn .sleep 0); let ch : CanCh := .can2; let c := chNo ch;
     let w := .dominant 6000; let cause := ((wakeSign c w s).getD default);
      decide (live s = true ∧ canState c s = 5 ∧ wakeSign c w s = some cause)) = true ∧
    (let s : State := up; let ch : CanCh := .can2; let c := chNo ch;
      decide (live s = true ∧ canFenced c s = false)) = true := by decide +kernel

theorem test_meets_PairMirrorsAreTaken :
    (let s : State := up; let l : Lane := .l0; let f : List Byte := fromOther clsState (stateMirrorBytes stateImage);
     let x := (([(clsDuty, Instr.mirrorDuty l f), (clsState, Instr.mirrorState l f), (clsContext, Instr.mirrorContext l f),         (clsRecord, Instr.mirrorRecord l f), (clsBulk, Instr.mirrorBulk l f), (clsJournal, Instr.mirrorJournal l f),         (clsAck, Instr.journalAck l f)]).headD default);
      decide (live s = true ∧
        x ∈ [(clsDuty, Instr.mirrorDuty l f), (clsState, Instr.mirrorState l f), (clsContext, Instr.mirrorContext l f), (clsRecord, Instr.mirrorRecord l f), (clsBulk, Instr.mirrorBulk l f), (clsJournal, Instr.mirrorJournal l f), (clsAck, Instr.journalAck l f)] ∧
        mirrorValid x.1 f s = false)) = true ∧
    (let s : State := { active with pair := { active.pair with epoch := 9 } }; let l : Lane := .l0;
     let f : List Byte := fromOther clsDuty (dutyMirrorBytes dutyImage);
     let x := (([(clsDuty, Instr.mirrorDuty l f), (clsState, Instr.mirrorState l f), (clsContext, Instr.mirrorContext l f),         (clsRecord, Instr.mirrorRecord l f), (clsBulk, Instr.mirrorBulk l f), (clsJournal, Instr.mirrorJournal l f),         (clsAck, Instr.journalAck l f)]).headD default);
      decide (live s = true ∧
        x ∈ [(clsDuty, Instr.mirrorDuty l f), (clsState, Instr.mirrorState l f), (clsContext, Instr.mirrorContext l f), (clsRecord, Instr.mirrorRecord l f), (clsBulk, Instr.mirrorBulk l f), (clsJournal, Instr.mirrorJournal l f), (clsAck, Instr.journalAck l f)] ∧
        mirrorValid x.1 f s = true ∧ (mirrorStale f s = true ∨ mirrorAhead x.1 f s = false))) = true ∧
    (let s : State := paired .standby chained; let f : List Byte := fromOther clsDuty (dutyMirrorBytes dutyImage);
     let b (cls : Nat) : List Byte := collected cls f s; let m := ((dutyMirrorOf (b clsDuty)).getD default);
      decide (live s = true ∧ mirrorEnds clsDuty f s = true ∧ dutyMirrorOf (b clsDuty) = some m ∧
        (tracks s = true ∨ s.pair.role = .detached))) = true ∧
    (let s : State := paired .standby chained; let f : List Byte := fromOther clsState (stateMirrorBytes stateImage);
     let b (cls : Nat) : List Byte := collected cls f s; let m := ((stateMirrorOf (b clsState)).getD default);
      decide (live s = true ∧ mirrorEnds clsState f s = true ∧ stateMirrorOf (b clsState) = some m ∧ s.pair.paired = true ∧
        s.pair.role ≠ .active ∧ storeWf s.store = true)) = true ∧
    (let s : State := standby; let f : List Byte := fromOther clsContext (ctxMirrorBytes ctxImage);
     let b (cls : Nat) : List Byte := collected cls f s; let m := ((ctxMirrorOf (b clsContext)).getD default);
      decide (live s = true ∧ mirrorEnds clsContext f s = true ∧ ctxMirrorOf (b clsContext) = some m ∧ s.pair.paired = true ∧
        s.pair.role ≠ .active)) = true ∧
    (let s : State := paired .standby chained;
     let f : List Byte := fromOther clsRecord (recordMirrorBytes 5 (learnedBytes { seq := 7, cap := 9 }));
     let b (cls : Nat) : List Byte := collected cls f s; let n : Fin 256 := 5;
      decide (live s = true ∧ mirrorEnds clsRecord f s = true ∧ (b clsRecord).length = 66 ∧ fieldU (b clsRecord) 0 2 = n.val ∧
        s.pair.paired = true ∧ s.pair.role ≠ .active)) = true ∧
    (let s : State := rejoining 0; let f : List Byte := fromOther clsBulk (bulkMirrorBytes bulkImage);
     let b (cls : Nat) : List Byte := collected cls f s; let m := ((bulkMirrorOf (b clsBulk)).getD default);
      decide (live s = true ∧ mirrorEnds clsBulk f s = true ∧ bulkMirrorOf (b clsBulk) = some m ∧ s.pair.paired = true ∧
        s.pair.rejoin.isSome = true)) = true ∧
    (let s : State := paired .standby chained; let f : List Byte := fromOther clsJournal (journalBytes (opening 2));
     let b (cls : Nat) : List Byte := collected cls f s; let e := ((journalOf (b clsJournal).length (b clsJournal)).headD default);
      decide (live s = true ∧ mirrorEnds clsJournal f s = true ∧ journalOf (b clsJournal).length (b clsJournal) = [e] ∧
        s.pair.paired = true ∧ s.pair.role = .standby ∧ isFenced .j s = false ∧ e.jseq ≠ s.ses.jseq + 1)) = true ∧
    (let s : State := paired .standby chained; let f : List Byte := fromOther clsJournal (journalBytes (opening 1));
     let b (cls : Nat) : List Byte := collected cls f s; let e := ((journalOf (b clsJournal).length (b clsJournal)).headD default);
      decide (live s = true ∧ mirrorEnds clsJournal f s = true ∧ journalOf (b clsJournal).length (b clsJournal) = [e] ∧
        s.pair.paired = true ∧ s.pair.role = .standby ∧ isFenced .j s = false ∧ e.jseq = s.ses.jseq + 1 ∧ e.type = 3 ∧
        fieldU e.payload 0 1 = 1)) = true ∧
    (let s : State := pairing standby; let f : List Byte := beatBytes 0 4; let b (cls : Nat) : List Byte := collected cls f s;
     let h := ((heartbeatOf (b clsHeartbeat)).getD default);
      decide (live s = true ∧ mirrorEnds clsHeartbeat f s = true ∧ heartbeatOf (b clsHeartbeat) = some h ∧ (b clsHeartbeat).length = 15 ∧
        h.member = 1 - s.pair.member ∧ cfgB Ent.PAIR_ENABLE s = true ∧ h.pair = pairId s ∧ s.pair.paired = true ∧ s.pair.role = .standby ∧
        h.role = 0 ∧ epochAbove s.pair.epoch h.epoch = false)) = true ∧
    (let s : State := pairing (tierIs .guard_ up); let f : List Byte := beatBytes 0 4; let b (cls : Nat) : List Byte := collected cls f s;
     let h := ((heartbeatOf (b clsHeartbeat)).getD default);
      decide (live s = true ∧ mirrorEnds clsHeartbeat f s = true ∧ heartbeatOf (b clsHeartbeat) = some h ∧ (b clsHeartbeat).length = 15 ∧
        h.member = 1 - s.pair.member ∧ cfgB Ent.PAIR_ENABLE s = true ∧ h.pair = pairId s ∧ s.pair.paired = false ∧
        tierAtLeast .watch s = false)) = true ∧
    (let s : State := pairing active; let f : List Byte := beatBytes 0 4; let b (cls : Nat) : List Byte := collected cls f s;
     let h := ((heartbeatOf (b clsHeartbeat)).getD default);
      decide (live s = true ∧ mirrorEnds clsHeartbeat f s = true ∧ heartbeatOf (b clsHeartbeat) = some h ∧ (b clsHeartbeat).length = 15 ∧
        h.member = 1 - s.pair.member ∧ cfgB Ent.PAIR_ENABLE s = true ∧ h.pair = pairId s ∧ s.pair.paired = true ∧ s.pair.role = .active ∧
        s.pair.request = .none ∧ h.role = 0 ∧ epochAbove h.epoch s.pair.epoch = true)) = true := by decide +kernel

theorem test_meets_PairRolesChange :
    (let s : State := paired .standby chained; let f := fromOther clsOrder (toBytes 1 ordHandover ++ toBytes 2 44);
     let b := collected clsOrder f s;
      decide (live s = true ∧ mirrorEnds clsOrder f s = true ∧ fieldU f 8 1 = ordHandover ∧ b.length = 3 ∧ s.pair.paired = true ∧
        s.pair.role = .standby)) = true ∧
    (let s : State := paired .active (linkUp { freezable with pair := { freezable.pair with partnerReady := true } });
     let f := fromOther clsOrder (toBytes 1 ordRejoinReq);
      decide (live s = true ∧ mirrorEnds clsOrder f s = true ∧ fieldU f 8 1 = ordRejoinReq ∧ s.pair.paired = true ∧
        s.pair.role = .active)) = true ∧
    (let s : State := paired .active (linkUp { freezable with pair := { freezable.pair with partnerReady := true } });
     let f := fromOther clsOrder (toBytes 1 ordRejoinDone);
      decide (live s = true ∧ mirrorEnds clsOrder f s = true ∧ fieldU f 8 1 = ordRejoinDone ∧ s.pair.paired = true ∧
        s.pair.role = .active)) = true ∧
    (let s : State := up; let f := beatBytes 0 4;
      decide (live s = true ∧ mirrorValid clsOrder f s = false)) = true ∧
    (let s : State := rejoining 0; let t := ((s.pair.rejoin).getD default);
      decide (live s = true ∧ s.pair.rejoin = some t ∧ t + 10000000000 ≤ s.now)) = true ∧
    (let s : State := rejoining 20000000000; let t := ((s.pair.rejoin).getD default);
      decide (live s = true ∧ s.pair.rejoin = some t ∧ s.now < t + 10000000000)) = true ∧
    (let s : State := silenced .active true;
      decide (live s = true ∧ s.pair.paired = true ∧ mirrorUp s = false ∧ s.pair.role = .active ∧ s.ses.awaiting = [])) = true ∧
    (let s : State := asking false false 65535;
      decide (live s = true ∧ s.pair.paired = true ∧ mirrorUp s = false ∧ s.pair.role = .standby ∧ aliveOn s = true ∧
        s.pair.laneHeld = false)) = true ∧
    (let s : State := silenced .standby false;
      decide (live s = true ∧ s.pair.paired = true ∧ mirrorUp s = false ∧ s.pair.role = .standby ∧ aliveOn s = false ∧
        laneUp .l0 s = true)) = true ∧
    (let s : State := silenced .detached true;
      decide (live s = true ∧ s.pair.paired = true ∧ mirrorUp s = false ∧ (s.pair.role = .detached ∨ s.pair.role = .fenced))) = true ∧
    (let s : State := paired .active (linkUp { freezable with pair := { freezable.pair with partnerReady := true } });
      decide (live s = true ∧ mirrorUp s = true ∧ s.ses.awaiting = [])) = true ∧
    (let s : State := { standby with pair := { standby.pair with still := 255 } };
      decide (live s = true ∧ s.pair.paired = true ∧ aliveOn s = false ∧ mirrorUp s = true)) = true ∧
    (let s : State := silenced .standby false;
      decide (live s = true ∧ s.pair.paired = true ∧ aliveOn s = false ∧ mirrorUp s = false ∧ pairReady s = true)) = true ∧
    (let s : State := paired .active (linkUp { freezable with pair := { freezable.pair with partnerReady := true } });
      decide (live s = true ∧ aliveOn s = true)) = true ∧
    (let s : State := paired .active (linkUp { freezable with pair := { freezable.pair with partnerReady := true } });
     let l : Lane := .l0;
      decide (live s = true ∧ mirrorLane l s = true)) = true ∧
    (let s : State := up; let l : Lane := .l0;
      decide (live s = true ∧ mirrorLane l s = false)) = true := by decide +kernel

theorem test_meets_LeasesAndWitness :
    (let s : State := up; let net := false; let f := leaseIn 1 4;
      decide (live s = true ∧ leaseFor 0 net f s = none)) = true ∧
    (let s : State := up; let net := false; let f := leaseIn 0 0;
      decide (live s = true ∧ leaseFor 1 net f s = none)) = true ∧
    (let s : State := up; let net := false; let f := leaseIn 0 0;
      decide (live s = true ∧ leaseFor 2 net f s = none)) = true ∧
    (let s : State := leasing 0 true; let net := false; let f := leaseIn 0 0; let l := ((leaseFor 0 net f s).getD default);
     let t := 19999000000;
      decide (live s = true ∧ s.pair.paired = true ∧ leaseFor 0 net f s = some l ∧ toMe l s = true ∧ s.pair.role = .active ∧
        epochAbove l.epoch s.pair.epoch = false ∧ s.pair.sends.find? (·.1 == l.ctr) = some (l.ctr, t))) = true ∧
    (let s : State := paired .active (linkUp { freezable with pair := { freezable.pair with partnerReady := true } }); let net := false;
     let f := leaseIn 0 4; let l := ((leaseFor 0 net f s).getD default);
      decide (live s = true ∧ s.pair.paired = true ∧ leaseFor 0 net f s = some l ∧ s.pair.role = .active ∧ s.pair.request = .none ∧
        epochAbove l.epoch s.pair.epoch = true)) = true ∧
    (let s : State := paired .standby chained; let net := false; let f := leaseIn 1 4; let l := ((leaseFor 1 net f s).getD default);
      decide (live s = true ∧ s.pair.paired = true ∧ leaseFor 1 net f s = some l ∧ toMe l s = true ∧ s.pair.role ≠ .active)) = true ∧
    (let s : State := standby; let net := false; let f := leaseIn 2 0; let l := ((leaseFor 2 net f s).getD default);
      decide (live s = true ∧ s.pair.paired = true ∧ leaseFor 2 net f s = some l ∧ toMe l s = true ∧ s.pair.role = .standby ∧
        aliveOn s = true)) = true ∧
    (let s : State := paired .standby chained; let net := false; let f := leaseIn 2 0; let l := ((leaseFor 2 net f s).getD default);
      decide (live s = true ∧ s.pair.paired = true ∧ leaseFor 2 net f s = some l ∧ toMe l s = true ∧ s.pair.role = .standby ∧
        aliveOn s = false)) = true ∧
    (let s : State := paired .active (linkUp { freezable with pair := { freezable.pair with partnerReady := true } });
      decide (live s = true ∧ s.pair.paired = true ∧ s.pair.role = .active ∧ s.pair.leaseEnd ≤ s.now ∧
        witnessLostToBoth s = true)) = true ∧
    (let s : State := leasing 0 false;
      decide (live s = true ∧ s.pair.paired = true ∧ s.pair.role = .active ∧ s.pair.leaseEnd ≤ s.now ∧ witnessLostToBoth s = false ∧
        s.pair.handing = false)) = true ∧
    (let s : State := leasing 30000000000 false;
      decide (live s = true ∧ s.pair.paired = true ∧ s.now < s.pair.leaseEnd)) = true ∧
    (let s : State := asking false true 65535;
      decide (live s = true ∧ s.pair.paired = true ∧ s.pair.role = .standby ∧ s.pair.request = .takeover ∧
        cfgN Ent.PAIR_GRANT_WAIT s ≤ s.pair.reqFrames ∧ s.pair.laneHeld = true)) = true ∧
    (let s : State := asking false false 65535;
      decide (live s = true ∧ s.pair.paired = true ∧ s.pair.role = .standby ∧ s.pair.request = .takeover ∧
        cfgN Ent.PAIR_GRANT_WAIT s ≤ s.pair.reqFrames ∧ s.pair.laneHeld = false ∧ mirrorUp s = false)) = true ∧
    (let s : State := asking true false 65535;
      decide (live s = true ∧ s.pair.paired = true ∧ s.pair.role = .standby ∧ s.pair.request = .takeover ∧
        cfgN Ent.PAIR_GRANT_WAIT s ≤ s.pair.reqFrames ∧ s.pair.laneHeld = false ∧ mirrorUp s = true ∧ s.pair.partnerReq = .takeover ∧
        s.pair.member = 0)) = true ∧
    (let s : State := paired .standby chained;
      decide (live s = true ∧ s.pair.paired = true ∧ s.pair.reqFrames < cfgN Ent.PAIR_GRANT_WAIT s)) = true ∧
    (let s : State := up; let slot : Fin 4 := 3; let w := getAt s.pair.served slot.val;
      decide (live s = true ∧ (servedPair slot.val s = 65535 ∨ w.frame = some s.sys.frames))) = true ∧
    (let s : State := witnessing none; let slot : Fin 4 := 3; let heard : List (Bool × List Byte) := [(false, hbOf 1 1 65535 1)];
     let w := getAt s.pair.served slot.val; let net := ((heard.headD default).1); let f := ((heard.headD default).2);
     let h := ((heartbeatFrame f).getD default);
      decide (live s = true ∧ servedPair slot.val s ≠ 65535 ∧ w.frame ≠ some s.sys.frames ∧ heard = [(net, f)] ∧ heartbeatFrame f = some h ∧
        (net = true → isFenced .n s = false) ∧ h.pair = servedPair slot.val s ∧ w.known = true ∧ 2 ≤ w.heard ∧ w.active = none ∧
        h.member = 1 ∧ h.role ≠ 0 ∧ h.ready = true ∧ h.request = 1)) = true ∧
    (let s : State := witnessing none; let slot : Fin 4 := 3; let heard : List (Bool × List Byte) := [(false, hbOf 0 0 65535 0)];
     let w := getAt s.pair.served slot.val; let net := ((heard.headD default).1); let f := ((heard.headD default).2);
     let h := ((heartbeatFrame f).getD default);
      decide (live s = true ∧ servedPair slot.val s ≠ 65535 ∧ w.frame ≠ some s.sys.frames ∧ heard = [(net, f)] ∧ heartbeatFrame f = some h ∧
        (net = true → isFenced .n s = false) ∧ h.pair = servedPair slot.val s ∧ w.known = true ∧ 2 ≤ w.heard ∧ h.member = 0 ∧ h.role = 0 ∧
        h.epoch = w.epoch ∧ h.request = 0)) = true ∧
    (let s : State := witnessing (some 0); let slot : Fin 4 := 3; let heard : List (Bool × List Byte) := [(false, hbOf 1 1 65535 1)];
     let w := getAt s.pair.served slot.val; let net := ((heard.headD default).1); let f := ((heard.headD default).2);
     let h := ((heartbeatFrame f).getD default);
      decide (live s = true ∧ servedPair slot.val s ≠ 65535 ∧ w.frame ≠ some s.sys.frames ∧ heard = [(net, f)] ∧ heartbeatFrame f = some h ∧
        (net = true → isFenced .n s = false) ∧ h.pair = servedPair slot.val s ∧ w.known = true ∧ 2 ≤ w.heard ∧ w.active = some 0 ∧
        incSat8 w.miss0 < cfgN Ent.PAIR_MISS_MAX s ∧ h.member = 1 ∧ h.role ≠ 0 ∧ h.request = 1)) = true := by decide +kernel

theorem test_meets_FirmwareUpdateAdvances :
    (let s : State := let s := applying false false 1; { s with fw := { s.fw with delta := [] } }; let b := s.fw.block;
     let bytes := deltaBlock b s; let got := [];
      decide (live s = true ∧ s.fw.state = .applying ∧ s.sys.imageOk = true ∧ tierAtLeast .limited s = true ∧ s.fw.abort = false ∧
        (¬(bytes.length = 4096 ∧ crc32c got = fieldU s.fw.delta (64 + 8 * b) 4)) ∧ s.fw.retried = false)) = true ∧
    (let s : State := let s := applying true false 1; { s with fw := { s.fw with delta := [] } }; let b := s.fw.block;
     let bytes := deltaBlock b s; let got := [];
      decide (live s = true ∧ s.fw.state = .applying ∧ s.sys.imageOk = true ∧ tierAtLeast .limited s = true ∧ s.fw.abort = false ∧
        (¬(bytes.length = 4096 ∧ crc32c got = fieldU s.fw.delta (64 + 8 * b) 4)) ∧ s.fw.retried = true)) = true ∧
    (let s : State := applying false true 1;
      decide (live s = true ∧ s.fw.state = .applying ∧ s.sys.imageOk = true ∧ tierAtLeast .limited s = true ∧ s.fw.abort = true)) = true ∧
    (let s : State := guarding;
      decide (live s = true ∧ tierAtLeast .limited s = false)) = true ∧
    (let s : State := updating .verifying 3;
      decide (live s = true ∧ s.fw.state = .verifying)) = true ∧
    (let s : State := shadowed 16; let ns := 0;
      decide (live s = true ∧ s.fw.state = .shadow ∧ 16 ≤ s.fw.framesIn ∧ ns ≤ 980000)) = true ∧
    (let s : State := shadowed 3; let ns := 0;
      decide (live s = true ∧ s.fw.state = .shadow ∧ (s.fw.framesIn < 16 ∨ 980000 < ns))) = true ∧
    (let s : State := shadowed 3; let failed := true;
      decide (live s = true ∧ s.fw.state = .shadow ∧ (failed = true ∨ 2000 ≤ s.fw.framesIn))) = true ∧
    (let s : State := shadowed 3;
      decide (live s = true ∧ s.fw.state = .shadow ∧ s.fw.framesIn < 2000)) = true ∧
    (let s : State := proving 100000;
      decide (live s = true ∧ s.fw.state = .probation ∧ cfgN Ent.FW_HEALTH_MIN s ≤ s.fw.probation ∧ s.fw.backNext = none)) = true ∧
    (let s : State := proving 0; let clean := true;
      decide (live s = true ∧ s.fw.state = .probation ∧ (s.fw.probation < cfgN Ent.FW_HEALTH_MIN s ∨ clean = false))) = true ∧
    (let s : State := proving 100000;
      decide (live s = true ∧ s.fw.state = .probation ∧ s.fw.commitNext = false ∧ 1000 ≤ s.fw.probation)) = true ∧
    (let s : State := proving 0;
      decide (live s = true ∧ s.fw.state = .probation ∧ s.fw.commitNext = false ∧ s.fw.probation < 1000)) = true ∧
    (let s : State := recovering 0; let h : Hdr := chunkHd chunk0; let p : List Byte := chunk0;
     let x : Session := ((sessionOf h.ses s).getD default); let a : Word32 := 0x0A000001#32; let q : Word16 := 5000#16;
     let r : Req := { writeReq Ent.FW_RECOVERY h p with op := 0x11 }; let total := fieldU p 0 4; let off := fieldU p 4 4;
     let n := p.length - 12;
      decide (live s = true ∧ s.sys.imageOk = false ∧ isFenced .h s = false ∧ isFenced .n s = false ∧ h.via = .udp a q true ∧
        formOk r = true ∧ h.kind = 1 ∧ sessionOf h.ses s = some x ∧ x.service = true ∧ x.held = [] ∧ h.seq = x.next ∧ h.seq ≠ 0 ∧
        13 ≤ p.length ∧ p.length ≤ 1036 ∧ off = 0 ∧ s.fw.recNext = 0 ∧ 4096 ≤ total ∧ total ≤ 33554432 ∧ n < total)) = true ∧
    (let s : State := recovering 0; let h : Hdr := chunkHd chunk9; let p : List Byte := chunk9;
     let x : Session := ((sessionOf h.ses s).getD default); let a : Word32 := 0x0A000001#32; let q : Word16 := 5000#16;
     let r : Req := { writeReq Ent.FW_RECOVERY h p with op := 0x11 }; let off := fieldU p 4 4;
      decide (live s = true ∧ s.sys.imageOk = false ∧ isFenced .h s = false ∧ isFenced .n s = false ∧ h.via = .udp a q true ∧
        formOk r = true ∧ h.kind = 1 ∧ sessionOf h.ses s = some x ∧ x.service = true ∧ x.held = [] ∧ h.seq = x.next ∧ h.seq ≠ 0 ∧
        13 ≤ p.length ∧ p.length ≤ 1036 ∧ off ≠ 0 ∧ off ≠ s.fw.recNext)) = true := by decide +kernel

theorem test_meets_ScrubberCorrectsAndContains :
    (let s : State := walked 4 (2 ^ 30) 0; let r : Fin 13 := 4; let t : Nat := s.now;
      decide (live s = true ∧ isFenced .j s = false ∧ readDue r.val (atTime t s) = false)) = true ∧
    (let s : State := up; let r : Fin 13 := 0; let t : Nat := s.now; let raw : List Byte := good8;
      decide (live s = true ∧ isFenced .j s = false ∧ readDue r.val (atTime t s) = true ∧ (decodeBlock raw).1 = .none)) = true ∧
    (let s : State := up; let r : Fin 13 := 0; let t : Nat := s.now; let raw : List Byte := good8.set 3 5#8;
      decide (live s = true ∧ isFenced .j s = false ∧ readDue r.val (atTime t s) = true ∧ (decodeBlock raw).1 = .data)) = true ∧
    (let s : State := up; let r : Fin 13 := 0; let t : Nat := s.now; let raw : List Byte := good8.set 8 (good8.getD 8 0 ^^^ 1);
      decide (live s = true ∧ isFenced .j s = false ∧ readDue r.val (atTime t s) = true ∧ (decodeBlock raw).1 = .check)) = true ∧
    (let s : State := up; let r : Fin 13 := 11; let t : Nat := s.now; let raw : List Byte := bad8;
      decide (live s = true ∧ isFenced .j s = false ∧ readDue r.val (atTime t s) = true ∧ (decodeBlock raw).1 = .uncorrectable ∧
        11 ≤ r.val)) = true ∧
    (let s : State := up; let r : Fin 13 := 4; let t : Nat := s.now; let raw : List Byte := bad8;
     let i := ((regionOwner r.val).getD default);
      decide (live s = true ∧ isFenced .j s = false ∧ readDue r.val (atTime t s) = true ∧ (decodeBlock raw).1 = .uncorrectable ∧
        regionOwner r.val = some i ∧ i ≠ .p)) = true ∧
    (let s : State := up; let r : Fin 13 := 0; let t : Nat := s.now; let raw : List Byte := bad8;
      decide (live s = true ∧ isFenced .j s = false ∧ readDue r.val (atTime t s) = true ∧ (decodeBlock raw).1 = .uncorrectable ∧
        r.val = 0)) = true ∧
    (let s : State := walked 4 (2 ^ 30) 0; let r : Fin 13 := 4; let x := region r.val s;
      decide (live s = true ∧ isFenced .j s = false ∧ regionBlocks r.val ≤ x.walk)) = true ∧
    (let s : State := up; let r : Fin 13 := 0; let x := region r.val s;
      decide (live s = true ∧ isFenced .j s = false ∧ x.walk < regionBlocks r.val)) = true ∧
    (let s : State := walked 4 5 (10 ^ 12); let r : Fin 13 := 4; let x := region r.val s;
      decide (live s = true ∧ isFenced .j s = false ∧ lapLimit r.val s * 1000 < x.lapMs)) = true ∧
    (let s : State := up; let r : Fin 13 := 0; let x := region r.val s;
      decide (live s = true ∧ isFenced .j s = false ∧ x.lapMs ≤ lapLimit r.val s * 1000)) = true := by decide +kernel

theorem test_meets_RecorderCountsAndCommits :
    (let edges := tempEdges; let i : Nat := 0; let e : Int := ((edges[i]?).getD 0);
      decide (edges ∈ [tempEdges, socEdges, rateEdges, vbpEdges, dieEdges, vfEdges] ∧ edges[i]? = some e)) = true ∧
    (let s : State := up;
      decide (live s = true ∧ isFenced .j s = false ∧ s.recd.secAt = s.sys.opSec)) = true ∧
    (let s : State := recording .running;
      decide (live s = true ∧ isFenced .j s = false ∧ s.recd.secAt ≠ s.sys.opSec)) = true ∧
    (let s : State := up;
      decide (live s = true ∧ isFenced .j s = false ∧ s.recd.dueAt ≤ s.sys.opSec ∧ s.recd.state = .running ∧
        s.sup.vbpState = .normal)) = true ∧
    (let s : State := recording .held;
      decide (live s = true ∧ isFenced .j s = false ∧ s.recd.dueAt ≤ s.sys.opSec ∧
        (s.recd.state ≠ .running ∨ s.sup.vbpState ≠ .normal))) = true ∧
    (let s : State := recording .held;
      decide (live s = true ∧ isFenced .j s = false ∧ s.recd.state = .held ∧ s.recd.holdEnd ≤ s.now)) = true ∧
    (let s : State := recording .merging;
      decide (live s = true ∧ isFenced .j s = false ∧ s.recd.state = .merging ∧ s.sup.vbpState = .normal)) = true := by decide +kernel

theorem test_meets_CommandsAreJudged :
    (let s : State := up; let i : Instr := .write (hd 65537 5 2 0x9999 1 [0#8]) 0x9999#16 1#8 [0#8];
     let r : Req := (requestOf i).getD default; let x : Session := (sessionOf r.h.ses s).getD default;
      decide (requestOf i = some r ∧ r.op = 0x02 ∧ readyB r x s = true ∧ reqEntry r = none)) = true ∧
    (let s : State := up; let i : Instr := wr Ent.SYS_TIER [0#8]; let r : Req := (requestOf i).getD default;
     let x : Session := (sessionOf r.h.ses s).getD default; let e := (((reqEntry r).map (·.1)).getD default);
     let k := (((reqEntry r).map (·.2)).getD default);
      decide (requestOf i = some r ∧ r.op = 0x02 ∧ readyB r x s = true ∧ reqEntry r = some (e, k) ∧ e.access = .ro)) = true ∧
    (let s : State := up; let i : Instr := wr Ent.SAF_Q_MASK [1#8]; let r : Req := (requestOf i).getD default;
     let x : Session := (sessionOf r.h.ses s).getD default; let e := (((reqEntry r).map (·.1)).getD default);
     let k := (((reqEntry r).map (·.2)).getD default);
      decide (requestOf i = some r ∧ r.op = 0x02 ∧ readyB r x s = true ∧ reqEntry r = some (e, k) ∧ e.access = .saf)) = true ∧
    (let s : State := up; let i : Instr := wr Ent.PROT_OV_WARN [1#8]; let r : Req := (requestOf i).getD default;
     let x : Session := (sessionOf r.h.ses s).getD default; let e := (((reqEntry r).map (·.1)).getD default);
     let k := (((reqEntry r).map (·.2)).getD default);
      decide (requestOf i = some r ∧ r.op = 0x02 ∧ readyB r x s = true ∧ reqEntry r = some (e, k) ∧
        ((e.access = .rwi ∨ e.access = .rwc ∨ (e.access = .rw ∧ dispatchEntry r = none))) ∧ decodeVal e r.payload = none)) = true ∧
    (let s : State := up; let i : Instr := wr Ent.CHN_NODE_COUNT [33#8]; let r : Req := (requestOf i).getD default;
     let x : Session := (sessionOf r.h.ses s).getD default; let e := (((reqEntry r).map (·.1)).getD default);
     let k := (((reqEntry r).map (·.2)).getD default); let v := ((decodeVal e r.payload).getD default);
      decide (requestOf i = some r ∧ r.op = 0x02 ∧ readyB r x s = true ∧ reqEntry r = some (e, k) ∧
        ((e.access = .rwi ∨ e.access = .rwc ∨ (e.access = .rw ∧ dispatchEntry r = none))) ∧ decodeVal e r.payload = some v ∧
        valueOk e v = false)) = true ∧
    (let s : State := sourceless; let i : Instr := wr Ent.CHN_NODE_COUNT [3#8]; let r : Req := (requestOf i).getD default;
     let x : Session := (sessionOf r.h.ses s).getD default; let a := arrived x s; let e := (((reqEntry r).map (·.1)).getD default);
     let k := (((reqEntry r).map (·.2)).getD default); let v := ((decodeVal e r.payload).getD default);
      decide (requestOf i = some r ∧ r.op = 0x02 ∧ readyB r x s = true ∧ reqEntry r = some (e, k) ∧ decodeVal e r.payload = some v ∧
        valueOk e v = true ∧ e.access = .rwi ∧ parked a = false)) = true ∧
    (let s : State := up; let i : Instr := wr Ent.DIO_SQ_CMD [7#8]; let r : Req := (requestOf i).getD default;
     let x : Session := (sessionOf r.h.ses s).getD default; let a := arrived x s; let e := (((reqEntry r).map (·.1)).getD default);
     let k := (((reqEntry r).map (·.2)).getD default); let v := ((decodeVal e r.payload).getD default);
      decide (requestOf i = some r ∧ r.op = 0x02 ∧ readyB r x s = true ∧ reqEntry r = some (e, k) ∧ decodeVal e r.payload = some v ∧
        valueOk e v = true ∧ ((e.access = .rwi ∧ parked a = true) ∨ (e.access = .rw ∧ dispatchEntry r = none)) ∧
        protectionBits e v a = true)) = true ∧
    (let s : State := chained; let i : Instr := wr Ent.CHN_SPLIT [9#8]; let r : Req := (requestOf i).getD default;
     let x : Session := (sessionOf r.h.ses s).getD default; let a := arrived x s; let e := (((reqEntry r).map (·.1)).getD default);
     let k := (((reqEntry r).map (·.2)).getD default); let v := ((decodeVal e r.payload).getD default);
      decide (requestOf i = some r ∧ r.op = 0x02 ∧ readyB r x s = true ∧ reqEntry r = some (e, k) ∧ decodeVal e r.payload = some v ∧
        valueOk e v = true ∧ ((e.access = .rwi ∧ parked a = true) ∨ (e.access = .rw ∧ dispatchEntry r = none)) ∧
        protectionBits e v a = false ∧ (linkFault [(entryAddr e k, v)] a).isSome = true)) = true ∧
    (let s : State := up; let i : Instr := wr Ent.CHN_NODE_COUNT [3#8]; let r : Req := (requestOf i).getD default;
     let x : Session := (sessionOf r.h.ses s).getD default; let a := arrived x s; let e := (((reqEntry r).map (·.1)).getD default);
     let k := (((reqEntry r).map (·.2)).getD default); let v := ((decodeVal e r.payload).getD default);
      decide (requestOf i = some r ∧ r.op = 0x02 ∧ readyB r x s = true ∧ reqEntry r = some (e, k) ∧ decodeVal e r.payload = some v ∧
        valueOk e v = true ∧ ((e.access = .rwi ∧ parked a = true) ∨ (e.access = .rw ∧ dispatchEntry r = none)) ∧
        protectionBits e v a = false ∧ linkFault [(entryAddr e k, v)] a = none)) = true := by decide +kernel

theorem test_meets_CommandsAreJudged_2 :
    (let s : State := up; let i : Instr := wr Ent.DIO_DI_MODE [3#8]; let r : Req := (requestOf i).getD default;
     let x : Session := (sessionOf r.h.ses s).getD default; let e := (((reqEntry r).map (·.1)).getD default);
     let k := (((reqEntry r).map (·.2)).getD default); let v := ((decodeVal e r.payload).getD default);
      decide (requestOf i = some r ∧ r.op = 0x02 ∧ readyB r x s = true ∧ reqEntry r = some (e, k) ∧ decodeVal e r.payload = some v ∧
        valueOk e v = true ∧ e.access = .rwc)) = true ∧
    (let s : State := up; let i : Instr := wr Ent.CHN_ENUMERATE [1#8]; let r : Req := (requestOf i).getD default;
     let x : Session := (sessionOf r.h.ses s).getD default;
     let n : Nat := (match (reqEntry r).bind (fun e => decodeVal e.1 r.payload) with | some (.num n) => n.toNat | _ => 0);
      decide (requestOf i = some r ∧ r.op = 0x02 ∧ readyB r x s = true ∧ writesB Ent.CHN_ENUMERATE n r = true ∧ n = 1)) = true ∧
    (let s : State := up; let i : Instr := wr Ent.CHN_KEY_NODE [2#8]; let r : Req := (requestOf i).getD default;
     let x : Session := (sessionOf r.h.ses s).getD default;
     let n : Nat := (match (reqEntry r).bind (fun e => decodeVal e.1 r.payload) with | some (.num n) => n.toNat | _ => 0);
      decide (requestOf i = some r ∧ r.op = 0x02 ∧ readyB r x s = true ∧ writesB Ent.CHN_KEY_NODE n r = true)) = true ∧
    (let s : State := up; let i : Instr := wr Ent.EST_REST_REQ (toBytes 2 29); let r : Req := (requestOf i).getD default;
     let x : Session := (sessionOf r.h.ses s).getD default;
     let n : Nat := (match (reqEntry r).bind (fun e => decodeVal e.1 r.payload) with | some (.num n) => n.toNat | _ => 0);
      decide (requestOf i = some r ∧ r.op = 0x02 ∧ readyB r x s = true ∧ writesB Ent.EST_REST_REQ n r = true)) = true ∧
    (let s : State := up;
     let i : Instr := .cellIdAck (hd 65537 5 2 (Ent.CELL_ID_ACK.index + Ent.CELL_ID_ACK.istep * 255) (Ent.CELL_ID_ACK.sub + Ent.CELL_ID_ACK.sstep * 255) [1#8]) 255 [1#8];
     let r : Req := (requestOf i).getD default; let x : Session := (sessionOf r.h.ses s).getD default;
     let n : Nat := (match (reqEntry r).bind (fun e => decodeVal e.1 r.payload) with | some (.num n) => n.toNat | _ => 0);
      decide (requestOf i = some r ∧ r.op = 0x02 ∧ readyB r x s = true ∧ writesB Ent.CELL_ID_ACK n r = true ∧ n = 1)) = true ∧
    (let s : State := up; let i : Instr := wr Ent.EST_ID_ACK_ALL [1#8]; let r : Req := (requestOf i).getD default;
     let x : Session := (sessionOf r.h.ses s).getD default;
     let n : Nat := (match (reqEntry r).bind (fun e => decodeVal e.1 r.payload) with | some (.num n) => n.toNat | _ => 0);
      decide (requestOf i = some r ∧ r.op = 0x02 ∧ readyB r x s = true ∧ writesB Ent.EST_ID_ACK_ALL n r = true ∧ n = 1)) = true ∧
    (let s : State := up; let i : Instr := wr Ent.CVT_PHASE_RESTORE (toBytes 2 7); let r : Req := (requestOf i).getD default;
     let x : Session := (sessionOf r.h.ses s).getD default;
     let n : Nat := (match (reqEntry r).bind (fun e => decodeVal e.1 r.payload) with | some (.num n) => n.toNat | _ => 0);
      decide (requestOf i = some r ∧ r.op = 0x02 ∧ readyB r x s = true ∧ writesB Ent.CVT_PHASE_RESTORE n r = true)) = true ∧
    (let s : State := up; let i : Instr := wr Ent.DSP_REST_GRANT (toBytes 2 7); let r : Req := (requestOf i).getD default;
     let x : Session := (sessionOf r.h.ses s).getD default;
     let n : Nat := (match (reqEntry r).bind (fun e => decodeVal e.1 r.payload) with | some (.num n) => n.toNat | _ => 0);
      decide (requestOf i = some r ∧ r.op = 0x02 ∧ readyB r x s = true ∧ writesB Ent.DSP_REST_GRANT n r = true)) = true ∧
    (let s : State := up; let i : Instr := wr Ent.DIO_DQ_RETRY (toBytes 2 7); let r : Req := (requestOf i).getD default;
     let x : Session := (sessionOf r.h.ses s).getD default;
     let n : Nat := (match (reqEntry r).bind (fun e => decodeVal e.1 r.payload) with | some (.num n) => n.toNat | _ => 0);
      decide (requestOf i = some r ∧ r.op = 0x02 ∧ readyB r x s = true ∧ writesB Ent.DIO_DQ_RETRY n r = true)) = true := by decide +kernel

theorem test_meets_CommandsAreJudged_3 :
    (let s : State := up; let i : Instr := wr Ent.PROT_TRIP_RESET [1#8]; let r : Req := (requestOf i).getD default;
     let x : Session := (sessionOf r.h.ses s).getD default;
     let n : Nat := (match (reqEntry r).bind (fun e => decodeVal e.1 r.payload) with | some (.num n) => n.toNat | _ => 0);
      decide (requestOf i = some r ∧ r.op = 0x02 ∧ readyB r x s = true ∧ writesB Ent.PROT_TRIP_RESET n r = true ∧ n = 1)) = true ∧
    (let s : State := sequencing .precharge 1 0; let i : Instr := wr Ent.SP_MODE_CMD [0#8]; let r : Req := (requestOf i).getD default;
     let x : Session := (sessionOf r.h.ses s).getD default; let a := arrived x s;
     let n : Nat := (match (reqEntry r).bind (fun e => decodeVal e.1 r.payload) with | some (.num n) => n.toNat | _ => 0);
      decide (requestOf i = some r ∧ r.op = 0x02 ∧ readyB r x s = true ∧ writesB Ent.SP_MODE_CMD n r = true ∧ seqRuns a = true)) = true ∧
    (let s : State := up; let i : Instr := wr Ent.SP_MODE_CMD [0#8]; let r : Req := (requestOf i).getD default;
     let x : Session := (sessionOf r.h.ses s).getD default; let a := arrived x s;
     let n : Nat := (match (reqEntry r).bind (fun e => decodeVal e.1 r.payload) with | some (.num n) => n.toNat | _ => 0);
      decide (requestOf i = some r ∧ r.op = 0x02 ∧ readyB r x s = true ∧ writesB Ent.SP_MODE_CMD n r = true ∧ seqRuns a = false ∧
        s.sp.mode.code = n ∧ s.sp.toStandby = false)) = true ∧
    (let s : State := up; let i : Instr := wr Ent.SP_MODE_CMD [2#8]; let r : Req := (requestOf i).getD default;
     let x : Session := (sessionOf r.h.ses s).getD default; let a := arrived x s;
     let n : Nat := (match (reqEntry r).bind (fun e => decodeVal e.1 r.payload) with | some (.num n) => n.toNat | _ => 0);
      decide (requestOf i = some r ∧ r.op = 0x02 ∧ readyB r x s = true ∧ writesB Ent.SP_MODE_CMD n r = true ∧ seqRuns a = false ∧
        s.sp.mode = .parked ∧ 2 ≤ n)) = true ∧
    (let s : State := up; let i : Instr := wr Ent.SP_MODE_CMD [1#8]; let r : Req := (requestOf i).getD default;
     let x : Session := (sessionOf r.h.ses s).getD default; let a := arrived x s;
     let n : Nat := (match (reqEntry r).bind (fun e => decodeVal e.1 r.payload) with | some (.num n) => n.toNat | _ => 0);
      decide (requestOf i = some r ∧ r.op = 0x02 ∧ readyB r x s = true ∧ writesB Ent.SP_MODE_CMD n r = true ∧ seqRuns a = false ∧
        s.sp.mode = .parked ∧ n = 1)) = true ∧
    (let s : State := sourceless; let i : Instr := wr Ent.SP_MODE_CMD [0#8]; let r : Req := (requestOf i).getD default;
     let x : Session := (sessionOf r.h.ses s).getD default; let a := arrived x s;
     let n : Nat := (match (reqEntry r).bind (fun e => decodeVal e.1 r.payload) with | some (.num n) => n.toNat | _ => 0);
      decide (requestOf i = some r ∧ r.op = 0x02 ∧ readyB r x s = true ∧ writesB Ent.SP_MODE_CMD n r = true ∧ seqRuns a = false ∧
        s.sp.mode = .standby ∧ n = 0)) = true ∧
    (let s : State := sourceless; let i : Instr := wr Ent.SP_MODE_CMD [2#8]; let r : Req := (requestOf i).getD default;
     let x : Session := (sessionOf r.h.ses s).getD default; let a := arrived x s;
     let n : Nat := (match (reqEntry r).bind (fun e => decodeVal e.1 r.payload) with | some (.num n) => n.toNat | _ => 0);
      decide (requestOf i = some r ∧ r.op = 0x02 ∧ readyB r x s = true ∧ writesB Ent.SP_MODE_CMD n r = true ∧ seqRuns a = false ∧
        s.sp.mode = .standby ∧ 2 ≤ n)) = true ∧
    (let s : State := inMode .stringCurrent { estimating with est := { estimating.est with noneSince := some 19500000000, lastUseAt := 19999999999 } };
     let i : Instr := wr Ent.SP_MODE_CMD [0#8]; let r : Req := (requestOf i).getD default;
     let x : Session := (sessionOf r.h.ses s).getD default; let a := arrived x s;
     let n : Nat := (match (reqEntry r).bind (fun e => decodeVal e.1 r.payload) with | some (.num n) => n.toNat | _ => 0);
      decide (requestOf i = some r ∧ r.op = 0x02 ∧ readyB r x s = true ∧ writesB Ent.SP_MODE_CMD n r = true ∧ seqRuns a = false ∧
        s.sp.mode.running = true ∧ s.sp.mode.code ≠ n)) = true ∧
    (let s : State := up; let i : Instr := wr Ent.SYS_RESET_CMD [1#8]; let r : Req := (requestOf i).getD default;
     let x : Session := (sessionOf r.h.ses s).getD default;
     let n : Nat := (match (reqEntry r).bind (fun e => decodeVal e.1 r.payload) with | some (.num n) => n.toNat | _ => 0);
      decide (requestOf i = some r ∧ r.op = 0x02 ∧ readyB r x s = true ∧ writesB Ent.SYS_RESET_CMD n r = true ∧ n = 1)) = true := by decide +kernel

theorem test_meets_CommandsAreJudged_4 :
    (let s : State := up; let i : Instr := wr Ent.SYS_SELFTEST_REQ [1#8]; let r : Req := (requestOf i).getD default;
     let x : Session := (sessionOf r.h.ses s).getD default;
     let n : Nat := (match (reqEntry r).bind (fun e => decodeVal e.1 r.payload) with | some (.num n) => n.toNat | _ => 0);
      decide (requestOf i = some r ∧ r.op = 0x02 ∧ readyB r x s = true ∧ writesB Ent.SYS_SELFTEST_REQ n r = true ∧ n = 1)) = true ∧
    (let s : State := up; let i : Instr := wr Ent.SYS_SELFTEST_REQ [2#8]; let r : Req := (requestOf i).getD default;
     let x : Session := (sessionOf r.h.ses s).getD default;
     let n : Nat := (match (reqEntry r).bind (fun e => decodeVal e.1 r.payload) with | some (.num n) => n.toNat | _ => 0);
      decide (requestOf i = some r ∧ r.op = 0x02 ∧ readyB r x s = true ∧ writesB Ent.SYS_SELFTEST_REQ n r = true ∧ n = 2)) = true ∧
    (let s : State := up; let i : Instr := wr Ent.SYS_SELFTEST_REQ [3#8]; let r : Req := (requestOf i).getD default;
     let x : Session := (sessionOf r.h.ses s).getD default;
     let n : Nat := (match (reqEntry r).bind (fun e => decodeVal e.1 r.payload) with | some (.num n) => n.toNat | _ => 0);
      decide (requestOf i = some r ∧ r.op = 0x02 ∧ readyB r x s = true ∧ writesB Ent.SYS_SELFTEST_REQ n r = true ∧ n = 3)) = true ∧
    (let s : State := up; let i : Instr := wr Ent.PAIR_HANDOVER [1#8]; let r : Req := (requestOf i).getD default;
     let x : Session := (sessionOf r.h.ses s).getD default;
     let n : Nat := (match (reqEntry r).bind (fun e => decodeVal e.1 r.payload) with | some (.num n) => n.toNat | _ => 0);
      decide (requestOf i = some r ∧ r.op = 0x02 ∧ readyB r x s = true ∧ writesB Ent.PAIR_HANDOVER n r = true ∧ n = 1)) = true ∧
    (let s : State := up; let i : Instr := wr Ent.FW_APPLY [1#8]; let r : Req := (requestOf i).getD default;
     let x : Session := (sessionOf r.h.ses s).getD default;
     let n : Nat := (match (reqEntry r).bind (fun e => decodeVal e.1 r.payload) with | some (.num n) => n.toNat | _ => 0);
      decide (requestOf i = some r ∧ r.op = 0x02 ∧ readyB r x s = true ∧ writesB Ent.FW_APPLY n r = true ∧ n = 1)) = true ∧
    (let s : State := up; let i : Instr := wr Ent.FW_ABORT [1#8]; let r : Req := (requestOf i).getD default;
     let x : Session := (sessionOf r.h.ses s).getD default;
     let n : Nat := (match (reqEntry r).bind (fun e => decodeVal e.1 r.payload) with | some (.num n) => n.toNat | _ => 0);
      decide (requestOf i = some r ∧ r.op = 0x02 ∧ readyB r x s = true ∧ writesB Ent.FW_ABORT n r = true ∧ n = 1)) = true ∧
    (let s : State := up; let i : Instr := wr Ent.FW_ACTIVATE [1#8]; let r : Req := (requestOf i).getD default;
     let x : Session := (sessionOf r.h.ses s).getD default;
     let n : Nat := (match (reqEntry r).bind (fun e => decodeVal e.1 r.payload) with | some (.num n) => n.toNat | _ => 0);
      decide (requestOf i = some r ∧ r.op = 0x02 ∧ readyB r x s = true ∧ writesB Ent.FW_ACTIVATE n r = true ∧ n = 1)) = true ∧
    (let s : State := up; let i : Instr := wr Ent.FW_ACTIVATE [2#8]; let r : Req := (requestOf i).getD default;
     let x : Session := (sessionOf r.h.ses s).getD default;
     let n : Nat := (match (reqEntry r).bind (fun e => decodeVal e.1 r.payload) with | some (.num n) => n.toNat | _ => 0);
      decide (requestOf i = some r ∧ r.op = 0x02 ∧ readyB r x s = true ∧ writesB Ent.FW_ACTIVATE n r = true ∧ n = 2)) = true ∧
    (let s : State := up; let i : Instr := wr Ent.REC_HOLD (toBytes 2 5); let r : Req := (requestOf i).getD default;
     let x : Session := (sessionOf r.h.ses s).getD default;
     let n : Nat := (match (reqEntry r).bind (fun e => decodeVal e.1 r.payload) with | some (.num n) => n.toNat | _ => 0);
      decide (requestOf i = some r ∧ r.op = 0x02 ∧ readyB r x s = true ∧ writesB Ent.REC_HOLD n r = true)) = true := by decide +kernel

theorem test_meets_CommandsAreJudged_5 :
    (let s : State := up; let i : Instr := wr Ent.CAN_RECOVER [1#8] 1; let r : Req := (requestOf i).getD default;
     let x : Session := (sessionOf r.h.ses s).getD default; let k := (((reqEntry r).map (·.2)).getD default);
      decide (requestOf i = some r ∧ r.op = 0x02 ∧ readyB r x s = true ∧ reqEntry r = some (Ent.CAN_RECOVER, k) ∧
        decodeVal Ent.CAN_RECOVER r.payload = some (.num 1))) = true ∧
    (let s : State := up; let i : Instr := wr Ent.CAN_SLEEP [1#8] 1; let r : Req := (requestOf i).getD default;
     let x : Session := (sessionOf r.h.ses s).getD default;
     let n : Nat := (match (reqEntry r).bind (fun e => decodeVal e.1 r.payload) with | some (.num n) => n.toNat | _ => 0);
      decide (requestOf i = some r ∧ r.op = 0x02 ∧ readyB r x s = true ∧ writesB Ent.CAN_SLEEP n r = true)) = true ∧
    (let s : State := up; let i : Instr := wr Ent.CHN_PACK_KEY key16; let r : Req := (requestOf i).getD default;
     let x : Session := (sessionOf r.h.ses s).getD default;
     let bs := (match (reqEntry r).bind (fun e => decodeVal e.1 r.payload) with | some (.bytes b) => b | _ => []);
      decide (requestOf i = some r ∧ r.op = 0x02 ∧ readyB r x s = true ∧ reqEntry r = some (Ent.CHN_PACK_KEY, 0) ∧
        decodeVal Ent.CHN_PACK_KEY r.payload = some (.bytes bs) ∧ valueOk Ent.CHN_PACK_KEY (.bytes bs) = true)) = true ∧
    (let s : State := up; let i : Instr := wr Ent.CAN_TX (txp 5) 1; let r : Req := (requestOf i).getD default;
     let x : Session := (sessionOf r.h.ses s).getD default;
     let bs := (match (reqEntry r).bind (fun e => decodeVal e.1 r.payload) with | some (.bytes b) => b | _ => []);
     let k := (((reqEntry r).map (·.2)).getD default);
      decide (requestOf i = some r ∧ r.op = 0x02 ∧ readyB r x s = true ∧ reqEntry r = some (Ent.CAN_TX, k) ∧
        decodeVal Ent.CAN_TX r.payload = some (.bytes bs) ∧ valueOk Ent.CAN_TX (.bytes bs) = true)) = true ∧
    (let s : State := up;
     let i : Instr := .protEmergencyOpen (hd 65537 5 2 Ent.PROT_EMERGENCY_OPEN.index Ent.PROT_EMERGENCY_OPEN.sub [1#8]) [1#8];
     let r : Req := (requestOf i).getD default; let x : Session := (sessionOf r.h.ses s).getD default;
      decide (requestOf i = some r ∧ r.op = 0x02 ∧ readyB r x s = true ∧ reqEntry r = some (Ent.PROT_EMERGENCY_OPEN, 0) ∧
        r.payload = [1#8])) = true := by decide +kernel

theorem test_meets_AcknowledgedWorkIsAccepted :
    (let s : State := waiting (wr Ent.CHN_ENUMERATE [1#8]) (chained); let f : List Byte := fromOther clsAck (toBytes 8 9);
     let j : Nat := 9; let r : Req := (match s.ses.awaiting with | [(_, .request r _)] => r | _ => default);
     let x : Session := (sessionOf r.h.ses s).getD default;
     let reply : Reply := (match s.ses.awaiting with | [(_, .request _ y)] => y | _ => default);
     let ip : Word32 := (match reply.dest with | .udp a _ _ => a | _ => 0#32);
     let port : Word16 := (match reply.dest with | .udp _ p _ => p | _ => 0#16);
     let own : Bool := (match reply.dest with | .udp _ _ own => own | _ => false); let e := (((reqEntry r).map (·.1)).getD default);
     let k := (((reqEntry r).map (·.2)).getD default); let v := ((decodeVal e r.payload).getD default);
      decide (live s = true ∧ mirrorEnds clsAck f s = true ∧ collected clsAck f s = toBytes 8 j ∧ j < 2 ^ 64 ∧ s.pair.paired = true ∧
        s.pair.role = .active ∧ s.ses.awaiting = [(j, .request r reply)] ∧ reply.dest = .udp ip port own ∧ reply.status = stAccepted ∧
        sessionOf r.h.ses s = some x ∧ r.op = 0x02 ∧ reqEntry r = some (e, k) ∧ decodeVal e r.payload = some v ∧ e.access = .wo)) = true ∧
    (let s : State := waiting (wr Ent.CVT_IMB_WARN (toBytes 2 50)) (chained); let f : List Byte := fromOther clsAck (toBytes 8 9);
     let j : Nat := 9; let r : Req := (match s.ses.awaiting with | [(_, .request r _)] => r | _ => default);
     let x : Session := (sessionOf r.h.ses s).getD default;
     let reply : Reply := (match s.ses.awaiting with | [(_, .request _ y)] => y | _ => default);
     let ip : Word32 := (match reply.dest with | .udp a _ _ => a | _ => 0#32);
     let port : Word16 := (match reply.dest with | .udp _ p _ => p | _ => 0#16);
     let own : Bool := (match reply.dest with | .udp _ _ own => own | _ => false); let e := (((reqEntry r).map (·.1)).getD default);
     let k := (((reqEntry r).map (·.2)).getD default); let v := ((decodeVal e r.payload).getD default);
      decide (live s = true ∧ mirrorEnds clsAck f s = true ∧ collected clsAck f s = toBytes 8 j ∧ j < 2 ^ 64 ∧ s.pair.paired = true ∧
        s.pair.role = .active ∧ s.ses.awaiting = [(j, .request r reply)] ∧ reply.dest = .udp ip port own ∧ reply.status = stAccepted ∧
        sessionOf r.h.ses s = some x ∧ r.op = 0x02 ∧ reqEntry r = some (e, k) ∧ decodeVal e r.payload = some v ∧
        (e.access = .rw ∨ e.access = .rwi) ∧ isEnt Ent.CELL_LEAD_R_LO e = false ∧ isEnt Ent.CELL_LEAD_R_HI e = false ∧
        storeWf s.store = true)) = true ∧
    (let s : State := waiting (wr Ent.DIO_DI_MODE [3#8]) (chained); let f : List Byte := fromOther clsAck (toBytes 8 9); let j : Nat := 9;
     let r : Req := (match s.ses.awaiting with | [(_, .request r _)] => r | _ => default);
     let x : Session := (sessionOf r.h.ses s).getD default;
     let reply : Reply := (match s.ses.awaiting with | [(_, .request _ y)] => y | _ => default);
     let ip : Word32 := (match reply.dest with | .udp a _ _ => a | _ => 0#32);
     let port : Word16 := (match reply.dest with | .udp _ p _ => p | _ => 0#16);
     let own : Bool := (match reply.dest with | .udp _ _ own => own | _ => false); let e := (((reqEntry r).map (·.1)).getD default);
     let k := (((reqEntry r).map (·.2)).getD default); let v := ((decodeVal e r.payload).getD default);
      decide (live s = true ∧ mirrorEnds clsAck f s = true ∧ collected clsAck f s = toBytes 8 j ∧ j < 2 ^ 64 ∧ s.pair.paired = true ∧
        s.pair.role = .active ∧ s.ses.awaiting = [(j, .request r reply)] ∧ reply.dest = .udp ip port own ∧ reply.status = stAccepted ∧
        sessionOf r.h.ses s = some x ∧ r.op = 0x02 ∧ reqEntry r = some (e, k) ∧ decodeVal e r.payload = some v ∧
        e.access = .rwc)) = true ∧
    (let s : State := waiting (.commitNow (hd 65537 5 0x20 0 0 [0#8])) (chained); let f : List Byte := fromOther clsAck (toBytes 8 9);
     let j : Nat := 9; let r : Req := (match s.ses.awaiting with | [(_, .request r _)] => r | _ => default);
     let x : Session := (sessionOf r.h.ses s).getD default;
     let reply : Reply := (match s.ses.awaiting with | [(_, .request _ y)] => y | _ => default);
     let ip : Word32 := (match reply.dest with | .udp a _ _ => a | _ => 0#32);
     let port : Word16 := (match reply.dest with | .udp _ p _ => p | _ => 0#16);
     let own : Bool := (match reply.dest with | .udp _ _ own => own | _ => false);
      decide (live s = true ∧ mirrorEnds clsAck f s = true ∧ collected clsAck f s = toBytes 8 j ∧ j < 2 ^ 64 ∧ s.pair.paired = true ∧
        s.pair.role = .active ∧ s.ses.awaiting = [(j, .request r reply)] ∧ reply.dest = .udp ip port own ∧ reply.status = stAccepted ∧
        sessionOf r.h.ses s = some x ∧ r.op = 0x20 ∧ r.payload = [0#8])) = true ∧
    (let s : State := waiting (.commitAtIdle (hd 65537 5 0x20 0 0 [1#8])) (chained); let f : List Byte := fromOther clsAck (toBytes 8 9);
     let j : Nat := 9; let r : Req := (match s.ses.awaiting with | [(_, .request r _)] => r | _ => default);
     let x : Session := (sessionOf r.h.ses s).getD default;
     let reply : Reply := (match s.ses.awaiting with | [(_, .request _ y)] => y | _ => default);
     let ip : Word32 := (match reply.dest with | .udp a _ _ => a | _ => 0#32);
     let port : Word16 := (match reply.dest with | .udp _ p _ => p | _ => 0#16);
     let own : Bool := (match reply.dest with | .udp _ _ own => own | _ => false);
      decide (live s = true ∧ mirrorEnds clsAck f s = true ∧ collected clsAck f s = toBytes 8 j ∧ j < 2 ^ 64 ∧ s.pair.paired = true ∧
        s.pair.role = .active ∧ s.ses.awaiting = [(j, .request r reply)] ∧ reply.dest = .udp ip port own ∧ reply.status = stAccepted ∧
        sessionOf r.h.ses s = some x ∧ r.op = 0x20 ∧ r.payload = [1#8])) = true ∧
    (let s : State := waiting (.discard (hd 65537 5 0x21 0 0 [])) (chained); let f : List Byte := fromOther clsAck (toBytes 8 9);
     let j : Nat := 9; let r : Req := (match s.ses.awaiting with | [(_, .request r _)] => r | _ => default);
     let x : Session := (sessionOf r.h.ses s).getD default;
     let reply : Reply := (match s.ses.awaiting with | [(_, .request _ y)] => y | _ => default);
     let ip : Word32 := (match reply.dest with | .udp a _ _ => a | _ => 0#32);
     let port : Word16 := (match reply.dest with | .udp _ p _ => p | _ => 0#16);
     let own : Bool := (match reply.dest with | .udp _ _ own => own | _ => false);
      decide (live s = true ∧ mirrorEnds clsAck f s = true ∧ collected clsAck f s = toBytes 8 j ∧ j < 2 ^ 64 ∧ s.pair.paired = true ∧
        s.pair.role = .active ∧ s.ses.awaiting = [(j, .request r reply)] ∧ reply.dest = .udp ip port own ∧ reply.status = stAccepted ∧
        sessionOf r.h.ses s = some x ∧ r.op = 0x21)) = true ∧
    (let s : State := waiting (.cancelAtIdle (hd 65537 5 0x22 0 0 (toBytes 8 6)) (toBytes 8 6)) (chained);
     let f : List Byte := fromOther clsAck (toBytes 8 9); let j : Nat := 9;
     let r : Req := (match s.ses.awaiting with | [(_, .request r _)] => r | _ => default);
     let x : Session := (sessionOf r.h.ses s).getD default;
     let reply : Reply := (match s.ses.awaiting with | [(_, .request _ y)] => y | _ => default);
     let ip : Word32 := (match reply.dest with | .udp a _ _ => a | _ => 0#32);
     let port : Word16 := (match reply.dest with | .udp _ p _ => p | _ => 0#16);
     let own : Bool := (match reply.dest with | .udp _ _ own => own | _ => false); let c := (fieldU r.payload 0 8);
      decide (live s = true ∧ mirrorEnds clsAck f s = true ∧ collected clsAck f s = toBytes 8 j ∧ j < 2 ^ 64 ∧ s.pair.paired = true ∧
        s.pair.role = .active ∧ s.ses.awaiting = [(j, .request r reply)] ∧ reply.dest = .udp ip port own ∧ reply.status = stAccepted ∧
        sessionOf r.h.ses s = some x ∧ r.op = 0x22 ∧ fieldU r.payload 0 8 = c)) = true ∧
    (let s : State := waiting (.sessionClose (hd 65537 5 0x31 0 0 [])) (chained); let f : List Byte := fromOther clsAck (toBytes 8 9);
     let j : Nat := 9; let r : Req := (match s.ses.awaiting with | [(_, .request r _)] => r | _ => default);
     let x : Session := (sessionOf r.h.ses s).getD default;
     let reply : Reply := (match s.ses.awaiting with | [(_, .request _ y)] => y | _ => default);
     let ip : Word32 := (match reply.dest with | .udp a _ _ => a | _ => 0#32);
     let port : Word16 := (match reply.dest with | .udp _ p _ => p | _ => 0#16);
     let own : Bool := (match reply.dest with | .udp _ _ own => own | _ => false);
      decide (live s = true ∧ mirrorEnds clsAck f s = true ∧ collected clsAck f s = toBytes 8 j ∧ j < 2 ^ 64 ∧ s.pair.paired = true ∧
        s.pair.role = .active ∧ s.ses.awaiting = [(j, .request r reply)] ∧ reply.dest = .udp ip port own ∧ reply.status = stAccepted ∧
        sessionOf r.h.ses s = some x ∧ r.op = 0x31 ∧ s.recd.holdSes ≠ x.id)) = true := by decide +kernel

theorem test_meets_AcceptedCommandsAct :
    (let s : State := chained;
      decide (acts s = true ∧ nodeCount s ≠ 0 ∧ (s.chain.fencedA = false ∨ s.chain.fencedB = false) ∧ isFenced .m s = false)) = true ∧
    (let s : State := unkeyed; let n : Nat := 3;
      decide ((nodeAt n s).state = .unkeyed ∧ 1 ≤ n ∧ n ≤ 32)) = true ∧
    (let s : State := up; let n : Nat := 0;
      decide ((nodeAt n s).state ≠ .unkeyed)) = true ∧
    (let p := 2;
      decide (p < 256)) = true ∧
    (let n : Nat := 7; let p := 2;
      decide (p < 12 ∧ bitOf n p = true)) = true ∧
    (let s : State := up; let n : Nat := 0;
      decide (n = 0 ∧ seqRuns s = false)) = true ∧
    (let s : State := up; let n : Nat := 1;
      decide (n = 1 ∧ seqRuns s = false ∧ parked s = true)) = true ∧
    (let n : Nat := 2;
      decide (2 ≤ n)) = true ∧
    (let c := (([0x5002, 0x5004, 0x5006, 0x5008, 0x500A, 0x5010, 0x5011, 0x5012]).headD default);
      decide (c ∈ [0x5002, 0x5004, 0x5006, 0x5008, 0x500A, 0x5010, 0x5011, 0x5012])) = true ∧
    (let s : State := withCfg [(Ent.CAN_RECOVERY, 1, 1)] (canIn .busOff 0); let k : Nat := 1;
      decide (k < 2 ∧ canState k s = 3)) = true ∧
    (let k : Nat := 0; let n : Nat := 0;
      decide (k < 2 ∧ n = 0)) = true ∧
    (let s : State := up; let n : Nat := 7; let q := 2;
      decide (q < 16 ∧ bitOf n q = true ∧ dqLead q s = q)) = true ∧
    (let s : State := up; let n : Nat := 3;
      decide (n = 3 ∧ needsAck s = false)) = true ∧
    (let s : State := up; let n : Nat := 2;
      decide (n = 2 ∧ s.sys.calRun = false)) = true ∧
    (let s : State := paired .standby chained;
      decide (s.pair.paired = true ∧ s.pair.role ≠ .active)) = true ∧
    (let s : State := updating .deltaStored 1;
      decide (s.fw.state = .deltaStored)) = true ∧
    (let s : State := applying false false 1;
      decide (s.fw.state = .applying)) = true ∧
    (let s : State := updating .verifying 3;
      decide (s.fw.state = .verifying)) = true ∧
    (let s : State := proving 0;
      decide (s.fw.state = .probation)) = true ∧
    (let s : State := updating .verified 1; let n : Nat := 1;
      decide (s.fw.state = .verified ∧ n = 1)) = true ∧
    (let s : State := updating .verified 1; let n : Nat := 2;
      decide (s.fw.state = .verified ∧ n = 2)) = true ∧
    (let s : State := up; let n : Nat := 1;
      decide (1 ≤ n ∧ s.recd.state ≠ .held)) = true := by decide +kernel

theorem test_meets_FrameTickRunsTheFrame :
    (let s : State := up;
      decide (live s = true ∧ s.ptp.stepDue = none ∧ s.sys.downDue = none ∧ s.sup.latchIn = none ∧ s.sup.frz = .idle)) = true ∧
    (let s : State := { up with sys := { up.sys with downDue := some (0, .command) } }; let c := .command;
      decide (live s = true ∧ s.ptp.stepDue = none ∧ s.sys.downDue = some (0, c) ∧ (c = .command ∨ c = .selftest) ∧
        s.fw.state ≠ .probation)) = true ∧
    (let s : State := idleSet Ent.CHN_SPLIT 9; let q := ((s.ses.idle).headD default);
     let a := ((s.ses.idle.headD default).set.headD default).1;
      decide (live s = true ∧ s.ses.replayed = true ∧ acts s = true ∧ isFenced .j s = false ∧ isFenced .h s = false ∧ parked s = true ∧
        seqRuns s = false ∧ s.ses.idle = [q] ∧ linkFault q.set s = some a)) = true ∧
    (let s : State := idleSet Ent.CHN_SPLIT 3; let q := ((s.ses.idle).headD default);
     let a := ((s.ses.idle.headD default).set.headD default).1; let v := ((s.ses.idle.headD default).set.headD default).2;
     let e := Ent.CHN_SPLIT; let k := 0;
      decide (live s = true ∧ s.ses.replayed = true ∧ acts s = true ∧ isFenced .j s = false ∧ isFenced .h s = false ∧ parked s = true ∧
        seqRuns s = false ∧ s.ses.idle = [q] ∧ linkFault q.set s = none ∧ q.set = [(a, v)] ∧ entryAt a = some (e, k) ∧
        isEnt Ent.CELL_LEAD_R_LO e = false ∧ isEnt Ent.CELL_LEAD_R_HI e = false ∧ storeWf s.store = true)) = true ∧
    (let s : State := sourceless;
      decide (live s = true ∧ (parked s = false ∨ seqRuns s = true))) = true ∧
    (let s : State := { withFault 0x500C wide up with now := 10 ^ 14, frameAt := 10 ^ 14 }; let code := 0x500C; let inst := wide;
     let due := s.flt.active.any fun a => a.code == code && a.inst == inst && clearDue a s;
      decide (live s = true ∧ timeCleared.contains code = true ∧ due = true ∧ (code = 0x580F → inst = wide))) = true ∧
    (let s : State := up; let code := 0x5812; let inst := wide;
     let due := s.flt.active.any fun a => a.code == code && a.inst == inst && clearDue a s;
      decide (live s = true ∧ (timeCleared.contains code = false ∨ due = false))) = true ∧
    (let s : State := up; let a : ActiveFault := ⟨0x7C04, wide, 5, 5⟩;
      decide (live s = true ∧ after60s.contains a.code = true)) = true ∧
    (let s : State := missing; let a : ActiveFault := ⟨0x4003, wide, 5, s.now⟩;
      decide (live s = true ∧ after60s.contains a.code = false ∧ causePresent a.code a.inst s = true)) = true ∧
    (let s : State := up; let a : ActiveFault := ⟨0x2005, 3, 5, 5⟩;
      decide (live s = true ∧ after60s.contains a.code = false ∧ causePresent a.code a.inst s = false ∧
        sweepCleared.contains a.code = true)) = true ∧
    (let s : State := up; let a : ActiveFault := ⟨0x5812, wide, 5, 5⟩;
      decide (live s = true ∧ after60s.contains a.code = false ∧ sweepCleared.contains a.code = false ∧ a.code ∉ [0x580F, 0x6010, 0x6011] ∧
        causePresent a.code a.inst s = false)) = true := by decide +kernel

/-! ### Statements over every command or every state -/

theorem test_meets_StepRunsTheFrontCommand : ({ up with pending := [.commitNow goodHdr] } : State).pending = [.commitNow goodHdr] ∧
    up.pending = [] := by decide +kernel

theorem test_meets_StepKeepsTheStoreCanonical : StoreInv up ∧ step up = .next up := by
  refine ⟨by unfold StoreInv; decide +kernel, rfl⟩

theorem test_meets_ResetValuesAndNoPower : live State.reset = false ∧ Ent.SYS_TIER ∈ Ent.all := by decide +kernel

theorem test_meets_MemoryCodeCorrectsSingleErrors : ([1#8, 2#8, 3#8, 4#8, 5#8, 6#8, 7#8, 8#8] : List Byte).length = 8 := by decide

/-! ### Clauses that name a constant set at manufacture -/

theorem fcs_length (b : List Byte) : (fcsOf b).length = 4 := by simp [fcsOf, toBytes]

theorem body_of_fcs (b : List Byte) : bodyOf (b ++ fcsOf b) = b := by simp [bodyOf, fcs_length]

theorem fcs_ok (b : List Byte) : fcsOk (b ++ fcsOf b) = true := by simp [fcsOk, body_of_fcs, fcs_length]

theorem slice_prefix (a v : List Byte) (o n : Nat) (h : o + n ≤ a.length) : slice (a ++ v) o n = slice a o n := by
  rw [slice, slice, List.drop_append_of_le_length (by omega), List.take_append_of_le_length (by simp; omega)]

theorem identity_length (p : Nat) : (portIdentity p).length = 10 := by simp [portIdentity, Config.mac, toBytes]

/-- A Pdelay_Resp up to the port identity that it answers: its 14 bytes of Ethernet header, then its message. -/
def ansEth : List Byte := toBytes 6 0x0180C200000E ++ toBytes 6 0x020000000009 ++ toBytes 2 0x88F7
def ansMsg : List Byte := toBytes 1 3 ++ [2#8] ++ toBytes 2 54 ++ [0#8, 0#8, 0#8, 0#8] ++ toBytes 8 0 ++ toBytes 4 0 ++ toBytes 10 77 ++ toBytes 2 4 ++ [5#8, 0#8] ++ toBytes 10 0
def answer (p : Nat) : List Byte := let b := ansEth ++ (ansMsg ++ portIdentity p); b ++ fcsOf b

theorem payload_answer (v : List Byte) : payloadOf (ansEth ++ v) = v := by
  have h : tagged (ansEth ++ v) = false := by
    rw [tagged, fieldU, slice_prefix _ _ _ _ (by decide)]; decide
  have l : ansEth.length = 14 := by decide
  simp [payloadOf, etAt, h, l]

theorem answer_reads (v : List Byte) :
    ptpSeq (ansMsg ++ v) = 4 ∧ ptpDomain (ansMsg ++ v) = 0 ∧ ptpCorr (ansMsg ++ v) = 0 ∧ ptpTwoStep (ansMsg ++ v) = false ∧
    ptpType (ansMsg ++ v) = 3 ∧ ptpVersionOk (ansMsg ++ v) = true := by
  have e : fieldU (ansMsg ++ v) 1 1 = 2 := by rw [fieldU, slice_prefix _ _ _ _ (by decide)]; decide
  refine ⟨?_, ?_, ?_, ?_, ?_, by simp [ptpVersionOk, e]⟩ <;>
    simp only [ptpSeq, ptpDomain, ptpCorr, ptpTwoStep, ptpType, fieldU, fieldS] <;>
    rw [slice_prefix _ _ _ _ (by decide)] <;> decide

theorem answer_arrives (p : Nat) (s : State) (h : portUp p s = true) : ptpArrives 3 p (answer p) s = true := by
  have n : (answer p).length = 72 := by simp [answer, ansEth, ansMsg, identity_length, fcs_length, toBytes]
  have e : etOf (answer p) = 0x88F7 := by
    have t : tagged (answer p) = false := by
      rw [answer, List.append_assoc, tagged, fieldU, slice_prefix _ _ _ _ (by decide)]; decide
    rw [etOf, etAt, t, answer, List.append_assoc, fieldU]
    simp only [Bool.false_eq_true, if_false]
    rw [slice_prefix _ _ _ _ (by decide)]; decide
  have q : payloadOf (answer p) = ansMsg ++ (portIdentity p ++ fcsOf (ansEth ++ (ansMsg ++ portIdentity p))) := by
    rw [answer, List.append_assoc, payload_answer, List.append_assoc]
  have r := answer_reads (portIdentity p ++ fcsOf (ansEth ++ (ansMsg ++ portIdentity p)))
  have c : fcsOk (answer p) = true := fcs_ok _
  simp [ptpArrives, h, e, n, q, c, r.2.2.2.2.1, r.2.2.2.2.2]

theorem answer_is_taken (p : Nat) (s : State) (h : (getAt s.net.ports p).pdSeq = 4) (d : cfgN Ent.PTP_DOMAIN_P s = 0) :
    payloadOf (bodyOf (answer p)) = ansMsg ++ portIdentity p ∧ answers p (payloadOf (bodyOf (answer p))) s = true := by
  have b : payloadOf (bodyOf (answer p)) = ansMsg ++ portIdentity p := by rw [answer, body_of_fcs, payload_answer]
  have r := answer_reads (portIdentity p)
  have l : ansMsg.length = 44 := by decide
  refine ⟨b, ?_⟩
  simp [answers, b, r.1, r.2.1, h, d, slice, l, List.take_of_length_le, identity_length]

theorem test_meets_PeerDelayMakesPortsCapable_answered :
    let s : State := exchanging false 2 1 true
    let m := payloadOf (bodyOf (answer 0))
    (live s = true ∧ ptpArrives 3 0 (answer 0) s = true ∧ (getAt s.net.ports 0).pdOut = true ∧ answers 0 m s = true ∧
      (getAt s.net.ports 0).pdAt = some 19999000000 ∧ ptpTwoStep m = false ∧
      linkDelay 19999000000 19999001000 m [] ≤ cfgN Ent.PTP_LINK_DELAY_MAX s ∧
      cfgN Ent.PTP_LINK_DELAY_MAX s < linkDelay 19999000000 20000000000 m []) ∧
    live onNet = true ∧ ptpArrives 3 0 (answer 0) onNet = true ∧ (getAt onNet.net.ports 0).pdOut = false := by
  have c := answer_is_taken 0 (exchanging false 2 1 true) (by decide +kernel) (by decide +kernel)
  have r := answer_reads (portIdentity 0)
  have a : linkDelay 19999000000 19999001000 (ansMsg ++ portIdentity 0) [] = 500 := by
    simp only [linkDelay, r.2.2.2.1, r.2.2.1]; decide
  have b : linkDelay 19999000000 20000000000 (ansMsg ++ portIdentity 0) [] = 500000 := by
    simp only [linkDelay, r.2.2.2.1, r.2.2.1]; decide
  refine ⟨⟨by decide +kernel, answer_arrives 0 _ (by decide +kernel), by decide +kernel, c.2, by decide +kernel, ?_, ?_, ?_⟩,
    by decide +kernel, answer_arrives 0 _ (by decide +kernel), by decide +kernel⟩
  · simp only [c.1, r.2.2.2.1]
  · simp only [c.1, a]; decide +kernel
  · simp only [c.1, b]; decide +kernel

/-- What FramesAreForwarded asks of a frame to a station that is not the module. -/
def forwardable (f : List Byte) : Bool :=
  let b := bodyOf f
  live onNet && portUp 1 onNet && f.length == 64 && fcsOk f && !isLinkLocal (dstOf b) && etOf b != 0x8808 && !ownPtp b &&
    cfg Ent.NET_SVC_IP onNet == 0 && bitOf (cfgN Ent.NET_FWD_EN onNet) 0 && srcOf b != dstOf b && learnedOn .a (dstOf b) onNet != some 1 &&
    portUp (otherPort 1) onNet && portIdle (otherPort 1) b onNet && !isGroup (srcOf b) && ((fdb .a onNet).filter (·.mac != srcOf b)).length < 1024

theorem test_meets_FramesAreForwarded_onward :
    ∃ f, forwardable f = true ∧ forEndpoint (dstOf (bodyOf f)) onNet = false := by
  have a : forwardable (frameTo 0x020000000001) = true := by decide +kernel
  have b : forwardable (frameTo 0x020000000003) = true := by decide +kernel
  have da : dstOf (bodyOf (frameTo 0x020000000001)) = [2#8, 0#8, 0#8, 0#8, 0#8, 1#8] := by decide +kernel
  have db : dstOf (bodyOf (frameTo 0x020000000003)) = [2#8, 0#8, 0#8, 0#8, 0#8, 3#8] := by decide +kernel
  have ow : ownsSvc onNet = false := by decide +kernel
  have ga : isGroup [2#8, 0#8, 0#8, 0#8, 0#8, 1#8] = false := by decide +kernel
  have gb : isGroup [2#8, 0#8, 0#8, 0#8, 0#8, 3#8] = false := by decide +kernel
  by_cases h : [2#8, 0#8, 0#8, 0#8, 0#8, 1#8] = Config.mac
  · refine ⟨_, b, ?_⟩
    rw [db]
    simp only [forEndpoint, ow, gb, Bool.false_and, Bool.or_false, beq_eq_false_iff_ne, ne_eq, ← h]
    decide
  · refine ⟨_, a, ?_⟩
    rw [da]
    simp [forEndpoint, ow, ga, h]

/-- The CRC of block 0 stands in a delta's table. -/
theorem stored_crc (n c : Nat) (h : c < 2 ^ 32) (rest : List Byte) : fieldU (deltaHead n c ++ rest) 64 4 = c := by
  have e : deltaHead n c ++ rest =
      (List.replicate 52 0#8 ++ toBytes 2 n ++ List.replicate 10 0#8) ++ (toBytes 4 c ++ (toBytes 4 (64 + 8 * n) ++ rest)) := by
    simp [deltaHead]
  have l : (List.replicate 52 0#8 ++ toBytes 2 n ++ List.replicate 10 0#8).length = 64 := by simp [toBytes]
  rw [e, fieldU, slice, List.drop_append_of_le_length (by omega), ← l, List.drop_length]
  simp [toBytes, ofBytes]
  omega

theorem delta_crc (n : Nat) : crc32c fill = fieldU (delta n) 64 4 := by
  simp only [delta, List.append_assoc]
  exact (stored_crc n (crc32c fill) (BitVec.isLt _) _).symm

theorem test_meets_FirmwareUpdateAdvances_good :
    let s := applying false false 1
    (live s = true ∧ s.fw.state = .applying ∧ s.sys.imageOk = true ∧ tierAtLeast .limited s = true ∧ s.fw.abort = false ∧ s.fw.block = 0) ∧
    (deltaBlock 0 s).length = 4096 ∧ crc32c fill = fieldU s.fw.delta 64 4 := by
  have b : deltaBlock 0 (applying false false 1) = fill := by decide +kernel
  exact ⟨by decide +kernel, by rw [b]; decide +kernel, delta_crc 1⟩

end Sys2Proof.Tests
end

section
/-! PROOFS. Rules shared by the statements: codes raised and cleared, resets, frames, and the fence of an island. -/
namespace Sys2Proof.Proofs
open Sys2Proof Sys2Proof.Machine Sys2Proof.Laws

/-! ### Fixed vectors -/

theorem getAt_setAt_same {α : Type} {n i : Nat} [Inhabited α] (v : Vector α n) (x : α) (h : i < n) : getAt (setAt v i x) i = x := by
  simp [getAt, setAt, h]

theorem getAt_modAt_same {α : Type} {n i : Nat} [Inhabited α] (v : Vector α n) (f : α → α) (h : i < n) :
    getAt (modAt v i f) i = f (getAt v i) := getAt_setAt_same v _ h

/-! ### How an effect runs -/

theorem keep_of_store {f : State → State} {s : State} (h : (f s).store = s.store) : keep f s = f s := by rw [keep, ← h]

theorem guardOn_true {p : Bool} (h : p = true) (f : State → State) (s : State) : guardOn p f s = f s := if_pos h

theorem guardOn_false {p : Bool} (h : p = false) (f : State → State) (s : State) : guardOn p f s = s := if_neg (by simp [h])

/-- What every effect of a list leaves, the list leaves. -/
theorem forAll_eq {α β : Type} (g : State → β) (xs : List α) (f : α → State → State) (h : ∀ x s, g (f x s) = g s) (s : State) :
    g (forAll xs f s) = g s := by
  unfold forAll
  induction xs generalizing s with
  | nil => rfl
  | cons x xs ih => exact (ih _).trans (h x s)

/-- A command whose effect changes nothing sends nothing. -/
theorem sends_whenLiveK {i : Instr} {f : State → State} {s : State} (he : exec i s = whenLiveK f s) (hl : live s = true)
    (h : f s.begin = s.begin) : Sends i s [] :=
  he.trans ((whenLiveK_next hl).trans (by rw [h]; rfl))

theorem sends_whenLive {i : Instr} {f : State → State} {s : State} (he : exec i s = whenLive f s) (hl : live s = true)
    (h : f s.begin = s.begin) : Sends i s [] :=
  he.trans ((whenLive_next hl).trans (by rw [h]; rfl))

/-! ### Codes raised and cleared -/

theorem raiseF_eq (c k : Nat) (s : State) : ∃ f, raiseF c k s = { s with flt := f } := by
  unfold raiseF raiseAt
  split
  · exact ⟨_, rfl⟩
  · exact ⟨_, rfl⟩

@[simp] theorem raiseF_sys (c k : Nat) (s : State) : (raiseF c k s).sys = s.sys := only_raiseF c k s .sys (by decide)
@[simp] theorem raiseF_sup (c k : Nat) (s : State) : (raiseF c k s).sup = s.sup := only_raiseF c k s .sup (by decide)
@[simp] theorem raiseF_mem (c k : Nat) (s : State) : (raiseF c k s).mem = s.mem := only_raiseF c k s .mem (by decide)
@[simp] theorem raiseF_fw (c k : Nat) (s : State) : (raiseF c k s).fw = s.fw := only_raiseF c k s .fw (by decide)
@[simp] theorem clearF_mem (c k : Nat) (s : State) : (clearF c k s).mem = s.mem := only_clearF c k s .mem (by decide)

theorem isActive_of_flt {s t : State} (h : t.flt = s.flt) (c k : Nat) : isActive c k t = isActive c k s := by
  simp only [isActive, h]

theorem isActive_iff {c k : Nat} {s : State} : isActive c k s = true ↔ ∃ a ∈ s.flt.active, a.code = c ∧ a.inst = k := by
  simp [isActive]

/-- Raising a code ends no other. -/
theorem isActive_raiseF_of_active {c k : Nat} (c' k' : Nat) {s : State} (h : isActive c k s = true) :
    isActive c k (raiseF c' k' s) = true := by
  obtain ⟨a, ha, hc, hk⟩ := isActive_iff.1 h
  unfold raiseF raiseAt
  split
  · refine isActive_iff.2 ⟨_, List.mem_map_of_mem ha, ?_⟩
    split <;> exact ⟨hc, hk⟩
  · exact isActive_iff.2 ⟨a, List.mem_append_left _ ha, hc, hk⟩

/-- Clearing a code leaves every other one as it is. -/
theorem isActive_clearF_other {c k c' k' : Nat} (h : c ≠ c' ∨ k ≠ k') (s : State) :
    isActive c k (clearF c' k' s) = isActive c k s := by
  unfold clearF
  split
  · rw [Bool.eq_iff_iff, isActive_iff, isActive_iff]
    simp only [List.mem_filter]
    grind
  · rfl

/-! ### Resets -/

theorem resetModule_sys (c : ResetCause) (s : State) : (resetModule c s).sys = (coldState (recordCause c s)).sys := by
  unfold resetModule
  dsimp only
  split
  · exact raiseF_sys ..
  · rfl

@[simp] theorem resetModule_phase (c : ResetCause) (s : State) : (resetModule c s).sys.phase = .off := by rw [resetModule_sys]; rfl
@[simp] theorem resetModule_cause (c : ResetCause) (s : State) : (resetModule c s).sys.cause = c := by rw [resetModule_sys]; rfl
@[simp] theorem resetModule_resets (c : ResetCause) (s : State) : (resetModule c s).sys.resets = incSat32 s.sys.resets := by
  rw [resetModule_sys]; rfl
@[simp] theorem resetModule_resetAt (c : ResetCause) (s : State) : (resetModule c s).sys.resetAt = s.now := by rw [resetModule_sys]; rfl

/-- A reset keeps what R246 says of the configuration. -/
@[simp] theorem resetModule_store (c : ResetCause) (s : State) : (resetModule c s).store = keptStore s := by
  unfold resetModule
  dsimp only
  split
  · exact raiseF_store ..
  · rfl

/-- After a reset no code is active, but for the one of an update that was on probation (R392). -/
theorem resetModule_active (c : ResetCause) {s : State} (h : s.fw.state ≠ .probation) : (resetModule c s).flt.active = [] := by
  unfold resetModule
  dsimp only
  rw [if_neg (by simpa using h)]
  rfl

/-! ### Fences -/

theorem isFenced_of_sup {s t : State} (h : t.sup = s.sup) (i : Island) : isFenced i t = isFenced i s := by simp only [isFenced, h]

theorem get_close_same (f : Fences) (i : Island) : (f.close i).get i = true := by cases i <;> rfl

theorem get_close_other (f : Fences) {i k : Island} (h : k ≠ i) : (f.close i).get k = f.get k := by
  cases i <;> cases k <;> first | rfl | exact absurd rfl h

theorem only_settleSq (b : Nat) (s : State) : Only [.dio, .link] s (settleSq b s) := by
  unfold settleSq
  extract_lets after changed drops marked dio ended
  have hmarked : Only [.dio] s marked :=
    only_forAll _ _ _ (fun k s p hp => by cases p <;> first | rfl | exact absurd (by simp) hp) s
  have hended : Only [.dio] marked ended := by
    unfold ended
    split
    · split
      · exact fun p hp => by cases p <;> first | rfl | exact absurd (by simp) hp
      · exact only_refl _ _
    · exact only_refl _ _
  refine only_trans (only_mono (only_trans hmarked hended) (by simp)) ?_
  split
  · exact only_refl _ _
  · exact fun p hp => by cases p <;> first | rfl | exact absurd (by simp) hp

theorem only_withSq {ps : List Part} {f : State → State} {s : State} (h : Only ps s (f s)) : Only (.dio :: .link :: ps) s (withSq f s) :=
  only_trans (only_mono h (by simp +contextual)) (only_mono (only_keep (only_settleSq _ _)) (by simp +contextual))

theorem only_assertSelect (l : Option Lane) (s : State) : Only [.link] s (assertSelect l s) := fun p hp => by
  unfold assertSelect
  dsimp only
  split <;> cases p <;> first | rfl | exact absurd (by simp) hp

theorem only_leaveActive (s : State) : Only [.link, .pair, .recd] s (leaveActive s) :=
  only_trans (t := { endHold s with pair := { s.pair with role := .fenced, laneHeld := false, request := .none, handing := false } })
    (fun p hp => by cases p <;> first | rfl | exact absurd (by simp) hp) (only_mono (only_assertSelect _ _) (by simp))

theorem only_resign (s : State) : Only [.dio, .link, .pair, .recd] s (resign s) := by
  unfold resign
  split
  · exact only_refl _ _
  · split
    · exact fun p hp => by cases p <;> first | rfl | exact absurd (by simp) hp
    · exact only_mono (only_withSq (only_leaveActive s)) (by simp +contextual)

theorem only_unitsOff (s : State) : Only [.link] s (unitsOff s) :=
  only_forAll _ _ _ (fun u s p hp => by cases p <;> first | rfl | exact absurd (by simp) hp) s

theorem only_stopTo (m : Mode) (s : State) : Only [.link, .sp] s (stopTo m s) :=
  only_trans (only_mono (only_unitsOff s) (by simp)) fun p hp => by cases p <;> first | rfl | exact absurd (by simp) hp

theorem only_toStandbyNow (s : State) : Only [.link, .sp] s (toStandbyNow s) := by
  unfold toStandbyNow
  split
  · exact only_stopTo _ s
  · exact only_refl _ _

theorem only_chainFailed (s : State) : Only [.chain, .cells] s (chainFailed s) := by
  unfold chainFailed
  refine only_trans (fun p hp => ?_) (only_forAll _ _ _ (fun h s p hp => ?_) _) <;>
    cases p <;> first | rfl | exact absurd (by simp) hp

theorem only_lossBegins (k : ExtSource) (s : State) : Only [.sp] s (lossBegins k s) := fun p hp => by
  cases k <;> cases p <;> first | rfl | exact absurd (by simp) hp

/-! ### The reference of plant time -/

/-- A change of plant time: only the clock's registers and the faults differ, and no code but 0x7011 and 0x7013 has ended. -/
def ClockOnly (s t : State) : Prop :=
  Only [.flt, .locked, .ptp] s t ∧ ∀ c k, c ≠ 0x7011 → c ≠ 0x7013 → isActive c k s = true → isActive c k t = true

theorem clockOnly_refl (s : State) : ClockOnly s s := ⟨only_refl _ _, fun _ _ _ _ h => h⟩

theorem clockOnly_trans {s t u : State} (h : ClockOnly s t) (k : ClockOnly t u) : ClockOnly s u :=
  ⟨only_trans h.1 k.1, fun c i h11 h13 hi => k.2 c i h11 h13 (h.2 c i h11 h13 hi)⟩

theorem clockOnly_regs (l : Bool) (p : PtpRegs) (s : State) : ClockOnly s { s with locked := l, ptp := p } :=
  ⟨fun q hq => by cases q <;> first | rfl | exact absurd (by simp) hq, fun _ _ _ _ h => h⟩

theorem clockOnly_raiseF (c k : Nat) (s : State) : ClockOnly s (raiseF c k s) :=
  ⟨only_mono (only_raiseF _ _ _) (by simp), fun _ _ _ _ h => isActive_raiseF_of_active _ _ h⟩

theorem clockOnly_clearF {c : Nat} (hc : c = 0x7011 ∨ c = 0x7013) (k : Nat) (s : State) : ClockOnly s (clearF c k s) :=
  ⟨only_mono (only_clearF _ _ _) (by simp), fun c' k' h11 h13 h => (isActive_clearF_other (.inl (by omega)) s).trans h⟩

theorem clockOnly_setPtp (x : PtpState) (s : State) : ClockOnly s (setPtp x s) := by
  cases x with
  | free => exact clockOnly_regs _ _ s
  | locked => exact clockOnly_trans (clockOnly_regs _ _ s) (clockOnly_clearF (.inr rfl) _ _)
  | slewing =>
    unfold setPtp
    dsimp only
    split <;> exact clockOnly_regs _ _ s
  | holdover => exact clockOnly_trans (clockOnly_regs _ _ s) (clockOnly_raiseF _ _ _)

theorem clockOnly_takeRef (i : Nat) (s : State) : ClockOnly s (takeRef i s) := by
  unfold takeRef
  dsimp only
  split
  · exact clockOnly_trans (clockOnly_trans (clockOnly_regs _ _ s) (clockOnly_raiseF _ _ _)) (clockOnly_setPtp _ _)
  · exact clockOnly_trans (clockOnly_trans (clockOnly_regs _ _ s) (clockOnly_clearF (.inl rfl) _ _)) (clockOnly_setPtp _ _)

theorem clockOnly_trackUsable (s : State) : ClockOnly s (trackUsable s) := by
  have h : Only [.ptp] s (trackUsable s) :=
    only_forAll _ _ _ (fun i s p hp => by cases p <;> first | rfl | exact absurd (by simp) hp) s
  exact ⟨only_mono h (by simp), fun c k _ _ hi => (isActive_of_flt (h .flt (by decide)) c k).trans hi⟩

theorem clockOnly_chooseRef (s : State) : ClockOnly s (chooseRef s) := by
  refine clockOnly_trans (clockOnly_trackUsable s) ?_
  unfold chooseRef
  generalize trackUsable s = t
  extract_lets _ stays u
  cases stays with
  | true => exact clockOnly_refl t
  | false =>
    simp only [Bool.false_eq_true, if_false]
    split
    · exact clockOnly_takeRef _ t
    · split
      · exact clockOnly_trans (clockOnly_regs _ _ t) (clockOnly_setPtp _ _)
      · exact clockOnly_regs _ _ t

/-! ### The fence of an island -/

/-- Nothing is let out of its fence: the supervision registers are as before, and no code but 0x7011 and 0x7013 has ended. -/
def FencesStand (s t : State) : Prop :=
  t.sup = s.sup ∧ ∀ c k, c ≠ 0x7011 → c ≠ 0x7013 → isActive c k s = true → isActive c k t = true

theorem fencesStand_refl (s : State) : FencesStand s s := ⟨rfl, fun _ _ _ _ h => h⟩

theorem fencesStand_trans {s t u : State} (h : FencesStand s t) (k : FencesStand t u) : FencesStand s u :=
  ⟨k.1.trans h.1, fun c i h11 h13 hi => k.2 c i h11 h13 (h.2 c i h11 h13 hi)⟩

theorem fencesStand_of_only {ps : List Part} {s t : State} (h : Only ps s t) (hs : .sup ∉ ps) (hf : .flt ∉ ps) : FencesStand s t :=
  ⟨h .sup hs, fun c k _ _ hi => (isActive_of_flt (h .flt hf) c k).trans hi⟩

theorem fencesStand_of_clockOnly {s t : State} (h : ClockOnly s t) : FencesStand s t := ⟨h.1 .sup (by decide), h.2⟩

theorem fencesStand_resign (s : State) : FencesStand s (resign s) := fencesStand_of_only (only_resign s) (by decide) (by decide)

/-- What a fence does besides closing its gate lets nothing out (Table 19-2). -/
theorem fenceEffect_fencesStand (i : Island) (s : State) : FencesStand s (fenceEffect i s) := by
  cases i with
  | p => exact fencesStand_refl s
  | h =>
    unfold fenceEffect
    dsimp only
    split
    · exact fencesStand_resign s
    · split <;> exact ⟨rfl, fun _ _ _ _ h => h⟩
  | c =>
    exact fencesStand_trans (fencesStand_of_only (only_toStandbyNow s) (by decide) (by decide))
      (fencesStand_of_only (only_assertSelect _ _) (by decide) (by decide))
  | e => exact fencesStand_refl s
  | m => exact fencesStand_trans (fencesStand_of_only (only_chainFailed s) (by decide) (by decide)) (fencesStand_resign _)
  | n =>
    unfold fenceEffect ptpFenced
    dsimp only
    refine fencesStand_trans ?_ (fencesStand_of_clockOnly (clockOnly_chooseRef _))
    have h : Only [.net] s (forAll [0, 1, 2, 3] (fun p s => modPort p (fun x => { x with queue := [] }) s) s) :=
      only_forAll _ _ _ (fun i s p hp => by cases p <;> first | rfl | exact absurd (by simp) hp) s
    generalize forAll [0, 1, 2, 3] (fun p s => modPort p (fun x => { x with queue := [] }) s) s = t at h ⊢
    exact fencesStand_of_only (ps := [.net]) (only_trans h fun p hp => by cases p <;> first | rfl | exact absurd (by simp) hp)
      (by decide) (by decide)
  | s => exact fencesStand_trans (t := { s with saf := _, link := _ }) ⟨rfl, fun _ _ _ _ h => h⟩ (fencesStand_resign _)
  | f =>
    exact fencesStand_trans (fencesStand_of_only (only_lossBegins .pi s) (by decide) (by decide))
      (fencesStand_of_only (only_lossBegins .ai _) (by decide) (by decide))
  | b => exact fencesStand_refl s
  | j => exact fencesStand_trans (t := { s with recd := _ }) ⟨rfl, fun _ _ _ _ h => h⟩ (fencesStand_resign _)

/-- The fence of an island other than P closes its gate and no other, raises 0x1010 for it, and ends no code but 0x7011 and 0x7013
(R21, R428). -/
theorem fenceIsland_contains {i : Island} (hp : i ≠ .p) (code : Nat) {s : State} (hi : isFenced i s = false) :
    isFenced i (fenceIsland i code s) = true ∧ isActive 0x1010 (islandNo i) (fenceIsland i code s) = true ∧
    (∀ k, k ≠ i → isFenced k (fenceIsland i code s) = isFenced k s) ∧
    ∀ c k, c ≠ 0x7011 → c ≠ 0x7013 → isActive c k s = true → isActive c k (fenceIsland i code s) = true := by
  have e : fenceIsland i code s = withSq (fun s => fenceEffect i (raiseF 0x1010 (islandNo i) (markFence i code s))) s := by
    cases i with
    | p => exact absurd rfl hp
    | h | c | e | m | n | s | f | b | j => simp [fenceIsland, hi]
  obtain ⟨hsup, hact⟩ : FencesStand (raiseF 0x1010 (islandNo i) (markFence i code s)) (fenceIsland i code s) := by
    rw [e]
    exact fencesStand_trans (fenceEffect_fencesStand i _)
      (fencesStand_of_only (only_keep (only_settleSq _ _)) (by decide) (by decide))
  have hget (k : Island) : isFenced k (fenceIsland i code s) = (s.sup.fenced.close i).get k := by
    simp only [isFenced, hsup, raiseF_sup]; rfl
  refine ⟨(hget i).trans (get_close_same _ i), hact _ _ (by decide) (by decide) (isActive_raiseF _ _ _),
    fun k hk => (hget k).trans (get_close_other _ hk), fun c k h11 h13 h => hact c k h11 h13 (isActive_raiseF_of_active _ _ h)⟩

end Sys2Proof.Proofs
end

section
/-! PROOFS. The scrubber: a block that is read, mended, counted or contained, and the laps. -/
namespace Sys2Proof.Proofs
open Sys2Proof Sys2Proof.Machine Sys2Proof.Laws

/-! ### Regions -/

theorem region_of_mem {s t : State} (h : t.mem = s.mem) (r : Nat) : region r t = region r s := by simp only [region, h]

theorem region_modRegion_same {r : Nat} (f : Region → Region) (s : State) (hr : r < 13) :
    region r (modRegion r f s) = f (region r s) := getAt_modAt_same _ _ hr

theorem only_modRegion (r : Nat) (f : Region → Region) (s : State) : Only [.mem] s (modRegion r f s) := fun p hp => by
  cases p <;> first | rfl | exact absurd (by simp) hp

/-- A correction in a row changes the hits, the soft map, the count of pending rows and the faults, and nothing else. -/
theorem rowCorrected_eq (r o : Nat) (s : State) : ∃ rows soft pend f,
    rowCorrected r o s = { s with mem := { s.mem with rows := rows, softMap := soft, pending := pend }, flt := f } := by
  unfold rowCorrected
  extract_lets mac row lap hits h u
  split
  · exact ⟨_, _, _, _, rfl⟩
  · split
    · exact ⟨_, _, _, _, (raiseF_eq _ _ _).choose_spec⟩
    · exact ⟨_, _, _, _, (raiseF_eq _ _ _).choose_spec⟩

/-! ### A block that is read -/

/-- A region whose correction of a kind has been counted at an instant (R400). -/
def counted (k : MemErr) (now : Nat) (x : Region) : Region :=
  { x with
    corrected := if k == .data then incSat32 x.corrected else x.corrected
    checkbit := if k == .check then incSat32 x.checkbit else x.checkbit
    recent := now :: x.recent.filter fun t => t + 3600000000000 > now }

/-- A counted correction changes its region, MEM_LAST_ERROR, what the rows show, and the faults. -/
theorem countCorrection_eq (k : MemErr) (r o : Nat) (s : State) : ∃ rows soft pend f,
    countCorrection k r o s = { s with
      mem := { (lastError k r o (modRegion r (counted k s.now) s)).mem with rows := rows, softMap := soft, pending := pend }
      flt := f } := by
  unfold countCorrection
  extract_lets hour s1 s2 s3
  obtain ⟨f, h3⟩ : ∃ f, s3 = { s2 with flt := f } := by
    unfold s3
    split
    · exact raiseF_eq ..
    · exact ⟨_, rfl⟩
  have e2 : s2 = lastError k r o (modRegion r (counted k s.now) s) := rfl
  split
  · obtain ⟨rows, soft, pend, g, h⟩ := rowCorrected_eq r o s3
    rw [h, h3, e2]
    exact ⟨_, _, _, _, rfl⟩
  · rw [h3, e2]
    exact ⟨_, _, _, _, rfl⟩

/-- The engine of a region has gone on to its next block at instant t, with nothing sent yet. -/
def walked (r t : Nat) (s : State) : State := walkOn r (atTime t s.begin)

theorem region_walked {r : Nat} (t : Nat) (s : State) (hr : r < 13) :
    region r (walked r t s) = { region r s with walk := (region r s).walk + 1, readAt := some (max s.now t) } :=
  region_modRegion_same _ _ hr

theorem only_walked (r t : Nat) (s : State) : Only [.now, .mem] s.begin (walked r t s) := fun p hp => by
  cases p <;> first | rfl | exact absurd (by simp) hp

/-- SCRUB_STEP where the engine's read is not due. -/
theorem exec_scrubStep_notDue {r : Fin 13} {t : Nat} {s : State} (raw again : List Byte) (hl : live s = true)
    (h : readDue r.val (atTime t s) = false) : exec (.scrubStep r t raw again) s = .next { s with out := [] } := by
  have e : scrubStep r.val t raw again s.begin = s.begin := if_neg (Bool.eq_false_iff.1 h)
  exact (whenLive_next hl).trans (by rw [e]; rfl)

/-- SCRUB_STEP where it is due: the block is judged, then contained. -/
theorem exec_scrubStep_due {r : Fin 13} {t : Nat} {s : State} (raw again : List Byte) (hl : live s = true)
    (h : readDue r.val (atTime t s) = true) :
    exec (.scrubStep r t raw again) s = .next (s.keepQueue (containBlock r.val raw
      (keep (scrubBlock r.val (8 * (region r.val s).walk) raw again) (walked r.val t s)))) := by
  have e : scrubStep r.val t raw again s.begin = containBlock r.val raw
      (keep (scrubBlock r.val (8 * (region r.val s).walk) raw again) (walked r.val t s)) := if_pos h
  exact (whenLive_next hl).trans (by rw [e])

theorem ends_scrubStep {r : Fin 13} {t : Nat} {s : State} {raw again : List Byte} {ps : List Part} {P : State → Prop}
    (hl : live s = true) (h : readDue r.val (atTime t s) = true) {u : State}
    (hu : containBlock r.val raw (keep (scrubBlock r.val (8 * (region r.val s).walk) raw again) (walked r.val t s)) = u)
    (ho : Only ps s.begin u) (hp : P (s.keepQueue u)) : Ends (.scrubStep r t raw again) s ps P :=
  ⟨_, hu ▸ exec_scrubStep_due raw again hl h, fun p hq => by cases p <;> first | exact ho _ hq | rfl, hp⟩

theorem scrubBlock_good {raw : List Byte} (h : (decodeBlock raw).1 = .none) (r o : Nat) (again : List Byte) (s : State) :
    scrubBlock r o raw again s = s := by
  unfold scrubBlock
  split
  · rfl
  · simp_all
  · simp_all

theorem scrubBlock_uncorrectable {raw : List Byte} (h : (decodeBlock raw).1 = .uncorrectable) (r o : Nat) (again : List Byte) (s : State) :
    scrubBlock r o raw again s = uncorrectable r o s := by
  unfold scrubBlock
  split
  · simp_all
  · rfl
  · simp_all

/-- A block that can be mended is written back where the second read still shows the error, and counted. -/
theorem scrubBlock_mended {raw : List Byte} {k : MemErr} (hk : (decodeBlock raw).1 = k) (hn : k ≠ .none) (hu : k ≠ .uncorrectable)
    (r o : Nat) {s : State} (hj : isFenced .j s = false) :
    scrubBlock r o raw raw s = countCorrection k r o (if r < 11 then emit (.memWrite r o (decodeBlock raw).2) s else s) := by
  have hf (m : List Byte) : isFenced .j (if r < 11 then emit (.memWrite r o m) s else s) = false := by split <;> exact hj
  unfold scrubBlock
  split
  · simp_all
  · simp_all
  · simp_all

theorem containBlock_mended {raw : List Byte} (h : (decodeBlock raw).1 ≠ .uncorrectable) (r : Nat) (s : State) :
    containBlock r raw s = s := by simp [containBlock, h]

/-- The state in which a mended block is counted: an SRAM or MRAM block has been written back (R400). -/
def blockMended (r t : Nat) (raw : List Byte) (s : State) : State :=
  if r < 11 then emit (.memWrite r (8 * (region r s).walk) (decodeBlock raw).2) (walked r t s) else walked r t s

theorem blockMended_leaves (r t : Nat) (raw : List Byte) (s : State) :
    Only [.now, .mem] s.begin (blockMended r t raw s) ∧ (blockMended r t raw s).mem = (walked r t s).mem ∧
    (blockMended r t raw s).now = max s.now t ∧
    (blockMended r t raw s).out = if r < 11 then [.memWrite r (8 * (region r s).walk) (decodeBlock raw).2] else [] := by
  unfold blockMended
  split
  · exact ⟨only_trans (only_walked r t s) (only_mono (only_emit _ _) (by simp)), rfl, rfl, rfl⟩
  · exact ⟨only_walked r t s, rfl, rfl, rfl⟩

/-- A block that can be mended is counted in its region and in MEM_LAST_ERROR (R400, R405). -/
theorem blockMended_counted {r : Nat} {t : Nat} {raw : List Byte} {k : MemErr} {s : State} (hr : r < 13) (hk : (decodeBlock raw).1 = k)
    (hn : k ≠ .none) (hu : k ≠ .uncorrectable) (hj : isFenced .j s = false) :
    let o := 8 * (region r s).walk
    ∃ u, containBlock r raw (keep (scrubBlock r o raw raw) (walked r t s)) = u ∧ Only [.now, .mem, .flt] s.begin u ∧
      u.out = (if r < 11 then [.memWrite r o (decodeBlock raw).2] else []) ∧
      region r u = counted k (max s.now t) { region r s with walk := (region r s).walk + 1, readAt := some (max s.now t) } ∧
      u.mem.lastKind = k ∧ u.mem.lastRegion = r ∧ u.mem.lastOffset = o ∧ u.mem.lastTime = max s.now t := by
  obtain ⟨honly, hmem, hnow, hout⟩ := blockMended_leaves r t raw s
  obtain ⟨rows, soft, pend, f, h⟩ := countCorrection_eq k r (8 * (region r s).walk) (blockMended r t raw s)
  have hw : isFenced .j (walked r t s) = false := (isFenced_of_sup (only_walked r t s .sup (by decide)) .j).trans hj
  have hstep := (scrubBlock_mended hk hn hu r (8 * (region r s).walk) hw).trans h
  have hreg : region r (modRegion r (counted k (blockMended r t raw s).now) (blockMended r t raw s)) =
      counted k (max s.now t) { region r s with walk := (region r s).walk + 1, readAt := some (max s.now t) } := by
    rw [region_modRegion_same _ _ hr, hnow, region_of_mem hmem, region_walked t s hr]
  refine ⟨_, (containBlock_mended (hk ▸ hu) r _).trans ((keep_of_store ?_).trans hstep), ?_⟩
  · rw [hstep]
    exact honly .store (by decide)
  refine ⟨only_trans (only_mono honly (by simp)) fun p hp => ?_, hout, hreg, rfl, rfl, rfl, hnow⟩
  cases p <;> first | rfl | exact absurd (by simp) hp

/-! ### A block that cannot be mended -/

theorem regionOwner_flash {r : Nat} (h : 11 ≤ r) : regionOwner r = none := by
  unfold regionOwner
  split <;> first | omega | rfl

/-- The state in which an uncorrectable block has been counted and noted (R405). -/
def blockLost (r o : Nat) (s : State) : State :=
  lastError .uncorrectable r o (modRegion r (fun x => { x with uncorr := incSat32 x.uncorr }) s)

theorem only_blockLost (r o : Nat) (s : State) : Only [.mem] s (blockLost r o s) := fun p hp => by
  cases p <;> first | rfl | exact absurd (by simp) hp

theorem region_blockLost {r : Nat} (o : Nat) (s : State) (hr : r < 13) :
    region r (blockLost r o s) = { region r s with uncorr := incSat32 (region r s).uncorr } := region_modRegion_same _ _ hr

theorem uncorrectable_owned {r : Nat} {i : Island} (h : regionOwner r = some i) (o : Nat) (s : State) :
    uncorrectable r o s = raiseF 0x1103 r (blockLost r o s) := by
  simp [uncorrectable, h, blockLost]

/-- Block n of flash bank b is noted as uncorrectable, and the bank's package as failing (R406). -/
def markBank (b n : Nat) (s : State) : State :=
  let bad := if s.mem.bankBad.contains (b, n) then s.mem.bankBad else s.mem.bankBad ++ [(b, n)]
  setValid b false { s with mem := { s.mem with bankBad := bad } }

theorem only_markBank (b n : Nat) (s : State) : Only [.mem, .fw] s (markBank b n s) := fun p hp => by
  cases p <;> first | rfl | exact absurd (by simp) hp

theorem bankValid_markBank (b n : Nat) (s : State) : bankValid b (markBank b n s) = false := by
  by_cases h : b = 0 <;> simp [markBank, setValid, bankValid, h]

theorem mem_bankBad_markBank (b n : Nat) (s : State) : (b, n) ∈ (markBank b n s).mem.bankBad := by
  simp only [markBank, setValid]
  split
  · next h => simpa using h
  · simp

theorem uncorrectable_flash {r : Nat} (hr : 11 ≤ r) (n : Nat) (s : State) :
    uncorrectable r (8 * n) s = raiseF 0x1108 wide (markBank (r - 11) n (blockLost r (8 * n) s)) := by
  simp [uncorrectable, regionOwner_flash hr, blockLost, markBank]

theorem uncorrectable_store (r o : Nat) (s : State) : (uncorrectable r o s).store = s.store := by
  unfold uncorrectable
  dsimp only
  split <;> exact raiseF_store _ _ _

theorem keep_scrubBlock_uncorrectable {raw : List Byte} (h : (decodeBlock raw).1 = .uncorrectable) (r o : Nat) (again : List Byte)
    (s : State) : keep (scrubBlock r o raw again) s = uncorrectable r o s := by
  rw [keep, scrubBlock_uncorrectable h, ← uncorrectable_store r o s]

theorem containBlock_flash {r : Nat} (h : 11 ≤ r) (raw : List Byte) (s : State) : containBlock r raw s = s := by
  simp [containBlock, regionOwner_flash h]

theorem containBlock_island {raw : List Byte} (h : (decodeBlock raw).1 = .uncorrectable) {r : Nat} {i : Island}
    (hi : regionOwner r = some i) (hp : i ≠ .p) (s : State) : containBlock r raw s = keep (fenceIsland i 0x1103) s := by
  cases i with
  | p => exact absurd rfl hp
  | h | c | e | m | n | s | f | b | j => simp [containBlock, h, hi]

theorem containBlock_p {raw : List Byte} (h : (decodeBlock raw).1 = .uncorrectable) (s : State) :
    containBlock 0 raw s = resetModule .pMemory s := by
  simp [containBlock, h, regionOwner]

theorem bankValid_of_fw {s t : State} (h : t.fw = s.fw) (b : Nat) : bankValid b t = bankValid b s := by simp only [bankValid, h]

/-- An engine that reads is in an island that is not fenced (R403). -/
theorem owner_not_fenced {r t : Nat} {i : Island} {s : State} (hd : readDue r (atTime t s) = true) (hi : regionOwner r = some i) :
    isFenced i s = false := by
  have h : isFenced i (atTime t s) = false := by
    simp only [readDue, engineRuns, hi, Bool.and_eq_true, Bool.not_eq_true'] at hd
    exact hd.1.1.1.1
  exact h

/-! ### Scrubber steps that read a block -/

section
variable {r : Fin 13} {t : Nat} {raw : List Byte} {s : State} (hl : live s = true) (hd : readDue r.val (atTime t s) = true)
include hl hd

theorem scrubStep_good (h : (decodeBlock raw).1 = .none) (again : List Byte) :
    Ends (.scrubStep r t raw again) s [.now, .mem] fun u =>
      u.out = [] ∧ region r.val u = { region r.val s with walk := (region r.val s).walk + 1, readAt := some (max s.now t) } := by
  refine ends_scrubStep hl hd (u := walked r.val t s) ?_ (only_walked _ _ _) ⟨rfl, region_walked t s r.isLt⟩
  rw [containBlock_mended (by rw [h]; decide), keep, scrubBlock_good h]

theorem scrubStep_mended {k : MemErr} (hk : (decodeBlock raw).1 = k) (hn : k ≠ .none) (hu : k ≠ .uncorrectable)
    (hj : isFenced .j s = false) :
    Ends (.scrubStep r t raw raw) s [.now, .mem, .flt] fun u =>
      u.out = (if r.val < 11 then [.memWrite r.val (8 * (region r.val s).walk) (decodeBlock raw).2] else []) ∧
      region r.val u = counted k (max s.now t)
        { region r.val s with walk := (region r.val s).walk + 1, readAt := some (max s.now t) } ∧
      u.mem.lastKind = k ∧ u.mem.lastRegion = r.val ∧ u.mem.lastOffset = 8 * (region r.val s).walk ∧
      u.mem.lastTime = max s.now t := by
  obtain ⟨u, hu, honly, hP⟩ := blockMended_counted (t := t) r.isLt hk hn hu hj
  exact ends_scrubStep hl hd hu honly hP

theorem scrubStep_flash (h : (decodeBlock raw).1 = .uncorrectable) (hr : 11 ≤ r.val) (again : List Byte) :
    Ends (.scrubStep r t raw again) s [.now, .mem, .flt, .fw] fun u =>
      (region r.val u).uncorr = incSat32 (region r.val s).uncorr ∧ isActive 0x1108 wide u = true ∧
      bankValid (r.val - 11) u = false ∧ (r.val - 11, (region r.val s).walk) ∈ u.mem.bankBad := by
  let v := markBank (r.val - 11) (region r.val s).walk (blockLost r.val (8 * (region r.val s).walk) (walked r.val t s))
  have hu : containBlock r.val raw (keep (scrubBlock r.val (8 * (region r.val s).walk) raw again) (walked r.val t s)) =
      raiseF 0x1108 wide v := by
    rw [containBlock_flash hr, keep_scrubBlock_uncorrectable h, uncorrectable_flash hr]
  have hv : Only [.now, .mem, .flt, .fw] s.begin v :=
    only_trans (only_mono (only_walked _ _ _) (by simp))
      (only_trans (only_mono (only_blockLost _ _ _) (by simp)) (only_mono (only_markBank _ _ _) (by simp)))
  have hreg : region r.val (raiseF 0x1108 wide v) = region r.val (blockLost r.val (8 * (region r.val s).walk) (walked r.val t s)) :=
    region_of_mem (raiseF_mem _ _ v) _
  refine ends_scrubStep hl hd hu (only_trans hv (only_mono (only_raiseF _ _ _) (by simp))) ⟨?_, isActive_raiseF _ _ _, ?_, ?_⟩
  · show (region r.val (raiseF 0x1108 wide v)).uncorr = _
    rw [hreg, region_blockLost _ _ r.isLt, region_walked t s r.isLt]
  · exact (bankValid_of_fw (raiseF_fw _ _ v) _).trans (bankValid_markBank _ _ _)
  · show _ ∈ (raiseF 0x1108 wide v).mem.bankBad
    rw [raiseF_mem]
    exact mem_bankBad_markBank _ _ _

theorem scrubStep_island (h : (decodeBlock raw).1 = .uncorrectable) {i : Island} (hi : regionOwner r.val = some i) (hp : i ≠ .p)
    (again : List Byte) :
    ∃ u, exec (.scrubStep r t raw again) s = .next u ∧ u.pending = s.pending ∧ u.store = s.store ∧ isFenced i u = true ∧
      isActive 0x1103 r.val u = true ∧ isActive 0x1010 (islandNo i) u = true ∧ ∀ k, k ≠ i → isFenced k u = isFenced k s := by
  let v := raiseF 0x1103 r.val (blockLost r.val (8 * (region r.val s).walk) (walked r.val t s))
  have hsup : v.sup = s.sup :=
    (raiseF_sup _ _ _).trans ((only_blockLost _ _ _ .sup (by decide)).trans (only_walked r.val t s .sup (by decide)))
  have hstore : v.store = s.store := raiseF_store _ _ _
  obtain ⟨hself, hfence, hother, hkept⟩ :=
    fenceIsland_contains hp 0x1103 ((isFenced_of_sup hsup i).trans (owner_not_fenced hd hi))
  refine ⟨_, exec_scrubStep_due raw again hl hd, rfl, ?_⟩
  rw [containBlock_island h hi hp, keep_scrubBlock_uncorrectable h, uncorrectable_owned hi]
  exact ⟨hstore, hself, hkept _ _ (by decide) (by decide) (isActive_raiseF _ _ _), hfence,
    fun k hk => (hother k hk).trans (isFenced_of_sup hsup k)⟩

theorem scrubStep_p (h : (decodeBlock raw).1 = .uncorrectable) (hr : r.val = 0) (again : List Byte) :
    ∃ u, exec (.scrubStep r t raw again) s = .next u ∧ u.pending = s.pending ∧ u.sys.phase = .off ∧ u.sys.cause = .pMemory ∧
      u.store = keptStore s := by
  refine ⟨_, exec_scrubStep_due raw again hl hd, rfl, ?_⟩
  rw [hr, containBlock_p h, keep_scrubBlock_uncorrectable h]
  refine ⟨resetModule_phase _ _, resetModule_cause _ _, (resetModule_store _ _).trans ?_⟩
  rw [keptStore, uncorrectable_store]
  rfl

end

/-! ### Laps -/

theorem only_lapEnd (r : Nat) (s : State) : Only [.mem, .flt] s (lapEnd r s) := by
  unfold lapEnd
  dsimp only
  split
  · exact only_trans (only_mono (only_modRegion _ _ _) (by simp)) (only_mono (only_clearF _ _ _) (by simp))
  · exact only_mono (only_modRegion _ _ _) (by simp)

theorem region_lapEnd {r : Nat} (s : State) (hr : r < 13) : region r (lapEnd r s) =
    { region r s with lap := (region r s).lap + 1, lapTime := (region r s).lapMs / 1000, lapMs := 0, walk := 0 } := by
  unfold lapEnd
  dsimp only
  split
  · exact (region_of_mem (clearF_mem _ _ _) r).trans (region_modRegion_same _ s hr)
  · exact region_modRegion_same _ s hr

/-- A lap within its limit ends 0x1104 (R403). -/
theorem lapEnd_inTime {r : Nat} {s : State} (h : (region r s).lapMs / 1000 ≤ lapLimit r s) : isActive 0x1104 r (lapEnd r s) = false := by
  have e : lapEnd r s = clearF 0x1104 r (modRegion r _ s) := if_pos h
  rw [e]
  exact isActive_clearF _ _ _

theorem exec_lapEnd (r : Fin 13) (s : State) : exec (.lapEnd r) s =
    whenLiveK (fun s => guardOn (!isFenced .j s && regionBlocks r.val ≤ (region r.val s).walk) (lapEnd r.val) s) s := rfl

theorem exec_lapLate (r : Fin 13) (s : State) : exec (.lapLate r) s =
    whenLiveK (fun s => guardOn (!isFenced .j s && lapLimit r.val s * 1000 < (region r.val s).lapMs) (raiseF 0x1104 r.val) s) s := rfl

section
variable {r : Fin 13} {s : State} (hl : live s = true)
include hl

theorem ends_lapEnd (hj : isFenced .j s = false) (h : regionBlocks r.val ≤ (region r.val s).walk) :
    Ends (.lapEnd r) s [.mem, .flt] fun u =>
      region r.val u = { region r.val s with
        lap := (region r.val s).lap + 1, lapTime := (region r.val s).lapMs / 1000, lapMs := 0, walk := 0 } ∧
      ((region r.val s).lapMs / 1000 ≤ lapLimit r.val s → isActive 0x1104 r.val u = false) := by
  have hg : (!isFenced .j s.begin && decide (regionBlocks r.val ≤ (region r.val s.begin).walk)) = true := by
    rw [Bool.and_eq_true]
    exact ⟨by rw [Bool.not_eq_true']; exact hj, decide_eq_true h⟩
  refine ends_whenLiveK (exec_lapEnd r s) hl (only_guardOn _ _ (only_lapEnd _ _)) ?_
  simp only [guardOn_true hg]
  exact ⟨region_lapEnd s.begin r.isLt, fun h => lapEnd_inTime (s := s.begin) h⟩

theorem sends_lapEnd (h : (region r.val s).walk < regionBlocks r.val) : Sends (.lapEnd r) s [] := by
  refine sends_whenLiveK (exec_lapEnd r s) hl (guardOn_false ?_ _ _)
  rw [Bool.and_eq_false_iff]
  exact .inr (decide_eq_false (Nat.not_le.2 h))

theorem ends_lapLate (hj : isFenced .j s = false) (h : lapLimit r.val s * 1000 < (region r.val s).lapMs) :
    Ends (.lapLate r) s [.flt] fun u => isActive 0x1104 r.val u = true := by
  have hg : (!isFenced .j s.begin && decide (lapLimit r.val s.begin * 1000 < (region r.val s.begin).lapMs)) = true := by
    rw [Bool.and_eq_true]
    exact ⟨by rw [Bool.not_eq_true']; exact hj, decide_eq_true h⟩
  refine ends_whenLiveK (exec_lapLate r s) hl (only_guardOn _ _ (only_raiseF _ _ _)) ?_
  simp only [guardOn_true hg]
  exact isActive_raiseF _ _ s.begin

theorem sends_lapLate (h : (region r.val s).lapMs ≤ lapLimit r.val s * 1000) : Sends (.lapLate r) s [] := by
  refine sends_whenLiveK (exec_lapLate r s) hl (guardOn_false ?_ _ _)
  rw [Bool.and_eq_false_iff]
  exact .inr (decide_eq_false (Nat.not_lt.2 h))

end

/-- Settles O53: one lemma for each outcome of a block, and one for each side of the two lap events. -/
theorem scrubberCorrectsAndContains : Obligations.ScrubberCorrectsAndContains := by
  intro r t raw s hl hj
  refine ⟨fun again h => exec_scrubStep_notDue raw again hl h, fun hd => ⟨fun again h => scrubStep_good hl hd h again, fun h => ?data,
    fun h => ?check, fun again h => ⟨fun hr => scrubStep_flash hl hd h hr again, fun i hi hp => scrubStep_island hl hd h hi hp again,
      fun hr => scrubStep_p hl hd h hr again⟩⟩, ends_lapEnd hl hj, sends_lapEnd hl, ends_lapLate hl hj, sends_lapLate hl⟩
  case data =>
    obtain ⟨u, hu, honly, hout, hreg, hkind, hregion, hoff, htime⟩ := scrubStep_mended hl hd h (by decide) (by decide) hj
    exact ⟨u, hu, honly, by rw [hreg]; rfl, by rw [hreg]; rfl, by rw [hreg]; rfl, hkind, hregion, hoff, htime, hout⟩
  case check =>
    obtain ⟨u, hu, honly, -, hreg, hkind, -⟩ := scrubStep_mended hl hd h (by decide) (by decide) hj
    exact ⟨u, hu, honly, by rw [hreg]; rfl, by rw [hreg]; rfl, by rw [hreg]; rfl, hkind⟩

end Sys2Proof.Proofs
end

section
/-! PROOFS. The frame tick, queued sets and codes that clear by time. -/
namespace Sys2Proof.Proofs
open Sys2Proof Sys2Proof.Machine Sys2Proof.Laws

/-! ### What has been sent is read by no rule -/

theorem overlay_begin (set : List (Nat × Val)) (s : State) : overlay set s.begin = (overlay set s).begin := by
  unfold overlay
  induction set generalizing s with
  | nil => rfl
  | cons x xs ih =>
    simp only [List.foldl_cons]
    split
    · exact ih (setCfg _ _ _ s)
    · exact ih s

theorem linkFault_begin (set : List (Nat × Val)) (s : State) : linkFault set s.begin = linkFault set s := by
  unfold linkFault
  rw [overlay_begin]
  rfl

/-! ### The fault log takes every event of the frame -/

theorem logEvent_events (e : FaultEvent) (s : State) : (logEvent e s).flt.events = s.flt.events := by
  unfold logEvent
  dsimp only
  split
  · rfl
  · split
    · rfl
    · split <;> rfl

theorem flushWindows_events (s : State) : (flushWindows s).flt.events = s.flt.events :=
  forAll_eq (·.flt.events) _ (fun (w : Suppress) s => writeLog w.code w.inst .suppressed (min 255 w.count) s.now s) (fun _ _ => rfl) s

/-- J has written every event, or is fenced and drops them (R472). -/
theorem logFrame_events (s : State) : (logFrame s).flt.events = [] := by
  unfold logFrame
  dsimp only
  split
  · rfl
  · exact (forAll_eq (·.flt.events) _ _ logEvent_events _).trans (flushWindows_events _)

theorem frameTasks_events (a b : Nat) (s : State) : (frameTasks a b s).flt.events = [] := by
  rw [frameTasks, step9, keep_flt]
  exact logFrame_events _

/-! ### The frame boundary -/

/-- The state at a frame boundary, before what falls due there. -/
def ticked (alive : Bool) (s : State) : State := emit .aliveOut (partnerTick alive (advance s))

/-- Where plant time makes no step, a frame tick goes from that state on. -/
theorem frameTick_eq (alive : Bool) {s : State} (h : s.ptp.stepDue = none) : frameTick alive s =
    if !live (downBoundary (ticked alive s)) then downBoundary (ticked alive s)
    else
      let t := keep (withSq fun s => frzBoundary (latchBoundary s)) (downBoundary (ticked alive s))
      if !live t then t else withSq (fun s => frameTasks (s.frameAt - 1000000) s.frameAt (boundary s)) t := by
  have hc : clockStep (advance s) = advance s := by
    have h' : (advance s).ptp.stepDue = none := h
    simp only [clockStep, h']
  have e : keep (fun s => emit .aliveOut (partnerTick alive (clockStep (advance s)))) s = ticked alive s := by
    rw [keep, hc]
    rfl
  unfold frameTick
  rw [e]

/-- A frame in which nothing falls due runs its tasks, and leaves no event unwritten. -/
theorem frameTick_events {alive : Bool} {s : State} (hl : live s = true) (hp : s.ptp.stepDue = none) (hd : s.sys.downDue = none)
    (ha : s.sup.latchIn = none) (hf : s.sup.frz = .idle) : (frameTick alive s).flt.events = [] := by
  have hb : downBoundary (ticked alive s) = ticked alive s := by
    have h : (ticked alive s).sys.downDue = none := hd
    simp only [downBoundary, h]
  have hz : frzBoundary (latchBoundary (ticked alive s)) = ticked alive s := by
    have h : (ticked alive s).sup.latchIn = none := ha
    have h' : (ticked alive s).sup.frz = .idle := hf
    simp [latchBoundary, h, frzBoundary, h']
  have hlt : live (keep (withSq fun s => frzBoundary (latchBoundary s)) (ticked alive s)) = true := by
    have ho : Only [] (ticked alive s) ((fun s => frzBoundary (latchBoundary s)) (ticked alive s)) := by
      dsimp only
      rw [hz]
      exact only_refl _ _
    rw [live, keep_sys, only_withSq ho .sys (by decide)]
    exact hl
  have hlb : live (ticked alive s) = true := hl
  rw [frameTick_eq alive hp, hb]
  simp only [hlt, hlb, Bool.not_true, Bool.false_eq_true, if_false]
  rw [withSq, keep_flt, only_settleSq _ _ .flt (by decide)]
  exact frameTasks_events _ _ _

/-- A commanded reset that is due comes at the boundary (R344, R347). -/
theorem frameTick_reset (alive : Bool) {s : State} {c : ResetCause} (hp : s.ptp.stepDue = none) (hd : s.sys.downDue = some (0, c))
    (hc : commanded c = true) : frameTick alive s = resetModule c (ticked alive s) := by
  have hb : downBoundary (ticked alive s) = resetModule c (ticked alive s) := by
    have h : (ticked alive s).sys.downDue = some (0, c) := hd
    simp [downBoundary, h, hc]
  have hl : live (resetModule c (ticked alive s)) = false := by simp [live]
  rw [frameTick_eq alive hp, hb, hl]
  rfl

/-! ### Sets queued for PARKED -/

theorem applySet_one {a : Nat} {v : Val} {e : Entry} {k : Nat} (h : entryAt a = some (e, k)) (s : State) :
    applySet [(a, v)] s = putValue e k v s := by
  simp [applySet, forAll, h]

/-- The state in which an entry takes its value: E is awake where the entry is its own (R107). -/
def awake (e : Entry) (s : State) : State := if wakesE e then keep wakeE s else s

theorem only_wakeE (s : State) : Only [.sys, .est] s (wakeE s) := fun p hp => by
  unfold wakeE
  dsimp only
  split <;> cases p <;> first | rfl | exact absurd (by simp) hp

theorem only_awake (e : Entry) (s : State) : Only [.sys, .est] s (awake e s) := by
  unfold awake
  split
  · exact only_keep (only_wakeE s)
  · exact only_refl _ _

/-- An entry that is no lead takes its value and tells its owner. -/
theorem putValue_eq {e : Entry} (hlo : isEnt Ent.CELL_LEAD_R_LO e = false) (hhi : isEnt Ent.CELL_LEAD_R_HI e = false) (k : Nat) (v : Val)
    (s : State) : putValue e k v s = keep (valueTaken e k v (cfgVal e k (awake e s))) (setCfg e k v (awake e s)) := by
  unfold putValue
  simp only [hlo, hhi, Bool.false_eq_true, if_false]
  rfl

theorem cfgVal_of_store {s t : State} (h : t.store = s.store) (e : Entry) (k : Nat) : cfgVal e k t = cfgVal e k s := by
  simp only [cfgVal, h]

theorem cfgVal_putValue {e : Entry} (hlo : isEnt Ent.CELL_LEAD_R_LO e = false) (hhi : isEnt Ent.CELL_LEAD_R_HI e = false)
    (k : Nat) (v : Val) {s : State} (hs : StoreInv s) : cfgVal e k (putValue e k v s) = v := by
  have hw : StoreInv (awake e s) := by
    unfold StoreInv
    rw [only_awake e s .store (by decide)]
    exact hs
  rw [putValue_eq hlo hhi, cfgVal_of_store (keep_store _ _), cfgVal_setCfg_same e k v hw]

theorem only_startEst (s : State) : Only [.est] s (startEst s) := by
  refine only_guardOn _ _ ?_
  extract_lets start u
  have h : Only [.est] s u :=
    only_forAll _ _ _ (fun n s p hp => by cases p <;> first | rfl | exact absurd (by simp) hp) s
  clear_value u
  exact only_trans h fun p hp => by cases p <;> first | rfl | exact absurd (by simp) hp

theorem only_ratedChange (s : State) : Only [.est] s (ratedChange s) := by
  unfold ratedChange
  split
  · exact only_startEst s
  · exact only_refl _ _

theorem ite_ses {p : Prop} [Decidable p] {x y : State} {r : SessionRegs} (hx : x.ses = r) (hy : y.ses = r) :
    (if p then x else y).ses = r := by
  split
  · exact hx
  · exact hy

/-- What its owner does with a value is no work of a session. -/
theorem valueTaken_ses (e : Entry) (k : Nat) (v old : Val) (s : State) : (valueTaken e k v old s).ses = s.ses := by
  have clock (t : State) : (chooseRef t).ses = t.ses := (clockOnly_chooseRef t).1 .ses (by decide)
  unfold valueTaken
  refine ite_ses ?tableSet (ite_ses ?address (ite_ses ?rated (ite_ses ?primary (ite_ses ?secondary (ite_ses ?ptpOn (ite_ses ?witness
    (ite_ses ?hibernation (ite_ses ?outputs (ite_ses ?safeOutputs ?other)))))))))
  case tableSet => exact only_clearF _ _ _ .ses (by decide)
  case address => exact ite_ses rfl rfl
  case rated => exact only_ratedChange s .ses (by decide)
  case primary => exact clock _
  case secondary => exact clock _
  case ptpOn => exact clock _
  case witness => rfl
  case hibernation => exact ite_ses rfl rfl
  case outputs => rfl
  case safeOutputs => rfl
  case other => rfl

theorem putValue_ses {e : Entry} (hlo : isEnt Ent.CELL_LEAD_R_LO e = false) (hhi : isEnt Ent.CELL_LEAD_R_HI e = false) (k : Nat) (v : Val)
    (s : State) : (putValue e k v s).ses = s.ses := by
  rw [putValue_eq hlo hhi, keep_ses, valueTaken_ses, setCfg_ses]
  exact only_awake e s .ses (by decide)

/-- The only queued set is taken alone. -/
theorem atIdleApply_one {q : IdleSet} {s : State} (hr : s.ses.replayed = true) (ha : acts s = true) (hj : isFenced .j s = false)
    (hh : isFenced .h s = false) (hp : parked s = true) (hq : seqRuns s = false) (hi : s.ses.idle = [q]) :
    atIdleApply s = applyIdle q s := by
  unfold atIdleApply
  rw [guardOn_true (by simp [hr, ha, hj, hh, hp, hq]), hi]
  rfl

theorem atIdleApply_notIdle {s : State} (h : parked s = false ∨ seqRuns s = true) : atIdleApply s = s :=
  guardOn_false (by cases h with | inl h => simp [h] | inr h => simp [h]) _ _

theorem only_idleOutcome (j st fail : Nat) (s : State) : Only [.ses] s (idleOutcome j st fail s) := fun p hp => by
  cases p <;> first | rfl | exact absurd (by simp) hp

theorem idleOutcome_ses (j st fail : Nat) (s : State) : (idleOutcome j st fail s).ses = { s.ses with
    idle := s.ses.idle.filter fun x => x.jseq != j, idleLast := st, idleEntry := fail
    batch := s.ses.batch ++ [.own 0x04 (toBytes 8 j ++ toBytes 1 st ++ toBytes 4 fail)] } := rfl

theorem filter_own_jseq (q : IdleSet) : ([q].filter fun x => x.jseq != q.jseq) = [] := by simp

section
variable {q : IdleSet} {s : State} (hl : live s = true) (hr : s.ses.replayed = true) (ha : acts s = true)
  (hj : isFenced .j s = false) (hh : isFenced .h s = false) (hp : parked s = true) (hq : seqRuns s = false) (hi : s.ses.idle = [q])
include hl hr ha hj hh hp hq hi

/-- A queued set that breaks a rule is dropped whole (R262). -/
theorem atIdleApply_drops {a : Nat} (hf : linkFault q.set s = some a) : Ends .atIdleApply s [.ses] fun u =>
    u.ses.idle = [] ∧ u.ses.idleLast = stRange ∧ u.ses.idleEntry = a ∧
    u.ses.batch = s.ses.batch ++ [.own 0x04 (toBytes 8 q.jseq ++ toBytes 1 stRange ++ toBytes 4 a)] := by
  have e : atIdleApply s.begin = keep (idleOutcome q.jseq stRange a) s.begin := by
    rw [atIdleApply_one (s := s.begin) hr ha hj hh hp hq hi, applyIdle, linkFault_begin, hf]
  refine ends_whenLive rfl hl (e ▸ only_keep (only_idleOutcome _ _ _ _)) ?_
  rw [e, keepQueue_ses, keep_ses, idleOutcome_ses, begin_ses, hi]
  exact ⟨filter_own_jseq q, rfl, rfl, rfl⟩

/-- A queued set that still passes is applied (R262). -/
theorem atIdleApply_applies {a : Nat} {v : Val} {e : Entry} {k : Nat} (hf : linkFault q.set s = none) (hset : q.set = [(a, v)])
    (he : entryAt a = some (e, k)) (hlo : isEnt Ent.CELL_LEAD_R_LO e = false) (hhi : isEnt Ent.CELL_LEAD_R_HI e = false) (hs : StoreInv s) :
    ∃ u, exec .atIdleApply s = .next u ∧ u.pending = s.pending ∧ u.ses.idle = [] ∧ u.ses.idleLast = stDone ∧ cfgVal e k u = v ∧
      StoreInv u := by
  have hu : atIdleApply s.begin = keep (idleOutcome q.jseq stDone 0) (putValue e k v s.begin) := by
    rw [atIdleApply_one (s := s.begin) hr ha hj hh hp hq hi, applyIdle, linkFault_begin, hf]
    simp only [hset, applySet_one he]
  have hses : (atIdleApply s.begin).ses = (idleOutcome q.jseq stDone 0 s).ses := by
    rw [hu, keep_ses, idleOutcome_ses, putValue_ses hlo hhi]
    rfl
  refine ⟨_, whenLive_next hl, rfl, ?_, ?_, ?_, atIdleApply_inv _ hs⟩
  · rw [keepQueue_ses, hses, idleOutcome_ses, hi]
    exact filter_own_jseq q
  · rw [keepQueue_ses, hses]
    rfl
  · rw [cfgVal_of_store (keepQueue_store _ _), hu, cfgVal_of_store (keep_store _ _)]
    exact cfgVal_putValue hlo hhi k v (s := s.begin) hs

end

/-! ### Codes that clear by time -/

/-- The state in which a code is cleared: with 0x580F the block on resets has ended (R235). -/
def unblocked (code : Nat) (s : State) : State := if code = 0x580F then { s with saf := { s.saf with stuck := false } } else s

theorem unblocked_leaves (code : Nat) (s : State) : Only [.saf] s (unblocked code s) ∧ (code ≠ 0x580F → unblocked code s = s) := by
  unfold unblocked
  split
  · next h => exact ⟨fun p hp => by cases p <;> first | rfl | exact absurd (by simp) hp, fun hn => absurd h hn⟩
  · exact ⟨only_refl _ _, fun _ => rfl⟩

/-- A code that is active clears with its event. -/
theorem clearF_events {c k : Nat} {s : State} (h : isActive c k s = true) :
    (clearF c k s).flt.events = s.flt.events ++ [⟨c, k, .cleared, s.now⟩] := by
  simp [clearF, h]

/-- A code of the list whose clearing time has passed. -/
def clears (code inst : Nat) (s : State) : Bool := s.flt.active.any fun a => a.code == code && a.inst == inst && clearDue a s

theorem isActive_of_clears {code inst : Nat} {s : State} (h : clears code inst s = true) : isActive code inst s = true := by
  obtain ⟨a, ha, hc⟩ := List.any_eq_true.1 h
  exact List.any_eq_true.2 ⟨a, ha, (Bool.and_eq_true_iff.1 hc).1⟩

theorem faultClear_clears {code inst : Nat} {s : State} (ht : timeCleared.contains code = true) (hd : clears code inst s = true)
    (hi : code = 0x580F → inst = wide) : faultClear code inst s = clearF code inst (unblocked code s) := by
  refine (guardOn_true (Bool.and_eq_true_iff.2 ⟨ht, hd⟩) _ _).trans ?_
  rw [unblocked]
  split
  · next h => rw [hi h, h]; rfl
  · rfl

theorem faultClear_not {code inst : Nat} {s : State} (h : timeCleared.contains code = false ∨ clears code inst s = false) :
    faultClear code inst s = s :=
  guardOn_false (Bool.and_eq_false_iff.2 h) _ _

/-- FAULT_CLEAR of a code whose clearing time has passed (R466). -/
theorem ends_faultClear {code inst : Nat} {s : State} (hl : live s = true) (ht : timeCleared.contains code = true)
    (hd : clears code inst s = true) (hi : code = 0x580F → inst = wide) :
    Ends (.faultClear code inst) s [.flt, .saf] fun u =>
      isActive code inst u = false ∧ (code ≠ 0x580F → u.saf = s.saf) ∧
      u.flt.events = s.flt.events ++ [⟨code, inst, .cleared, s.now⟩] ∧
      ∀ c k, (c ≠ code ∨ k ≠ inst) → isActive c k u = isActive c k s := by
  obtain ⟨honly, hsame⟩ := unblocked_leaves code s.begin
  have hflt : (unblocked code s.begin).flt = s.flt := honly .flt (by decide)
  have hact : isActive code inst (unblocked code s.begin) = true := (isActive_of_flt hflt _ _).trans (isActive_of_clears hd)
  have e : faultClear code inst s.begin = clearF code inst (unblocked code s.begin) := faultClear_clears (s := s.begin) ht hd hi
  have hcleared : Only [.flt, .saf] s.begin (clearF code inst (unblocked code s.begin)) :=
    only_trans (only_mono honly (by simp)) (only_mono (only_clearF _ _ _) (by simp))
  refine ends_whenLiveK (f := faultClear code inst) rfl hl (e ▸ hcleared) ?_
  rw [e]
  refine ⟨isActive_clearF code inst _, fun hn => ?_, ?_, fun c k h => ?_⟩
  · exact (only_clearF code inst _ .saf (by decide)).trans (congrArg (·.saf) (hsame hn))
  · refine (clearF_events hact).trans ?_
    rw [hflt, honly .now (by decide)]
    rfl
  · exact (isActive_clearF_other h _).trans (isActive_of_flt hflt c k)

theorem sends_faultClear {code inst : Nat} {s : State} (hl : live s = true)
    (h : timeCleared.contains code = false ∨ clears code inst s = false) : Sends (.faultClear code inst) s [] :=
  sends_whenLiveK (f := faultClear code inst) rfl hl (faultClear_not (s := s.begin) h)

theorem clearDue_present {a : ActiveFault} {s : State} (h : after60s.contains a.code = false) (hc : causePresent a.code a.inst s = true) :
    clearDue a s = false := by
  simp only [clearDue, h, hc]
  rfl

theorem clearDue_sweeps {a : ActiveFault} {s : State} (h : after60s.contains a.code = false) (hc : causePresent a.code a.inst s = false)
    (hsw : sweepCleared.contains a.code = true) : clearDue a s = true := by
  simp only [clearDue, h, hc, hsw]
  rfl

/-- Where neither sweeps nor a wire's own time count, the time of the code's domain does (Table 22-1). -/
theorem clearDue_absent {a : ActiveFault} {s : State} (h : after60s.contains a.code = false) (hsw : sweepCleared.contains a.code = false)
    (hn : a.code ∉ [0x580F, 0x6010, 0x6011]) (hc : causePresent a.code a.inst s = false) :
    clearDue a s = decide (a.seen + absentNs a.code ≤ s.now) := by
  simp only [List.mem_cons, List.not_mem_nil, or_false, not_or] at hn
  obtain ⟨hreset, hopen, hshort⟩ := hn
  simp only [clearDue, h, hc, hsw, beq_false_of_ne hreset, beq_false_of_ne hopen, beq_false_of_ne hshort]
  rfl

/-- Settles O58: the two outcomes of a boundary, the two outcomes of a queued set, and FAULT_CLEAR on both sides of the clearing time. -/
theorem frameTickRunsTheFrame : Obligations.FrameTickRunsTheFrame := by
  refine ⟨fun s alive hl hp => ⟨fun hd ha hf => ?frame, fun c hd hc hfw => ?reset⟩,
    fun s hl => ⟨fun q hr ha hj hh hpk hq hi => ⟨?drops, ?applies⟩, ?notIdle, fun code inst => ⟨ends_faultClear hl, sends_faultClear hl⟩,
      fun a => ⟨?after60, ?present, ?sweeps, ?absent⟩⟩⟩
  case frame => exact ⟨_, whenLive_next hl, rfl, frameTick_events (s := s.begin) hl hp hd ha hf⟩
  case reset =>
    have hcmd : commanded c = true := by rcases hc with rfl | rfl <;> rfl
    have e : frameTick alive s.begin = resetModule c (ticked alive s.begin) := frameTick_reset alive (s := s.begin) hp hd hcmd
    refine ⟨_, whenLive_next hl, rfl, ?_⟩
    rw [e]
    exact ⟨resetModule_phase _ _, resetModule_cause _ _, resetModule_resets _ _, resetModule_resetAt _ _, resetModule_store _ _,
      resetModule_active c hfw⟩
  case drops => exact fun a hf => atIdleApply_drops hl hr ha hj hh hpk hq hi hf
  case applies => exact fun a v e k hf hset he hlo hhi hs => atIdleApply_applies hl hr ha hj hh hpk hq hi hf hset he hlo hhi hs
  case notIdle => exact fun h => sends_whenLive rfl hl (atIdleApply_notIdle (s := s.begin) h)
  case after60 => exact fun h => if_pos h
  case present => exact clearDue_present
  case sweeps => exact clearDue_sweeps
  case absent => exact clearDue_absent

end Sys2Proof.Proofs
end

section
/-! PROOFS. The Giton chain: frames of its shared operations, the queue of its commands, and the launch of a sweep. -/
namespace Sys2Proof.Proofs
open Sys2Proof Sys2Proof.Machine Sys2Proof.Laws

/-! ### Frames of the chain's operations -/

theorem only_chainRegs (c : ChainRegs) (k : ChainCtl) (x : CellRegs) (s : State) :
    Only [.chain, .chctl, .cells] s { s with chain := c, chctl := k, cells := x } := fun p hp => by
  cases p with
  | chain | chctl | cells => exact absurd (by simp) hp
  | _ => rfl

theorem only_ite {ps : List Part} {p : Prop} [Decidable p] {s t u : State} (ht : Only ps s t) (hu : Only ps s u) :
    Only ps s (if p then t else u) := by
  split
  · exact ht
  · exact hu

theorem only_chainCtl (c : ChainRegs) (k : ChainCtl) (s : State) : Only [.chain, .chctl] s { s with chain := c, chctl := k } :=
  fun p hp => by
  cases p with
  | chain | chctl => exact absurd (by simp) hp
  | _ => rfl

theorem only_chain (c : ChainRegs) (s : State) : Only [.chain] s { s with chain := c } := fun p hp => by
  cases p with
  | chain => exact absurd (by simp) hp
  | _ => rfl

theorem only_chctl (c : ChainCtl) (s : State) : Only [.chctl] s { s with chctl := c } := fun p hp => by
  cases p with
  | chctl => exact absurd (by simp) hp
  | _ => rfl

theorem only_cells (c : CellRegs) (s : State) : Only [.cells] s { s with cells := c } := fun p hp => by
  cases p with
  | cells => exact absurd (by simp) hp
  | _ => rfl

theorem only_atTime (t : Nat) (s : State) : Only [.now] s (atTime t s) := fun p hp => by
  cases p with
  | now => exact absurd (by simp) hp
  | _ => rfl

theorem only_modNode (h : Nat) (f : Node → Node) (s : State) : Only [.cells] s (modNode h f s) := only_cells _ s

theorem only_modCell (n : Nat) (f : Cell → Cell) (s : State) : Only [.cells] s (modCell n f s) := only_cells _ s

theorem only_modHalf (r : Radio) (f : HalfSweep → HalfSweep) (s : State) : Only [.chain] s (modHalf r f s) := by
  cases r <;> exact only_chain _ s

theorem only_raiseC (code inst : Nat) (s : State) : Only [.flt, .chctl] s (raiseC code inst s) :=
  only_trans (only_mono (only_chctl _ s) (by simp)) (only_mono (only_raiseF code inst _) (by simp))

theorem only_storeCounters (s : State) : Only [.chain] s (storeCounters s) := by
  unfold storeCounters
  split
  · exact only_chain _ s
  · exact only_refl _ s

theorem only_setAwait (r : Radio) (a : Option Await) (s : State) : Only [.chctl] s (setAwait r a s) := by
  cases r <;> exact only_chctl _ s

theorem only_missReply (r : Radio) (t : Nat) (s : State) : Only [.chctl, .cells] s (missReply r t s) := by
  unfold missReply
  split
  · split
    · exact only_trans (only_mono (only_modNode _ _ s) (by simp)) (only_mono (only_setAwait _ _ _) (by simp))
    · exact only_refl _ s
  · exact only_refl _ s

/-! ### The queue of commands -/

/-- Commands are added to the chain's queue, and nothing else changes. -/
def Queued (s t : State) : Prop := ∃ l, t = { s with chctl := { s.chctl with queue := s.chctl.queue ++ l } }

theorem queued_refl (s : State) : Queued s s := ⟨[], by simp⟩

theorem queued_trans {s t u : State} (h : Queued s t) (k : Queued t u) : Queued s u := by
  obtain ⟨l, rfl⟩ := h
  obtain ⟨m, rfl⟩ := k
  exact ⟨l ++ m, by simp⟩

theorem queued_forAll {α : Type} (xs : List α) (f : α → State → State) (h : ∀ x s, Queued s (f x s)) (s : State) :
    Queued s (forAll xs f s) := by
  unfold forAll
  induction xs generalizing s with
  | nil => exact queued_refl s
  | cons x xs ih => exact queued_trans (h x s) (ih _)

theorem queued_queueCmd (r : Radio) (c : ChainCmd) (s : State) : Queued s (queueCmd r c s) := by
  unfold queueCmd
  split
  · exact queued_refl s
  · exact ⟨_, rfl⟩

theorem queued_queueBoth (c : ChainCmd) (s : State) : Queued s (queueBoth c s) :=
  queued_trans (queued_queueCmd _ _ _) (queued_queueCmd _ _ _)

theorem queued_queueNode (h : Nat) (c : ChainCmd) (s : State) : Queued s (queueNode h c s) := by
  unfold queueNode
  split
  · exact queued_queueCmd _ _ _
  · exact queued_refl s

theorem only_queued {s t : State} (h : Queued s t) : Only [.chctl] s t := by
  obtain ⟨l, rfl⟩ := h
  exact only_chctl _ s

/-- A view that does not look at the queue is the same. -/
theorem queued_view {α : Type} {s t : State} (h : Queued s t) (g : State → α)
    (hg : ∀ q, g { s with chctl := { s.chctl with queue := q } } = g s) : g t = g s := by
  obtain ⟨l, rfl⟩ := h
  exact hg _

theorem only_sendFilter (h : Nat) (s : State) : Only [.chctl, .cells] s (sendFilter h s) :=
  only_trans (only_mono (only_modNode _ _ s) (by simp)) (only_mono (only_queued (queued_queueNode _ _ _)) (by simp))

/-! ### SWEEP_LAUNCH -/

/-- What the latches of a launch leave: the sweep counter, the number of nodes, the period and the balancing mode. -/
def launchView (s : State) : Nat × Nat × Nat × Nat := (s.chain.sweepCtr, s.chain.n, s.chctl.period, s.chctl.balMode)

/-- A latch of the launch: it touches the chain, the cells and the faults, and leaves the view. -/
def Latches (s t : State) : Prop := Only [.flt, .chain, .chctl, .cells] s t ∧ launchView t = launchView s

theorem latches_refl (s : State) : Latches s s := ⟨only_refl _ s, rfl⟩

theorem latches_trans {s t u : State} (h : Latches s t) (k : Latches t u) : Latches s u :=
  ⟨only_trans h.1 k.1, k.2.trans h.2⟩

theorem latches_regs {c : ChainRegs} {k : ChainCtl} {x : CellRegs} {s : State}
    (h : launchView { s with chain := c, chctl := k, cells := x } = launchView s) :
    Latches s { s with chain := c, chctl := k, cells := x } :=
  ⟨only_mono (only_chainRegs c k x s) (by simp), h⟩

theorem latches_forAll {α : Type} (xs : List α) (f : α → State → State) (h : ∀ x s, Latches s (f x s)) (s : State) :
    Latches s (forAll xs f s) :=
  ⟨only_forAll _ xs f (fun x s => (h x s).1) s, forAll_eq launchView xs f (fun x s => (h x s).2) s⟩

theorem latches_queued {s t : State} (h : Queued s t) : Latches s t :=
  ⟨only_mono (only_queued h) (by simp), queued_view h launchView fun _ => rfl⟩

theorem latches_flt {s t : State} (h : Only [.flt] s t) : Latches s t := by
  have hc : t.chain = s.chain := h .chain (by decide)
  have hk : t.chctl = s.chctl := h .chctl (by decide)
  exact ⟨only_mono h (by simp), by simp only [launchView, hc, hk]⟩

theorem latches_modNode (h : Nat) (f : Node → Node) (s : State) : Latches s (modNode h f s) := latches_regs rfl

theorem latches_sendFilter (h : Nat) (s : State) : Latches s (sendFilter h s) :=
  latches_trans (latches_modNode _ _ s) (latches_queued (queued_queueNode _ _ _))

theorem latches_startChannelChange (a b : Nat) (s : State) : Latches s (startChannelChange a b s) := by
  refine latches_trans ?_ (latches_queued (queued_queueBoth _ _))
  exact latches_regs rfl

theorem latches_cancelChannelChange (act : Nat) (s : State) : Latches s (cancelChannelChange act s) := by
  refine latches_trans (latches_trans ?_ (latches_queued (queued_queueBoth _ _))) (latches_flt (only_raiseF _ _ _))
  exact latches_regs rfl

theorem latches_applyChannelChange (s : State) : Latches s (applyChannelChange s) := by
  unfold applyChannelChange
  split
  · split
    · exact latches_refl s
    · split
      · exact latches_cancelChannelChange _ s
      · refine latches_trans ?_ (latches_flt (only_clearF _ _ _))
        exact latches_regs rfl
  · exact latches_refl s

theorem latches_latchChannels (s : State) : Latches s (latchChannels s) := by
  unfold latchChannels
  dsimp only
  split
  · exact latches_refl s
  · split
    · exact latches_regs rfl
    · split
      · exact latches_refl s
      · refine latches_trans ?_ (latches_startChannelChange _ _ _)
        exact latches_regs rfl

theorem latches_latchTopology (s : State) : Latches s (latchTopology s) := by
  unfold latchTopology
  split
  · refine latches_trans ?_ (latches_queued (queued_forAll _ _ (fun _ _ => queued_queueNode _ _ _) _))
    exact latches_regs rfl
  · split
    · split
      · exact latches_regs rfl
      · exact latches_refl s
    · exact latches_refl s

theorem latches_storeCounters (s : State) : Latches s (storeCounters s) := by
  refine ⟨only_mono (only_storeCounters s) (by simp), ?_⟩
  unfold storeCounters
  split <;> rfl

theorem latches_latchNodeBal (s : State) : Latches s (latchNodeBal s) := latches_regs rfl

theorem latches_raiseC (code inst : Nat) (s : State) : Latches s (raiseC code inst s) := by
  refine latches_trans ?_ (latches_flt (only_raiseF _ _ _))
  exact latches_regs rfl

/-- The settings of the period and of the balancing mode as a launch finds them (R56, R77). -/
def withSettings (s : State) : State :=
  { s with chctl := { s.chctl with
      period := cfgN Ent.CHN_SWEEP_PERIOD s, filterCorner := cfgN Ent.CHN_FILTER_CORNER s, notchEn := cfgN Ent.CHN_NOTCH_EN s
      notchFreq := cfgN Ent.CVT_PWM_FREQ s, balMode := cfgN Ent.STR_BAL_MODE s } }

theorem latches_latchChainCfg (s : State) : Latches (withSettings s) (latchChainCfg s) := by
  unfold latchChainCfg
  extract_lets c bal per corner notch freq filterAll s1 act _ s2 s3 s4 _
  have h2 : Latches s1 s2 := by
    unfold s2
    split
    · refine latches_trans ?_ (latches_queued (queued_queueBoth _ _))
      exact latches_regs rfl
    · exact latches_refl s1
  have h4 : Latches s3 s4 := by
    refine latches_forAll _ _ (fun h s => ?_) s3
    dsimp only
    split
    · exact latches_trans (latches_modNode _ _ s) (latches_sendFilter _ _)
    · exact latches_modNode _ _ s
  exact latches_trans (latches_trans (latches_trans h2 (latches_latchChannels s2)) h4) (latches_regs rfl)

theorem cfgN_of_store {s t : State} (h : t.store = s.store) (e : Entry) (k : Nat) : cfgN e t k = cfgN e s k := by
  simp only [cfgN, cfg, cfgVal_of_store h]

theorem missReply_packKey (r : Radio) (t : Nat) (s : State) : (missReply r t s).chctl.packKey = s.chctl.packKey := by
  unfold missReply
  split
  · split
    · cases r <;> rfl
    · rfl
  · rfl

/-- The counter of a launch depends on the member's role, the counter before and the pack key alone. -/
theorem launchCtr_congr {s t : State} (hp : t.pair = s.pair) (hc : t.chain.sweepCtr = s.chain.sweepCtr)
    (hk : t.chctl.packKey = s.chctl.packKey) (heard : List (Radio × List Byte)) : launchCtr heard t = launchCtr heard s := by
  have ha : acts t = acts s := by simp only [acts, hp]
  have hb (x : Radio × List Byte) : heardBeacon x.1 x.2 t = heardBeacon x.1 x.2 s := by simp only [heardBeacon, hc, hk]
  simp only [launchCtr, ha, hb, hc]

theorem launchCtr_eq (heard : List (Radio × List Byte)) (s : State) :
    (if acts s then (s.chain.sweepCtr + 1) % 2 ^ 40 else launchCtr heard s) = launchCtr heard s := by
  unfold launchCtr
  split <;> rfl

/-- A launch that is due, on the frame boundary t (R28, R37, R41, R44, R53). -/
theorem sweepLaunch_due {t : Nat} {s : State} (heard : List (Radio × List Byte)) (h : launchDue t s = true) :
    let u := sweepLaunch t heard s
    Only [.now, .flt, .chain, .chctl, .cells] s u ∧ u.now = max s.now t ∧
    u.chain.sweepCtr = launchCtr heard s ∧ u.chain.sweep.active = true ∧ u.chain.sweep.run = true ∧
    u.chain.sweep.launch = t ∧ u.chain.sweep.got = [] ∧ u.chain.sweep.split = false ∧
    u.chain.sweep.instant = t + (u.chain.hmax - 1) * 48000 ∧ u.chain.n = s.chain.n ∧
    u.chctl.period = cfgN Ent.CHN_SWEEP_PERIOD s ∧ u.chctl.balMode = cfgN Ent.STR_BAL_MODE s := by
  unfold sweepLaunch
  rw [guardOn_true h]
  extract_lets s1 _ s2 s3 s4 s5 s6 hm s7 _ _ s8 u
  have hmiss : Only [.chctl, .cells] (atTime t s) s1 := only_trans (only_missReply _ _ _) (only_missReply _ _ _)
  have hlatch : Latches (withSettings s2) s7 := by
    refine latches_trans (t := s6) (latches_trans (latches_trans (latches_trans (latches_trans (latches_latchChainCfg s2)
      (latches_latchTopology s3)) (latches_applyChannelChange s4)) (latches_storeCounters s5)) (latches_latchNodeBal _)) ?_
    unfold s7
    split
    · exact latches_raiseC _ _ _
    · exact latches_refl _
  have hsent : Only [] s8 u := only_forAll _ _ _ (fun r s => by
    split
    · exact only_emit _ s
    · exact only_refl _ s) s8
  have hstore : s2.store = s.store := hmiss .store (by decide)
  have hctr : launchCtr heard s1 = launchCtr heard s :=
    launchCtr_congr (hmiss .pair (by decide)) (congrArg (·.sweepCtr) (hmiss .chain (by decide)))
      ((missReply_packKey _ _ _).trans (missReply_packKey _ _ _)) heard
  have hn : s1.chain.n = s.chain.n := congrArg (·.n) (hmiss .chain (by decide))
  obtain ⟨hframe, hview⟩ := hlatch
  clear_value s7
  simp only [launchView, Prod.mk.injEq] at hview
  obtain ⟨vctr, vn, vper, vbal⟩ := hview
  have uchain : u.chain = s8.chain := hsent .chain (by simp)
  have uchctl : u.chctl = s8.chctl := hsent .chctl (by simp)
  refine ⟨?frame, ?now, ?_⟩
  case frame =>
    have h2 : Only [.now, .flt, .chain, .chctl, .cells] s (withSettings s2) :=
      only_trans (only_mono (only_atTime t s) (by simp)) (only_trans (only_mono hmiss (by simp))
        (only_mono (only_chainRegs _ _ s1.cells s1) (by simp)))
    have h8 : Only [.now, .flt, .chain, .chctl, .cells] s7 s8 := only_mono (only_chainRegs _ _ s7.cells s7) (by simp)
    exact only_trans h2 (only_trans (only_mono hframe (by simp)) (only_trans h8 (only_mono hsent (by simp))))
  case now => exact (hsent .now (by simp)).trans ((hframe .now (by simp)).trans (hmiss .now (by simp)))
  rw [uchain, uchctl]
  exact ⟨vctr.trans hctr, rfl, rfl, rfl, rfl, rfl, rfl, vn.trans hn, vper.trans (cfgN_of_store hstore _ _),
    vbal.trans (cfgN_of_store hstore _ _)⟩

/-- Settles O12: the latches of a launch leave counter, nodes and settings, and what the launch itself writes stands until the end. -/
theorem sweepLaunchStartsASweep : Obligations.SweepLaunchStartsASweep := by
  intro t heard s hl
  refine ⟨fun h => ?due, fun h => sends_whenLiveK (f := sweepLaunch t heard) rfl hl (guardOn_false (s := s.begin) h _)⟩
  obtain ⟨hframe, hrest⟩ := sweepLaunch_due (s := s.begin) heard h
  refine ends_whenLiveK (f := sweepLaunch t heard) rfl hl hframe ?_
  rw [launchCtr_eq]
  exact hrest

end Sys2Proof.Proofs
end

section
/-! PROOFS. The running sweep: what taking records and completing a sweep leave, and the events that end a half. -/
namespace Sys2Proof.Proofs
open Sys2Proof Sys2Proof.Machine Sys2Proof.Laws

/-! ### What the work on a sweep's records leaves -/

/-- What a record's tag is checked with: the counter, the number of nodes, the pack key, and each node's key and identity (R52). -/
structure TagsKept (s t : State) : Prop where
  ctr : t.chain.sweepCtr = s.chain.sweepCtr
  count : t.chain.n = s.chain.n
  packKey : t.chctl.packKey = s.chctl.packKey
  node : ∀ h, (nodeAt h t).key = (nodeAt h s).key ∧ (nodeAt h t).id = (nodeAt h s).id

theorem tagsKept_trans {s t u : State} (h : TagsKept s t) (k : TagsKept t u) : TagsKept s u where
  ctr := k.ctr.trans h.ctr
  count := k.count.trans h.count
  packKey := k.packKey.trans h.packKey
  node i := ⟨(k.node i).1.trans (h.node i).1, (k.node i).2.trans (h.node i).2⟩

theorem recordPlain_of_tags {s t : State} (h : TagsKept s t) (n : Nat) (rec : List Byte) : recordPlain n rec t = recordPlain n rec s := by
  obtain ⟨hkey, hid⟩ := h.node n
  have hk : keyOf n t = keyOf n s := by simp only [keyOf, hkey, h.packKey]
  simp only [recordPlain, hk, hid, h.ctr]

/-- The work on the records of a sweep leaves the time, the halves and what tags are checked with; no record taken is lost, and no code
ends but those of open leads (Table 2-15). -/
structure SweepKept (s t : State) : Prop extends TagsKept s t where
  now : t.now = s.now
  half : ∀ r, halfSweep r t = halfSweep r s
  got : ∀ g ∈ s.chain.sweep.got, g ∈ t.chain.sweep.got
  flt : ∀ c k, c ≠ 0x2101 → c ≠ 0x2102 → isActive c k s = true → isActive c k t = true

/-- The registers that `SweepKept` looks at. -/
def sweepView (s : State) :=
  (s.chain.sweepCtr, s.chain.n, s.chctl.packKey, s.cells.nodes, s.now, s.chain.sweep.a, s.chain.sweep.b, s.chain.sweep.got, s.flt)

theorem sweepKept_of_view {s t : State} (h : sweepView t = sweepView s) : SweepKept s t := by
  simp only [sweepView, Prod.mk.injEq] at h
  obtain ⟨hctr, hn, hkey, hnodes, hnow, ha, hb, hgot, hflt⟩ := h
  exact {
    ctr := hctr, count := hn, packKey := hkey, now := hnow
    node := fun i => by simp only [nodeAt, hnodes, and_self]
    half := fun r => by cases r <;> assumption
    got := fun g hg => hgot ▸ hg
    flt := fun c k _ _ hi => (isActive_of_flt hflt c k).trans hi }

theorem sweepKept_refl (s : State) : SweepKept s s := sweepKept_of_view rfl

theorem sweepKept_trans {s t u : State} (h : SweepKept s t) (k : SweepKept t u) : SweepKept s u where
  toTagsKept := tagsKept_trans h.toTagsKept k.toTagsKept
  now := k.now.trans h.now
  half r := (k.half r).trans (h.half r)
  got g hg := k.got g (h.got g hg)
  flt c i h1 h2 hi := k.flt c i h1 h2 (h.flt c i h1 h2 hi)

theorem sweepKept_forAll {α : Type} (xs : List α) (f : α → State → State) (h : ∀ x s, SweepKept s (f x s)) (s : State) :
    SweepKept s (forAll xs f s) := by
  unfold forAll
  induction xs generalizing s with
  | nil => exact sweepKept_refl s
  | cons x xs ih => exact sweepKept_trans (h x s) (ih _)

theorem sweepKept_ite {p : Prop} [Decidable p] {s t u : State} (ht : SweepKept s t) (hu : SweepKept s u) :
    SweepKept s (if p then t else u) := by
  split
  · exact ht
  · exact hu

theorem sweepKept_keep {f : State → State} {s : State} (h : SweepKept s (f s)) : SweepKept s (keep f s) :=
  sweepKept_trans h (sweepKept_of_view rfl)

theorem sweepKept_queued {s t : State} (h : Queued s t) : SweepKept s t :=
  sweepKept_of_view (queued_view h sweepView fun _ => rfl)

theorem sweepKept_of_flt {s t : State} (h : Only [.flt] s t)
    (hf : ∀ c k, c ≠ 0x2101 → c ≠ 0x2102 → isActive c k s = true → isActive c k t = true) : SweepKept s t := by
  have hchain : t.chain = s.chain := h .chain (by decide)
  have hchctl : t.chctl = s.chctl := h .chctl (by decide)
  have hcells : t.cells = s.cells := h .cells (by decide)
  exact {
    ctr := by rw [hchain], count := by rw [hchain], packKey := by rw [hchctl], now := h .now (by decide)
    node := fun i => by simp only [nodeAt, hcells, and_self]
    half := fun r => by simp only [halfSweep, hchain]
    got := fun g hg => by rwa [hchain]
    flt := hf }

theorem sweepKept_raiseF (c k : Nat) (s : State) : SweepKept s (raiseF c k s) :=
  sweepKept_of_flt (only_raiseF c k s) fun _ _ _ _ hi => isActive_raiseF_of_active _ _ hi

theorem sweepKept_clearF {c : Nat} (hc : c = 0x2101 ∨ c = 0x2102) (k : Nat) (s : State) : SweepKept s (clearF c k s) :=
  sweepKept_of_flt (only_clearF c k s) fun c' k' h1 h2 hi => (isActive_clearF_other (.inl (by omega)) s).trans hi

theorem sweepKept_raiseC (c k : Nat) (s : State) : SweepKept s (raiseC c k s) :=
  sweepKept_trans (t := noteCause c k s) (sweepKept_of_view rfl) (sweepKept_raiseF _ _ _)

theorem sweepKept_modCell (n : Nat) (f : Cell → Cell) (s : State) : SweepKept s (modCell n f s) := sweepKept_of_view rfl

/-- What `modNode` makes of every node, in the vector or not. -/
theorem nodeAt_modNode (k h : Nat) (f : Node → Node) (s : State) :
    nodeAt k (modNode h f s) = if k - 1 = h - 1 ∧ k - 1 < 32 then f (nodeAt k s) else nodeAt k s := by
  by_cases hlt : k - 1 < 32
  · by_cases he : k - 1 = h - 1
    · rw [if_pos ⟨he, hlt⟩]
      unfold nodeAt modNode
      rw [he] at hlt ⊢
      exact getAt_modAt_same _ f hlt
    · rw [if_neg (by simp [he])]
      simp [nodeAt, modNode, getAt, modAt, setAt, hlt, Ne.symm he]
  · simp [nodeAt, modNode, getAt, hlt]

theorem sweepKept_modNode (h : Nat) (f : Node → Node) (s : State)
    (hf : ∀ x, (f x).key = x.key ∧ (f x).id = x.id := by exact fun _ => ⟨rfl, rfl⟩) : SweepKept s (modNode h f s) :=
  { sweepKept_of_view (s := s) (t := s) rfl with
    node := fun k => by
      rw [nodeAt_modNode]
      split
      · exact hf _
      · exact ⟨rfl, rfl⟩ }

theorem sweepKept_sendFilter (h : Nat) (s : State) : SweepKept s (sendFilter h s) := by
  refine sweepKept_trans ?_ (sweepKept_queued (queued_queueNode _ _ _))
  exact sweepKept_modNode _ _ s

/-! ### Records -/

theorem sweepKept_applyLeads (s : State) : SweepKept s (applyLeads s) := by
  refine sweepKept_forAll _ _ (fun n s => ?_) s
  refine sweepKept_trans ?_ (sweepKept_ite (sweepKept_raiseF _ _ _) (sweepKept_clearF (.inl rfl) _ _))
  exact sweepKept_modCell _ _ s

theorem sweepKept_nodeLeads (h lead : Nat) (multi : Bool) (s : State) : SweepKept s (nodeLeads h lead multi s) := by
  refine sweepKept_trans ?_ (sweepKept_applyLeads _)
  dsimp only
  split
  · refine sweepKept_trans (t := raiseF 0x2102 h _) (sweepKept_trans ?_ (sweepKept_raiseF _ _ _))
      (sweepKept_ite (sweepKept_refl _) (sweepKept_trans ?_ (sweepKept_queued (queued_queueNode _ _ _))))
    · exact sweepKept_modNode h _ s
    · exact sweepKept_modNode h _ _
  · split
    · exact sweepKept_modNode h _ s
    · split
      · refine sweepKept_trans ?_ (sweepKept_clearF (.inr rfl) _ _)
        exact sweepKept_modNode h _ s
      · exact sweepKept_modNode h _ s

theorem sweepKept_raiseIf (p : Prop) [Decidable p] (c k : Nat) (s : State) : SweepKept s (if p then raiseC c k s else s) :=
  sweepKept_ite (sweepKept_raiseC c k s) (sweepKept_refl s)

theorem sweepKept_recordCells (h : Nat) (b : List Byte) (i : Nat) (s : State) : SweepKept s (recordCells h b i s) := by
  unfold recordCells
  extract_lets nd c st noSample nodeFlt us ts bal comp s1
  refine sweepKept_trans (t := s1) (sweepKept_raiseIf _ _ _ s) (sweepKept_forAll _ _ (fun j s => ?_) s1)
  dsimp only
  refine sweepKept_trans (sweepKept_trans (sweepKept_trans (sweepKept_trans ?_ (sweepKept_raiseIf _ _ _ _))
    (sweepKept_raiseIf _ _ _ _)) (sweepKept_raiseIf _ _ _ _)) (sweepKept_raiseIf _ _ _ _)
  exact sweepKept_modCell _ _ s

theorem sweepKept_checkFilter (h st : Nat) (s : State) : SweepKept s (checkFilter h st s) := by
  unfold checkFilter
  split
  · refine sweepKept_ite (sweepKept_refl s) (sweepKept_ite ?_ ?_)
    · exact sweepKept_modNode h _ s
    · exact sweepKept_trans (sweepKept_raiseC _ _ s) (sweepKept_sendFilter _ _)
  · exact sweepKept_refl s

/-- A record accepted is among those of the sweep, with all taken before it. -/
theorem acceptRecord_takes (r : Radio) (h : Nat) (b : List Byte) (s : State) :
    SweepKept s (acceptRecord r h b s) ∧ ∃ g ∈ (acceptRecord r h b s).chain.sweep.got, g.node = h := by
  unfold acceptRecord
  extract_lets st inst unkeyed _ _ s1 s2 s3 s4
  have h1 : SweepKept s s1 :=
    { sweepKept_of_view (s := s) (t := s) rfl with got := fun g hg => List.mem_append_left _ hg }
  have h2 : SweepKept s1 (checkFilter h st s4) := by
    refine sweepKept_trans (t := s3) (sweepKept_trans (t := s2) ?_ ?_) (sweepKept_trans (t := s4) ?_ (sweepKept_checkFilter h st s4))
    · exact sweepKept_modNode h _ s1
    · exact sweepKept_ite (sweepKept_sendFilter h s2) (sweepKept_refl s2)
    · exact sweepKept_ite (sweepKept_trans (sweepKept_nodeLeads _ _ _ s3) (sweepKept_recordCells _ _ _ _)) (sweepKept_refl s3)
  exact ⟨sweepKept_trans h1 h2, ⟨h, r, b, inst⟩, h2.got _ (List.mem_append_right _ (List.mem_singleton_self _)), rfl⟩

theorem sweepKept_countMicErr (s : State) : SweepKept s (countMicErr s) := by
  unfold countMicErr
  dsimp only
  refine sweepKept_trans ?_ (sweepKept_raiseIf _ _ _ _)
  exact sweepKept_of_view rfl

theorem sweepKept_takeRecord (r : Radio) (first i : Nat) (rec : List Byte) (s : State) : SweepKept s (takeRecord r first i rec s) := by
  unfold takeRecord
  dsimp only
  split
  · exact sweepKept_countMicErr s
  · split
    · exact (acceptRecord_takes _ _ _ s).1
    · exact sweepKept_countMicErr s

theorem sweepKept_takeRecords (r : Radio) (b : List Byte) (s : State) : SweepKept s (takeRecords r b s) :=
  sweepKept_forAll _ _ (fun _ s => sweepKept_takeRecord _ _ _ _ s) s

/-- A record of a node of the chain whose tag verifies is among those of the sweep once it has been met (R53). -/
theorem takeRecord_got {r : Radio} {first i : Nat} {rec : List Byte} {s : State} (hlo : 1 ≤ trainNode r first i)
    (hhi : trainNode r first i ≤ s.chain.n) (hp : (recordPlain (trainNode r first i) rec s).isSome = true) :
    ∃ g ∈ (takeRecord r first i rec s).chain.sweep.got, g.node = trainNode r first i := by
  obtain ⟨b, hb⟩ := Option.isSome_iff_exists.1 hp
  unfold takeRecord
  dsimp only
  split
  · next hc =>
    have hany : (s.chain.sweep.got.any (·.node == trainNode r first i)) = true := by
      simp only [Bool.or_eq_true, decide_eq_true_eq] at hc
      rcases hc with (hc | hc) | hc
      · omega
      · omega
      · exact hc
    obtain ⟨g, hg, he⟩ := List.any_eq_true.1 hany
    exact ⟨g, (sweepKept_countMicErr s).got g hg, eq_of_beq he⟩
  · rw [hb]
    exact (acceptRecord_takes _ _ _ s).2

/-- Every record of a train whose tag verifies is taken. -/
theorem takeRecords_got {r : Radio} {b : List Byte} {s : State} {x : List Byte × Nat} (hx : x ∈ (trainRecs b).zipIdx)
    (hlo : 1 ≤ trainNode r (fieldU b 2 1) x.2) (hhi : trainNode r (fieldU b 2 1) x.2 ≤ s.chain.n)
    (hp : (recordPlain (trainNode r (fieldU b 2 1) x.2) x.1 s).isSome = true) :
    ∃ g ∈ (takeRecords r b s).chain.sweep.got, g.node = trainNode r (fieldU b 2 1) x.2 := by
  unfold takeRecords
  generalize (trainRecs b).zipIdx = xs at hx
  induction xs generalizing s with
  | nil => simp at hx
  | cons y ys ih =>
    rcases List.mem_cons.1 hx with rfl | hx
    · obtain ⟨g, hg, he⟩ := takeRecord_got hlo hhi hp
      exact ⟨g, (sweepKept_forAll ys _ (fun _ s => sweepKept_takeRecord _ _ _ _ s) _).got g hg, he⟩
    · have hk := sweepKept_takeRecord r (fieldU b 2 1) y.2 y.1 s
      refine ih (hk.count.symm ▸ hhi) ?_ hx
      exact (congrArg Option.isSome (recordPlain_of_tags hk.toTagsKept _ _)).trans hp

/-! ### The end of a sweep -/

theorem sweepKept_sweepFlags (s : State) : SweepKept s (sweepFlags s) := by
  refine sweepKept_forAll _ _ (fun h s => sweepKept_ite ?_ ?_) s
  · exact sweepKept_forAll _ _ (fun _ s => sweepKept_modCell _ _ s) s
  · refine sweepKept_trans ?_ (sweepKept_forAll _ _ (fun _ s => sweepKept_modCell _ _ s) _)
    refine sweepKept_trans ?_ (sweepKept_ite (sweepKept_refl _) (sweepKept_raiseC _ _ _))
    exact sweepKept_trans (sweepKept_modNode h _ s) (sweepKept_raiseC _ _ _)

theorem sweepKept_sweepBreak (s : State) : SweepKept s (sweepBreak s) := by
  unfold sweepBreak
  exact sweepKept_ite (sweepKept_of_view rfl) (sweepKept_of_view rfl)

theorem sweepKept_sweepProbe (s : State) : SweepKept s (sweepProbe s) := by
  unfold sweepProbe
  split
  · exact sweepKept_refl s
  · refine sweepKept_ite (sweepKept_refl s) (sweepKept_ite (sweepKept_of_view rfl) ?_)
    refine sweepKept_trans ?_ (sweepKept_ite (sweepKept_raiseC _ _ _) (sweepKept_refl _))
    exact sweepKept_of_view rfl
  · refine sweepKept_ite ?_ (sweepKept_ite (sweepKept_refl s) (sweepKept_of_view rfl))
    refine sweepKept_ite ?_ (sweepKept_of_view rfl)
    refine sweepKept_trans ?_ (sweepKept_queued (queued_queueBoth _ _))
    exact sweepKept_of_view rfl

theorem sweepKept_cancelChannelChange (act : Nat) (s : State) : SweepKept s (cancelChannelChange act s) := by
  refine sweepKept_trans (sweepKept_trans ?_ (sweepKept_queued (queued_queueBoth _ _))) (sweepKept_raiseF _ _ _)
  exact sweepKept_of_view rfl

theorem sweepKept_sweepChannel (s : State) : SweepKept s (sweepChannel s) := by
  unfold sweepChannel
  split
  · refine sweepKept_ite (sweepKept_refl s) (sweepKept_ite ?_ ?_)
    · exact sweepKept_cancelChannelChange _ s
    · exact sweepKept_of_view rfl
  · exact sweepKept_refl s

theorem sweepKept_sweepChain (s : State) : SweepKept s (sweepChain s) := by
  refine sweepKept_trans (sweepKept_trans (sweepKept_trans (sweepKept_trans ?_ (sweepKept_sweepFlags _)) (sweepKept_sweepBreak _))
    (sweepKept_sweepProbe _)) (sweepKept_sweepChannel _)
  exact sweepKept_of_view rfl

theorem sweepKept_setLead (h k : Nat) (x : Int) (src : LeadSrc) (s : State) : SweepKept s (setLead h k x src s) := by
  unfold setLead
  extract_lets nd s1
  refine sweepKept_trans (t := s1) ?_ (sweepKept_ite (sweepKept_of_view rfl) (sweepKept_refl s1))
  exact sweepKept_ite (sweepKept_of_view rfl) (sweepKept_refl s)

theorem sweepKept_learnSample (h k : Nat) (x : Int) (s : State) : SweepKept s (learnSample h k x s) := by
  unfold learnSample
  refine sweepKept_ite (sweepKept_raiseC _ _ s) ?_
  refine sweepKept_trans ?_ (sweepKept_ite (sweepKept_setLead _ _ _ _ _) (sweepKept_refl _))
  exact sweepKept_modCell _ _ s

theorem sweepKept_learnNode (h : Nat) (before during after : List Nat) (bal : Nat) (s : State) :
    SweepKept s (learnNode h before during after bal s) := by
  have sampleIf (p : Bool) (k : Nat) (x : Int) (s : State) : SweepKept s (if p then learnSample h k x s else s) :=
    sweepKept_ite (sweepKept_learnSample h k x s) (sweepKept_refl s)
  refine sweepKept_forAll _ _ (fun i s => sweepKept_ite (sweepKept_refl s) ?_) s
  refine sweepKept_trans ?_ (sweepKept_ite (sampleIf _ _ _ _) (sampleIf _ _ _ _))
  exact sweepKept_ite (sampleIf _ _ _ s) (sampleIf _ _ _ s)

theorem sweepKept_learnSweep (s : State) : SweepKept s (learnSweep s) := by
  unfold learnSweep
  split
  · exact sweepKept_refl s
  · refine sweepKept_ite (sweepKept_of_view rfl) (sweepKept_ite (sweepKept_of_view rfl) (sweepKept_ite ?_
      (sweepKept_ite (sweepKept_of_view rfl) (sweepKept_refl s))))
    refine sweepKept_ite (sweepKept_of_view rfl) ?_
    refine sweepKept_trans ?_ (sweepKept_forAll _ _ (fun h s => ?_) _)
    · exact sweepKept_of_view rfl
    · split
      · exact sweepKept_learnNode _ _ _ _ _ s
      · exact sweepKept_refl s

theorem sweepKept_computeDuties (s : State) : SweepKept s (computeDuties s) := by
  refine sweepKept_trans (sweepKept_forAll _ _ (fun n t => ?_) s) (sweepKept_forAll _ _ (fun h t => ?_) _)
  · exact sweepKept_ite (sweepKept_modCell _ _ t) (sweepKept_modCell _ _ t)
  · exact sweepKept_ite (sweepKept_forAll _ _ (fun _ t => sweepKept_modCell _ _ t) t) (sweepKept_refl t)

theorem sweepKept_sweepEnd (s : State) : SweepKept s (sweepEnd s) := by
  refine sweepKept_trans (sweepKept_computeDuties s) ?_
  exact sweepKept_of_view rfl

theorem sweepKept_completeIfDone (s : State) : SweepKept s (completeIfDone s) := by
  refine sweepKept_ite ?_ (sweepKept_refl s)
  exact sweepKept_trans (sweepKept_trans (sweepKept_keep (sweepKept_sweepChain s)) (sweepKept_learnSweep _))
    (sweepKept_keep (sweepKept_sweepEnd _))

/-! ### What the events of a sweep read -/

theorem halfOf_congr {s t : State} (hc : t.chain = s.chain) (hst : t.store = s.store) (r : Radio) : halfOf r t = halfOf r s := by
  simp only [halfOf, hc, cfgN_of_store hst]

theorem halfLen_congr {s t : State} (hc : t.chain = s.chain) (hst : t.store = s.store) (r : Radio) : halfLen r t = halfLen r s := by
  simp only [halfLen, halfOf_congr hc hst]

theorem trainDue_congr {s t : State} (hc : t.chain = s.chain) (hst : t.store = s.store) (r : Radio) : trainDue r t = trainDue r s := by
  simp only [trainDue, halfLen_congr hc hst, hc]

theorem sweepDone_congr {s t : State} (hsw : t.chain.sweep = s.chain.sweep) (ha : t.chain.fencedA = s.chain.fencedA)
    (hb : t.chain.fencedB = s.chain.fencedB) (htopo : t.chain.topo = s.chain.topo) : sweepDone t = sweepDone s := by
  simp only [sweepDone, needsRecovery, halfSweep, radioFenced, hsw, ha, hb, htopo]

theorem isFenced_of_canSweep {s : State} (h : canSweep s = true) : isFenced .m s = false := by
  simp only [canSweep, Bool.and_eq_true, Bool.not_eq_true'] at h
  exact h.1.2

theorem sweepDone_of_half {r : Radio} {s : State} (h : (halfSweep r s).done = false) : sweepDone s = false := by
  cases r <;> simp [sweepDone, h]

theorem completeIfDone_notDone {s : State} (h : sweepDone s = false) : completeIfDone s = s := if_neg (by simp [h])

/-- What a radio hears at t is counted first (R49). -/
def heardAt (r : Radio) (t : Nat) (s : State) : State := countFrame r (atTime t s)

@[simp] theorem heardAt_chain (r : Radio) (t : Nat) (s : State) : (heardAt r t s).chain = s.chain := by cases r <;> rfl
@[simp] theorem heardAt_cells (r : Radio) (t : Nat) (s : State) : (heardAt r t s).cells = s.cells := by cases r <;> rfl
@[simp] theorem heardAt_store (r : Radio) (t : Nat) (s : State) : (heardAt r t s).store = s.store := by cases r <;> rfl
@[simp] theorem heardAt_now (r : Radio) (t : Nat) (s : State) : (heardAt r t s).now = max s.now t := by cases r <;> rfl
@[simp] theorem heardAt_packKey (r : Radio) (t : Nat) (s : State) : (heardAt r t s).chctl.packKey = s.chctl.packKey := by cases r <;> rfl

theorem only_heardAt (r : Radio) (t : Nat) (s : State) : Only [.now, .chctl] s (heardAt r t s) := by
  refine only_trans (only_mono (only_atTime t s) (by simp)) ?_
  cases r <;> exact only_mono (only_chctl _ _) (by simp)

theorem halfSweep_heardAt (q r : Radio) (t : Nat) (s : State) : halfSweep q (heardAt r t s) = halfSweep q s := by
  simp only [halfSweep, heardAt_chain]

theorem tagsKept_heardAt (r : Radio) (t : Nat) (s : State) : TagsKept s (heardAt r t s) where
  ctr := by rw [heardAt_chain]
  count := by rw [heardAt_chain]
  packKey := heardAt_packKey r t s
  node h := by simp only [nodeAt, heardAt_cells, and_self]

/-! ### Halves -/

theorem halfSweep_modHalf (r : Radio) (f : HalfSweep → HalfSweep) (s : State) : halfSweep r (modHalf r f s) = f (halfSweep r s) := by
  cases r <;> rfl

theorem tagsKept_modHalf (r : Radio) (f : HalfSweep → HalfSweep) (s : State) : TagsKept s (modHalf r f s) := by
  cases r <;> exact ⟨rfl, rfl, rfl, fun _ => ⟨rfl, rfl⟩⟩

/-- A broken half is marked, and its code is active (R41). -/
theorem breakHalf_breaks (r : Radio) (s : State) :
    TagsKept s (breakHalf r s) ∧ (breakHalf r s).now = s.now ∧ halfSweep r (breakHalf r s) = { halfSweep r s with broken := true } ∧
    isActive (if r = .a then 0x2003 else 0x2004) wide (breakHalf r s) = true := by
  have hcode : breakHalf r s = raiseC (if r = .a then 0x2003 else 0x2004) wide (modHalf r (fun x => { x with broken := true })
      { s with chain := { s.chain with sweep := { s.chain.sweep with split := true } } }) := by cases r <;> rfl
  rw [hcode]
  generalize hs1 : ({ s with chain := { s.chain with sweep := { s.chain.sweep with split := true } } } : State) = s1
  have h1 : TagsKept s s1 := by
    subst hs1
    exact ⟨rfl, rfl, rfl, fun _ => ⟨rfl, rfl⟩⟩
  have hnow : s1.now = s.now := by rw [← hs1]
  have hhalf : halfSweep r s1 = halfSweep r s := by
    subst hs1
    cases r <;> rfl
  have hk := sweepKept_raiseC (if r = .a then 0x2003 else 0x2004) wide (modHalf r (fun x => { x with broken := true }) s1)
  refine ⟨tagsKept_trans (tagsKept_trans h1 (tagsKept_modHalf _ _ _)) hk.toTagsKept, ?_, ?_, ?_⟩
  · rw [hk.now, Laws.modHalf_now, hnow]
  · rw [hk.half, halfSweep_modHalf, hhalf]
  · exact isActive_raiseF _ _ _

/-- The train of a radio's own half ends it, and each of its records whose tag verifies is taken (R35, R41, R53). -/
theorem ownTrain_ends (r : Radio) (t : Nat) (b : List Byte) (s : State) :
    let u := ownTrain r t b s
    (halfSweep r u).done = true ∧ (halfSweep r u).doneAt = t ∧ u.now = s.now ∧
    ∀ x ∈ (trainRecs b).zipIdx, 1 ≤ trainNode r (fieldU b 2 1) x.2 → trainNode r (fieldU b 2 1) x.2 ≤ s.chain.n →
      (recordPlain (trainNode r (fieldU b 2 1) x.2) x.1 s).isSome = true →
      ∃ g ∈ u.chain.sweep.got, g.node = trainNode r (fieldU b 2 1) x.2 := by
  unfold ownTrain
  extract_lets brk s1 u
  have hmod : TagsKept s s1 := tagsKept_modHalf _ _ s
  have hhalf : halfSweep r s1 = { halfSweep r s with done := true, doneAt := t } := halfSweep_modHalf _ _ s
  have hstart : ∃ s2, u = takeRecords r b s2 ∧ TagsKept s s2 ∧ s2.now = s.now ∧ (halfSweep r s2).done = true ∧
      (halfSweep r s2).doneAt = t := by
    refine ⟨_, rfl, ?_⟩
    split
    · obtain ⟨htags, hnow, hbroken, -⟩ := breakHalf_breaks r s1
      exact ⟨tagsKept_trans hmod htags, hnow.trans (Laws.modHalf_now _ _ _), by rw [hbroken, hhalf], by rw [hbroken, hhalf]⟩
    · exact ⟨hmod, Laws.modHalf_now _ _ _, by rw [hhalf], by rw [hhalf]⟩
  obtain ⟨s2, hu, htags, hnow, hdone, hat⟩ := hstart
  have hk := sweepKept_takeRecords r b s2
  rw [hu]
  refine ⟨by rw [hk.half, hdone], by rw [hk.half, hat], by rw [hk.now, hnow], fun x hx hlo hhi hp => ?_⟩
  exact takeRecords_got hx hlo (htags.count.symm ▸ hhi) ((congrArg Option.isSome (recordPlain_of_tags htags _ _)).trans hp)

theorem sweepKept_stretchCheck (t : Nat) (s : State) : SweepKept s (stretchCheck t s) := by
  refine sweepKept_ite ?_ (sweepKept_refl s)
  refine sweepKept_trans ?_ (sweepKept_raiseC _ _ _)
  exact sweepKept_of_view rfl

/-! ### Events of the running sweep -/

/-- An event of the sweep completes, and what follows it leaves the event's effect. -/
theorem exec_sweepEvent {i : Instr} {f : State → State} {s : State} (hl : live s = true)
    (he : exec i s = whenLive (fun s => completeIfDone (keep f s)) s) :
    ∃ u, exec i s = .next u ∧ u.pending = s.pending ∧ SweepKept (f s.begin) u := by
  refine ⟨_, he.trans (whenLive_next hl), rfl, ?_⟩
  refine sweepKept_trans (sweepKept_trans ?_ (sweepKept_completeIfDone _)) (sweepKept_of_view rfl)
  exact sweepKept_of_view rfl

/-- Where the sweep goes on, an event changes what its effect changes. -/
theorem ends_sweepEvent {i : Instr} {f : State → State} {s : State} {ps : List Part} {P : State → Prop} (hl : live s = true)
    (he : exec i s = whenLive (fun s => completeIfDone (keep f s)) s) (hd : sweepDone (f s.begin) = false)
    (ho : Only ps s.begin (f s.begin)) (hp : P (s.keepQueue (keep f s.begin))) : Ends i s ps P := by
  have hc : completeIfDone (keep f s.begin) = keep f s.begin := completeIfDone_notDone hd
  exact ends_whenLive he hl (hc.symm ▸ only_keep ho) (hc.symm ▸ hp)

section
variable {r : Radio} {t : Nat} {b : List Byte} {s : State}

/-- A train that a radio of a chain that can sweep hears. -/
theorem trainReceive_heard (hc : canSweep s = true) (hr : radioFenced r s = false) : trainReceive r t b s =
    if airCrcOk b then
      if !trainOk r b then heardAt r t s
      else if !trainNow b s then forAll (trainRecs b) (fun _ s => countMicErr s) (heardAt r t s)
      else if !s.chain.sweep.active then heardAt r t s
      else if bitOf (fieldU b 4 1) 6 then
        if !(halfSweep r s).recovering then heardAt r t s
        else if recoveryDue r (heardAt r t s) < t then endRecovery r (recoveryDue r (heardAt r t s)) (heardAt r t s)
        else endRecovery r t (takeRecords r b (heardAt r t s))
      else if (halfSweep r s).done then heardAt r t s
      else if trainDue r s < t then missTrain r (heardAt r t s)
      else ownTrain r t b (heardAt r t s)
    else countCrcErr r (heardAt r t s) := by
  have hnow : trainNow b (heardAt r t s) = trainNow b s := by simp only [trainNow, heardAt_chain]
  have hdue : trainDue r (heardAt r t s) = trainDue r s := trainDue_congr (heardAt_chain r t s) (heardAt_store r t s) r
  rw [← hnow, ← hdue, ← halfSweep_heardAt r r t s, ← heardAt_chain r t s]
  exact guardOn_true (by simp [isFenced_of_canSweep hc, hr, hc]) _ s

theorem trainReceive_own (hc : canSweep s = true) (hr : radioFenced r s = false) (hcrc : airCrcOk b = true) (hok : trainOk r b = true)
    (hnow : trainNow b s = true) (ha : s.chain.sweep.active = true) (h6 : bitOf (fieldU b 4 1) 6 = false)
    (hd : (halfSweep r s).done = false) (hdue : t ≤ trainDue r s) : trainReceive r t b s = ownTrain r t b (heardAt r t s) := by
  rw [trainReceive_heard hc hr]
  simp [hcrc, hok, hnow, ha, h6, hd, Nat.not_lt.2 hdue]

theorem trainReceive_badCrc (hc : canSweep s = true) (hr : radioFenced r s = false) (hcrc : airCrcOk b = false) :
    trainReceive r t b s = countCrcErr r (heardAt r t s) := by
  rw [trainReceive_heard hc hr]
  simp [hcrc]

theorem trainReceive_otherSweep (hc : canSweep s = true) (hr : radioFenced r s = false) (hcrc : airCrcOk b = true)
    (hok : trainOk r b = true) (hnow : trainNow b s = false) :
    trainReceive r t b s = forAll (trainRecs b) (fun _ s => countMicErr s) (heardAt r t s) := by
  rw [trainReceive_heard hc hr]
  simp [hcrc, hok, hnow]

theorem countCrcErr_counts (r : Radio) (s : State) :
    Only [.chain, .chctl] s (countCrcErr r s) ∧
    (countCrcErr r s).chain.crcErrA = (if r = .a then incSat32 s.chain.crcErrA else s.chain.crcErrA) ∧
    (countCrcErr r s).chain.crcErrB = (if r = .b then incSat32 s.chain.crcErrB else s.chain.crcErrB) ∧
    (countCrcErr r s).chain.sweep = s.chain.sweep ∧ sweepDone (countCrcErr r s) = sweepDone s := by
  cases r <;> exact ⟨only_chainCtl _ _ s, rfl, rfl, rfl, sweepDone_congr rfl rfl rfl rfl⟩

theorem only_countMicErr (s : State) : Only [.chain, .chctl, .flt] s (countMicErr s) := by
  unfold countMicErr
  extract_lets _ _ s1
  refine only_trans (t := s1) (only_mono (only_chainCtl _ _ s) (by simp)) ?_
  split
  · exact only_mono (only_raiseC _ _ s1) (by simp)
  · exact only_refl _ s1

theorem countMicErr_chain (s : State) : (countMicErr s).chain = { s.chain with micErr := incSat32 s.chain.micErr } := by
  unfold countMicErr
  dsimp only
  split
  · exact only_raiseC _ _ _ .chain (by decide)
  · rfl

/-- Failing tags change neither the sweep nor what its end depends on. -/
theorem countMicErrs_chain (xs : List (List Byte)) (s : State) :
    let u := forAll xs (fun _ s => countMicErr s) s
    u.chain.sweep = s.chain.sweep ∧ u.chain.crcErrA = s.chain.crcErrA ∧ u.chain.crcErrB = s.chain.crcErrB ∧ sweepDone u = sweepDone s := by
  have hg {β : Type} (g : ChainRegs → β) (h : ∀ c e, g { c with micErr := e } = g c) :
      g (forAll xs (fun _ s => countMicErr s) s).chain = g s.chain :=
    forAll_eq (fun s => g s.chain) xs _ (fun _ s => by rw [countMicErr_chain, h]) s
  exact ⟨hg (·.sweep) fun _ _ => rfl, hg (·.crcErrA) fun _ _ => rfl, hg (·.crcErrB) fun _ _ => rfl,
    sweepDone_congr (hg (·.sweep) fun _ _ => rfl) (hg (·.fencedA) fun _ _ => rfl) (hg (·.fencedB) fun _ _ => rfl)
      (hg (·.topo) fun _ _ => rfl)⟩

theorem trainDeadline_passed (ha : s.chain.sweep.active = true) (hc : canSweep s = true) (hr : radioFenced r s = false)
    (hd : (halfSweep r s).done = false) (hdue : trainDue r s ≤ t) : trainDeadline r t s = missTrain r (atTime t s) :=
  guardOn_true (by simp [ha, hc, hr, hd, hdue]) _ s

theorem missTrain_ends (r : Radio) (s : State) :
    let u := missTrain r s
    (halfSweep r u).done = true ∧ (halfSweep r u).doneAt = trainDue r s ∧ (halfSweep r u).broken = true ∧ u.now = s.now ∧
    isActive (if r = .a then 0x2003 else 0x2004) wide u = true := by
  obtain ⟨-, hnow, hhalf, hact⟩ := breakHalf_breaks r (modHalf r (fun x => { x with done := true, doneAt := trainDue r s }) s)
  rw [halfSweep_modHalf] at hhalf
  refine ⟨?_, ?_, ?_, hnow.trans (Laws.modHalf_now _ _ _), hact⟩ <;> exact congrArg _ hhalf

theorem sends_trainDeadline (hl : live s = true) (hd : (halfSweep r s).done = false) (hdue : t < trainDue r s) :
    Sends (.trainDeadline r t) s [] := by
  have he : trainDeadline r t s.begin = s.begin := guardOn_false (by simp [show ¬ trainDue r s.begin ≤ t from Nat.not_le.2 hdue]) _ _
  refine sends_whenLive (f := fun s => completeIfDone (keep (trainDeadline r t) s)) rfl hl ?_
  rw [keep_of_store (by rw [he]), he]
  exact completeIfDone_notDone (sweepDone_of_half (s := s.begin) hd)

/-- The recovery of a radio begins: its half notes it, and the acting member sends the beacon (R42). -/
theorem recoveryStart_starts (ha : s.chain.sweep.active = true) (hc : canSweep s = true) (hr : radioFenced r s = false)
    (hn : needsRecovery (otherRadio r) s = true) (hd : (halfSweep r s).done = true) (hd' : (halfSweep (otherRadio r) s).done = true)
    (hrec : (halfSweep r s).recovering = false) (hrecd : (halfSweep r s).recovered = false)
    (hturn : r = .b ∨ (halfSweep .a s).broken = false ∨ (halfSweep .b s).recovered = true) (hfrom : recoveryFrom r s ≤ t) :
    let u := recoveryStart r t s
    Only [.now, .chain] s u ∧ (halfSweep r u).recovering = true ∧ (halfSweep r u).recReach = recoveryReach r s ∧
    (halfSweep r u).recInstant = t + (recoveryReach r s - 1) * 48000 ∧
    u.out = s.out ++ if acts s then
      [.radio r (channelOf r s) 10
        (onAir (beaconBody s.chctl.packKey r (recoveryReach r s) (recoveryReach r s) s.chain.sweepCtr true))] else [] := by
  have hg : (s.chain.sweep.active && !radioFenced r s && !isFenced .m s && needsRecovery (otherRadio r) s &&
      (halfSweep r s).done && (halfSweep (otherRadio r) s).done && !(halfSweep r s).recovering && !(halfSweep r s).recovered &&
      (r == .b || !(halfSweep .a s).broken || (halfSweep .b s).recovered) && decide (recoveryFrom r s ≤ t)) = true := by
    have hturn' : (r == .b || !(halfSweep .a s).broken || (halfSweep .b s).recovered) = true := by
      rcases hturn with rfl | h | h <;> simp [*]
    simp only [ha, hr, isFenced_of_canSweep hc, hn, hd, hd', hrec, hrecd, hturn', hfrom, decide_true, Bool.not_false, Bool.and_true]
  unfold recoveryStart
  rw [guardOn_true hg]
  have hsent (u : State) : Only [] u (if acts u then sendBeacon r (recoveryReach r s) (recoveryReach r s) true u else u) := by
    split
    · exact only_emit _ u
    · exact only_refl _ u
  extract_lets s1 reach s2 u
  have hu : Only [] s2 u := hsent s2
  have hhalf : halfSweep r u = { halfSweep r s with
      recovering := true, recReach := recoveryReach r s, recInstant := t + (recoveryReach r s - 1) * 48000 } := by
    have hch : u.chain = s2.chain := hu .chain (by simp)
    simp only [halfSweep, hch]
    exact halfSweep_modHalf r _ s1
  refine ⟨only_trans (only_mono (only_atTime t s) (by simp)) (only_trans (only_mono (only_modHalf _ _ s1) (by simp))
    (only_mono hu (by simp))), by rw [hhalf], by rw [hhalf], by rw [hhalf], ?_⟩
  have hacts : acts s2 = acts s := by cases r <;> rfl
  unfold u
  rw [hacts]
  cases acts s with
  | false => cases r <;> exact (List.append_nil _).symm
  | true => cases r <;> rfl

theorem recoveryEnd_passed (ha : s.chain.sweep.active = true) (hrec : (halfSweep r s).recovering = true) (hdue : recoveryDue r s ≤ t) :
    recoveryEnd r t s = endRecovery r (recoveryDue r s) (atTime t s) :=
  guardOn_true (by simp [ha, hrec, hdue]) _ s

theorem endRecovery_ends (r : Radio) (t : Nat) (s : State) :
    let u := endRecovery r t s
    (halfSweep r u).recovering = false ∧ (halfSweep r u).recovered = true ∧ (halfSweep r u).recEndAt = t ∧ u.now = s.now := by
  have hk := sweepKept_stretchCheck t (modHalf r (fun x => { x with recovering := false, recovered := true, recEndAt := t }) s)
  have hhalf := (hk.half r).trans (halfSweep_modHalf _ _ s)
  refine ⟨?_, ?_, ?_, hk.now.trans (Laws.modHalf_now _ _ _)⟩ <;> exact congrArg _ hhalf

end

/-- Settles O13: each event has its own lemma, and the completion of the sweep that may follow leaves halves, records and codes. -/
theorem sweepEventsEndTheirHalf : Obligations.SweepEventsEndTheirHalf := by
  intro r t s hl ha hc hr
  refine ⟨?own, fun b hnd => ⟨?badCrc, ?otherSweep⟩, ?deadline, sends_trainDeadline hl, ?recovery, ?recoveryEnd⟩
  case own =>
    intro b hcrc hok hnow h6 hd hdue
    obtain ⟨u, hu, hp, hk⟩ := exec_sweepEvent (i := .trainReceive r t b) (f := trainReceive r t b) hl rfl
    rw [trainReceive_own (s := s.begin) hc hr hcrc hok hnow ha h6 hd hdue] at hk
    obtain ⟨hdone, hat, htime, hgot⟩ := ownTrain_ends r t b (heardAt r t s.begin)
    refine ⟨u, hu, hp, by rw [hk.half, hdone], by rw [hk.half, hat], by rw [hk.now, htime, heardAt_now]; rfl, ?_⟩
    intro x hx hlo hhi hsome
    have hplain := recordPlain_of_tags (tagsKept_heardAt r t s.begin) (trainNode r (fieldU b 2 1) x.2) x.1
    obtain ⟨g, hg, hn⟩ := hgot x hx hlo (by rw [heardAt_chain]; exact hhi) ((congrArg Option.isSome hplain).trans hsome)
    exact List.any_eq_true.2 ⟨g, hk.got g hg, beq_iff_eq.2 hn⟩
  case badCrc =>
    intro hcrc
    obtain ⟨honly, hA, hB, hsw, hdone⟩ := countCrcErr_counts r (heardAt r t s.begin)
    have e : trainReceive r t b s.begin = _ := trainReceive_badCrc (s := s.begin) hc hr hcrc
    rw [heardAt_chain] at hA hB hsw
    refine ends_sweepEvent (f := trainReceive r t b) hl rfl ?_ ?_ ?_
    · rw [e, hdone, sweepDone_congr (s := s) (by rw [heardAt_chain]; rfl) (by rw [heardAt_chain]; rfl) (by rw [heardAt_chain]; rfl)
        (by rw [heardAt_chain]; rfl), hnd]
    · rw [e]
      exact only_trans (only_mono (only_heardAt r t _) (by simp)) (only_mono honly (by simp))
    · rw [keepQueue_chain, keep_chain, e]
      exact ⟨hA, hB, hsw⟩
  case otherSweep =>
    intro hcrc hok hnow
    obtain ⟨hsw, hA, hB, hdone⟩ := countMicErrs_chain (trainRecs b) (heardAt r t s.begin)
    have e : trainReceive r t b s.begin = _ := trainReceive_otherSweep (s := s.begin) hc hr hcrc hok hnow
    rw [heardAt_chain] at hA hB hsw
    refine ends_sweepEvent (f := trainReceive r t b) hl rfl ?_ ?_ ?_
    · rw [e, hdone, sweepDone_congr (s := s) (by rw [heardAt_chain]; rfl) (by rw [heardAt_chain]; rfl) (by rw [heardAt_chain]; rfl)
        (by rw [heardAt_chain]; rfl), hnd]
    · rw [e]
      exact only_trans (only_mono (only_heardAt r t _) (by simp))
        (only_mono (only_forAll _ _ _ (fun _ s => only_countMicErr s) _) (by simp))
    · rw [keepQueue_chain, keep_chain, e]
      exact ⟨hsw, hA, hB⟩
  case deadline =>
    intro hd hdue
    obtain ⟨u, hu, hp, hk⟩ := exec_sweepEvent (i := .trainDeadline r t) (f := trainDeadline r t) hl rfl
    rw [trainDeadline_passed (s := s.begin) ha hc hr hd hdue] at hk
    obtain ⟨hdone, hat, hbroken, htime, hact⟩ := missTrain_ends r (atTime t s.begin)
    refine ⟨u, hu, hp, by rw [hk.half, hdone], by rw [hk.half, hat]; rfl, by rw [hk.half, hbroken], by rw [hk.now, htime]; rfl, ?_⟩
    exact hk.flt _ _ (by split <;> decide) (by split <;> decide) hact
  case recovery =>
    intro hn hd hd' hrec hrecd hturn
    refine ⟨fun hfrom => ?_, fun hfrom => ?_⟩
    · obtain ⟨honly, hrest⟩ := recoveryStart_starts (s := s.begin) ha hc hr hn hd hd' hrec hrecd hturn hfrom
      exact ends_whenLiveK (f := recoveryStart r t) rfl hl honly hrest
    · exact sends_whenLiveK (f := recoveryStart r t) rfl hl
        (guardOn_false (by simp [show ¬ recoveryFrom r s.begin ≤ t from Nat.not_le.2 hfrom]) _ _)
  case recoveryEnd =>
    intro hrec hdue
    obtain ⟨u, hu, hp, hk⟩ := exec_sweepEvent (i := .recoveryEnd r t) (f := recoveryEnd r t) hl rfl
    rw [recoveryEnd_passed (s := s.begin) ha hrec hdue] at hk
    obtain ⟨hoff, hrecd, hat, htime⟩ := endRecovery_ends r (recoveryDue r s.begin) (atTime t s.begin)
    exact ⟨u, hu, hp, by rw [hk.half, hoff], by rw [hk.half, hrecd], by rw [hk.half, hat]; rfl, by rw [hk.now, htime]; rfl⟩

end Sys2Proof.Proofs
end

section
/-! PROOFS. What an accepted command does: the owner's effect of each entry of class WO, and what it leaves alone. -/
namespace Sys2Proof.Proofs
open Sys2Proof Sys2Proof.Machine Sys2Proof.Laws

/-! ### Frames of single parts -/

theorem only_sys (x : SysRegs) (s : State) : Only [.sys] s { s with sys := x } := fun p hp => by
  cases p with
  | sys => exact absurd (by simp) hp
  | _ => rfl

theorem only_sp (x : SpRegs) (s : State) : Only [.sp] s { s with sp := x } := fun p hp => by
  cases p with
  | sp => exact absurd (by simp) hp
  | _ => rfl

theorem only_link (x : LinkRegs) (s : State) : Only [.link] s { s with link := x } := fun p hp => by
  cases p with
  | link => exact absurd (by simp) hp
  | _ => rfl

theorem only_prot (x : ProtRegs) (s : State) : Only [.prot] s { s with prot := x } := fun p hp => by
  cases p with
  | prot => exact absurd (by simp) hp
  | _ => rfl

theorem only_dsp (x : DspRegs) (s : State) : Only [.dsp] s { s with dsp := x } := fun p hp => by
  cases p with
  | dsp => exact absurd (by simp) hp
  | _ => rfl

theorem only_can (x : CanRegs) (s : State) : Only [.can] s { s with can := x } := fun p hp => by
  cases p with
  | can => exact absurd (by simp) hp
  | _ => rfl

theorem only_dio (x : FieldRegs) (s : State) : Only [.dio] s { s with dio := x } := fun p hp => by
  cases p with
  | dio => exact absurd (by simp) hp
  | _ => rfl

theorem only_fw (x : FwRegs) (s : State) : Only [.fw] s { s with fw := x } := fun p hp => by
  cases p with
  | fw => exact absurd (by simp) hp
  | _ => rfl

theorem only_recd (x : RecRegs) (s : State) : Only [.recd] s { s with recd := x } := fun p hp => by
  cases p with
  | recd => exact absurd (by simp) hp
  | _ => rfl

theorem only_pairOut (x : PairRegs) (o : List Output) (s : State) : Only [.pair] s { s with pair := x, out := o } := fun p hp => by
  cases p with
  | pair => exact absurd (by simp) hp
  | _ => rfl

/-! ### Effects over a list -/

/-- What the effect of one element makes, and every effect keeps, holds once the list has been gone through; I holds throughout. -/
theorem forAll_establishes {α : Type} {I P : State → Prop} {xs : List α} {f : α → State → State} {x : α} (hx : x ∈ xs)
    (hinv : ∀ y s, I s → I (f y s)) (hkeep : ∀ y ∈ xs, ∀ s, P s → P (f y s)) (hmake : ∀ s, I s → P (f x s)) {s : State} (hs : I s) :
    P (forAll xs f s) := by
  have hstays (ys : List α) (hys : ∀ y ∈ ys, ∀ s, P s → P (f y s)) (s : State) (h : P s) : P (forAll ys f s) := by
    unfold forAll
    induction ys generalizing s with
    | nil => exact h
    | cons y ys ih => exact ih (fun z hz => hys z (List.mem_cons_of_mem _ hz)) _ (hys y List.mem_cons_self s h)
  unfold forAll
  induction xs generalizing s with
  | nil => simp at hx
  | cons y ys ih =>
    have hrest : ∀ z ∈ ys, ∀ s, P s → P (f z s) := fun z hz => hkeep z (List.mem_cons_of_mem _ hz)
    rcases List.mem_cons.1 hx with rfl | hx
    · exact hstays ys hrest _ (hmake s hs)
    · exact ih hx hrest (hinv y s hs)

/-! ### Codes -/

theorem isActive_clearF_of_not {c k : Nat} (c' k' : Nat) {s : State} (h : isActive c k s = false) : isActive c k (clearF c' k' s) = false := by
  by_cases he : c = c' ∧ k = k'
  · obtain ⟨rfl, rfl⟩ := he
    exact isActive_clearF c k s
  · exact (isActive_clearF_other (by omega) s).trans h

theorem anyActive_false_iff {c : Nat} {s : State} : anyActive c s = false ↔ ∀ k, isActive c k s = false := by
  simp only [anyActive, isActive, List.any_eq_false, Bool.and_eq_true, beq_iff_eq, not_and]
  exact ⟨fun h k a ha hc _ => h a ha hc, fun h a ha hc => h a.inst a ha hc rfl⟩

theorem only_clearAll (c : Nat) (s : State) : Only [.flt] s (clearAll c s) :=
  only_forAll _ _ _ (fun _ s => only_clearF _ _ s) s

theorem isActive_clearEach_of_not {c k : Nat} (c' : Nat) (xs : List ActiveFault) {s : State} (h : isActive c k s = false) :
    isActive c k (forAll xs (fun a => clearF c' a.inst) s) = false := by
  unfold forAll
  induction xs generalizing s with
  | nil => exact h
  | cons a xs ih => exact ih (isActive_clearF_of_not _ _ h)

theorem anyActive_clearAll_of_not {c : Nat} (c' : Nat) {s : State} (h : anyActive c s = false) : anyActive c (clearAll c' s) = false := by
  rw [anyActive_false_iff] at h ⊢
  exact fun k => isActive_clearEach_of_not _ _ (h k)

theorem anyActive_clearAll (c : Nat) (s : State) : anyActive c (clearAll c s) = false := by
  rw [anyActive_false_iff]
  intro k
  cases h : isActive c k s with
  | true =>
    obtain ⟨a, ha, hc, rfl⟩ := isActive_iff.1 h
    exact forAll_establishes (P := fun s => isActive c a.inst s = false) (f := fun a s => clearF c a.inst s) (x := a)
      (xs := s.flt.active.filter (·.code == c)) (I := fun _ => True)
      (List.mem_filter.2 ⟨ha, beq_iff_eq.2 hc⟩) (fun _ _ _ => trivial) (fun _ _ _ h => isActive_clearF_of_not _ _ h)
      (fun s _ => isActive_clearF c _ s) trivial
  | false => exact isActive_clearEach_of_not _ _ h

/-! ### Bits -/

theorem bitMap_succ (n : Nat) (f : Nat → Bool) : bitMap (n + 1) f = if f n then bitMap n f + 2 ^ n else bitMap n f := by
  simp [bitMap, List.range_succ]

theorem bitOf_eq_testBit (x i : Nat) : bitOf x i = x.testBit i := by
  rw [Nat.testBit_eq_decide_div_mod_eq]
  rfl

theorem bitMap_lt (n : Nat) (f : Nat → Bool) : bitMap n f < 2 ^ n := by
  induction n with
  | zero => simp [bitMap]
  | succ n ih =>
    rw [bitMap_succ, Nat.pow_succ]
    split <;> omega

theorem bitOf_bitMap {n i : Nat} (f : Nat → Bool) (h : i < n) : bitOf (bitMap n f) i = f i := by
  rw [bitOf_eq_testBit]
  induction n with
  | zero => omega
  | succ n ih =>
    have htop : (bitMap n f).testBit n = false := Nat.testBit_lt_two_pow (bitMap_lt n f)
    rw [bitMap_succ]
    rcases Nat.lt_succ_iff_lt_or_eq.1 h with hlt | rfl
    · split
      · rw [Nat.add_comm, Nat.testBit_two_pow_add_gt hlt, ih hlt]
      · exact ih hlt
    · split
      · next hf => rw [Nat.add_comm, Nat.testBit_two_pow_add_eq, htop, hf]; rfl
      · next hf => rw [htop, Bool.eq_false_iff.2 hf]

/-! ### The chain's commands (R26, R54) -/

/-- Sending a COMMAND advances counters, and writes their copies. -/
theorem sendCmd_chain (r : Radio) (c : ChainCmd) (s : State) : ∃ a b x y z, (sendCmd r c s).chain =
    { s.chain with cmdCtrA := a, cmdCtrB := b, storedSweep := x, storedA := y, storedB := z } := by
  unfold sendCmd
  split
  · cases r <;>
    · unfold addCmdCtr setCmdCtr storeCounters
      dsimp only [emit]
      split <;> exact ⟨_, _, _, _, _, rfl⟩
  · exact ⟨_, _, _, _, _, rfl⟩

theorem only_sendCmd (r : Radio) (c : ChainCmd) (s : State) : Only [.chain] s (sendCmd r c s) := by
  unfold sendCmd
  split
  · refine only_trans ?_ (only_mono (only_emit _ _) (by simp))
    refine only_trans ?_ (only_storeCounters _)
    cases r <;> exact only_chain _ s
  · exact only_refl _ s

theorem startEnumeration_starts {s : State} (hd : chainDead s = false) (hn : nodeCount s ≠ 0) :
    Only [.chain, .chctl] s (startEnumeration s) ∧ (startEnumeration s).chain.state = .enumerating := by
  unfold startEnumeration
  rw [if_neg (by simp [hd]), if_neg hn]
  refine ⟨only_trans ?_ (only_mono (only_sendCmd _ _ _) (by simp)), ?_⟩
  · exact only_chainCtl _ _ s
  · obtain ⟨a, b, x, y, z, h⟩ := sendCmd_chain .a .enumInvite
      (loadChainCfg { s with chain := { s.chain with state := .enumerating, sweep := {} } })
    rw [h]
    rfl

theorem keyNode_unkeyed {n : Nat} {s : State} (h : (nodeAt n s).state = .unkeyed) (hlo : 1 ≤ n) (hhi : n ≤ 32) :
    (nodeAt n (keyNode n s)).key = s.chctl.packKey := by
  unfold keyNode
  rw [if_pos (beq_iff_eq.2 h), nodeAt_modNode, if_pos ⟨rfl, by omega⟩]

theorem keyNode_keyed {n : Nat} {s : State} (h : (nodeAt n s).state ≠ .unkeyed) : keyNode n s = s := if_neg (by simpa using h)

theorem packKey_takes (key : List Byte) (s : State) : (packKey key s).chctl.packKey = key := by
  unfold packKey
  extract_lets old s1 _ s2
  have h : Queued s2 (forAll (upTo 1 s2.chain.n) (fun h s => if (nodeAt h s).state == .unkeyed then s else queueNode h (.keyLoad h false) s) s2) := by
    refine queued_forAll _ _ (fun h s => ?_) s2
    split
    · exact queued_refl s
    · exact queued_queueNode _ _ s
  exact queued_view h (·.chctl.packKey) fun _ => rfl

/-! ### The estimator's and the identity's commands (R97, R128) -/

theorem wakeE_dsp (s : State) : (wakeE s).dsp = s.dsp := only_wakeE s .dsp (by decide)

theorem ackAll_clears {p : Nat} (s : State) (h : p < 256) : isActive 0x200E p (wakeE (forAll (List.range 256) ackId s)) = false := by
  refine (isActive_of_flt (only_wakeE _ .flt (by decide)) _ _).trans ?_
  exact forAll_establishes (P := fun s => isActive 0x200E p s = false) (f := ackId) (I := fun _ => True) (x := p) (List.mem_range.2 h) (fun _ _ _ => trivial)
    (fun _ _ _ h => isActive_clearF_of_not _ _ h) (fun s _ => isActive_clearF _ _ s) trivial

theorem only_ackAll (s : State) : Only [.flt, .sys, .est] s (wakeE (forAll (List.range 256) ackId s)) :=
  only_trans (only_mono (only_forAll _ _ _ (fun k s => only_clearF 0x200E k s) s) (by simp)) (only_mono (only_wakeE _) (by simp))

/-! ### Phases and field outputs (R160, R319) -/

theorem only_phaseRestore (n : Nat) (s : State) : Only [.link, .flt] s (phaseRestore n s) := by
  refine only_trans ?_ (only_mono (only_trans (only_forAll _ _ _ (fun j s => only_clearF _ _ s) _) (only_clearF _ _ _)) (by simp))
  exact only_mono (only_link _ s) (by simp)

theorem phaseRestore_faulted {p : Nat} (n : Nat) (s : State) (h : p < 12) :
    bitOf (phaseRestore n s).link.faulted p = (bitOf s.link.faulted p && !bitOf n p) := by
  have hf (js : List Nat) (t : State) : (clearF 0x4012 wide (forAll js (fun j s => clearF 0x4011 j s) t)).link = t.link :=
    (only_clearF _ _ _ .link (by decide)).trans (only_forAll _ js _ (fun j s => only_clearF _ _ s) t .link (by decide))
  have hc : ((List.range 12).filter (bitOf n)).contains p = bitOf n p := by
    rw [Bool.eq_iff_iff, List.contains_iff_mem, List.mem_filter, List.mem_range]
    exact ⟨fun h => h.2, fun hb => ⟨h, hb⟩⟩
  unfold phaseRestore
  dsimp only
  rw [hf, bitOf_bitMap _ h, hc]

theorem phaseRestore_clears {n p : Nat} (s : State) (h : p < 12) (hb : bitOf n p = true) :
    isActive 0x4011 p (phaseRestore n s) = false := by
  refine isActive_clearF_of_not _ _ ?_
  exact forAll_establishes (P := fun s => isActive 0x4011 p s = false) (f := fun j s => clearF 0x4011 j s) (I := fun _ => True) (x := p)
    (List.mem_filter.2 ⟨List.mem_range.2 h, hb⟩) (fun _ _ _ => trivial) (fun _ _ _ h => isActive_clearF_of_not _ _ h) (fun s _ => isActive_clearF _ _ s) trivial

theorem dqLead_of_store {s t : State} (h : t.store = s.store) (k : Nat) : dqLead k t = dqLead k s := by
  simp only [dqLead, cfgN_of_store h]

/-- DIO_DQ_RETRY of one output (R319). -/
theorem only_retryOne (k : Nat) (s : State) :
    Only [.dio, .flt] s (if dqLead k s = k then clearF 0x6021 k (modDq k (fun d => { d with cycles := [] }) s) else s) := by
  split
  · refine only_trans (t := modDq k _ s) ?_ (only_mono (only_clearF _ _ _) (by simp))
    exact only_mono (only_dio _ s) (by simp)
  · exact only_refl _ s

theorem only_dqRetry (n : Nat) (s : State) : Only [.dio, .flt] s (dqRetry n s) := only_forAll _ _ _ only_retryOne s

theorem dqRetry_clears {n q : Nat} {s : State} (hq : q < 16) (hb : bitOf n q = true) (hl : dqLead q s = q) :
    isActive 0x6021 q (dqRetry n s) = false := by
  refine forAll_establishes (P := fun u => isActive 0x6021 q u = false) (I := fun u => u.store = s.store) (x := q) (List.mem_filter.2 ⟨List.mem_range.2 hq, hb⟩)
    (fun k u h => (only_retryOne k u .store (by decide)).trans h) (fun k _ u h => ?_) (fun u h => ?_) rfl
  · split
    · exact isActive_clearF_of_not _ _ h
    · exact h
  · rw [if_pos ((dqLead_of_store h q).trans hl)]
    exact isActive_clearF _ _ _

/-! ### Sequences and trips (R165, R197, R200, R201) -/

/-- Where no sequence runs, an accepted one waits to begin under its JSEQ. -/
theorem acceptSeq_waits (k : SeqKind) (j c : Nat) {s : State} (h : seqRuns s = false) :
    let u := acceptSeq k j c s
    Only [.prot, .flt] s u ∧ u.prot.seq = k ∧ u.prot.seqJ = j ∧ u.prot.seqWait = true := by
  have hprot : (clearF 0x5014 wide s).prot = s.prot := only_clearF _ _ _ .prot (by decide)
  have hclear : Only [.prot, .flt] s (clearF 0x5014 wide s) := only_mono (only_clearF _ _ _) (by simp)
  unfold acceptSeq
  generalize clearF 0x5014 wide s = s1 at hprot hclear
  have hruns : seqRuns { s1 with prot := { s1.prot with openWork := s1.prot.openWork ++ [(j, c)] } } = false := by
    rw [← h]
    simp only [seqRuns, hprot]
  dsimp only
  rw [if_neg (by simp [hruns])]
  refine ⟨only_trans hclear ?_, rfl, rfl, rfl⟩
  exact only_mono (only_prot _ s1) (by simp)

theorem only_modChan (c : Nat) (f : CanChan → CanChan) (s : State) : Only [.can] s (modChan c f s) := only_can _ s

theorem only_wakeChan (c cause : Nat) (s : State) : Only [.can] s (wakeChan c cause s) := by
  unfold wakeChan
  extract_lets s1
  refine only_trans (t := s1) (only_modChan _ _ s) ?_
  split
  · exact only_modChan _ _ s1
  · exact only_refl _ s1

theorem only_leaveParked (s : State) : Only [.sys, .est, .can] s (leaveParked s) := by
  unfold leaveParked canLeaveParked
  have h := only_wakeE s
  generalize wakeE s = t at h
  exact only_trans (only_mono h (by simp)) (only_mono (only_trans (only_wakeChan 0 4 t) (only_wakeChan 1 4 _)) (by simp))

/-- SP_MODE_CMD 0 (R165, R203). -/
theorem modeEffect_parked (j : Nat) {s : State} (h : seqRuns s = false) :
    let u := modeEffect j 0 s
    Only [.prot, .flt, .sys] s u ∧ u.prot.seq = .open_ ∧ u.prot.seqJ = j ∧ u.prot.seqWait = true := by
  obtain ⟨honly, hrest⟩ := acceptSeq_waits .open_ j 0 (s := modSys (fun x => { x with hibernating := false }) s) h
  unfold modeEffect
  rw [if_pos rfl]
  exact ⟨only_trans (only_mono (only_sys _ s) (by simp)) (only_mono honly (by simp)), hrest⟩

/-- SP_MODE_CMD 1 of a string that is PARKED (R165, R200). -/
theorem modeEffect_standby (j : Nat) {s : State} (h : seqRuns s = false) (hp : parked s = true) :
    let u := modeEffect j 1 s
    Only [.prot, .flt, .sys, .est, .can] s u ∧ u.prot.seq = .precharge ∧ u.prot.seqJ = j ∧ u.prot.seqWait = true := by
  unfold modeEffect
  dsimp only
  rw [if_neg (by decide), if_pos rfl, if_pos (show parked (modSys (fun x => { x with hibernating := false }) s) = true from hp)]
  have h1 : Only [.sys] s (modSys (fun x => { x with hibernating := false }) s) := only_sys _ s
  generalize modSys (fun x => { x with hibernating := false }) s = s1 at h1
  have h2 : Only [.sys, .est, .can] s1 (leaveParked s1) := only_leaveParked s1
  generalize leaveParked s1 = s2 at h2
  have hprot : s2.prot = s.prot := (h2 .prot (by decide)).trans (h1 .prot (by decide))
  obtain ⟨honly, hseq, hj, hwait⟩ := acceptSeq_waits .precharge j 1 (s := s2) (by rw [← h]; simp only [seqRuns, hprot])
  refine ⟨?_, hseq, hj, hwait⟩
  refine only_trans (only_mono h1 (by simp)) (only_trans (only_mono h2 (by simp)) (only_trans (only_mono honly (by simp)) ?_))
  exact only_mono (only_prot _ _) (by simp)

/-- SP_MODE_CMD 2 to 4 (R165). -/
theorem modeEffect_run (j : Nat) {n : Nat} (s : State) (h : 2 ≤ n) :
    Only [.sp, .sys] s (modeEffect j n s) ∧ (modeEffect j n s).sp = { s.sp with accepted := .run (modeOf n) } := by
  have hu : modeEffect j n s = { s with sys := { s.sys with hibernating := false }, sp := { s.sp with accepted := .run (modeOf n) } } := by
    unfold modeEffect
    rw [if_neg (by omega), if_neg (by omega)]
    rfl
  rw [hu]
  refine ⟨only_trans (t := { s with sys := { s.sys with hibernating := false } }) ?_ ?_, rfl⟩
  · exact only_mono (only_sys _ s) (by simp)
  · exact only_mono (only_sp _ _) (by simp)

theorem tripReset_resets (s : State) :
    Only [.prot, .flt] s (tripReset s) ∧ (tripReset s).prot = { s.prot with tripped := false, cause := 0 } ∧
    ∀ c ∈ [0x5002, 0x5004, 0x5006, 0x5008, 0x500A, 0x5010, 0x5011, 0x5012], anyActive c (tripReset s) = false := by
  unfold tripReset
  generalize [0x5002, 0x5004, 0x5006, 0x5008, 0x500A, 0x5010, 0x5011, 0x5012] = codes
  have hclear : Only [.flt] s (forAll codes clearAll s) := only_forAll _ _ _ only_clearAll s
  refine ⟨only_trans (only_mono hclear (by simp)) ?_, ?_, fun c hc => ?_⟩
  · exact only_mono (only_prot _ _) (by simp)
  · have hprot : (forAll codes clearAll s).prot = s.prot := hclear .prot (by decide)
    dsimp only
    rw [hprot]
  · exact forAll_establishes (P := fun s => anyActive c s = false) (f := clearAll) (I := fun _ => True) hc (fun _ _ _ => trivial)
      (fun _ _ _ h => anyActive_clearAll_of_not _ h) (fun s _ => anyActive_clearAll c s) trivial

/-! ### The message bus (R302, R305) -/

theorem chan_modChan {c : Nat} (f : CanChan → CanChan) (s : State) (h : c < 2) : chan c (modChan c f s) = f (chan c s) :=
  getAt_modAt_same s.can.ch f h

theorem startRecovery_starts {k : Nat} {s : State} (hk : k < 2) (h : canState k s = 3) :
    Only [.can] s (startRecovery k s) ∧ chan k (startRecovery k s) = { chan k s with mode := .recovering, recAt := s.now } := by
  unfold startRecovery
  rw [if_pos (beq_iff_eq.2 h), chan_modChan _ s hk]
  exact ⟨only_modChan _ _ s, rfl⟩

theorem wakeChan_awake {k : Nat} (cause : Nat) (s : State) (hk : k < 2) :
    (chan k (wakeChan k cause s)).sleepReq = false ∧ (chan k (wakeChan k cause s)).mode ≠ .sleep := by
  unfold wakeChan
  extract_lets s1
  have h1 : (chan k s1).sleepReq = false := by rw [chan_modChan _ s hk]
  split
  · rw [chan_modChan _ s1 hk]
    refine ⟨h1, ?_⟩
    dsimp only
    split <;> decide
  · next h => exact ⟨h1, by simpa using h⟩

/-! ### Resets, tests and the pair (R347, R348, R373, R375) -/

/-- Where no partner has to acknowledge, a reset is due at the next boundary (R347). -/
theorem handOverFirst_alone {s : State} (c : ResetCause) (h : needsAck s = false) :
    handOverFirst c s = modSys (fun x => { x with downDue := some (0, c) }) s :=
  if_neg (by rw [← needsAck, h]; decide)

theorem calStart_starts {s : State} (h : s.sys.calRun = false) :
    calStart s = modSys (fun x => { x with calRun := true, calStep := 0, calBegan := some s.now, calStepAt := s.now }) s :=
  if_neg (by simp [h])

/-- A content sent on the mirror link advances its class's sequence number. -/
theorem sendMirror_eq (cls : Nat) (content : List Byte) (s : State) :
    ∃ o q, sendMirror cls content s = { s with out := o, pair := { s.pair with mseq := q } } := by
  unfold sendMirror forAll
  generalize pieces (content.length / 4096 + 1) content = ps
  induction ps generalizing s with
  | nil => exact ⟨_, _, rfl⟩
  | cons p ps ih =>
    obtain ⟨o, q, h⟩ := ih (sendFrame cls p s)
    exact ⟨o, q, h⟩

theorem startHandover_starts (s : State) :
    Only [.pair] s (startHandover s) ∧ (startHandover s).pair.request = .handover ∧ (startHandover s).pair.handing = true := by
  unfold startHandover
  extract_lets per n dseq
  obtain ⟨o, q, h⟩ := sendMirror_eq clsOrder (toBytes 1 ordHandover ++ toBytes 2 dseq)
    (modPair (fun p => { p with request := .handover, handing := true, handSeq := some dseq }) s)
  rw [h]
  exact ⟨only_pairOut _ _ s, rfl, rfl⟩

theorem setFenceOut_role (on : Bool) (s : State) : (setFenceOut on s).pair.role = s.pair.role := by
  unfold setFenceOut
  split <;> rfl

theorem setFenceOut_fenceOut (on : Bool) (s : State) : (setFenceOut on s).pair.fenceOut = on := by
  unfold setFenceOut
  split
  · next h => exact eq_of_beq h
  · rfl

theorem only_modCu (u : Nat) (f : Cu → Cu) (s : State) : Only [.link] s (modCu u f s) := only_link _ s

theorem only_setRunUnits (m : Mode) (d : Dir) (v : Bool) (s : State) : Only [.link] s (setRunUnits m d v s) :=
  only_trans (only_trans (only_modCu _ _ s) (only_modCu _ _ _)) (only_modCu _ _ _)

theorem only_selectRule (s : State) : Only [.link] s (selectRule s) := by
  unfold selectRule
  exact only_ite (only_refl _ s) (only_ite (only_assertSelect _ s) (only_ite (only_refl _ s) (only_ite (only_assertSelect _ s)
    (only_ite (only_assertSelect _ s) (only_refl _ s)))))

/-- The C island takes the lane; of the pair's registers only the lane's changes. -/
theorem takeLane_pair (s : State) : (takeLane s).pair = { s.pair with laneHeld := true } := by
  have hsel := only_selectRule { s with pair := { s.pair with laneHeld := true } } .pair (by decide)
  unfold takeLane
  extract_lets _ s1 r dwell _ s2
  split
  · split
    · exact hsel
    · exact (only_setRunUnits _ _ _ s2 .pair (by decide)).trans hsel
  · exact hsel

theorem only_modLp (n : Nat) (f : LearnPos → LearnPos) (s : State) : Only [.ident] s (modLp n f s) := fun p hp => by
  cases p with
  | ident => exact absurd (by simp) hp
  | _ => rfl

theorem only_endWait (n : Nat) (s : State) : Only [.ident, .flt] s (endWait n s) := by
  unfold endWait
  extract_lets s1
  refine only_trans (t := s1) (only_mono (only_modLp _ _ s) (by simp)) ?_
  split
  · exact only_refl _ s1
  · exact only_mono (only_clearF _ _ s1) (by simp)

theorem only_journalOwn (type : Nat) (b : List Byte) (s : State) : Only [.ses] s (journalOwn type b s) := fun p hp => by
  cases p with
  | ses => exact absurd (by simp) hp
  | _ => rfl

theorem only_completeLearn (n result : Nat) (s : State) : Only [.ident, .flt, .ses] s (completeLearn n result s) := by
  unfold completeLearn
  dsimp only
  split
  · next e _ =>
    refine only_trans (t := journalCompletion (lpAt n s).entryJ result (toBytes 2 n ++ toBytes 4 e.target) s)
      (only_mono (only_journalOwn _ _ s) (by simp)) (only_trans ?_ (only_mono (only_modLp _ _ _) (by simp)))
    split
    · exact only_mono (only_endWait _ _) (by simp)
    · exact only_refl _ _
  · exact only_refl _ s

theorem only_learnStep (n : Nat) (e : CapLearn) (s : State) : Only [.ident, .flt, .ses] s (learnStep n e s) := by
  unfold learnStep
  split
  · exact only_completeLearn _ _ s
  · split
    · exact only_mono (only_modLp _ _ s) (by simp)
    · exact only_trans (only_mono (only_raiseF _ _ s) (by simp)) (only_completeLearn _ _ _)

theorem only_openLearnCompletion (n : Nat) (s : State) : Only [.ident, .flt, .ses] s (openLearnCompletion n s) := by
  refine only_guardOn _ _ ?_
  split
  · exact only_refl _ s
  · split
    · exact only_trans (only_completeLearn _ _ s) (only_mono (only_modLp _ _ _) (by simp))
    · exact only_learnStep _ _ s

theorem only_completeOpen (s : State) : Only [.ident, .flt, .ses] s (completeOpen s) :=
  only_forAll _ _ _ only_openLearnCompletion s

theorem only_readAllIds (s : State) : Only [.chctl] s (readAllIds s) :=
  only_queued (queued_forAll _ _ (fun _ _ => queued_queueNode _ _ _) s)

theorem only_startEnumeration (s : State) : Only [.chain, .chctl] s (startEnumeration s) := by
  by_cases hd : chainDead s = true
  · unfold startEnumeration
    rw [if_pos hd]
    exact only_refl _ s
  · by_cases hn : nodeCount s = 0
    · unfold startEnumeration
      rw [if_neg hd, if_pos hn]
      exact only_mono (only_chain _ s) (by simp)
    · exact (startEnumeration_starts (Bool.eq_false_iff.2 hd) hn).1

theorem only_fwTakeover (s : State) : Only [.fw] s (fwTakeover s) := by
  unfold fwTakeover
  split
  · exact only_fw _ s
  · exact only_refl _ s

/-- A member that takes the ACTIVE role holds it (R374). -/
theorem becomeActive_role (epoch : Nat) (s : State) : (becomeActive epoch s).pair.role = .active := by
  unfold becomeActive
  extract_lets took handed held s1 s2 s3 s4 s5 s6 _ _ _ _ s7 s8 s9 s10
  have h2 : s2.pair.role = .active := by
    unfold s2
    split
    · exact setFenceOut_role _ _
    · rfl
  have h4 : s4.pair.role = .active := (congrArg (·.role) (only_clearF 0x7807 wide s3 .pair (by decide))).trans h2
  have h5 : s5.pair.role = .active := by
    unfold s5
    split
    · exact h4
    · rw [takeLane_pair]
      exact h4
  have h10 : s10.pair.role = .active := by
    have h : s9.pair = s7.pair := (only_completeOpen s8 .pair (by decide)).trans
      ((only_fwTakeover _ .pair (by decide)).trans (only_storeCounters _ .pair (by decide)))
    have h9 : s9.pair.role = .active := (congrArg (·.role) h).trans h5
    unfold s10
    split
    · exact (congrArg (·.role) (only_readAllIds s9 .pair (by decide))).trans h9
    · exact h9
  split
  · refine (congrArg (·.role) (only_raiseF 0x7805 wide _ .pair (by decide))).trans ?_
    exact h10
  · split
    · exact (congrArg (·.role) (only_startEnumeration s10 .pair (by decide))).trans h10
    · exact h10

/-- PAIR_FORCE_ACTIVE at a member that is not ACTIVE (R373). -/
theorem forceActive_takes {s : State} (hp : s.pair.paired = true) (hr : s.pair.role ≠ .active) :
    (forceActive s).pair.role = .active ∧ (forceActive s).pair.lease = .self ∧ (forceActive s).pair.fenceOut = true := by
  unfold forceActive
  rw [guardOn_true (by simp [hp, hr])]
  have hsq (f : State → State) : (withSq f s).pair = (f s).pair := only_keep (only_settleSq (sqMap s) (f s)) .pair (by decide)
  rw [hsq]
  exact ⟨(setFenceOut_role _ _).trans (becomeActive_role _ _), rfl, setFenceOut_fenceOut _ _⟩

/-! ### Firmware and the recorder (R383, R384, R386, R418) -/

theorem applyStart_starts {s : State} (h : s.fw.state = .deltaStored) :
    let u := applyStart s
    Only [.fw] s u ∧ u.fw.state = .applying ∧ u.fw.block = 0 ∧ bankValid (inactiveBank s) u = false := by
  unfold applyStart
  rw [guardOn_true (beq_iff_eq.2 h)]
  refine ⟨only_trans (only_fw _ s) (only_fw _ _), rfl, rfl, ?_⟩
  unfold bankValid fwJournal setValid
  dsimp only
  split <;> rfl

theorem fwAbortEffect_aborts (s : State) :
    Only [.fw] s (fwAbortEffect s) ∧ (s.fw.state = .applying → (fwAbortEffect s).fw = { s.fw with abort := true }) ∧
    (s.fw.state = .verifying → (fwAbortEffect s).fw = { s.fw with state := .idle }) ∧
    (s.fw.state = .probation → (fwAbortEffect s).fw = { s.fw with backNext := some 0x7A08 }) := by
  refine ⟨?_, fun h => by simp only [fwAbortEffect, h], fun h => by simp only [fwAbortEffect, h], fun h => by simp only [fwAbortEffect, h]⟩
  unfold fwAbortEffect
  split
  · exact only_fw _ s
  · exact only_fw _ s
  · exact only_fw _ s
  all_goals exact only_refl _ s

theorem activate_starts {s : State} (h : s.fw.state = .verified) : Only [.fw, .sys] s (activate s) ∧ (activate s).fw.starting = true := by
  unfold activate
  rw [guardOn_true (beq_iff_eq.2 h)]
  refine ⟨only_trans (t := { s with sys := { s.sys with hibernating := false } }) ?_ ?_, rfl⟩
  · exact only_mono (only_sys _ s) (by simp)
  · exact only_mono (only_fw _ _) (by simp)

theorem recHold_asks (ses : Nat) {n : Nat} {s : State} (hn : 1 ≤ n) (h : s.recd.state ≠ .held) :
    recHold ses n s = { s with recd := { s.recd with holdWant := some (ses, n) } } := by
  unfold recHold
  rw [if_neg (by omega), if_neg (by simpa using h)]

/-- Settles O57: the owner's effect of each entry, one lemma per command. -/
theorem acceptedCommandsAct : Obligations.AcceptedCommandsAct := by
  intro ses j k n s after
  refine ⟨?enumerate, keyNode_unkeyed, keyNode_keyed, fun key => packKey_takes key s, ?restReq, ⟨only_clearF _ _ s, isActive_clearF _ _ s⟩,
    ?ackAll,
    ⟨only_phaseRestore n s, fun p hp => ⟨phaseRestore_faulted n s hp, phaseRestore_clears s hp⟩⟩, ?park, ?standby,
    modeEffect_run j s, tripReset_resets s, ⟨only_dsp _ s, rfl⟩, startRecovery_starts, ?wake, fun p hk => ?transmit,
    ⟨only_dqRetry n s, fun q => dqRetry_clears⟩, ?reset, ?selftest, ?calibrate, startHandover_starts s, forceActive_takes,
    applyStart_starts, fwAbortEffect_aborts s, fun hv => ⟨?activateSelf, ?activatePartner⟩, ?hold⟩
  case enumerate =>
    intro ha hn hf hm
    have hu : after Ent.CHN_ENUMERATE = startEnumeration s := if_pos ha
    rw [hu]
    refine startEnumeration_starts ?_ hn
    rcases hf with hf | hf <;> simp [chainDead, hf, hm]
  case restReq =>
    refine ⟨?_, wakeE_dsp _⟩
    refine only_trans ?_ (only_mono (only_wakeE _) (by simp))
    exact only_mono (only_dsp _ s) (by simp)
  case ackAll =>
    have hA : commandEffectA Ent.EST_ID_ACK_ALL k (.num n) j s = some (wakeE (forAll (List.range 256) ackId s)) := rfl
    unfold after commandEffect
    rw [hA, Option.getD_some]
    exact ⟨only_ackAll s, fun p => ackAll_clears s⟩
  case park =>
    rintro rfl hr
    exact modeEffect_parked j hr
  case standby =>
    rintro rfl hr hp
    exact modeEffect_standby j hr hp
  case wake =>
    rintro hk rfl
    exact ⟨only_wakeChan k 4 s, wakeChan_awake 4 s hk⟩
  case transmit => exact ⟨only_modChan _ _ s, chan_modChan _ s hk⟩
  case reset =>
    intro h
    have hu : after Ent.SYS_RESET_CMD = _ := handOverFirst_alone .command h
    rw [hu]
    exact ⟨only_sys _ s, rfl⟩
  case selftest =>
    rintro rfl h
    have hu : after Ent.SYS_SELFTEST_REQ = _ := handOverFirst_alone .selftest h
    rw [hu]
    exact ⟨only_sys _ s, rfl⟩
  case calibrate =>
    rintro rfl h
    have hu : after Ent.SYS_SELFTEST_REQ = _ := calStart_starts h
    rw [hu]
    exact ⟨only_sys _ s, rfl⟩
  case activateSelf =>
    rintro rfl
    exact activate_starts hv
  case activatePartner =>
    rintro rfl
    rfl
  case hold =>
    intro hn h
    have hu : after Ent.REC_HOLD = _ := recHold_asks ses hn h
    rw [hu]
    exact ⟨only_recd _ s, rfl⟩

end Sys2Proof.Proofs
end

section
/-! PROOFS. The end of an enumeration, the READ_ID replies that follow it, and the map they form. -/
namespace Sys2Proof.Proofs
open Sys2Proof Sys2Proof.Machine Sys2Proof.Laws

/-! ### Nodes -/

theorem mem_upTo {lo hi k : Nat} : k ∈ upTo lo hi ↔ lo ≤ k ∧ k ≤ hi := by
  simp only [upTo, List.mem_map, List.mem_range]
  exact ⟨by rintro ⟨i, hi, rfl⟩; omega, fun h => ⟨k - lo, by omega, by omega⟩⟩

theorem nodeAt_modNode_same {h : Nat} (f : Node → Node) (s : State) (hh : h ≤ 32) (h1 : 1 ≤ h) :
    nodeAt h (modNode h f s) = f (nodeAt h s) := by
  rw [nodeAt_modNode, if_pos ⟨rfl, by omega⟩]

theorem nodeAt_modNode_other {k h : Nat} (f : Node → Node) (s : State) (hk : 1 ≤ k) (hh : 1 ≤ h) (hne : k ≠ h) :
    nodeAt k (modNode h f s) = nodeAt k s := by
  rw [nodeAt_modNode, if_neg (by omega)]

theorem nodeAt_of_cells {s t : State} (h : t.cells = s.cells) (k : Nat) : nodeAt k t = nodeAt k s := by simp only [nodeAt, h]

/-- A view of a node that a change of node h leaves is the same for every node. -/
theorem nodeView_modNode {β : Type} (g : Node → β) (k h : Nat) (f : Node → Node) (s : State)
    (hf : ∀ x, g (f x) = g x := by exact fun _ => rfl) : g (nodeAt k (modNode h f s)) = g (nodeAt k s) := by
  rw [nodeAt_modNode]
  split
  · exact hf _
  · rfl

theorem servedBy_congr {s t : State} (hc : t.chain = s.chain) (hst : t.store = s.store) (h : Nat) : servedBy h t = servedBy h s := by
  simp only [servedBy, halfOf_congr hc hst]

theorem acts_congr {s t : State} (h : t.pair = s.pair) : acts t = acts s := by simp only [acts, h]

/-! ### What an enumeration finds -/

theorem only_unmapAll (st : MapState) (s : State) : Only [.cells, .prot] s (unmapAll st s) := fun p hp => by
  cases p with
  | cells | prot => exact absurd (by simp) hp
  | _ => rfl

theorem only_enumReset (rssi : List Int) (s : State) : Only [.chain, .chctl, .cells, .prot] s (enumReset rssi s) := by
  unfold enumReset
  extract_lets n _ _ _ s1
  refine only_trans (t := s1) ?_ (only_mono (only_forAll _ _ _ (fun x s => only_modNode _ _ s) s1) (by simp))
  refine only_trans ?_ (only_mono (only_unmapAll _ _) (by simp))
  exact only_mono (only_chainRegs _ _ _ s) (by simp)

/-- A list's numbered elements are told apart by their numbers. -/
theorem mem_zipIdx_take {l : List Int} {n : Nat} {x : Int × Nat} (h : x ∈ (l.take n).zipIdx) : x.1 = l.getD x.2 0 := by
  have hx := List.getElem?_eq_some_iff.1 (List.mem_zipIdx_iff_getElem?.1 h)
  obtain ⟨hlt, he⟩ := hx
  rw [List.getElem_take] at he
  rw [← he, List.getD_eq_getElem?_getD, List.getElem?_eq_getElem]
  rfl

/-- Each node found is there with its signal strength, and has not been read (R26, R27). -/
theorem enumReset_nodes {rssi : List Int} (s : State) {h : Nat} (hlo : 1 ≤ h) (hhi : h ≤ rssi.length) (hlen : rssi.length ≤ 32) :
    (nodeAt h (enumReset rssi s)).rssi = rssi.getD (h - 1) 0 ∧ (nodeAt h (enumReset rssi s)).answered = false := by
  have hmem : (rssi.getD (h - 1) 0, h - 1) ∈ (rssi.take 32).zipIdx := by
    rw [List.mem_zipIdx_iff_getElem?, List.take_of_length_le hlen]
    simp [List.getD_eq_getElem?_getD, show h - 1 < rssi.length by omega]
  refine forAll_establishes (P := fun s => (nodeAt h s).rssi = rssi.getD (h - 1) 0 ∧ (nodeAt h s).answered = false)
    (I := fun _ => True) hmem (fun _ _ _ => trivial) (fun y hy s hs => ?_) (fun s _ => ?_) trivial
  · rw [nodeAt_modNode]
    split
    · next he => exact ⟨(mem_zipIdx_take hy).trans (by rw [show y.2 = h - 1 by omega]), rfl⟩
    · exact hs
  · rw [nodeAt_modNode, if_pos ⟨rfl, by omega⟩]
    exact ⟨rfl, rfl⟩

/-- What an enumeration leaves before its result is judged: the nodes found, nothing mapped, and the radios as they were. -/
structure Enumerated (rssi : List Int) (s t : State) : Prop where
  frame : Only [.chain, .chctl, .cells, .prot, .flt] s t
  count : t.chain.n = min 32 rssi.length
  fencedA : t.chain.fencedA = s.chain.fencedA
  fencedB : t.chain.fencedB = s.chain.fencedB
  map : t.cells.map = .unmapped
  positions : t.cells.posCount = 0
  nodes : ∀ h, 1 ≤ h → h ≤ rssi.length → rssi.length ≤ 32 → (nodeAt h t).rssi = rssi.getD (h - 1) 0 ∧ (nodeAt h t).answered = false

/-- What the registers of the chain tell of an enumeration. -/
def enumView (c : ChainRegs) : Nat × Bool × Bool := (c.n, c.fencedA, c.fencedB)

theorem enumView_sendCmd (r : Radio) (c : ChainCmd) (s : State) : enumView (sendCmd r c s).chain = enumView s.chain := by
  obtain ⟨a, b, x, y, z, h⟩ := sendCmd_chain r c s
  rw [h]
  rfl

/-- Changes of the radios' counters, of the faults and of the state of the chain leave what was found. -/
theorem enumerated_of_chain {rssi : List Int} {s t u : State} (h : Enumerated rssi s t) (ho : Only [.chain, .chctl, .flt] t u)
    (hv : enumView u.chain = enumView t.chain) : Enumerated rssi s u := by
  have hcells : u.cells = t.cells := ho .cells (by decide)
  simp only [enumView, Prod.mk.injEq] at hv
  obtain ⟨hn, ha, hb⟩ := hv
  exact {
    frame := only_trans h.frame (only_mono ho (by simp +contextual))
    count := hn.trans h.count
    fencedA := ha.trans h.fencedA
    fencedB := hb.trans h.fencedB
    map := (congrArg (·.map) hcells).trans h.map
    positions := (congrArg (·.posCount) hcells).trans h.positions
    nodes := fun k h1 h2 h3 => by
      rw [nodeAt_of_cells hcells]
      exact h.nodes k h1 h2 h3 }

theorem enumerated_of_flt {rssi : List Int} {s t u : State} (h : Enumerated rssi s t) (ho : Only [.flt] t u) : Enumerated rssi s u :=
  enumerated_of_chain h (only_mono ho (by simp)) (congrArg enumView (ho .chain (by decide)))

theorem enumerated_sendCmd {rssi : List Int} {s t : State} (h : Enumerated rssi s t) (r : Radio) (c : ChainCmd) :
    Enumerated rssi s (sendCmd r c t) :=
  enumerated_of_chain h (only_mono (only_sendCmd r c t) (by simp)) (enumView_sendCmd r c t)

theorem enumerated_queued {rssi : List Int} {s t u : State} (h : Enumerated rssi s t) (hq : Queued t u) : Enumerated rssi s u :=
  enumerated_of_chain h (only_mono (only_queued hq) (by simp)) (congrArg enumView (only_queued hq .chain (by decide)))

theorem enumerated_sendFilter {rssi : List Int} {s t : State} (h : Enumerated rssi s t) (k : Nat) :
    Enumerated rssi s (sendFilter k t) := by
  refine enumerated_queued ?_ (queued_queueNode _ _ _)
  exact { h with
    frame := only_trans h.frame (only_mono (only_modNode _ _ t) (by simp))
    nodes := fun i h1 h2 h3 => by
      obtain ⟨hr, ha⟩ := h.nodes i h1 h2 h3
      exact ⟨(nodeView_modNode (·.rssi) i k _ t).trans hr, (nodeView_modNode (·.answered) i k _ t).trans ha⟩ }

theorem enumerated_enumReset (rssi : List Int) (s : State) : Enumerated rssi s (enumReset rssi s) := by
  have hf {β : Type} (g : State → β) (hg : ∀ h f s, g (modNode h f s) = g s) (xs : List (Int × Nat)) (s : State) :
      g (forAll xs (fun x s => modNode (x.2 + 1) (fun _ => {
        state := .ok, rssi := x.1, corner := cfgN Ent.CHN_NODE_CORNER s x.2 }) s) s) = g s := forAll_eq g xs _ (fun _ s => hg _ _ s) s
  exact {
    frame := only_mono (only_enumReset rssi s) (by simp)
    count := hf (·.chain.n) (fun _ _ _ => rfl) _ _
    fencedA := hf (·.chain.fencedA) (fun _ _ _ => rfl) _ _
    fencedB := hf (·.chain.fencedB) (fun _ _ _ => rfl) _ _
    map := hf (·.cells.map) (fun _ _ _ => rfl) _ _
    positions := hf (·.cells.posCount) (fun _ _ _ => rfl) _ _
    nodes := fun h h1 h2 h3 => enumReset_nodes s h1 h2 h3 }

/-- What one enumeration leaves holds whatever was sent before. -/
theorem enumerated_of_sent {rssi : List Int} {s s' t : State} (ho : Only [.chain] s s') (hv : enumView s'.chain = enumView s.chain)
    (h : Enumerated rssi s' t) : Enumerated rssi s t := by
  simp only [enumView, Prod.mk.injEq] at hv
  obtain ⟨-, ha, hb⟩ := hv
  exact { h with
    frame := only_trans (only_mono ho (by simp)) h.frame
    fencedA := h.fencedA.trans ha
    fencedB := h.fencedB.trans hb }

/-! ### READ_ID to every node (R27, R122) -/

/-- The command to read a node's identity is queued at the radio that serves it. -/
theorem readAllIds_queues {h : Nat} {r : Radio} {s : State} (hlo : 1 ≤ h) (hhi : h ≤ s.chain.n) (hr : servedBy h s = some r)
    (hf : radioFenced r s = false) (ha : acts s = true) : ⟨r, .readId h⟩ ∈ (readAllIds s).chctl.queue := by
  refine forAll_establishes (P := fun t => ⟨r, .readId h⟩ ∈ t.chctl.queue) (f := fun h s => queueNode h (.readId h) s) (I := Queued s)
    (mem_upTo.2 ⟨hlo, hhi⟩) (fun y t hq => queued_trans hq (queued_queueNode _ _ t)) (fun y _ t ht => ?_) (fun t hq => ?_) (queued_refl s)
  · obtain ⟨l, hl⟩ := queued_queueNode y (.readId y) t
    rw [hl]
    exact List.mem_append_left _ ht
  · obtain ⟨l, rfl⟩ := hq
    have hserved : servedBy h { s with chctl := { s.chctl with queue := s.chctl.queue ++ l } } = some r := hr
    have hfenced : radioFenced r { s with chctl := { s.chctl with queue := s.chctl.queue ++ l } } = false := hf
    have hacts : acts { s with chctl := { s.chctl with queue := s.chctl.queue ++ l } } = true := ha
    simp [queueNode, hserved, queueCmd, hfenced, hacts]

/-! ### ENUMERATION_END -/

/-- The state of an enumeration that has found its nodes. -/
def enumFound (rounds : List (List EnumClaim)) (s : State) : State :=
  let x := enumWalk 0 false rounds
  enumReset x.2 (forAll (x.1.drop 1) (sendCmd .a) s)

/-- One radio serves every node where the other's baseband has failed (R47). -/
def oneRadio (s : State) : Bool := s.chain.fencedA || s.chain.fencedB

/-- The state of an enumeration when its result is judged: TOPOLOGY and ENUM_CHECK have been sent. -/
def enumChecked (rounds : List (List EnumClaim)) (s : State) : State :=
  let t := enumFound rounds s
  let t := { t with chain := { t.chain with topo := if oneRadio t then .single else .configured } }
  let t := forAll [Radio.a, Radio.b] (fun r s => sendCmd r (topologyCmd none s.chctl.nodeBalMode (s.chain.sweepCtr + 1) s) s) t
  sendCmd .b .enumCheck t

/-- The codes of an enumeration: a wrong count, and a difference that the check shows (R27). -/
def enumCodes (count check : Bool) (t : State) : State :=
  let t := if count then raiseF 0x2001 wide t else t
  let t := if check then raiseF 0x2002 wide t else t
  if !(count || check) then clearF 0x2001 wide (clearF 0x2002 wide t) else t

/-- The result of an enumeration sets the state of the chain. -/
def enumState (ok single : Bool) (t : State) : State :=
  { t with
    chain := { t.chain with state := if !ok then .failed else if single then .singleRadio else .running }
    chctl := { t.chctl with enumNodes := ok, idWait := ok } }

/-- The filters of the nodes are commanded where the enumeration succeeded (R50). -/
def enumFilters (ok : Bool) (t : State) : State := if ok then forAll (upTo 1 t.chain.n) sendFilter t else t

theorem enumerated_enumFound (rounds : List (List EnumClaim)) (s : State) :
    Enumerated (enumWalk 0 false rounds).2 s (enumFound rounds s) :=
  enumerated_of_sent (only_forAll _ _ _ (only_sendCmd _) s) (forAll_eq (fun s => enumView s.chain) _ _ (enumView_sendCmd .a) s)
    (enumerated_enumReset _ _)

theorem enumerated_enumChecked (rounds : List (List EnumClaim)) (s : State) :
    Enumerated (enumWalk 0 false rounds).2 s (enumChecked rounds s) := by
  unfold enumChecked
  extract_lets t1 _ t2 t3
  have h2 : Enumerated (enumWalk 0 false rounds).2 s t2 :=
    enumerated_of_chain (enumerated_enumFound rounds s) (only_mono (only_chain _ t1) (by simp)) rfl
  have h3 : Enumerated (enumWalk 0 false rounds).2 s t3 := enumerated_sendCmd (enumerated_sendCmd h2 _ _) _ _
  exact enumerated_sendCmd h3 _ _

theorem only_enumCodes (count check : Bool) (t : State) : Only [.flt] t (enumCodes count check t) := by
  unfold enumCodes
  extract_lets t1 t2
  have h1 : Only [.flt] t t1 := only_ite (only_raiseF _ _ t) (only_refl _ t)
  have h2 : Only [.flt] t1 t2 := only_ite (only_raiseF _ _ t1) (only_refl _ t1)
  exact only_trans (only_trans h1 h2) (only_ite (only_trans (only_clearF _ _ _) (only_clearF _ _ _)) (only_refl _ t2))

theorem enumerated_enumState {rssi : List Int} {s t : State} (h : Enumerated rssi s t) (ok single : Bool) :
    Enumerated rssi s (enumState ok single t) :=
  enumerated_of_chain h (only_mono (only_chainCtl _ _ t) (by simp)) rfl

theorem enumerated_enumFilters {rssi : List Int} {s t : State} (h : Enumerated rssi s t) (ok : Bool) :
    Enumerated rssi s (enumFilters ok t) := by
  unfold enumFilters
  split
  · unfold forAll
    generalize upTo 1 t.chain.n = hs
    induction hs generalizing t with
    | nil => exact h
    | cons k ks ih => exact ih (enumerated_sendFilter h k)
  · exact h

theorem only_enumFilters (ok : Bool) (t : State) : Only [.chctl, .cells] t (enumFilters ok t) :=
  only_ite (only_forAll _ _ _ (fun h s => only_sendFilter h s) t) (only_refl _ t)

theorem idWait_enumFilters (ok : Bool) (t : State) : (enumFilters ok t).chctl.idWait = t.chctl.idWait := by
  unfold enumFilters
  split
  · exact forAll_eq (·.chctl.idWait) _ sendFilter (fun h s => queued_view (queued_queueNode _ _ _) (·.chctl.idWait) fun _ => rfl) t
  · rfl

/-- The result of an enumeration, by what was found and what the check showed (R27). -/
theorem enumerationEnd_eq {rounds : List (List EnumClaim)} {s : State} (hs : s.chain.state = .enumerating) (mis reach : Bool) :
    enumerationEnd rounds mis reach s =
      let count := decide ((enumWalk 0 false rounds).2.length ≠ nodeCount s)
      let check := mis || !reach
      readAllIds (enumFilters (!(count || check)) (enumState (!(count || check)) (oneRadio s)
        (enumCodes count check (enumChecked rounds s)))) := by
  have hcount : nodeCount (enumChecked rounds s) = nodeCount s :=
    cfgN_of_store ((enumerated_enumChecked rounds s).frame .store (by decide)) _ _
  have hsingle : oneRadio (enumFound rounds s) = oneRadio s := by
    simp only [oneRadio, (enumerated_enumFound rounds s).fencedA, (enumerated_enumFound rounds s).fencedB]
  rw [← hcount, ← hsingle]
  have hg : (s.chain.state == .enumerating) = true := by rw [hs]; rfl
  unfold enumerationEnd
  rw [guardOn_true hg]
  simp only [enumCodes, decide_eq_true_eq]
  rfl

theorem enumCodes_found (t : State) :
    isActive 0x2001 wide (enumCodes false false t) = false ∧ isActive 0x2002 wide (enumCodes false false t) = false :=
  ⟨isActive_clearF _ _ _, isActive_clearF_of_not _ _ (isActive_clearF _ _ _)⟩

theorem enumCodes_count (check : Bool) (t : State) : isActive 0x2001 wide (enumCodes true check t) = true := by
  cases check with
  | false => exact isActive_raiseF _ _ _
  | true => exact isActive_raiseF_of_active _ _ (isActive_raiseF _ _ _)

theorem enumCodes_check (count : Bool) (t : State) : isActive 0x2002 wide (enumCodes count true t) = true := by
  cases count <;> exact isActive_raiseF _ _ _

/-- What an enumeration leaves, whatever its result (R26, R27). -/
theorem enumerationEnd_leaves {rounds : List (List EnumClaim)} {s : State} (hs : s.chain.state = .enumerating) (mis reach : Bool) :
    let u := enumerationEnd rounds mis reach s
    let count := decide ((enumWalk 0 false rounds).2.length ≠ nodeCount s)
    let check := mis || !reach
    Enumerated (enumWalk 0 false rounds).2 s u ∧
    u.chain.state = (if !(!(count || check)) then .failed else if oneRadio s then .singleRadio else .running) ∧
    u.chctl.idWait = !(count || check) ∧
    (∀ c k, isActive c k u = isActive c k (enumCodes count check (enumChecked rounds s))) ∧
    ∃ t, u = readAllIds t ∧ Enumerated (enumWalk 0 false rounds).2 s t := by
  intro u count check
  let t0 := enumState (!(count || check)) (oneRadio s) (enumCodes count check (enumChecked rounds s))
  have hu : u = readAllIds (enumFilters (!(count || check)) t0) := enumerationEnd_eq hs mis reach
  have h0 : Enumerated (enumWalk 0 false rounds).2 s t0 :=
    enumerated_enumState (enumerated_of_flt (enumerated_enumChecked rounds s) (only_enumCodes _ _ _)) _ _
  have h1 := enumerated_enumFilters h0 (!(count || check))
  have hf := only_enumFilters (!(count || check)) t0
  have hr := only_readAllIds (enumFilters (!(count || check)) t0)
  have hq : Queued (enumFilters (!(count || check)) t0) (readAllIds (enumFilters (!(count || check)) t0)) :=
    queued_forAll _ _ (fun _ _ => queued_queueNode _ _ _) _
  rw [hu]
  refine ⟨enumerated_queued h1 hq, ?_, ?_, fun c k => ?_, _, rfl, h1⟩
  · exact congrArg (·.state) ((hr .chain (by decide)).trans (hf .chain (by decide)))
  · exact (queued_view hq (·.chctl.idWait) fun _ => rfl).trans (idWait_enumFilters _ t0)
  · exact isActive_of_flt ((hr .flt (by decide)).trans (hf .flt (by decide))) c k

/-! ### Replies (R39, R53) -/

/-- A reply that reaches a radio is noted in its node h, and in nothing else that the map depends on. -/
structure ReplyNoted (h : Nat) (s t : State) : Prop where
  frame : Only [.now, .chctl, .cells] s t
  idWait : t.chctl.idWait = s.chctl.idWait
  map : t.cells.map = s.cells.map
  node : ∀ k, 1 ≤ k → k ≠ h → nodeAt k t = nodeAt k s

theorem replyNoted_trans {h : Nat} {s t u : State} (a : ReplyNoted h s t) (b : ReplyNoted h t u) : ReplyNoted h s u where
  frame := only_trans a.frame b.frame
  idWait := b.idWait.trans a.idWait
  map := b.map.trans a.map
  node k h1 hk := (b.node k h1 hk).trans (a.node k h1 hk)

theorem replyNoted_refl (h : Nat) (s : State) : ReplyNoted h s s := ⟨only_refl _ s, rfl, rfl, fun _ _ _ => rfl⟩

theorem replyNoted_heardAt (h : Nat) (r : Radio) (t : Nat) (s : State) : ReplyNoted h s (heardAt r t s) where
  frame := only_mono (only_heardAt r t s) (by simp)
  idWait := by cases r <;> rfl
  map := by rw [heardAt_cells]
  node k _ _ := nodeAt_of_cells (heardAt_cells r t s) k

theorem replyNoted_modNode {h : Nat} (f : Node → Node) (s : State) (hh : 1 ≤ h) : ReplyNoted h s (modNode h f s) where
  frame := only_mono (only_modNode _ _ s) (by simp)
  idWait := rfl
  map := rfl
  node k h1 hk := nodeAt_modNode_other f s h1 hh hk

theorem replyNoted_setAwait (h : Nat) (r : Radio) (a : Option Await) (s : State) : ReplyNoted h s (setAwait r a s) where
  frame := only_mono (only_setAwait r a s) (by simp)
  idWait := by cases r <;> rfl
  map := by cases r <;> rfl
  node k _ _ := nodeAt_of_cells (by cases r <;> rfl) k

theorem replyOk_congr {s t : State} (hc : t.chain = s.chain) (r : Radio) (b : List Byte) : replyOk r b t = replyOk r b s := by
  have hn : replyNode r b t = replyNode r b s := by simp only [replyNode, hopFrom, hc]
  unfold replyOk
  rw [hn, hc]

theorem replyPayload_heardAt (r : Radio) (t : Nat) (id : Option Nat) (b : List Byte) (s : State) :
    replyPayload r id b (heardAt r t s) = replyPayload r id b s := by
  have hnode (k : Nat) : nodeAt k (heardAt r t s) = nodeAt k s := nodeAt_of_cells (heardAt_cells r t s) k
  have hreply : replyNode r b (heardAt r t s) = replyNode r b s := by simp only [replyNode, hopFrom, heardAt_chain]
  simp only [replyPayload, keyOf, hnode, hreply, heardAt_packKey]

theorem node_of_replyOk {r : Radio} {b : List Byte} {s : State} (h : replyOk r b s = true) :
    1 ≤ replyNode r b s ∧ replyNode r b s ≤ s.chain.n := by
  simp only [replyOk, Bool.and_eq_true, decide_eq_true_eq] at h
  exact ⟨h.1.2, h.2⟩

/-- A reply whose header, counter and tag are right is noted, and its payload is used (R39, R53). -/
theorem takeReply_taken {r : Radio} {t : Nat} {id : Option Nat} {b p : List Byte} {s : State} (f : Nat → List Byte → State → State)
    (hm : isFenced .m s = false) (hr : radioFenced r s = false) (hcrc : airCrcOk b = true) (hok : replyOk r b s = true)
    (hp : replyPayload r id b s = some p) :
    ∃ u, takeReply r t id b f s = f (replyNode r b s) p u ∧ ReplyNoted (replyNode r b s) s u := by
  have hlo := (node_of_replyOk hok).1
  have hnode : replyNode r b (countFrame r (atTime t s)) = replyNode r b s := by
    simp only [replyNode, hopFrom, show (countFrame r (atTime t s)).chain = s.chain from heardAt_chain r t s]
  have hpay : replyPayload r id b (countFrame r (atTime t s)) = some p := (replyPayload_heardAt r t id b s).trans hp
  have e : takeReply r t id b f s = hearFrame r b _ (atTime t s) := guardOn_true (by simp [hm, hr]) _ s
  rw [e]
  unfold hearFrame
  rw [if_pos hcrc]
  change ∃ u, (if (!replyOk r b (heardAt r t s)) = true then _ else _) = _ ∧ _
  rw [if_neg (by rw [replyOk_congr (heardAt_chain r t s), hok]; decide), hpay, hnode]
  dsimp -zeta only
  extract_lets inTime s2 s3
  have h2 : ReplyNoted (replyNode r b s) s s2 := replyNoted_trans (replyNoted_heardAt _ r t s) (replyNoted_modNode _ _ hlo)
  have h3 : ReplyNoted (replyNode r b s) s s3 := by
    refine replyNoted_trans h2 ?_
    unfold s3
    split
    · exact replyNoted_refl _ s2
    · exact replyNoted_modNode _ s2 hlo
  refine ⟨_, rfl, replyNoted_trans h3 ?_⟩
  split
  · split
    · exact replyNoted_setAwait _ _ _ s3
    · exact replyNoted_refl _ s3
  · exact replyNoted_refl _ s3

/-! ### Identities (R122) -/

/-- A node whose READ_ID reply is protected with the identity it names: the reply shows a key (R54). -/
def readNode (id : Nat) (p : List Byte) (x : Node) : Node :=
  { x with id := id, fw := fieldU p 10 4, answered := true, cells := fieldU p 9 1
           state := if x.state == .unkeyed then .ok else x.state }

theorem readNode_keyed (id : Nat) (p : List Byte) (x : Node) : (readNode id p x).state ≠ .unkeyed := by
  unfold readNode
  dsimp only
  split
  · decide
  · next h => simpa using h

/-- While nothing is mapped, the reply of a node with a key fills in the node, and nothing is compared or keyed. -/
theorem nodeIdentity_reads {id h : Nat} {p : List Byte} {s : State} (hlen : p.length = 14) (hop : fieldU p 0 1 = 0xA0)
    (hid : fieldU p 1 8 = id) (hmap : s.cells.map ≠ .mapped) (h1 : 1 ≤ h) (h32 : h ≤ 32) :
    nodeIdentity (some id) h p s = modNode h (readNode id p) s := by
  have hm : (s.cells.map == .mapped) = false := by simpa using hmap
  have hg : (p.length == 14 && fieldU p 0 1 == 0xA0 && (some id).all (· == fieldU p 1 8)) = true := by simp [hlen, hop, hid]
  have e : modNode h (fun x => { x with
      id := fieldU p 1 8, fw := fieldU p 10 4, answered := true
      cells := if s.cells.map == .mapped then x.cells else fieldU p 9 1
      state := if (some id).isNone then .unkeyed else if x.state == .unkeyed then .ok else x.state }) s = modNode h (readNode id p) s := by
    rw [hm, hid]
    rfl
  unfold nodeIdentity
  dsimp only
  rw [guardOn_true hg, e]
  have hkey : enumKey h (modNode h (readNode id p) s) = modNode h (readNode id p) s :=
    if_neg (by rw [nodeAt_modNode_same _ _ h32 h1]; simpa using readNode_keyed id p _)
  rw [hkey]
  exact guardOn_false (by simp [show (modNode h (readNode id p) s).cells.map ≠ .mapped from hmap]) _ _

/-! ### The map (R58, R70, R122) -/

/-- What follows the map leaves it: the positions, what each node told of itself, and a mismatch that was found. -/
structure MapKept (s t : State) : Prop where
  frame : Only [.store, .cells, .flt, .ident, .ses] s t
  map : t.cells.map = s.cells.map
  positions : t.cells.posCount = s.cells.posCount
  node : ∀ k, (nodeAt k t).id = (nodeAt k s).id ∧ (nodeAt k t).fw = (nodeAt k s).fw ∧ (nodeAt k t).answered = (nodeAt k s).answered
  mismatch : isActive 0x2108 wide s = true → isActive 0x2108 wide t = true

theorem mapKept_refl (s : State) : MapKept s s := ⟨only_refl _ s, rfl, rfl, fun _ => ⟨rfl, rfl, rfl⟩, id⟩

theorem mapKept_trans {s t u : State} (h : MapKept s t) (k : MapKept t u) : MapKept s u where
  frame := only_trans h.frame k.frame
  map := k.map.trans h.map
  positions := k.positions.trans h.positions
  node i := ⟨(k.node i).1.trans (h.node i).1, (k.node i).2.1.trans (h.node i).2.1, (k.node i).2.2.trans (h.node i).2.2⟩
  mismatch ha := k.mismatch (h.mismatch ha)

theorem mapKept_forAll {α : Type} (xs : List α) (f : α → State → State) (h : ∀ x s, MapKept s (f x s)) (s : State) :
    MapKept s (forAll xs f s) := by
  unfold forAll
  induction xs generalizing s with
  | nil => exact mapKept_refl s
  | cons x xs ih => exact mapKept_trans (h x s) (ih _)

theorem mapKept_ite {p : Prop} [Decidable p] {s t u : State} (ht : MapKept s t) (hu : MapKept s u) : MapKept s (if p then t else u) := by
  split
  · exact ht
  · exact hu

theorem mapKept_of_only {ps : List Part} {s t : State} (h : Only ps s t) (hps : ∀ p ∈ ps, p = .store ∨ p = .ident ∨ p = .ses) :
    MapKept s t := by
  have hcells : t.cells = s.cells := h .cells fun hp => by simpa using hps _ hp
  have hflt : t.flt = s.flt := h .flt fun hp => by simpa using hps _ hp
  exact {
    frame := only_mono h fun p hp => by rcases hps p hp with rfl | rfl | rfl <;> simp
    map := by rw [hcells], positions := by rw [hcells]
    node := fun k => by simp only [nodeAt_of_cells hcells, and_self]
    mismatch := fun ha => (isActive_of_flt hflt _ _).trans ha }

theorem mapKept_modCell (n : Nat) (f : Cell → Cell) (s : State) : MapKept s (modCell n f s) :=
  ⟨only_mono (only_modCell n f s) (by simp), rfl, rfl, fun _ => ⟨rfl, rfl, rfl⟩, id⟩

theorem mapKept_raiseF (c k : Nat) (s : State) : MapKept s (raiseF c k s) := by
  have hcells : (raiseF c k s).cells = s.cells := only_raiseF c k s .cells (by decide)
  exact ⟨only_mono (only_raiseF c k s) (by simp), by rw [hcells], by rw [hcells],
    fun i => by simp only [nodeAt_of_cells hcells, and_self], isActive_raiseF_of_active _ _⟩

theorem mapKept_clearF {c : Nat} (hc : c ≠ 0x2108) (k : Nat) (s : State) : MapKept s (clearF c k s) := by
  have hcells : (clearF c k s).cells = s.cells := only_clearF c k s .cells (by decide)
  exact ⟨only_mono (only_clearF c k s) (by simp), by rw [hcells], by rw [hcells],
    fun i => by simp only [nodeAt_of_cells hcells, and_self], fun ha => (isActive_clearF_other (.inl hc.symm) s).trans ha⟩

theorem only_setCfgI (e : Entry) (k : Nat) (v : Int) (s : State) : Only [.store] s (setCfgI e k v s) := fun p hp => by
  cases p with
  | store => exact absurd (by simp) hp
  | _ => rfl

theorem mapKept_setCfgI (e : Entry) (k : Nat) (v : Int) (s : State) : MapKept s (setCfgI e k v s) :=
  mapKept_of_only (only_setCfgI e k v s) (by simp)

theorem mapKept_setLead (h k : Nat) (x : Int) (src : LeadSrc) (s : State) : MapKept s (setLead h k x src s) := by
  unfold setLead
  extract_lets nd s1
  have h1 : MapKept s s1 := mapKept_ite (mapKept_trans (mapKept_modCell _ _ s) (mapKept_setCfgI _ _ _ _)) (mapKept_refl s)
  exact mapKept_trans h1 (mapKept_ite (mapKept_trans (mapKept_modCell _ _ s1) (mapKept_setCfgI _ _ _ _)) (mapKept_refl s1))

theorem mapKept_shareAll (s : State) : MapKept s (shareAll s) := by
  refine mapKept_ite (mapKept_forAll _ _ (fun h s => mapKept_forAll _ _ (fun k s => ?_) s) s) (mapKept_refl s)
  exact mapKept_ite (mapKept_setLead _ _ _ _ s) (mapKept_setLead _ _ _ _ s)

theorem mapKept_comparePos (id n : Nat) (s : State) : MapKept s (comparePos id n s) := by
  have hlp (f : LearnPos → LearnPos) (s : State) : MapKept s (modLp n f s) := mapKept_of_only (only_modLp n f s) (by simp)
  have h1 : MapKept s (clearF 0x3014 n s) := mapKept_clearF (by decide) n s
  refine mapKept_trans h1 (mapKept_ite (hlp _ _) (mapKept_ite (mapKept_refl _) (mapKept_ite (hlp _ _) ?_)))
  refine mapKept_trans ?_ (mapKept_of_only (only_journalOwn _ _ _) (by simp))
  exact hlp _ _

theorem mapKept_compareAll (s : State) : MapKept s (compareAll s) := by
  refine mapKept_forAll _ _ (fun h s => mapKept_ite (mapKept_forAll _ _ (fun n s => ?_) s) (mapKept_refl s)) s
  exact mapKept_ite (mapKept_raiseF _ _ s) (mapKept_comparePos _ _ s)

theorem mapKept_withStore {s t : State} (h : MapKept s t) (x : List (Nat × Val)) : MapKept s { t with store := x } where
  frame := only_trans h.frame fun p hp => by
    cases p with
    | store => exact absurd (by simp) hp
    | _ => rfl
  map := h.map
  positions := h.positions
  node := h.node
  mismatch := h.mismatch

theorem mapKept_keep {s t : State} {f : State → State} (h : MapKept s (f t)) : MapKept s (keep f t) := mapKept_withStore h t.store

theorem mapKept_mapNode (h p0 : Nat) (s : State) : MapKept s (mapNode h p0 s) := by
  unfold mapNode
  extract_lets s1
  have h1 : MapKept s s1 :=
    { mapKept_refl s with
      frame := only_mono (only_modNode _ _ s) (by simp)
      node := fun k => ⟨nodeView_modNode (·.id) k h _ s, nodeView_modNode (·.fw) k h _ s, nodeView_modNode (·.answered) k h _ s⟩ }
  exact mapKept_trans h1 (mapKept_forAll _ _ (fun i s => mapKept_modCell _ _ s) s1)

theorem mapKept_mapNodes (hs : List Nat) (p0 : Nat) (s : State) :
    MapKept s (hs.foldl (fun (x : Nat × State) h => (x.1 + (nodeAt h x.2).cells, mapNode h x.1 x.2)) (p0, s)).2 := by
  induction hs generalizing p0 s with
  | nil => exact mapKept_refl s
  | cons h hs ih => exact mapKept_trans (mapKept_mapNode h p0 s) (ih _ _)

/-- The cells that the nodes of the chain tell of. -/
def cellTotal (s : State) : Nat := sumN ((upTo 1 s.chain.n).map fun h => (nodeAt h s).cells)

/-- The positions begin anew with a state of the map, and 0x2108 tells of it (R58). -/
def remapped (st : MapState) (s : State) : State :=
  if st = .mapped then
    let t := clearF 0x2108 wide (unmapAll st s)
    { t with cells := { t.cells with posCount := cellTotal s } }
  else raiseF 0x2108 wide (unmapAll st s)

theorem remapped_leaves (st : MapState) (s : State) :
    Only [.cells, .prot, .flt] s (remapped st s) ∧ (remapped st s).cells.map = st ∧ ∀ k, nodeAt k (remapped st s) = nodeAt k s := by
  have hun : Only [.cells, .prot, .flt] s (unmapAll st s) := only_mono (only_unmapAll st s) (by simp)
  unfold remapped
  split
  · have hclear := only_clearF 0x2108 wide (unmapAll st s)
    have hcells : (clearF 0x2108 wide (unmapAll st s)).cells = (unmapAll st s).cells := hclear .cells (by decide)
    refine ⟨only_trans hun (only_trans (only_mono hclear (by simp)) (only_mono (only_cells _ _) (by simp))), ?_, fun k => ?_⟩
    · exact (congrArg (·.map) hcells :)
    · exact ((nodeAt_of_cells hcells k).trans rfl :)
  · have hraise := only_raiseF 0x2108 wide (unmapAll st s)
    have hcells : (raiseF 0x2108 wide (unmapAll st s)).cells = (unmapAll st s).cells := hraise .cells (by decide)
    exact ⟨only_trans hun (only_mono hraise (by simp)), congrArg (·.map) hcells, fun k => (nodeAt_of_cells hcells k).trans rfl⟩

/-- The map is formed where the cells match STR_POS_COUNT, and shows a mismatch otherwise (R58). -/
theorem formMap_maps (s : State) :
    MapKept (remapped (if cellTotal s ≠ cfgN Ent.STR_POS_COUNT s ∨ cellTotal s > 256 then .mismatch else .mapped) s) (formMap s) := by
  unfold formMap
  extract_lets n total
  by_cases h : cellTotal s ≠ cfgN Ent.STR_POS_COUNT s ∨ cellTotal s > 256
  · have ht : (decide (total ≠ cfgN Ent.STR_POS_COUNT s) || decide (total > 256)) = true := by
      rw [Bool.or_eq_true, decide_eq_true_eq, decide_eq_true_eq]
      exact h
    rw [if_pos ht, if_pos h]
    exact mapKept_refl _
  · have ht : ¬ (decide (total ≠ cfgN Ent.STR_POS_COUNT s) || decide (total > 256)) = true := by
      rw [Bool.or_eq_true, decide_eq_true_eq, decide_eq_true_eq]
      exact h
    rw [if_neg ht, if_neg h]
    exact mapKept_mapNodes _ _ _

/-! ### The two halves of O15 -/

/-- The expected nodes, found from both ends, set the chain running, and the acting member reads their identities (R26, R27). -/
theorem ends_enumerationEnd_found {rounds : List (List EnumClaim)} {s : State} {mis reach : Bool} (hl : live s = true)
    (hs : s.chain.state = .enumerating) (hlen : (enumWalk 0 false rounds).2.length ≤ 32)
    (hcount : (enumWalk 0 false rounds).2.length = nodeCount s) (hmis : mis = false) (hreach : reach = true) :
    let found := (enumWalk 0 false rounds).2
    Ends (.enumerationEnd rounds mis reach) s [.chain, .chctl, .cells, .prot, .flt] fun u =>
      u.chain.n = found.length ∧
      u.chain.state = (if s.chain.fencedA || s.chain.fencedB then .singleRadio else .running) ∧
      u.cells.map = .unmapped ∧ u.chctl.idWait = true ∧ isActive 0x2001 wide u = false ∧ isActive 0x2002 wide u = false ∧
      (∀ h, 1 ≤ h → h ≤ found.length → (nodeAt h u).rssi = found.getD (h - 1) 0 ∧ (nodeAt h u).answered = false) ∧
      (acts s = true → ∀ h r, 1 ≤ h → h ≤ found.length → servedBy h u = some r → radioFenced r s = false →
        ⟨r, .readId h⟩ ∈ u.chctl.queue) := by
  intro found
  obtain ⟨hu, hstate, hwait, hactive, t, ht, htn⟩ := enumerationEnd_leaves (rounds := rounds) (s := s.begin) hs mis reach
  have hcodes : decide ((enumWalk 0 false rounds).2.length ≠ nodeCount s.begin) = false :=
    decide_eq_false fun hne => hne (hcount.trans rfl)
  simp only [hcodes, hmis, hreach] at hstate hwait hactive hu ht ⊢
  have hmin : min 32 found.length = found.length := Nat.min_eq_right hlen
  refine ends_whenLiveK rfl hl hu.frame ⟨hu.count.trans hmin, hstate, hu.map, hwait, ?_, ?_, fun h h1 h2 => hu.nodes h h1 h2 hlen, ?_⟩
  · exact (hactive _ _).trans (enumCodes_found _).1
  · exact (hactive _ _).trans (enumCodes_found _).2
  · intro hacts h r h1 h2 hserved hfenced
    have hchain : (enumerationEnd rounds false true s.begin).chain = t.chain := by
      rw [ht]
      exact only_readAllIds t .chain (by decide)
    have hserved' : servedBy h t = some r := by
      rw [← hserved]
      refine servedBy_congr ?_ ?_ h
      · exact hchain.symm
      · exact htn.frame .store (by decide)
    have hfenced' : radioFenced r t = false := by
      cases r
      · exact htn.fencedA.trans hfenced
      · exact htn.fencedB.trans hfenced
    have hq := readAllIds_queues h1 (h2.trans_eq (htn.count.trans hmin).symm) hserved' hfenced'
      ((acts_congr (htn.frame .pair (by decide))).trans hacts)
    rw [← ht] at hq
    exact hq

/-- A wrong count, or a difference that the check shows, leaves the chain FAILED (R27). -/
theorem ends_enumerationEnd_failed {rounds : List (List EnumClaim)} {s : State} {mis reach : Bool} (hl : live s = true)
    (hs : s.chain.state = .enumerating)
    (hfail : (enumWalk 0 false rounds).2.length ≠ nodeCount s ∨ mis = true ∨ reach = false) :
    Ends (.enumerationEnd rounds mis reach) s [.chain, .chctl, .cells, .prot, .flt] fun u =>
      u.chain.state = .failed ∧ u.cells.map = .unmapped ∧ u.cells.posCount = 0 ∧
      ((enumWalk 0 false rounds).2.length ≠ nodeCount s → isActive 0x2001 wide u = true) ∧
      ((mis = true ∨ reach = false) → isActive 0x2002 wide u = true) := by
  obtain ⟨hu, hstate, -, hactive, -⟩ := enumerationEnd_leaves (rounds := rounds) (s := s.begin) hs mis reach
  have hcheck : (mis || !reach) = true ↔ mis = true ∨ reach = false := by simp
  have hbad : (decide ((enumWalk 0 false rounds).2.length ≠ nodeCount s.begin) || (mis || !reach)) = true := by
    rw [Bool.or_eq_true, decide_eq_true_eq, hcheck]
    exact hfail
  rw [hbad] at hstate
  refine ends_whenLiveK rfl hl hu.frame ⟨hstate, hu.map, hu.positions, fun h => ?_, fun h => ?_⟩
  · rw [decide_eq_true (show (enumWalk 0 false rounds).2.length ≠ nodeCount s.begin from h)] at hactive
    exact (hactive _ _).trans (enumCodes_count _ _)
  · rw [hcheck.2 h] at hactive
    exact (hactive _ _).trans (enumCodes_check _ _)

/-- Once every node has answered, their CELLS form the map, or show a mismatch (R58). -/
theorem mapIfKnown_maps {s : State} (hwait : s.chctl.idWait = true) (hall : ∀ k, 1 ≤ k → k ≤ s.chain.n → (nodeAt k s).answered = true) :
    MapKept (remapped (if cellTotal s ≠ cfgN Ent.STR_POS_COUNT s ∨ cellTotal s > 256 then .mismatch else .mapped)
      { s with chctl := { s.chctl with idWait := false } }) (mapIfKnown s) := by
  have hg : (s.chctl.idWait && allAnswered s) = true := by
    rw [hwait, Bool.true_and, allAnswered, List.all_eq_true]
    intro k hk
    obtain ⟨h1, h2⟩ := mem_upTo.1 hk
    exact hall k h1 h2
  have hform := formMap_maps { s with chctl := { s.chctl with idWait := false } }
  rw [show cellTotal { s with chctl := { s.chctl with idWait := false } } = cellTotal s from rfl,
    cfgN_of_store (s := s) (t := { s with chctl := { s.chctl with idWait := false } }) rfl] at hform
  have hkeep := mapKept_keep (f := fun s => formMap { s with chctl := { s.chctl with idWait := false } }) (t := s) hform
  unfold mapIfKnown
  rw [guardOn_true hg]
  exact mapKept_trans hkeep (mapKept_trans (mapKept_shareAll _) (mapKept_keep (mapKept_compareAll _)))

/-- While nothing is mapped, the READ_ID reply of a node with a key is noted and fills in its node (R53, R122). -/
theorem readIdReply_reads {r : Radio} {t id : Nat} {b p : List Byte} {s : State} (hm : isFenced .m s = false)
    (hr : radioFenced r s = false) (hcrc : airCrcOk b = true) (hok : replyOk r b s = true) (hn : s.chain.n ≤ 32)
    (hp : replyPayload r (some id) b s = some p) (hlen : p.length = 14) (hop : fieldU p 0 1 = 0xA0) (hid : fieldU p 1 8 = id)
    (hmap : s.cells.map ≠ .mapped) :
    ReplyNoted (replyNode r b s) s (keep (readIdReply r t (some id) b) s) ∧
    ∃ x, nodeAt (replyNode r b s) (keep (readIdReply r t (some id) b) s) = readNode id p x := by
  obtain ⟨h1, h2⟩ := node_of_replyOk hok
  obtain ⟨u, hu, hnoted⟩ := takeReply_taken (t := t) (nodeIdentity (some id)) hm hr hcrc hok hp
  have hreads : readIdReply r t (some id) b s = modNode (replyNode r b s) (readNode id p) u :=
    hu.trans (nodeIdentity_reads hlen hop hid (by rwa [hnoted.map]) h1 (h2.trans hn))
  have hread : ReplyNoted (replyNode r b s) s (readIdReply r t (some id) b s) := by
    rw [hreads]
    exact replyNoted_trans hnoted (replyNoted_modNode _ u h1)
  refine ⟨⟨only_keep hread.frame, hread.idWait, hread.map, hread.node⟩, nodeAt (replyNode r b s) u, ?_⟩
  calc nodeAt (replyNode r b s) (keep (readIdReply r t (some id) b) s)
    _ = nodeAt (replyNode r b s) (readIdReply r t (some id) b s) := nodeAt_of_cells rfl _
    _ = readNode id p (nodeAt (replyNode r b s) u) := by rw [hreads, nodeAt_modNode_same _ _ (h2.trans hn) h1]

/-- The map that the noted reply of the last node h forms, or the mismatch that it shows (R58). -/
theorem mapIfKnown_last {h : Nat} {s v : State} {x : Node} (hnoted : ReplyNoted h s v) (hx : nodeAt h v = x)
    (hanswered : x.answered = true) (hwait : s.chctl.idWait = true)
    (hall : ∀ k, 1 ≤ k → k ≤ s.chain.n → k ≠ h → (nodeAt k s).answered = true) :
    let u := mapIfKnown v
    let total := sumN ((upTo 1 s.chain.n).map fun k => if k = h then x.cells else (nodeAt k s).cells)
    Only [.now, .store, .chain, .chctl, .cells, .prot, .flt, .ident, .ses] s u ∧
    (nodeAt h u).id = x.id ∧ (nodeAt h u).fw = x.fw ∧ (nodeAt h u).answered = true ∧ u.chctl.idWait = false ∧
    (total = cfgN Ent.STR_POS_COUNT s → total ≤ 256 → u.cells.map = .mapped ∧ u.cells.posCount = total) ∧
    (total ≠ cfgN Ent.STR_POS_COUNT s → u.cells.map = .mismatch ∧ isActive 0x2108 wide u = true) := by
  intro u total
  have hchain : v.chain = s.chain := hnoted.frame .chain (by decide)
  have hpos : cfgN Ent.STR_POS_COUNT v = cfgN Ent.STR_POS_COUNT s := cfgN_of_store (hnoted.frame .store (by decide)) _ _
  have htotal : cellTotal v = total := by
    unfold cellTotal
    rw [hchain]
    refine congrArg sumN (List.map_congr_left fun k hk => ?_)
    by_cases hkh : k = h
    · rw [if_pos hkh, hkh, hx]
    · rw [if_neg hkh, hnoted.node k (mem_upTo.1 hk).1 hkh]
  have hallv : ∀ k, 1 ≤ k → k ≤ v.chain.n → (nodeAt k v).answered = true := fun k h1 h2 => by
    by_cases hkh : k = h
    · rw [hkh, hx, hanswered]
    · rw [hnoted.node k h1 hkh]
      exact hall k h1 (by rwa [hchain] at h2) hkh
  have hkept := mapIfKnown_maps (hnoted.idWait.trans hwait) hallv
  rw [htotal, hpos] at hkept
  generalize hst : (if total ≠ cfgN Ent.STR_POS_COUNT s ∨ total > 256 then MapState.mismatch else .mapped) = st at hkept
  obtain ⟨hframe, hstate, hnode⟩ := remapped_leaves st { v with chctl := { v.chctl with idWait := false } }
  obtain ⟨hid, hfw, hans⟩ := hkept.node h
  rw [(hnode h).trans hx] at hid hfw hans
  have hmap : u.cells.map = st := hkept.map.trans hstate
  have hwaits : u.chctl = { v.chctl with idWait := false } :=
    (hkept.frame .chctl (by decide)).trans (hframe .chctl (by decide))
  refine ⟨?_, hid, hfw, hans.trans hanswered, congrArg (·.idWait) hwaits, fun heq hle => ?_, fun hne => ?_⟩
  · have hwaited := only_chctl { v.chctl with idWait := false } v
    refine only_trans (only_mono hnoted.frame (by simp +contextual)) (only_trans (only_mono hwaited (by simp)) ?_)
    exact only_trans (only_mono hframe (by simp +contextual)) (only_mono hkept.frame (by simp +contextual))
  · have hmapped : st = .mapped := by rw [← hst, if_neg (by omega)]
    subst hmapped
    exact ⟨hmap, hkept.positions.trans htotal⟩
  · have hmismatch : st = .mismatch := by rw [← hst, if_pos (.inl hne)]
    subst hmismatch
    exact ⟨hmap, hkept.mismatch (isActive_raiseF _ _ _)⟩

/-- With the last READ_ID reply the CELLS of every node are known, and the map is formed where they match (R58). -/
theorem ends_readIdReply_last {r : Radio} {t : Nat} {id : Word64} {b p : List Byte} {s : State} (hl : live s = true)
    (hm : isFenced .m s = false) (hr : radioFenced r s = false) (hcrc : airCrcOk b = true) (hok : replyOk r b s = true)
    (hn : s.chain.n ≤ 32) (hp : replyPayload r (some id.toNat) b s = some p) (hlen : p.length = 14) (hop : fieldU p 0 1 = 0xA0)
    (hid : fieldU p 1 8 = id.toNat) (hmap : s.cells.map ≠ .mapped) (hwait : s.chctl.idWait = true)
    (hall : ∀ k, 1 ≤ k → k ≤ s.chain.n → k ≠ replyNode r b s → (nodeAt k s).answered = true) :
    let h := replyNode r b s
    let total := sumN ((upTo 1 s.chain.n).map fun k => if k = h then fieldU p 9 1 else (nodeAt k s).cells)
    Ends (.readIdReply r t (some id) b) s [.now, .store, .chain, .chctl, .cells, .prot, .flt, .ident, .ses] fun u =>
      (nodeAt h u).id = id.toNat ∧ (nodeAt h u).fw = fieldU p 10 4 ∧ (nodeAt h u).answered = true ∧ u.chctl.idWait = false ∧
      (total = cfgN Ent.STR_POS_COUNT s → total ≤ 256 → u.cells.map = .mapped ∧ u.cells.posCount = total) ∧
      (total ≠ cfgN Ent.STR_POS_COUNT s → u.cells.map = .mismatch ∧ isActive 0x2108 wide u = true) := by
  intro h total
  obtain ⟨hnoted, x, hx⟩ := readIdReply_reads (t := t) (s := s.begin) hm hr hcrc hok hn hp hlen hop hid hmap
  obtain ⟨hframe, hleaves⟩ := mapIfKnown_last hnoted hx rfl hwait hall
  exact ends_whenLive (f := fun s => mapIfKnown (keep (readIdReply r t (some id.toNat) b) s)) rfl hl hframe hleaves

/-- Settles O15: the result of an enumeration by what was found and what the check showed; the map from what each node last told. -/
theorem enumerationFormsTheMap : Obligations.EnumerationFormsTheMap := by
  unfold Obligations.EnumerationFormsTheMap
  refine ⟨?_, ?_⟩
  · intro rounds s mis reach hl hs found ps hlen
    exact ⟨ends_enumerationEnd_found hl hs hlen, ends_enumerationEnd_failed hl hs⟩
  · intro r t id b p s hl h cells total hm hr hcrc hok hn hp hlen hop hid hmap hwait hall
    exact ends_readIdReply_last hl hm hr hcrc hok hn hp hlen hop hid hmap hwait hall

end Sys2Proof.Proofs
end

section
/-! PROOFS. O14 fails: a lead status whose hop lies beyond node 32 is noted in no node. -/
namespace Sys2Proof.Proofs
open Sys2Proof Sys2Proof.Machine Sys2Proof.Laws

/-- The module keeps 32 nodes (R25): a node beyond them reads as an empty one in every state. -/
theorem nodeAt_beyond {h : Nat} (hh : 32 < h) (s : State) : nodeAt h s = default := by
  unfold nodeAt getAt
  rw [Array.getD_eq_getD_getElem?, Array.getElem?_eq_none (by simp only [Vector.size_toArray]; omega)]
  rfl

/-- A mapped module whose chain counts 33 nodes, one more than it keeps: nothing in the statement keeps `chain.n` within 32. -/
def chainOf33 : State :=
  { State.reset with
    sys := { State.reset.sys with phase := .started }
    chain := { State.reset.chain with n := 33 }
    cells := { State.reset.cells with map := .mapped } }

/-- The READ_LEAD_STATUS reply of hop 33 at radio A, with counter 2^39 under identity 0 and the pack key; no lead is open. -/
def leadStatus33 : List Byte :=
  [0x31, 0x01, 33, 0x00, 0x00, 0x80, 0x00, 0x00, 0x00, 0x00, 0x05, 0x6E, 0x59, 0x5C, 0xA2, 0x6A, 0x84, 0x32, 0x66, 0xB0, 0xC6, 0x15, 0xF3, 0xC3]

/-- The reply is one that radio A takes: whole, of a hop of the chain, and with a tag that verifies (R31, R53). -/
theorem leadStatus33_taken :
    airCrcOk leadStatus33 = true ∧ replyOk .a leadStatus33 chainOf33 = true ∧
    replyPayload .a (some 0) leadStatus33 chainOf33 = some [0xA1, 0, 0, 0, 0] := by decide +kernel

/-- Refutes O14: its clause on the lead status does not keep the chain within the 32 nodes of R25. With `chain.n = 33` the reply of hop
33 meets every premise, and `leadKnown` stays false, since there is no node 33 to note it in. -/
theorem not_chainFramesLeave : ¬ Obligations.ChainFramesLeave := by
  unfold Obligations.ChainFramesLeave
  rintro ⟨-, -, hheard⟩
  obtain ⟨hcrc, hok, hpayload⟩ := leadStatus33_taken
  have hnode : replyNode .a leadStatus33 chainOf33 = 33 := by decide +kernel
  have hid : (nodeAt 33 chainOf33).id = 0 := congrArg (·.id) (nodeAt_beyond (by decide) _)
  have hlead := (hheard chainOf33 (by decide +kernel)).1 .a 0 leadStatus33 [0xA1, 0, 0, 0, 0]
  dsimp only at hlead
  rw [hnode, hid] at hlead
  obtain ⟨u, -, -, -, hknown, -⟩ := hlead rfl (by decide +kernel) rfl hcrc hok hpayload rfl (by decide)
  rw [nodeAt_beyond (by decide)] at hknown
  exact Bool.false_ne_true hknown

end Sys2Proof.Proofs
end

section
/-! PROOFS. The estimator's timed events and the words of the coulomb channel. -/
namespace Sys2Proof.Proofs
open Sys2Proof Sys2Proof.Machine Sys2Proof.Laws

/-! ### Effects of a command, and frames of the estimator's registers -/

/-- A command on a started module ends with the state that its effect makes. -/
theorem ends_of_effect {i : Instr} {f : State → State} {s u : State} {ps : List Part} {P : State → Prop}
    (he : exec i s = whenLiveK f s) (hl : live s = true) (hu : f s.begin = u) (ho : Only ps s.begin u)
    (hp : P { s.keepQueue u with store := s.store }) : Ends i s ps P := by
  subst hu
  exact ends_whenLiveK he hl ho hp

theorem only_est (x : EstRegs) (s : State) : Only [.est] s { s with est := x } := fun p hp => by
  cases p with
  | est => exact absurd (by simp) hp
  | _ => rfl

theorem only_modCtx (n : Nat) (f : Ctx → Ctx) (s : State) : Only [.est] s (modCtx n f s) := only_est _ s

theorem only_modFl (n : Nat) (f : CtxFlags → CtxFlags) (s : State) : Only [.est] s (modFl n f s) := only_est _ s

theorem raiseF_est (c k : Nat) (s : State) : (raiseF c k s).est = s.est := only_raiseF c k s .est (by decide)

/-- A change of the estimator's registers, with a code raised. -/
theorem only_est_raiseF (c k : Nat) (x : EstRegs) (s : State) : Only [.est, .flt] s (raiseF c k { s with est := x }) :=
  only_trans (only_mono (only_est x s) (by simp)) (only_mono (only_raiseF c k _) (by simp))

theorem ratedCap_of_store {s t : State} (h : t.store = s.store) : ratedCap t = ratedCap s := cfgN_of_store h _ _

theorem getAt_setAt_other {α : Type} {n i k : Nat} [Inhabited α] (v : Vector α n) (x : α) (h : k ≠ i) :
    getAt (setAt v i x) k = getAt v k := by
  simp [getAt, setAt, h.symm]

theorem getAt_beyond {α : Type} {n i : Nat} [Inhabited α] (v : Vector α n) (h : n ≤ i) : getAt v i = default := by
  simp [getAt, h]

/-! ### No usable sample for 10 ms (R83) -/

section
variable {s : State} (hl : live s = true)
include hl

theorem ends_coulLost (h : max s.est.lastUseAt s.sys.t0 + 10000000 ≤ s.now) : Ends .coulLost s [.est, .flt] fun u =>
    u.est = { s.est with coulLost := true, usableRun := 0 } ∧ isActive 0x3002 wide u = true :=
  ends_of_effect (f := coulLost) rfl hl (guardOn_true (decide_eq_true h) _ s.begin) (only_est_raiseF _ _ _ s.begin)
    ⟨raiseF_est _ _ _, isActive_raiseF _ _ _⟩

theorem sends_coulLost (h : s.now < max s.est.lastUseAt s.sys.t0 + 10000000) : Sends .coulLost s [] :=
  sends_whenLiveK (f := coulLost) rfl hl (guardOn_false (decide_eq_false (Nat.not_le.2 h)) _ s.begin)

end

/-! ### No current source for 1 s (R83) -/

theorem flAt_modFl_same {n : Nat} (f : CtxFlags → CtxFlags) (s : State) (h : n < 256) : flAt n (modFl n f s) = f (flAt n s) :=
  getAt_modAt_same _ f h

theorem flAt_modFl_other {k n : Nat} (f : CtxFlags → CtxFlags) (s : State) (h : k ≠ n) : flAt k (modFl n f s) = flAt k s :=
  getAt_setAt_other _ _ h

theorem flAt_of_est {s t : State} (h : t.est = s.est) (n : Nat) : flAt n t = flAt n s := by simp only [flAt, h]

/-- The module keeps 256 contexts: the flags beyond them read as none set. -/
theorem flAt_beyond {n : Nat} (h : 256 ≤ n) (s : State) : flAt n s = {} := getAt_beyond _ h

/-- No flag of a context that has lost its source is VALID, nor does a later loss make one so. -/
theorem loseValid_valid (k n : Nat) (s : State) (h : k = n ∨ (flAt k s).valid = false) : (flAt k (loseValid n s)).valid = false := by
  rcases Nat.lt_or_ge k 256 with hk | hk
  · by_cases hkn : k = n
    · subst hkn
      rw [loseValid, flAt_modFl_same _ _ hk]
      split
      · rfl
      · next hv => simpa using hv
    · rw [loseValid, flAt_modFl_other _ _ hkn]
      exact h.resolve_left hkn
  · rw [flAt_beyond hk]

theorem only_publishEst (s : State) : Only [.est, .flt] s (publishEst s) :=
  only_trans (only_mono (only_setF _ _ _ s) (by simp)) (only_mono (only_est _ _) (by simp))

/-- Publishing changes nothing of the contexts. -/
theorem publishEst_est (s : State) : ∃ x y, (publishEst s).est = { s.est with strSoc := x, strUnc := y } := by
  have h : (setF ((positions s).any fun n => unanchored n s) 0x3009 wide s).est = s.est := only_setF _ _ _ s .est (by decide)
  exact ⟨_, _, by unfold publishEst; dsimp only; rw [h]⟩

section
variable {s : State} {t : Nat} (hl : live s = true) (hn : s.est.noneSince = some t) (hs : s.est.source = .none)
  (hp : parked s = false) (he : isFenced .e s = false)
include hl hn

include hs hp he in
theorem ends_sourceNoneTimeout (h : t + 1000000000 ≤ s.now) : Ends .sourceNoneTimeout s [.est, .flt] fun u =>
    u.est.ctx = s.est.ctx ∧ ∀ n ∈ positions s, (flAt n u).valid = false := by
  have hg : (s.begin.est.source == .none && !parked s.begin && !isFenced .e s.begin &&
      (match s.begin.est.noneSince with | some t => decide (t + 1000000000 ≤ s.begin.now) | none => false)) = true := by
    have hp' : parked s.begin = false := hp
    have he' : isFenced .e s.begin = false := he
    simp [hn, hs, hp', he', h]
  have hlost : Only [.est] s.begin (forAll (positions s) loseValid s.begin) := only_forAll _ _ _ (fun n s => only_modFl n _ s) _
  have hpub := only_publishEst (forAll (positions s) loseValid s.begin)
  obtain ⟨x, y, hest⟩ := publishEst_est (forAll (positions s) loseValid s.begin)
  refine ends_of_effect (f := sourceNoneTimeout) rfl hl (guardOn_true hg _ s.begin) (only_trans (only_mono hlost (by simp)) hpub)
    ⟨?_, fun n hmem => ?_⟩
  · exact (congrArg (·.ctx) hest).trans (forAll_eq (·.est.ctx) _ loseValid (fun _ _ => rfl) _)
  · refine (congrArg (fun e : EstRegs => (getAt e.fl n).valid) hest).trans ?_
    exact forAll_establishes (I := fun _ => True) (P := fun s => (flAt n s).valid = false) hmem (fun _ _ _ => trivial)
      (fun k _ s hv => loseValid_valid n k s (.inr hv)) (fun s _ => loseValid_valid n n s (.inl rfl)) trivial

theorem sends_sourceNoneTimeout (h : s.now < t + 1000000000) : Sends .sourceNoneTimeout s [] := by
  refine sends_whenLiveK (f := sourceNoneTimeout) rfl hl (guardOn_false (s := s.begin) ?_ _)
  rw [Bool.and_eq_false_iff]
  refine .inr ?_
  simp only [begin_est, hn]
  exact decide_eq_false (Nat.not_le.2 h)

end

/-! ### A second of rest (R91) -/

/-- The state in which a second's mean m has been taken. -/
def secondTaken (m : Int) (s : State) : State :=
  restTimers (some m) (s.est.mHist.getD 59 none) { s with est := { s.est with
    secI := [], secNone := false, secFrames := 0, m := some m, mHist := (some m :: s.est.mHist).take 60
    quietT := if quiet (some m) s then s.est.quietT + 1 else 0 } }

theorem restSecond_takes {s : State} (hr : estRuns s = true) (hf : 1000 ≤ s.est.secFrames) (hn : s.est.secNone = false)
    (hi : s.est.secI ≠ []) : restSecond s = secondTaken (divT (sumI s.est.secI) s.est.secI.length) s := by
  have hm : (s.est.secNone || s.est.secI.isEmpty) = false := by simp [hn, hi]
  unfold restSecond
  rw [guardOn_true (by simp [hr, hf])]
  simp only [hm, Bool.false_eq_true, if_false]
  rfl

section
variable {s : State} {m : Int} (hl : live s = true) (hr : estRuns s = true) (hn : s.est.secNone = false) (hi : s.est.secI ≠ [])
  (hm : m = divT (sumI s.est.secI) s.est.secI.length)
include hl

include hr hn hi hm in
theorem ends_restSecond (h : 1000 ≤ s.est.secFrames) : Ends .restSecond s [.est] fun u =>
    u.est.m = some m ∧ u.est.secI = [] ∧ u.est.secFrames = 0 ∧ u.est.mHist = (some m :: s.est.mHist).take 60 ∧
    u.est.restT = (if m.natAbs * 50 ≤ ratedCap s then s.est.restT + 1 else 0) := by
  subst hm
  exact ends_of_effect (f := restSecond) rfl hl (restSecond_takes (s := s.begin) hr h hn hi) (only_est _ s.begin) ⟨rfl, rfl, rfl, rfl, rfl⟩

theorem sends_restSecond (h : s.est.secFrames < 1000) : Sends .restSecond s [] := by
  refine sends_whenLiveK (f := restSecond) rfl hl (guardOn_false (s := s.begin) ?_ _)
  rw [begin_est, decide_eq_false (Nat.not_le.2 h), Bool.and_false]

end

/-! ### No valid temperature for 60 s (R90) -/

section
variable {s : State} {n : Fin 256} (hl : live s = true)
include hl

theorem ends_tempHoldExpiry (hq : (doneAt n.val s).tq.valid = false) (he : isFenced .e s = false)
    (h : lastTempAt n.val s + 60000000000 ≤ s.now) : Ends (.tempHoldExpiry n) s [.est] fun u =>
      u.est.ctx = s.est.ctx ∧ flAt n.val u = { flAt n.val s with tempOld := true, countOnly := true } ∧
      ∀ k : Fin 256, k ≠ n → flAt k.val u = flAt k.val s := by
  have hg : (!(doneAt n.val s.begin).tq.valid && !isFenced .e s.begin && decide (lastTempAt n.val s.begin + 60000000000 ≤ s.begin.now)) =
      true := by
    have hq' : (doneAt n.val s.begin).tq.valid = false := hq
    have he' : isFenced .e s.begin = false := he
    rw [hq', he', decide_eq_true (show lastTempAt n.val s.begin + 60000000000 ≤ s.begin.now from h)]
    rfl
  exact ends_of_effect (f := tempHoldExpiry n.val) rfl hl (guardOn_true hg _ s.begin) (only_modFl _ _ s.begin)
    ⟨rfl, flAt_modFl_same _ s.begin n.isLt, fun k hk => flAt_modFl_other _ s.begin fun hv => hk (Fin.ext hv)⟩

theorem sends_tempHoldExpiry (h : s.now < lastTempAt n.val s + 60000000000) : Sends (.tempHoldExpiry n) s [] := by
  refine sends_whenLiveK (f := tempHoldExpiry n.val) rfl hl (guardOn_false (s := s.begin) ?_ _)
  rw [decide_eq_false (show ¬ lastTempAt n.val s.begin + 60000000000 ≤ s.begin.now from Nat.not_le.2 h), Bool.and_false]

end

/-! ### A table in use is loaded (R88) -/

theorem tbl_modSet {k : Nat} (f : TblSlot → TblSlot) (s : State) (h : k < 16) :
    getAt (modSet k f s).est.tbl k = f (getAt s.est.tbl k) := getAt_modAt_same _ f h

theorem usableSet_eq {s : State} {k : Nat} {x : TblSlot} (h : getAt s.est.tbl k = x) :
    usableSet k s = if x.corrupt then none else x.active := by
  subst h
  rfl

theorem setState_corrupt {s : State} {k : Nat} (hs : setStored k s = true) (hc : (getAt s.est.tbl k).corrupt = true) :
    setState k s = .corrupt := by
  simp [setState, hs, hc]

section
variable {s : State} {k : Fin 16} (hl : live s = true)
include hl

theorem ends_tablePagerLoad_good (h : needsLoad k.val s = true) : Ends (.tablePagerLoad k true) s [.est] fun u =>
    getAt u.est.tbl k.val = { getAt s.est.tbl k.val with wait := false, loaded := storedSet k.val s } ∧
    usableSet k.val u = usableSet k.val s := by
  have htbl := tbl_modSet (fun t => { t with wait := false, loaded := storedSet k.val s.begin }) s.begin k.isLt
  refine ends_of_effect (f := tablePagerLoad k.val true) rfl hl (guardOn_true h _ s.begin) (only_est _ s.begin) ⟨htbl, ?_⟩
  show usableSet k.val (modSet k.val (fun t => { t with wait := false, loaded := storedSet k.val s.begin }) s.begin) = _
  rw [usableSet_eq htbl]
  rfl

theorem ends_tablePagerLoad_bad (h : needsLoad k.val s = true) : Ends (.tablePagerLoad k false) s [.est, .flt] fun u =>
    setState k.val u = .corrupt ∧ (getAt u.est.tbl k.val).loaded = none ∧ usableSet k.val u = none ∧
    isActive 0x3005 k.val u = true := by
  let v := modSet k.val (fun t => { t with wait := false, loaded := none, corrupt := true }) s.begin
  have htbl : getAt (raiseF 0x3005 k.val v).est.tbl k.val =
      { getAt s.est.tbl k.val with wait := false, loaded := none, corrupt := true } :=
    (congrArg (fun x => getAt x.tbl k.val) (raiseF_est _ _ v)).trans (tbl_modSet _ s.begin k.isLt)
  have hstored : setStored k.val s = true := by
    simp only [needsLoad, Bool.and_eq_true] at h
    obtain ⟨⟨⟨⟨-, hst⟩, -⟩, -⟩, -⟩ := h
    exact hst
  refine ends_of_effect (f := tablePagerLoad k.val false) rfl hl (guardOn_true h _ s.begin) (only_est_raiseF _ _ _ s.begin)
    ⟨?_, congrArg (·.loaded) htbl, usableSet_eq htbl, isActive_raiseF _ _ v⟩
  exact setState_corrupt hstored (congrArg (·.corrupt) htbl)

theorem sends_tablePagerLoad (b : Bool) (h : needsLoad k.val s = false) : Sends (.tablePagerLoad k b) s [] :=
  sends_whenLiveK (f := tablePagerLoad k.val b) rfl hl (guardOn_false (s := s.begin) h _)

end

/-! ### Words of the coulomb channel (R81 to R83) -/

/-- A usable sample becomes the newest one, and the last usable value. -/
theorem addSample_usable (t : Nat) (x : Int) (s : State) :
    (addSample t x true s).est.lastUse = x ∧ (addSample t x true s).est.samples.head? = some ⟨t, x, true⟩ := by
  refine ⟨rfl, ?_⟩
  have h : (addSample t x true s).est.samples = (⟨t, x, true⟩ :: s.est.samples).takeWhile fun c => c.t + keepNs ≥ t := rfl
  rw [h, List.takeWhile_cons]
  simp

/-- The state in which a word with status clear has been taken: the words that never came, then its own sample (R82, R83). -/
def wordTaken (b : List Byte) (t : Nat) (s : State) : State :=
  let inst := t - cfgN Ent.EST_SHUNT_LAT s * 1000
  let seq := fieldU b 5 1
  let missing := match s.est.lastSeq with
    | some p => (seq + 256 - (p + 1) % 256) % 256
    | none => 0
  let s := addSample inst (fieldS b 1 3) true
    (forAll (List.range missing) (fun i s => addSample (inst - (missing - i) * 31250) 0 false s) (atTime t s))
  { s with est := { s.est with lastSeq := some seq } }

theorem only_wordTaken (b : List Byte) (t : Nat) (s : State) : Only [.now, .est] s (wordTaken b t s) := by
  unfold wordTaken
  extract_lets inst seq missing u
  have hmiss := only_forAll [.est] (List.range missing) (fun i s => addSample (inst - (missing - i) * 31250) 0 false s)
    (fun _ s => only_est _ s) (atTime t s)
  exact only_trans (only_mono (only_atTime t s) (by simp)) (only_trans (only_mono hmiss (by simp)) (only_mono (only_est _ _) (by simp)))

theorem wordTaken_takes (b : List Byte) (t : Nat) (s : State) :
    (wordTaken b t s).est.lastSeq = some (fieldU b 5 1) ∧ (wordTaken b t s).est.lastUse = fieldS b 1 3 ∧
    (wordTaken b t s).est.samples.head? = some ⟨t - cfgN Ent.EST_SHUNT_LAT s * 1000, fieldS b 1 3, true⟩ :=
  ⟨rfl, addSample_usable _ _ _⟩

/-- The state in which 0x3002 clears, once 100 usable samples have come (R83). -/
def coulFound (s : State) : State :=
  if s.est.coulLost && s.est.usableRun ≥ 100 then clearF 0x3002 wide { s with est := { s.est with coulLost := false } } else s

theorem coulFound_leaves (s : State) : Only [.est, .flt] s (coulFound s) ∧ ∃ l, (coulFound s).est = { s.est with coulLost := l } := by
  unfold coulFound
  split
  · refine ⟨only_trans (only_mono (only_est _ s) (by simp)) (only_mono (only_clearF _ _ _) (by simp)), false, ?_⟩
    exact only_clearF _ _ _ .est (by decide)
  · exact ⟨only_refl _ s, _, rfl⟩

section
variable {b : List Byte} {s : State} (t : Nat)

theorem coulombWord_bad (h : ¬ (b.length = 8 ∧ fieldU b 0 1 = 0xC3 ∧ fieldU b 6 2 = crc16 (b.take 6))) : coulombWord b t s = atTime t s := by
  unfold coulombWord
  extract_lets lat u
  exact if_pos (by simp only [Bool.or_eq_true, decide_eq_true_eq]; tauto)

theorem coulombWord_clear (h : b.length = 8 ∧ fieldU b 0 1 = 0xC3 ∧ fieldU b 6 2 = crc16 (b.take 6)) (hst : fieldU b 4 1 = 0) :
    coulombWord b t s = coulFound (wordTaken b t s) := by
  have hbit (i : Nat) : bitOf (fieldU b 4 1) i = false := by simp [hst, bitOf]
  unfold coulombWord
  extract_lets _ s0 inst seq st ovr sfault cal missing s1 s2 _ s3 s4 s5
  rw [if_neg (by simp only [Bool.or_eq_true, decide_eq_true_eq]; tauto)]
  have hovr : ovr = false := hbit 7
  have hsfault : sfault = false := hbit 6
  have husable : (!(ovr || sfault || cal)) = true := by simp [hovr, hsfault, show cal = false from hbit 5]
  have h2 : s2 = addSample inst (fieldS b 1 3) true s1 := congrArg (fun ok => addSample inst (fieldS b 1 3) ok s1) husable
  have h5 : s5 = { s2 with est := { s2.est with lastSeq := some seq } } := (if_neg (by simp [hsfault])).trans (if_neg (by simp [hovr]))
  show coulFound s5 = coulFound (wordTaken b t s)
  rw [h5, h2]
  rfl

theorem ends_coulombWord_clear (hl : live s = true) (h : b.length = 8 ∧ fieldU b 0 1 = 0xC3 ∧ fieldU b 6 2 = crc16 (b.take 6))
    (hst : fieldU b 4 1 = 0) : Ends (.coulombWord b t) s [.now, .est, .flt] fun u =>
      u.now = max s.now t ∧ u.est.lastSeq = some (fieldU b 5 1) ∧ u.est.lastUse = fieldS b 1 3 ∧
      u.est.samples.head? = some ⟨t - cfgN Ent.EST_SHUNT_LAT s * 1000, fieldS b 1 3, true⟩ := by
  obtain ⟨hfound, l, hest⟩ := coulFound_leaves (wordTaken b t s.begin)
  obtain ⟨hseq, huse, hhead⟩ := wordTaken_takes b t s.begin
  have htaken := only_wordTaken b t s.begin
  have hnow : (coulFound (wordTaken b t s.begin)).now = max s.now t := by
    rw [hfound .now (by decide)]
    exact forAll_eq (·.now) _ (fun i s => addSample (_ - (_ - i) * 31250) 0 false s) (fun _ _ => rfl) (atTime t s.begin)
  refine ends_of_effect (f := coulombWord b t) rfl hl (coulombWord_clear t h hst)
    (only_trans (only_mono htaken (by simp)) (only_mono hfound (by simp))) ⟨hnow, ?_⟩
  show (coulFound (wordTaken b t s.begin)).est.lastSeq = _ ∧ (coulFound (wordTaken b t s.begin)).est.lastUse = _ ∧
    (coulFound (wordTaken b t s.begin)).est.samples.head? = _
  rw [hest]
  exact ⟨hseq, huse, hhead⟩

theorem ends_coulombWord_bad (hl : live s = true) (h : ¬ (b.length = 8 ∧ fieldU b 0 1 = 0xC3 ∧ fieldU b 6 2 = crc16 (b.take 6))) :
    Ends (.coulombWord b t) s [.now] fun u => u.now = max s.now t :=
  ends_of_effect (f := coulombWord b t) rfl hl (coulombWord_bad t h) (only_atTime t s.begin) rfl

end

/-- Settles O16: each timed event on both sides of its instant, and a word by whether it is in form. -/
theorem estimatorTimedEvents : Obligations.EstimatorTimedEvents := by
  unfold Obligations.EstimatorTimedEvents
  refine ⟨fun s hl => ⟨ends_coulLost hl, sends_coulLost hl, ?source, ?second, ?temp, ?table⟩, ?word⟩
  case source =>
    exact fun t hn hs hp he => ⟨ends_sourceNoneTimeout hl hn hs hp he, sends_sourceNoneTimeout hl hn⟩
  case second => exact fun m hr hn hi hm => ⟨ends_restSecond hl hr hn hi hm, sends_restSecond hl⟩
  case temp => exact fun n hq he => ⟨ends_tempHoldExpiry hl hq he, sends_tempHoldExpiry hl⟩
  case table => exact fun k => ⟨ends_tablePagerLoad_good hl, ends_tablePagerLoad_bad hl, sends_tablePagerLoad hl⟩
  case word =>
    intro b t s hl good
    exact ⟨ends_coulombWord_clear t hl, ends_coulombWord_bad t hl⟩

end Sys2Proof.Proofs
end

section
/-! PROOFS. Checkpoints, the restore and hibernation: what the work on contexts and learned records leaves of the estimator. -/
namespace Sys2Proof.Proofs
open Sys2Proof Sys2Proof.Machine Sys2Proof.Laws

theorem only_ident (x : IdentRegs) (s : State) : Only [.ident] s { s with ident := x } := fun p hp => by
  cases p with
  | ident => exact absurd (by simp) hp
  | _ => rfl

/-! ### Codes that stay active -/

/-- Every active code outside of `cs` stays active. -/
def CodesKept (cs : List Nat) (s t : State) : Prop := ∀ c k, c ∉ cs → isActive c k s = true → isActive c k t = true

theorem codesKept_refl (cs : List Nat) (s : State) : CodesKept cs s s := fun _ _ _ h => h

theorem codesKept_trans {cs : List Nat} {s t u : State} (h : CodesKept cs s t) (k : CodesKept cs t u) : CodesKept cs s u :=
  fun c i hc ha => k c i hc (h c i hc ha)

theorem codesKept_mono {cs ds : List Nat} {s t : State} (h : CodesKept cs s t) (hd : ∀ c ∈ cs, c ∈ ds) : CodesKept ds s t :=
  fun c k hc => h c k fun hm => hc (hd c hm)

theorem codesKept_of_only {ps : List Part} {s t : State} (h : Only ps s t) (hf : .flt ∉ ps) (cs : List Nat) : CodesKept cs s t :=
  fun c k _ ha => (isActive_of_flt (h .flt hf) c k).trans ha

theorem codesKept_raiseF (cs : List Nat) (c k : Nat) (s : State) : CodesKept cs s (raiseF c k s) :=
  fun _ _ _ ha => isActive_raiseF_of_active c k ha

theorem codesKept_clearF {cs : List Nat} {c : Nat} (hc : c ∈ cs) (k : Nat) (s : State) : CodesKept cs s (clearF c k s) :=
  fun _ _ hd ha => (isActive_clearF_other (.inl fun h => hd (by rwa [h])) s).trans ha

/-! ### Work on the contexts and their records -/

/-- Of the estimator's registers only contexts, flags and published values differ. -/
def ContextsOnly (e e' : EstRegs) : Prop := ∃ c f x y, e' = { e with ctx := c, fl := f, strSoc := x, strUnc := y }

theorem contextsOnly_trans {e e' e'' : EstRegs} (h : ContextsOnly e e') (k : ContextsOnly e' e'') : ContextsOnly e e'' := by
  obtain ⟨_, _, _, _, rfl⟩ := h
  obtain ⟨c, f, x, y, rfl⟩ := k
  exact ⟨c, f, x, y, rfl⟩

/-- Work on the contexts and their records: it touches the parts `ps`, ends no code but those of `cs`, and leaves of the estimator all
but contexts, flags and published values, and the marks of the records' load and hourly batch. -/
structure ContextWork (ps : List Part) (cs : List Nat) (s t : State) : Prop where
  frame : Only ps s t
  codes : CodesKept cs s t
  est : ContextsOnly s.est t.est
  loaded : t.ident.loaded = s.ident.loaded
  hourAt : t.ident.hourAt = s.ident.hourAt

theorem contextWork_refl (ps : List Part) (cs : List Nat) (s : State) : ContextWork ps cs s s :=
  ⟨only_refl _ s, codesKept_refl _ s, ⟨_, _, _, _, rfl⟩, rfl, rfl⟩

theorem contextWork_trans {ps : List Part} {cs : List Nat} {s t u : State} (h : ContextWork ps cs s t) (k : ContextWork ps cs t u) :
    ContextWork ps cs s u where
  frame := only_trans h.frame k.frame
  codes := codesKept_trans h.codes k.codes
  est := contextsOnly_trans h.est k.est
  loaded := k.loaded.trans h.loaded
  hourAt := k.hourAt.trans h.hourAt

theorem contextWork_mono {ps qs : List Part} {cs ds : List Nat} {s t : State} (h : ContextWork ps cs s t) (hp : ∀ p ∈ ps, p ∈ qs)
    (hc : ∀ c ∈ cs, c ∈ ds) : ContextWork qs ds s t :=
  ⟨only_mono h.frame hp, codesKept_mono h.codes hc, h.est, h.loaded, h.hourAt⟩

section
variable {ps : List Part} {cs : List Nat} {s : State}

theorem contextWork_forAll {α : Type} (xs : List α) (f : α → State → State) (h : ∀ x s, ContextWork ps cs s (f x s)) (s : State) :
    ContextWork ps cs s (forAll xs f s) := by
  unfold forAll
  induction xs generalizing s with
  | nil => exact contextWork_refl ps cs s
  | cons x xs ih => exact contextWork_trans (h x s) (ih _)

theorem contextWork_ite {p : Prop} [Decidable p] {t u : State} (ht : ContextWork ps cs s t) (hu : ContextWork ps cs s u) :
    ContextWork ps cs s (if p then t else u) := by
  split
  · exact ht
  · exact hu

theorem contextWork_guardOn (p : Bool) {f : State → State} (h : ContextWork ps cs s (f s)) : ContextWork ps cs s (guardOn p f s) :=
  contextWork_ite h (contextWork_refl ps cs s)

theorem contextWork_of_only {qs : List Part} {t : State} (h : Only qs s t) (hq : ∀ p ∈ qs, p ∈ ps) (hf : .flt ∉ qs) (he : .est ∉ qs)
    (hi : .ident ∉ qs) : ContextWork ps cs s t :=
  ⟨only_mono h hq, codesKept_of_only h hf cs, ⟨_, _, _, _, h .est he⟩, congrArg (·.loaded) (h .ident hi), congrArg (·.hourAt) (h .ident hi)⟩

theorem contextWork_modCtx (n : Nat) (f : Ctx → Ctx) (h : .est ∈ ps) : ContextWork ps cs s (modCtx n f s) :=
  ⟨only_mono (only_modCtx n f s) (by simpa using h), codesKept_of_only (only_modCtx n f s) (by decide) cs, ⟨_, _, _, _, rfl⟩, rfl, rfl⟩

theorem contextWork_modFl (n : Nat) (f : CtxFlags → CtxFlags) (h : .est ∈ ps) : ContextWork ps cs s (modFl n f s) :=
  ⟨only_mono (only_modFl n f s) (by simpa using h), codesKept_of_only (only_modFl n f s) (by decide) cs, ⟨_, _, _, _, rfl⟩, rfl, rfl⟩

theorem contextWork_ident (x : IdentRegs) (h : .ident ∈ ps) (hl : x.loaded = s.ident.loaded) (hh : x.hourAt = s.ident.hourAt) :
    ContextWork ps cs s { s with ident := x } :=
  ⟨only_mono (only_ident x s) (by simpa using h), codesKept_of_only (only_ident x s) (by decide) cs, ⟨_, _, _, _, rfl⟩, hl, hh⟩

theorem contextWork_modLp (n : Nat) (f : LearnPos → LearnPos) (h : .ident ∈ ps) : ContextWork ps cs s (modLp n f s) :=
  contextWork_ident _ h rfl rfl

theorem contextWork_of_flt {t : State} (h : Only [.flt] s t) (hp : .flt ∈ ps) (hc : CodesKept cs s t) : ContextWork ps cs s t :=
  ⟨only_mono h (by simpa using hp), hc, ⟨_, _, _, _, h .est (by decide)⟩, congrArg (·.loaded) (h .ident (by decide)),
    congrArg (·.hourAt) (h .ident (by decide))⟩

theorem contextWork_raiseF (c k : Nat) (h : .flt ∈ ps) : ContextWork ps cs s (raiseF c k s) :=
  contextWork_of_flt (only_raiseF c k s) h (codesKept_raiseF cs c k s)

theorem contextWork_clearF {c : Nat} (k : Nat) (h : .flt ∈ ps) (hc : c ∈ cs) : ContextWork ps cs s (clearF c k s) :=
  contextWork_of_flt (only_clearF c k s) h (codesKept_clearF hc k s)

theorem contextWork_journalOwn (type : Nat) (b : List Byte) (h : .ses ∈ ps) : ContextWork ps cs s (journalOwn type b s) :=
  contextWork_of_only (only_journalOwn type b s) (by simpa using h) (by decide) (by decide) (by decide)

end

theorem contextWork_publishEst (s : State) : ContextWork [.est, .flt] [0x3009] s (publishEst s) := by
  have hset : ContextWork [.est, .flt] [0x3009] s (setF ((positions s).any fun n => unanchored n s) 0x3009 wide s) :=
    contextWork_ite (contextWork_raiseF _ _ (by decide)) (contextWork_clearF _ (by decide) (by decide))
  refine contextWork_trans hset ⟨only_mono (only_est _ _) (by simp), ?_, ⟨_, _, _, _, rfl⟩, rfl, rfl⟩
  exact codesKept_of_only (only_est _ _) (by decide) _

/-! ### Learned records are written, mended and loaded (R110 to R112, R120) -/

/-- Work on the learned records, as the estimator sees it. -/
abbrev RecordWork : State → State → Prop := ContextWork [.est, .ident, .flt, .pair] [0x3011, 0x3012]

theorem recordWork_endWait (n : Nat) (s : State) : RecordWork s (endWait n s) :=
  contextWork_trans (contextWork_modLp _ _ (by decide))
    (contextWork_ite (contextWork_refl _ _ _) (contextWork_clearF _ (by decide) (by decide)))

theorem recordWork_sendMirror (cls : Nat) (content : List Byte) (s : State) : RecordWork s (sendMirror cls content s) := by
  obtain ⟨o, q, h⟩ := sendMirror_eq cls content s
  rw [h]
  exact contextWork_of_only (only_pairOut _ _ s) (by simp) (by decide) (by decide) (by decide)

theorem recordWork_writeRecord (n : Nat) (r : Learned) (s : State) : RecordWork s (writeRecord n r s) := by
  unfold writeRecord
  extract_lets s1 s2
  have h1 : RecordWork s s1 := contextWork_trans (contextWork_modLp _ _ (by decide)) (recordWork_endWait _ _)
  have h2 : RecordWork s1 s2 := contextWork_ite (contextWork_clearF _ (by decide) (by decide)) (contextWork_refl _ _ _)
  exact contextWork_trans (contextWork_trans h1 h2) (contextWork_ite (recordWork_sendMirror _ _ _) (contextWork_refl _ _ _))

theorem recordWork_tryWrite (n : Nat) {f : State → State} {s : State} (h : RecordWork s (f s)) : RecordWork s (tryWrite n f s) :=
  contextWork_ite h (contextWork_modLp _ _ (by decide))

theorem recordWork_rebuildRecord (n : Nat) (s : State) : RecordWork s (rebuildRecord n s) :=
  contextWork_guardOn _ (recordWork_tryWrite n
    (contextWork_trans (recordWork_writeRecord _ _ _) (contextWork_modFl _ _ (by decide))))

theorem recordWork_repairSlot (n : Nat) (r : Learned) (s : State) : RecordWork s (repairSlot n r s) :=
  contextWork_trans (contextWork_trans (contextWork_modLp _ _ (by decide)) (recordWork_endWait _ _))
    (contextWork_clearF _ (by decide) (by decide))

theorem recordWork_mendRecord (n : Nat) (s : State) : RecordWork s (mendRecord n s) := by
  unfold mendRecord
  dsimp only
  split
  · exact contextWork_refl _ _ s
  · split
    · exact recordWork_tryWrite n (recordWork_repairSlot _ _ _)
    · exact recordWork_rebuildRecord n s

theorem recordWork_loadRecord (n : Nat) (s : State) : RecordWork s (loadRecord n s) := by
  refine contextWork_trans (recordWork_mendRecord n s) (contextWork_ite ?_ (contextWork_modFl _ _ (by decide)))
  exact contextWork_trans (contextWork_modCtx _ _ (by decide)) (contextWork_modFl _ _ (by decide))

theorem recordWork_batchWrite (n : Nat) (s : State) : RecordWork s (batchWrite n s) := by
  unfold batchWrite
  extract_lets f r0 r s1 s2
  split
  extract_lets s3
  have h1 : RecordWork s s1 := contextWork_modFl _ _ (by decide)
  have h2 : RecordWork s1 s2 := contextWork_trans (recordWork_writeRecord _ _ _) (contextWork_modCtx _ _ (by decide))
  have h3 : RecordWork s2 s3 := contextWork_modLp _ _ (by decide)
  exact contextWork_trans (contextWork_trans h1 (contextWork_trans h2 h3))
    (contextWork_ite (contextWork_raiseF _ _ (by decide)) (contextWork_refl _ _ _))

theorem recordWork_recordBatch (s : State) : RecordWork s (recordBatch s) := by
  unfold recordBatch
  extract_lets _ s1
  have h0 : RecordWork s { s with ident := { s.ident with pendBatch := false } } := contextWork_ident _ (by decide) rfl rfl
  have h1 : RecordWork { s with ident := { s.ident with pendBatch := false } } s1 := contextWork_forAll _ _
    (fun n s => contextWork_ite (contextWork_modLp _ _ (by decide)) (recordWork_batchWrite n s)) _
  clear_value s1
  exact contextWork_trans (contextWork_trans h0 h1) (contextWork_ident _ (by decide) rfl rfl)

theorem recordWork_startBatch (s : State) : RecordWork s (startBatch s) :=
  contextWork_guardOn _ (contextWork_ite (recordWork_recordBatch s) (contextWork_ident _ (by decide) rfl rfl))

/-- Identities compared with the records (R122, R123, R125). -/
theorem contextWork_compareAll (s : State) : ContextWork [.ident, .flt, .ses] [0x3014] s (compareAll s) := by
  have hpos (id n : Nat) (s : State) : ContextWork [.ident, .flt, .ses] [0x3014] s (comparePos id n s) := by
    refine contextWork_trans (contextWork_clearF (c := 0x3014) n (by decide) (by decide)) (contextWork_ite (contextWork_modLp _ _ (by decide))
      (contextWork_ite (contextWork_refl _ _ _) (contextWork_ite (contextWork_modLp _ _ (by decide)) ?_)))
    exact contextWork_trans (contextWork_modLp _ _ (by decide)) (contextWork_journalOwn _ _ (by decide))
  exact contextWork_forAll _ _ (fun h s => contextWork_guardOn _ (contextWork_forAll _ _
    (fun n s => contextWork_ite (contextWork_raiseF _ _ (by decide)) (hpos _ n s)) s)) s

/-! ### Checkpoints (R104) -/

/-- The copy that a checkpoint writes. -/
def checkpointOf (s : State) : Checkpoint :=
  { seq := max s.est.cpA.seq s.est.cpB.seq + 1, time := s.now, op := opNow s, valid := true, ctx := s.est.ctx.toList, fl := s.est.fl.toList }

theorem only_writeCheckpoint (s : State) : Only [.est] s (writeCheckpoint s) :=
  only_guardOn _ _ (only_ite (only_est _ s) (only_est _ s))

/-- A checkpoint leaves all of the estimator but its two copies. -/
theorem writeCheckpoint_est (s : State) : ∃ a b, (writeCheckpoint s).est = { s.est with cpA := a, cpB := b } := by
  unfold writeCheckpoint guardOn
  dsimp only
  split
  · split <;> exact ⟨_, _, rfl⟩
  · exact ⟨_, _, rfl⟩

section
variable {s : State} (hr : s.est.restored = true) (he : isFenced .e s = false)
include hr he

theorem writeCheckpoint_toA (h : s.est.cpA.seq ≤ s.est.cpB.seq) :
    writeCheckpoint s = { s with est := { s.est with cpA := checkpointOf s } } := by
  unfold writeCheckpoint
  rw [guardOn_true (by simp [hr, he])]
  exact if_pos h

theorem writeCheckpoint_toB (h : s.est.cpB.seq < s.est.cpA.seq) :
    writeCheckpoint s = { s with est := { s.est with cpB := checkpointOf s } } := by
  unfold writeCheckpoint
  rw [guardOn_true (by simp [hr, he])]
  exact if_neg (Nat.not_le.2 h)

/-- The next number is the number of the copy written, which is then the newest. -/
theorem writeCheckpoint_seq : max (writeCheckpoint s).est.cpA.seq (writeCheckpoint s).est.cpB.seq =
    max s.est.cpA.seq s.est.cpB.seq + 1 := by
  rcases Nat.lt_or_ge s.est.cpB.seq s.est.cpA.seq with h | h
  · rw [writeCheckpoint_toB hr he h]
    simp only [checkpointOf]
    omega
  · rw [writeCheckpoint_toA hr he h]
    simp only [checkpointOf]
    omega

end

theorem exec_checkpointWrite (s : State) : exec .checkpointWrite s = whenLiveK (fun s =>
    guardOn (estRuns s && s.est.restored && due s.est.cpAt (cfgN Ent.EST_CKPT_INT s * 1000000000) s)
      (fun s => writeCheckpoint { s with est := { s.est with cpAt := some s.now } }) s) s := rfl

theorem isFenced_of_estRuns {s : State} (h : estRuns s = true) : isFenced .e s = false := by
  simp only [estRuns, Bool.and_eq_true, Bool.not_eq_true'] at h
  exact h.1.2

section
variable {s : State} (hl : live s = true) (hr : estRuns s = true) (hres : s.est.restored = true)
include hl

include hr hres in
theorem ends_checkpointWrite (h : due s.est.cpAt (cfgN Ent.EST_CKPT_INT s * 1000000000) s = true) :
    Ends .checkpointWrite s [.est] fun u =>
      u.est.ctx = s.est.ctx ∧ u.est.fl = s.est.fl ∧ u.est.cpAt = some s.now ∧
      (s.est.cpA.seq ≤ s.est.cpB.seq → u.est.cpB = s.est.cpB ∧ u.est.cpA.valid = true ∧ u.est.cpA.ctx = s.est.ctx.toList ∧
        u.est.cpA.seq = s.est.cpB.seq + 1) ∧
      (s.est.cpB.seq < s.est.cpA.seq → u.est.cpA = s.est.cpA ∧ u.est.cpB.valid = true ∧ u.est.cpB.ctx = s.est.ctx.toList ∧
        u.est.cpB.seq = s.est.cpA.seq + 1) := by
  let v : State := { s.begin with est := { s.est with cpAt := some s.now } }
  have he : isFenced .e v = false := isFenced_of_estRuns hr
  obtain ⟨a, b, hest⟩ := writeCheckpoint_est v
  refine ends_of_effect (u := writeCheckpoint v) (exec_checkpointWrite s) hl (guardOn_true ?_ _ _)
    (only_trans (only_est _ s.begin) (only_writeCheckpoint v))
    ⟨congrArg (·.ctx) hest, congrArg (·.fl) hest, congrArg (·.cpAt) hest, fun hA => ?_, fun hB => ?_⟩
  · rw [Bool.and_eq_true, Bool.and_eq_true]
    exact ⟨⟨hr, hres⟩, h⟩
  · rw [writeCheckpoint_toA (s := v) hres he hA]
    exact ⟨rfl, rfl, rfl, congrArg (· + 1) (Nat.max_eq_right hA)⟩
  · rw [writeCheckpoint_toB (s := v) hres he hB]
    exact ⟨rfl, rfl, rfl, congrArg (· + 1) (Nat.max_eq_left hB.le)⟩

theorem sends_checkpointWrite (h : due s.est.cpAt (cfgN Ent.EST_CKPT_INT s * 1000000000) s = false) : Sends .checkpointWrite s [] := by
  refine sends_whenLiveK (exec_checkpointWrite s) hl (guardOn_false ?_ _ _)
  rw [show due s.begin.est.cpAt (cfgN Ent.EST_CKPT_INT s.begin * 1000000000) s.begin = false from h, Bool.and_false]

end

/-! ### The restore (R105) -/

theorem contextWork_restorePos (cp : Checkpoint) (secs n : Nat) (s : State) : ContextWork [.est, .flt] [] s (restorePos cp secs n s) := by
  have hwatch (s : State) : ContextWork [.est, .flt] [] s (takeWatch n s) :=
    contextWork_trans (contextWork_modCtx _ _ (by decide)) (contextWork_modFl _ _ (by decide))
  unfold restorePos
  extract_lets w c f now s1 s2 s3 far s4 s5 s6
  have h3 : ContextWork [.est, .flt] [] s s3 := contextWork_trans (contextWork_trans (contextWork_modCtx _ _ (by decide))
    (contextWork_modFl _ _ (by decide))) (contextWork_modCtx _ _ (by decide))
  have h4 : ContextWork [.est, .flt] [] s3 s4 :=
    contextWork_ite (contextWork_trans (hwatch s3) (contextWork_raiseF _ _ (by decide))) (contextWork_refl _ _ _)
  have h5 : ContextWork [.est, .flt] [] s4 s5 :=
    contextWork_ite (contextWork_trans (hwatch s4) (contextWork_modCtx _ _ (by decide))) (contextWork_refl _ _ _)
  have h6 : ContextWork [.est, .flt] [] s5 s6 := contextWork_ite (contextWork_refl _ _ _) (contextWork_modFl _ _ (by decide))
  exact contextWork_trans (contextWork_trans (contextWork_trans (contextWork_trans h3 h4) h5) h6) (contextWork_modFl _ _ (by decide))

theorem contextWork_restoreNone (n : Nat) (s : State) : ContextWork [.est, .flt] [] s (restoreNone n s) :=
  contextWork_trans (contextWork_modCtx _ _ (by decide)) (contextWork_modFl _ _ (by decide))

/-- The contexts come from the active partner. -/
def partnerLeads (s : State) : Bool := s.pair.paired && s.pair.role != .active && s.pair.partner == some .active

/-- The contexts from the partner, from the newest copy that passes, or from the table (R105). -/
def restoreContexts (aOk bOk : Bool) (s : State) : State :=
  if partnerLeads s then forAll (List.range 256) (fun n s => modFl n (fun f => { f with tableOnly := false }) s) s
  else match bestCheckpoint aOk bOk s.est with
    | some cp => forAll (List.range 256) (restorePos cp (if s.locked then (s.now - cp.time) / 1000000000 else 86400)) s
    | none => forAll (List.range 256) restoreNone (raiseF 0x300B wide s)

/-- The restore has ended: the estimator runs, where it has a rated capacity. -/
def estRestored (s : State) : State :=
  { s with
    est := { s.est with restored := true, cpAt := some s.now, state := if ratedCap s = 0 then .off else .running }
    ident := { s.ident with hourAt := some s.now } }

/-- The learned records are loaded; those of a standby come from its partner (R110). -/
def recordsLoaded (partner : Bool) (s : State) : State :=
  if partner then { s with ident := { s.ident with loaded := true } } else loadLearned s

theorem contextRestore_eq {s : State} (h : restoreDue s = true) (a b : Bool) : contextRestore a b s =
    publishEst (compareAll (recordsLoaded (partnerLeads s) (estRestored (restoreContexts a b s)))) := guardOn_true h _ s

theorem contextWork_restoreContexts (a b : Bool) (s : State) : ContextWork [.est, .flt] [] s (restoreContexts a b s) := by
  unfold restoreContexts
  split
  · exact contextWork_forAll _ _ (fun n s => contextWork_modFl _ _ (by decide)) s
  · split
    · exact contextWork_forAll _ _ (contextWork_restorePos _ _) s
    · exact contextWork_trans (contextWork_raiseF _ _ (by decide)) (contextWork_forAll _ _ contextWork_restoreNone _)

/-- Where no copy passes, the module tells of it (R105). -/
theorem restoreContexts_none {a b : Bool} {s : State} (hp : s.pair.paired = false) (h : bestCheckpoint a b s.est = none) :
    isActive 0x300B wide (restoreContexts a b s) = true := by
  have e : restoreContexts a b s = forAll (List.range 256) restoreNone (raiseF 0x300B wide s) := by
    simp [restoreContexts, partnerLeads, hp, h]
  rw [e]
  exact (contextWork_forAll _ _ contextWork_restoreNone _).codes _ _ (by simp) (isActive_raiseF _ _ s)

/-- What the records' load leaves, and that they are loaded. -/
theorem recordsLoaded_loads (p : Bool) (s : State) :
    ∃ v, RecordWork s v ∧ recordsLoaded p s = { v with ident := { v.ident with loaded := true } } := by
  unfold recordsLoaded
  split
  · exact ⟨s, contextWork_refl _ _ s, rfl⟩
  · exact ⟨_, contextWork_forAll _ _ recordWork_loadRecord s, rfl⟩

theorem only_estRestored (s : State) : Only [.est, .ident] s (estRestored s) := fun p hp => by
  cases p with
  | est | ident => exact absurd (by simp) hp
  | _ => rfl

/-- After the restore the records are loaded, the identities compared and the values published; of the estimator that leaves all but
contexts, flags and published values. -/
theorem restoreEnd_leaves (p : Bool) (s : State) : let u := publishEst (compareAll (recordsLoaded p s))
    Only [.est, .ident, .flt, .ses, .pair] s u ∧ CodesKept [0x3009, 0x3011, 0x3012, 0x3014] s u ∧
    ContextsOnly s.est u.est ∧
    u.ident.loaded = true ∧ u.ident.hourAt = s.ident.hourAt := by
  intro u
  obtain ⟨v, hv, hload⟩ := recordsLoaded_loads p s
  let w : State := { v with ident := { v.ident with loaded := true } }
  have hw : Only [.ident] v w := only_ident _ v
  have hu : ContextWork [.est, .ident, .flt, .ses] [0x3009, 0x3014] w u := by
    rw [show u = publishEst (compareAll w) from congrArg (fun x => publishEst (compareAll x)) hload]
    exact contextWork_trans (contextWork_mono (contextWork_compareAll w) (by simp) (by simp))
      (contextWork_mono (contextWork_publishEst _) (by simp) (by simp))
  refine ⟨?_, ?_, contextsOnly_trans hv.est hu.est, hu.loaded, hu.hourAt.trans hv.hourAt⟩
  · exact only_trans (only_mono hv.frame (by simp)) (only_trans (only_mono hw (by simp)) (only_mono hu.frame (by simp)))
  · exact codesKept_trans (codesKept_mono hv.codes (by simp)) (codesKept_trans (codesKept_of_only hw (by decide) _)
      (codesKept_mono hu.codes (by simp)))

theorem contextRestore_restores {s : State} (h : restoreDue s = true) (a b : Bool) : let u := contextRestore a b s
    Only [.est, .ident, .flt, .ses, .pair] s u ∧ u.est.restored = true ∧
    u.est.state = (if ratedCap s = 0 then .off else .running) ∧ u.ident.loaded = true ∧
    u.est.cpAt = some s.now ∧ u.ident.hourAt = some s.now ∧
    (s.pair.paired = false → bestCheckpoint a b s.est = none → isActive 0x300B wide u = true) := by
  have hr := contextWork_restoreContexts a b s
  have hend := only_estRestored (restoreContexts a b s)
  have hnow : (restoreContexts a b s).now = s.now := hr.frame .now (by decide)
  have hcap : ratedCap (restoreContexts a b s) = ratedCap s := ratedCap_of_store (hr.frame .store (by decide))
  obtain ⟨hframe, hcodes, ⟨_, _, _, _, hest⟩, hloaded, hhour⟩ := restoreEnd_leaves (partnerLeads s) (estRestored (restoreContexts a b s))
  rw [contextRestore_eq h]
  dsimp only
  rw [hest, hhour, ← hcap, ← hnow]
  refine ⟨?_, rfl, rfl, hloaded, rfl, rfl, fun hp hb => hcodes _ _ (by decide) ?_⟩
  · exact only_trans (only_mono hr.frame (by simp)) (only_trans (only_mono hend (by simp)) hframe)
  · exact codesKept_of_only hend (by decide) [] _ _ (by simp) (restoreContexts_none hp hb)

/-! ### Hibernation (R106, R107) -/

section
variable {s : State} (hl : live s = true)
include hl

theorem ends_contextRestore (h : restoreDue s = true) (a b : Bool) :
    Ends (.contextRestore a b) s [.est, .ident, .flt, .ses, .pair] fun u =>
      u.est.restored = true ∧ u.est.state = (if ratedCap s = 0 then .off else .running) ∧ u.ident.loaded = true ∧
      u.est.cpAt = some s.now ∧ u.ident.hourAt = some s.now ∧
      (s.pair.paired = false → bestCheckpoint a b s.est = none → isActive 0x300B wide u = true) := by
  obtain ⟨hframe, hrest⟩ := contextRestore_restores (s := s.begin) h a b
  exact ends_whenLiveK (f := contextRestore a b) rfl hl hframe hrest

theorem ends_eHibernate (hr : estRuns s = true) (hres : s.est.restored = true) (hq : quiet s.est.m s = true)
    (h : cfgN Ent.EST_HIB_DELAY s * 60 ≤ s.est.quietT) : Ends .eHibernate s [.est, .ident, .flt, .pair] fun u =>
      u.est.state = .hibernating ∧ u.est.hibSince = s.now ∧ u.est.waking = false ∧
      u.est.hibAcc = sumI ((s.est.samples.filter fun c => s.est.countedTo ≤ c.t).map (·.x)) := by
  have hg : (estRuns s.begin && s.begin.est.restored && quiet s.begin.est.m s.begin &&
      decide (cfgN Ent.EST_HIB_DELAY s.begin * 60 ≤ s.begin.est.quietT)) = true := by
    rw [Bool.and_eq_true, Bool.and_eq_true, Bool.and_eq_true]
    exact ⟨⟨⟨hr, hres⟩, hq⟩, decide_eq_true h⟩
  let s1 := forAll (List.range 256) (fun n s => modFl n (fun f => { f with hibernated := true }) s) s.begin
  let s3 := startBatch (writeCheckpoint s1)
  have h1 : RecordWork s.begin s1 := contextWork_forAll _ _ (fun n s => contextWork_modFl _ _ (by decide)) _
  have h3 : RecordWork (writeCheckpoint s1) s3 := recordWork_startBatch _
  have hframe : Only [.est, .ident, .flt, .pair] s.begin s3 :=
    only_trans h1.frame (only_trans (only_mono (only_writeCheckpoint s1) (by simp)) h3.frame)
  obtain ⟨_, _, _, _, e1⟩ := h1.est
  obtain ⟨_, _, e2⟩ := writeCheckpoint_est s1
  obtain ⟨_, _, _, _, e3⟩ := h3.est
  have hsamples : s3.est.samples = s.est.samples := by rw [e3, e2, e1]; rfl
  have hcounted : s3.est.countedTo = s.est.countedTo := by rw [e3, e2, e1]; rfl
  refine ends_of_effect (f := eHibernate) rfl hl (guardOn_true hg _ s.begin)
    (only_trans hframe (only_mono (only_est _ s3) (by simp))) ⟨rfl, hframe .now (by decide), rfl, ?_⟩
  show sumI ((s3.est.samples.filter fun c => s3.est.countedTo ≤ c.t).map (·.x)) = _
  rw [hsamples, hcounted]

theorem sends_eHibernate (h : s.est.quietT < cfgN Ent.EST_HIB_DELAY s * 60) : Sends .eHibernate s [] := by
  refine sends_whenLiveK (f := eHibernate) rfl hl (guardOn_false (s := s.begin) ?_ _)
  rw [Bool.and_eq_false_iff]
  exact .inr (decide_eq_false (Nat.not_le.2 h))

theorem ends_eWake (c : WakeCause) (h : c = .current → 4 ≤ s.est.wakeRun) : Ends (.eWake c) s [.est, .sys] fun u =>
    u.sys = { s.sys with hibernating := false } ∧
    (s.est.state = .hibernating → isFenced .e s = false → u.est = { s.est with waking := true }) := by
  have hc : ¬ (c == .current && decide (s.begin.est.wakeRun < 4)) = true := by
    rw [Bool.and_eq_true, beq_iff_eq, decide_eq_true_eq]
    exact fun hb => absurd (h hb.1) (Nat.not_le.2 hb.2)
  refine ends_of_effect (f := fun s => if c == .current && s.est.wakeRun < 4 then s else wakeE s) rfl hl (if_neg hc)
    (only_mono (only_wakeE s.begin) (by simp)) ⟨?_, fun hs he => ?_⟩
  · show (wakeE s.begin).sys = _
    unfold wakeE
    dsimp only
    split <;> rfl
  · have hw : (s.est.state == .hibernating && !isFenced .e s) = true := by simp [hs, he]
    exact congrArg (·.est) (if_pos hw : wakeE s.begin = _)

theorem sends_eWake (h : s.est.wakeRun < 4) : Sends (.eWake .current) s [] :=
  sends_whenLiveK (f := fun s => if WakeCause.current == .current && s.est.wakeRun < 4 then s else wakeE s) rfl hl
    (if_pos (by simp [h]))

end

/-! ### The work of a completed sweep (R93, R100 to R103) -/

/-- Work on a completed sweep, as the estimator sees it. -/
abbrev SweepWork : State → State → Prop := ContextWork [.est, .ident, .flt, .ses] [0x3008, 0x300D]

theorem sweepWork_markOut (n : Nat) (out : Bool) (s : State) : SweepWork s (markOut n out s) :=
  contextWork_trans (contextWork_modFl _ _ (by decide)) (contextWork_ite (contextWork_raiseF _ _ (by decide)) (contextWork_refl _ _ _))

theorem sweepWork_lookupSoc (n : Nat) (t : Tbl) (v : Nat) (i : Int) (s : State) : SweepWork s (lookupSoc n t v i s) :=
  contextWork_trans (contextWork_trans (sweepWork_markOut _ _ s) (contextWork_modCtx _ _ (by decide))) (contextWork_modFl _ _ (by decide))

theorem sweepWork_tableOnlySweep (n : Nat) (t : Tbl) (i : Int) (s : State) : SweepWork s (tableOnlySweep n t i s) := by
  have hlook := sweepWork_lookupSoc n t (doneAt n s).v i s
  exact contextWork_ite (contextWork_ite (contextWork_trans hlook (contextWork_modFl _ _ (by decide)))
    (contextWork_trans hlook (contextWork_modFl _ _ (by decide)))) (contextWork_refl _ _ s)

theorem sweepWork_resistanceSample (n : Nat) (t : Tbl) (i iPrev : Int) (s : State) : SweepWork s (resistanceSample n t i iPrev s) := by
  unfold resistanceSample
  extract_lets c v dv0 dv rs0 rs accept s1
  have haccept (r : Int) (s : State) : SweepWork s (accept r s) :=
    contextWork_trans (contextWork_trans (contextWork_modCtx _ _ (by decide)) (contextWork_modFl _ _ (by decide)))
      (contextWork_clearF _ (by decide) (by decide))
  have hreject : SweepWork s s1 := contextWork_modFl _ _ (by decide)
  exact contextWork_ite (haccept _ s) (contextWork_ite
    (contextWork_ite (contextWork_trans hreject (contextWork_raiseF _ _ (by decide))) hreject) (haccept _ s))

theorem sweepWork_capOffer (n socB : Nat) (tempB : Int) (s : State) : SweepWork s (capOffer n socB tempB s) := by
  refine contextWork_guardOn _ ?_
  split
  · exact contextWork_modLp _ _ (by decide)
  · exact contextWork_trans (contextWork_modLp _ _ (by decide)) (contextWork_journalOwn _ _ (by decide))

theorem sweepWork_storePoint (n : Nat) (k : CorrKind) (tab : Int) (s : State) : SweepWork s (storePoint n k tab s) := by
  cases k with
  | rest =>
    exact contextWork_trans (contextWork_trans (sweepWork_capOffer _ _ _ s) (contextWork_modCtx _ _ (by decide)))
      (contextWork_modFl _ _ (by decide))
  | pseudo => exact contextWork_modCtx _ _ (by decide)
  | sweep => exact contextWork_refl _ _ s

theorem sweepWork_correct (n : Nat) (k : CorrKind) (t : Tbl) (vLook : Nat) (rate w : Int) (s : State) :
    SweepWork s (correct n k t vLook rate w s) := by
  unfold correct
  extract_lets c l s1 ks err gated s2 s3 g s4 s5 v
  have h2 : SweepWork s s2 := contextWork_trans (sweepWork_markOut _ _ s) (contextWork_modCtx _ _ (by decide))
  have h3 : SweepWork s2 s3 := contextWork_trans (contextWork_modCtx _ _ (by decide)) (contextWork_modFl _ _ (by decide))
  have h4 : SweepWork s2 s4 := contextWork_modCtx _ _ (by decide)
  have h5 : SweepWork s2 s5 := contextWork_ite
    (contextWork_ite (contextWork_trans h3 (contextWork_raiseF _ _ (by decide))) h3)
    (contextWork_trans (contextWork_trans (contextWork_trans h4 (contextWork_modFl _ _ (by decide)))
      (contextWork_clearF _ (by decide) (by decide))) (sweepWork_storePoint _ _ _ _))
  exact contextWork_trans (contextWork_trans h2 h5) (contextWork_modCtx _ _ (by decide))

theorem sweepWork_correctPos (n : Nat) (rest pseudo : Bool) (t : Tbl) (i : Int) (s : State) :
    SweepWork s (correctPos n rest pseudo t i s) := by
  unfold correctPos
  refine contextWork_ite (sweepWork_correct _ _ _ _ _ _ s) (contextWork_ite (sweepWork_correct _ _ _ _ _ _ s) ?_)
  split
  · exact contextWork_ite (sweepWork_correct _ _ _ _ _ _ s) (contextWork_refl _ _ s)
  · exact contextWork_refl _ _ s

theorem sweepWork_sweepLookups (n : Nat) (rest pseudo okR : Bool) (t : Tbl) (i : Int) (s : State) :
    SweepWork s (sweepLookups n rest pseudo okR t i s) := by
  unfold sweepLookups
  extract_lets s1 f
  have h1 : SweepWork s s1 := by
    unfold s1
    split
    · exact sweepWork_resistanceSample _ _ _ _ s
    · exact contextWork_refl _ _ s
  exact contextWork_trans h1 (contextWork_ite (sweepWork_tableOnlySweep _ _ _ s1)
    (contextWork_ite (contextWork_refl _ _ s1) (sweepWork_correctPos _ _ _ _ _ s1)))

theorem sweepWork_sweepPos (rest pseudo : Bool) (n : Nat) (s : State) : SweepWork s (sweepPos rest pseudo n s) := by
  unfold sweepPos
  extract_lets c f cur okR s1 s2
  have h1 : SweepWork s s1 := by
    unfold s1
    split
    · exact sweepWork_sweepLookups _ _ _ _ _ _ s
    · exact contextWork_refl _ _ s
  exact contextWork_trans (contextWork_trans h1 (contextWork_modFl _ _ (by decide))) (contextWork_modCtx _ _ (by decide))

theorem sweepWork_refreshPos (n : Nat) (s : State) : SweepWork s (refreshPos n s) := by
  unfold refreshPos
  extract_lets c k usable s1 s2
  have h1 : SweepWork s s1 := contextWork_ite (contextWork_refl _ _ s) (contextWork_raiseF _ _ (by decide))
  exact contextWork_trans (contextWork_trans h1 (contextWork_modFl _ _ (by decide))) (contextWork_modCtx _ _ (by decide))

/-! ### The timer's wake (R107) -/

/-- What the work of a wake by the timer leaves: the state of E, and an accumulator that has been applied. -/
structure WakeWork (s t : State) : Prop where
  frame : Only [.est, .cells, .ident, .flt, .ses] s t
  state : t.est.state = s.est.state
  hibAcc : t.est.hibAcc = s.est.hibAcc

theorem wakeWork_trans {s t u : State} (h : WakeWork s t) (k : WakeWork t u) : WakeWork s u :=
  ⟨only_trans h.frame k.frame, k.state.trans h.state, k.hibAcc.trans h.hibAcc⟩

theorem wakeWork_of_contexts {ps : List Part} {cs : List Nat} {s t : State} (h : ContextWork ps cs s t)
    (hp : ∀ p ∈ ps, p ∈ ([.est, .ident, .flt, .ses] : List Part)) : WakeWork s t := by
  obtain ⟨_, _, _, _, he⟩ := h.est
  refine ⟨only_mono h.frame fun p hm => ?_, congrArg (·.state) he, congrArg (·.hibAcc) he⟩
  have := hp p hm
  simp only [List.mem_cons, List.not_mem_nil, or_false] at this ⊢
  tauto

theorem wakeWork_regs {x : EstRegs} {c : CellRegs} {s : State} (h : x.state = s.est.state) (ha : x.hibAcc = s.est.hibAcc) :
    WakeWork s { s with est := x, cells := c } :=
  ⟨fun p hp => by
    cases p with
    | est | cells => exact absurd (by simp) hp
    | _ => rfl, h, ha⟩

theorem sweepWork_ends (s : State) : WakeWork s (sweepWork s) ∧ (sweepWork s).cells.sweepNew = false := by
  unfold sweepWork
  cases h : s.cells.sweepNew with
  | true =>
    rw [guardOn_true rfl]
    extract_lets rest pseudo s1
    have h1 : SweepWork s s1 := contextWork_forAll _ _ (sweepWork_sweepPos rest pseudo) s
    clear_value s1
    exact ⟨wakeWork_trans (wakeWork_of_contexts h1 (by simp)) (wakeWork_regs rfl rfl), rfl⟩
  | false => exact ⟨wakeWork_of_contexts (contextWork_refl [] [] s) (by simp), h⟩

theorem contextWork_growCount (a b n : Nat) (s : State) : ContextWork [.est] [] s (growCount a b n s) := contextWork_modCtx _ _ (by decide)

theorem contextWork_wakePos (eff : Int) (secs n : Nat) (s : State) : ContextWork [.est] [] s (wakePos eff secs n s) := by
  have hcount : ContextWork [.est] [] s (countInto n eff s) :=
    contextWork_trans (contextWork_modCtx _ _ (by decide)) (contextWork_modFl _ _ (by decide))
  have hself (s : State) : ContextWork [.est] [] s (applySelfDischarge secs n s) := contextWork_modCtx _ _ (by decide)
  have hgrow (k : Nat) (s : State) : ContextWork [.est] [] s (growUnanch k n s) :=
    contextWork_trans (contextWork_modFl _ _ (by decide)) (contextWork_modCtx _ _ (by decide))
  exact contextWork_trans hcount (contextWork_trans (hself _) (hgrow _ _))

theorem growCounting_leaves (x : EstRegs) (s : State) : Only [.est] s (growCounting { s with est := x }) ∧
    (growCounting { s with est := x }).est.state = x.state ∧ (growCounting { s with est := x }).est.hibAcc = x.hibAcc := by
  unfold growCounting
  extract_lets a b
  have h := contextWork_forAll (positions { s with est := x }) (growCount a b) (contextWork_growCount a b)
    { s with est := { x with uncAcc := b, secC := 0, secS := 0 } }
  obtain ⟨_, _, _, _, he⟩ := h.est
  exact ⟨only_trans (only_est _ s) h.frame, congrArg (·.state) he, congrArg (·.hibAcc) he⟩

/-- The charge of a hibernation is applied: the accumulator is empty, and E hibernates on. -/
theorem applyHibernation_applies (s : State) : Only [.est] s (applyHibernation s) ∧ (applyHibernation s).est.state = s.est.state ∧
    (applyHibernation s).est.hibAcc = 0 := by
  unfold applyHibernation
  split
  extract_lets eff ns secs low tr restT point s1
  have h1 : ContextWork [.est] [] s s1 := contextWork_forAll _ _ (contextWork_wakePos eff secs) s
  clear_value s1
  obtain ⟨_, _, _, _, e1⟩ := h1.est
  have hgrow (x : EstRegs) (hs : x.state = s1.est.state) (ha : x.hibAcc = 0) : Only [.est] s (growCounting { s1 with est := x }) ∧
      (growCounting { s1 with est := x }).est.state = s.est.state ∧ (growCounting { s1 with est := x }).est.hibAcc = 0 := by
    obtain ⟨hframe, hstate, hacc⟩ := growCounting_leaves x s1
    exact ⟨only_trans h1.frame hframe, (hstate.trans hs).trans (congrArg (·.state) e1), hacc.trans ha⟩
  exact hgrow _ rfl rfl

/-- The effect of a wake by the timer. -/
theorem timerWake_works (s : State) :
    let u := writeCheckpoint (publishEst (sweepWork (forAll (positions s) refreshPos (applyHibernation s))))
    Only [.est, .cells, .ident, .flt, .ses] s u ∧ u.est.state = s.est.state ∧ u.est.hibAcc = 0 ∧ u.cells.sweepNew = false := by
  obtain ⟨happ, hstate, hacc⟩ := applyHibernation_applies s
  generalize applyHibernation s = a at happ hstate hacc ⊢
  have hrefresh := contextWork_forAll (positions s) refreshPos sweepWork_refreshPos a
  generalize forAll (positions s) refreshPos a = b at hrefresh ⊢
  obtain ⟨hsweep, hnew⟩ := sweepWork_ends b
  generalize sweepWork b = c at hsweep hnew ⊢
  have hpub := contextWork_publishEst c
  generalize publishEst c = d at hpub ⊢
  have hwork : WakeWork a d :=
    wakeWork_trans (wakeWork_of_contexts hrefresh (by simp)) (wakeWork_trans hsweep (wakeWork_of_contexts hpub (by simp)))
  have hcp := only_writeCheckpoint d
  obtain ⟨_, _, hest⟩ := writeCheckpoint_est d
  have hcells : (writeCheckpoint d).cells = c.cells := (hcp .cells (by decide)).trans (hpub.frame .cells (by decide))
  exact ⟨only_trans (only_mono happ (by simp)) (only_trans hwork.frame (only_mono hcp (by simp))),
    (congrArg (·.state) hest).trans (hwork.state.trans hstate), (congrArg (·.hibAcc) hest).trans (hwork.hibAcc.trans hacc),
    (congrArg (·.sweepNew) hcells).trans hnew⟩

section
variable {s : State} (hl : live s = true)
include hl

theorem ends_eTimerWake (hs : s.est.state = .hibernating) (he : isFenced .e s = false) (hw : s.est.waking = false)
    (h : s.est.hibSince + 900000000000 ≤ s.now) : Ends .eTimerWake s [.est, .cells, .ident, .flt, .ses] fun u =>
      u.est.state = .hibernating ∧ u.est.hibAcc = 0 ∧ u.cells.sweepNew = false := by
  have hg : (s.begin.est.state == .hibernating && !isFenced .e s.begin && !s.begin.est.waking &&
      decide (s.begin.est.hibSince + 900000000000 ≤ s.begin.now)) = true := by
    have he' : isFenced .e s.begin = false := he
    simp [hs, he', hw, h]
  obtain ⟨hframe, hstate, hrest⟩ := timerWake_works s.begin
  exact ends_of_effect (f := eTimerWake) rfl hl (guardOn_true hg _ s.begin) hframe ⟨hstate.trans hs, hrest⟩

theorem sends_eTimerWake (h : s.now < s.est.hibSince + 900000000000) : Sends .eTimerWake s [] := by
  refine sends_whenLiveK (f := eTimerWake) rfl hl (guardOn_false (s := s.begin) ?_ _)
  rw [Bool.and_eq_false_iff]
  exact .inr (decide_eq_false (Nat.not_le.2 h))

end

/-- Settles O17: each event on both sides of its time; what the restore and the wakes leave of the estimator stands to the end. -/
theorem checkpointsRestoreAndHibernation : Obligations.CheckpointsRestoreAndHibernation := by
  unfold Obligations.CheckpointsRestoreAndHibernation
  intro s hl
  exact ⟨fun hr hres => ⟨ends_checkpointWrite hl hr hres, sends_checkpointWrite hl⟩, fun a b h => ends_contextRestore hl h a b,
    fun hr hres => ⟨ends_eHibernate hl hr hres, sends_eHibernate hl⟩, ends_eWake hl, sends_eWake hl,
    fun hs he hw => ⟨ends_eTimerWake hl hs he hw, sends_eTimerWake hl⟩⟩

end Sys2Proof.Proofs
end

section
/-! PROOFS. Supervision: the die's temperature and the latched shutdown, the hold-up gauge and VBP, and an island that hangs. -/
namespace Sys2Proof.Proofs
open Sys2Proof Sys2Proof.Machine Sys2Proof.Laws

/-! ### Safe outputs -/

theorem only_sup (x : SupRegs) (s : State) : Only [.sup] s { s with sup := x } := fun p hp => by
  cases p with
  | sup => exact absurd (by simp) hp
  | _ => rfl

theorem only_modSup (f : SupRegs → SupRegs) (s : State) : Only [.sup] s (modSup f s) := only_sup _ s

/-- Where no safe output has changed nothing follows. -/
theorem settleSq_same (s : State) : settleSq (sqMap s) s = s := by
  have hchanged : ((List.range 4).filter fun k => bitOf (sqMap s) k != bitOf (sqMap s) k) = [] := by simp
  unfold settleSq
  dsimp only
  rw [hchanged]
  cases h : s.dio.test with
  | none => simp [forAll, h]
  | some x => simp [forAll, h]

theorem withSq_same {f : State → State} {s : State} (h : f s = s) : withSq f s = s := by
  rw [withSq, h, keep, settleSq_same]

/-- S enables no safe output of a module that is not started. -/
theorem allOpen_of_not_live {s : State} (h : live s = false) : allOpen s := by
  have hoff (k : Nat) : sqOn k s = false := by simp [sqOn, sqEnabled, h]
  simp [allOpen, sqMap, bitMap, hoff]

/-! ### The uncommanded open (R329) -/

/-- The end of a sequence: of the codes only 0x5015 ends. -/
theorem endSeq_leaves (r : SeqResult) (s : State) : Only [.ses, .prot, .flt] s (endSeq r s) ∧ CodesKept [0x5015] s (endSeq r s) := by
  unfold endSeq
  split
  · extract_lets s1 s2
    have h1 : Only [.ses] s s1 := only_journalOwn _ _ s
    have h2 : Only [.ses] s1 s2 := by
      unfold s2
      split
      · exact only_journalOwn _ _ s1
      · exact only_refl _ s1
    clear_value s2
    have h3 : Only [.ses, .prot] s { s2 with prot := { s2.prot with
        result := r, seqWait := false, recheck := false, laneBy := none, abortTo := none } } :=
      only_trans (only_mono (only_trans h1 h2) (by simp)) (only_mono (only_prot _ s2) (by simp))
    exact ⟨only_trans (only_mono h3 (by simp)) (only_mono (only_clearF _ _ _) (by simp)),
      codesKept_trans (codesKept_of_only h3 (by decide) _) (codesKept_clearF (by simp) _ _)⟩
  · exact ⟨only_refl _ s, codesKept_refl _ s⟩

theorem only_setCoil (w : Which) (on : Bool) (s : State) : Only [.dio, .link, .prot] s (setCoil w on s) := by
  unfold setCoil
  extract_lets c
  split
  · exact only_refl _ s
  · refine only_mono (only_withSq (ps := [.dio, .prot]) ?_) (by simp)
    extract_lets s1 p s2 _
    have h1 : Only [.dio, .prot] s s1 := only_ite (only_mono (only_dio _ s) (by simp)) (only_refl _ s)
    have h2 : Only [.dio, .prot] s1 s2 := only_mono (only_prot _ s1) (by simp)
    clear_value s2
    exact only_trans (only_trans h1 h2) (only_ite (only_mono (only_prot _ s2) (by simp)) (only_refl _ s2))

theorem only_dropCoils (s : State) : Only [.dio, .link, .prot] s (dropCoils s) :=
  only_trans (only_trans (only_setCoil _ _ s) (only_setCoil _ _ _)) (only_setCoil _ _ _)

/-- An uncommanded open: the sequence ends, the coils drop, and the string is PARKED; of the codes only 0x5015 may end. -/
theorem uncommandedOpen_leaves (s : State) :
    Only [.ses, .prot, .flt, .dio, .link, .sp] s (uncommandedOpen s) ∧ CodesKept [0x5015] s (uncommandedOpen s) := by
  obtain ⟨hseq, hcodes⟩ := endSeq_leaves .failed s
  unfold uncommandedOpen
  extract_lets s1 s2
  have h2 : Only [.prot] s1 s2 := only_ite (only_prot _ s1) (only_refl _ s1)
  have h3 : Only [.prot, .dio, .link, .sp] s1 (stopTo .parked (dropCoils s2)) :=
    only_trans (only_mono h2 (by simp)) (only_trans (only_mono (only_dropCoils s2) (by simp)) (only_mono (only_stopTo _ _) (by simp)))
  exact ⟨only_trans (only_mono hseq (by simp)) (only_mono h3 (by simp)),
    codesKept_trans hcodes (codesKept_of_only h3 (by decide) _)⟩

/-! ### The latched shutdown (R424) -/

/-- The parts that a latched shutdown touches. -/
abbrev latchParts : List Part := [.sys, .sup, .ses, .prot, .flt, .dio, .link, .sp, .pair, .recd]

/-- The state in which the safe outputs have opened, where they were not, and no lane is selected. -/
def latchOpened (s : State) : State :=
  assertSelect none (modSup (fun x => { x with latchIn := none }) (if s.pair.paired || parked s then s else uncommandedOpen s))

theorem latchOpened_leaves (s : State) :
    Only [.ses, .prot, .flt, .dio, .link, .sp, .sup] s (latchOpened s) ∧ CodesKept [0x5015] s (latchOpened s) ∧
    (latchOpened s).sup = { s.sup with latchIn := none } := by
  obtain ⟨hopen, hcodes⟩ := uncommandedOpen_leaves s
  have h1 : Only [.ses, .prot, .flt, .dio, .link, .sp] s (if s.pair.paired || parked s then s else uncommandedOpen s) :=
    only_ite (only_refl _ s) hopen
  have hc1 : CodesKept [0x5015] s (if s.pair.paired || parked s then s else uncommandedOpen s) := by
    split
    · exact codesKept_refl _ s
    · exact hcodes
  unfold latchOpened
  generalize (if s.pair.paired || parked s then s else uncommandedOpen s) = t at h1 hc1 ⊢
  have h2 := only_modSup (fun x => { x with latchIn := none }) t
  have h3 := only_assertSelect none (modSup (fun x => { x with latchIn := none }) t)
  refine ⟨only_trans (only_mono h1 (by simp)) (only_trans (only_mono h2 (by simp)) (only_mono h3 (by simp))),
    codesKept_trans hc1 (codesKept_trans (codesKept_of_only h2 (by decide) _) (codesKept_of_only h3 (by decide) _)), ?_⟩
  rw [h3 .sup (by decide), ← h1 .sup (by decide)]
  rfl

theorem goLatched_leaves (s : State) :
    Only latchParts s (goLatched s) ∧ CodesKept [0x5015] s (goLatched s) ∧ (goLatched s).sup = { s.sup with latchIn := none } ∧
    (goLatched s).sys.phase = .latched ∧ coilsOff (goLatched s) = true := by
  obtain ⟨hopen, hcodes, hsup⟩ := latchOpened_leaves s
  have hoff : Only [.sys, .prot, .link] (latchOpened s) (goLatched s) := fun p hp => by
    cases p with
    | sys | prot | link => exact absurd (by simp) hp
    | _ => rfl
  exact ⟨only_trans (only_mono hopen (by simp)) (only_mono hoff (by simp)),
    codesKept_trans hcodes (codesKept_of_only hoff (by decide) _), (hoff .sup (by decide)).trans hsup, rfl, rfl⟩

/-- A latched shutdown that falls due: 0x1003, shown again after the restart, and the count of shutdowns. -/
def latchCounted (s : State) : State :=
  modSup (fun x => { x with shutdowns := incSat32 x.shutdowns, lastShutdown := s.now }) (recordCode 0x1003 (raiseF 0x1003 wide s))

theorem latchCounted_leaves (s : State) : Only [.sys, .sup, .flt] s (latchCounted s) ∧ CodesKept [] s (latchCounted s) ∧
    isActive 0x1003 wide (latchCounted s) = true ∧ (latchCounted s).sys.phase = s.sys.phase ∧
    (latchCounted s).sup = { s.sup with shutdowns := incSat32 s.sup.shutdowns, lastShutdown := s.now } := by
  have hraise := only_raiseF 0x1003 wide s
  have hcount : Only [.sys, .sup] (raiseF 0x1003 wide s) (latchCounted s) :=
    only_trans (only_mono (only_sys _ _) (by simp)) (only_mono (only_modSup _ _) (by simp))
  have hcodes : CodesKept [] (raiseF 0x1003 wide s) (latchCounted s) := codesKept_of_only hcount (by decide) _
  refine ⟨only_trans (only_mono hraise (by simp)) (only_mono hcount (by simp)), codesKept_trans (codesKept_raiseF _ _ _ s) hcodes,
    hcodes _ _ (by simp) (isActive_raiseF _ _ s), congrArg (·.phase) (raiseF_sys 0x1003 wide s), ?_⟩
  exact congrArg (fun x : SupRegs => { x with shutdowns := incSat32 x.shutdowns, lastShutdown := s.now }) (raiseF_sup 0x1003 wide s)

theorem latchShutdown_eq {s : State} (hp : s.sys.phase ≠ .latched) (hi : s.sup.latchIn = none) : latchShutdown s =
    if s.pair.paired && live s then modSup (fun x => { x with latchIn := some 2 }) (resign (latchCounted s)) else goLatched (latchCounted s) := by
  have hcounted : Only [.sys, .sup, .flt] s (latchCounted s) := (latchCounted_leaves s).1
  have hpaired : (latchCounted s).pair.paired = s.pair.paired := congrArg (·.paired) (hcounted .pair (by decide))
  have hlive : live (latchCounted s) = live s := congrArg (· == .started) (latchCounted_leaves s).2.2.2.1
  have hnow : (recordCode 0x1003 (raiseF 0x1003 wide s)).now = s.now := only_raiseF 0x1003 wide s .now (by decide)
  rw [← hpaired, ← hlive]
  unfold latchShutdown
  rw [if_neg (by simp [hp, hi])]
  simp only [hnow]
  rfl

theorem latchShutdown_of_due {s : State} (h : s.sys.phase = .latched ∨ s.sup.latchIn.isSome = true) : latchShutdown s = s :=
  if_pos (by simpa using h)

/-- A latched shutdown counts itself and takes the outputs down; of the codes only 0x5015 may end. -/
theorem latchShutdown_leaves (s : State) : Only latchParts s (latchShutdown s) ∧ CodesKept [0x5015] s (latchShutdown s) ∧
    (∃ a b c, (latchShutdown s).sup = { s.sup with shutdowns := a, lastShutdown := b, latchIn := c }) ∧
    ((latchShutdown s).sys.phase = .latched ∨ (latchShutdown s).sup.latchIn.isSome = true) := by
  by_cases h : s.sys.phase = .latched ∨ s.sup.latchIn.isSome = true
  · rw [latchShutdown_of_due h]
    exact ⟨only_refl _ s, codesKept_refl _ s, ⟨_, _, _, rfl⟩, h⟩
  · rw [not_or, Bool.not_eq_true, Option.isSome_eq_false_iff, Option.isNone_iff_eq_none] at h
    rw [latchShutdown_eq h.1 h.2]
    obtain ⟨hframe, hcodes, -, -, hsup⟩ := latchCounted_leaves s
    split
    · have hresign := only_resign (latchCounted s)
      have hmod := only_modSup (fun x => { x with latchIn := some 2 }) (resign (latchCounted s))
      refine ⟨only_trans (only_mono hframe (by simp)) (only_trans (only_mono hresign (by simp)) (only_mono hmod (by simp))),
        codesKept_trans (codesKept_mono hcodes (by simp))
          (codesKept_trans (codesKept_of_only hresign (by decide) _) (codesKept_of_only hmod (by decide) _)),
        ⟨incSat32 s.sup.shutdowns, s.now, some 2, ?_⟩, .inr rfl⟩
      exact congrArg (fun x : SupRegs => { x with latchIn := some 2 }) ((hresign .sup (by decide)).trans hsup)
    · obtain ⟨hgo, hgone, hsup', hphase, -⟩ := goLatched_leaves (latchCounted s)
      exact ⟨only_trans (only_mono hframe (by simp)) hgo, codesKept_trans (codesKept_mono hcodes (by simp)) hgone,
        ⟨_, _, _, by rw [hsup', hsup]⟩, .inl hphase⟩

/-- A latched shutdown is begun once. -/
theorem latchShutdown_latchShutdown (s : State) : latchShutdown (latchShutdown s) = latchShutdown s :=
  latchShutdown_of_due (latchShutdown_leaves s).2.2.2

/-- A module alone is latched off at once (R424). -/
theorem latchShutdown_alone {s : State} (hp : s.sys.phase ≠ .latched) (hi : s.sup.latchIn = none) (ha : s.pair.paired = false) :
    (latchShutdown s).sys.phase = .latched ∧ isActive 0x1003 wide (latchShutdown s) = true ∧
    (latchShutdown s).sup.shutdowns = incSat32 s.sup.shutdowns ∧ (latchShutdown s).sup.lastShutdown = s.now ∧
    coilsOff (latchShutdown s) = true := by
  obtain ⟨-, -, hactive, -, hsup⟩ := latchCounted_leaves s
  obtain ⟨-, hcodes, hsup', hphase, hcoils⟩ := goLatched_leaves (latchCounted s)
  rw [latchShutdown_eq hp hi, ha, Bool.false_and, if_neg Bool.false_ne_true]
  exact ⟨hphase, hcodes _ _ (by decide) hactive, by rw [hsup', hsup], by rw [hsup', hsup], hcoils⟩

/-! ### The die's temperature (R423) -/

/-- The registers once a temperature is read. -/
def tempTaken (temp : Int) (s : State) : State :=
  modSup (fun x => { x with
    readAt := some s.now, dieTemp := temp, reads := (x.reads + 1) % 10, coolRun := if temp < 1200 then x.coolRun + 1 else 0
    hotRun := if temp ≥ 1450 then x.hotRun + 1 else 0, rushRun := if temp > 1000 then x.rushRun else 0 }) s

/-- The warning 0x1001 begins at 125.0 °C, and ends after 1,000 reads below 120.0 °C. -/
def tempWarned (temp : Int) (s : State) : State :=
  let t := if temp ≥ 1250 then raiseF 0x1001 wide s else s
  if t.sup.coolRun ≥ 1000 then clearF 0x1001 wide t else t

/-- The registers once the rate is evaluated. -/
def rateTaken (temp : Int) (s : State) : State :=
  let old := s.sup.temps.getD 9 temp
  let rate := if s.sup.temps.length ≥ 10 then (temp - old) * 10 else 0
  modSup (fun x => { x with
    dieRate := rate, temps := (temp :: x.temps).take 10
    fastRun := if rate > 100 then x.fastRun + 1 else 0, slowRun := if rate ≤ 100 then x.slowRun + 1 else 0
    rushRun := if rate > 400 && temp > 1000 then x.rushRun + 1 else 0 }) s

/-- The warning 0x1002 of the rate. -/
def rateWarned (s : State) : State :=
  let t := if s.sup.fastRun ≥ 100 then raiseF 0x1002 wide s else s
  if t.sup.slowRun ≥ 100 then clearF 0x1002 wide t else t

theorem rateStep_eq (temp : Int) (s : State) : rateStep temp s =
    if (rateWarned (rateTaken temp s)).sup.rushRun ≥ 20 then latchShutdown (rateWarned (rateTaken temp s))
    else rateWarned (rateTaken temp s) := rfl

theorem clearF_sup (c k : Nat) (s : State) : (clearF c k s).sup = s.sup := only_clearF c k s .sup (by decide)

theorem rateWarned_leaves (s : State) : Only [.flt] s (rateWarned s) ∧ CodesKept [0x1002] s (rateWarned s) := by
  unfold rateWarned
  extract_lets t
  have ht : Only [.flt] s t ∧ CodesKept [0x1002] s t := by
    unfold t
    split
    · exact ⟨only_raiseF _ _ s, codesKept_raiseF _ _ _ s⟩
    · exact ⟨only_refl _ s, codesKept_refl _ s⟩
  clear_value t
  split
  · exact ⟨only_trans ht.1 (only_clearF _ _ t), codesKept_trans ht.2 (codesKept_clearF (by decide) _ t)⟩
  · exact ht

/-- At 125.0 °C the warning stands: no read is then below 120.0 °C. -/
theorem tempWarned_leaves (temp : Int) (s : State) : Only [.flt] s (tempWarned temp s) ∧
    (1250 ≤ temp → s.sup.coolRun = 0 → isActive 0x1001 wide (tempWarned temp s) = true) := by
  unfold tempWarned
  extract_lets t
  have ht : Only [.flt] s t := only_ite (only_raiseF _ _ s) (only_refl _ s)
  have hsup : t.sup = s.sup := ht .sup (by decide)
  refine ⟨only_ite (only_trans ht (only_clearF _ _ t)) ht, fun hwarm hcool => ?_⟩
  rw [hsup, hcool, if_neg (by decide), show t = raiseF 0x1001 wide s from if_pos hwarm]
  exact isActive_raiseF _ _ _

/-- What a read leaves before any latched shutdown. -/
structure TempRead (x : Int) (s w : State) : Prop where
  frame : Only [.sup, .flt] s w
  readAt : w.sup.readAt = some s.now
  dieTemp : w.sup.dieTemp = x
  hotRun : w.sup.hotRun = if x ≥ 1450 then s.sup.hotRun + 1 else 0
  shutdowns : w.sup.shutdowns = s.sup.shutdowns
  latchIn : w.sup.latchIn = s.sup.latchIn
  warned : 1250 ≤ x → isActive 0x1001 wide w = true

theorem tempRead_warned (x : Int) (s : State) : TempRead x s (tempWarned x (tempTaken x s)) := by
  obtain ⟨hframe, hwarned⟩ := tempWarned_leaves x (tempTaken x s)
  have hsup : (tempWarned x (tempTaken x s)).sup = (tempTaken x s).sup := hframe .sup (by decide)
  refine ⟨only_trans (only_mono (only_modSup _ s) (by simp)) (only_mono hframe (by simp)), by rw [hsup]; rfl, by rw [hsup]; rfl,
    by rw [hsup]; rfl, by rw [hsup]; rfl, by rw [hsup]; rfl, fun hx => hwarned hx (if_neg (by omega))⟩

theorem tempRead_rate {x : Int} {s w : State} (h : TempRead x s w) : TempRead x s (rateWarned (rateTaken x w)) := by
  obtain ⟨hframe, hcodes⟩ := rateWarned_leaves (rateTaken x w)
  have htaken : Only [.sup] w (rateTaken x w) := only_modSup _ w
  have hsup : (rateWarned (rateTaken x w)).sup = (rateTaken x w).sup := hframe .sup (by decide)
  exact ⟨only_trans h.frame (only_trans (only_mono htaken (by simp)) (only_mono hframe (by simp))), by rw [hsup]; exact h.readAt,
    by rw [hsup]; exact h.dieTemp, by rw [hsup]; exact h.hotRun, by rw [hsup]; exact h.shutdowns, by rw [hsup]; exact h.latchIn,
    fun hx => hcodes _ _ (by decide) (codesKept_of_only htaken (by decide) [] _ _ (by decide) (h.warned hx))⟩

/-- A read that is due takes the registers, and goes on to a latched shutdown if the second hot read, or the rate, asks for one. -/
theorem dieTempRead_reads {s : State} (x : Int) (hp : s.sys.phase = .started ∨ s.sys.phase = .frozen)
    (hd : due s.sup.readAt 10000000 s = true) :
    ∃ w, TempRead x s w ∧ ((dieTempRead x s = w ∧ w.sup.hotRun < 2) ∨ dieTempRead x s = latchShutdown w) := by
  have hread := tempRead_warned x s
  have he : dieTempRead x s =
      let w := tempWarned x (tempTaken x s)
      let v := if w.sup.reads = 0 then rateStep x w else w
      if v.sup.hotRun ≥ 2 then latchShutdown v else v := guardOn_true (by rcases hp with h | h <;> simp [h, hd]) _ s
  rw [he]
  generalize tempWarned x (tempTaken x s) = w at hread
  dsimp only
  by_cases hr : w.sup.reads = 0
  · obtain ⟨-, -, ⟨_, _, _, hsup⟩, -⟩ := latchShutdown_leaves (rateWarned (rateTaken x w))
    refine ⟨_, tempRead_rate hread, ?_⟩
    rw [if_pos hr, rateStep_eq]
    by_cases hrush : (rateWarned (rateTaken x w)).sup.rushRun ≥ 20
    · right
      rw [if_pos hrush, latchShutdown_latchShutdown, ite_self]
    · rw [if_neg hrush]
      split
      · exact .inr rfl
      · exact .inl ⟨rfl, by omega⟩
  · rw [if_neg hr]
    refine ⟨w, hread, ?_⟩
    split
    · exact .inr rfl
    · exact .inl ⟨rfl, by omega⟩

/-- A read that is due, before the safe outputs settle: the second in a row at 145.0 °C latches a module alone off. -/
theorem dieTempRead_takes {s : State} (x : Int) (hp : s.sys.phase = .started ∨ s.sys.phase = .frozen)
    (hd : due s.sup.readAt 10000000 s = true) :
    let v := dieTempRead x s
    v.now = s.now ∧ v.sup.readAt = some s.now ∧ v.sup.dieTemp = x ∧ (1250 ≤ x → isActive 0x1001 wide v = true) ∧
    (1450 ≤ x → 1 ≤ s.sup.hotRun → s.pair.paired = false → s.sup.latchIn = none →
      v.sys.phase = .latched ∧ isActive 0x1003 wide v = true ∧ v.sup.shutdowns = incSat32 s.sup.shutdowns ∧
      v.sup.lastShutdown = s.now ∧ coilsOff v = true) := by
  obtain ⟨w, hw, hres⟩ := dieTempRead_reads x hp hd
  have hnow : w.now = s.now := hw.frame .now (by decide)
  have hsys : w.sys = s.sys := hw.frame .sys (by decide)
  have hpair : w.pair = s.pair := hw.frame .pair (by decide)
  dsimp only
  generalize dieTempRead x s = v at hres
  rcases hres with ⟨rfl, hcool⟩ | rfl
  · refine ⟨hnow, hw.readAt, hw.dieTemp, hw.warned, fun hx hhot => ?_⟩
    rw [hw.hotRun, if_pos hx] at hcool
    exact absurd hcool (Nat.not_lt.2 (Nat.succ_le_succ hhot))
  · obtain ⟨hframe, hcodes, ⟨_, _, _, hsup⟩, -⟩ := latchShutdown_leaves w
    refine ⟨(hframe .now (by decide)).trans hnow, by rw [hsup]; exact hw.readAt, by rw [hsup]; exact hw.dieTemp,
      fun hx => hcodes _ _ (by decide) (hw.warned hx), fun _ _ ha hi => ?_⟩
    have hlatched : w.sys.phase ≠ .latched := by rw [hsys]; rcases hp with h | h <;> simp [h]
    obtain ⟨hphase, hactive, hcount, hlast, hcoils⟩ := latchShutdown_alone hlatched (hw.latchIn.trans hi) (by rw [hpair, ha])
    exact ⟨hphase, hactive, hcount.trans (congrArg incSat32 hw.shutdowns), hlast.trans hnow, hcoils⟩

section
variable {s : State} {x : Int} {t : Nat}

theorem exec_dieTempRead (hp : s.sys.phase = .started ∨ s.sys.phase = .frozen) (hd : due s.sup.readAt 10000000 (atTime t s) = true) :
    ∃ u, exec (.dieTempRead x t) s = .next u ∧ u.pending = s.pending ∧ u.store = s.store ∧ u.now = max s.now t ∧
      u.sup.readAt = some (max s.now t) ∧ u.sup.dieTemp = x ∧ (1250 ≤ x → isActive 0x1001 wide u = true) ∧
      (1450 ≤ x → 1 ≤ s.sup.hotRun → s.pair.paired = false → s.sup.latchIn = none →
        u.sys.phase = .latched ∧ isActive 0x1003 wide u = true ∧ u.sup.shutdowns = incSat32 s.sup.shutdowns ∧
        u.sup.lastShutdown = max s.now t ∧ allOpen u ∧ coilsOff u = true) := by
  obtain ⟨hnow, hread, htemp, hwarned, hlatched⟩ := dieTempRead_takes (s := atTime t s.begin) x hp hd
  have hsq : Only [.dio, .link] (dieTempRead x (atTime t s.begin)) (withSq (dieTempRead x) (atTime t s.begin)) :=
    only_keep (only_settleSq _ _)
  generalize dieTempRead x (atTime t s.begin) = v at hnow hread htemp hwarned hlatched hsq
  have hexec : exec (.dieTempRead x t) s =
      .next { s.keepQueue (withSq (dieTempRead x) (atTime t s.begin)) with store := s.store } := rfl
  generalize withSq (dieTempRead x) (atTime t s.begin) = q at hsq hexec
  have hsup : q.sup = v.sup := hsq .sup (by decide)
  have hsys : q.sys = v.sys := hsq .sys (by decide)
  have hprot : q.prot = v.prot := hsq .prot (by decide)
  have hactive := codesKept_of_only hsq (by decide) []
  refine ⟨_, hexec, rfl, rfl, (hsq .now (by decide)).trans hnow, (congrArg (·.readAt) hsup).trans hread,
    (congrArg (·.dieTemp) hsup).trans htemp, fun hx => hactive _ _ (by simp) (hwarned hx), fun hx hhot ha hi => ?_⟩
  obtain ⟨hphase, hcode, hcount, hlast, hcoils⟩ := hlatched hx hhot ha hi
  have hdead : live q = false := by
    rw [live, hsys, hphase]
    rfl
  refine ⟨(congrArg (·.phase) hsys).trans hphase, hactive _ _ (by simp) hcode, (congrArg (·.shutdowns) hsup).trans hcount,
    (congrArg (·.lastShutdown) hsup).trans hlast, allOpen_of_not_live hdead, ?_⟩
  simpa only [coilsOff, State.keepQueue, hprot] using hcoils

theorem ends_dieTempRead_early (hd : due s.sup.readAt 10000000 (atTime t s) = false) :
    Ends (.dieTempRead x t) s [.now] fun u => u.now = max s.now t := by
  have hsame : withSq (dieTempRead x) (atTime t s.begin) = atTime t s.begin := withSq_same (guardOn_false (by
    rw [Bool.and_eq_false_iff]; exact .inr hd) _ _)
  refine ends_alwaysK (f := fun s => withSq (dieTempRead x) (atTime t s)) rfl ?_ ?_
  · rw [hsame]
    exact only_atTime t s.begin
  · exact congrArg (·.now) hsame

end

/-! ### The hold-up gauge (R426) and a shortfall (R427) -/

theorem gaugeTaken_sup (v b p : Nat) (s : State) : (gaugeTaken v b p s).sup = { s.sup with
    holdE := gaugeEnergy s.sup.holdC v, holdT := gaugeTime (gaugeEnergy s.sup.holdC v) p, vbp := b, gaugeAt := some s.now
    lowFrom := if b < 33000 then some (s.sup.lowFrom.getD s.now) else none
    highFrom := if 34000 < b then some (s.sup.highFrom.getD s.now) else none } := by
  simp only [gaugeTaken, modSup, sinceNow, decide_eq_true_eq]

theorem shortfall_gaugeTaken (v b p : Nat) (s : State) : shortfall (gaugeTaken v b p s) = true ↔
    s.sup.vbpState = .low ∧ gaugeTime (gaugeEnergy s.sup.holdC v) p ≤ 10500 := by
  simp only [shortfall, gaugeTaken_sup, Bool.and_eq_true, beq_iff_eq, decide_eq_true_eq]

/-- Steps 2 to 4 of a shutdown end in the reset with its cause; the codes recorded for the next start stand. -/
theorem finishShutdown_resets (cause : ResetCause) (s : State) : (finishShutdown cause s).sys.phase = .off ∧
    (finishShutdown cause s).sys.cause = cause ∧ (finishShutdown cause s).sys.recorded = s.sys.recorded ∧
    (finishShutdown cause s).store = keptStore s := by
  unfold finishShutdown
  generalize hf : (fun s : State =>
    let s := if acts s && !parked s then withSq uncommandedOpen s else s
    if s.sup.lowWrites then s else lowWrites s) = f
  have hopened : Only [.ses, .prot, .flt, .dio, .link, .sp] s (if acts s && !parked s then withSq uncommandedOpen s else s) :=
    only_ite (only_mono (only_withSq (uncommandedOpen_leaves s).1) (by simp)) (only_refl _ s)
  have hwritten (t : State) : Only [.est, .ident, .flt, .pair] t (lowWrites t) :=
    only_trans (only_mono (only_writeCheckpoint t) (by simp)) (recordWork_startBatch _).frame
  have hsys : (keep f s).sys = s.sys := by
    subst hf
    dsimp only [keep]
    generalize (if acts s && !parked s then withSq uncommandedOpen s else s) = t at hopened
    have hlow : Only [.est, .ident, .flt, .pair] t (if t.sup.lowWrites then t else lowWrites t) := only_ite (only_refl _ t) (hwritten t)
    exact (hlow .sys (by decide)).trans (hopened .sys (by decide))
  refine ⟨resetModule_phase _ _, resetModule_cause _ _, ?_, resetModule_store _ _⟩
  rw [resetModule_sys]
  exact congrArg (·.recorded) hsys

/-- A shortfall of a started module with no partner to hand over to: the shutdown runs to its end at once. -/
theorem shutdownStart_holdup {s : State} (hp : s.sys.phase = .started) (hd : s.sys.downDue = none) (ha : needsAck s = false) :
    shutdownStart .holdup s = finishShutdown .brownOut (modSys (fun x => { x with downDue := some (0, .brownOut) }) s) := by
  have hgo : ¬ (!longEnough .holdup || s.sys.downDue.any fun d => !commanded d.2) = true := by simp [hd, longEnough]
  have hkeep : keep (handOverFirst .brownOut) s = modSys (fun x => { x with downDue := some (0, .brownOut) }) s := by
    rw [keep, handOverFirst_alone _ ha]
    rfl
  simp only [shutdownStart, hp, if_neg hgo, shutdownCause, hkeep]
  exact if_pos rfl

theorem shortfallRaise_leaves (s : State) : Only [.sys, .sup, .flt] s (shortfallRaise s) ∧
    (shortfallRaise s).sys.phase = s.sys.phase ∧ (shortfallRaise s).sys.downDue = s.sys.downDue ∧
    (0x1005, s.now) ∈ (shortfallRaise s).sys.recorded := by
  let t := raiseF 0x1005 wide (modSup (fun x => { x with vbpState := .shortfall }) s)
  have ht : Only [.sup, .flt] s t := only_trans (only_mono (only_modSup _ s) (by simp)) (only_mono (only_raiseF _ _ _) (by simp))
  have hsys : t.sys = s.sys := ht .sys (by decide)
  have hnow : t.now = s.now := ht .now (by decide)
  refine ⟨only_trans (only_mono ht (by simp)) (only_mono (only_sys _ t) (by simp)), congrArg (·.phase) hsys, congrArg (·.downDue) hsys, ?_⟩
  rw [← hnow]
  exact List.mem_append_right _ (List.mem_singleton_self _)

section
variable {s : State} {v b p t : Nat} (hl : live s = true)
include hl

theorem ends_holdupGauge (hd : due s.sup.gaugeAt 100000 (atTime t s) = true)
    (h : s.sup.vbpState ≠ .low ∨ 10500 < gaugeTime (gaugeEnergy s.sup.holdC v) p) :
    Ends (.holdupGauge v b p t) s [.now, .sup] fun u => u.now = max s.now t ∧
      u.sup = { s.sup with
        holdE := gaugeEnergy s.sup.holdC v, holdT := gaugeTime (gaugeEnergy s.sup.holdC v) p, vbp := b, gaugeAt := some (max s.now t)
        lowFrom := if b < 33000 then some (s.sup.lowFrom.getD (max s.now t)) else none
        highFrom := if 34000 < b then some (s.sup.highFrom.getD (max s.now t)) else none } := by
  have hu : holdupGauge v b p (atTime t s.begin) = gaugeTaken v b p (atTime t s.begin) := by
    refine (if_pos hd).trans (if_neg fun hs => ?_)
    obtain ⟨hlow, hlasts⟩ := (shortfall_gaugeTaken v b p (atTime t s.begin)).1 hs
    exact h.elim (absurd hlow) fun hlong => absurd hlasts (Nat.not_le.2 hlong)
  refine ends_whenLive (f := fun s => holdupGauge v b p (atTime t s)) rfl hl ?_ ?_
  · rw [hu]
    exact only_trans (only_mono (only_atTime t s.begin) (by simp)) (only_mono (only_modSup _ _) (by simp))
  · dsimp only
    rw [hu]
    exact ⟨rfl, gaugeTaken_sup v b p (atTime t s.begin)⟩

theorem ends_holdupGauge_early (hd : due s.sup.gaugeAt 100000 (atTime t s) = false) :
    Ends (.holdupGauge v b p t) s [.now] fun u => u.now = max s.now t := by
  have hu : holdupGauge v b p (atTime t s.begin) = atTime t s.begin := if_neg (fun hs => Bool.false_ne_true (hd.symm.trans hs))
  refine ends_whenLive (f := fun s => holdupGauge v b p (atTime t s)) rfl hl ?_ ?_
  · rw [hu]
    exact only_atTime t s.begin
  · exact congrArg (·.now) hu

theorem exec_holdupGauge_shortfall (hd : due s.sup.gaugeAt 100000 (atTime t s) = true) (hv : s.sup.vbpState = .low)
    (hlasts : gaugeTime (gaugeEnergy s.sup.holdC v) p ≤ 10500) (ha : s.pair.paired = false) (hdown : s.sys.downDue = none) :
    ∃ u, exec (.holdupGauge v b p t) s = .next u ∧ u.pending = s.pending ∧ u.sys.phase = .off ∧ u.sys.cause = .brownOut ∧
      (0x1005, max s.now t) ∈ u.sys.recorded ∧ u.store = keptStore s := by
  let g := gaugeTaken v b p (atTime t s.begin)
  obtain ⟨hframe, hphase, hdue, hrecorded⟩ := shortfallRaise_leaves g
  have hpair : (keep shortfallRaise g).pair = s.pair := hframe .pair (by decide)
  have hstarted : (keep shortfallRaise g).sys.phase = .started := hphase.trans (beq_iff_eq.1 hl)
  have halone : needsAck (keep shortfallRaise g) = false := by
    rw [needsAck, hpair, ha]
    rfl
  have hu : holdupGauge v b p (atTime t s.begin) =
      finishShutdown .brownOut (modSys (fun x => { x with downDue := some (0, .brownOut) }) (keep shortfallRaise g)) :=
    ((if_pos hd).trans (if_pos ((shortfall_gaugeTaken v b p (atTime t s.begin)).2 ⟨hv, hlasts⟩))).trans
      (shutdownStart_holdup hstarted (hdue.trans hdown) halone)
  obtain ⟨hoff, hcause, hrec, hstore⟩ :=
    finishShutdown_resets .brownOut (modSys (fun x => { x with downDue := some (0, .brownOut) }) (keep shortfallRaise g))
  refine ⟨_, whenLive_next (f := fun s => holdupGauge v b p (atTime t s)) hl, rfl, ?_⟩
  dsimp only [State.keepQueue]
  rw [hu]
  exact ⟨hoff, hcause, hrec ▸ hrecorded, hstore⟩

end

/-! ### The test of the hold-up store (R426) -/

/-- The code of the full-load time against 10 ms. -/
def fullLoadJudged (t : Nat) (s : State) : State :=
  if t < 10000 then raiseF 0x1006 wide s else if 10000 < t then clearF 0x1006 wide s else s

theorem fullLoadJudged_leaves (t : Nat) (s : State) : Only [.flt] s (fullLoadJudged t s) ∧
    (t < 10000 → isActive 0x1006 wide (fullLoadJudged t s) = true) ∧
    (10000 < t → isActive 0x1006 wide (fullLoadJudged t s) = false) ∧
    (t = 10000 → isActive 0x1006 wide (fullLoadJudged t s) = isActive 0x1006 wide s) := by
  unfold fullLoadJudged
  rcases Nat.lt_trichotomy t 10000 with h | h | h
  · rw [if_pos h]
    exact ⟨only_raiseF _ _ s, fun _ => isActive_raiseF _ _ s, fun h' => absurd h (Nat.lt_asymm h'), fun h' => absurd h' h.ne⟩
  · rw [if_neg (by omega), if_neg (by omega)]
    exact ⟨only_refl _ s, fun h' => absurd h h'.ne, fun h' => absurd h h'.ne', fun _ => rfl⟩
  · rw [if_neg (by omega), if_pos h]
    exact ⟨only_clearF _ _ s, fun h' => absurd h (Nat.lt_asymm h'), fun _ => isActive_clearF _ _ s, fun h' => absurd h' h.ne'⟩

theorem holdupMeasured_eq (c : Nat) (s : State) : holdupMeasured c s =
    fullLoadJudged (gaugeTime (gaugeEnergy c 60000) 9500) (modSup (fun x => { x with holdC := c, holdAt := some s.now }) s) := by
  unfold holdupMeasured fullLoadJudged modSup
  rfl

section
variable {s : State} {c : Nat} (hl : live s = true)
include hl

theorem ends_holdupTest {full : Nat} (hfull : gaugeTime (gaugeEnergy c 60000) 9500 = full)
    (hd : due s.sup.holdAt 3600000000000 s = true) : Ends (.holdupTest c) s [.sup, .flt] fun u =>
      u.sup = { s.sup with holdC := c, holdAt := some s.now } ∧ (full < 10000 → isActive 0x1006 wide u = true) ∧
      (10000 < full → isActive 0x1006 wide u = false) ∧ (full = 10000 → isActive 0x1006 wide u = isActive 0x1006 wide s) := by
  have hu := (guardOn_true hd (holdupMeasured c) s.begin).trans (holdupMeasured_eq c s.begin)
  rw [hfull] at hu
  obtain ⟨hframe, hjudged⟩ := fullLoadJudged_leaves full (modSup (fun x => { x with holdC := c, holdAt := some s.now }) s.begin)
  exact ends_of_effect (f := fun s => guardOn (due s.sup.holdAt 3600000000000 s) (holdupMeasured c) s) rfl hl hu
    (only_trans (only_mono (only_modSup _ s.begin) (by simp)) (only_mono hframe (by simp))) ⟨hframe .sup (by decide), hjudged⟩

theorem sends_holdupTest (hd : due s.sup.holdAt 3600000000000 s = false) : Sends (.holdupTest c) s [] :=
  sends_whenLiveK (f := fun s => guardOn (due s.sup.holdAt 3600000000000 s) (holdupMeasured c) s) rfl hl (guardOn_false hd _ s.begin)

end

/-! ### VBP (R427) -/

theorem heldFor_of_since {o : Option Nat} {t0 : Nat} (h : o = some t0) (ns : Nat) (s : State) :
    heldFor o ns s = decide (t0 + ns ≤ s.now) := by rw [h]; rfl

/-- A fall of VBP: 0x1004, and the writes of R104 and R120. -/
theorem lowEntered_leaves (s : State) :
    let u := lowWrites (raiseF 0x1004 wide (modSup (fun x => { x with vbpState := .low }) s))
    Only [.sup, .flt, .est, .ident, .pair] s u ∧ u.sup = { s.sup with vbpState := .low } ∧ isActive 0x1004 wide u = true ∧
    (s.est.restored = true → isFenced .e s = false → max u.est.cpA.seq u.est.cpB.seq = max s.est.cpA.seq s.est.cpB.seq + 1) := by
  let v := raiseF 0x1004 wide (modSup (fun x => { x with vbpState := .low }) s)
  have hv : Only [.sup, .flt] s v := only_trans (only_mono (only_modSup _ s) (by simp)) (only_mono (only_raiseF _ _ _) (by simp))
  have hsup : v.sup = { s.sup with vbpState := .low } := raiseF_sup _ _ _
  have hest : v.est = s.est := hv .est (by decide)
  have hcp := only_writeCheckpoint v
  have hbatch := recordWork_startBatch (writeCheckpoint v)
  obtain ⟨_, _, _, _, he⟩ := hbatch.est
  refine ⟨only_trans (only_mono hv (by simp)) (only_trans (only_mono hcp (by simp)) (only_mono hbatch.frame (by simp))),
    ((hbatch.frame .sup (by decide)).trans (hcp .sup (by decide))).trans hsup,
    hbatch.codes _ _ (by decide) (codesKept_of_only hcp (by decide) [] _ _ (by simp) (isActive_raiseF _ _ _)), fun hr hf => ?_⟩
  have hfv : isFenced .e v = false := by simpa only [isFenced, hsup] using hf
  have hseq := writeCheckpoint_seq (s := v) (by rw [hest]; exact hr) hfv
  rw [hest] at hseq
  show max (startBatch (writeCheckpoint v)).est.cpA.seq (startBatch (writeCheckpoint v)).est.cpB.seq = _
  rw [he]
  exact hseq

section
variable {s : State} {t t0 : Nat} (hl : live s = true)
include hl

theorem ends_vbpLowEntry (hv : s.sup.vbpState = .normal) (h0 : s.sup.lowFrom = some t0) (h : t0 + 50000 ≤ max s.now t) :
    Ends (.vbpLowEntry t) s [.now, .sup, .flt, .est, .ident, .pair] fun u =>
      u.sup = { s.sup with vbpState := .low, lowWrites := true } ∧ isActive 0x1004 wide u = true ∧
      (s.est.restored = true → isFenced .e s = false → max u.est.cpA.seq u.est.cpB.seq = max s.est.cpA.seq s.est.cpB.seq + 1) := by
  obtain ⟨hframe, hsup, hrest⟩ := lowEntered_leaves (atTime t s.begin)
  have hg : (s.sup.vbpState == .normal && heldFor s.sup.lowFrom 50000 (atTime t s.begin)) = true := by
    rw [heldFor_of_since h0, Bool.and_eq_true, beq_iff_eq, decide_eq_true_eq]
    exact ⟨hv, h⟩
  exact ends_of_effect (f := fun s => vbpLowEntry (atTime t s)) rfl hl (guardOn_true hg _ (atTime t s.begin))
    (only_trans (only_mono (only_atTime t s.begin) (by simp)) (only_trans (only_mono hframe (by simp)) (only_mono (only_modSup _ _) (by simp))))
    ⟨congrArg (fun x : SupRegs => { x with lowWrites := true }) hsup, hrest⟩

theorem ends_vbpLowEntry_early (h0 : s.sup.lowFrom = some t0) (h : max s.now t < t0 + 50000) :
    Ends (.vbpLowEntry t) s [.now] fun u => u.now = max s.now t := by
  have hg : (s.sup.vbpState == .normal && heldFor s.sup.lowFrom 50000 (atTime t s.begin)) = false := by
    rw [heldFor_of_since h0, Bool.and_eq_false_iff]
    exact .inr (decide_eq_false (Nat.not_le.2 h))
  exact ends_of_effect (f := fun s => vbpLowEntry (atTime t s)) rfl hl (guardOn_false hg _ (atTime t s.begin)) (only_atTime t s.begin) rfl

theorem ends_vbpLowExit (hv : s.sup.vbpState ≠ .normal) (h0 : s.sup.highFrom = some t0) (h : t0 + 1000000 ≤ max s.now t) :
    Ends (.vbpLowExit t) s [.now, .sup, .flt] fun u =>
      u.sup = { s.sup with vbpState := .normal, lowWrites := false } ∧ isActive 0x1004 wide u = false := by
  have hg : (s.sup.vbpState != .normal && heldFor s.sup.highFrom 1000000 (atTime t s.begin)) = true := by
    rw [heldFor_of_since h0, Bool.and_eq_true, bne_iff_ne, decide_eq_true_eq]
    exact ⟨hv, h⟩
  exact ends_of_effect (f := fun s => vbpLowExit (atTime t s)) rfl hl (guardOn_true hg _ (atTime t s.begin))
    (only_trans (only_mono (only_atTime t s.begin) (by simp))
      (only_trans (only_mono (only_modSup _ _) (by simp)) (only_mono (only_clearF _ _ _) (by simp))))
    ⟨clearF_sup _ _ _, isActive_clearF _ _ _⟩

theorem ends_vbpLowExit_early (h0 : s.sup.highFrom = some t0) (h : max s.now t < t0 + 1000000) :
    Ends (.vbpLowExit t) s [.now] fun u => u.now = max s.now t := by
  have hg : (s.sup.vbpState != .normal && heldFor s.sup.highFrom 1000000 (atTime t s.begin)) = false := by
    rw [heldFor_of_since h0, Bool.and_eq_false_iff]
    exact .inr (decide_eq_false (Nat.not_le.2 h))
  exact ends_of_effect (f := fun s => vbpLowExit (atTime t s)) rfl hl (guardOn_false hg _ (atTime t s.begin)) (only_atTime t s.begin) rfl

end

/-! ### An island hangs (R428) -/

theorem islandNo_lt (i : Island) : islandNo i < 10 := by cases i <;> decide

/-- The fence of an island notes its cause. -/
theorem fenceIsland_cause {i : Island} (hp : i ≠ .p) (code : Nat) {s : State} (hi : isFenced i s = false) :
    getAt (fenceIsland i code s).sup.cause (islandNo i) = code := by
  have e : fenceIsland i code s = withSq (fun s => fenceEffect i (raiseF 0x1010 (islandNo i) (markFence i code s))) s := by
    cases i with
    | p => exact absurd rfl hp
    | h | c | e | m | n | s | f | b | j => simp [fenceIsland, hi]
  have hsettled : (fenceIsland i code s).sup = (fenceEffect i (raiseF 0x1010 (islandNo i) (markFence i code s))).sup := by
    rw [e]
    exact only_keep (only_settleSq _ _) .sup (by decide)
  rw [hsettled, (fenceEffect_fencesStand i _).1, raiseF_sup]
  exact getAt_setAt_same _ _ (islandNo_lt i)

section
variable {i : Island} {s : State} (hl : live s = true)
include hl

theorem exec_islandHang (hp : i ≠ .p) (hi : isFenced i s = false) : ∃ u, exec (.islandHang i) s = .next u ∧ u.pending = s.pending ∧
    u.store = s.store ∧ isFenced i u = true ∧ getAt u.sup.cause (islandNo i) = 0x1007 ∧ isActive 0x1007 (islandNo i) u = true ∧
    isActive 0x1010 (islandNo i) u = true ∧ ∀ k, k ≠ i → isFenced k u = isFenced k s := by
  let r := raiseF 0x1007 (islandNo i) s.begin
  have hsup : r.sup = s.sup := raiseF_sup _ _ _
  have hr : isFenced i r = false := (isFenced_of_sup hsup i).trans hi
  have hu : islandHang i s.begin = { fenceIsland i 0x1007 r with store := s.store } := by
    have hgo : ¬ (i == .p) = true := by simpa using hp
    have hfree : ¬ isFenced i s.begin = true := by simpa [isFenced] using hi
    simp only [islandHang, if_neg hgo, keep, if_neg hfree]
    rfl
  obtain ⟨hself, hfence, hother, hkept⟩ := fenceIsland_contains hp 0x1007 hr
  refine ⟨_, whenLive_next (f := islandHang i) hl, rfl, ?_⟩
  rw [hu]
  exact ⟨rfl, hself, fenceIsland_cause hp 0x1007 hr, hkept _ _ (by decide) (by decide) (isActive_raiseF _ _ _), hfence,
    fun k hk => (hother k hk).trans (isFenced_of_sup hsup k)⟩

theorem exec_islandHang_p : ∃ u, exec (.islandHang .p) s = .next u ∧ u.pending = s.pending ∧ u.sys.phase = .off ∧
    u.sys.cause = .pMemory ∧ u.store = keptStore s := by
  refine ⟨_, whenLive_next (f := islandHang .p) hl, rfl, ?_⟩
  exact ⟨resetModule_phase .pMemory s.begin, resetModule_cause .pMemory s.begin, resetModule_store .pMemory s.begin⟩

end

/-- Settles O40: the die's temperature and a latched shutdown, the hold-up gauge, VBP and the hang of an island, each on both sides of its
time. -/
theorem supervisionActs : Obligations.SupervisionActs := by
  unfold Obligations.SupervisionActs
  refine ⟨fun s => ⟨fun x t => ⟨exec_dieTempRead, ends_dieTempRead_early⟩, fun v b p t hl => ⟨fun hd => ⟨ends_holdupGauge hl hd, ?_⟩,
      ends_holdupGauge_early hl⟩, fun c hl => ⟨?_, sends_holdupTest hl⟩, fun t hl => ⟨fun t0 hv h0 => ?_, fun t0 hv h0 => ?_⟩⟩,
    fun i s hl => ⟨exec_islandHang hl, ?_⟩⟩
  · exact exec_holdupGauge_shortfall hl hd
  · exact ends_holdupTest hl rfl
  · exact ⟨ends_vbpLowEntry hl hv h0, ends_vbpLowEntry_early hl h0⟩
  · exact ⟨ends_vbpLowExit hl hv h0, ends_vbpLowExit_early hl h0⟩
  · rintro rfl
    exact exec_islandHang_p hl

end Sys2Proof.Proofs
end

section
/-! PROOFS. Capacity learning and the learned records: what a write, a repair, a rebuild and a completion make of a position. -/
namespace Sys2Proof.Proofs
open Sys2Proof Sys2Proof.Machine Sys2Proof.Laws

/-! ### One position of the learning state -/

theorem modAt_modAt {α : Type} {n : Nat} [Inhabited α] (v : Vector α n) (i : Nat) (f g : α → α) :
    modAt (modAt v i f) i g = modAt v i fun x => g (f x) := by
  rcases Nat.lt_or_ge i n with h | h
  · rw [modAt, modAt, modAt, getAt_setAt_same v _ h]
    simp [setAt]
  · simp [modAt, setAt, Vector.setIfInBounds_eq_of_size_le, h]

/-- The registers of capacity and identity with position n changed. -/
def posChanged (n : Nat) (f : LearnPos → LearnPos) (x : IdentRegs) : IdentRegs := { x with pos := modAt x.pos n f }

theorem modLp_ident (n : Nat) (f : LearnPos → LearnPos) (s : State) : (modLp n f s).ident = posChanged n f s.ident := rfl

@[simp] theorem posChanged_pendBatch (n : Nat) (f : LearnPos → LearnPos) (x : IdentRegs) :
    (posChanged n f x).pendBatch = x.pendBatch := rfl

theorem posChanged_posChanged (n : Nat) (f g : LearnPos → LearnPos) (x : IdentRegs) :
    posChanged n g (posChanged n f x) = posChanged n (fun p => g (f p)) x := by
  simp only [posChanged, modAt_modAt]

theorem lpAt_of_ident {s t : State} (h : t.ident = s.ident) (n : Nat) : lpAt n t = lpAt n s := by simp only [lpAt, h]

theorem lpAt_same {n : Nat} {f : LearnPos → LearnPos} {s t : State} (h : t.ident = posChanged n f s.ident) (hn : n < 256) :
    lpAt n t = f (lpAt n s) := by
  rw [lpAt, h]
  exact getAt_modAt_same _ f hn

theorem lpAt_other {k n : Nat} {f : LearnPos → LearnPos} {s t : State} (h : t.ident = posChanged n f s.ident) (hk : k ≠ n) :
    lpAt k t = lpAt k s := by
  rw [lpAt, h]
  exact getAt_setAt_other _ _ hk

theorem raiseF_ident (c k : Nat) (s : State) : (raiseF c k s).ident = s.ident := only_raiseF c k s .ident (by decide)

theorem clearF_ident (c k : Nat) (s : State) : (clearF c k s).ident = s.ident := only_clearF c k s .ident (by decide)

/-- Raising a code raises no other. -/
theorem isActive_raiseF_other {c k c' k' : Nat} (h : c ≠ c' ∨ k ≠ k') {s : State} (hs : isActive c k s = false) :
    isActive c k (raiseF c' k' s) = false := by
  rw [Bool.eq_false_iff, ne_eq, isActive_iff] at hs ⊢
  rintro ⟨a, ha, rfl, rfl⟩
  unfold raiseF raiseAt at ha
  split at ha
  · obtain ⟨b, hb, rfl⟩ := List.mem_map.1 ha
    exact hs ⟨b, hb, by split <;> rfl, by split <;> rfl⟩
  · rcases List.mem_append.1 ha with ha | ha
    · exact hs ⟨a, ha, rfl, rfl⟩
    · rw [List.mem_singleton] at ha
      subst ha
      simp at h

/-! ### The two copies of a record (R111, R112) -/

/-- A verified write makes the record the one in use, with the next SEQ. -/
theorem validCopy_putRecord (r : Learned) {p : LearnPos} (h : topSeq p < 4294967295) :
    validCopy (putRecord r p) = some { r with seq := topSeq p + 1 } := by
  have hmod : (topSeq p + 1) % 4294967296 = topSeq p + 1 := Nat.mod_eq_of_lt (by omega)
  unfold putRecord
  rw [hmod]
  cases ha : p.aOk <;> cases hb : p.bOk
  · simp [writeToA, validCopy, ha]
  · simp [writeToA, validCopy, topSeq, ha, hb]
  · simp [writeToA, validCopy, topSeq, ha, hb]
  · rcases Nat.lt_or_ge p.b.seq p.a.seq with hs | hs
    · simp [writeToA, validCopy, topSeq, ha, hb, Nat.not_le.2 hs, hs.le]
    · have htop : topSeq p = p.b.seq := by
        rcases hs.lt_or_eq with hlt | heq
        · simp [topSeq, validCopy, ha, hb, Nat.not_le.2 hlt]
        · simp [topSeq, validCopy, ha, hb, heq]
      simp [writeToA, validCopy, htop, ha, hb, hs]

theorem topSeq_putRecord (r : Learned) {p : LearnPos} (h : topSeq p < 4294967295) : topSeq (putRecord r p) = topSeq p + 1 := by
  rw [topSeq, validCopy_putRecord r h]
  rfl

/-- A write of a record changes nothing of its position but the copies. -/
theorem putRecord_eq (r : Learned) (p : LearnPos) :
    ∃ a x b y, putRecord r p = { p with a := a, aOk := x, b := b, bOk := y } := by
  unfold putRecord
  dsimp only
  split <;> exact ⟨_, _, _, _, rfl⟩

/-- The copy of slot A, or of slot B, fails its check. -/
def copyFailed (slotB : Bool) (p : LearnPos) : LearnPos := if slotB then { p with bOk := false } else { p with aOk := false }

theorem copyFailed_bad (slotB : Bool) (p : LearnPos) : ((copyFailed slotB p).aOk && (copyFailed slotB p).bOk) = false := by
  cases slotB <;> simp [copyFailed]

/-- Where one copy fails the other one is in use. -/
theorem validCopy_copyFailed_one {p : LearnPos} (slotB : Bool) (ha : p.aOk = true) (hb : p.bOk = true) :
    validCopy (copyFailed slotB p) = some (if slotB then p.a else p.b) := by
  cases slotB <;> simp [copyFailed, validCopy, ha, hb]

theorem validCopy_copyFailed_both {p : LearnPos} {slotB : Bool} (h : (if slotB then p.aOk else p.bOk) = false) :
    validCopy (copyFailed slotB p) = none := by
  cases slotB <;> simp_all [copyFailed, validCopy]

/-! ### A record is written (R111, R116) -/

/-- No write of the record of a position waits. -/
def waitEnded (p : LearnPos) : LearnPos := { p with waitSince := none }

theorem endWait_ident (n : Nat) (s : State) : (endWait n s).ident = posChanged n waitEnded s.ident := by
  unfold endWait
  dsimp only
  split
  · rfl
  · exact clearF_ident _ _ _

theorem endWait_clears (n : Nat) {s : State} (h : s.ident.pendBatch = false) : isActive 0x3011 n (endWait n s) = false := by
  unfold endWait
  dsimp only
  rw [if_neg (by simp [modLp, h])]
  exact isActive_clearF _ _ _

theorem endWait_keepsClear (k n : Nat) {s : State} (h : isActive 0x3011 k s = false) :
    isActive 0x3011 k (endWait n s) = false := by
  unfold endWait
  dsimp only
  split
  · exact h
  · exact isActive_clearF_of_not _ _ h

/-- A position whose record has been written. -/
def recordWritten (r : Learned) (p : LearnPos) : LearnPos := waitEnded (putRecord r p)

theorem recordWritten_eq (r : Learned) (p : LearnPos) :
    ∃ a x b y, recordWritten r p = { p with a := a, aOk := x, b := b, bOk := y, waitSince := none } := by
  obtain ⟨a, x, b, y, h⟩ := putRecord_eq r p
  exact ⟨a, x, b, y, by rw [recordWritten, h]; rfl⟩

theorem only_sendMirror (cls : Nat) (content : List Byte) (s : State) : Only [.pair] s (sendMirror cls content s) := by
  obtain ⟨o, q, h⟩ := sendMirror_eq cls content s
  rw [h]
  exact only_pairOut _ _ s

/-- After the write and the end of its wait, 0x3012 may clear and the partner may be told. -/
theorem writeRecord_after (n : Nat) (r : Learned) (s : State) : let v := endWait n (modLp n (putRecord r) s)
    ∃ w, (w = v ∨ w = clearF 0x3012 n v) ∧ Only [.pair] w (writeRecord n r s) := by
  intro v
  refine ⟨if (lpAt n v).aOk && (lpAt n v).bOk then clearF 0x3012 n v else v, ?_, only_ite (only_sendMirror _ _ _) (only_refl _ _)⟩
  split
  · exact .inr rfl
  · exact .inl rfl

theorem only_writeRecord (n : Nat) (r : Learned) (s : State) : Only [.ident, .flt, .pair] s (writeRecord n r s) := by
  obtain ⟨w, hw, hu⟩ := writeRecord_after n r s
  have hv : Only [.ident, .flt, .pair] s (endWait n (modLp n (putRecord r) s)) :=
    only_trans (only_mono (only_modLp _ _ s) (by simp)) (only_mono (only_endWait _ _) (by simp))
  refine only_trans (t := w) ?_ (only_mono hu (by simp))
  rcases hw with rfl | rfl
  · exact hv
  · exact only_trans hv (only_mono (only_clearF _ _ _) (by simp))

theorem writeRecord_ident (n : Nat) (r : Learned) (s : State) :
    (writeRecord n r s).ident = posChanged n (recordWritten r) s.ident := by
  obtain ⟨w, hw, hu⟩ := writeRecord_after n r s
  have hv : (endWait n (modLp n (putRecord r) s)).ident = posChanged n (recordWritten r) s.ident := by
    rw [endWait_ident, modLp_ident, posChanged_posChanged]
    rfl
  rw [hu .ident (by decide), ← hv]
  rcases hw with rfl | rfl
  · rfl
  · exact clearF_ident _ _ _

theorem writeRecord_clears (n : Nat) (r : Learned) {s : State} (h : s.ident.pendBatch = false) :
    isActive 0x3011 n (writeRecord n r s) = false := by
  obtain ⟨w, hw, hu⟩ := writeRecord_after n r s
  have hv : isActive 0x3011 n (endWait n (modLp n (putRecord r) s)) = false := endWait_clears n h
  rw [isActive_of_flt (hu .flt (by decide))]
  rcases hw with rfl | rfl
  · exact hv
  · exact isActive_clearF_of_not _ _ hv

theorem learnedAt_of_written {n : Nat} {r : Learned} {t : State} {p : LearnPos} (h : lpAt n t = recordWritten r p)
    (ht : topSeq p < 4294967295) : learnedAt n t = { r with seq := topSeq p + 1 } := by
  rw [learnedAt, h]
  exact congrArg (·.getD {}) (validCopy_putRecord r ht)

/-! ### A learning is completed (R113, R117, R118) -/

/-- A position whose learning has its completion in the journal. -/
def learnClosed (result : Nat) (p : LearnPos) : LearnPos :=
  { p with waitSince := none, closing := true, next := none, state := .idle, last := result }

/-- A position whose new capacity is in its record and enters the context at the next step 3. -/
def learnDone (p : LearnPos) : LearnPos := { learnClosed 1 p with enter := true }

/-- The COMPLETION of an entry of position n. -/
def learnCompletion (n result : Nat) (e : CapLearn) (p : LearnPos) : Work :=
  .own 0x02 (toBytes 8 p.entryJ ++ toBytes 1 result ++ toBytes 2 n ++ toBytes 4 e.target)

section
variable {n : Nat} {e : CapLearn} {s : State} (he : (lpAt n s).entry = some e)
include he

/-- The completion is journaled, and after it only the wait of a write may end. -/
theorem completeLearn_eq (result : Nat) : let v := journalCompletion (lpAt n s).entryJ result (toBytes 2 n ++ toBytes 4 e.target) s
    completeLearn n result s = modLp n (fun p => { p with closing := true, next := none, state := .idle, last := result })
      (if (lpAt n s).waitSince.isSome then endWait n v else v) := by
  unfold completeLearn
  dsimp only
  rw [he]

theorem completeLearn_lpAt (result : Nat) (hn : n < 256) : lpAt n (completeLearn n result s) = learnClosed result (lpAt n s) := by
  rw [completeLearn_eq he, lpAt_same (modLp_ident _ _ _) hn]
  cases hw : (lpAt n s).waitSince with
  | none =>
    rw [if_neg (by simp), learnClosed, ← hw]
    rfl
  | some t =>
    rw [if_pos (by simp), lpAt_same (endWait_ident _ _) hn]
    rfl

theorem completeLearn_batch (result : Nat) :
    (completeLearn n result s).ses.batch = s.ses.batch ++ [learnCompletion n result e (lpAt n s)] := by
  have hv : (journalCompletion (lpAt n s).entryJ result (toBytes 2 n ++ toBytes 4 e.target) s).ses.batch =
      s.ses.batch ++ [learnCompletion n result e (lpAt n s)] := by
    rw [learnCompletion, List.append_assoc _ (toBytes 2 n)]
    rfl
  rw [completeLearn_eq he, modLp_ses, ← hv]
  split
  · exact congrArg (·.batch) (only_endWait _ _ .ses (by decide))
  · rfl

theorem completeLearn_keepsClear (result k : Nat) (h : isActive 0x3011 k s = false) :
    isActive 0x3011 k (completeLearn n result s) = false := by
  rw [completeLearn_eq he]
  show isActive 0x3011 k (if _ then _ else _) = false
  split
  · exact endWait_keepsClear _ _ h
  · exact h

end

/-! ### The computation of a learning, and its write (R114 to R117) -/

/-- Record x of position n written after a learning, with the completion journaled. -/
def learnWritten (n : Nat) (x : Learned) (s : State) : State :=
  modLp n (fun p => { p with enter := true }) (completeLearn n 1 (clearF 0x3010 n (writeRecord n x s)))

theorem only_learnWritten (n : Nat) (x : Learned) (s : State) : Only [.ident, .ses, .flt, .pair] s (learnWritten n x s) :=
  only_trans (only_mono (only_writeRecord n _ s) (by simp)) (only_trans (only_mono (only_clearF _ _ _) (by simp))
    (only_trans (only_mono (only_completeLearn _ _ _) (by simp)) (only_mono (only_modLp _ _ _) (by simp))))

theorem learnWritten_leaves {n : Nat} {e : CapLearn} {s : State} (hn : n < 256) (he : (lpAt n s).entry = some e) (x : Learned) :
    lpAt n (learnWritten n x s) = learnDone (recordWritten x (lpAt n s)) ∧
    (learnWritten n x s).ses.batch = s.ses.batch ++ [learnCompletion n 1 e (lpAt n s)] ∧
    (s.ident.pendBatch = false → isActive 0x3011 n (learnWritten n x s) = false) := by
  obtain ⟨v, hv⟩ : ∃ v, v = clearF 0x3010 n (writeRecord n x s) := ⟨_, rfl⟩
  have hid : v.ident = posChanged n (recordWritten x) s.ident := by rw [hv, clearF_ident, writeRecord_ident]
  have hses : v.ses = s.ses := by rw [hv, only_clearF _ _ _ .ses (by decide), only_writeRecord n x s .ses (by decide)]
  obtain ⟨a, i, b, j, hw⟩ := recordWritten_eq x (lpAt n s)
  have hlp : lpAt n v = { lpAt n s with a := a, aOk := i, b := b, bOk := j, waitSince := none } := (lpAt_same hid hn).trans hw
  have hev : (lpAt n v).entry = some e := by rw [hlp]; exact he
  rw [learnWritten, ← hv]
  refine ⟨?_, ?_, fun hp => completeLearn_keepsClear hev 1 n ?_⟩
  · rw [lpAt_same (modLp_ident _ _ _) hn, completeLearn_lpAt hev 1 hn, lpAt_same hid hn]
    rfl
  · rw [modLp_ses, completeLearn_batch hev 1, hses, hlp]
    rfl
  · rw [hv]
    exact isActive_clearF_of_not _ _ (writeRecord_clears n x hp)

section
variable {n : Nat} {e : CapLearn} {r : Learned} {s : State} (ha : acts s = true) (he : (lpAt n s).entry = some e)
  (hgen : e.gen = (learnedAt n s).gen)
include ha he hgen

/-- An open entry that passes its bounds is computed. -/
theorem capLearnCompute_computes (hc : (lpAt n s).committed = true) (hopen : (lpAt n s).closing = false)
    (hnext : (lpAt n s).next = none) (hr : learnCompute n e s = some r) :
    capLearnCompute n s = modLp n (fun p => { p with next := some r, state := .writing }) s := by
  have hstep : learnStep n e s = modLp n (fun p => { p with next := some r, state := .writing }) s := by
    rw [learnStep, if_neg (not_not.2 hgen.symm), hr]
  unfold capLearnCompute
  dsimp only
  rw [guardOn_true (by simp [hc, hopen, hnext, ha]), he]
  exact hstep

theorem capRecordWrite_writes (hnext : (lpAt n s).next = some r) (hg : gaugeOk 10 s = true) {x y : Bool} (hxy : (x || y) = true) :
    let w := learnWritten n (learnedInto r (learnedAt n s)) s
    capRecordWrite n x y s = w ∨ capRecordWrite n x y s = raiseF 0x3015 n w := by
  unfold capRecordWrite
  rw [hnext]
  dsimp only
  rw [if_neg (by simp [ha]), if_neg (by simp [he, hgen]), if_neg (by simp [hg]), if_pos hxy]
  split
  · exact .inr rfl
  · exact .inl rfl

theorem capRecordWrite_waits (hnext : (lpAt n s).next = some r) (hg : gaugeOk 10 s = false) (x y : Bool) :
    capRecordWrite n x y s = modLp n (fun p => { p with state := .deferred }) (beginWait n s) := by
  unfold capRecordWrite
  rw [hnext]
  dsimp only
  rw [if_neg (by simp [ha]), if_neg (by simp [he, hgen]), if_pos (by simp [hg])]

omit hgen in
/-- An entry whose record was written before the reset needs nothing but its completion. -/
theorem openLearnCompletion_completes (hload : s.ident.loaded = true) (hres : s.est.restored = true)
    (hc : (lpAt n s).committed = true) (hopen : (lpAt n s).closing = false) (hnext : (lpAt n s).next = none)
    (hearlier : earlierOpen n s = false) (ht : e.target ≤ topSeq (lpAt n s)) :
    openLearnCompletion n s = modLp n (fun p => { p with enter := true }) (completeLearn n 1 s) := by
  unfold openLearnCompletion
  dsimp only
  rw [guardOn_true (by simp [hload, hres, hc, hopen, hnext, hearlier, ha]), he]
  exact if_pos ht

end

section
variable {n : Fin 256} {e : CapLearn} {s : State} (hl : live s = true) (ha : acts s = true) (he : (lpAt n.val s).entry = some e)
  (hgen : e.gen = (learnedAt n.val s).gen)
include hl ha he

section
include hgen

theorem ends_capLearnCompute {r : Learned} (hc : (lpAt n.val s).committed = true) (hopen : (lpAt n.val s).closing = false)
    (hnext : (lpAt n.val s).next = none) (hr : learnCompute n.val e s = some r) : Ends (.capLearnCompute n) s [.ident] fun u =>
      lpAt n.val u = { lpAt n.val s with next := some r, state := .writing } :=
  ends_of_effect (f := capLearnCompute n.val) rfl hl (capLearnCompute_computes (s := s.begin) ha he hgen hc hopen hnext hr)
    (only_modLp _ _ _) (lpAt_same (modLp_ident _ _ s.begin) n.isLt)

theorem ends_capRecordWrite {r : Learned} {x y : Bool} (hnext : (lpAt n.val s).next = some r) (hg : gaugeOk 10 s = true)
    (hxy : (x || y) = true) (ht : topSeq (lpAt n.val s) < 4294967295) :
    Ends (.capRecordWrite n x y) s [.ident, .ses, .flt, .pair] fun u =>
      (lpAt n.val u).closing = true ∧ (lpAt n.val u).next = none ∧ (lpAt n.val u).enter = true ∧ (lpAt n.val u).last = 1 ∧
      learnedAt n.val u = { learnedInto r (learnedAt n.val s) with seq := topSeq (lpAt n.val s) + 1 } ∧
      u.ses.batch = s.ses.batch ++ [learnCompletion n.val 1 e (lpAt n.val s)] ∧
      (s.ident.pendBatch = false → isActive 0x3011 n.val u = false) := by
  obtain ⟨hlp, hbatch, hclear⟩ := learnWritten_leaves (s := s.begin) n.isLt he (learnedInto r (learnedAt n.val s))
  let w := learnWritten n.val (learnedInto r (learnedAt n.val s)) s.begin
  have hu : ∃ u, capRecordWrite n.val x y s.begin = u ∧ Only [.flt] w u ∧
      (isActive 0x3011 n.val w = false → isActive 0x3011 n.val u = false) := by
    rcases capRecordWrite_writes (s := s.begin) ha he hgen hnext hg hxy with h | h
    · exact ⟨_, h, only_refl _ w, id⟩
    · exact ⟨_, h, only_raiseF _ _ w, isActive_raiseF_other (.inl (by decide))⟩
  obtain ⟨u, heff, hflt, hkeeps⟩ := hu
  have hlpu : lpAt n.val u = learnDone (recordWritten (learnedInto r (learnedAt n.val s)) (lpAt n.val s)) :=
    (lpAt_of_ident (hflt .ident (by decide)) _).trans hlp
  have hrec : learnedAt n.val u = { learnedInto r (learnedAt n.val s) with seq := topSeq (lpAt n.val s) + 1 } := by
    rw [learnedAt, hlpu]
    exact congrArg (·.getD {}) (validCopy_putRecord _ ht)
  refine ends_of_effect (f := capRecordWrite n.val x y) rfl hl heff
    (only_trans (only_learnWritten _ _ _) (only_mono hflt (by simp))) ?_
  show (lpAt n.val u).closing = true ∧ (lpAt n.val u).next = none ∧ (lpAt n.val u).enter = true ∧ (lpAt n.val u).last = 1 ∧ _
  rw [hlpu]
  exact ⟨rfl, rfl, rfl, rfl, hrec, (congrArg (·.batch) (hflt .ses (by decide))).trans hbatch, fun hp => hkeeps (hclear hp)⟩

theorem ends_capRecordWrite_waits {r : Learned} {x y : Bool} (hnext : (lpAt n.val s).next = some r) (hg : gaugeOk 10 s = false) :
    Ends (.capRecordWrite n x y) s [.ident] fun u =>
      lpAt n.val u = { lpAt n.val s with state := .deferred, waitSince := some ((lpAt n.val s).waitSince.getD s.now) } := by
  refine ends_of_effect (f := capRecordWrite n.val x y) rfl hl (capRecordWrite_waits (s := s.begin) ha he hgen hnext hg x y)
    (only_trans (only_modLp _ _ s.begin) (only_modLp _ _ _)) ?_
  refine (lpAt_same (modLp_ident _ _ (beginWait n.val s.begin)) n.isLt).trans ?_
  rw [beginWait, lpAt_same (modLp_ident _ _ s.begin) n.isLt]
  rfl

end

theorem ends_openLearnCompletion (hload : s.ident.loaded = true) (hres : s.est.restored = true)
    (hc : (lpAt n.val s).committed = true) (hopen : (lpAt n.val s).closing = false) (hnext : (lpAt n.val s).next = none)
    (hearlier : earlierOpen n.val s = false) (ht : e.target ≤ topSeq (lpAt n.val s)) :
    Ends (.openLearnCompletion n) s [.ident, .ses, .flt] fun u =>
      (lpAt n.val u).closing = true ∧ (lpAt n.val u).last = 1 ∧ (lpAt n.val u).enter = true ∧
      learnedAt n.val u = learnedAt n.val s ∧ u.ses.batch = s.ses.batch ++ [learnCompletion n.val 1 e (lpAt n.val s)] := by
  let u := modLp n.val (fun p => { p with enter := true }) (completeLearn n.val 1 s.begin)
  have hlp : lpAt n.val u = learnDone (lpAt n.val s) := by
    rw [lpAt_same (modLp_ident _ _ _) n.isLt, completeLearn_lpAt (s := s.begin) he 1 n.isLt]
    rfl
  refine ends_of_effect (f := openLearnCompletion n.val) rfl hl
    (openLearnCompletion_completes (s := s.begin) ha he hload hres hc hopen hnext hearlier ht)
    (only_trans (only_mono (only_completeLearn _ _ s.begin) (by simp)) (only_mono (only_modLp _ _ _) (by simp))) ?_
  show (lpAt n.val u).closing = true ∧ (lpAt n.val u).last = 1 ∧ (lpAt n.val u).enter = true ∧ (validCopy (lpAt n.val u)).getD {} = _ ∧ _
  rw [hlp]
  exact ⟨rfl, rfl, rfl, rfl, completeLearn_batch (s := s.begin) he 1⟩

end

/-! ### A write that waits (R116) -/

section
variable {n : Fin 256} {s : State} {t : Nat} (hl : live s = true) (hw : waitingSince n.val s = some t)
include hl hw

theorem ends_learnDeferred (h : t + 60000000000 ≤ s.now) : Ends (.learnDeferred n) s [.flt] fun u =>
    isActive 0x3011 n.val u = true := by
  refine ends_of_effect (f := learnDeferred n.val) rfl hl ?_ (only_raiseF 0x3011 n.val s.begin) (isActive_raiseF _ _ s.begin)
  rw [learnDeferred, show waitingSince n.val s.begin = some t from hw]
  exact if_pos h

theorem sends_learnDeferred (h : s.now < t + 60000000000) : Sends (.learnDeferred n) s [] := by
  refine sends_whenLiveK (f := learnDeferred n.val) rfl hl ?_
  rw [learnDeferred, show waitingSince n.val s.begin = some t from hw]
  exact if_neg (Nat.not_le.2 h)

end

/-! ### A copy that fails its check (R112) -/

section
variable {n : Nat} {s : State} (hg : gaugeOk 10 s = true)
include hg

theorem mendRecord_repairs {r : Learned} (hbad : ((lpAt n s).aOk && (lpAt n s).bOk) = false) (hv : validCopy (lpAt n s) = some r) :
    mendRecord n s = repairSlot n r s := by
  unfold mendRecord
  dsimp only
  rw [if_neg (by simp [hbad]), hv]
  exact if_pos hg

theorem mendRecord_rebuilds (hbad : ((lpAt n s).aOk && (lpAt n s).bOk) = false) (hv : validCopy (lpAt n s) = none)
    (hres : s.est.restored = true) :
    mendRecord n s = modFl n (fun f => { f with stale := true }) (writeRecord n (rebuiltRecord n s) s) := by
  unfold mendRecord
  dsimp only
  rw [if_neg (by simp [hbad]), hv]
  exact (guardOn_true hres _ s).trans (if_pos hg)

end

/-- The state in which a copy of position n has just failed its check. -/
def copyLost (n : Nat) (slotB : Bool) (code : Nat) (s : State) : State := raiseF code n (modLp n (copyFailed slotB) s)

section
variable {n : Nat} (slotB : Bool) (code : Nat) (s : State)

theorem copyLost_lpAt (hn : n < 256) : lpAt n (copyLost n slotB code s) = copyFailed slotB (lpAt n s) :=
  lpAt_same ((raiseF_ident _ _ _).trans (modLp_ident n (copyFailed slotB) s)) hn

theorem only_copyLost : Only [.ident, .flt] s (copyLost n slotB code s) :=
  only_trans (only_mono (only_modLp _ _ s) (by simp)) (only_mono (only_raiseF _ _ _) (by simp))

theorem copyLost_gaugeOk (us : Nat) : gaugeOk us (copyLost n slotB code s) = gaugeOk us s := by
  rw [gaugeOk, only_copyLost slotB code s .sup (by decide)]
  rfl

end

section
variable {n : Nat} {slotB : Bool} {s : State} (hn : n < 256) (hg : gaugeOk 10 s = true)
include hn

theorem learnedCopyRewrite_eq : learnedCopyRewrite n slotB s =
    mendRecord n (copyLost n slotB (if (validCopy (copyFailed slotB (lpAt n s))).isSome then 0x3012 else 0x3013) s) := by
  rw [← lpAt_same (modLp_ident n (copyFailed slotB) s) hn]
  rfl

include hg

theorem learnedCopyRewrite_repairs {r : Learned} (hv : validCopy (copyFailed slotB (lpAt n s)) = some r) :
    learnedCopyRewrite n slotB s = repairSlot n r (copyLost n slotB 0x3012 s) := by
  have hlost := copyLost_lpAt slotB 0x3012 s hn
  have hbad := copyFailed_bad slotB (lpAt n s)
  rw [learnedCopyRewrite_eq hn, hv]
  exact mendRecord_repairs ((copyLost_gaugeOk slotB _ s 10).trans hg) (hlost ▸ hbad) (hlost ▸ hv)

theorem learnedCopyRewrite_rebuilds (hv : validCopy (copyFailed slotB (lpAt n s)) = none) (hres : s.est.restored = true) :
    let v := copyLost n slotB 0x3013 s
    learnedCopyRewrite n slotB s = modFl n (fun f => { f with stale := true }) (writeRecord n (rebuiltRecord n s) v) := by
  have hlost := copyLost_lpAt slotB 0x3013 s hn
  have hbad := copyFailed_bad slotB (lpAt n s)
  have hest : (copyLost n slotB 0x3013 s).est = s.est := only_copyLost slotB _ s .est (by decide)
  have hrec : rebuiltRecord n (copyLost n slotB 0x3013 s) = rebuiltRecord n s := by
    have hgen : (copyFailed slotB (lpAt n s)).recGen = (lpAt n s).recGen := by unfold copyFailed; split <;> rfl
    rw [rebuiltRecord, rebuiltRecord, hlost, hgen, ctxAt, ctxAt, hest]
  rw [learnedCopyRewrite_eq hn, hv, ← hrec]
  exact mendRecord_rebuilds ((copyLost_gaugeOk slotB _ s 10).trans hg) (hlost ▸ hbad) (hlost ▸ hv)
    ((congrArg (·.restored) hest).trans hres)

end

/-- A position with both slots holding one record. -/
def slotsRepaired (r : Learned) (p : LearnPos) : LearnPos := waitEnded { p with a := r, aOk := true, b := r, bOk := true }

theorem repairSlot_leaves {n : Nat} (hn : n < 256) (r : Learned) (s : State) :
    Only [.ident, .flt] s (repairSlot n r s) ∧ lpAt n (repairSlot n r s) = slotsRepaired r (lpAt n s) ∧
    isActive 0x3012 n (repairSlot n r s) = false := by
  refine ⟨?_, lpAt_same (f := slotsRepaired r) ?_ hn, isActive_clearF _ _ _⟩
  · exact only_trans (only_mono (only_modLp _ _ s) (by simp)) (only_trans (only_endWait _ _) (only_mono (only_clearF _ _ _) (by simp)))
  · rw [repairSlot, clearF_ident, endWait_ident, modLp_ident, posChanged_posChanged]
    rfl

section
variable {n : Fin 256} {s : State} {b : Bool} (hl : live s = true) (hg : gaugeOk 10 s = true)
include hl hg

theorem ends_learnedCopyRewrite_repairs (ha : (lpAt n.val s).aOk = true) (hb : (lpAt n.val s).bOk = true) :
    Ends (.learnedCopyRewrite n b) s [.ident, .flt] fun u =>
      (lpAt n.val u).aOk = true ∧ (lpAt n.val u).bOk = true ∧ (lpAt n.val u).a = (lpAt n.val u).b ∧
      (lpAt n.val u).a = (if b then (lpAt n.val s).a else (lpAt n.val s).b) ∧ isActive 0x3012 n.val u = false := by
  let r := if b then (lpAt n.val s).a else (lpAt n.val s).b
  let v := copyLost n.val b 0x3012 s.begin
  obtain ⟨hframe, hlp, hcode⟩ := repairSlot_leaves n.isLt r v
  refine ends_of_effect (f := learnedCopyRewrite n.val b) rfl hl
    (learnedCopyRewrite_repairs (s := s.begin) n.isLt hg (validCopy_copyFailed_one b ha hb))
    (only_trans (only_copyLost b _ s.begin) hframe) ?_
  show (lpAt n.val (repairSlot n.val r v)).aOk = true ∧ (lpAt n.val (repairSlot n.val r v)).bOk = true ∧
    (lpAt n.val (repairSlot n.val r v)).a = (lpAt n.val (repairSlot n.val r v)).b ∧ (lpAt n.val (repairSlot n.val r v)).a = r ∧ _
  rw [hlp]
  exact ⟨rfl, rfl, rfl, rfl, hcode⟩

theorem ends_learnedCopyRewrite_rebuilds (hbad : (if b then (lpAt n.val s).aOk else (lpAt n.val s).bOk) = false)
    (hres : s.est.restored = true) : Ends (.learnedCopyRewrite n b) s [.ident, .flt, .est, .pair] fun u =>
      learnedAt n.val u = { rebuiltRecord n.val s with seq := 1 } ∧ (flAt n.val u).stale = true ∧
      isActive 0x3013 n.val u = true := by
  let v := copyLost n.val b 0x3013 s.begin
  let w := writeRecord n.val (rebuiltRecord n.val s) v
  have hv : validCopy (copyFailed b (lpAt n.val s)) = none := validCopy_copyFailed_both hbad
  have htop : topSeq (lpAt n.val v) = 0 := by
    rw [copyLost_lpAt b _ s.begin n.isLt, topSeq, show validCopy (copyFailed b (lpAt n.val s.begin)) = none from hv]
    rfl
  refine ends_of_effect (f := learnedCopyRewrite n.val b) rfl hl (learnedCopyRewrite_rebuilds (s := s.begin) n.isLt hg hv hres)
    (only_trans (only_mono (only_copyLost b _ s.begin) (by simp)) (only_trans (only_mono (only_writeRecord _ _ v) (by simp))
      (only_mono (only_modFl _ _ w) (by simp)))) ⟨?_, ?_, ?_⟩
  · rw [← Nat.zero_add 1, ← htop]
    exact learnedAt_of_written (lpAt_same (writeRecord_ident _ _ v) n.isLt) (by omega)
  · exact congrArg (·.stale) (flAt_modFl_same (fun f => { f with stale := true }) w n.isLt)
  · exact (recordWork_writeRecord _ _ v).codes _ _ (by decide) (isActive_raiseF _ _ _)

end

/-! ### The hourly batch (R116, R120) -/

/-- Of the effects of a list only that of x concerns P: it makes Q, which the others keep. -/
theorem forAll_once {α : Type} {P Q : State → Prop} {xs : List α} {f : α → State → State} {x : α} (hnd : xs.Nodup) (hx : x ∈ xs)
    (hP : ∀ y s, y ≠ x → P s → P (f y s)) (hQ : ∀ y s, y ≠ x → Q s → Q (f y s)) (hmake : ∀ s, P s → Q (f x s)) {s : State} (hs : P s) :
    Q (forAll xs f s) := by
  induction xs generalizing s with
  | nil => simp at hx
  | cons y ys ih =>
    obtain ⟨hy, hys⟩ := List.nodup_cons.1 hnd
    by_cases hyx : y = x
    · subst hyx
      exact List.foldlRecOn ys _ (motive := Q) (hmake s hs) fun t ht z hz => hQ z t (fun h => hy (h ▸ hz)) ht
    · exact ih hys ((List.mem_cons.1 hx).resolve_left (Ne.symm hyx)) (hP y s hyx hs)

/-- A position whose record an hourly batch has written. -/
def batchWritten (r : Learned) (days efc : Nat) (p : LearnPos) : LearnPos :=
  { recordWritten r p with lifeDays := days, lifeEfc := efc, owed := false }

theorem batchWrite_ident (n : Nat) (s : State) :
    ∃ r days efc, (batchWrite n s).ident = posChanged n (batchWritten r days efc) s.ident := by
  unfold batchWrite
  extract_lets f r0 r s1 s2
  split
  next days efc _ =>
  extract_lets s3
  refine ⟨r, days, efc, ?_⟩
  have h3 : s3.ident = posChanged n (batchWritten r days efc) s.ident := by
    show (modLp n _ s2).ident = _
    rw [modLp_ident, show s2.ident = _ from writeRecord_ident n r s1, posChanged_posChanged]
    rfl
  rw [← h3]
  split
  · exact raiseF_ident _ _ _
  · rfl

/-- The batch passes over a position, or writes its record. -/
theorem batchPos_ident (n : Nat) (s : State) : ∃ f, (batchPos n s).ident = posChanged n f s.ident := by
  unfold batchPos
  split
  · exact ⟨_, rfl⟩
  · obtain ⟨_, _, _, h⟩ := batchWrite_ident n s
    exact ⟨_, h⟩

theorem batchPos_topSeq {n : Nat} {s : State} (hn : n < 256) (hv : (validCopy (lpAt n s)).isSome = true)
    (ht : topSeq (lpAt n s) < 4294967295) :
    topSeq (lpAt n (batchPos n s)) = topSeq (lpAt n s) + (if (lpAt n s).entry.isSome then 0 else 1) := by
  have hread : (validCopy (lpAt n s)).isNone = false := by simpa using hv
  unfold batchPos
  cases he : (lpAt n s).entry.isSome with
  | true =>
    rw [Bool.true_or, if_pos rfl, lpAt_same (modLp_ident _ _ s) hn]
    rfl
  | false =>
    obtain ⟨r, days, efc, h⟩ := batchWrite_ident n s
    rw [Bool.false_or, hread, if_neg Bool.false_ne_true, lpAt_same h hn]
    exact topSeq_putRecord r ht

/-- Where positions are gone through once, each SEQ advances whose position has no entry open and a record to read. -/
theorem batchPositions_topSeq {xs : List Nat} {n : Nat} {s : State} (hnd : xs.Nodup) (hx : n ∈ xs) (hn : n < 256)
    (hv : (validCopy (lpAt n s)).isSome = true) (ht : topSeq (lpAt n s) < 4294967295) :
    topSeq (lpAt n (forAll xs batchPos s)) = topSeq (lpAt n s) + (if (lpAt n s).entry.isSome then 0 else 1) := by
  have hother (k : Nat) (t : State) (hk : k ≠ n) : lpAt n (batchPos k t) = lpAt n t := by
    obtain ⟨f, h⟩ := batchPos_ident k t
    exact lpAt_other h hk.symm
  refine forAll_once (P := fun t => lpAt n t = lpAt n s)
    (Q := fun t => topSeq (lpAt n t) = topSeq (lpAt n s) + (if (lpAt n s).entry.isSome then 0 else 1))
    hnd hx (fun k t hk h => (hother k t hk).trans h) (fun k t hk h => ?_) (fun t h => ?_) rfl
  · rw [hother k t hk]
    exact h
  · rw [← h] at hv ht ⊢
    exact batchPos_topSeq hn hv ht

theorem batchPositions_pendBatch (xs : List Nat) (s : State) : (forAll xs batchPos s).ident.pendBatch = s.ident.pendBatch := by
  refine forAll_eq (·.ident.pendBatch) xs batchPos (fun n t => ?_) s
  obtain ⟨f, h⟩ := batchPos_ident n t
  exact congrArg (·.pendBatch) h

/-- The batch goes through the 256 positions once; then only the least remaining life is taken anew. -/
theorem recordBatch_ident (s : State) : ∃ xs x, xs.Nodup ∧ (∀ n < 256, n ∈ xs) ∧
    (recordBatch s).ident = { (forAll xs batchPos { s with ident := { s.ident with pendBatch := false } }).ident with lifeMin := x } := by
  have hnd : (List.range 256).Nodup := List.nodup_range
  have hmem (n : Nat) (h : n < 256) : n ∈ List.range 256 := List.mem_range.2 h
  unfold recordBatch
  generalize List.range 256 = xs at hnd hmem
  exact ⟨xs, _, hnd, hmem, rfl⟩

theorem recordBatch_writes (s : State) : (recordBatch s).ident.pendBatch = false ∧
    ∀ n : Fin 256, (validCopy (lpAt n.val s)).isSome = true → topSeq (lpAt n.val s) < 4294967295 →
      topSeq (lpAt n.val (recordBatch s)) = topSeq (lpAt n.val s) + (if (lpAt n.val s).entry.isSome then 0 else 1) := by
  obtain ⟨xs, x, hnd, hmem, h⟩ := recordBatch_ident s
  refine ⟨(congrArg (·.pendBatch) h).trans (batchPositions_pendBatch xs _), fun n hv ht => ?_⟩
  rw [lpAt, h]
  exact batchPositions_topSeq (s := { s with ident := { s.ident with pendBatch := false } }) hnd (hmem n n.isLt) n.isLt hv ht

theorem exec_recordBatchHourly (s : State) : exec .recordBatchHourly s = whenLiveK (fun s =>
    guardOn (due s.ident.hourAt 3600000000000 s)
      (fun s => startBatch { s with ident := { s.ident with hourAt := some s.now } }) s) s := rfl

section
variable {s : State} (hl : live s = true)
include hl

section
variable (hload : s.ident.loaded = true) (ha : acts s = true) (hd : due s.ident.hourAt 3600000000000 s = true)
include hload ha hd

theorem ends_recordBatchHourly (hg : gaugeOk 2560 s = true) :
    Ends .recordBatchHourly s [.ident, .est, .flt, .pair] fun u =>
      u.ident.pendBatch = false ∧ u.ident.hourAt = some s.now ∧
      ∀ n : Fin 256, (validCopy (lpAt n.val s)).isSome = true → topSeq (lpAt n.val s) < 4294967295 →
        topSeq (lpAt n.val u) = topSeq (lpAt n.val s) + (if (lpAt n.val s).entry.isSome then 0 else 1) := by
  let v : State := { s.begin with ident := { s.ident with hourAt := some s.now } }
  have heff : startBatch v = recordBatch v := (guardOn_true (by rw [Bool.and_eq_true]; exact ⟨hload, ha⟩) _ v).trans (if_pos hg)
  have hwork := recordWork_recordBatch v
  obtain ⟨hpend, htop⟩ := recordBatch_writes v
  generalize recordBatch v = u at heff hwork hpend htop
  exact ends_of_effect (exec_recordBatchHourly s) hl ((guardOn_true hd _ s.begin).trans heff)
    (only_trans (only_mono (only_ident _ s.begin) (by simp)) (only_mono hwork.frame (by simp)))
    ⟨hpend, hwork.hourAt, htop⟩

theorem ends_recordBatchHourly_waits (hg : gaugeOk 2560 s = false) : Ends .recordBatchHourly s [.ident] fun u =>
    u.ident = { s.ident with
      pendBatch := true, pendSince := (if s.ident.pendBatch then s.ident.pendSince else s.now), hourAt := some s.now } := by
  let v : State := { s.begin with ident := { s.ident with hourAt := some s.now } }
  have hshort : ¬ gaugeOk 2560 v = true := by rw [show gaugeOk 2560 v = false from hg]; exact Bool.false_ne_true
  have heff : startBatch v = { v with ident := { v.ident with
      pendBatch := true, pendSince := if v.ident.pendBatch then v.ident.pendSince else v.now } } :=
    (guardOn_true (by rw [Bool.and_eq_true]; exact ⟨hload, ha⟩) _ v).trans (if_neg hshort)
  exact ends_of_effect (exec_recordBatchHourly s) hl ((guardOn_true hd _ s.begin).trans heff)
    (only_ident _ s.begin) rfl

end

theorem sends_recordBatchHourly (hd : due s.ident.hourAt 3600000000000 s = false) : Sends .recordBatchHourly s [] :=
  sends_whenLiveK (exec_recordBatchHourly s) hl (guardOn_false hd _ s.begin)

end

/-- Settles O18: one lemma for each command's outcome. Every write of a record rests on `validCopy_putRecord`, the hourly batch also on
`forAll_once`. -/
theorem capacityLearningCompletes : Obligations.CapacityLearningCompletes := by
  unfold Obligations.CapacityLearningCompletes
  refine ⟨fun n s e hl ha he hgen => ?_, fun n s t hl hw => ⟨ends_learnDeferred hl hw, sends_learnDeferred hl hw⟩, fun s hl => ?_⟩
  · intro p done
    exact ⟨fun r hc hopen hnext hr => ends_capLearnCompute hl ha he hgen hc hopen hnext hr,
      fun r x y hnext hg hxy ht => ends_capRecordWrite hl ha he hgen hnext hg hxy ht,
      fun r x y hnext hg => ends_capRecordWrite_waits hl ha he hgen hnext hg,
      fun hload hres hc hopen hnext hearlier ht => ends_openLearnCompletion hl ha he hload hres hc hopen hnext hearlier ht⟩
  · exact ⟨fun n b hg => ⟨ends_learnedCopyRewrite_repairs hl hg, ends_learnedCopyRewrite_rebuilds hl hg⟩,
      fun hload ha hd => ⟨ends_recordBatchHourly hl hload ha hd, ends_recordBatchHourly_waits hl hload ha hd⟩,
      sends_recordBatchHourly hl⟩

end Sys2Proof.Proofs
end

section
/-! PROOFS. Direction and phases: the end of a dwell, shedding, redistribution and imbalance. -/
namespace Sys2Proof.Proofs
open Sys2Proof Sys2Proof.Machine Sys2Proof.Laws

/-! ### Codes -/

/-- Raising a code leaves every other one as it is. -/
theorem isActive_raiseF_ne {c k c' k' : Nat} (h : c ≠ c' ∨ k ≠ k') (s : State) : isActive c k (raiseF c' k' s) = isActive c k s := by
  cases hs : isActive c k s with
  | true => exact isActive_raiseF_of_active _ _ hs
  | false => exact isActive_raiseF_other h hs

/-! ### Compensator units -/

theorem cuAt_modCu_same {k : Nat} (f : Cu → Cu) (s : State) (h : k < 8) : cuAt k (modCu k f s) = f (cuAt k s) :=
  getAt_modAt_same _ f h

theorem cuAt_modCu_other {k n : Nat} (f : Cu → Cu) (s : State) (h : k ≠ n) : cuAt k (modCu n f s) = cuAt k s :=
  getAt_setAt_other _ _ h

@[simp] theorem loopOf_modCu (d : Dir) (n : Nat) (f : Cu → Cu) (s : State) : loopOf d (modCu n f s) = loopOf d s := by cases d <;> rfl

@[simp] theorem loopOf_setCuState (d : Dir) (n : Nat) (c : CuState) (s : State) : loopOf d (setCuState n c s) = loopOf d s :=
  loopOf_modCu d n _ s

@[simp] theorem loopOf_setRunUnits (d : Dir) (m : Mode) (e : Dir) (v : Bool) (s : State) :
    loopOf d (setRunUnits m e v s) = loopOf d s := by simp [setRunUnits]

/-! ### The end of a dwell (R175) -/

theorem only_spRecd (x : SpRegs) (y : RecRegs) (s : State) : Only [.sp, .recd] s { s with sp := x, recd := y } :=
  only_trans (only_mono (only_sp x s) (by simp)) (only_mono (only_recd y { s with sp := x }) (by simp))

theorem only_flipDirection (s : State) : Only [.sp, .link, .recd] s (flipDirection s) :=
  only_trans (only_mono (only_spRecd _ _ s) (by simp)) (only_mono (only_trans (only_setRunUnits _ _ _ _) (only_modCu _ _ _)) (by simp))

/-- A direction change: the new loop starts from the duty of the last period that switched. -/
theorem flipDirection_flips {s : State} (h : loopOf (opposite s.sp.dir) s < 8) :
    (flipDirection s).sp.dir = opposite s.sp.dir ∧ (flipDirection s).sp.flipDue = false ∧
    (flipDirection s).recd.dirs = s.recd.dirs + 1 ∧ (cuAt (loopOf (opposite s.sp.dir) s) (flipDirection s)).out = s.sp.dz := by
  refine ⟨rfl, rfl, rfl, ?_⟩
  unfold flipDirection
  dsimp only
  rw [loopOf_setRunUnits]
  exact congrArg (·.out) (cuAt_modCu_same _ _ h)

theorem dwellEnd_flips {s : State} (hf : s.sp.flipDue = true) (hm : s.sp.mode.running = true) : dwellEnd s = flipDirection s :=
  if_pos (by rw [hf, hm]; rfl)

/-- No direction change is due, or the stage does not switch. -/
theorem dwellEnd_none {s : State} (h : s.sp.flipDue = false ∨ s.sp.mode.running = false) : dwellEnd s = s :=
  if_neg (by rcases h with h | h <;> simp [h])

theorem only_dwellEnd (s : State) : Only [.sp, .link, .recd] s (dwellEnd s) := only_ite (only_flipDirection s) (only_refl _ s)

section
variable {s : State} (hl : live s = true)
include hl

theorem ends_dwellEnd (hf : s.sp.flipDue = true) (hm : s.sp.mode.running = true) (hk : loopOf (opposite s.sp.dir) s < 8) :
    Ends .dwellEnd s [.sp, .link, .recd] fun u =>
      u.sp.dir = opposite s.sp.dir ∧ u.sp.flipDue = false ∧ u.recd.dirs = s.recd.dirs + 1 ∧
      (cuAt (loopOf (opposite s.sp.dir) s) u).out = s.sp.dz :=
  ends_of_effect (f := dwellEnd) rfl hl (dwellEnd_flips (s := s.begin) hf hm) (only_flipDirection _)
    (flipDirection_flips (s := s.begin) hk)

theorem sends_dwellEnd (hf : s.sp.flipDue = false) : Sends .dwellEnd s [] :=
  sends_whenLiveK (f := dwellEnd) rfl hl (dwellEnd_none (s := s.begin) (.inl hf))

/-! ### Shedding by load (R183, R187) -/

section
variable {j t : Nat} (ht : s.sp.lowSince = some t)
include ht

theorem ends_phaseShed (ho : shedOpen s = true) (hlow : loadLow s = true)
    (hj : (List.range 12).reverse.find? (bitOf s.sp.en) = some j) (hd : t + cfgN Ent.SP_SHED_DELAY s * 1000000 ≤ s.now) :
    Ends .phaseShed s [.sp] fun u => u.sp = { s.sp with wantShed := some j, changed := true, lowSince := none } := by
  have ho' : shedOpen s.begin = true := ho
  have hlow' : loadLow s.begin = true := hlow
  refine ends_of_effect (f := phaseShed) rfl hl ?_ (only_sp _ s.begin) rfl
  simp only [phaseShed, begin_sp, ht]
  rw [guardOn_true (by rw [ho', hlow', Bool.and_true, Bool.and_true]; exact decide_eq_true hd)]
  simp only [begin_sp, hj]

theorem sends_phaseShed (hd : s.now < t + cfgN Ent.SP_SHED_DELAY s * 1000000) : Sends .phaseShed s [] := by
  have hnot : decide (t + cfgN Ent.SP_SHED_DELAY s.begin * 1000000 ≤ s.begin.now) = false := decide_eq_false (Nat.not_le.2 hd)
  refine sends_whenLiveK (f := phaseShed) rfl hl ?_
  simp only [phaseShed, begin_sp, ht]
  exact guardOn_false (by rw [hnot, Bool.false_and, Bool.false_and]) _ _

end

section
variable {t : Nat} (ht : s.sp.holdEnd = some t)
include ht

theorem ends_shedHoldEnd (hd : t ≤ s.now) :
    Ends .shedHoldEnd s [.sp] fun u => u.sp = { s.sp with shedHold := false, holdEnd := none } := by
  refine ends_of_effect (f := shedHoldEnd) rfl hl ?_ (only_sp _ s.begin) rfl
  simp only [shedHoldEnd, begin_sp, ht]
  exact if_pos hd

theorem sends_shedHoldEnd (hd : s.now < t) : Sends .shedHoldEnd s [] := by
  refine sends_whenLiveK (f := shedHoldEnd) rfl hl ?_
  simp only [shedHoldEnd, begin_sp, ht]
  exact if_neg (Nat.not_le.2 hd)

end

/-! ### Redistribution (R185) -/

theorem ends_redistributionEnd (h : s.sp.redist = 0) :
    Ends .redistributionEnd s [.sp] fun u => u.sp = { s.sp with moving := false } :=
  ends_of_effect (f := redistEnd) rfl hl (if_pos h) (only_sp _ s.begin) rfl

theorem sends_redistributionEnd (h : s.sp.redist ≠ 0) : Sends .redistributionEnd s [] :=
  sends_whenLiveK (f := redistEnd) rfl hl (if_neg h)

end

theorem divT_mul_self (x : Int) {n : Int} (h : n ≠ 0) : divT (x * n) n = x := by
  rw [divT, if_neg h, Int.mul_tdiv_cancel x h]

/-- The last of the 16 steps makes up the whole way. -/
theorem redistStep_last {s : State} (h : s.sp.redist = 1) :
    (redistStep s).sp.redist = 0 ∧ ∀ j, j < 12 → (redistStep s).sp.ang.getD j 0 = s.sp.toAng.getD j 0 := by
  have hn : ¬ s.sp.redist = 0 := by omega
  unfold redistStep
  dsimp only
  rw [if_neg hn, h]
  refine ⟨rfl, fun j hj => ?_⟩
  rw [List.getD_eq_getElem _ _ (by simpa using hj), List.getElem_map, List.getElem_range]
  rw [show ((17 - 1 : Nat) : Int) = 16 from rfl, divT_mul_self _ (by decide)]
  omega

/-! ### Imbalance (R160) -/

/-- A phase joins the set of faulted phases. -/
theorem bitOf_joined (n j : Nat) : bitOf (if bitOf n j then n else n + 2 ^ j) j = true := by
  split
  · assumption
  · next h =>
    rw [bitOf_eq_testBit] at h ⊢
    rw [Nat.add_comm, Nat.testBit_two_pow_add_eq]
    simpa using h

section
variable {s : State} {j : Fin 12} (hl : live s = true) (hm : s.sp.mode.running = true) (hb : bitOf s.sp.en j.val = true)

include hl in
theorem sends_phaseImbalance (shed : Bool) (h : imbalanceDue j.val shed s = false) : Sends (.phaseImbalance j shed) s [] :=
  sends_whenLiveK (f := phaseImbalance j.val shed) rfl hl
    (guardOn_false (by rw [show imbalanceDue j.val shed s.begin = false from h, Bool.and_false]) _ s.begin)

include hm hb in
theorem phaseImbalance_due {shed : Bool} (h : imbalanceDue j.val shed s = true) : phaseImbalance j.val shed s.begin =
    if !shed then raiseF 0x4010 wide s.begin
    else if s.sp.changed then s.begin
    else raiseF 0x4011 j.val { s.begin with
      link := { s.link with faulted := if bitOf s.link.faulted j.val then s.link.faulted else s.link.faulted + 2 ^ j.val }
      sp := { s.sp with wantShed := some j.val, wantAdd := none, changed := true } } :=
  guardOn_true (by rw [begin_sp, hm, hb, show imbalanceDue j.val shed s.begin = true from h]; rfl) _ _

include hl hm hb

theorem ends_phaseImbalance_warns (h : imbalanceDue j.val false s = true) :
    Ends (.phaseImbalance j false) s [.flt] fun u => isActive 0x4010 wide u = true :=
  ends_of_effect (f := phaseImbalance j.val false) rfl hl (phaseImbalance_due hm hb h) (only_raiseF _ _ _) (isActive_raiseF _ _ s.begin)

theorem ends_phaseImbalance_sheds (h : imbalanceDue j.val true s = true) (hc : s.sp.changed = false) :
    Ends (.phaseImbalance j true) s [.sp, .link, .flt] fun u =>
      isActive 0x4011 j.val u = true ∧ u.sp.wantShed = some j.val ∧ u.sp.changed = true ∧ bitOf u.link.faulted j.val = true := by
  let v : State := { s.begin with
    link := { s.link with faulted := if bitOf s.link.faulted j.val then s.link.faulted else s.link.faulted + 2 ^ j.val }
    sp := { s.sp with wantShed := some j.val, wantAdd := none, changed := true } }
  have hv : Only [.sp, .link] s.begin v := only_trans (only_mono (only_sp v.sp s.begin) (by simp)) (only_mono (only_link _ _) (by simp))
  have hr : Only [.flt] v (raiseF 0x4011 j.val v) := only_raiseF _ _ v
  have heff : phaseImbalance j.val true s.begin = raiseF 0x4011 j.val v :=
    (phaseImbalance_due hm hb h).trans ((if_neg (by decide)).trans (if_neg (by simp [hc])))
  refine ends_of_effect (f := phaseImbalance j.val true) rfl hl heff (only_trans (only_mono hv (by simp)) (only_mono hr (by simp))) ?_
  have hsp : (raiseF 0x4011 j.val v).sp = v.sp := hr .sp (by decide)
  have hlink : (raiseF 0x4011 j.val v).link = v.link := hr .link (by decide)
  exact ⟨isActive_raiseF _ _ v, congrArg (·.wantShed) hsp, congrArg (·.changed) hsp,
    (congrArg (fun l : LinkRegs => bitOf l.faulted j.val) hlink).trans (bitOf_joined _ _)⟩

theorem sends_phaseImbalance_changed (h : imbalanceDue j.val true s = true) (hc : s.sp.changed = true) :
    Sends (.phaseImbalance j true) s [] :=
  sends_whenLiveK (f := phaseImbalance j.val true) rfl hl ((phaseImbalance_due hm hb h).trans ((if_neg (by decide)).trans (if_pos hc)))

end

/-- Settles O27: one lemma for each command's outcome; `redistStep_last` for the redistribution. -/
theorem directionAndPhases : Obligations.DirectionAndPhases := by
  unfold Obligations.DirectionAndPhases
  intro s hl
  refine ⟨ends_dwellEnd hl, sends_dwellEnd hl, fun j t ho hlow hj ht => ?_, fun t ht => ?_, ends_redistributionEnd hl,
    sends_redistributionEnd hl, redistStep_last, fun j shed hm hb => ⟨fun h => ⟨?_, ?_, ?_⟩, sends_phaseImbalance hl shed⟩⟩
  · exact ⟨ends_phaseShed hl ht ho hlow hj, sends_phaseShed hl ht⟩
  · exact ⟨ends_shedHoldEnd hl ht, sends_shedHoldEnd hl ht⟩
  · rintro rfl
    exact ends_phaseImbalance_warns hl hm hb h
  · rintro rfl
    exact ends_phaseImbalance_sheds hl hm hb h
  · rintro rfl
    exact sends_phaseImbalance_changed hl hm hb h

end Sys2Proof.Proofs
end

section
/-! PROOFS. A PWM boundary: the work of the modes leaves the timebase, and the period that a valley begins follows its source. -/
namespace Sys2Proof.Proofs
open Sys2Proof Sys2Proof.Machine Sys2Proof.Laws

/-! ### Frames of the modes' work at a boundary -/

theorem only_linkSp (x : LinkRegs) (y : SpRegs) (s : State) : Only [.link, .sp] s { s with link := x, sp := y } :=
  only_trans (only_mono (only_link x s) (by simp)) (only_mono (only_sp y { s with link := x }) (by simp))

theorem only_spDspLink (x : SpRegs) (y : DspRegs) (z : LinkRegs) (s : State) :
    Only [.sp, .dsp, .link] s { s with sp := x, dsp := y, link := z } :=
  only_trans (only_mono (only_sp x s) (by simp))
    (only_trans (only_mono (only_dsp y { s with sp := x }) (by simp)) (only_mono (only_link z { s with sp := x, dsp := y }) (by simp)))

theorem only_setCuState (n : Nat) (c : CuState) (s : State) : Only [.link] s (setCuState n c s) := only_modCu n _ s

theorem only_endRun (m : Mode) (s : State) : Only [.link, .sp] s (endRun m s) :=
  only_trans (only_mono (only_unitsOff s) (by simp)) (only_linkSp _ _ (unitsOff s))

theorem only_loadLine (s : State) : Only [.sp] s (loadLine s) := only_sp _ s

theorem only_rampDown (b : Bool) (s : State) : Only [.link, .sp] s (rampDown b s) := by
  refine only_trans (only_mono (only_sp { s.sp with req := .none } s) (by simp)) (only_guardOn _ _ ?_)
  refine only_ite (only_mono (only_sp _ _) (by simp)) (only_ite (only_endRun _ _) ?_)
  exact only_ite (only_trans (only_mono (only_sp _ _) (by simp)) (only_mono (only_setCuState _ _ _) (by simp)))
    (only_mono (only_sp _ _) (by simp))

/-- The direction in which a mode starts (R166, R174). -/
def startDir (m : Mode) (s : State) : Dir := if m != .busVoltage && targetOf m s < 0 then .chg else .dis

/-- A mode's start before its units run: the mode with its reference, every healthy phase at its angle. -/
def startRegs (m : Mode) (s : State) : State :=
  let r := if m == .busVoltage then s.link.sample.vBus * 65536 else 0
  let v := enableAt (healthyPhases s) s
  let tgt := targetOf m v * 65536
  { v with
    sp := { v.sp with mode := m, dir := startDir m s, r := r, tgt := tgt, rateLimited := r != tgt, sopClamped := false, req := .none
                      dwell := 0, modeOff := false, toStandby := false, rampOpen := false, offNext := false, failed := false
                      flipDue := false, iRef := 0, hist := [0, 0, 0, 0], quiet := 0 }
    dsp := { v.dsp with silentFrom := some v.now }
    link := { v.link with engine := .running } }

/-- The same with its loop run from the start duty. -/
def startUnits (m : Mode) (s : State) : State :=
  let v := setRunUnits m (startDir m s) true (startRegs m s)
  modCu (loopOf (startDir m s) v) (fun u => cuPreload u (startDuty v)) v

theorem startMode_eq {m : Mode} {s : State} (h : healthyPhases s ≠ 0) : startMode m s =
    if m == .busVoltage then loadLine (modCu (startUnits m s).link.vloop (fun u => cuPreload u 0) (startUnits m s))
    else startUnits m s := if_neg h

theorem startMode_refused {m : Mode} {s : State} (h : healthyPhases s = 0) :
    startMode m s = raiseF 0x4012 wide { s with sp := { s.sp with req := .none } } := if_pos h

theorem only_startUnits (m : Mode) (s : State) : Only [.sp, .dsp, .link] s (startUnits m s) := by
  refine only_trans (t := startRegs m s) ?_ (only_mono (only_trans (only_setRunUnits _ _ _ _) (only_modCu _ _ _)) (by simp))
  exact only_trans (only_mono (only_sp _ s) (by simp)) (only_spDspLink _ _ _ (enableAt (healthyPhases s) s))

theorem only_startMode_healthy {m : Mode} {s : State} (h : healthyPhases s ≠ 0) : Only [.sp, .dsp, .link] s (startMode m s) := by
  rw [startMode_eq h]
  refine only_ite (only_trans (only_startUnits m s) ?_) (only_startUnits m s)
  exact only_trans (only_mono (only_modCu _ _ _) (by simp)) (only_mono (only_loadLine _) (by simp))

theorem only_startMode_refused {m : Mode} {s : State} (h : healthyPhases s = 0) : Only [.sp, .flt] s (startMode m s) := by
  rw [startMode_refused h]
  exact only_trans (only_mono (only_sp _ s) (by simp)) (only_mono (only_raiseF _ _ _) (by simp))

/-- What the work of a mode at a boundary may change. -/
abbrev modeParts : List Part := [.link, .sp, .dsp, .flt]

theorem only_startMode (m : Mode) (s : State) : Only modeParts s (startMode m s) := by
  by_cases h : healthyPhases s = 0
  · exact only_mono (only_startMode_refused h) (by simp)
  · exact only_mono (only_startMode_healthy h) (by simp)

theorem only_handover (m : Mode) (s : State) : Only modeParts s (handover m s) := by
  unfold handover
  extract_lets v p r vRef tgt dsp w
  have hv : Only modeParts s v := only_ite (only_mono (only_loadLine s) (by simp)) (only_refl _ s)
  have hw : Only modeParts v w := only_mono (only_spDspLink w.sp w.dsp v.link v) (by simp)
  exact only_trans hv (only_trans hw (only_mono (only_setRunUnits _ _ _ _) (by simp)))

theorem only_modeAction (s : State) : Only modeParts s (modeAction s).1 := by
  unfold modeAction
  split
  · exact only_refl _ s
  · exact only_mono (only_rampDown _ s) (by simp)
  · exact only_mono (only_rampDown _ s) (by simp)
  · split
    · exact only_refl _ s
    · split
      · exact only_startMode _ s
      · split
        · exact only_handover _ s
        · exact only_mono (only_sp _ s) (by simp)

theorem only_dwellStep (s : State) : Only [.link, .sp] s (dwellStep s) := by
  unfold dwellStep
  extract_lets first dz left sp v
  have hv : Only [.sp] s v := only_sp v.sp s
  exact only_trans (only_mono hv (by simp)) (only_mono (only_trans (only_setCuState _ _ v) (only_trans (only_setCuState _ _ _)
    (only_setCuState _ _ _))) (by simp))

theorem only_rampDownStep (s : State) : Only [.sp] s (rampDownStep s) := only_ite (only_sp _ s) (only_sp _ s)

theorem only_rampStep (s : State) : Only [.sp] s (rampStep s) := only_sp _ s

theorem only_startHold (s : State) : Only [.sp] s (startHold s) := only_ite (only_sp _ s) (only_refl _ s)

theorem only_redistStep (s : State) : Only [.sp] s (redistStep s) :=
  only_ite (only_ite (only_sp _ s) (only_refl _ s)) (only_sp _ s)

theorem only_noPhase (s : State) : Only [.link, .sp, .flt] s (noPhase s) :=
  only_trans (only_mono (only_raiseF _ _ s) (by simp)) (only_mono (only_toStandbyNow _) (by simp))

theorem only_phaseStep (s : State) : Only [.link, .sp, .flt] s (phaseStep s) := by
  unfold phaseStep
  split
  · refine only_ite ?_ (only_mono (only_sp _ s) (by simp))
    exact only_trans (only_mono (only_sp _ s) (by simp)) (only_noPhase _)
  · exact only_mono (only_sp _ s) (by simp)
  · exact only_mono (only_redistStep s) (by simp)

/-- The ramp, dwell or ramp-down step of a boundary at which no mode action is made. -/
theorem only_modeStep (s : State) :
    Only [.link, .sp] s (if s.sp.dwell > 0 then dwellStep s else if s.sp.toStandby then rampDownStep s else rampStep s) :=
  only_ite (only_dwellStep s) (only_ite (only_mono (only_rampDownStep s) (by simp)) (only_mono (only_rampStep s) (by simp)))

theorem only_runBoundary (s : State) : Only modeParts s (runBoundary s) := by
  have hact := only_modeAction s
  unfold runBoundary
  generalize modeAction s = a at hact ⊢
  obtain ⟨v, changed⟩ := a
  refine only_trans hact (only_ite (only_refl _ v) ?_)
  extract_lets w x
  have hw : Only modeParts v w := only_ite (only_refl _ v) (only_mono (only_modeStep v) (by simp))
  have hx : Only modeParts w x := only_ite (only_mono (only_loadLine w) (by simp)) (only_refl _ w)
  exact only_trans hw (only_trans hx (only_trans (only_mono (only_phaseStep x) (by simp)) (only_mono (only_startHold _) (by simp))))

theorem only_finishRampDown (s : State) : Only [.link, .sp] s (finishRampDown s) :=
  only_ite (only_stopTo _ s) (only_ite (only_endRun _ s) (only_refl _ s))

theorem only_trackBoundary (s : State) : Only [.sp] s (trackBoundary s) := only_ite (only_loadLine s) (only_refl _ s)

/-! ### The valley (R142, R155) -/

theorem only_tb (x : TbRegs) (s : State) : Only [.tb] s { s with tb := x } := fun p hp => by
  cases p with
  | tb => exact absurd (by simp) hp
  | _ => rfl

theorem only_turnOver (t : Nat) (s : State) : Only [.tb] s (turnOver t s) := only_ite (only_tb _ s) (only_tb _ s)

/-- The timebase's step changes neither the valley nor their count. -/
theorem timebaseStep_eq (switching : Bool) (s : State) : ∃ x : TbRegs, timebaseStep switching s = { s with tb := x } ∧
    x.valley = s.tb.valley ∧ x.boundaries = s.tb.boundaries := by
  unfold timebaseStep
  dsimp only
  split
  · exact ⟨_, rfl, rfl, rfl⟩
  · split
    · exact ⟨_, rfl, rfl, rfl⟩
    · split <;> exact ⟨_, rfl, rfl, rfl⟩

/-- The state in which a valley has come, before the timebase's step. -/
def turned (t : Nat) (s : State) : State := turnOver t (dwellEnd (atTime t s))

theorem only_turned (t : Nat) (s : State) : Only [.now, .sp, .link, .recd, .tb] s (turned t s) :=
  only_trans (only_mono (only_atTime t s) (by simp)) (only_trans (only_mono (only_dwellEnd _) (by simp)) (only_mono (only_turnOver t _) (by simp)))

theorem turned_period (t : Nat) (s : State) : (turned t s).tb.period = s.tb.period := by
  have h : (dwellEnd (atTime t s)).tb = s.tb := only_dwellEnd (atTime t s) .tb (by decide)
  unfold turned turnOver
  split <;> exact congrArg (·.period) h

/-- The valley with its pulses. -/
def pulsed (t : Nat) (s : State) : State :=
  let v := emit .stgSync (timebaseStep s.link.last.run (turned t s))
  if cfgB Ent.CVT_SYNC_OUT_EN v then emit .syncOut v else v

theorem only_pulsed (t : Nat) (s : State) : Only [] (timebaseStep s.link.last.run (turned t s)) (pulsed t s) :=
  only_trans (only_emit _ _) (only_ite (only_emit _ _) (only_refl _ _))

/-! ### What a boundary latches (R137, R142, R154) -/

theorem svcAge_eq (s : State) : ∃ svc st f, svcAge s = { s with link := { s.link with svc := svc, stage := st }, flt := f } := by
  unfold svcAge
  dsimp only
  split
  · obtain ⟨f, h⟩ := raiseF_eq 0x4007 wide { s with link := { s.link with
      svc := (s.link.svc.map fun r => { r with age := r.age + 1 }).filter fun r => r.age ≤ 4, stage := { s.link.stage with known := false } } }
    exact ⟨_, _, f, h⟩
  · exact ⟨_, _, _, rfl⟩

/-- An effect that changes the units alone, once for each of a list. -/
theorem forAll_cu {α : Type} (xs : List α) {f : α → State → State} (h : ∀ x s, ∃ cu, f x s = { s with link := { s.link with cu := cu } })
    (s : State) : ∃ cu, forAll xs f s = { s with link := { s.link with cu := cu } } := by
  unfold forAll
  induction xs generalizing s with
  | nil => exact ⟨_, rfl⟩
  | cons x xs ih =>
    obtain ⟨c, hx⟩ := h x s
    obtain ⟨d, hxs⟩ := ih (f x s)
    rw [List.foldl_cons, hxs, hx]
    exact ⟨d, rfl⟩

theorem latchUnits_eq (s : State) : ∃ cu, latchUnits s = { s with link := { s.link with
    vloop := cfgN Ent.CVT_CU_MAP s % 16, dis := cfgN Ent.CVT_CU_MAP s / 16 % 16, chg := cfgN Ent.CVT_CU_MAP s / 256 % 16, cu := cu } } := by
  obtain ⟨cu, h⟩ := forAll_cu (List.range 8) (f := fun u s =>
      let s := latchCu u s
      let role := mapped u s
      let next (c : CuState) : CuState :=
        if c == .fenced then .fenced else if !role then .spare else if c == .spare then .off else c
      modCu u (fun c => { c with state := next c.state }) s) (fun u s => ⟨_, rfl⟩)
    { s with link := { s.link with
      vloop := cfgN Ent.CVT_CU_MAP s % 16, dis := cfgN Ent.CVT_CU_MAP s / 16 % 16, chg := cfgN Ent.CVT_CU_MAP s / 256 % 16 } }
  exact ⟨cu, h⟩

theorem only_moveSelect (s : State) : Only [.link, .flt] s (moveSelect s) := by
  unfold moveSelect
  split
  · exact only_refl _ s
  · extract_lets o link v
    have hv : Only [.link] s v := only_link v.link s
    exact only_trans (only_mono hv (by simp)) (only_trans (only_mono (only_assertSelect _ v) (by simp)) (only_mono (only_raiseF _ _ _) (by simp)))

theorem only_newPeriod (s : State) : Only [.link, .pair] s (newPeriod s) := fun p hp => by
  cases p with
  | link | pair => exact absurd (by simp) hp
  | _ => rfl

/-- The state in which a boundary has latched its parameters and units. -/
def latchedAt (t : Nat) (s : State) : State := latchUnits (latchParams (svcAge (newPeriod (pulsed t s))))

theorem only_latchedAt (t : Nat) (s : State) : Only [.link, .pair, .sp, .flt] (pulsed t s) (latchedAt t s) := by
  have hnew := only_newPeriod (pulsed t s)
  unfold latchedAt
  generalize newPeriod (pulsed t s) = v at hnew
  obtain ⟨svc, st, f, hage⟩ := svcAge_eq v
  have hold : Only [.link, .flt] v (svcAge v) := by
    rw [hage]
    exact fun p hp => by
      cases p with
      | link | flt => exact absurd (by simp) hp
      | _ => rfl
  generalize svcAge v = w at hold
  have hparams : Only [.link, .sp] w (latchParams w) := only_linkSp _ _ w
  generalize latchParams w = x at hparams
  obtain ⟨cu, hunits⟩ := latchUnits_eq x
  rw [hunits]
  exact only_trans (only_mono hnew (by simp)) (only_trans (only_mono hold (by simp)) (only_trans (only_mono hparams (by simp))
    (only_mono (only_link _ x) (by simp))))

theorem pwmBoundary_eq {t : Nat} {s : State} (hc : cRuns s = true) (hv : valleyDue t s = true) : pwmBoundary t s =
    if tracks (moveSelect (latchedAt t s)) then trackBoundary (moveSelect (latchedAt t s))
    else runBoundary (finishRampDown (moveSelect (latchedAt t s))) :=
  guardOn_true (by rw [hc, hv]; rfl) _ s

/-- The timebase after a boundary is what its own step makes of it. -/
theorem pwmBoundary_tb {t : Nat} {s : State} (hc : cRuns s = true) (hv : valleyDue t s = true) :
    (pwmBoundary t s).tb = (timebaseStep s.link.last.run (turned t s)).tb := by
  have hpulse : (pulsed t s).tb = _ := only_pulsed t s .tb (by decide)
  have hlatch : (latchedAt t s).tb = _ := only_latchedAt t s .tb (by decide)
  have hmove : (moveSelect (latchedAt t s)).tb = _ := only_moveSelect _ .tb (by decide)
  have hwork : Only modeParts (moveSelect (latchedAt t s)) (pwmBoundary t s) := by
    rw [pwmBoundary_eq hc hv]
    exact only_ite (only_mono (only_trackBoundary _) (by simp))
      (only_trans (only_mono (only_finishRampDown _) (by simp)) (only_runBoundary _))
  exact (hwork .tb (by decide)).trans (hmove.trans (hlatch.trans hpulse))

/-! ### The period (R157, R158) -/

theorem cfg_of_store {s t : State} (h : t.store = s.store) (e : Entry) (k : Nat) : cfg e t k = cfg e s k := by
  simp only [cfg, cfgVal_of_store h]

theorem nominalPs_of_store {s t : State} (h : t.store = s.store) : nominalPs t = nominalPs s := by
  simp only [nominalPs, cfg_of_store h]

theorem slewPs_of_store {s t : State} (h : t.store = s.store) : slewPs t = slewPs s := by
  simp only [slewPs, nominalPs_of_store h]

theorem glide_congr {s t : State} (hs : t.store = s.store) (hp : t.tb.period = s.tb.period) (goal : Int) : glide goal t = glide goal s := by
  simp only [glide, slewPs_of_store hs, hp]

theorem glide_slews (goal : Int) (s : State) : (glide goal s - s.tb.period).natAbs ≤ (slewPs s).natAbs := by
  unfold glide
  dsimp only
  split <;> omega

theorem limitPeriod_slews (want : Int) {s : State} (h : 0 ≤ slewPs s) :
    (limitPeriod want s - s.tb.period).natAbs ≤ (slewPs s).natAbs := by
  simp only [limitPeriod, clampI]
  omega

/-- A period that lies one slew from the last at most is no less than 0, where the slew is no more than the last. -/
theorem toNat_slews {x u : Int} {p : Nat} :
    (x - p).natAbs ≤ u.natAbs → 0 ≤ u → u ≤ p → ((x.toNat : Int) - p).natAbs ≤ u.natAbs := by omega

theorem timebaseStep_free {switching : Bool} {s : State} (hf : followsStage s = false) (hsrc : tbSource s = 0) :
    (timebaseStep switching s).tb.state = .free ∧
    (timebaseStep switching s).tb.period = (if switching then glide (nominalPs s) s else nominalPs s).toNat := by
  unfold timebaseStep
  dsimp only
  rw [if_neg (by simp [hf]), if_pos hsrc]
  exact ⟨rfl, rfl⟩

/-- While the stage switches, a step of the timebase changes the period by one slew at most (R158). -/
theorem timebaseStep_slews {s : State} (hf : followsStage s = false) (hsrc : tbSource s ≠ 0) (h0 : 0 ≤ slewPs s)
    (hp : slewPs s ≤ s.tb.period) : (((timebaseStep true s).tb.period : Int) - s.tb.period).natAbs ≤ (slewPs s).natAbs := by
  have hglide : (((glide (nominalPs s) s).toNat : Int) - s.tb.period).natAbs ≤ (slewPs s).natAbs :=
    toNat_slews (glide_slews _ s) h0 hp
  have hpull : (((pulledPeriod true (phaseErrPs s) s).toNat : Int) - s.tb.period).natAbs ≤ (slewPs s).natAbs :=
    toNat_slews (limitPeriod_slews _ h0) h0 hp
  unfold timebaseStep
  dsimp only
  rw [if_neg (by simp [hf]), if_neg hsrc]
  cases tbStateAt s with
  | locking => exact hpull
  | locked => exact hpull
  | gliding => exact hglide
  | free => exact hglide
  | stage => exact hglide

section
variable {s : State} (hl : live s = true) (hf : followsStage s = false)
include hl hf

section
variable {t : Nat} (hc : cRuns s = true) (hv : valleyDue t s = true) (hrun : s.link.last.run = true)
include hc hv hrun

omit hf in
theorem pwmBoundary_next : ∃ u, exec (.pwmBoundary t) s = .next u ∧ u.tb = (timebaseStep true (turned t s.begin)).tb := by
  have htb := pwmBoundary_tb (t := t) (s := s.begin) hc hv
  rw [begin_link, hrun] at htb
  exact ⟨_, whenLiveK_next (f := pwmBoundary t) hl, htb⟩

theorem pwmBoundary_freeRuns (hsrc : tbSource s = 0) : ∃ u, exec (.pwmBoundary t) s = .next u ∧
    u.tb.state = .free ∧ u.tb.period = (glide (nominalPs s) s).toNat ∧
    (glide (nominalPs s) s - s.tb.period).natAbs ≤ (slewPs s).natAbs := by
  obtain ⟨u, hu, htb⟩ := pwmBoundary_next hl hc hv hrun
  have hstore : (turned t s.begin).store = s.store := only_turned t s.begin .store (by decide)
  have hpair : (turned t s.begin).pair = s.pair := only_turned t s.begin .pair (by decide)
  obtain ⟨hstate, hper⟩ := timebaseStep_free (switching := true) (s := turned t s.begin) (by simpa only [followsStage, hpair] using hf)
    ((cfgN_of_store hstore _ 0).trans hsrc)
  rw [if_pos rfl, nominalPs_of_store hstore, glide_congr hstore (turned_period t s.begin)] at hper
  exact ⟨u, hu, by rw [htb, hstate], by rw [htb, hper], glide_slews _ s⟩

theorem pwmBoundary_slews (hsrc : tbSource s ≠ 0) (h0 : 0 ≤ slewPs s) (hp : slewPs s ≤ s.tb.period) :
    ∃ u, exec (.pwmBoundary t) s = .next u ∧ ((u.tb.period : Int) - s.tb.period).natAbs ≤ (slewPs s).natAbs := by
  obtain ⟨u, hu, htb⟩ := pwmBoundary_next hl hc hv hrun
  have hstore : (turned t s.begin).store = s.store := only_turned t s.begin .store (by decide)
  have hpair : (turned t s.begin).pair = s.pair := only_turned t s.begin .pair (by decide)
  have hslew : slewPs (turned t s.begin) = slewPs s := slewPs_of_store hstore
  have hper : (turned t s.begin).tb.period = s.tb.period := turned_period t s.begin
  have h := timebaseStep_slews (s := turned t s.begin) (by simpa only [followsStage, hpair] using hf)
    (by rw [show tbSource (turned t s.begin) = tbSource s from cfgN_of_store hstore _ 0]; exact hsrc) (by rw [hslew]; exact h0)
    (by rw [hslew, hper]; exact hp)
  rw [hslew, hper, ← htb] at h
  exact ⟨u, hu, h⟩

end

/-! ### The source (R155, R157, R158) -/

omit hl hf in
theorem tbSourceLoss_kept {t : Nat} (h : sourceLost (atTime t s) = false) : tbSourceLoss t s = atTime t s := by
  unfold tbSourceLoss
  dsimp only
  exact guardOn_false (by rw [h, Bool.and_false]) _ _

theorem ends_syncInEdge (t : Nat) (hsrc : tbSource s = 1) : Ends (.syncInEdge t) s [.now, .tb] fun u =>
    u.now = max s.now t ∧ u.tb.lastEdge = some t ∧
    (s.tb.lastEdge = none → u.tb.filt = nominalPs s ∧ u.tb.edge = (t : Int) * 1000) ∧
    (∀ e, s.tb.lastEdge = some e →
      u.tb.filt = s.tb.filt + divT (((t : Int) - e) * 1000 - s.tb.filt) 16 ∧
      u.tb.edge = s.tb.edge + u.tb.filt + divT ((t : Int) * 1000 - (s.tb.edge + u.tb.filt)) 16) := by
  have hb : (decide (tbSource s.begin = 1) && !followsStage s.begin) = true := by
    rw [show tbSource s.begin = 1 from hsrc, show followsStage s.begin = false from hf]
    rfl
  have hnow := only_atTime t s.begin
  cases he : s.tb.lastEdge with
  | none =>
    refine ends_of_effect (f := fun s => if tbSource s = 1 && !followsStage s then syncInEdge t s else s) rfl hl (if_pos hb) ?_ ?_
    all_goals simp only [syncInEdge, atTime_tb, begin_tb, he]
    · exact only_trans (only_mono hnow (by simp)) (only_mono (only_tb _ _) (by simp))
    · exact ⟨rfl, rfl, fun _ => ⟨rfl, rfl⟩, fun _ h => nomatch h⟩
  | some e =>
    refine ends_of_effect (f := fun s => if tbSource s = 1 && !followsStage s then syncInEdge t s else s) rfl hl (if_pos hb) ?_ ?_
    all_goals simp only [syncInEdge, atTime_tb, begin_tb, he]
    · exact only_trans (only_mono hnow (by simp)) (only_mono (only_tb _ _) (by simp))
    · refine ⟨rfl, rfl, (nomatch ·), fun e' h => ?_⟩
      cases h
      exact ⟨rfl, rfl⟩

omit hf in
theorem ends_tbSourceLoss_kept {t : Nat} (h : sourceLost (atTime t s) = false) :
    Ends (.tbSourceLoss t) s [.now] fun u => u.now = max s.now t :=
  ends_of_effect (f := tbSourceLoss t) rfl hl (tbSourceLoss_kept (s := s.begin) h) (only_atTime t s.begin) rfl

end

/-- The codes of a lost source (R157). -/
def lossCodes (s : State) : State :=
  let v := raiseF 0x4009 wide s
  if tbSource v = 1 && edgeOutOfRange v then raiseF 0x400A wide v else v

theorem lossCodes_raise (s : State) : Only [.flt] s (lossCodes s) ∧ isActive 0x4009 wide (lossCodes s) = true ∧
    (tbSource s = 1 → edgeOutOfRange s = true → isActive 0x400A wide (lossCodes s) = true) := by
  have hv := only_raiseF 0x4009 wide s
  have hact := isActive_raiseF 0x4009 wide s
  have hcond : (tbSource (raiseF 0x4009 wide s) = 1 && edgeOutOfRange (raiseF 0x4009 wide s)) = (tbSource s = 1 && edgeOutOfRange s) := by
    obtain ⟨f, h⟩ := raiseF_eq 0x4009 wide s
    rw [h]
    rfl
  unfold lossCodes
  simp only [hcond]
  split
  · exact ⟨only_trans hv (only_raiseF _ _ _), isActive_raiseF_of_active _ _ hact, fun _ _ => isActive_raiseF _ _ _⟩
  · next h => exact ⟨hv, hact, fun h1 h2 => absurd (by rw [h1, h2]; rfl) h⟩

/-- What a lost source leaves: the timebase glides from the period it was last locked to. -/
theorem tbSourceLoss_lost {t : Nat} {s : State} (hf : followsStage s = false) (hsrc : tbSource s ≠ 0)
    (h : sourceLost (atTime t s) = true) : ∃ e x, tbSourceLoss t s =
      let v := lossCodes (atTime t s)
      { v with tb := { v.tb with
        state := if v.tb.state == .free then .free else .gliding
        period := if v.tb.state == .locked then (limitPeriod v.tb.lostRate v).toNat else v.tb.period
        lastEdge := e, filt := x, lockRun := 0 } } := by
  have hf' : followsStage (atTime t s) = false := hf
  have hsrc' : tbSource (atTime t s) ≠ 0 := hsrc
  unfold tbSourceLoss
  dsimp only
  rw [guardOn_true (by rw [h, hf', decide_eq_true hsrc']; rfl)]
  exact ⟨_, _, rfl⟩

theorem ends_tbSourceLoss {s : State} {t : Nat} (hl : live s = true) (hf : followsStage s = false) (hsrc : tbSource s ≠ 0)
    (h : sourceLost (atTime t s) = true) : Ends (.tbSourceLoss t) s [.now, .tb, .flt] fun u =>
      isActive 0x4009 wide u = true ∧ u.tb.state = (if s.tb.state = .free then .free else .gliding) ∧
      u.tb.period = (if s.tb.state = .locked then (limitPeriod s.tb.lostRate s).toNat else s.tb.period) ∧
      (tbSource s = 1 → edgeOutOfRange s = true → isActive 0x400A wide u = true) := by
  obtain ⟨e, x, heff⟩ := tbSourceLoss_lost (s := s.begin) hf hsrc h
  obtain ⟨honly, h9, hA⟩ := lossCodes_raise (atTime t s.begin)
  have htb : (lossCodes (atTime t s.begin)).tb = s.tb := honly .tb (by decide)
  have hstore : (lossCodes (atTime t s.begin)).store = s.store := honly .store (by decide)
  have hlim : limitPeriod s.tb.lostRate (lossCodes (atTime t s.begin)) = limitPeriod s.tb.lostRate s := by
    simp only [limitPeriod, htb, slewPs_of_store hstore, nominalPs_of_store hstore]
  refine ends_of_effect (f := tbSourceLoss t) rfl hl heff ?_ ⟨h9, ?_, ?_, hA⟩
  · exact only_trans (only_mono (only_atTime t s.begin) (by simp)) (only_trans (only_mono honly (by simp)) (only_mono (only_tb _ _) (by simp)))
  · simp only [keepQueue_tb, htb, beq_iff_eq]
  · simp only [keepQueue_tb, htb, beq_iff_eq, hlim]

theorem ends_tbLocked {s : State} (hl : live s = true) (hst : s.tb.state = .locking) (hr : 16 ≤ s.tb.lockRun) :
    Ends .tbLocked s [.tb, .flt] fun u => u.tb = { s.tb with state := .locked } ∧ isActive 0x4009 wide u = false := by
  have hg : (s.begin.tb.state == .locking && decide (s.begin.tb.lockRun ≥ 16)) = true := by
    rw [begin_tb, hst, decide_eq_true hr]
    rfl
  refine ends_of_effect (f := fun s => if s.tb.state == .locking && s.tb.lockRun ≥ 16 then
      clearF 0x4009 wide { s with tb := { s.tb with state := .locked } } else s) rfl hl (if_pos hg) ?_ ⟨?_, ?_⟩
  · exact only_trans (only_mono (only_tb _ s.begin) (by simp)) (only_mono (only_clearF _ _ _) (by simp))
  · exact only_clearF _ _ _ .tb (by decide)
  · exact isActive_clearF _ _ _

/-- Settles O24: at a boundary `pwmBoundary_tb` and the slew of each way the period is formed; for the source one lemma for each event. -/
theorem timebaseFollowsItsSource : Obligations.TimebaseFollowsItsSource := by
  unfold Obligations.TimebaseFollowsItsSource
  exact fun s hl hf => ⟨fun t => ends_syncInEdge hl hf t,
    fun t hsrc => ⟨ends_tbSourceLoss hl hf hsrc, ends_tbSourceLoss_kept hl⟩, ends_tbLocked hl,
    fun t hc hv hrun => ⟨pwmBoundary_freeRuns hl hf hc hv hrun, pwmBoundary_slews hl hf hc hv hrun⟩⟩

end Sys2Proof.Proofs
end

section
/-! PROOFS. A boundary of a module alone that does not switch: what it latches, and the start of a mode. -/
namespace Sys2Proof.Proofs
open Sys2Proof Sys2Proof.Machine Sys2Proof.Laws

/-! ### What the boundary latches (R142, R154, R155) -/

/-- A module at a boundary: its valley, its pulse, the new period, and the limits, parameters and roles that it latches. -/
def BoundaryMade (t : Nat) (s u : State) : Prop :=
  u.now = max s.now t ∧ (s.tb.boundaries ≠ 0 → u.tb.valley = s.tb.valley + valleySteps s.tb.phase s.tb.period) ∧
  u.tb.boundaries = s.tb.boundaries + 1 ∧ .stgSync ∈ u.out ∧
  u.link.usable = false ∧ u.link.computed = false ∧ u.link.judged = false ∧ u.link.sent = false ∧
  u.sp.disLim = s.sp.wDis ∧ u.sp.chgLim = s.sp.wChg ∧
  u.link.lat.dutyMin = cfg Ent.CVT_DUTY_MIN s ∧ u.link.lat.dutyMax = cfg Ent.CVT_DUTY_MAX s ∧
  u.link.vloop = cfgN Ent.CVT_CU_MAP s % 16 ∧ u.link.dis = cfgN Ent.CVT_CU_MAP s / 16 % 16 ∧
  u.link.chg = cfgN Ent.CVT_CU_MAP s / 256 % 16

/-- What `BoundaryMade` reads of the new state. -/
def boundaryView (u : State) :=
  (u.now, u.tb, u.out, u.sp.disLim, u.sp.chgLim, u.link.usable, u.link.computed, u.link.judged, u.link.sent, u.link.lat,
    u.link.vloop, u.link.dis, u.link.chg)

theorem boundaryMade_of_view {t : Nat} {s u v : State} (h : boundaryView v = boundaryView u) (hu : BoundaryMade t s u) :
    BoundaryMade t s v := by
  simp only [boundaryView, Prod.mk.injEq] at h
  obtain ⟨hnow, htb, hout, hdis, hchg, husable, hcomp, hjudged, hsent, hlat, hv, hd, hc⟩ := h
  simpa only [BoundaryMade, hnow, htb, hout, hdis, hchg, husable, hcomp, hjudged, hsent, hlat, hv, hd, hc] using hu

/-- The state in which a boundary has latched its parameters, where the stage does not switch. -/
def boundaryState (t : Nat) (tb : TbRegs) (out : List Output) (svc : List SvcReq) (st : StageInfo) (f : FaultRegs) (cu : Vector Cu 8)
    (s : State) : State :=
  { s with
    now := max s.now t, tb := tb, out := out, flt := f
    pair := { s.pair with dutyGot := false, dutyRun := if s.pair.dutyGot then s.pair.dutyRun else 0 }
    sp := { s.sp with disLim := s.sp.wDis, chgLim := s.sp.wChg }
    link := { s.link with
      usable := false, computed := false, badCrc := false, judged := false, sent := false, slot := s.fw.pairNo
      acc := addMeans s.link.acc s.link.accNow, accNow := {}, svc := svc, stage := st
      lat := { dutyMin := cfg Ent.CVT_DUTY_MIN s, dutyMax := cfg Ent.CVT_DUTY_MAX s, dirHyst := cfg Ent.SP_DIR_HYST s
               dirDwell := cfgN Ent.SP_DIR_DWELL s, lstep := cfg Ent.SP_LSTEP s, shedHold := cfgN Ent.SP_SHED_HOLD s }
      vloop := cfgN Ent.CVT_CU_MAP s % 16, dis := cfgN Ent.CVT_CU_MAP s / 16 % 16, chg := cfgN Ent.CVT_CU_MAP s / 256 % 16, cu := cu } }

theorem turnOver_eq (t : Nat) (s : State) : ∃ tb : TbRegs, turnOver t s = { s with tb := tb } ∧
    tb.boundaries = s.tb.boundaries + 1 ∧ (s.tb.boundaries ≠ 0 → tb.valley = s.tb.valley + valleySteps s.tb.phase s.tb.period) := by
  unfold turnOver
  split
  · next h => exact ⟨_, rfl, by rw [h], fun h' => absurd h h'⟩
  · exact ⟨_, rfl, rfl, fun _ => rfl⟩

/-- A valley without a direction change: the timebase turns over, and STG_SYNC leaves. -/
theorem pulsed_eq (t : Nat) {s : State} (hm : s.sp.mode.running = false) : ∃ (tb : TbRegs) (o : List Output),
    pulsed t s = { s with now := max s.now t, tb := tb, out := o } ∧ .stgSync ∈ o ∧ tb.boundaries = s.tb.boundaries + 1 ∧
    (s.tb.boundaries ≠ 0 → tb.valley = s.tb.valley + valleySteps s.tb.phase s.tb.period) := by
  obtain ⟨tb, hturn, hcount, hvalley⟩ := turnOver_eq t (atTime t s)
  obtain ⟨x, hstep, hxv, hxb⟩ := timebaseStep_eq s.link.last.run { atTime t s with tb := tb }
  have hturned : turned t s = { atTime t s with tb := tb } := by
    rw [turned, dwellEnd_none (s := atTime t s) (.inr hm), hturn]
  unfold pulsed
  rw [hturned, hstep]
  dsimp only
  split
  · exact ⟨x, _, rfl, by simp, hxb.trans hcount, fun h => hxv.trans (hvalley h)⟩
  · exact ⟨x, _, rfl, by simp, hxb.trans hcount, fun h => hxv.trans (hvalley h)⟩

theorem latchedAt_eq (t : Nat) {s : State} (hm : s.sp.mode.running = false) : ∃ tb o svc st f cu,
    latchedAt t s = boundaryState t tb o svc st f cu s ∧ BoundaryMade t s (boundaryState t tb o svc st f cu s) := by
  obtain ⟨tb, o, hpulse, hsync, hcount, hvalley⟩ := pulsed_eq t hm
  obtain ⟨svc, st, f, hage⟩ := svcAge_eq (newPeriod { s with now := max s.now t, tb := tb, out := o })
  obtain ⟨cu, hunits⟩ := latchUnits_eq (latchParams (svcAge (newPeriod { s with now := max s.now t, tb := tb, out := o })))
  refine ⟨tb, o, svc, st, f, cu, ?_, rfl, hvalley, hcount, hsync, rfl, rfl, rfl, rfl, rfl, rfl, rfl, rfl, rfl, rfl, rfl⟩
  unfold latchedAt
  rw [hpulse, hunits, hage]
  rfl

/-! ### The mode's work at a boundary that does not switch (R142, R166) -/

theorem tracks_alone {s : State} (h : s.pair.paired = false) : tracks s = false := by simp [tracks, h]

theorem moveSelect_none {s : State} (h : s.link.moveFrom = none) : moveSelect s = s := by simp [moveSelect, h]

theorem finishRampDown_none {s : State} (hm : s.sp.mode.running = false) (hd : s.sp.toStandby = false) : finishRampDown s = s := by
  simp [finishRampDown, hm, hd]

/-- A boundary of a module alone that does not switch: its mode's work starts from what it has latched. -/
theorem pwmBoundary_still {t : Nat} {s : State} (hc : cRuns s = true) (hv : valleyDue t s = true) (hp : s.pair.paired = false)
    (hm : s.sp.mode.running = false) (hd : s.sp.toStandby = false) (hmove : s.link.moveFrom = none) : ∃ tb o svc st f cu,
    pwmBoundary t s = runBoundary (boundaryState t tb o svc st f cu s) ∧ BoundaryMade t s (boundaryState t tb o svc st f cu s) := by
  obtain ⟨tb, o, svc, st, f, cu, hlatch, hmade⟩ := latchedAt_eq t hm
  refine ⟨tb, o, svc, st, f, cu, ?_, hmade⟩
  have htrack : tracks (boundaryState t tb o svc st f cu s) = false := tracks_alone hp
  rw [pwmBoundary_eq hc hv, hlatch, moveSelect_none (s := boundaryState t tb o svc st f cu s) hmove, htrack,
    finishRampDown_none (s := boundaryState t tb o svc st f cu s) hm hd]
  rfl

theorem only_boundaryState (t : Nat) (tb : TbRegs) (o : List Output) (svc : List SvcReq) (st : StageInfo) (f : FaultRegs)
    (cu : Vector Cu 8) (s : State) : Only [.now, .tb, .link, .sp, .pair, .flt] s (boundaryState t tb o svc st f cu s) := fun p hp => by
  cases p with
  | now | tb | link | sp | pair | flt => exact absurd (by simp) hp
  | _ => rfl

theorem runBoundary_idle {s : State} (hm : s.sp.mode.running = false) (hr : s.sp.req = .none) : runBoundary s = s := by
  simp [runBoundary, modeAction, hm, hr]

theorem runBoundary_start {s : State} {m : Mode} (hm : s.sp.mode = .standby) (hr : s.sp.req = .run m) (hd : s.sp.dwell = 0) :
    runBoundary s = if (startMode m s).sp.mode.running then startHold (phaseStep (startMode m s)) else startMode m s := by
  have hact : modeAction s = (startMode m s, true) := by simp [modeAction, hm, hr, hd]
  unfold runBoundary
  rw [hact]
  cases h : (startMode m s).sp.mode.running <;> simp [h]

/-! ### A mode starts (R166, R167) -/

theorem setCuState_eq (n : Nat) (c : CuState) (s : State) : ∃ cu, setCuState n c s = { s with link := { s.link with cu := cu } } :=
  ⟨_, rfl⟩

/-- Which units run changes their states alone. -/
theorem setRunUnits_eq (m : Mode) (d : Dir) (v : Bool) (s : State) :
    ∃ cu, setRunUnits m d v s = { s with link := { s.link with cu := cu } } := by
  obtain ⟨c1, h1⟩ := setCuState_eq s.link.vloop (if m == .busVoltage && v then .run else .track) s
  obtain ⟨c2, h2⟩ := setCuState_eq (loopOf (opposite d) (setCuState s.link.vloop (if m == .busVoltage && v then .run else .track) s)) .track
    { s with link := { s.link with cu := c1 } }
  unfold setRunUnits
  dsimp only
  rw [h1] at h2 ⊢
  rw [h2]
  exact setCuState_eq _ _ _

theorem startUnits_eq (m : Mode) (s : State) :
    ∃ cu, startUnits m s = { startRegs m s with link := { (startRegs m s).link with cu := cu } } := by
  obtain ⟨cu, h⟩ := setRunUnits_eq m (startDir m s) true (startRegs m s)
  unfold startUnits
  rw [h]
  exact ⟨_, rfl⟩

section
variable {m : Mode} {s : State} (h : healthyPhases s ≠ 0)
include h

/-- Beyond its registers a start changes the units, and in BUS_VOLTAGE the load line. -/
theorem startMode_form : ∃ cu a b c, startMode m s = { startRegs m s with
    link := { (startRegs m s).link with cu := cu }
    sp := { (startRegs m s).sp with iRaw := a, iBus := b, vRef := c } } := by
  obtain ⟨cu, hunits⟩ := startUnits_eq m s
  rw [startMode_eq h, hunits]
  split
  · exact ⟨_, _, _, _, rfl⟩
  · exact ⟨_, _, _, _, rfl⟩

theorem startMode_sp :
    (startMode m s).sp.mode = m ∧ (startMode m s).sp.req = .none ∧ (startMode m s).sp.en = healthyPhases s ∧
    (startMode m s).sp.ang = anglesFor (healthyPhases s) ∧ (startMode m s).sp.modeOff = false ∧
    (startMode m s).sp.r = (if m = .busVoltage then s.link.sample.vBus * 65536 else 0) ∧ (startMode m s).sp.dir = startDir m s ∧
    (startMode m s).sp.redist = 0 ∧ (startMode m s).sp.wantShed = none ∧ (startMode m s).sp.wantAdd = none := by
  have hr : (startRegs m s).sp.r = if m = .busVoltage then s.link.sample.vBus * 65536 else 0 := by simp [startRegs]
  obtain ⟨cu, a, b, c, hform⟩ := startMode_form (m := m) h
  rw [hform]
  exact ⟨rfl, rfl, rfl, rfl, rfl, hr, rfl, rfl, rfl, rfl⟩

theorem boundaryView_startMode : boundaryView (startMode m s) = boundaryView s := by
  obtain ⟨cu, a, b, c, hform⟩ := startMode_form (m := m) h
  rw [hform]
  rfl

theorem loopOf_startMode (d : Dir) : loopOf d (startMode m s) = loopOf d s := by
  obtain ⟨cu, a, b, c, hform⟩ := startMode_form (m := m) h
  rw [hform]
  cases d <;> rfl

theorem startMode_vloop : (startMode m s).link.vloop = s.link.vloop := by
  obtain ⟨cu, a, b, c, hform⟩ := startMode_form (m := m) h
  rw [hform]
  rfl

end

@[simp] theorem cuPreload_out (u : Cu) (d : Int) : (cuPreload u d).out = d := rfl

theorem startDuty_congr {s t : State} (hs : t.store = s.store) (hl : t.link.sample = s.link.sample) : startDuty t = startDuty s := by
  simp only [startDuty, cfgN_of_store hs, cfg_of_store hs, hl]

theorem startUnits_out {m : Mode} {s : State} (hk : loopOf (startDir m s) s < 8) :
    (cuAt (loopOf (startDir m s) s) (startUnits m s)).out = startDuty s := by
  have hloop : loopOf (startDir m s) (startRegs m s) = loopOf (startDir m s) s := by cases startDir m s <;> rfl
  obtain ⟨cu, h⟩ := setRunUnits_eq m (startDir m s) true (startRegs m s)
  have hduty : startDuty (setRunUnits m (startDir m s) true (startRegs m s)) = startDuty s := by
    rw [h]
    exact startDuty_congr rfl rfl
  unfold startUnits
  dsimp only
  rw [loopOf_setRunUnits, hloop, cuAt_modCu_same _ _ hk, cuPreload_out, hduty]

theorem cuAt_of_link {s t : State} (h : t.link = s.link) (k : Nat) : cuAt k t = cuAt k s := by simp only [cuAt, h]

theorem startUnits_vloop (m : Mode) (s : State) : (startUnits m s).link.vloop = s.link.vloop := by
  obtain ⟨cu, h⟩ := startUnits_eq m s
  rw [h]
  rfl

theorem loadLine_link (s : State) : (loadLine s).link = s.link := rfl

/-- The loop of the start's direction begins at the start duty, unless it is VLOOP too. -/
theorem startMode_out {m : Mode} {s : State} (h : healthyPhases s ≠ 0) (hk : loopOf (startDir m s) s < 8)
    (hv : m = .busVoltage → s.link.vloop ≠ loopOf (startDir m s) s) :
    (cuAt (loopOf (startDir m s) s) (startMode m s)).out = startDuty s := by
  rw [startMode_eq h]
  split
  · next hm =>
    have hne : loopOf (startDir m s) s ≠ (startUnits m s).link.vloop := by
      rw [startUnits_vloop]
      exact (hv (eq_of_beq hm)).symm
    rw [cuAt_of_link (loadLine_link _), cuAt_modCu_other _ _ hne]
    exact startUnits_out hk
  · exact startUnits_out hk

/-- With no phase change and no redistribution a boundary ends the redistribution's mark; the hold may begin. -/
theorem settle_eq {s : State} (hr : s.sp.redist = 0) (hs : s.sp.wantShed = none) (ha : s.sp.wantAdd = none) :
    ∃ e, startHold (phaseStep s) = { s with sp := { s.sp with moving := false, holdEnd := e } } := by
  have hp : phaseStep s = { s with sp := { s.sp with moving := false } } := by
    simp [phaseStep, hs, ha, redistStep, hr, redistEnd]
  rw [hp]
  unfold startHold
  split
  · exact ⟨_, rfl⟩
  · exact ⟨s.sp.holdEnd, rfl⟩

section
variable {t : Nat} {s : State} (hl : live s = true) (hc : cRuns s = true) (hp : s.pair.paired = false) (hd : s.sp.toStandby = false)
  (hmove : s.link.moveFrom = none) (hv : valleyDue t s = true)
include hl hc hp hd hmove hv

theorem ends_pwmBoundary_idle (hm : s.sp.mode.running = false) (hr : s.sp.req = .none) :
    Ends (.pwmBoundary t) s [.now, .tb, .link, .sp, .pair, .flt] fun u =>
      BoundaryMade t s u ∧ u.sp.mode = s.sp.mode ∧ u.sp.en = s.sp.en ∧ u.link.next = s.link.next := by
  obtain ⟨tb, o, svc, st, f, cu, heff, hmade⟩ := pwmBoundary_still (s := s.begin) hc hv hp hm hd hmove
  rw [runBoundary_idle (s := boundaryState t tb o svc st f cu s.begin) hm hr] at heff
  exact ends_of_effect (f := pwmBoundary t) rfl hl heff (only_boundaryState _ _ _ _ _ _ _ _) ⟨hmade, rfl, rfl, rfl⟩

section
variable {m : Mode} (hm : s.sp.mode = .standby) (hr : s.sp.req = .run m) (hdwell : s.sp.dwell = 0)
include hm hr hdwell

theorem ends_pwmBoundary_starts (hrun : m.running = true) (hh : healthyPhases s ≠ 0) :
    Ends (.pwmBoundary t) s [.now, .tb, .link, .sp, .pair, .flt, .dsp] fun u =>
      BoundaryMade t s u ∧ u.sp.mode = m ∧ u.sp.req = .none ∧ u.sp.en = healthyPhases s ∧ u.sp.ang = anglesFor (healthyPhases s) ∧
      u.sp.modeOff = false ∧ u.sp.r = (if m = .busVoltage then s.link.sample.vBus * 65536 else 0) ∧
      (loopOf u.sp.dir u < 8 → (m = .busVoltage → u.link.vloop ≠ loopOf u.sp.dir u) →
        (cuAt (loopOf u.sp.dir u) u).out = startDuty s) := by
  obtain ⟨tb, o, svc, st, f, cu, heff, hmade⟩ := pwmBoundary_still (s := s.begin) hc hv hp (by rw [begin_sp, hm]; rfl) hd hmove
  have hmade' : BoundaryMade t s (boundaryState t tb o svc st f cu s.begin) := hmade
  have hview := boundaryView_startMode (m := m) (s := boundaryState t tb o svc st f cu s.begin) hh
  have hloop := loopOf_startMode (m := m) (s := boundaryState t tb o svc st f cu s.begin) hh
  have hout := startMode_out (m := m) (s := boundaryState t tb o svc st f cu s.begin) hh
  have honly : Only [.now, .tb, .link, .sp, .pair, .flt, .dsp] s.begin (startMode m (boundaryState t tb o svc st f cu s.begin)) :=
    only_trans (only_mono (only_boundaryState _ _ _ _ _ _ _ _) (by simp)) (only_mono (only_startMode_healthy hh) (by simp))
  obtain ⟨hmode, hreq, hen, hang, hoff, hset, hd', hredist, hshed, hadd⟩ :=
    startMode_sp (m := m) (s := boundaryState t tb o svc st f cu s.begin) hh
  rw [runBoundary_start (s := boundaryState t tb o svc st f cu s.begin) hm hr hdwell, hmode, if_pos hrun] at heff
  obtain ⟨e, hsettle⟩ := settle_eq hredist hshed hadd
  rw [hsettle] at heff
  have hduty : startDuty (boundaryState t tb o svc st f cu s.begin) = startDuty s := startDuty_congr rfl rfl
  have hvloop := startMode_vloop (m := m) (s := boundaryState t tb o svc st f cu s.begin) hh
  rw [← hd', hduty, ← hloop, ← hvloop] at hout
  generalize startMode m (boundaryState t tb o svc st f cu s.begin) = w at *
  refine ends_of_effect (f := pwmBoundary t) rfl hl heff (only_trans honly (only_mono (only_sp _ w) (by simp)))
    ⟨boundaryMade_of_view (u := boundaryState t tb o svc st f cu s.begin) hview hmade', hmode, hreq, hen, hang, hoff, hset, ?_⟩
  exact hout

theorem ends_pwmBoundary_refused (hh : healthyPhases s = 0) :
    Ends (.pwmBoundary t) s [.now, .tb, .link, .sp, .pair, .flt] fun u =>
      BoundaryMade t s u ∧ u.sp.mode = .standby ∧ u.sp.req = .none ∧ isActive 0x4012 wide u = true := by
  obtain ⟨tb, o, svc, st, f, cu, heff, hmade⟩ := pwmBoundary_still (s := s.begin) hc hv hp (by rw [begin_sp, hm]; rfl) hd hmove
  have hmade' : BoundaryMade t s (boundaryState t tb o svc st f cu s.begin) := hmade
  have honly : Only [.now, .tb, .link, .sp, .pair, .flt] s.begin (startMode m (boundaryState t tb o svc st f cu s.begin)) :=
    only_trans (only_boundaryState _ _ _ _ _ _ _ _) (only_mono (only_startMode_refused hh) (by simp))
  rw [runBoundary_start (s := boundaryState t tb o svc st f cu s.begin) hm hr hdwell] at heff
  rw [startMode_refused (s := boundaryState t tb o svc st f cu s.begin) hh] at heff honly
  obtain ⟨g, hraise⟩ := raiseF_eq 0x4012 wide { boundaryState t tb o svc st f cu s.begin with
    sp := { (boundaryState t tb o svc st f cu s.begin).sp with req := .none } }
  have hact := isActive_raiseF 0x4012 wide { boundaryState t tb o svc st f cu s.begin with
    sp := { (boundaryState t tb o svc st f cu s.begin).sp with req := .none } }
  rw [hraise] at heff honly hact
  refine ends_of_effect (f := pwmBoundary t) rfl hl (heff.trans (if_neg ?_)) honly ⟨hmade', hm, rfl, hact⟩
  rw [show (boundaryState t tb o svc st f cu s.begin).sp.mode = .standby from hm]
  decide

end

end

/-- Settles O23: `pwmBoundary_still` reduces the boundary to the mode's work, which is none, a start, or a refused start. -/
theorem boundariesLatchAndStart : Obligations.BoundariesLatchAndStart := by
  unfold Obligations.BoundariesLatchAndStart
  intro t s hl hc hp hd hmove common
  refine ⟨fun hv => ends_pwmBoundary_idle hl hc hp hd hmove hv, fun m hv hm hr hrun hdwell => ⟨?_, ?_⟩, fun hv => ?_⟩
  · exact ends_pwmBoundary_starts hl hc hp hd hmove hv hm hr hdwell hrun
  · exact ends_pwmBoundary_refused hl hc hp hd hmove hv hm hr hdwell
  · exact sends_whenLiveK (f := pwmBoundary t) rfl hl
      (guardOn_false (by rw [show valleyDue t s.begin = false from hv, Bool.and_false]) _ s.begin)

end Sys2Proof.Proofs
end

section
/-! PROOFS. The lanes of the stage link and the stage's service replies. -/
namespace Sys2Proof.Proofs
open Sys2Proof Sys2Proof.Machine Sys2Proof.Laws

/-! ### One lane and the other -/

@[simp] theorem laneState_setLane_same (l : Lane) (x : LaneState) (s : State) : laneState l (setLane l x s) = x := by cases l <;> rfl

@[simp] theorem laneState_setLane_other (l : Lane) (x : LaneState) (s : State) :
    laneState (otherLane l) (setLane l x s) = laneState (otherLane l) s := by cases l <;> rfl

@[simp] theorem select_setLane (l : Lane) (x : LaneState) (s : State) : (setLane l x s).link.select = s.link.select := by
  cases l <;> rfl

theorem setLane_eq (l : Lane) (x : LaneState) (s : State) :
    ∃ a b, setLane l x s = { s with link := { s.link with lane0 := a, lane1 := b } } := by cases l <;> exact ⟨_, _, rfl⟩

theorem only_setLane (l : Lane) (x : LaneState) (s : State) : Only [.link] s (setLane l x s) := by
  cases l <;> exact only_link _ s

theorem only_setGood (l : Lane) (n : Nat) (s : State) : Only [.link] s (setGood l n s) := by
  cases l <;> exact only_link _ s

theorem laneState_of_link {s t : State} (h : t.link = s.link) (l : Lane) : laneState l t = laneState l s := by
  cases l <;> simp only [laneState, h]

theorem laneState_of_lanes {s t : State} (h0 : t.link.lane0 = s.link.lane0) (h1 : t.link.lane1 = s.link.lane1) (l : Lane) :
    laneState l t = laneState l s := by
  cases l
  · exact h0
  · exact h1

theorem only_linkOut (x : LinkRegs) (o : List Output) (s : State) : Only [.link] s { s with link := x, out := o } := fun p hp => by
  cases p with
  | link => exact absurd (by simp) hp
  | _ => rfl

theorem laneUp_of_link {s t : State} (h : t.link = s.link) (l : Lane) : laneUp l t = laneUp l s := by
  simp only [laneUp, laneState_of_link h]

theorem laneUp_setLane_other (l : Lane) (x : LaneState) (s : State) : laneUp (otherLane l) (setLane l x s) = laneUp (otherLane l) s := by
  simp only [laneUp, laneState_setLane_other]

/-! ### The select (R138) -/

/-- Asserting a select changes the select and when it changed; the contact shows it. -/
theorem assertSelect_eq (l : Option Lane) (s : State) :
    ∃ n o, assertSelect l s = { s with out := o, link := { s.link with select := l.map laneNo, selAt := n } } := by
  unfold assertSelect
  dsimp only
  split
  · next h => exact ⟨s.link.selAt, s.out, by rw [← h]⟩
  · exact ⟨_, _, rfl⟩

/-- Where no select is asserted, a module alone selects lane 0 if it is UP, else lane 1. -/
theorem selectRule_alone {s : State} (hp : s.pair.paired = false) (hh : s.pair.handing = false)
    (hup : laneUp .l0 s = true ∨ laneUp .l1 s = true) : ∃ n o, selectRule s = { s with
      out := o, link := { s.link with selAt := n, select := some (s.link.select.getD (if laneUp .l0 s then 0 else 1)) } } := by
  unfold selectRule
  simp only [hh, hp, Bool.false_eq_true, if_false]
  cases hsel : s.link.select with
  | some k => exact ⟨s.link.selAt, s.out, by rw [Option.isSome_some, if_pos rfl, Option.getD_some, ← hsel]⟩
  | none =>
    rw [Option.isSome_none, if_neg Bool.false_ne_true, Option.getD_none]
    cases h0 : laneUp .l0 s with
    | true => exact assertSelect_eq (some .l0) s
    | false =>
      rw [hup.resolve_left (by simp [h0])]
      exact assertSelect_eq (some .l1) s

/-! ### Training, UP and DOWN (R139) -/

/-- LANE_DOWN with what follows in a pair. -/
def laneDownEffect (l : Lane) (s : State) : State := if isSelected l s && s.pair.paired then resign (laneDown l s) else laneDown l s

theorem laneDownEffect_alone {l : Lane} {s : State} (hp : s.pair.paired = false) : laneDownEffect l s = laneDown l s :=
  if_neg (by simp [hp])

theorem laneDown_moves {l : Lane} {s : State} (hd : laneState l s ≠ .down) (hsel : isSelected l s = true) (hp : s.pair.paired = false)
    (ho : laneUp (otherLane l) s = true) : laneDown l s = { setLane l .down s with
      link := { (setLane l .down s).link with moveFrom := some (laneNo l) } } := by
  have hpair : (setLane l .down s).pair = s.pair := only_setLane l .down s .pair (by decide)
  unfold laneDown
  rw [guardOn_true (by simpa using hd)]
  exact if_pos (by rw [laneUp_setLane_other, hsel, ho, hpair, hp]; rfl)

theorem laneDown_fails {l : Lane} {s : State} (hd : laneState l s ≠ .down) (ho : isSelected l s = false ∨ laneUp (otherLane l) s = false) :
    laneDown l s = if isSelected l s then assertSelect none (raiseF (0x4001 + laneNo l) wide (setLane l .down s))
      else raiseF (0x4001 + laneNo l) wide (setLane l .down s) := by
  unfold laneDown
  rw [guardOn_true (by simpa using hd)]
  exact if_neg (by rw [laneUp_setLane_other]; rcases ho with h | h <;> simp [h])

section
variable {l : Lane} {s : State} (hl : live s = true)
include hl

theorem ends_laneTraining (hc : cRuns s = true) (hw : wired l s = true) (hd : laneState l s = .down) :
    Ends (.laneTraining l) s [.link] fun u =>
      u.out = [] ∧ laneState l u = .training ∧ laneGood l u = 0 ∧ laneState (otherLane l) u = laneState (otherLane l) s ∧
      u.link.select = s.link.select := by
  have hg : (cRuns s.begin && wired l s.begin && laneState l s.begin == .down) = true := by
    rw [show cRuns s.begin = true from hc, show wired l s.begin = true from hw, show laneState l s.begin = .down from hd]
    rfl
  refine ends_of_effect (f := fun s => if cRuns s && wired l s && laneState l s == .down then setGood l 0 (setLane l .training s) else s)
    rfl hl (if_pos hg) (only_trans (only_setLane _ _ _) (only_setGood _ _ _)) ?_
  cases l <;> exact ⟨rfl, rfl, rfl, rfl, rfl⟩

theorem ends_laneUp (hc : cRuns s = true) (ht : laneState l s = .training) (hgood : 2 ≤ laneGood l s) (hp : s.pair.paired = false)
    (hh : s.pair.handing = false) : Ends (.laneUp l) s [.link, .flt] fun u =>
      laneState l u = .up ∧ laneState (otherLane l) u = laneState (otherLane l) s ∧ u.link.identReq = true ∧
      isActive (0x4001 + laneNo l) wide u = false ∧
      u.link.select = some (s.link.select.getD (if laneUp .l0 u then 0 else 1)) := by
  have hg : (cRuns s.begin && laneState l s.begin == .training && decide (laneGood l s.begin ≥ 2)) = true := by
    rw [show cRuns s.begin = true from hc, show laneState l s.begin = .training from ht,
      show decide (laneGood l s.begin ≥ 2) = true from decide_eq_true hgood]
    rfl
  let v : State := setLane l .up s.begin
  let w : State := clearF (0x4001 + laneNo l) wide v
  have hv : Only [.link] s.begin v := only_setLane l .up s.begin
  have hw : Only [.flt] v w := only_clearF _ _ v
  have hlink : w.link = v.link := hw .link (by decide)
  have hpair : w.pair = s.pair := (hw .pair (by decide)).trans (hv .pair (by decide))
  have hup : laneUp .l0 w = true ∨ laneUp .l1 w = true := by
    rw [laneUp_of_link hlink, laneUp_of_link hlink]
    cases l
    · exact .inl rfl
    · exact .inr rfl
  obtain ⟨n, o, hsel⟩ := selectRule_alone (s := { w with link := { w.link with identReq := true } }) (by rw [hpair]; exact hp)
    (by rw [hpair]; exact hh) hup
  have hown : laneState l w = .up := (laneState_of_link hlink l).trans (laneState_setLane_same _ _ _)
  have hother : laneState (otherLane l) w = laneState (otherLane l) s :=
    (laneState_of_link hlink _).trans (laneState_setLane_other _ _ _)
  have hselect : w.link.select = s.link.select := (congrArg (·.select) hlink).trans (select_setLane _ _ _)
  have hcode : isActive (0x4001 + laneNo l) wide w = false := isActive_clearF _ _ v
  have honly : Only [.link, .flt] s.begin w := only_trans (only_mono hv (by simp)) (only_mono hw (by simp))
  have heff : laneUpEvent l s.begin = selectRule { w with link := { w.link with identReq := true } } := guardOn_true hg _ _
  rw [hsel] at heff
  generalize w = w at *
  refine ends_of_effect (f := laneUpEvent l) rfl hl heff (only_trans honly (only_mono (only_linkOut _ _ w) (by simp))) ⟨?_, ?_, rfl, hcode, ?_⟩
  · exact (laneState_of_lanes rfl rfl l).trans hown
  · exact (laneState_of_lanes rfl rfl _).trans hother
  · exact congrArg (fun x : Option Nat => some (x.getD (if laneUp .l0 w then 0 else 1))) hselect

theorem ends_laneDown_moves (hd : laneState l s ≠ .down) (hsel : isSelected l s = true) (hp : s.pair.paired = false)
    (ho : laneUp (otherLane l) s = true) : Ends (.laneDown l) s [.link] fun u =>
      laneState l u = .down ∧ u.link.moveFrom = some (laneNo l) ∧ u.link.select = s.link.select ∧ u.out = [] := by
  have heff := laneDown_moves (s := s.begin) hd hsel hp ho
  refine ends_of_effect (f := laneDownEffect l) rfl hl ((laneDownEffect_alone (s := s.begin) hp).trans heff)
    (only_trans (only_setLane _ _ _) (only_link _ _)) ?_
  cases l <;> exact ⟨rfl, rfl, rfl, rfl⟩

theorem ends_laneDown_fails (hd : laneState l s ≠ .down) (hp : s.pair.paired = false)
    (ho : isSelected l s = false ∨ laneUp (otherLane l) s = false) : Ends (.laneDown l) s [.link, .flt] fun u =>
      laneState l u = .down ∧ isActive (0x4001 + laneNo l) wide u = true ∧
      u.link.select = if isSelected l s then none else s.link.select := by
  have heff := laneDown_fails (s := s.begin) hd ho
  have hv : Only [.link] s.begin (setLane l .down s.begin) := only_setLane _ _ _
  have hw : Only [.flt] _ _ := only_raiseF (0x4001 + laneNo l) wide (setLane l .down s.begin)
  have hcode := isActive_raiseF (0x4001 + laneNo l) wide (setLane l .down s.begin)
  have hown : laneState l (raiseF (0x4001 + laneNo l) wide (setLane l .down s.begin)) = .down :=
    (laneState_of_link (hw .link (by decide)) l).trans (laneState_setLane_same _ _ _)
  have hselect : (raiseF (0x4001 + laneNo l) wide (setLane l .down s.begin)).link.select = s.link.select :=
    (congrArg (·.select) (hw .link (by decide))).trans (select_setLane _ _ _)
  have honly := only_trans (only_mono hv (by simp)) (only_mono hw (by simp : ∀ p ∈ [Part.flt], p ∈ [Part.link, .flt]))
  generalize raiseF (0x4001 + laneNo l) wide (setLane l .down s.begin) = w at *
  cases hsel : isSelected l s with
  | false =>
    rw [show isSelected l s.begin = false from hsel] at heff
    exact ends_of_effect (f := laneDownEffect l) rfl hl ((laneDownEffect_alone (s := s.begin) hp).trans heff) honly ⟨hown, hcode, hselect⟩
  | true =>
    obtain ⟨n, o, hassert⟩ := assertSelect_eq none w
    rw [show isSelected l s.begin = true from hsel, hassert] at heff
    exact ends_of_effect (f := laneDownEffect l) rfl hl ((laneDownEffect_alone (s := s.begin) hp).trans heff)
      (only_trans honly (only_mono (only_linkOut _ _ w) (by simp))) ⟨(laneState_of_lanes rfl rfl l).trans hown, hcode, rfl⟩

end

/-! ### Service replies (R137, R145, R161) -/

/-- A frame that fails its CRC, or answers no request that waits, is no reply. -/
theorem svcReply_none {op : Nat} {b : List Byte} {s : State} (h : fieldU b (b.length - 4) 4 ≠ crc32c (b.take (b.length - 4)) ∨
    fieldU b 1 1 ≠ op + 128 ∨ ∀ r ∈ s.link.svc, r.op = op → r.tag ≠ fieldU b 2 1) : svcReply op b s = none := by
  have hany : (∀ r ∈ s.link.svc, r.op = op → r.tag ≠ fieldU b 2 1) →
      (s.link.svc.any fun r => r.op == op && r.tag == fieldU b 2 1) = false := by
    intro hr
    rw [List.any_eq_false]
    intro r hmem
    simpa using hr r hmem
  refine if_neg ?_
  rcases h with hcrc | hop | hr
  · simp [hcrc]
  · simp [hop]
  · simp [hany hr]

/-- The request that was answered waits no more. -/
theorem svcDone_tags (b : List Byte) (s : State) : ∀ r ∈ (svcDone b s).link.svc, r.tag ≠ fieldU b 2 1 := by
  intro r hr
  have h := (List.mem_filter.1 hr).2
  simpa using h

theorem isActive_setF (on : Bool) (c k : Nat) (s : State) : isActive c k (setF on c k s) = on := by
  cases on
  · exact isActive_clearF c k s
  · exact isActive_raiseF c k s

theorem freqUnsupported_congr {s t : State} (hs : t.store = s.store) (hl : t.link = s.link) : freqUnsupported t = freqUnsupported s := by
  simp only [freqUnsupported, cfgN_of_store hs, hl]

theorem freqUnsupported_of {s : State} (h : cfgN Ent.CVT_PWM_FREQ s < s.link.stage.fswMin ∨ s.link.stage.fswMax < cfgN Ent.CVT_PWM_FREQ s) :
    freqUnsupported s = true := by simpa [freqUnsupported] using h

/-- The stage check shows what does not fit with its two codes. -/
theorem checkStage_codes {s : State} (h : s.link.stage.known = true) : Only [.flt] s (checkStage s) ∧
    isActive 0x4007 wide (checkStage s) = stageMismatch s ∧
    (freqUnsupported s = true → isActive 0x4008 wide (checkStage s) = true) := by
  have hset := only_setF (stageMismatch s) 0x4007 wide s
  have h7 := isActive_setF (stageMismatch s) 0x4007 wide s
  have hfreq : freqUnsupported (setF (stageMismatch s) 0x4007 wide s) = freqUnsupported s :=
    freqUnsupported_congr (hset .store (by decide)) (hset .link (by decide))
  unfold checkStage
  rw [guardOn_true h]
  dsimp only
  rw [hfreq]
  cases freqUnsupported s with
  | false => exact ⟨hset, h7, fun h => absurd h (by decide)⟩
  | true =>
    exact ⟨only_trans hset (only_raiseF _ _ _), (isActive_raiseF_ne (.inl (by decide)) _).trans h7, fun _ => isActive_raiseF _ _ _⟩

section
variable {s : State} {b p : List Byte} (hl : live s = true)
include hl

theorem ends_identReply (h : svcReply 1 b s = some p) (hlen : p.length = 35) : Ends (.identReply b) s [.link, .flt] fun u =>
    u.link.stage = { s.link.stage with
      id := fieldU p 0 8, phases := fieldU p 8 1, fswMin := fieldU p 9 4, fswMax := fieldU p 13 4, iRated := fieldU p 17 4
      vbusMax := fieldS p 21 4, vstrMax := fieldS p 25 4, iphLsb := fieldU p 29 2, fw := fieldU p 31 4, known := true } ∧
    (∀ r ∈ u.link.svc, r.tag ≠ fieldU b 2 1) ∧
    isActive 0x4007 wide u = decide (fieldU p 8 1 ≠ cfgN Ent.CVT_PHASES s ∨ fieldS p 21 4 < cfg Ent.CVT_VBUS_LIMIT s ∨
      fieldS p 25 4 < cfg Ent.CVT_VSTR_LIMIT s) ∧
    ((cfgN Ent.CVT_PWM_FREQ s < fieldU p 9 4 ∨ fieldU p 13 4 < cfgN Ent.CVT_PWM_FREQ s) → isActive 0x4008 wide u = true) := by
  let v : State := svcDone b { s.begin with link := { s.link with stage := { s.link.stage with
    id := fieldU p 0 8, phases := fieldU p 8 1, fswMin := fieldU p 9 4, fswMax := fieldU p 13 4, iRated := fieldU p 17 4
    vbusMax := fieldS p 21 4, vstrMax := fieldS p 25 4, iphLsb := fieldU p 29 2, fw := fieldU p 31 4, known := true } } }
  have hv : Only [.link] s.begin v := only_link v.link s.begin
  obtain ⟨honly, h7, h8⟩ := checkStage_codes (s := v) rfl
  have hlink : (checkStage v).link = v.link := honly .link (by decide)
  have heff : identReply b s.begin = checkStage v := by
    simp only [identReply, show svcReply 1 b s.begin = some p from h, hlen, if_true]
    rfl
  refine ends_of_effect (f := identReply b) rfl hl heff (only_trans (only_mono hv (by simp)) (only_mono honly (by simp))) ⟨?_, ?_, ?_, ?_⟩
  · exact congrArg (·.stage) hlink
  · intro r hr
    exact svcDone_tags b _ r (hlink ▸ hr)
  · refine h7.trans ?_
    simp only [stageMismatch, Bool.decide_or, Bool.or_assoc]
    rfl
  · exact fun hf => h8 (freqUnsupported_of hf)

theorem ends_faultsReply (h : svcReply 2 b s = some p) (hlen : p.length = 4) : Ends (.faultsReply b) s [.link, .flt] fun u =>
    u.link.stage = { s.link.stage with faults := fieldU p 0 4 } ∧ u.link.clearReq = true ∧ isActive 0x4006 wide u = true := by
  let v : State := putFaults (fieldU p 0 4) (svcDone b s.begin)
  have hv : Only [.link] s.begin v := only_link v.link s.begin
  have hr : Only [.flt] v (raiseF 0x4006 wide v) := only_raiseF _ _ v
  have hlink : (raiseF 0x4006 wide v).link = v.link := hr .link (by decide)
  have hcode := isActive_raiseF 0x4006 wide v
  have honly : Only [.link, .flt] s.begin (raiseF 0x4006 wide v) := only_trans (only_mono hv (by simp)) (only_mono hr (by simp))
  have heff : faultsReply b s.begin = { raiseF 0x4006 wide v with link := { (raiseF 0x4006 wide v).link with clearReq := true } } := by
    simp only [faultsReply, show svcReply 2 b s.begin = some p from h, hlen, if_true]
    rfl
  generalize raiseF 0x4006 wide v = w at *
  exact ends_of_effect (f := faultsReply b) rfl hl heff (only_trans honly (only_mono (only_link _ w) (by simp)))
    ⟨congrArg (·.stage) hlink, rfl, hcode⟩

theorem ends_faultClearReply (h : svcReply 3 b s = some p) (hlen : p.length = 4) : Ends (.faultClearReply b) s [.link, .flt] fun u =>
    u.link.stage = { s.link.stage with faults := fieldU p 0 4 } ∧ u.link.clearReq = decide (fieldU p 0 4 ≠ 0) ∧
    isActive 0x4006 wide u = (if fieldU p 0 4 = 0 then false else isActive 0x4006 wide s) := by
  let v : State := putFaults (fieldU p 0 4) (svcDone b s.begin)
  have heff : faultClearReply b s.begin =
      if fieldU p 0 4 = 0 then clearF 0x4006 wide { v with link := { v.link with clearReq := false } }
      else { v with link := { v.link with clearReq := true } } := by
    simp only [faultClearReply, show svcReply 3 b s.begin = some p from h, hlen, if_true]
    rfl
  by_cases hz : fieldU p 0 4 = 0
  · rw [if_pos hz] at heff
    let w : State := { v with link := { v.link with clearReq := false } }
    have hw : Only [.link] s.begin w := only_link w.link s.begin
    have hc : Only [.flt] w (clearF 0x4006 wide w) := only_clearF _ _ w
    have hlink : (clearF 0x4006 wide w).link = w.link := hc .link (by decide)
    refine ends_of_effect (f := faultClearReply b) rfl hl heff (only_trans (only_mono hw (by simp)) (only_mono hc (by simp)))
      ⟨congrArg (·.stage) hlink, ?_, ?_⟩
    · rw [decide_eq_false (not_not.2 hz)]
      exact congrArg (·.clearReq) hlink
    · rw [if_pos hz]
      exact isActive_clearF _ _ w
  · rw [if_neg hz] at heff
    refine ends_of_effect (f := faultClearReply b) rfl hl heff (only_mono (only_link _ s.begin) (by simp)) ⟨rfl, ?_, ?_⟩
    · rw [decide_eq_true hz]
      rfl
    · rw [if_neg hz]
      rfl

theorem sends_otherFrame {op : Nat} (h : fieldU b (b.length - 4) 4 ≠ crc32c (b.take (b.length - 4)) ∨ fieldU b 1 1 ≠ op + 128 ∨
    ∀ r ∈ s.link.svc, r.op = op → r.tag ≠ fieldU b 2 1) :
    (op = 1 → Sends (.identReply b) s []) ∧ (op = 2 → Sends (.faultsReply b) s []) ∧ (op = 3 → Sends (.faultClearReply b) s []) := by
  have hnone : svcReply op b s.begin = none := svcReply_none h
  refine ⟨?_, ?_, ?_⟩ <;> rintro rfl
  · exact sends_whenLiveK (f := identReply b) rfl hl (by simp only [identReply, hnone])
  · exact sends_whenLiveK (f := faultsReply b) rfl hl (by simp only [faultsReply, hnone])
  · exact sends_whenLiveK (f := faultClearReply b) rfl hl (by simp only [faultClearReply, hnone])

end

/-- Settles O19: one lemma for each event of a lane and for each reply; what is no reply changes nothing by `svcReply_none`. -/
theorem lanesTrainSelectAndFall : Obligations.LanesTrainSelectAndFall := by
  unfold Obligations.LanesTrainSelectAndFall
  refine ⟨fun l s hl => ⟨ends_laneTraining hl, fun hc ht hgood hp hh => ?_, ends_laneDown_moves hl, ends_laneDown_fails hl⟩,
    fun s hl => ⟨fun b p => ends_identReply hl, fun b p => ends_faultsReply hl, fun b p => ends_faultClearReply hl,
      fun op b => sends_otherFrame hl⟩⟩
  obtain ⟨u, hu, honly, hown, hother, hreq, hcode, hsel⟩ := ends_laneUp hl hc ht hgood hp hh
  refine ⟨u, hu, honly, hown, hother, hreq, hcode, hsel.trans ?_⟩
  cases s.link.select <;> rfl

end Sys2Proof.Proofs
end

section
/-! PROOFS. SAMPLE frames of a module alone: what is taken from them, their loss, and the computation of a period in STRING_CURRENT. -/
namespace Sys2Proof.Proofs
open Sys2Proof Sys2Proof.Machine Sys2Proof.Laws

/-! ### How a SAMPLE frame runs (R139, R141, R153) -/

/-- The state in which a SAMPLE frame is judged. -/
def sampleStart (s : State) : State := { s.begin with link := { s.link with moved := [] } }

theorem only_sampleStart (s : State) : Only [.link] s (sampleStart s) := only_linkOut _ _ s

/-- A SAMPLE frame on which no unit failed leaves what `sampleFrame` makes. -/
theorem ends_sampleFrame {l : Lane} {t c : Nat} {b : List Byte} {s w : State} {ps : List Part} {P : State → Prop} (hl : live s = true)
    (hw : sampleFrame l t b c (sampleStart s) = w) (hm : w.link.moved = []) (ho : Only ps (sampleStart s) w) (hlink : .link ∈ ps)
    (hstore : .store ∉ ps) (hp : P (s.keepQueue w)) : Ends (.sampleFrame l t b c) s ps P := by
  have heff : sampleEvent l t b c s.begin = w := by
    have hkept : (sampleFrame l t b c (sampleStart s)).store = s.begin.store := (congrArg State.store hw).trans (ho .store hstore)
    have hkeep : keep (fun s => sampleFrame l t b c { s with link := { s.link with moved := [] } }) s.begin = w :=
      (keep_of_store hkept).trans hw
    unfold sampleEvent takeSettings
    rw [hkeep, hm]
    rfl
  refine ends_whenLive (f := sampleEvent l t b c) rfl hl (heff ▸ ?_) (heff.symm ▸ hp)
  exact only_trans (only_mono (only_sampleStart s) (by simpa using hlink)) ho

section
variable {l : Lane} {t c : Nat} {b : List Byte} {s : State}

theorem sampleFrame_eq (hc : cRuns s = true) (hw : wired l s = true) (hd : s.sp.flipDue = false ∨ s.sp.mode.running = false) :
    sampleFrame l t b c s =
      if sampleOk b then goodSample l t b c (atTime t s) else { atTime t s with link := { s.link with badCrc := true } } := by
  unfold sampleFrame
  rw [guardOn_true (by rw [hc, hw]; rfl), dwellEnd_none (s := atTime t s) hd]
  rfl

theorem goodSample_training (h : laneState l s = .training) : goodSample l t b c s = setGood l (laneGood l s + 1) s :=
  if_pos (by rw [h]; rfl)

/-- SAMPLE.LANE names the lane that the stage obeys: of the state only the lanes change. -/
theorem laneConfirm_eq {x : Sample} (hh : s.pair.handing = false) :
    (∃ a b, laneConfirm l x s = { s with link := { s.link with lane0 := a, lane1 := b } }) ∧
    (isSelected l s = true → x.lane = stageLane l s → laneState l (laneConfirm l x s) = .selected) := by
  unfold laneConfirm
  simp only [hh, Bool.false_and, Bool.false_eq_true, if_false]
  split
  · exact ⟨setLane_eq _ _ _, fun _ _ => laneState_setLane_same _ _ _⟩
  · next hnot =>
    refine ⟨?_, fun hs hx => absurd (by rw [hs, hx]; simp) hnot⟩
    split
    · exact setLane_eq _ _ _
    · exact ⟨s.link.lane0, s.link.lane1, rfl⟩

theorem followsStage_alone (hp : s.pair.paired = false) : followsStage s = false := by simp [followsStage, hp]

theorem onTime_alone (hp : s.pair.paired = false) :
    onTime t s = (decide (0 < s.tb.boundaries) && (decide (peakNs s ≤ t) && decide (t ≤ sampleBy s))) := by
  rw [onTime, followsStage_alone hp, Bool.false_or]

/-- On a lane that is UP a module alone takes the first frame of a period that comes in time. -/
theorem goodSample_up (hup : laneUp l s = true) (hp : s.pair.paired = false) (hh : s.pair.handing = false) (hheld : s.pair.laneHeld = false) :
    goodSample l t b c s =
      if s.link.usable || !onTime t s then laneConfirm l (parseSample b) s
      else useSample (parseSample b) t c (laneConfirm l (parseSample b) s) := by
  have hnot : ¬ (laneState l s == .training) = true := by
    intro h
    rw [laneUp, eq_of_beq h] at hup
    exact absurd hup (by decide)
  have hfollow : followSample t (parseSample b).scnt s = s := guardOn_false (by rw [followsStage_alone hp]; rfl) _ _
  have hgap : seeGap l (parseSample b) s = s := if_neg (by simp [hheld])
  obtain ⟨x, y, hconf⟩ := (laneConfirm_eq (l := l) (x := parseSample b) hh).1
  have htake : takesLane (parseSample b) { s with link := { s.link with lane0 := x, lane1 := y } } = false := by
    rw [takesLane, tracks_alone (by exact hp)]
    rfl
  unfold goodSample
  rw [if_neg hnot, if_pos hup]
  dsimp only
  rw [hfollow, hgap, hconf, htake]
  rfl

end

/-! ### What a usable frame leaves (R141, R144 to R146) -/

/-- The state that keeps a usable SAMPLE frame. -/
def sampleKept (x : Sample) (t c : Nat) (s : State) : State :=
  { s with
    link := { s.link with
      usable := true, missRun := 0, sample := x
      accNow := accumulate x (iSumOf x s.sp.en s.link.stage.iphLsb) s.link.stage.iphLsb {}, doneAt := t + c
      computeMax := max s.link.computeMax (min 65535 c) }
    est := { s.est with stageI := ((peakNs s, x.iStr) :: s.est.stageI).takeWhile fun y => y.1 + 150000000 ≥ peakNs s } }

theorem only_sampleKept (x : Sample) (t c : Nat) (s : State) : Only [.link, .est] s (sampleKept x t c s) := fun p hp => by
  cases p with
  | link | est => exact absurd (by simp) hp
  | _ => rfl

/-- DSEQ against the last SEQ sent (R145). -/
def dseqCheck (x : Sample) (s : State) : State :=
  if anySelected s && x.dseq ≠ s.link.seq then
    let s := { s with link := { s.link with dseqErr := incSat32 s.link.dseqErr, dseqRun := s.link.dseqRun + 1 } }
    if s.link.dseqRun ≥ 3 then raiseF 0x4005 wide s else s
  else { s with link := { s.link with dseqRun := 0 } }

/-- The selects that the stage reports (R146). -/
def selectCheck (x : Sample) (s : State) : State := if x.selConflict || laneIgnored x s then raiseF 0x400B wide s else s

/-- The stage reports a fault (R145). -/
def faultsCheck (x : Sample) (s : State) : State := if x.fault then { s with link := { s.link with faultsReq := true } } else s

/-- The stage has stopped (R145). -/
def stopCheck (x : Sample) (s : State) : State :=
  if x.stopped && s.link.last.run && inControl s then toStandbyNow (raiseF 0x400C wide s) else s

theorem sampleChecks_steps (x : Sample) (s : State) :
    sampleChecks x s = stopCheck x (faultsCheck x (selectCheck x (dseqCheck x s))) := rfl

theorem dseqCheck_eq (x : Sample) (s : State) :
    ∃ e r f, dseqCheck x s = { s with link := { s.link with dseqErr := e, dseqRun := r }, flt := f } := by
  unfold dseqCheck
  split
  · dsimp only
    split
    · obtain ⟨f, h⟩ := raiseF_eq 0x4005 wide
        { s with link := { s.link with dseqErr := incSat32 s.link.dseqErr, dseqRun := s.link.dseqRun + 1 } }
      exact ⟨_, _, f, h⟩
    · exact ⟨_, _, _, rfl⟩
  · exact ⟨_, _, _, rfl⟩

theorem selectCheck_eq (x : Sample) (s : State) : ∃ f, selectCheck x s = { s with flt := f } ∧
    (x.selConflict = true → isActive 0x400B wide { s with flt := f } = true) := by
  unfold selectCheck
  split
  · obtain ⟨f, h⟩ := raiseF_eq 0x400B wide s
    exact ⟨f, h, fun _ => h ▸ isActive_raiseF _ _ s⟩
  · next hnot => exact ⟨s.flt, rfl, fun hx => absurd (by simp [hx]) hnot⟩

theorem faultsCheck_eq (x : Sample) (s : State) : ∃ q, faultsCheck x s = { s with link := { s.link with faultsReq := q } } ∧
    (x.fault = true → q = true) := by
  unfold faultsCheck
  split
  · exact ⟨true, rfl, fun _ => rfl⟩
  · next hnot => exact ⟨s.link.faultsReq, rfl, fun h => absurd h hnot⟩

/-- Where the stage has not stopped, or the module does not switch, no mode ends: 0x400C at most is raised. -/
theorem stopCheck_eq {x : Sample} {s : State} (h : x.stopped = false ∨ s.sp.mode.running = false) : ∃ f, stopCheck x s = { s with flt := f } ∧
    ∀ k, isActive 0x400B k s = true → isActive 0x400B k { s with flt := f } = true := by
  unfold stopCheck
  split
  · next hx =>
    obtain ⟨f, hf⟩ := raiseF_eq 0x400C wide s
    have hstop : x.stopped = true := by
      rw [Bool.and_assoc, Bool.and_eq_true] at hx
      exact hx.1
    have hm : s.sp.mode.running = false := h.resolve_left (by simp [hstop])
    refine ⟨f, ?_, fun k hk => hf ▸ isActive_raiseF_of_active _ _ hk⟩
    rw [hf]
    exact if_neg (by simp [hm])
  · exact ⟨s.flt, rfl, fun _ hk => hk⟩

/-- The checks of a usable frame that ends no mode. -/
theorem sampleChecks_eq {x : Sample} {s : State} (h : x.stopped = false ∨ s.sp.mode.running = false) : ∃ e r q f,
    sampleChecks x s = { s with link := { s.link with dseqErr := e, dseqRun := r, faultsReq := q }, flt := f } ∧
    (x.selConflict = true → isActive 0x400B wide { s with flt := f } = true) ∧ (x.fault = true → q = true) := by
  obtain ⟨e, r, f1, h1⟩ := dseqCheck_eq x s
  obtain ⟨f2, h2, hsel⟩ := selectCheck_eq x { s with link := { s.link with dseqErr := e, dseqRun := r }, flt := f1 }
  obtain ⟨q, h3, hq⟩ := faultsCheck_eq x { s with link := { s.link with dseqErr := e, dseqRun := r }, flt := f2 }
  obtain ⟨f, h4, hkeep⟩ := stopCheck_eq (x := x)
    (s := { s with link := { s.link with dseqErr := e, dseqRun := r, faultsReq := q }, flt := f2 }) h
  refine ⟨e, r, q, f, ?_, fun hx => hkeep _ (hsel hx), hq⟩
  rw [sampleChecks_steps, h1, h2, h3, h4]

theorem useSample_eq (x : Sample) (t c : Nat) (s : State) : useSample x t c s =
    let i := iSumOf x s.sp.en s.link.stage.iphLsb
    let v := sampleChecks x (sampleKept x t c s)
    if tracks v then trackPeriod i v
    else if v.sp.mode.running && inControl v then computePeriod i (loadStepTest i v)
    else { v with link := { v.link with
      computed := true
      next := { v.link.next with act := false, held := false, run := false, en := 0, angles := List.replicate 12 0 } } } := rfl

/-- A good frame in time is used, on the state in which its lane is confirmed. -/
theorem sampleFrame_used {l : Lane} {t c : Nat} {b : List Byte} {s : State} (hp : s.pair.paired = false) (hh : s.pair.handing = false)
    (hheld : s.pair.laneHeld = false) (hc : cRuns s = true) (hw : wired l s = true) (hd : s.sp.flipDue = false ∨ s.sp.mode.running = false)
    (hb : sampleOk b = true) (hup : laneUp l s = true) (huse : s.link.usable = false) (h0 : 0 < s.tb.boundaries) (hfrom : peakNs s ≤ t)
    (hto : t ≤ sampleBy s) : ∃ w, (∃ x y, w = { atTime t s with link := { s.link with lane0 := x, lane1 := y } }) ∧
      (isSelected l s = true → (parseSample b).lane = stageLane l s → laneState l w = .selected) ∧
      sampleFrame l t b c s = useSample (parseSample b) t c w := by
  have htime : (s.link.usable || !onTime t (atTime t s)) = false := by
    rw [onTime_alone (s := atTime t s) hp, huse, decide_eq_true (show 0 < (atTime t s).tb.boundaries from h0),
      decide_eq_true (show peakNs (atTime t s) ≤ t from hfrom), decide_eq_true (show t ≤ sampleBy (atTime t s) from hto)]
    rfl
  obtain ⟨⟨x, y, hconf⟩, hsel⟩ := laneConfirm_eq (l := l) (x := parseSample b) (s := atTime t s) hh
  refine ⟨_, ⟨x, y, hconf⟩, hsel, ?_⟩
  exact (sampleFrame_eq hc hw hd).trans ((if_pos hb).trans ((goodSample_up (s := atTime t s) hup hp hh hheld).trans (if_neg (by simp [htime]))))

/-- A module alone that does not switch computes a DUTY frame without pulses. -/
theorem useSample_still {x : Sample} {t c : Nat} {s v : State} (hp : s.pair.paired = false) (hm : s.sp.mode.running = false)
    (hv : sampleChecks x (sampleKept x t c s) = v) (hvp : v.pair = s.pair) (hvs : v.sp = s.sp) :
    useSample x t c s = { v with link := { v.link with
      computed := true
      next := { v.link.next with act := false, held := false, run := false, en := 0, angles := List.replicate 12 0 } } } := by
  rw [useSample_eq, hv]
  dsimp only
  rw [tracks_alone (by rw [hvp]; exact hp), if_neg Bool.false_ne_true, hvs, hm]
  rfl

theorem only_linkFlt (x : LinkRegs) (f : FaultRegs) (s : State) : Only [.link, .flt] s { s with link := x, flt := f } := fun p hp => by
  cases p with
  | link | flt => exact absurd (by simp) hp
  | _ => rfl

/-- A period without a usable SAMPLE frame counts as late, or as bad where a bad frame came. -/
theorem noSample_eq (s : State) : ∃ late f, noSample s = { s with
    link := { s.link with
      late := if s.link.badCrc then s.link.late else incSat32 s.link.late
      crcErr := if s.link.badCrc then incSat32 s.link.crcErr else s.link.crcErr
      lateAt := late, missRun := s.link.missRun + 1, dseqRun := 0 }
    flt := f } := by
  unfold noSample
  dsimp only
  split
  · obtain ⟨f, h⟩ := raiseF_eq 0x4004 wide { s with link := { s.link with
      late := if s.link.badCrc then s.link.late else incSat32 s.link.late
      crcErr := if s.link.badCrc then incSat32 s.link.crcErr else s.link.crcErr
      lateAt := ((s.now :: s.link.lateAt).filter fun t => t + 1000000000 > s.now).take 16, missRun := s.link.missRun + 1, dseqRun := 0 } }
    exact ⟨_, f, h⟩
  · exact ⟨_, _, rfl⟩

/-! ### A module that does not switch -/

section
variable {l : Lane} {t c : Nat} {b : List Byte} {s : State} (hl : live s = true) (hp : s.pair.paired = false)
  (hh : s.pair.handing = false) (hheld : s.pair.laneHeld = false) (hm : s.sp.mode.running = false) (hc : cRuns s = true)
  (hw : wired l s = true)
include hl hm hc hw

theorem ends_sampleFrame_bad (hb : sampleOk b = false) : Ends (.sampleFrame l t b c) s [.now, .link] fun u =>
    u.now = max s.now t ∧ u.link = { s.link with moved := [], badCrc := true } ∧ u.out = [] := by
  have hw' : sampleFrame l t b c (sampleStart s) = _ := (sampleFrame_eq (s := sampleStart s) hc hw (.inr hm)).trans (if_neg (by simp [hb]))
  refine ends_sampleFrame hl hw' rfl ?_ (by decide) (by decide) ⟨rfl, rfl, rfl⟩
  exact only_trans (only_mono (only_atTime _ _) (by simp)) (only_mono (only_link _ _) (by simp))

theorem ends_sampleFrame_training (hb : sampleOk b = true) (ht : laneState l s = .training) :
    Ends (.sampleFrame l t b c) s [.now, .link] fun u =>
      laneGood l u = laneGood l s + 1 ∧ laneState l u = .training ∧ u.link.sample = s.link.sample := by
  have hw' : sampleFrame l t b c (sampleStart s) = _ := (sampleFrame_eq (s := sampleStart s) hc hw (.inr hm)).trans
    ((if_pos hb).trans (goodSample_training (s := atTime t (sampleStart s)) ht))
  refine ends_sampleFrame hl hw' ?_ ?_ (by decide) (by decide) ?_
  · cases l <;> rfl
  · exact only_trans (only_mono (only_atTime _ _) (by simp)) (only_mono (only_setGood _ _ _) (by simp))
  · cases l <;> exact ⟨rfl, ht, rfl⟩

include hp hh hheld

theorem ends_sampleFrame_late (hb : sampleOk b = true) (hup : laneUp l s = true)
    (hlate : s.link.usable = true ∨ t < peakNs s ∨ sampleBy s < t) : Ends (.sampleFrame l t b c) s [.now, .link] fun u =>
      u.link.sample = s.link.sample ∧ u.link.usable = s.link.usable := by
  let v : State := atTime t (sampleStart s)
  have hunused : (v.link.usable || !onTime t v) = true := by
    rw [onTime_alone (s := v) hp]
    rcases hlate with h | h | h
    · rw [show v.link.usable = true from h, Bool.true_or]
    · rw [show decide (peakNs v ≤ t) = false from decide_eq_false (Nat.not_le.2 h)]
      simp
    · rw [show decide (t ≤ sampleBy v) = false from decide_eq_false (Nat.not_le.2 h)]
      simp
  have hw' : sampleFrame l t b c (sampleStart s) = laneConfirm l (parseSample b) v := (sampleFrame_eq (s := sampleStart s) hc hw (.inr hm)).trans
    ((if_pos hb).trans ((goodSample_up (s := v) hup hp hh hheld).trans (if_pos hunused)))
  obtain ⟨x, y, hconf⟩ := (laneConfirm_eq (s := v) (l := l) (x := parseSample b) hh).1
  rw [hconf] at hw'
  refine ends_sampleFrame hl hw' rfl ?_ (by decide) (by decide) ⟨rfl, rfl⟩
  exact only_trans (only_mono (only_atTime _ _) (by simp)) (only_mono (only_link _ v) (by simp))

theorem ends_sampleFrame_taken (hb : sampleOk b = true) (hup : laneUp l s = true) (huse : s.link.usable = false)
    (h0 : 0 < s.tb.boundaries) (hfrom : peakNs s ≤ t) (hto : t ≤ sampleBy s) :
    Ends (.sampleFrame l t b c) s [.now, .link, .est, .flt] fun u =>
      u.link.sample = parseSample b ∧ u.link.usable = true ∧ u.link.missRun = 0 ∧ u.link.computed = true ∧
      u.link.doneAt = t + c ∧ u.link.next.run = false ∧ u.link.next.en = 0 ∧ u.link.accNow.n = 1 ∧
      (isSelected l s = true → (parseSample b).lane = stageLane l s → laneState l u = .selected) ∧
      ((parseSample b).selConflict = true → isActive 0x400B wide u = true) ∧
      ((parseSample b).fault = true → u.link.faultsReq = true) := by
  obtain ⟨w, ⟨x, y, hw⟩, hsel, heff⟩ := sampleFrame_used (c := c) (s := sampleStart s) hp hh hheld hc hw (.inr hm) hb hup huse h0 hfrom hto
  obtain ⟨e, r, q, f, hchecks, hconflict, hfault⟩ := sampleChecks_eq (x := parseSample b) (s := sampleKept (parseSample b) t c w)
    (.inr (by rw [hw]; exact hm))
  rw [useSample_still (by rw [hw]; exact hp) (by rw [hw]; exact hm) hchecks rfl rfl] at heff
  have hw' : Only [.now, .link] (sampleStart s) w := by
    rw [hw]
    exact only_trans (only_mono (only_atTime t _) (by simp)) (only_mono (only_link _ (atTime t (sampleStart s))) (by simp))
  have hmoved : w.link.moved = [] := by rw [hw]; rfl
  refine ends_sampleFrame hl heff hmoved ?_ (by decide) (by decide)
    ⟨rfl, rfl, rfl, rfl, rfl, rfl, rfl, rfl, fun h1 h2 => ?_, hconflict, hfault⟩
  · exact only_trans (only_mono hw' (by simp)) (only_trans (only_mono (only_sampleKept (parseSample b) t c w) (by simp))
      (only_mono (only_linkFlt _ _ (sampleKept (parseSample b) t c w)) (by simp)))
  · exact (laneState_of_lanes rfl rfl l).trans (hsel h1 h2)

end

/-! ### The deadline, and SAMPLE_LOST (R143, R144) -/

section
variable {t : Nat} {s : State} (hl : live s = true)
include hl

theorem ends_sampleDeadline (hc : cRuns s = true) (h0 : 0 < s.tb.boundaries) (hj : s.link.judged = false) (huse : s.link.usable = false)
    (ht : sampleBy s ≤ t) : Ends (.sampleDeadline t) s [.now, .link, .flt] fun u =>
      let lane := laneUp .l0 s || laneUp .l1 s
      u.link.judged = true ∧ u.link.usable = false ∧
      u.link.late = (if lane && !s.link.badCrc then incSat32 s.link.late else s.link.late) ∧
      u.link.crcErr = (if lane && s.link.badCrc then incSat32 s.link.crcErr else s.link.crcErr) ∧
      u.link.missRun = (if lane then s.link.missRun + 1 else s.link.missRun) := by
  let v : State := { atTime t s.begin with link := { s.link with judged := true } }
  have hv : Only [.now, .link] s.begin v := only_trans (only_mono (only_atTime t _) (by simp)) (only_mono (only_link _ (atTime t s.begin)) (by simp))
  have hg : (cRuns s.begin && decide (0 < s.begin.tb.boundaries) && !s.begin.link.judged && decide (sampleBy s.begin ≤ t)) = true := by
    rw [show cRuns s.begin = true from hc, decide_eq_true (show 0 < s.begin.tb.boundaries from h0), show s.begin.link.judged = false from hj,
      decide_eq_true (show sampleBy s.begin ≤ t from ht)]
    rfl
  have heff : sampleDeadline t s.begin = if v.link.usable || !(laneUp .l0 v || laneUp .l1 v) then v else noSample v := guardOn_true hg _ s.begin
  rw [show v.link.usable = false from huse, Bool.false_or, show laneUp .l0 v = laneUp .l0 s from rfl,
    show laneUp .l1 v = laneUp .l1 s from rfl] at heff
  cases hlane : laneUp .l0 s || laneUp .l1 s with
  | false =>
    rw [hlane] at heff
    exact ends_of_effect (f := sampleDeadline t) rfl hl heff (only_mono hv (by simp)) ⟨rfl, huse, rfl, rfl, rfl⟩
  | true =>
    obtain ⟨late, f, hmiss⟩ := noSample_eq v
    rw [hlane, Bool.not_true, if_neg Bool.false_ne_true, hmiss] at heff
    refine ends_of_effect (f := sampleDeadline t) rfl hl heff (only_trans (only_mono hv (by simp)) (only_mono (only_linkFlt _ _ v) (by simp)))
      ⟨rfl, huse, ?_, ?_, rfl⟩
    · show (if s.link.badCrc then _ else _) = _
      cases s.link.badCrc <;> rfl
    · rfl

theorem sends_sampleDeadline (h : s.link.judged = true ∨ t < sampleBy s) : Sends (.sampleDeadline t) s [] := by
  refine sends_whenLiveK (f := sampleDeadline t) rfl hl (guardOn_false ?_ _ s.begin)
  rcases h with h | h
  · rw [show s.begin.link.judged = true from h]
    simp
  · rw [decide_eq_false (show ¬ sampleBy s.begin ≤ t from Nat.not_le.2 h), Bool.and_false]

theorem ends_sampleLost (h : cfgN Ent.CVT_SAMPLE_MISS_MAX s ≤ s.link.missRun) : Ends .sampleLost s [.sp, .link, .flt] fun u =>
    isActive 0x4003 wide u = true ∧ (s.sp.mode.running = false → u.sp = s.sp ∧ u.link = s.link) ∧
    (s.sp.mode.running = true → drives s = true → u.sp.mode = .standby ∧ u.link.next.run = false ∧ u.sp.r = 0) := by
  obtain ⟨f, hf⟩ := raiseF_eq 0x4003 wide s.begin
  have hcode := isActive_raiseF 0x4003 wide s.begin
  have hr := only_raiseF 0x4003 wide s.begin
  rw [hf] at hcode hr
  have hg : decide (cfgN Ent.CVT_SAMPLE_MISS_MAX s.begin ≤ s.begin.link.missRun) = true := decide_eq_true h
  have heff : sampleLost s.begin = if drives s then toStandbyNow { s.begin with flt := f } else { s.begin with flt := f } := by
    unfold sampleLost
    rw [guardOn_true hg]
    dsimp only
    rw [hf]
    rfl
  have hdown := only_toStandbyNow { s.begin with flt := f }
  have hflt : (sampleLost s.begin).flt = f := by
    rw [heff]
    split
    · exact hdown .flt (by decide)
    · rfl
  have honly : Only [.sp, .link, .flt] s.begin (sampleLost s.begin) := by
    rw [heff]
    exact only_trans (only_mono hr (by simp)) (only_ite (only_mono hdown (by simp)) (only_refl _ _))
  refine ends_of_effect (f := sampleLost) rfl hl rfl honly
    ⟨(isActive_of_flt (s := { s.begin with flt := f }) hflt _ _).trans hcode, fun hm => ?_, fun hm hd => ?_⟩
  · have hstay : toStandbyNow { s.begin with flt := f } = { s.begin with flt := f } := if_neg (by simp [hm])
    have hsame : sampleLost s.begin = { s.begin with flt := f } := heff.trans (by rw [hstay, ite_self])
    exact hsame ▸ ⟨rfl, rfl⟩
  · have hstop : sampleLost s.begin = stopTo .standby { s.begin with flt := f } := heff.trans ((if_pos hd).trans (if_pos hm))
    exact hstop ▸ ⟨rfl, rfl, rfl⟩

theorem sends_sampleLost (h : s.link.missRun < cfgN Ent.CVT_SAMPLE_MISS_MAX s) : Sends .sampleLost s [] :=
  sends_whenLiveK (f := sampleLost) rfl hl (guardOn_false (decide_eq_false (Nat.not_le.2 h)) _ s.begin)

end

/-- Settles O20: a SAMPLE frame by `sampleFrame_eq`, `goodSample_training` and `goodSample_up`; its loss by one lemma for each event. -/
theorem sampleFramesAreTaken : Obligations.SampleFramesAreTaken := by
  unfold Obligations.SampleFramesAreTaken
  refine ⟨fun l t b c s hl hp hh hheld hm hc => ⟨fun hw => ⟨ends_sampleFrame_bad hl hm hc hw, ends_sampleFrame_training hl hm hc hw,
      ends_sampleFrame_taken hl hp hh hheld hm hc hw, ends_sampleFrame_late hl hp hh hheld hm hc hw⟩,
    fun h0 hj huse => ⟨ends_sampleDeadline hl hc h0 hj huse, fun ht => sends_sampleDeadline hl (.inr ht)⟩,
    fun hj => sends_sampleDeadline hl (.inl hj)⟩, fun s hl => ⟨ends_sampleLost hl, sends_sampleLost hl⟩⟩

end Sys2Proof.Proofs
end

section
/-! PROOFS. The computation of a period in STRING_CURRENT. -/
namespace Sys2Proof.Proofs
open Sys2Proof Sys2Proof.Machine Sys2Proof.Laws

/-! ### The units of a computation (R147, R149, R152) -/

/-- Before the first four periods after a change of direction have run, no load step is seen. -/
theorem loadStepTest_quiet (iSum : Int) {s : State} (h : 0 < s.sp.quiet) :
    loadStepTest iSum s = { s with sp := { s.sp with hist := (iSum :: s.sp.hist).take 4, quiet := s.sp.quiet - 1 } } := by
  unfold loadStepTest
  dsimp only
  rw [beq_false_of_ne (Nat.ne_of_gt h)]
  rfl

theorem currentRef_current {s : State} (hm : s.sp.mode = .stringCurrent) (hoff : s.sp.modeOff = false) (hd : s.sp.dwell = 0) :
    currentRef s = (limI (divT s.sp.r 65536) s, trackVloop (limI (divT s.sp.r 65536) s) s) := by
  simp [currentRef, hm, hoff, hd]

/-- A unit that neither wraps nor stays at its limits gives the duty. -/
theorem runDuty_ok {u : Nat} {err : Int} {s : State} {run : Cu × Bool} (hu : u < 8)
    (hrun : cuRun (cuAt u s) err s.link.lat.dutyMin s.link.lat.dutyMax = run) (hwrap : run.2 = false) (hsat : run.1.sat < (cuAt u s).satMax) :
    runDuty u err s = (run.1.out, modCu u (fun _ => run.1) s) := by
  have hmax : run.1.satMax = (cuAt u s).satMax := hrun ▸ rfl
  have hunit : cuAt u (modCu u (fun _ => run.1) s) = run.1 := cuAt_modCu_same _ s hu
  have hcheck : checkUnit u run.2 (modCu u (fun _ => run.1) s) = modCu u (fun _ => run.1) s := by
    unfold checkUnit
    rw [hwrap, hunit, hmax, if_neg Bool.false_ne_true, if_neg (Nat.not_le.2 hsat)]
  unfold runDuty
  rw [hrun]
  exact congrArg (Prod.mk run.1.out) hcheck

/-- VLOOP tracks, unit k takes c, and another unit o changes: of the state only the units change. -/
theorem dutyUnits_eq {k o : Nat} {i : Int} {c : Cu} {s : State} (hk : k < 8) (ho : o ≠ k) (f : Cu → Cu) : ∃ cu, getAt cu k = c ∧
    modCu o f (modCu k (fun _ => c) (trackVloop i s)) = { s with link := { s.link with cu := cu } } := by
  have hget : cuAt k (modCu o f (modCu k (fun _ => c) (trackVloop i s))) = c :=
    (cuAt_modCu_other f _ ho.symm).trans (cuAt_modCu_same _ _ hk)
  have hunit (u : Nat) (g : Cu → Cu) (w : Vector Cu 8) : ∃ cu, modCu u g { s with link := { s.link with cu := w } } =
      { s with link := { s.link with cu := cu } } := ⟨_, rfl⟩
  obtain ⟨w, hw⟩ : ∃ w, trackVloop i s = { s with link := { s.link with cu := w } } := ⟨_, rfl⟩
  obtain ⟨x, hx⟩ := hunit k (fun _ => c) w
  obtain ⟨y, hy⟩ := hunit o f x
  rw [hw, hx, hy] at hget
  exact ⟨y, hget, by rw [hw, hx, hy]⟩

/-- The unit of the direction computes the next duty from the reference less the string current (R151, R152). -/
theorem computePeriod_current {s : State} {k : Nat} {i iSum : Int} {run : Cu × Bool} (hm : s.sp.mode = .stringCurrent)
    (hoff : s.sp.modeOff = false) (hd : s.sp.dwell = 0) (hi : limI (divT s.sp.r 65536) s = i) (hloop : loopOf s.sp.dir s = k) (hk : k < 8)
    (hv : k ≠ s.link.vloop) (ho : loopOf (opposite s.sp.dir) s ≠ k) (hcu : (cuAt k s).state = .run)
    (hrun : cuRun (cuAt k s) (i - iSum) s.link.lat.dutyMin s.link.lat.dutyMax = run) (hwrap : run.2 = false)
    (hsat : run.1.sat < (cuAt k s).satMax) : ∃ cu, getAt cu k = run.1 ∧ computePeriod iSum s = { s with
      sp := { s.sp with iRef := i }
      link := { s.link with
        cu := cu, computed := true
        next := { act := true, held := false, run := true, en := s.sp.en, duty := run.1.out.toNat, angles := s.sp.ang } } } := by
  have href : currentRef s = (i, trackVloop i s) := hi ▸ currentRef_current hm hoff hd
  have hcu' : cuAt k (trackVloop i s) = cuAt k s := cuAt_modCu_other _ s hv
  have hloop' (d : Dir) : loopOf d (trackVloop i s) = loopOf d s := loopOf_modCu ..
  have hduty : runDuty k (i - iSum) (trackVloop i s) = (run.1.out, modCu k (fun _ => run.1) (trackVloop i s)) :=
    runDuty_ok hk (hcu' ▸ hrun) hwrap (hcu' ▸ hsat)
  obtain ⟨cu, hget, hunits⟩ := dutyUnits_eq (s := s) (c := run.1) (i := i) hk ho
    (fun c => if c.state == .fenced then c else cuTrack c (i - iSum) run.1.out)
  refine ⟨cu, hget, ?_⟩
  unfold computePeriod
  rw [href]
  dsimp only
  rw [show (trackVloop i s).sp = s.sp from rfl, hloop', hloop', hloop, hcu', hcu, if_pos (show (CuState.run == CuState.run) = true from rfl),
    hduty, hoff]
  dsimp only
  rw [hunits]
  rw [if_neg (by simp)]
  dsimp only
  congr 2

/-- In STRING_CURRENT a frame in time leads to the computation, on a state z that keeps the units, their roles and the limits. -/
theorem sampleFrame_current {l : Lane} {t c : Nat} {b : List Byte} {s : State} (hc : cRuns s = true) (hp : s.pair.paired = false)
    (hh : s.pair.handing = false) (hheld : s.pair.laneHeld = false) (hw : wired l s = true) (hup : laneUp l s = true) (hb : sampleOk b = true)
    (huse : s.link.usable = false) (h0 : 0 < s.tb.boundaries) (hfrom : peakNs s ≤ t) (hto : t ≤ sampleBy s) (hm : s.sp.mode = .stringCurrent)
    (hin : inControl s = true) (hstop : (parseSample b).stopped = false) (hflip : s.sp.flipDue = false) (hquiet : 0 < s.sp.quiet) :
    ∃ z, sampleFrame l t b c (sampleStart s) = computePeriod (iSumOf (parseSample b) s.sp.en s.link.stage.iphLsb) z ∧
      Only [.now, .link, .sp, .est, .flt] (sampleStart s) z ∧ (∃ h q, z.sp = { s.sp with hist := h, quiet := q }) ∧
      z.link.cu = s.link.cu ∧ z.link.vloop = s.link.vloop ∧ z.link.lat = s.link.lat ∧ (∀ d, loopOf d z = loopOf d s) ∧
      z.link.sample = parseSample b ∧ z.link.moved = [] := by
  obtain ⟨w, ⟨l0, l1, hconf⟩, -, heff⟩ :=
    sampleFrame_used (c := c) (s := sampleStart s) hp hh hheld hc hw (.inl hflip) hb hup huse h0 hfrom hto
  obtain ⟨er, rn, q, f, hchecks, -, -⟩ := sampleChecks_eq (x := parseSample b) (s := sampleKept (parseSample b) t c w) (.inl hstop)
  have honlyW : Only [.now, .link] (sampleStart s) w := by
    rw [hconf]
    exact only_trans (only_mono (only_atTime t _) (by simp)) (only_mono (only_link _ (atTime t (sampleStart s))) (by simp))
  generalize hy : sampleChecks (parseSample b) (sampleKept (parseSample b) t c w) = y at hchecks
  have honlyY : Only [.now, .link, .est, .flt] (sampleStart s) y := by
    rw [hchecks]
    exact only_trans (only_mono honlyW (by simp)) (only_trans (only_mono (only_sampleKept (parseSample b) t c w) (by simp))
      (only_mono (only_linkFlt _ f (sampleKept (parseSample b) t c w)) (by simp)))
  have hsp : y.sp = s.sp := honlyY .sp (by decide)
  have hpair : y.pair = s.pair := honlyY .pair (by decide)
  have hlink : y.link = { (sampleKept (parseSample b) t c w).link with dseqErr := er, dseqRun := rn, faultsReq := q } := by rw [hchecks]
  have hruns : (y.sp.mode.running && inControl y) = true := by
    rw [show inControl y = inControl s by rw [hchecks, hconf]; rfl, hin, hsp, hm]
    rfl
  rw [useSample_eq, hy] at heff
  dsimp only at heff
  rw [tracks_alone (by rw [hpair]; exact hp), if_neg Bool.false_ne_true, if_pos hruns, loadStepTest_quiet _ (by rw [hsp]; exact hquiet)] at heff
  refine ⟨_, heff.trans (by rw [hconf]; rfl), only_trans (only_mono honlyY (by simp)) (only_mono (only_sp _ y) (by simp)), ⟨_, _, by rw [hsp]⟩,
    ?_, ?_, ?_, fun d => ?_, ?_, ?_⟩
  · rw [hlink, hconf]; rfl
  · rw [hlink, hconf]; rfl
  · rw [hlink, hconf]; rfl
  · cases d <;> (dsimp only [loopOf]; rw [hlink, hconf]; rfl)
  · rw [hlink]; rfl
  · rw [hlink, hconf]; rfl

/-- Settles O21: by `sampleFrame_current` and `computePeriod_current`. -/
theorem currentLoopComputesTheDuty : Obligations.CurrentLoopComputesTheDuty := by
  unfold Obligations.CurrentLoopComputesTheDuty
  intro l t b c s hl hc hp hh hheld hw hup hb huse h0 hfrom hto hm hin hstop hoff hd hflip hquiet k x e run hk hv ho hcu hwrap hsat
  obtain ⟨z, heff, honly, ⟨h, q, hzs⟩, hzcu, hzv, hzlat, hloop, hsample, hmoved⟩ :=
    sampleFrame_current (t := t) (c := c) hc hp hh hheld hw hup hb huse h0 hfrom hto hm hin hstop hflip hquiet
  have hunit : cuAt k z = cuAt k s := congrArg (getAt · k) hzcu
  obtain ⟨cu, hget, hcomp⟩ := computePeriod_current (s := z) (k := k) (run := run) (i := clampI (-s.sp.chgLim) s.sp.disLim (divT s.sp.r 65536))
    (iSum := iSumOf x s.sp.en s.link.stage.iphLsb) (by rw [hzs]; exact hm) (by rw [hzs]; exact hoff) (by rw [hzs]; exact hd)
    (by rw [limI, hzs]) (by rw [hzs]; exact hloop _) hk (hzv ▸ hv) (by rw [hzs]; exact (hloop _).symm ▸ ho) (hunit ▸ hcu)
    (by rw [hunit, hzlat]) hwrap (hunit ▸ hsat)
  refine ends_sampleFrame hl (heff.trans hcomp) hmoved (only_trans honly (only_mono (only_linkSp _ _ z) (by simp))) (by decide) (by decide)
    ⟨hsample, rfl, rfl, rfl, rfl, ?_, hget, rfl⟩
  rw [hzs]
  rfl

end Sys2Proof.Proofs
end

section
/-! PROOFS. The DUTY frame of a module alone, and the service request after it. -/
namespace Sys2Proof.Proofs
open Sys2Proof Sys2Proof.Machine Sys2Proof.Laws

/-! ### What leaves (R137, R141) -/

/-- An effect that sends o x for each x with p x adds those outputs and changes nothing else. -/
theorem forAll_emit {α : Type} {xs : List α} {f : α → State → State} {p : α → Bool} {o : α → Output} {s : State}
    (h : ∀ x out, f x { s with out := out } = { s with out := out ++ if p x then [o x] else [] }) :
    forAll xs f s = { s with out := s.out ++ (xs.filter p).map o } := by
  suffices hall : ∀ out, forAll xs f { s with out := out } = { s with out := out ++ (xs.filter p).map o } from hall s.out
  induction xs with
  | nil => exact fun out => by rw [List.filter_nil, List.map_nil, List.append_nil]; rfl
  | cons x xs ih =>
    intro out
    have hcons : forAll (x :: xs) f { s with out := out } = forAll xs f (f x { s with out := out }) := rfl
    rw [hcons, h, ih]
    cases hx : p x <;> simp [hx]

theorem stageLane_alone {s : State} (hp : s.pair.paired = false) (l : Lane) : stageLane l s = laneNo l := by simp [stageLane, hp]

/-- The DUTY frames of a module alone: one on every wired lane. -/
def dutyFrames (seq : Nat) (d : DutyOut) (s : State) : List Output :=
  ([Lane.l0, Lane.l1].filter (wired · s)).map fun ln => .dutyFrame (laneNo ln) (dutyBytes seq d)

theorem mem_dutyFrames {seq : Nat} {d : DutyOut} {s : State} (l : Lane) :
    .dutyFrame (laneNo l) (dutyBytes seq d) ∈ dutyFrames seq d s ↔ wired l s = true := by
  cases l <;> simp [dutyFrames, laneNo, wired]

/-- A module alone sends a DUTY frame. -/
theorem sendDuty_alone {seq : Nat} {d : DutyOut} {s : State} (hp : s.pair.paired = false) (hf : s.pair.fenceIn = false) :
    forAll [Lane.l0, Lane.l1] (fun ln s =>
      if wired ln s && !s.pair.fenceIn then emit (.dutyFrame (stageLane ln s) (dutyBytes seq d)) s else s) s =
      { s with out := s.out ++ dutyFrames seq d s } :=
  forAll_emit fun ln out => by
    show (if wired ln s && !s.pair.fenceIn then emit (.dutyFrame (stageLane ln s) (dutyBytes seq d)) { s with out := out }
      else { s with out := out }) = _
    rw [hf, stageLane_alone hp]
    cases wired ln s <;> simp [emit]

/-- The service request of a module alone goes to its service lanes under the next TAG. -/
theorem sendService_eq {s : State} (hp : s.pair.paired = false) (hf : s.pair.fenceIn = false) : ∃ i f c sv tg o,
    sendService s = { s with
      link := { s.link with identReq := i, faultsReq := f, clearReq := c, svc := sv, tag := tg }, out := s.out ++ o } ∧
    (∀ n b, .dutyFrame n b ∉ o) ∧
    ∀ op ln, svcNext s = some op → ln ∈ svcLanes s → tg = (s.link.tag + 1) % 256 ∧
      .stageService (laneNo ln) (svcFrame op s.link.tag []) ∈ o ∧ ⟨op, s.link.tag, 0⟩ ∈ sv := by
  have hsame : s = { s with out := s.out ++ [] } := by rw [List.append_nil]
  unfold sendService
  cases hnext : svcNext s with
  | none => exact ⟨_, _, _, _, _, [], hsame, by simp, fun op ln h => by cases h⟩
  | some op =>
    dsimp only
    by_cases hnone : (svcLanes s).isEmpty = true
    · rw [if_pos hnone]
      refine ⟨_, _, _, _, _, [], hsame, by simp, fun _ ln _ hln => ?_⟩
      rw [List.isEmpty_iff.1 hnone] at hln
      cases hln
    · rw [if_neg hnone, if_neg (by simp [hf]),
        forAll_emit (p := fun _ => true) (o := fun ln => .stageService (laneNo ln) (svcFrame op s.link.tag []))
          (fun ln out => by rw [← stageLane_alone hp]; rfl)]
      refine ⟨_, _, _, _, _, _, rfl, by simp, fun op' ln hop hln => ?_⟩
      cases hop
      exact ⟨rfl, by simpa using ⟨ln, hln, rfl⟩, by simp⟩

/-! ### DUTY_SEND (R135, R141, R143, R163) -/

/-- Elsewhere than at t_D, and after the frame of the period, nothing leaves. -/
theorem dutySend_idle {t : Nat} {s : State} (hc : cRuns s = true) (hp : s.pair.paired = false)
    (h : (decide (dutyAt s ≤ t + 10) && decide (t ≤ dutyAt s + 10) && !s.link.sent) = false) : dutySend t s = s := by
  refine guardOn_false ?_ _ s
  rw [hc, drivesOutputs, hp]
  revert h
  cases s.link.sent <;> simp

/-- The state that has made the DUTY frame d. -/
def dutyMade (overrun : Bool) (d : DutyOut) (s : State) : State :=
  { s with link := { s.link with
      seq := (s.link.seq + 1) % 65536, last := d, sent := true, offSent := s.link.offReq
      overRun := if overrun then s.link.overRun + 1 else 0
      engine := if !s.sp.mode.running then .idle else if d.held then .held else .running } }

/-- At t_D the DUTY frame leaves, and the service request after it; then an overrun is judged. -/
theorem dutySend_sends {t : Nat} {s : State} (hc : cRuns s = true) (hp : s.pair.paired = false) (hs : s.pair.handSeq = none)
    (hf : s.pair.fenceIn = false) (hflip : s.sp.flipDue = false)
    (hnow : (decide (dutyAt s ≤ t + 10) && decide (t ≤ dutyAt s + 10) && !s.link.sent) = true) :
    let complete := decide (s.link.doneAt ≤ t)
    let overrun := s.link.usable && !complete
    let d := dutyOf complete s
    let seq := (s.link.seq + 1) % 65536
    ∃ v, dutySend t s = (if overrun then computeOverrun v else v) ∧ Only [.now, .link] s v ∧ v.link.seq = seq ∧ v.link.last = d ∧
      v.link.sent = true ∧ v.link.overRun = (if overrun then s.link.overRun + 1 else 0) ∧
      (∀ l, s.out = [] → (.dutyFrame (laneNo l) (dutyBytes seq d) ∈ v.out ↔ wired l s = true)) ∧
      ∀ op ln, svcNext s = some op → ln ∈ svcLanes s → v.link.tag = (s.link.tag + 1) % 256 ∧
        .stageService (laneNo ln) (svcFrame op s.link.tag []) ∈ v.out ∧ ⟨op, s.link.tag, 0⟩ ∈ v.link.svc := by
  intro complete overrun d seq
  have hg : (cRuns s && drivesOutputs s && !s.link.sent && decide (dutyAt s ≤ t + 10) && decide (t ≤ dutyAt s + 10)) = true := by
    rw [hc, drivesOutputs, hp]
    revert hnow
    cases s.link.sent <;> simp
  have hdwell : dwellEnd (atTime t s) = atTime t s := dwellEnd_none (.inl hflip)
  have hpass (n : Nat) : passLane n (atTime t s) = atTime t s := if_pos (by rw [show (atTime t s).pair.handSeq = none from hs]; rfl)
  generalize hy : dutyMade overrun d (atTime t s) = y
  have hpair : y.pair = s.pair := hy ▸ rfl
  have hpy : y.pair.paired = false := hpair ▸ hp
  have hfy : y.pair.fenceIn = false := hpair ▸ hf
  obtain ⟨i, f, c, sv, tg, o, hsvc, hno, hreq⟩ := sendService_eq (s := { y with out := y.out ++ dutyFrames seq d y }) hpy hfy
  have heff : dutySend t s = if overrun then computeOverrun (sendService { y with out := y.out ++ dutyFrames seq d y })
      else sendService { y with out := y.out ++ dutyFrames seq d y } := by
    unfold dutySend
    rw [guardOn_true hg, hdwell, hpass]
    show (let w := forAll [Lane.l0, Lane.l1] _ (dutyMade overrun d (atTime t s))
      let w := if w.pair.paired && w.pair.role == .active && inControl w then _ else w
      if overrun then computeOverrun (sendService w) else sendService w) = _
    rw [hy, sendDuty_alone hpy hfy]
    exact congrArg (fun w => if overrun then computeOverrun (sendService w) else sendService w) (if_neg (by rw [hpy]; exact Bool.false_ne_true))
  rw [hsvc] at heff
  have hout : y.out = s.out := hy ▸ rfl
  have hwired (l : Lane) : wired l y = wired l s := by cases l <;> (rw [← hy]; rfl)
  have honly : Only [.now, .link] s y := by
    rw [← hy]
    exact only_trans (only_mono (only_atTime t s) (by simp)) (only_mono (only_link _ (atTime t s)) (by simp))
  refine ⟨_, heff, only_trans honly (only_mono (only_linkOut _ _ y) (by simp)), ?_, ?_, ?_, ?_, fun l hnil => ?_, fun op ln hop hln => ?_⟩
  · rw [← hy]; rfl
  · rw [← hy]; rfl
  · rw [← hy]; rfl
  · rw [← hy]; rfl
  · rw [← hwired, ← mem_dutyFrames (seq := seq) (d := d)]
    show _ ∈ y.out ++ _ ++ o ↔ _
    rw [hout, hnil, List.nil_append, List.mem_append]
    exact or_iff_left (hno _ _)
  · have htag : y.link.tag = s.link.tag := hy ▸ rfl
    obtain ⟨h1, h2, h3⟩ := hreq op ln (by rw [← hop, ← hy]; rfl) (by rw [← hy]; exact hln)
    dsimp only at h1 h2 h3
    rw [htag] at h1 h2 h3
    exact ⟨h1, List.mem_append_right _ h2, h3⟩

theorem unitsOff_eq (s : State) : ∃ cu, unitsOff s = { s with link := { s.link with cu := cu } } := by
  unfold unitsOff forAll
  generalize [s.link.vloop, s.link.dis, s.link.chg] = us
  induction us generalizing s with
  | nil => exact ⟨_, rfl⟩
  | cons u us ih =>
    obtain ⟨x, hx⟩ := setCuState_eq u .off s
    obtain ⟨y, hy⟩ := ih { s with link := { s.link with cu := x } }
    refine ⟨y, ?_⟩
    show List.foldl _ (setCuState u .off s) us = _
    rw [hx, hy]

/-- A stop ends the run of the units and of the mode. -/
theorem stopTo_eq (m : Mode) (s : State) : ∃ (cu : Vector Cu 8) (p : SpRegs), stopTo m s = { s with
    sp := p, link := { s.link with cu := cu, engine := .idle, next := { s.link.next with run := false } } } ∧ p.mode = m := by
  obtain ⟨cu, h⟩ := unitsOff_eq s
  unfold stopTo endRun
  rw [h]
  exact ⟨cu, _, rfl, rfl⟩

/-- The module goes to STANDBY at once; what it has sent stays. -/
theorem toStandbyNow_sent (s : State) : (toStandbyNow s).link.seq = s.link.seq ∧ (toStandbyNow s).link.last = s.link.last ∧
    (toStandbyNow s).link.overRun = s.link.overRun ∧ (toStandbyNow s).out = s.out ∧ (toStandbyNow s).flt = s.flt ∧
    (s.sp.mode.running = true → (toStandbyNow s).sp.mode = .standby ∧ (toStandbyNow s).link.next.run = false) := by
  unfold toStandbyNow
  split
  · obtain ⟨cu, p, h, hm⟩ := stopTo_eq .standby s
    rw [h]
    exact ⟨rfl, rfl, rfl, rfl, rfl, fun _ => ⟨hm, rfl⟩⟩
  · next hm => exact ⟨rfl, rfl, rfl, rfl, rfl, fun h => absurd h hm⟩

/-- An overrun raises 0x4103; the third in a row ends the switching. -/
theorem computeOverrun_sent (s : State) : Only [.link, .flt, .sp] s (computeOverrun s) ∧ (computeOverrun s).link.seq = s.link.seq ∧
    (computeOverrun s).link.last = s.link.last ∧ (computeOverrun s).link.overRun = s.link.overRun ∧ (computeOverrun s).out = s.out ∧
    isActive 0x4103 wide (computeOverrun s) = true ∧ (s.link.overRun < 3 → (computeOverrun s).sp = s.sp) ∧
    (3 ≤ s.link.overRun → s.sp.mode.running = true → (computeOverrun s).sp.mode = .standby ∧ (computeOverrun s).link.next.run = false) := by
  obtain ⟨f, hf⟩ := raiseF_eq 0x4103 wide s
  have hcode := isActive_raiseF 0x4103 wide s
  have hr := only_raiseF 0x4103 wide s
  rw [hf] at hcode hr
  unfold computeOverrun
  dsimp only
  rw [hf]
  by_cases h : 3 ≤ s.link.overRun
  · obtain ⟨hseq, hlast, hrun, hout, hflt, hdown⟩ := toStandbyNow_sent { s with flt := f }
    rw [if_pos h]
    exact ⟨only_trans (only_mono hr (by simp)) (only_mono (only_toStandbyNow { s with flt := f }) (by simp)), hseq, hlast, hrun, hout,
      (isActive_of_flt hflt _ _).trans hcode, fun hlt => absurd h (Nat.not_le.2 hlt), fun _ => hdown⟩
  · rw [if_neg h]
    exact ⟨only_mono hr (by simp), rfl, rfl, rfl, rfl, hcode, fun _ => rfl, fun h3 => absurd h3 h⟩

/-- Settles O22: by `dutySend_sends`, `computeOverrun_sent` and `dutySend_idle`. -/
theorem dutyFramesLeave : Obligations.DutyFramesLeave := by
  unfold Obligations.DutyFramesLeave
  intro t s hl hc hp hs hf hflip complete base off d seq now
  refine ⟨fun hnow hin => ?_, fun hnow hlate huse => ?_,
    fun hnow => sends_whenLiveK (f := dutySend t) rfl hl (dutySend_idle (s := s.begin) hc hp hnow)⟩
  · obtain ⟨v, heff, honly, hseq, hlast, hsent, hrun, hduty, hsvc⟩ := dutySend_sends (s := s.begin) hc hp hs hf hflip hnow
    have hno : (s.link.usable && !complete) = false := by rcases hin with h | h <;> simp [h]
    rw [show (s.begin.link.usable && !decide (s.begin.link.doneAt ≤ t)) = false from hno] at heff hrun
    exact ends_of_effect (f := dutySend t) rfl hl heff honly
      ⟨hseq, hlast, hsent, hrun, (hduty .l0 rfl).2 rfl, hduty .l1 rfl, hsvc⟩
  · obtain ⟨v, heff, honly, hseq, hlast, -, hrun, hduty, -⟩ := dutySend_sends (s := s.begin) hc hp hs hf hflip hnow
    have hover : (s.link.usable && !complete) = true := by rw [huse, hlate]; rfl
    rw [show (s.begin.link.usable && !decide (s.begin.link.doneAt ≤ t)) = true from hover, if_pos rfl] at heff hrun
    obtain ⟨honly', hseq', hlast', hrun', hout', hcode, hfew, hmany⟩ := computeOverrun_sent v
    have hheld : d.held = true := by simp [d, base, hlate]
    have hsp : v.sp = s.sp := honly .sp (by decide)
    refine ends_of_effect (f := dutySend t) rfl hl heff (only_trans (only_mono honly (by simp)) (only_mono honly' (by simp)))
      ⟨hseq'.trans hseq, hlast'.trans hlast, hheld, hrun'.trans hrun, hcode, ?_, fun h => ?_, fun h hm => ?_⟩
    · exact hout'.symm ▸ (hduty .l0 rfl).2 rfl
    · exact (hfew (by rw [hrun]; exact Nat.succ_lt_succ h)).trans hsp
    · exact hmany (by rw [hrun]; exact Nat.succ_le_succ h) (hsp.symm ▸ hm)

end Sys2Proof.Proofs
end

section
/-! PROOFS. The ramp of the reference at a boundary. -/
namespace Sys2Proof.Proofs
open Sys2Proof Sys2Proof.Machine Sys2Proof.Laws

/-- Where a boundary takes the reference: to 0 while the target opposes the direction (R174), else to the target. -/
def rampGoal (s : State) : Int :=
  let tgt := targetOf s.sp.mode s * 65536
  if s.sp.mode != .busVoltage && opposes tgt s.sp.dir then 0 else tgt

/-- The two limits of a boundary, taken one after the other, are a clamp. -/
theorem limits_eq_clampI {lo hi : Int} (h : lo ≤ hi) (x : Int) :
    (let y := if x > hi then hi else x; if y < lo then lo else y) = clampI lo hi x := by
  dsimp only [clampI]
  split <;> split <;> omega

/-- A step towards `want` goes at most `step` far. -/
theorem approach_within {step : Int} (r want : Int) (h : 0 ≤ step) : r - step ≤ approach r want step ∧ approach r want step ≤ r + step := by
  unfold approach
  split
  · omega
  · split <;> omega

theorem clampI_bounds {lo hi : Int} (x : Int) (h : lo ≤ hi) : lo ≤ clampI lo hi x ∧ clampI lo hi x ≤ hi := by
  unfold clampI
  omega

/-- A clamp takes nothing further from a value within its limits. -/
theorem clampI_within {lo hi r x step : Int} (hlo : lo ≤ r) (hhi : r ≤ hi) (hx : r - step ≤ x ∧ x ≤ r + step) (h : 0 ≤ step) :
    r - step ≤ clampI lo hi x ∧ clampI lo hi x ≤ r + step := by
  unfold clampI
  omega

/-- A boundary takes the reference one step of the mode's rate towards its goal, and within the limits (R176). -/
theorem rampStep_r {s : State} {lo hi : Int} (hb : rampBounds s.sp.mode s = (lo, hi)) (h : lo ≤ hi) : (rampStep s).sp.r =
    clampI (lo * 65536) (hi * 65536) (approach s.sp.r (rampGoal s) (rampStepOf (rampRate s.sp.mode s) s)) := by
  rw [← limits_eq_clampI (Int.mul_le_mul_of_nonneg_right h (by decide))]
  unfold rampStep
  dsimp only
  rw [hb]
  rfl

/-- Settles O25: the reference is a clamp (`rampStep_r`) of a step that `approach_within` bounds. -/
theorem rampStaysInItsLimits : Obligations.RampStaysInItsLimits := by
  unfold Obligations.RampStaysInItsLimits
  intro s lo hi hb h
  rw [rampStep_r hb h]
  obtain ⟨hlo, hhi⟩ := clampI_bounds (approach s.sp.r (rampGoal s) (rampStepOf (rampRate s.sp.mode s) s))
    (Int.mul_le_mul_of_nonneg_right h (show (0 : Int) ≤ 65536 by decide))
  refine ⟨hlo, hhi, fun hstep hrlo hrhi => ?_⟩
  obtain ⟨hdown, hup⟩ := clampI_within hrlo hrhi (approach_within s.sp.r (rampGoal s) hstep) hstep
  omega

end Sys2Proof.Proofs
end

section
/-! PROOFS. The external set-points: samples, loss and return. -/
namespace Sys2Proof.Proofs
open Sys2Proof Sys2Proof.Machine Sys2Proof.Laws

/-! ### A source -/

@[simp] theorem sourceOf_modSource (k : ExtSource) (f : Source → Source) (s : State) : sourceOf k (modSource k f s) = f (sourceOf k s) := by
  cases k <;> rfl

/-- A change of a source leaves the rest of the set-point state as it is. -/
theorem modSource_sp (k : ExtSource) (f : Source → Source) (s : State) :
    ∃ a p, modSource k f s = { s with sp := { s.sp with ai := a, pi := p } } := by
  cases k
  · exact ⟨f s.sp.ai, s.sp.pi, rfl⟩
  · exact ⟨s.sp.ai, f s.sp.pi, rfl⟩

theorem only_modSource (k : ExtSource) (f : Source → Source) (s : State) : Only [.sp] s (modSource k f s) := by
  obtain ⟨a, p, h⟩ := modSource_sp k f s
  exact h ▸ only_sp _ s

theorem sourceOf_of_sp {s t : State} (h : t.sp = s.sp) (k : ExtSource) : sourceOf k t = sourceOf k s := by
  cases k <;> simp only [sourceOf, h]

theorem only_sourceSample (k : ExtSource) (x a : Int) (cond : Bool) (t : Nat) (s : State) :
    Only [.now, .sp] s (sourceSample k x a cond (atTime t s)) :=
  only_trans (only_mono (only_atTime t s) (by simp)) (only_mono (only_modSource k _ (atTime t s)) (by simp))

/-! ### Samples (R169) -/

theorem aiSpSample_voltage {s : State} (t : Nat) (x : Int) (op : Bool) (h : cfgN Ent.SP_AI_MODE s = 0) : aiSpSample t x op s =
    sourceSample .ai (clampI (-65536) 65536 (divT (x * 65536) 10000000)) (filterCoef 100 (cfg Ent.SP_AI_FILT s))
      (op || decide (10500000 < x.natAbs)) (atTime t s) := if_pos h

theorem aiSpSample_current {s : State} (t : Nat) (x : Int) (op : Bool) (h : cfgN Ent.SP_AI_MODE s ≠ 0) : aiSpSample t x op s =
    sourceSample .ai (clampI 0 65536 (divT ((x - 4000) * 65536) 16000)) (filterCoef 100 (cfg Ent.SP_AI_FILT s))
      (decide (x < 3600 ∨ 21000 < x)) (atTime t s) := by
  rw [Bool.decide_or]
  exact if_neg h

/-- The state in which a rising edge has been noted: a first one ends no period, a later one then gives its sample. -/
def risen (t : Nat) (s : State) : State := modSource .pi (fun c => { c with rise := some t }) (atTime t s)

theorem piSpEdge_first {s : State} (t high : Nat) (h : s.sp.pi.rise = none) : piSpEdge t high s = risen t s := by
  unfold piSpEdge
  dsimp only [atTime_sp]
  rw [h]
  rfl

/-- A later rising edge gives a sample of the frequency or of the duty of the period that it ends. -/
theorem piSpEdge_later {s : State} {t0 : Nat} (t high : Nat) (h : s.sp.pi.rise = some t0) :
    let per : Int := (t - t0 : Nat)
    let a := filterCoef (divT per 1000) (cfg Ent.SP_PI_FILT s)
    piSpEdge t high s =
      if cfgN Ent.SP_PI_MODE s = 0 then
        sourceSample .pi (wrapS 32 (divT ((1000000000 - cfg Ent.SP_PI_F0 s * per) * 65536) (per * (cfg Ent.SP_PI_F1 s - cfg Ent.SP_PI_F0 s))))
          a (decide (per < 5000) || decide (per > 1000000000)) (risen t s)
      else
        sourceSample .pi (clampI 0 65536 (divT (high * 65536) per)) a (decide (per < 50000) || decide (per > 10000000)) (risen t s) := by
  unfold piSpEdge
  dsimp only [atTime_sp]
  rw [h]
  rfl

theorem only_risen (t : Nat) (s : State) : Only [.now, .sp] s (risen t s) :=
  only_trans (only_mono (only_atTime t s) (by simp)) (only_mono (only_modSource .pi _ (atTime t s)) (by simp))

/-- The inputs' island is not fenced, and the input has no fault. -/
theorem inputOpen {c : Nat} {s : State} (hf : isFenced .f s = false) (hc : isActive c wide s = false) :
    ¬ (isFenced .f s.begin || isActive c wide s.begin) = true := by
  rw [show isFenced .f s.begin = false from hf, show isActive c wide s.begin = false from hc]
  decide

section
variable {s u : State} (hl : live s = true) (hf : isFenced .f s = false) {P : State → Prop} (ho : Only [.now, .sp] s.begin u)
  (hp : P { s.keepQueue u with store := s.store })
include hl hf ho hp

theorem ends_aiSpSample_of {t : Nat} {x : Int} {op : Bool} (hc : isActive 0x6040 wide s = false) (hu : aiSpSample t x op s.begin = u) :
    Ends (.aiSpSample t x op) s [.now, .sp] P :=
  ends_of_effect (f := fun s => if isFenced .f s || isActive 0x6040 wide s then s else aiSpSample t x op s) rfl hl
    ((if_neg (inputOpen hf hc)).trans hu) ho hp

theorem ends_piSpEdge_of {t high : Nat} (hc : isActive 0x6041 wide s = false) (hu : piSpEdge t high s.begin = u) :
    Ends (.piSpEdge t high) s [.now, .sp] P :=
  ends_of_effect (f := fun s => if isFenced .f s || isActive 0x6041 wide s then s else piSpEdge t high s) rfl hl
    ((if_neg (inputOpen hf hc)).trans hu) ho hp

end

section
variable {s : State} (hl : live s = true) (hf : isFenced .f s = false)
include hl hf

theorem ends_aiSpSample (t : Nat) (x : Int) (op : Bool) (hc : isActive 0x6040 wide s = false) :
    Ends (.aiSpSample t x op) s [.now, .sp] fun u =>
      u.now = max s.now t ∧ u.sp.pi = s.sp.pi ∧
      u.sp.ai.y = wrapS 32 (s.sp.ai.y + divT ((u.sp.ai.lastX - s.sp.ai.y) * filterCoef 100 (cfg Ent.SP_AI_FILT s)) 65536) ∧
      (cfgN Ent.SP_AI_MODE s = 0 → u.sp.ai.lastX = clampI (-65536) 65536 (divT (x * 65536) 10000000) ∧
        u.sp.ai.cond = (op || decide (10500000 < x.natAbs))) ∧
      (cfgN Ent.SP_AI_MODE s ≠ 0 → u.sp.ai.lastX = clampI 0 65536 (divT ((x - 4000) * 65536) 16000) ∧
        u.sp.ai.cond = decide (x < 3600 ∨ 21000 < x)) := by
  by_cases hm : cfgN Ent.SP_AI_MODE s = 0
  · exact ends_aiSpSample_of hl hf (only_sourceSample _ _ _ _ t s.begin) ⟨rfl, rfl, rfl, fun _ => ⟨rfl, rfl⟩, fun h => absurd hm h⟩ hc
      (aiSpSample_voltage (s := s.begin) t x op hm)
  · exact ends_aiSpSample_of hl hf (only_sourceSample _ _ _ _ t s.begin) ⟨rfl, rfl, rfl, fun h => absurd h hm, fun _ => ⟨rfl, rfl⟩⟩ hc
      (aiSpSample_current (s := s.begin) t x op hm)

theorem ends_piSpEdge_first {t high : Nat} (hc : isActive 0x6041 wide s = false) (h : s.sp.pi.rise = none) :
    Ends (.piSpEdge t high) s [.now, .sp] fun u => u.now = max s.now t ∧ u.sp.pi = { s.sp.pi with rise := some t } :=
  ends_piSpEdge_of hl hf (only_risen t s.begin) ⟨rfl, rfl⟩ hc (piSpEdge_first (s := s.begin) t high h)

theorem ends_piSpEdge_later {t high t0 : Nat} (hc : isActive 0x6041 wide s = false) (h : s.sp.pi.rise = some t0) :
    Ends (.piSpEdge t high) s [.now, .sp] fun u =>
      let per : Int := (t - t0 : Nat)
      u.now = max s.now t ∧ u.sp.pi.rise = some t ∧ u.sp.ai = s.sp.ai ∧
      u.sp.pi.y = wrapS 32 (s.sp.pi.y +
        divT ((u.sp.pi.lastX - s.sp.pi.y) * filterCoef (divT per 1000) (cfg Ent.SP_PI_FILT s)) 65536) ∧
      (cfgN Ent.SP_PI_MODE s ≠ 0 → u.sp.pi.lastX = clampI 0 65536 (divT (high * 65536) per)) ∧
      (cfgN Ent.SP_PI_MODE s = 0 → u.sp.pi.lastX = wrapS 32 (divT ((1000000000 - cfg Ent.SP_PI_F0 s * per) * 65536)
        (per * (cfg Ent.SP_PI_F1 s - cfg Ent.SP_PI_F0 s)))) := by
  have heff := piSpEdge_later (s := s.begin) t high h
  have honly (x a : Int) (cond : Bool) : Only [.now, .sp] s.begin (sourceSample .pi x a cond (risen t s.begin)) :=
    only_trans (only_risen t s.begin) (only_mono (only_modSource .pi _ _) (by simp))
  by_cases hm : cfgN Ent.SP_PI_MODE s = 0
  · exact ends_piSpEdge_of hl hf (honly _ _ _) ⟨rfl, rfl, rfl, rfl, fun h => absurd hm h, fun _ => rfl⟩ hc (heff.trans (if_pos hm))
  · exact ends_piSpEdge_of hl hf (honly _ _ _) ⟨rfl, rfl, rfl, rfl, fun _ => rfl, fun h => absurd h hm⟩ hc (heff.trans (if_neg hm))

end

/-! ### Loss (R170) -/

theorem piSilent_iff {s : State} : piSilent s = true ↔ s.sp.pi.rise.getD 0 + cfgN Ent.SP_LOS_TIME s * 1000000 ≤ s.now :=
  decide_eq_true_iff

theorem lossDue_iff {k : ExtSource} {s : State} : lossDue k s = true ↔
    ((sourceOf k s).cond = true ∧ (sourceOf k s).since + cfgN Ent.SP_LOS_TIME s * 1000000 ≤ s.now) ∨
    (k = .pi ∧ s.sp.pi.rise.getD 0 + cfgN Ent.SP_LOS_TIME s * 1000000 ≤ s.now) := by
  rw [← piSilent_iff, ← losNs]
  simp [lossDue]

/-- The state of a declared loss, before its action. -/
def lossDeclared (k : ExtSource) (s : State) : State :=
  raiseF (losCode k) wide (modSource k (fun c => { c with lost := true }) (lossBegins k s))

/-- A declared loss changes the source and its code. -/
theorem lossDeclared_sp (k : ExtSource) (s : State) :
    ∃ a p f, lossDeclared k s = { s with sp := { s.sp with ai := a, pi := p }, flt := f } := by
  obtain ⟨a, p, h⟩ := modSource_sp k (fun c => if c.cond then c else { c with cond := true, since := s.now, hold := c.y }) s
  obtain ⟨a', p', h'⟩ := modSource_sp k (fun c => { c with lost := true }) (lossBegins k s)
  obtain ⟨f, hf⟩ := raiseF_eq (losCode k) wide (modSource k (fun c => { c with lost := true }) (lossBegins k s))
  refine ⟨a', p', f, hf.trans ?_⟩
  rw [h', lossBegins, h]

theorem sourceOf_lossDeclared (k : ExtSource) (s : State) : (sourceOf k (lossDeclared k s)).lost = true ∧
    (sourceOf k (lossDeclared k s)).hold = if (sourceOf k s).cond then (sourceOf k s).hold else (sourceOf k s).y := by
  rw [lossDeclared, sourceOf_of_sp (only_raiseF _ _ _ .sp (by decide)), lossBegins, sourceOf_modSource, sourceOf_modSource]
  refine ⟨rfl, ?_⟩
  cases (sourceOf k s).cond <;> rfl

/-- Where its source is selected, a declared loss calls for STANDBY by the source's action. -/
theorem lossStandby_lossDeclared {k : ExtSource} {s : State} (hs : selected s = some k) :
    lossStandby (lossDeclared k s) = decide (losAction k s = 2) := by
  have hlost : (sourceOf k (lossDeclared k s)).lost = true := (sourceOf_lossDeclared k s).1
  obtain ⟨a, p, f, h⟩ := lossDeclared_sp k s
  have hsel : selected (lossDeclared k s) = some k := by rw [h]; exact hs
  have hact : losAction k (lossDeclared k s) = losAction k s := by rw [h]; cases k <;> rfl
  rw [lossStandby, hsel]
  dsimp only
  rw [hlost, hact, Bool.true_and]

theorem lossStandby_unselected {k : ExtSource} {s : State} (hs : selected s = none) : lossStandby (lossDeclared k s) = false := by
  obtain ⟨a, p, f, h⟩ := lossDeclared_sp k s
  have hsel : selected (lossDeclared k s) = none := by rw [h]; exact hs
  rw [lossStandby, hsel]

/-- The action of a loss at most orders the ramp-down. -/
theorem lossAction_sp (s : State) : ∃ a, lossAction s = { s with sp := { s.sp with accepted := a } } := by
  unfold lossAction orderDown guardOn
  split
  · split
    · exact ⟨_, rfl⟩
    · exact ⟨s.sp.accepted, rfl⟩
  · exact ⟨s.sp.accepted, rfl⟩

theorem lossAction_orders {s : State} (h : lossStandby s = true) (hm : s.sp.mode.running = true) (ht : s.sp.toStandby = false) :
    (lossAction s).sp.accepted = if s.sp.accepted = .opening then .opening else .standby := by
  rw [lossAction, if_pos (by rw [h, ht]; rfl), orderDown, guardOn_true hm]
  simp

theorem lossAction_none {s : State} (h : lossStandby s = false) : lossAction s = s := if_neg (by simp [h])

theorem sourceOf_lossAction (k : ExtSource) (s : State) : sourceOf k (lossAction s) = sourceOf k s := by
  obtain ⟨a, h⟩ := lossAction_sp s
  rw [h]
  cases k <;> rfl

theorem lossAction_flt (s : State) : (lossAction s).flt = s.flt := by
  obtain ⟨a, h⟩ := lossAction_sp s
  rw [h]

theorem isActive_lossDeclared (k : ExtSource) (s : State) : isActive (losCode k) wide (lossAction (lossDeclared k s)) = true :=
  (isActive_of_flt (lossAction_flt _) _ _).trans (isActive_raiseF _ _ _)

theorem only_spFlt (x : SpRegs) (f : FaultRegs) (s : State) : Only [.sp, .flt] s { s with sp := x, flt := f } := fun p hp => by
  cases p with
  | sp => exact absurd (by simp) hp
  | flt => exact absurd (by simp) hp
  | _ => rfl

theorem only_lossOfSignal (k : ExtSource) (s : State) : Only [.sp, .flt] s (lossAction (lossDeclared k s)) := by
  obtain ⟨a, p, f, h⟩ := lossDeclared_sp k s
  obtain ⟨x, h'⟩ := lossAction_sp (lossDeclared k s)
  rw [h', h]
  exact only_spFlt _ f s

/-! ### Loss and return, as commands -/

theorem signalGood_iff {k : ExtSource} {s : State} : signalGood k s = true ↔
    (sourceOf k s).cond = false ∧ (sourceOf k s).since + 100000000 ≤ s.now ∧
    ¬ (k = .pi ∧ s.sp.pi.rise.getD 0 + cfgN Ent.SP_LOS_TIME s * 1000000 ≤ s.now) := by
  rw [← piSilent_iff]
  simp [signalGood, and_assoc, imp_iff_not_or]

section
variable {s : State} (hl : live s = true) {k : ExtSource}
include hl

theorem ends_lossOfSignal (h : lossDue k s = true) : Ends (.lossOfSignal k) s [.sp, .flt] fun u =>
    (sourceOf k u).lost = true ∧ isActive (losCode k) wide u = true ∧ u.sp.mode = s.sp.mode ∧
    (sourceOf k u).hold = (if (sourceOf k s).cond then (sourceOf k s).hold else (sourceOf k s).y) ∧
    (selected s = some k → losAction k s = 2 → s.sp.mode.running = true → s.sp.toStandby = false →
      u.sp.accepted = (if s.sp.accepted = .opening then .opening else .standby)) ∧
    ((selected s = none ∨ (selected s = some k ∧ losAction k s ≠ 2)) → u.sp.accepted = s.sp.accepted) := by
  obtain ⟨hlost, hhold⟩ := sourceOf_lossDeclared k s.begin
  have hsource := sourceOf_lossAction k (lossDeclared k s.begin)
  obtain ⟨a, p, f, hv⟩ := lossDeclared_sp k s.begin
  obtain ⟨x, hu⟩ := lossAction_sp (lossDeclared k s.begin)
  have hsp : (lossDeclared k s.begin).sp = { s.sp with ai := a, pi := p } := congrArg State.sp hv
  refine ends_of_effect (f := lossOfSignal k) rfl hl (guardOn_true (show lossDue k s.begin = true from h) _ s.begin)
    (only_lossOfSignal k s.begin) ⟨(congrArg Source.lost hsource).trans hlost, isActive_lossDeclared k s.begin, ?_,
      (congrArg Source.hold hsource).trans hhold, fun hs ha hm ht => ?_, fun hno => ?_⟩
  · exact (congrArg (·.sp.mode) hu).trans (congrArg SpRegs.mode hsp)
  · have hstandby : lossStandby (lossDeclared k s.begin) = true :=
      (lossStandby_lossDeclared (s := s.begin) hs).trans (decide_eq_true ha)
    refine (lossAction_orders hstandby (by rw [hsp]; exact hm) (by rw [hsp]; exact ht)).trans ?_
    rw [hsp]
  · have hstays : lossStandby (lossDeclared k s.begin) = false := by
      rcases hno with hs | ⟨hs, ha⟩
      · exact lossStandby_unselected (s := s.begin) hs
      · exact (lossStandby_lossDeclared (s := s.begin) hs).trans (decide_eq_false ha)
    exact (congrArg (·.sp.accepted) (lossAction_none hstays)).trans (congrArg SpRegs.accepted hsp)

theorem sends_lossOfSignal (h : lossDue k s = false) : Sends (.lossOfSignal k) s [] :=
  sends_whenLiveK (f := lossOfSignal k) rfl hl (guardOn_false (show lossDue k s.begin = false from h) _ s.begin)

theorem ends_signalRestored (h : signalGood k s = true) : Ends (.signalRestored k) s [.sp, .flt] fun u =>
    sourceOf k u = { sourceOf k s with lost := false } ∧ isActive (losCode k) wide u = false := by
  refine ends_of_effect (f := signalRestored k) rfl hl (guardOn_true (show signalGood k s.begin = true from h) _ s.begin)
    (only_trans (only_mono (only_modSource k _ s.begin) (by simp)) (only_mono (only_clearF _ _ _) (by simp)))
    ⟨?_, isActive_clearF _ _ _⟩
  exact (sourceOf_of_sp (only_clearF _ _ _ .sp (by decide)) k).trans (sourceOf_modSource k _ s.begin)

theorem sends_signalRestored (h : signalGood k s = false) : Sends (.signalRestored k) s [] :=
  sends_whenLiveK (f := signalRestored k) rfl hl (guardOn_false (show signalGood k s.begin = false from h) _ s.begin)

end

/-- Settles O26: samples by the mode of their input; loss and return by `lossDue_iff` and `signalGood_iff`. -/
theorem setpointSources : Obligations.SetpointSources := by
  unfold Obligations.SetpointSources
  intro s hl
  refine ⟨fun t x op hf hc => ends_aiSpSample hl hf t x op hc,
    fun t high hf hc => ⟨ends_piSpEdge_first hl hf hc, fun t0 => ends_piSpEdge_later hl hf hc⟩,
    fun k => ⟨fun hd => ends_lossOfSignal hl (lossDue_iff.2 hd),
      fun hd => sends_lossOfSignal hl (Bool.eq_false_iff.2 fun h => hd (lossDue_iff.1 h))⟩,
    fun k => ⟨fun hc ht hp => ends_signalRestored hl (signalGood_iff.2 ⟨hc, ht, hp⟩),
      fun h => sends_signalRestored hl (Bool.eq_false_iff.2 fun hg => ?_)⟩⟩
  obtain ⟨hc, ht, -⟩ := signalGood_iff.1 hg
  rcases h with h | h
  · simp [hc] at h
  · omega

end Sys2Proof.Proofs
end

section
/-! PROOFS. Requests that a module serves: how one reaches its session, is checked in its turn, or waits for step 7. -/
namespace Sys2Proof.Proofs
open Sys2Proof Sys2Proof.Machine Sys2Proof.Laws

/-! ### How a request is received (R247, R248, R258) -/

/-- A command that is a request is received as one. -/
theorem exec_request {i : Instr} {r : Req} (h : requestOf i = some r) (s : State) : exec i s = whenLiveK (receive r) s := by
  cases i <;> cases h <;> rfl

/-- A request of good form reaches a module that acts for its string, at tier LIMITED or above. -/
structure IsServed (r : Req) (s : State) : Prop where
  acts : acts s = true
  reaches : reaches r s = true
  form : formOk r = true
  kind : r.h.kind = 1
  host : isFenced .h s = false
  noResponder : responderRuns s = false
  resumed : s.ses.resumeIn = 0
  replayed : s.ses.replayed = true
  tier : tierAtLeast .limited s = true

theorem isServed_of_arrives {r : Req} {x : Session} {s : State} (h : Arrives r x s) : IsServed r s := by
  obtain ⟨-, hacts, hreach, hform, hkind, hh, -, hresp, hres, hrep, htier, -⟩ := h
  exact ⟨hacts, hreach, hform, hkind, hh, hresp, hres, hrep, htier⟩

theorem isServed_of_asks {r : Req} {s : State} (h : Asks r s) : IsServed r s := by
  obtain ⟨-, hacts, hreach, hform, hkind, -, -, hh, hresp, hres, hrep, htier⟩ := h
  exact ⟨hacts, hreach, hform, hkind, hh, hresp, hres, hrep, htier⟩

theorem isServed_begin {r : Req} {s : State} (h : IsServed r s) : IsServed r s.begin :=
  ⟨h.acts, h.reaches, h.form, h.kind, h.host, h.noResponder, h.resumed, h.replayed, h.tier⟩

theorem tierAtLeast_watch {s : State} (h : tierAtLeast .limited s = true) : tierAtLeast .watch s = true := by
  exact decide_eq_true (Nat.le_trans (by decide) (of_decide_eq_true h))

/-- A member that acts is no partner without the ACTIVE role. -/
theorem acts_iff {s : State} : acts s = true ↔ (s.pair.paired && s.pair.role != .active) = false := by
  cases h : s.pair.paired <;> simp [acts, h]

theorem forcing_of_acts (r : Req) {s : State} (h : acts s = true) : forcing r s = false := by simp [forcing, acts_iff.1 h]

/-- A request that is served is judged by its session, or opens one. -/
theorem receive_of_isServed {r : Req} {s : State} (h : IsServed r s) (hop : opKnown r.op = true) :
    receive r s = if isOpen r then openRequest r s else inSession r s := by
  simp [receive, receiveOpen, h.reaches, h.form, h.kind, hop, h.host, h.noResponder, h.resumed, forcing_of_acts r h.acts,
    tierAtLeast_watch h.tier, acts_iff.1 h.acts, h.tier, h.replayed]

/-- An answer over UDP is one message. -/
theorem answer_udp {r : Req} {a : Word32} {p : Word16} {own : Bool} (h : r.h.via = .udp a p own) (st fl : Nat) (b : List Byte) (s : State) :
    answer r st fl b s = emit (.reply (mkReply r st fl b)) s := by
  simp [answer, sendReply, mkReply, h]

/-! ### Sessions -/

theorem id_of_sessionOf {id : Nat} {s : State} {x : Session} (h : sessionOf id s = some x) : x.id = id :=
  beq_iff_eq.1 (List.find?_some (p := fun y : Session => y.id == id) h)

theorem sessionOf_of_ses {s t : State} (h : t.ses.open_ = s.ses.open_) (id : Nat) : sessionOf id t = sessionOf id s := by
  simp only [sessionOf, h]

/-- A change that keeps identities changes the session it names. -/
theorem sessionOf_modSession {id : Nat} {f : Session → Session} {s : State} {x : Session} (hf : ∀ y, (f y).id = y.id)
    (h : sessionOf id s = some x) : sessionOf id (modSession id f s) = some (f x) := by
  have hid : ∀ y : Session, ((if y.id == id then f y else y).id == id) = (y.id == id) := fun y => by
    split
    · rw [hf]
    · rfl
  have hx : (x.id == id) = true := beq_iff_eq.2 (id_of_sessionOf h)
  unfold sessionOf at h
  simp only [sessionOf, modSession, modSes, List.find?_map, Function.comp_def, hid, h, Option.map_some, hx, if_true]

theorem only_ses (x : SessionRegs) (s : State) : Only [.ses] s { s with ses := x } := fun p hp => by
  cases p with
  | ses => exact absurd (by simp) hp
  | _ => rfl

theorem sessionOf_arrived {x : Session} {s : State} (h : sessionOf x.id s = some x) :
    sessionOf x.id (arrived x s) = some { x with last := s.now } := sessionOf_modSession (fun _ => rfl) h

/-! ### A request in its turn (R253, R255, R257) -/

theorem seqDiff_self (q : Nat) : seqDiff q q = 0 := by simp [seqDiff]

theorem runHeld_none (run : Req → Nat → State → State) (n : Nat) {id : Nat} {s : State} {z : Session} (h : sessionOf id s = some z)
    (hz : z.held = []) : runHeld run n id s = s := by
  cases n with
  | zero => rfl
  | succ n => simp [runHeld, h, hz]

/-- A request in its turn runs, and then what is held behind it. -/
theorem ordered_turn (run : Req → Nat → State → State) {r : Req} {x : Session} (s : State) (h : r.h.seq = x.next) :
    ordered run false r x s = runHeld run 16 x.id (run r x.id s) := by
  simp [ordered, h, seqDiff_self]

theorem inSession_turn {r : Req} {x : Session} {s : State} (hx : sessionOf r.h.ses s = some x) (hseq : r.h.seq ≠ 0)
    (hturn : r.h.seq = x.next) (hj : isFenced .j s = false) (hroom : 65536 ≤ journalFree s) (hopen : opensOnReceipt r = false) :
    inSession r s.begin = runHeld execute 16 x.id (execute r x.id (arrived x s)) := by
  have hfull : (isFenced .j (arrived x s) || decide (journalFree (arrived x s) < 65536)) = false := by
    rw [show isFenced .j (arrived x s) = false from hj, Bool.false_or]
    exact decide_eq_false (Nat.not_lt.2 hroom)
  have hfind : sessionOf r.h.ses s.begin = some x := hx
  unfold inSession
  rw [hfind]
  dsimp only
  rw [if_neg hseq, show openOnReceipt r x _ = _ from if_neg (by simp [hopen])]
  exact (congrArg (ordered execute · r x (arrived x s)) hfull).trans (ordered_turn execute _ hturn)

/-- What a check leaves of the session: at most its snapshot changes. -/
theorem keepSnap_leaves {id : Nat} {s : State} {x : Session} (b : BlockAnswer) (h : sessionOf id s = some x) :
    let u := keepSnap id b s
    Only [.ses] s u ∧ u.ses.batch = s.ses.batch ∧ sessionOf id u = some { x with snap := b.snap } :=
  ⟨only_ses _ s, rfl, sessionOf_modSession (s := modSes (fun q => { q with snapNo := b.snapNo }) s) (fun _ => rfl) h⟩

/-- A request that is executed joins the batch with the reply that the checks give, and its session's number advances. -/
theorem execute_queues {r : Req} {id : Nat} {s : State} {x : Session} (hx : sessionOf id s = some x)
    (ho : opensAtOnce r (projected x s) (check r (projected x s) s).1.status = false) :
    let u := execute r id s
    Only [.ses] s u ∧ u.ses.batch = s.ses.batch ++ [.request r (check r (projected x s) s).1] ∧
    ∃ z, sessionOf id u = some z ∧ z.next = nextSeq r.h.seq ∧ z.staged = x.staged ∧ z.held = x.held := by
  unfold execute
  rw [hx]
  dsimp only
  rw [ho]
  generalize check r (projected x s) s = c
  obtain ⟨reply, b⟩ := c
  cases b with
  | none =>
    exact ⟨only_ses _ s, rfl, _, sessionOf_modSession (s := modSes _ s) (fun _ => rfl) hx, rfl, rfl, rfl⟩
  | some b =>
    obtain ⟨honly, hbatch, hsnap⟩ := keepSnap_leaves b hx
    exact ⟨only_trans honly (only_ses _ _), congrArg (· ++ [Work.request r reply]) hbatch, _,
      sessionOf_modSession (s := modSes _ (keepSnap id b s)) (fun _ => rfl) hsnap, rfl, rfl, rfl⟩

/-- Settles O5: in its turn a request is executed (`inSession_turn`), and `execute_queues` says what that leaves. -/
theorem sequencedRequestIsCheckedAndQueued : Obligations.SequencedRequestIsCheckedAndQueued := by
  unfold Obligations.SequencedRequestIsCheckedAndQueued
  intro i r x s hi h30 _ hop hready hopen hatOnce
  obtain ⟨harr, hturn, hheld⟩ := hready
  have hserved := isServed_of_arrives harr
  obtain ⟨hlive, -, -, -, -, -, hj, -, -, -, -, hx, hseq, hroom⟩ := harr
  have hown : sessionOf x.id s = some x := id_of_sessionOf hx ▸ hx
  obtain ⟨honly, hbatch, z, hz, hnext, hstaged, hzheld⟩ := execute_queues (sessionOf_arrived hown) hatOnce
  have heff : receive r s.begin = execute r x.id (arrived x s) := by
    rw [receive_of_isServed (isServed_begin hserved) hop, if_neg (by simp [isOpen, h30]),
      inSession_turn hx hseq hturn hj hroom hopen, runHeld_none _ _ hz (hzheld.trans hheld)]
  exact ends_of_effect (exec_request hi s) hlive heff (only_trans (only_ses _ s.begin) honly)
    ⟨hbatch, z, hz, hnext, hstaged, hzheld.trans hheld⟩

/-! ### A dispatch write outside the sequence (R206) -/

/-- The entry that a dispatch write names: that of the power, or of the current. -/
def dispatchEnt (power : Bool) : Entry := if power then Ent.DSP_P_REQ else Ent.DSP_I_REQ

theorem findEntry_dispatchEnt (power : Bool) : findEntry (dispatchEnt power).index (dispatchEnt power).sub = some (dispatchEnt power, 0) := by
  cases power <;> decide +kernel

theorem isEnt_dispatchEnt (power : Bool) : isEnt Ent.DSP_P_REQ (dispatchEnt power) = power := by cases power <;> decide

theorem dispatchEntry_dispatchEnt (power : Bool) (h : Hdr) (p : List Byte) :
    dispatchEntry (writeReq (dispatchEnt power) h p) = some (dispatchEnt power) := by
  have hfind : reqEntry (writeReq (dispatchEnt power) h p) = some (dispatchEnt power, 0) := findEntry_dispatchEnt power
  unfold dispatchEntry
  rw [hfind]
  cases power <;> decide

/-- A dispatch write outside any session that is served comes to its entry. -/
theorem receive_dispatchWrite {power : Bool} {h : Hdr} {p : List Byte} {s : State} (ha : Asks (writeReq (dispatchEnt power) h p) s)
    (hses : h.ses = 0) (hnone : sessionOf 0 s = none) :
    receive (writeReq (dispatchEnt power) h p) s.begin =
      dispatchRequest (writeReq (dispatchEnt power) h p) (dispatchEnt power) s.begin := by
  have hd := dispatchEntry_dispatchEnt power h p
  have hserved := isServed_begin (isServed_of_asks ha)
  obtain ⟨-, -, -, -, -, hseq, -⟩ := ha
  rw [receive_of_isServed hserved (by rfl), if_neg (by simp [isOpen, writeReq])]
  have hfind : sessionOf (writeReq (dispatchEnt power) h p).h.ses s.begin = none := hses ▸ hnone
  unfold inSession
  rw [hfind]
  dsimp only
  rw [if_pos (by simpa [mayHaveNoSession, hd] using ⟨hses, hseq, Or.inr rfl⟩)]
  unfold unsequenced
  simp [hd, show (writeReq (dispatchEnt power) h p).op = 2 from rfl]

section
variable {r : Req} {power : Bool} {v : Val} {s : State} (hv : decodeVal (dispatchEnt power) r.payload = some v)
  (hok : valueOk (dispatchEnt power) v = true)
include hv hok

theorem dispatchRequest_waits (h : dispatchMatches power s = true) : dispatchRequest r (dispatchEnt power) s =
    { s with dsp := { s.dsp with writes := s.dsp.writes ++ [{ req := r, power := power, value := valInt v }] } } := by
  simp [dispatchRequest, hv, hok, isEnt_dispatchEnt, h]

theorem dispatchRequest_refused (h : dispatchMatches power s = false) :
    dispatchRequest r (dispatchEnt power) s = answer r stAccess 0 [] s := by
  simp [dispatchRequest, hv, hok, isEnt_dispatchEnt, h]

end

/-- Settles O8: by whether the write matches the running mode. -/
theorem dispatchWritesWaitForStepSeven : Obligations.DispatchWritesWaitForStepSeven := by
  unfold Obligations.DispatchWritesWaitForStepSeven
  intro h p s power e i r v hasks hses hnone hv hok
  have hreq : requestOf i = some r := by cases power <;> rfl
  have heff : receive r s.begin = dispatchRequest r e s.begin := receive_dispatchWrite hasks hses hnone
  obtain ⟨hlive, -, -, -, -, -, ⟨a, port, own, hvia⟩, -⟩ := hasks
  refine ⟨fun hm => ?_, fun hm => ?_⟩
  · have hwaits := heff.trans (dispatchRequest_waits (power := power) (r := r) (s := s.begin) hv hok hm)
    exact ends_of_effect (exec_request hreq s) hlive hwaits (only_dsp _ s.begin) ⟨rfl, rfl⟩
  · have hrefused := heff.trans ((dispatchRequest_refused (power := power) (r := r) (s := s.begin) hv hok hm).trans
      (answer_udp hvia stAccess 0 [] s.begin))
    exact (exec_request hreq s).trans ((whenLiveK_next hlive).trans (by rw [hrefused]; rfl))

end Sys2Proof.Proofs
end

section
/-! PROOFS. Contactors, the timers of PRECHARGE_CLOSE and OPEN, and the trip. -/
namespace Sys2Proof.Proofs
open Sys2Proof Sys2Proof.Machine Sys2Proof.Laws

/-! ### Coils (R196) -/

theorem withSq_prot (f : State → State) (s : State) : (withSq f s).prot = (f s).prot := only_settleSq _ _ .prot (by decide)

/-- Commanding a coil changes its contactor, the count of closings, and since when all are off. -/
theorem setCoil_prot (w : Which) (on : Bool) (s : State) : ∃ c n t, c.coil = on ∧
    (setCoil w on s).prot = { putContactor w c s.prot with kOps := n, offSince := t } := by
  unfold setCoil
  extract_lets c
  split
  · next h => exact ⟨c, s.prot.kOps, s.prot.offSince, by simpa using h, by cases w <;> rfl⟩
  · rw [withSq_prot]
    extract_lets s1 p s2
    have h1 : s1.prot = s.prot := by unfold s1; split <;> rfl
    have h2 : s2.prot = { putContactor w { c with coil := on, coilAt := s1.now } s.prot with
        kOps := if on then incSat32 p.kOps else p.kOps, offSince := p.offSince } := by
      unfold s2 p
      rw [h1]
    split
    · exact ⟨_, _, _, rfl, congrArg (fun q : ProtRegs => { q with offSince := s2.now }) h2⟩
    · exact ⟨_, _, _, rfl, h2⟩

/-- All coils dropped: nothing else of protection changes. -/
theorem dropCoils_prot (s : State) : ∃ a b c n t, a.coil = false ∧ b.coil = false ∧ c.coil = false ∧
    (dropCoils s).prot = { s.prot with main := a, neg := b, pre := c, kOps := n, offSince := t } := by
  unfold dropCoils
  obtain ⟨b, _, _, hb, eb⟩ := setCoil_prot .neg false s
  obtain ⟨c, _, _, hc, ec⟩ := setCoil_prot .pre false (setCoil .neg false s)
  obtain ⟨a, n, t, ha, ea⟩ := setCoil_prot .main false (setCoil .pre false (setCoil .neg false s))
  exact ⟨a, b, c, n, t, ha, hb, hc, by simp only [ea, ec, eb, putContactor]⟩

theorem coilsOff_of_prot {s t : State} (h : t.prot = s.prot) : coilsOff t = coilsOff s := by simp only [coilsOff, h]

theorem coilsOff_dropCoils (s : State) : coilsOff (dropCoils s) = true := by
  obtain ⟨a, b, c, n, t, ha, hb, hc, e⟩ := dropCoils_prot s
  simp [coilsOff, e, ha, hb, hc]

/-! ### The end of a sequence -/

/-- A sequence that has ended with a result. -/
def seqEnded (r : SeqResult) (p : ProtRegs) : ProtRegs :=
  { p with result := r, seqWait := false, recheck := false, laneBy := none, abortTo := none }

theorem seqRuns_of_running {s : State} (h : s.prot.result = .running) : seqRuns s = true := by simp [seqRuns, h]

theorem endSeq_prot (r : SeqResult) {s : State} (h : seqRuns s = true) : (endSeq r s).prot = seqEnded r s.prot := by
  unfold endSeq
  rw [if_pos h]
  extract_lets s1 s2
  have h2 : s2.prot = s.prot := by unfold s2; split <;> rfl
  exact (only_clearF _ _ _ .prot (by decide)).trans (congrArg (seqEnded r) h2)

/-- The string is in a mode: nothing of protection changes. -/
theorem only_arrive (m : Mode) (s : State) : Only [.link, .sp] s (arrive m s) :=
  only_trans (only_stopTo m s) (only_mono (only_sp _ _) (by simp))

theorem only_toStep (k : Nat) (s : State) : Only [.prot] s (toStep k s) := only_prot _ s

theorem only_countBreak (s : State) : Only [.prot] s (countBreak s) := only_prot _ s

/-- A sequence that ends in a mode, from its last step. -/
theorem complete_arrives (m : Mode) (k : Nat) {s : State} (h : s.prot.result = .running) :
    let u := arrive m (endSeq .complete (toStep k s))
    Only [.prot, .ses, .flt, .sp, .link] s u ∧ u.prot.result = .complete ∧ u.prot.step = k ∧ u.sp.mode = m ∧
    u.prot.main = s.prot.main := by
  have honly := only_arrive m (endSeq .complete (toStep k s))
  have hprot : (arrive m (endSeq .complete (toStep k s))).prot = seqEnded .complete (toStep k s).prot :=
    (honly .prot (by decide)).trans (endSeq_prot .complete (seqRuns_of_running h))
  refine ⟨only_trans (only_mono (only_toStep k s) (by simp)) (only_trans (only_mono (endSeq_leaves .complete _).1 (by simp))
    (only_mono honly (by simp))), ?_, ?_, rfl, ?_⟩
  · rw [hprot]; rfl
  · rw [hprot]; rfl
  · rw [hprot]; rfl

/-- A step that commands one coil leaves the other contactors. -/
theorem coilStep_moves (w : Which) (on : Bool) (k : Nat) (s : State) : let u := toStep k (setCoil w on s)
    Only [.prot, .dio, .link] s u ∧ (contactor w u.prot).coil = on ∧ (∀ v, v ≠ w → contactor v u.prot = contactor v s.prot) ∧
    u.prot.step = k ∧ u.prot.stepAt = s.now := by
  have honly := only_setCoil w on s
  obtain ⟨c, n, t, hc, e⟩ := setCoil_prot w on s
  have hother (v : Which) (p : ProtRegs) (hv : v ≠ w) : contactor v (putContactor w c p) = contactor v p := by
    cases v <;> cases w <;> first | rfl | exact absurd rfl hv
  have hcoil (v : Which) : contactor v (setCoil w on s).prot = contactor v (putContactor w c s.prot) := by
    rw [e]
    cases v <;> rfl
  refine ⟨only_trans (only_mono honly (by simp)) (only_mono (only_toStep _ _) (by simp)), ?_, fun v hv => ?_, rfl,
    honly .now (by decide)⟩
  · exact (congrArg Contactor.coil ((hcoil w).trans (by cases w <;> rfl))).trans hc
  · exact (show contactor v (toStep k (setCoil w on s)).prot = contactor v (setCoil w on s).prot by cases v <;> rfl).trans
      ((hcoil v).trans (hother v _ hv))

/-- PRECHARGE_CLOSE fails with a code other than that of the resumed sequence: all coils are off. -/
theorem failPrecharge_fails {code : Nat} (hc : code ≠ 0x5015) {s : State} (h : s.prot.result = .running) :
    let u := failPrecharge code s
    Only [.prot, .ses, .flt, .dio, .link] s u ∧ coilsOff u = true ∧ u.prot.result = .failed ∧ isActive code wide u = true := by
  have hraise : (raiseF code wide s).prot = s.prot := only_raiseF _ _ s .prot (by decide)
  obtain ⟨a, b, c, n, t, ha, hb, hcc, e⟩ := dropCoils_prot (raiseF code wide s)
  have hdrop := only_dropCoils (raiseF code wide s)
  obtain ⟨hend, hcodes⟩ := endSeq_leaves .failed (dropCoils (raiseF code wide s))
  have hprot := endSeq_prot .failed (s := dropCoils (raiseF code wide s)) (seqRuns_of_running (by rw [e, hraise]; exact h))
  refine ⟨only_trans (only_mono (only_raiseF _ _ s) (by simp)) (only_trans (only_mono hdrop (by simp)) (only_mono hend (by simp))),
    ?_, ?_, hcodes _ _ (by simpa using hc) ?_⟩
  · simp [coilsOff, failPrecharge, hprot, seqEnded, e, ha, hb, hcc]
  · simp [failPrecharge, hprot, seqEnded]
  · rw [isActive_of_flt (hdrop .flt (by decide))]
    exact isActive_raiseF _ _ _

/-- The main and the precharge contactor open under OPEN (R201). -/
theorem openCoils_opens (s : State) : let u := openCoils s
    Only [.prot, .dio, .link] s u ∧ u.prot.main.coil = false ∧ u.prot.pre.coil = false ∧ u.prot.step = 3 ∧
    u.prot.breaks = s.prot.breaks := by
  obtain ⟨c, _, _, hc, ec⟩ := setCoil_prot .pre false s
  obtain ⟨a, _, _, ha, ea⟩ := setCoil_prot .main false (setCoil .pre false s)
  refine ⟨only_trans (only_mono (only_trans (only_setCoil _ _ s) (only_setCoil _ _ _)) (by simp)) (only_mono (only_toStep _ _) (by simp)),
    ?_⟩
  simp [openCoils, toStep, ea, ec, putContactor, ha, hc]

/-! ### The trip (R197) -/

/-- The latch of trips. -/
def latchView (p : ProtRegs) : Bool × Nat × Nat × Nat := (p.tripped, p.cause, p.tripInst, p.tripTime)

/-- What each step of a trip keeps: every code but 0x5015, the latch, and the result of a sequence that has FAILED. -/
structure TripKept (s t : State) : Prop where
  only : Only [.ses, .flt, .prot, .dio, .link, .sp] s t
  codes : CodesKept [0x5015] s t
  latch : latchView t.prot = latchView s.prot
  failed : s.prot.result = .failed → t.prot.result = .failed

theorem tripKept_trans {s t u : State} (h : TripKept s t) (k : TripKept t u) : TripKept s u :=
  ⟨only_trans h.only k.only, codesKept_trans h.codes k.codes, k.latch.trans h.latch, fun hf => k.failed (h.failed hf)⟩

theorem tripKept_refl (s : State) : TripKept s s := ⟨only_refl _ s, codesKept_refl _ s, rfl, id⟩

theorem tripKept_endSeq (s : State) : TripKept s (endSeq .failed s) := by
  obtain ⟨honly, hcodes⟩ := endSeq_leaves .failed s
  by_cases h : seqRuns s = true
  · have hprot := endSeq_prot .failed h
    exact ⟨only_mono honly (by simp), hcodes, by rw [hprot]; rfl, fun _ => by rw [hprot]; rfl⟩
  · have hsame : endSeq .failed s = s := if_neg h
    exact ⟨only_mono honly (by simp), hcodes, by rw [hsame], fun hf => by rw [hsame]; exact hf⟩

theorem tripKept_countBreak (s : State) : TripKept s (countBreak s) :=
  ⟨only_mono (only_countBreak s) (by simp), codesKept_of_only (only_countBreak s) (by decide) _, rfl, id⟩

theorem tripKept_stop (s : State) : TripKept s (stopTo .parked (dropCoils s)) := by
  have honly : Only [.dio, .link, .prot, .sp] s (stopTo .parked (dropCoils s)) :=
    only_trans (only_mono (only_dropCoils s) (by simp)) (only_mono (only_stopTo _ _) (by simp))
  obtain ⟨a, b, c, n, t, -, -, -, e⟩ := dropCoils_prot s
  have hprot : (stopTo .parked (dropCoils s)).prot = (dropCoils s).prot := only_stopTo _ _ .prot (by decide)
  exact ⟨only_mono honly (by simp), codesKept_of_only honly (by decide) _, by rw [hprot, e]; rfl, fun hf => by rw [hprot, e]; exact hf⟩

theorem coilsOff_stop (s : State) : coilsOff (stopTo .parked (dropCoils s)) = true :=
  (coilsOff_of_prot (only_stopTo _ _ .prot (by decide))).trans (coilsOff_dropCoils s)

/-- The work of a trip before its latch. -/
def tripWork (code inst : Nat) (s : State) : State :=
  let s := raiseF code inst s
  let on := !coilsOff s
  let s := endSeq .failed s
  let s := if on && isBreak s then countBreak s else s
  let s := stopTo .parked (dropCoils s)
  { s with link := { s.link with offReq := true } }

/-- What a trip does, where a sequence runs: its code, every coil off, MODE OFF, PARKED, the sequence FAILED. -/
structure TripWorked (code inst : Nat) (u : State) : Prop where
  active : isActive code inst u = true
  off : coilsOff u = true
  offReq : u.link.offReq = true
  parked : u.sp.mode = .parked
  failed : u.prot.result = .failed

theorem tripWork_works {code : Nat} (inst : Nat) (hc : code ≠ 0x5015) {s : State} (h : s.prot.result = .running) :
    let u := tripWork code inst s
    TripWorked code inst u ∧ Only [.prot, .ses, .flt, .dio, .link, .sp] s u ∧ latchView u.prot = latchView s.prot := by
  unfold tripWork
  extract_lets s1 on s2 s3 s4
  have hraise : s1.prot = s.prot := only_raiseF _ _ s .prot (by decide)
  have k2 : TripKept s1 s2 := tripKept_endSeq s1
  have hfailed : s2.prot.result = .failed := by
    unfold s2
    rw [endSeq_prot .failed (seqRuns_of_running (hraise ▸ h))]
    rfl
  have k3 : TripKept s2 s3 := by
    unfold s3
    split
    · exact tripKept_countBreak s2
    · exact tripKept_refl s2
  have k4 : TripKept s3 s4 := tripKept_stop s3
  have k : TripKept s1 s4 := tripKept_trans k2 (tripKept_trans k3 k4)
  have hactive : isActive code inst s4 = true := k.codes _ _ (by simpa using hc) (isActive_raiseF _ _ _)
  have hoff : coilsOff s4 = true := coilsOff_stop s3
  have hparked : s4.sp.mode = .parked := rfl
  clear_value s4
  refine ⟨⟨hactive, hoff, rfl, hparked, k4.failed (k3.failed hfailed)⟩, ?_, k.latch.trans (congrArg latchView hraise)⟩
  exact only_trans (only_mono (only_raiseF _ _ s) (by simp))
    (only_trans (only_mono k.only (by simp)) (only_mono (only_link _ s4) (by simp)))

/-- The latch of a trip: the first cause stays (R197). -/
def latchTrip (code inst : Nat) (s : State) : State :=
  if s.prot.tripped then s
  else { s with
    recd := { s.recd with trips := s.recd.trips + 1 }
    prot := { s.prot with tripped := true, cause := code, tripTime := s.now, tripInst := inst } }

theorem trip_eq (code inst : Nat) {s : State} (h : drives s = true) : trip code inst s = latchTrip code inst (tripWork code inst s) :=
  guardOn_true h _ s

theorem latchTrip_latches (code inst : Nat) (s : State) : Only [.prot, .recd] s (latchTrip code inst s) ∧
    (TripWorked code inst s → TripWorked code inst (latchTrip code inst s)) ∧
    latchView (latchTrip code inst s).prot = if s.prot.tripped then latchView s.prot else (true, code, inst, s.now) := by
  unfold latchTrip
  split
  · exact ⟨only_refl _ s, id, rfl⟩
  · exact ⟨only_trans (t := { s with recd := { s.recd with trips := s.recd.trips + 1 } }) (only_mono (only_recd _ s) (by simp))
      (only_mono (ps := [.prot]) (only_prot _ _) (by simp)),
      fun h => ⟨h.active, h.off, h.offReq, h.parked, h.failed⟩, rfl⟩

theorem trip_trips {code : Nat} (inst : Nat) (hc : code ≠ 0x5015) {s : State} (hd : drives s = true) (h : s.prot.result = .running) :
    let u := trip code inst s
    TripWorked code inst u ∧ Only [.prot, .ses, .flt, .dio, .link, .sp, .recd] s u ∧
    latchView u.prot = if s.prot.tripped then latchView s.prot else (true, code, inst, s.now) := by
  obtain ⟨hwork, honly, hview⟩ := tripWork_works inst hc h
  obtain ⟨honly', hkeeps, hlatch⟩ := latchTrip_latches code inst (tripWork code inst s)
  have htripped : (tripWork code inst s).prot.tripped = s.prot.tripped := congrArg Prod.fst hview
  dsimp only
  rw [trip_eq code inst hd]
  refine ⟨hkeeps hwork, only_trans (only_mono honly (by simp)) (only_mono honly' (by simp)), ?_⟩
  rw [hlatch, htripped, hview, honly .now (by decide)]

/-! ### SEQUENCE_TIMER (R200, R201) -/

/-- The timer's work in a step. -/
def timerStep (s : State) : State :=
  match s.prot.seq, s.prot.step with
  | .precharge, 2 =>
    if s.link.mean.vStr ≤ cfg Ent.PROT_WELD_V s then toStep 4 (setCoil .pre true s) else trip 0x5011 wide s
  | .precharge, 5 => toStep 6 (setCoil .pre false s)
  | .precharge, 6 => arrive .standby (endSeq .complete (toStep 7 s))
  | .open_, 3 => toStep 4 (setCoil .neg false s)
  | .open_, 4 => arrive .parked (endSeq .complete (toStep 5 s))
  | _, _ => s

theorem sequenceTimer_eq (s : State) :
    sequenceTimer s = guardOn (s.prot.result == .running && stepFor (stepTime s) s) timerStep s := rfl

theorem timerDue_begin (s : State) : (s.begin.prot.result == .running && stepFor (stepTime s.begin) s.begin) =
    (s.prot.result == .running && stepFor (stepTime s) s) := by
  rw [show stepTime s.begin = stepTime s from rfl]
  rfl

theorem stepFor_iff {ms : Nat} {s : State} : stepFor ms s = true ↔ s.prot.stepAt + ms * 1000000 ≤ s.now := by simp [stepFor]

/-- Step 6 of PRECHARGE_CLOSE, and every step of another sequence, waits for a contactor to open. -/
theorem stepTime_eq (s : State) : stepTime s =
    if s.prot.seq = .precharge ∧ s.prot.step ≠ 6 then cfgN Ent.PROT_K_CLOSE_T s else cfgN Ent.PROT_K_OPEN_T s := by
  unfold stepTime
  split
  · next h6 => simp [h6]
  · next hseq h6 => rw [if_pos ⟨hseq, h6⟩]
  · next h _ => rw [if_neg fun hp => h hp.1]

section
variable {s : State} (hl : live s = true)
include hl

/-- The timer of a step that has lasted its time. -/
theorem ends_sequenceTimer (hr : s.prot.result = .running) {ps : List Part} {P : State → Prop} {ms : Nat} (ht : stepTime s = ms)
    (hp : s.prot.stepAt + ms * 1000000 ≤ s.now)
    {u : State} (hu : timerStep s.begin = u) (ho : Only ps s.begin u) (h : P { s.keepQueue u with store := s.store }) :
    Ends .sequenceTimer s ps P := by
  have hdue : (s.prot.result == .running && stepFor (stepTime s) s) = true := by simp [hr, ht, stepFor_iff, hp]
  refine ends_of_effect (f := sequenceTimer) rfl hl (Eq.trans ?_ hu) ho h
  rw [sequenceTimer_eq, timerDue_begin, hdue, guardOn_true rfl]

theorem sends_sequenceTimer (hp : ¬ s.prot.stepAt + stepTime s * 1000000 ≤ s.now) : Sends .sequenceTimer s [] := by
  have hdue : (s.prot.result == .running && stepFor (stepTime s) s) = false := by
    rw [show stepFor (stepTime s) s = false from Bool.eq_false_iff.2 fun h => hp (stepFor_iff.1 h), Bool.and_false]
  refine sends_whenLiveK (f := sequenceTimer) rfl hl ?_
  rw [sequenceTimer_eq, timerDue_begin, hdue, guardOn_false rfl]

end

section
variable {s : State} (hl : live s = true) (hr : s.prot.result = .running) (hseq : s.prot.seq = .precharge)
include hl hr hseq

/-- Step 2: the string is at rest, and the precharge contactor closes (Table 8-2). -/
theorem ends_sequenceTimer_precharge2 (h : s.prot.step = 2) (hp : s.prot.stepAt + cfgN Ent.PROT_K_CLOSE_T s * 1000000 ≤ s.now)
    (hv : s.link.mean.vStr ≤ cfg Ent.PROT_WELD_V s) : Ends .sequenceTimer s [.prot, .dio, .link] fun u =>
      u.prot.pre.coil = true ∧ u.prot.step = 4 ∧ u.prot.stepAt = s.now ∧ u.prot.main = s.prot.main ∧ u.prot.neg = s.prot.neg := by
  have hwork : timerStep s.begin = toStep 4 (setCoil .pre true s.begin) := by
    simp only [timerStep, show s.begin.prot.seq = .precharge from hseq, show s.begin.prot.step = 2 from h]
    exact if_pos hv
  obtain ⟨honly, hcoil, hother, hstep, hat⟩ := coilStep_moves .pre true 4 s.begin
  exact ends_sequenceTimer hl hr (by rw [stepTime_eq, if_pos ⟨hseq, by omega⟩]) hp hwork honly
    ⟨hcoil, hstep, hat, hother .main (by decide), hother .neg (by decide)⟩

/-- Step 2 with a voltage on the string: a weld (Table 8-2). -/
theorem ends_sequenceTimer_weld (hd : drives s = true) (h : s.prot.step = 2)
    (hp : s.prot.stepAt + cfgN Ent.PROT_K_CLOSE_T s * 1000000 ≤ s.now)
    (hv : cfg Ent.PROT_WELD_V s < s.link.mean.vStr) : Ends .sequenceTimer s [.prot, .ses, .flt, .dio, .link, .sp, .recd] fun u =>
      TripWorked 0x5011 wide u ∧ latchView u.prot = if s.prot.tripped then latchView s.prot else (true, 0x5011, wide, s.now) := by
  have hwork : timerStep s.begin = trip 0x5011 wide s.begin := by
    simp only [timerStep, show s.begin.prot.seq = .precharge from hseq, show s.begin.prot.step = 2 from h]
    exact if_neg (Int.not_le.2 hv)
  obtain ⟨hw, honly, hlatch⟩ := trip_trips (code := 0x5011) wide (by decide) (s := s.begin) hd hr
  exact ends_sequenceTimer hl hr (by rw [stepTime_eq, if_pos ⟨hseq, by omega⟩]) hp hwork honly
    ⟨⟨hw.active, hw.off, hw.offReq, hw.parked, hw.failed⟩, hlatch⟩

/-- Step 5: the precharge contactor opens (Table 8-2). -/
theorem ends_sequenceTimer_precharge5 (h : s.prot.step = 5) (hp : s.prot.stepAt + cfgN Ent.PROT_K_CLOSE_T s * 1000000 ≤ s.now) :
    Ends .sequenceTimer s [.prot, .dio, .link] fun u =>
      u.prot.pre.coil = false ∧ u.prot.step = 6 ∧ u.prot.main = s.prot.main ∧ u.prot.neg = s.prot.neg := by
  have hwork : timerStep s.begin = toStep 6 (setCoil .pre false s.begin) := by
    simp only [timerStep, show s.begin.prot.seq = .precharge from hseq, show s.begin.prot.step = 5 from h]
  obtain ⟨honly, hcoil, hother, hstep, -⟩ := coilStep_moves .pre false 6 s.begin
  exact ends_sequenceTimer hl hr (by rw [stepTime_eq, if_pos ⟨hseq, by omega⟩]) hp hwork honly
    ⟨hcoil, hstep, hother .main (by decide), hother .neg (by decide)⟩

/-- Step 6: PRECHARGE_CLOSE ends in STANDBY (Table 8-2). -/
theorem ends_sequenceTimer_precharge6 (h : s.prot.step = 6) (hp : s.prot.stepAt + cfgN Ent.PROT_K_OPEN_T s * 1000000 ≤ s.now) :
    Ends .sequenceTimer s [.prot, .ses, .flt, .sp, .link] fun u =>
      u.prot.result = .complete ∧ u.prot.step = 7 ∧ u.sp.mode = .standby ∧ u.prot.main = s.prot.main := by
  have hwork : timerStep s.begin = arrive .standby (endSeq .complete (toStep 7 s.begin)) := by
    simp only [timerStep, show s.begin.prot.seq = .precharge from hseq, show s.begin.prot.step = 6 from h]
  obtain ⟨honly, hends⟩ := complete_arrives .standby 7 (s := s.begin) hr
  exact ends_sequenceTimer hl hr (by rw [stepTime_eq, if_neg fun hn => hn.2 h]) hp hwork honly hends

end

section
variable {s : State} (hl : live s = true) (hr : s.prot.result = .running) (hseq : s.prot.seq = .open_)
include hl hr hseq

/-- Step 3: the negative contactor opens (Table 8-3). -/
theorem ends_sequenceTimer_open3 (h : s.prot.step = 3) (hp : s.prot.stepAt + cfgN Ent.PROT_K_OPEN_T s * 1000000 ≤ s.now) :
    Ends .sequenceTimer s [.prot, .dio, .link] fun u =>
      u.prot.neg.coil = false ∧ u.prot.step = 4 ∧ u.prot.main = s.prot.main ∧ u.prot.pre = s.prot.pre := by
  have hwork : timerStep s.begin = toStep 4 (setCoil .neg false s.begin) := by
    simp only [timerStep, show s.begin.prot.seq = .open_ from hseq, show s.begin.prot.step = 3 from h]
  obtain ⟨honly, hcoil, hother, hstep, -⟩ := coilStep_moves .neg false 4 s.begin
  exact ends_sequenceTimer hl hr (by rw [stepTime_eq, if_neg (by simp [hseq])]) hp hwork honly
    ⟨hcoil, hstep, hother .main (by decide), hother .pre (by decide)⟩

/-- Step 4: OPEN ends in PARKED (Table 8-3). -/
theorem ends_sequenceTimer_open4 (h : s.prot.step = 4) (hp : s.prot.stepAt + cfgN Ent.PROT_K_OPEN_T s * 1000000 ≤ s.now) :
    Ends .sequenceTimer s [.prot, .ses, .flt, .sp, .link] fun u =>
      u.prot.result = .complete ∧ u.prot.step = 5 ∧ u.sp.mode = .parked := by
  have hwork : timerStep s.begin = arrive .parked (endSeq .complete (toStep 5 s.begin)) := by
    simp only [timerStep, show s.begin.prot.seq = .open_ from hseq, show s.begin.prot.step = 4 from h]
  obtain ⟨honly, hresult, hstep, hmode, -⟩ := complete_arrives .parked 5 (s := s.begin) hr
  exact ends_sequenceTimer hl hr (by rw [stepTime_eq, if_neg (by simp [hseq])]) hp hwork honly ⟨hresult, hstep, hmode⟩

end

/-! ### A wait that ends too late (R200, R201) -/

theorem inStep_iff {k : SeqKind} {n : Nat} {s : State} :
    inStep k n s = true ↔ s.prot.result = .running ∧ s.prot.seq = k ∧ s.prot.step = n := by
  simp [inStep, and_assoc]

/-- A row that ends a step's longest wait: its effect where the step has lasted the time of an entry. -/
def stepLate (k : SeqKind) (n : Nat) (e : Entry) (f : State → State) (s : State) : State :=
  guardOn (inStep k n s && stepFor (cfgN e s) s) f s

section
variable {k : SeqKind} {n : Nat} {e : Entry} {f : State → State} {s : State}

theorem stepLate_begin : stepLate k n e f s.begin = guardOn (inStep k n s && stepFor (cfgN e s) s) f s.begin := by
  unfold stepLate
  rw [show cfgN e s.begin = cfgN e s from rfl]
  rfl

theorem sends_stepLate {i : Instr} (he : exec i s = whenLiveK (stepLate k n e f) s) (hl : live s = true)
    (hp : ¬ s.prot.stepAt + cfgN e s * 1000000 ≤ s.now) : Sends i s [] := by
  have hno : stepFor (cfgN e s) s = false := Bool.eq_false_iff.2 fun h => hp (stepFor_iff.1 h)
  exact sends_whenLiveK he hl (by rw [stepLate_begin, hno, Bool.and_false, guardOn_false rfl])

theorem stepLate_acts (hr : s.prot.result = .running) (hk : s.prot.seq = k) (hn : s.prot.step = n)
    (hp : s.prot.stepAt + cfgN e s * 1000000 ≤ s.now) : stepLate k n e f s.begin = f s.begin := by
  rw [stepLate_begin, inStep_iff.2 ⟨hr, hk, hn⟩, stepFor_iff.2 hp, Bool.and_true, guardOn_true rfl]

/-- A wait of PRECHARGE_CLOSE that ends too late fails it with a code. -/
theorem ends_failPrecharge {i : Instr} {code : Nat} (he : exec i s = whenLiveK (stepLate .precharge n e (failPrecharge code)) s)
    (hc : code ≠ 0x5015) (hl : live s = true) (hr : s.prot.result = .running) (hk : s.prot.seq = .precharge) (hn : s.prot.step = n)
    (hp : s.prot.stepAt + cfgN e s * 1000000 ≤ s.now) : Ends i s [.prot, .ses, .flt, .dio, .link] fun u =>
      coilsOff u = true ∧ u.prot.result = .failed ∧ isActive code wide u = true := by
  obtain ⟨honly, hoff, hres, hact⟩ := failPrecharge_fails hc (s := s.begin) hr
  exact ends_of_effect he hl (stepLate_acts hr hk hn hp) honly ⟨hoff, hres, hact⟩

end

theorem exec_dischargeWaitTimeout (s : State) :
    exec .dischargeWaitTimeout s = whenLiveK (stepLate .precharge 1 Ent.PROT_DISCH_WAIT (failPrecharge 0x5014)) s := rfl

theorem exec_prechargeTimeout (s : State) :
    exec .prechargeTimeout s = whenLiveK (stepLate .precharge 4 Ent.PROT_PRE_TIMEOUT (failPrecharge 0x5013)) s := rfl

theorem exec_openWaitTimeout (s : State) : exec .openWaitTimeout s = whenLiveK (stepLate .open_ 2 Ent.PROT_OPEN_WAIT fun s =>
    openCoils (raiseF 0x5016 wide (countBreak s))) s := rfl

/-- The wait of OPEN for the current ends: the coils open under load, and a break is counted (Table 8-3). -/
theorem ends_openWaitTimeout {s : State} (hl : live s = true) (hr : s.prot.result = .running) (hk : s.prot.seq = .open_)
    (hn : s.prot.step = 2) (hp : s.prot.stepAt + cfgN Ent.PROT_OPEN_WAIT s * 1000000 ≤ s.now) :
    Ends .openWaitTimeout s [.prot, .flt, .dio, .link] fun u =>
      u.prot.main.coil = false ∧ u.prot.pre.coil = false ∧ u.prot.step = 3 ∧ u.prot.breaks = incSat32 s.prot.breaks ∧
      isActive 0x5016 wide u = true := by
  let s1 := raiseF 0x5016 wide (countBreak s.begin)
  have h1 : Only [.flt] (countBreak s.begin) s1 := only_raiseF _ _ _
  obtain ⟨honly, hmain, hpre, hstep, hbreaks⟩ := openCoils_opens s1
  have hact : isActive 0x5016 wide (openCoils s1) = true :=
    (isActive_of_flt (honly .flt (by decide)) _ _).trans (isActive_raiseF _ _ _)
  exact ends_of_effect (exec_openWaitTimeout s) hl (stepLate_acts hr hk hn hp)
    (only_trans (only_mono (only_countBreak s.begin) (by simp)) (only_trans (only_mono h1 (by simp)) (only_mono honly (by simp))))
    ⟨hmain, hpre, hstep, hbreaks.trans (congrArg ProtRegs.breaks (h1 .prot (by decide))), hact⟩

/-- Settles O28: one lemma for each step of SEQUENCE_TIMER, `trip_trips` for the weld, and the waits that end too late. -/
theorem sequenceTimersStep : Obligations.SequenceTimersStep := by
  unfold Obligations.SequenceTimersStep
  refine ⟨fun s hl hr => ?_, fun s hl hd hr hseq hstep hp hv => ?_⟩
  · intro past close open_
    refine ⟨fun hseq hstep hp hv => ends_sequenceTimer_precharge2 hl hr hseq hstep hp hv,
      fun hseq hstep hp => ends_sequenceTimer_precharge5 hl hr hseq hstep hp,
      fun hseq hstep hp => ends_sequenceTimer_precharge6 hl hr hseq hstep hp,
      fun hseq hstep hp => ends_sequenceTimer_open3 hl hr hseq hstep hp,
      fun hseq hstep hp => ends_sequenceTimer_open4 hl hr hseq hstep hp,
      fun hp => sends_sequenceTimer hl (by rwa [stepTime_eq]),
      fun hseq hstep => ⟨fun hp => ?_, fun hp => ?_⟩, fun hseq hstep => ⟨fun hp => ?_, fun hp => ?_⟩,
      fun hseq hstep => ⟨fun hp => ends_openWaitTimeout hl hr hseq hstep hp, fun hp => ?_⟩⟩
    · exact ends_failPrecharge (exec_dischargeWaitTimeout s) (by decide) hl hr hseq hstep hp
    · exact sends_stepLate (exec_dischargeWaitTimeout s) hl hp
    · exact ends_failPrecharge (exec_prechargeTimeout s) (by decide) hl hr hseq hstep hp
    · exact sends_stepLate (exec_prechargeTimeout s) hl hp
    · exact sends_stepLate (exec_openWaitTimeout s) hl hp
  · obtain ⟨t, hexec, honly, hw, hlatch⟩ := ends_sequenceTimer_weld hl hr hseq hd hstep hp hv
    refine ⟨t, hexec, honly, hw.active, hw.off, hw.offReq, hw.parked, hw.failed, ?_⟩
    cases htripped : s.prot.tripped
    · simpa [latchView, htripped] using hlatch
    · obtain ⟨hset, hcause, -, htime⟩ : t.prot.tripped = true ∧ t.prot.cause = s.prot.cause ∧ t.prot.tripInst = s.prot.tripInst ∧
          t.prot.tripTime = s.prot.tripTime := by simpa [latchView, htripped] using hlatch
      exact ⟨hset, fun h => absurd h (by decide), fun _ => ⟨hcause, htime⟩⟩

end Sys2Proof.Proofs
end

section
/-! PROOFS. The disagreement of the current sources, the silence of dispatch, and the end of a rest window. -/
namespace Sys2Proof.Proofs
open Sys2Proof Sys2Proof.Machine Sys2Proof.Laws

/-! ### Disagreement (R195) -/

theorem lasted_some (t ms now : Nat) : lasted (some t) ms now = true ↔ t + ms * 1000000 ≤ now := by simp [lasted]

theorem exec_xchkTimeout (s : State) : exec .xchkTimeout s =
    whenLiveK (fun s => guardOn (lasted s.prot.xchkSince (cfgN Ent.PROT_XCHK_T s) s.now) (raiseF 0x500C wide) s) s := rfl

section
variable {s : State} (hl : live s = true)
include hl

theorem ends_xchkTimeout (h : lasted s.prot.xchkSince (cfgN Ent.PROT_XCHK_T s) s.now = true) :
    Ends .xchkTimeout s [.flt] fun u => isActive 0x500C wide u = true :=
  ends_of_effect (exec_xchkTimeout s) hl (guardOn_true h (raiseF 0x500C wide) s.begin) (only_raiseF _ _ _) (isActive_raiseF _ _ s.begin)

theorem sends_xchkTimeout (h : lasted s.prot.xchkSince (cfgN Ent.PROT_XCHK_T s) s.now = false) : Sends .xchkTimeout s [] :=
  sends_whenLiveK (exec_xchkTimeout s) hl (guardOn_false h (raiseF 0x500C wide) s.begin)

/-! ### The rest window (R209) -/

theorem ends_restWindowEnd (h : restOpen s = false) : Ends .restWindowEnd s [.dsp] fun u => u.dsp = { s.dsp with restEnd := none } :=
  ends_of_effect (f := restWindowEnd) rfl hl (if_neg (Bool.eq_false_iff.1 h)) (only_dsp _ s.begin) rfl

theorem sends_restWindowEnd (h : restOpen s = true) : Sends .restWindowEnd s [] :=
  sends_whenLiveK (f := restWindowEnd) rfl hl (if_pos h)

end

/-! ### The silence of dispatch (R207) -/

/-- 0x5017 is raised, and the silence is counted no more. -/
def silenceRaised (s : State) : State := raiseF 0x5017 wide { s with dsp := { s.dsp with silentFrom := none } }

/-- A silence that is raised, with nothing else but it. -/
structure SilenceRaised (s u : State) : Prop where
  only : Only [.flt, .dsp] s u
  active : isActive 0x5017 wide u = true
  dsp : u.dsp = { s.dsp with silentFrom := none }

theorem keep_silenceRaised (s : State) : SilenceRaised s (keep silenceRaised s) where
  only := only_keep (only_trans (only_mono (only_dsp _ s) (by simp)) (only_mono (only_raiseF _ _ _) (by simp)))
  active := isActive_raiseF _ _ _
  dsp := only_raiseF _ _ _ .dsp (by decide)

/-- What is done in a silence (R207). -/
def silenceAct (s : State) : State :=
  match cfgN Ent.DSP_TIMEOUT_ACT s with
  | 0 => s
  | 1 => if s.sp.mode == .stringPower then setCfgI Ent.SP_P_SET 0 0 s else setCfgI Ent.SP_I_SET 0 0 s
  | _ => keep (orderDown false) s

theorem dispatchTimeout_eq (s : State) :
    dispatchTimeout s = guardOn (dispatchSilent s) (fun s => silenceAct (keep silenceRaised s)) s := rfl

/-- The set-point of a mode of dispatch. -/
def setEnt (m : Mode) : Entry := if m == .stringPower then Ent.SP_P_SET else Ent.SP_I_SET

theorem silenceAct_holds {s : State} (h : cfgN Ent.DSP_TIMEOUT_ACT s = 0) : silenceAct s = s := by simp only [silenceAct, h]

theorem silenceAct_zero {s : State} (h : cfgN Ent.DSP_TIMEOUT_ACT s = 1) : silenceAct s = setCfgI (setEnt s.sp.mode) 0 0 s := by
  simp only [silenceAct, h, setEnt]
  split <;> rfl

theorem silenceAct_down {s : State} (h : 2 ≤ cfgN Ent.DSP_TIMEOUT_ACT s) : silenceAct s = keep (orderDown false) s := by
  unfold silenceAct
  split
  · omega
  · omega
  · rfl

theorem dispatchSilent_iff {t : Nat} {s : State} (h0 : 0 < cfgN Ent.DSP_TIMEOUT s) (hsrc : cfgN Ent.SP_SOURCE s = 0)
    (hm : s.sp.mode = .stringCurrent ∨ s.sp.mode = .stringPower) (ht : s.dsp.silentFrom = some t) :
    dispatchSilent s = true ↔ t + cfgN Ent.DSP_TIMEOUT s * 1000000 ≤ s.now := by
  have hmode : (s.sp.mode == .stringCurrent || s.sp.mode == .stringPower) = true := by
    rcases hm with h | h <;> rw [h] <;> rfl
  simp [dispatchSilent, dispatchWatched, h0, hsrc, hmode, ht]

/-- A number put in force is the entry's value. -/
theorem cfg_setCfgI_same (e : Entry) (v : Int) {s : State} (hs : StoreInv s) : cfg e (setCfgI e 0 v s) = v :=
  congrArg valInt (cfgVal_setCfg_same e 0 (.num v) hs)

theorem cfg_setCfgI_other {e e' : Entry} (h : entryAddr e' ≠ entryAddr e) (v : Int) {s : State} (hs : StoreInv s) :
    cfg e' (setCfgI e 0 v s) = cfg e' s := congrArg valInt (cfgVal_setCfg_other (.num v) h hs)

/-- In a running mode the order to come down is written for step 6 (R477). -/
theorem orderDown_orders {s : State} (h : s.sp.mode.running = true) : orderDown false s =
    { s with sp := { s.sp with accepted := if s.sp.accepted = .opening then .opening else .standby } } := by
  have hacc : (if (false || s.sp.accepted == .opening) = true then ModeReq.opening else .standby) =
      if s.sp.accepted = .opening then .opening else .standby := by simp
  unfold orderDown
  rw [guardOn_true h]
  dsimp only
  rw [hacc]

/-- After a silence is raised the settings and the mode are as they were. -/
theorem silenceRaised_reads {s t : State} (h : SilenceRaised s.begin t) : cfgN Ent.DSP_TIMEOUT_ACT t = cfgN Ent.DSP_TIMEOUT_ACT s ∧
    t.sp = s.sp ∧ t.store = s.store :=
  ⟨cfgN_of_store (h.only .store (by decide)) _ _, h.only .sp (by decide), h.only .store (by decide)⟩

section
variable {s : State} (hl : live s = true)
include hl

theorem sends_dispatchTimeout (h : dispatchSilent s = false) : Sends .dispatchTimeout s [] :=
  sends_whenLive (f := dispatchTimeout) rfl hl
    ((dispatchTimeout_eq s.begin).trans (guardOn_false h (fun s => silenceAct (keep silenceRaised s)) s.begin))

variable (h : dispatchSilent s = true)
include h

/-- A silence is raised, and then acted on. -/
theorem ends_dispatchTimeout {ps : List Part} {P : State → Prop}
    (hacts : ∀ t, SilenceRaised s.begin t → ∃ u, silenceAct t = u ∧ Only ps s.begin u ∧ P (s.keepQueue u)) :
    Ends .dispatchTimeout s ps P := by
  obtain ⟨u, hu, honly, hp⟩ := hacts _ (keep_silenceRaised s.begin)
  have heff : dispatchTimeout s.begin = u :=
    ((dispatchTimeout_eq s.begin).trans (guardOn_true h (fun s => silenceAct (keep silenceRaised s)) s.begin)).trans hu
  exact ends_whenLive (f := dispatchTimeout) rfl hl (heff ▸ honly) (heff ▸ hp)

theorem ends_dispatchTimeout_holds (hact : cfgN Ent.DSP_TIMEOUT_ACT s = 0) : Ends .dispatchTimeout s [.flt, .dsp] fun u =>
    isActive 0x5017 wide u = true ∧ u.dsp = { s.dsp with silentFrom := none } := by
  refine ends_dispatchTimeout hl h fun t ht => ⟨t, silenceAct_holds ?_, ht.only, ht.active, ht.dsp⟩
  exact (silenceRaised_reads ht).1.trans hact

/-- The set-point of the mode takes zero, and any other entry keeps its value. -/
theorem ends_dispatchTimeout_zero (hact : cfgN Ent.DSP_TIMEOUT_ACT s = 1) (hs : StoreInv s) {e e' : Entry} (he : setEnt s.sp.mode = e)
    (hne : entryAddr e' ≠ entryAddr e) : Ends .dispatchTimeout s [.flt, .dsp, .store] fun u =>
      isActive 0x5017 wide u = true ∧ StoreInv u ∧ u.dsp = { s.dsp with silentFrom := none } ∧
      cfg e u = 0 ∧ cfg e' u = cfg e' s := by
  refine ends_dispatchTimeout hl h fun t ht => ?_
  obtain ⟨hread, hsp, hstore⟩ := silenceRaised_reads ht
  have hzero := silenceAct_zero (hread.trans hact)
  rw [hsp, he] at hzero
  have hinv : StoreInv t := (congrArg (storeWf · = true) hstore).mpr hs
  have hother := (cfg_setCfgI_other hne 0 hinv).trans (cfg_of_store hstore e' 0)
  exact ⟨_, hzero, only_trans (only_mono ht.only (by simp)) (only_mono (only_setCfgI e 0 0 t) (by simp)),
    ht.active, storePut_wf _ _ _ hinv, ht.dsp, cfg_setCfgI_same e 0 hinv, hother⟩

theorem ends_dispatchTimeout_down (hm : s.sp.mode.running = true) (hact : 2 ≤ cfgN Ent.DSP_TIMEOUT_ACT s) :
    Ends .dispatchTimeout s [.flt, .dsp, .sp] fun u =>
      isActive 0x5017 wide u = true ∧ u.dsp = { s.dsp with silentFrom := none } ∧
      u.sp = { s.sp with accepted := if s.sp.accepted = .opening then .opening else .standby } := by
  refine ends_dispatchTimeout hl h fun t ht => ?_
  obtain ⟨hread, hsp, -⟩ := silenceRaised_reads ht
  have hdown : keep (orderDown false) t =
      { t with sp := { t.sp with accepted := if t.sp.accepted = .opening then .opening else .standby } } := by
    rw [keep, orderDown_orders (hsp ▸ hm)]
  exact ⟨_, (silenceAct_down (hread ▸ hact)).trans hdown,
    only_trans (only_mono ht.only (by simp)) (only_mono (only_sp _ t) (by simp)), ht.active, ht.dsp,
    congrArg (fun x : SpRegs => { x with accepted := if x.accepted = ModeReq.opening then ModeReq.opening else .standby }) hsp⟩

end

/-- Settles O29: `dispatchSilent_iff` says when a silence is due, and what is done in it follows DSP_TIMEOUT_ACT. -/
theorem protectionAndDispatchTimers : Obligations.ProtectionAndDispatchTimers := by
  unfold Obligations.ProtectionAndDispatchTimers
  intro s hl
  refine ⟨fun t ht => ⟨fun hp => ?_, fun hp => ?_⟩, fun t ht => ⟨fun hp => ?_, fun hp => ?_⟩,
    fun t ht h0 hsrc hm => ⟨fun hp => ?_, fun hp => ?_⟩⟩
  · exact ends_xchkTimeout hl (ht ▸ (lasted_some _ _ _).2 hp)
  · exact sends_xchkTimeout hl (ht ▸ Bool.eq_false_iff.2 fun h => Nat.not_le.2 hp ((lasted_some _ _ _).1 h))
  · exact ends_restWindowEnd hl (by simpa [restOpen, ht] using hp)
  · exact sends_restWindowEnd hl (by simpa [restOpen, ht] using hp)
  · have h := (dispatchSilent_iff h0 hsrc hm ht).2 hp
    have hrun : s.sp.mode.running = true := by rcases hm with hm | hm <;> rw [hm] <;> rfl
    refine ⟨ends_dispatchTimeout_holds hl h, fun hact hs => ?_, ends_dispatchTimeout_down hl h hrun⟩
    rcases hm with hm | hm
    · obtain ⟨u, hexec, honly, hcode, hinv, hdsp, hzero, hother⟩ := ends_dispatchTimeout_zero hl h hact hs
        (e := Ent.SP_I_SET) (e' := Ent.SP_P_SET) (by rw [hm]; rfl) (by decide)
      exact ⟨u, hexec, honly, hcode, hinv, hdsp, fun hm' => absurd (hm.symm.trans hm') (by decide), fun _ => ⟨hzero, hother⟩⟩
    · obtain ⟨u, hexec, honly, hcode, hinv, hdsp, hzero, hother⟩ := ends_dispatchTimeout_zero hl h hact hs
        (e := Ent.SP_P_SET) (e' := Ent.SP_I_SET) (by rw [hm]; rfl) (by decide)
      exact ⟨u, hexec, honly, hcode, hinv, hdsp, fun _ => ⟨hzero, hother⟩, fun hm' => absurd (hm.symm.trans hm') (by decide)⟩
  · exact sends_dispatchTimeout hl (Bool.eq_false_iff.2 fun h => Nat.not_le.2 hp ((dispatchSilent_iff h0 hsrc hm ht).1 h))

end Sys2Proof.Proofs
end

section
/-! PROOFS. Rules of the safety functions: safe outputs that open, a demand that latches, and what a latch leaves. -/
namespace Sys2Proof.Proofs
open Sys2Proof Sys2Proof.Machine Sys2Proof.Laws

/-! ### The safety registers -/

theorem only_saf (x : SafetyRegs) (s : State) : Only [.saf] s { s with saf := x } := fun p hp => by
  cases p with
  | saf => exact absurd (by simp) hp
  | _ => rfl

/-- The state with other safety registers. -/
def withSaf (x : SafetyRegs) (s : State) : State := { s with saf := x }

@[simp] theorem withSaf_saf (x : SafetyRegs) (s : State) : (withSaf x s).saf = x := rfl
@[simp] theorem withSaf_withSaf (x y : SafetyRegs) (s : State) : withSaf x (withSaf y s) = withSaf x s := rfl

theorem only_withSaf (x : SafetyRegs) (s : State) : Only [.saf] s (withSaf x s) := only_saf x s

theorem raiseF_saf (c k : Nat) (s : State) : (raiseF c k s).saf = s.saf := only_raiseF c k s .saf (by decide)

theorem clearF_saf (c k : Nat) (s : State) : (clearF c k s).saf = s.saf := only_clearF c k s .saf (by decide)

/-- A code raised where a condition holds. -/
theorem raiseIf_leaves (p : Prop) [Decidable p] (c k : Nat) (s : State) : Only [.flt] s (if p then raiseF c k s else s) ∧
    (if p then raiseF c k s else s).saf = s.saf ∧ CodesKept [] s (if p then raiseF c k s else s) := by
  split
  · exact ⟨only_raiseF c k s, raiseF_saf c k s, codesKept_raiseF _ c k s⟩
  · exact ⟨only_refl _ s, rfl, codesKept_refl _ s⟩

/-- Safe outputs that drop change no safety register. -/
theorem withSq_saf (f : State → State) (s : State) : (withSq f s).saf = (f s).saf := only_settleSq _ _ .saf (by decide)

theorem safI_of_eff {s t : State} (h : t.saf.eff = s.saf.eff) (e : Entry) : safI e t = safI e s := by simp only [safI, h]

theorem safN_of_eff {s t : State} (h : t.saf.eff = s.saf.eff) (e : Entry) : safN e t = safN e s :=
  congrArg Int.toNat (safI_of_eff h e)

/-! ### Safe outputs that S does not enable (R216, R220, R229) -/

theorem allOpen_of_disabled {s : State} (h : ∀ k, sqEnabled k s = false) : allOpen s := by
  have hoff (k : Nat) : sqOn k s = false := by simp [sqOn, h]
  simp [allOpen, sqMap, bitMap, hoff]

/-- After a failure of the cores every safe output is open. -/
theorem allOpen_of_failed {s : State} (h : s.saf.state = .failed) : allOpen s :=
  allOpen_of_disabled fun k => by simp [sqEnabled, h]

/-- While the switches are outside their codes every safe output is open. -/
theorem allOpen_of_swInvalid {s : State} (h : s.saf.swInvalid = true) : allOpen s :=
  allOpen_of_disabled fun k => by simp [sqEnabled, h]

/-- While latched an output of SAF_Q_MASK is open. -/
theorem sqOn_of_latched {k : Nat} {s : State} (h : s.saf.state = .latched) (hk : bitOf (safN Ent.SAF_Q_MASK s) k = true) :
    sqOn k s = false := by
  have hoff : sqEnabled k s = false := by simp [sqEnabled, h, hk]
  simp [sqOn, hoff]

/-! ### A demand latches (R213, R221) -/

/-- The parts that a demand touches. -/
abbrev demandParts : List Part := [.saf, .flt, .dio, .link, .pair]

theorem only_holdEach (ks : List Nat) (s : State) : Only [.dio] s (forAll ks holdSq s) :=
  only_forAll _ ks holdSq (fun _ s => only_dio _ s) s

theorem only_openMask (s : State) : Only [.dio] s (openMask s) := only_holdEach _ s

/-- Every safe output waits for a new command, under other safety registers. -/
def heldAll (f : SafetyRegs → SafetyRegs) (s : State) : State := forAll (List.range 4) holdSq (withSaf (f s.saf) s)

theorem heldAll_leaves (f : SafetyRegs → SafetyRegs) (s : State) :
    Only [.saf, .dio] s (heldAll f s) ∧ (heldAll f s).saf = f s.saf := by
  have hheld := only_holdEach (List.range 4) (withSaf (f s.saf) s)
  exact ⟨only_trans (only_mono (only_withSaf _ s) (by simp)) (only_mono hheld (by simp)), hheld .saf (by decide)⟩

theorem only_setFenceOut (on : Bool) (s : State) : Only [.pair] s (setFenceOut on s) := by
  unfold setFenceOut
  split
  · exact only_refl _ s
  · exact only_pairOut _ _ s

/-- The latch of a demand: the outputs of SAF_Q_MASK wait for a new command, and the next DUTY frame carries MODE OFF. -/
def demandLatched (code : Nat) (s : State) : State :=
  withSq (fun s => openMask { s with
    saf := { s.saf with state := .latched, cause := code, newDemand := true }, link := { s.link with offReq := true } }) s

theorem demandLatched_leaves (code : Nat) (s : State) : Only [.saf, .dio, .link] s (demandLatched code s) ∧
    (demandLatched code s).saf = { s.saf with state := .latched, cause := code, newDemand := true } := by
  have hregs (x : SafetyRegs) (y : LinkRegs) : Only [.saf, .link] s { s with saf := x, link := y } :=
    only_trans (only_mono (only_saf x s) (by simp)) (only_mono (only_link y { s with saf := x }) (by simp))
  refine ⟨only_mono (only_withSq (ps := [.saf, .link, .dio]) ?_) (by simp), (withSq_saf _ s).trans (only_openMask _ .saf (by decide))⟩
  exact only_trans (only_mono (hregs _ _) (by simp)) (only_mono (only_openMask _) (by simp))

theorem latchDemand_permitted (code : Nat) {s : State} (h : s.saf.state = .permitted) : latchDemand code s =
    let u := demandLatched code (raiseF code wide s)
    if u.pair.paired then setFenceOut true u else u :=
  if_pos (by rw [raiseF_saf, h]; rfl)

theorem latchDemand_other (code : Nat) {s : State} (h : s.saf.state ≠ .permitted) : latchDemand code s = raiseF code wide s :=
  if_neg (by rw [raiseF_saf]; simpa using h)

/-- What latching leaves of the safety registers. -/
def unlatched (x : SafetyRegs) : SafetyRegs := { x with state := .starting, cause := 0, newDemand := false }

/-- A demand with a code: only a PERMITTED state changes, to LATCHED, and of the codes only its own is raised. -/
theorem latchDemand_latches (code : Nat) (s : State) : Only demandParts s (latchDemand code s) ∧
    unlatched (latchDemand code s).saf = unlatched s.saf ∧ (latchDemand code s).flt = (raiseF code wide s).flt ∧
    (latchDemand code s).saf.state = if s.saf.state = .permitted then .latched else s.saf.state := by
  have hraise := only_raiseF code wide s
  by_cases hp : s.saf.state = .permitted
  · obtain ⟨honly, hsaf⟩ := demandLatched_leaves code (raiseF code wide s)
    rw [latchDemand_permitted code hp, if_pos hp]
    generalize demandLatched code (raiseF code wide s) = u at honly hsaf
    have hfence : Only [.pair] u (if u.pair.paired then setFenceOut true u else u) :=
      only_ite (only_setFenceOut true u) (only_refl _ u)
    have hregs := (hfence .saf (by decide)).trans (hsaf.trans (by rw [raiseF_saf]))
    refine ⟨only_trans (only_mono hraise (by simp)) (only_trans (only_mono honly (by simp)) (only_mono hfence (by simp))),
      (congrArg unlatched hregs).trans rfl, (hfence .flt (by decide)).trans (honly .flt (by decide)), congrArg (·.state) hregs⟩
  · rw [latchDemand_other code hp, if_neg hp]
    exact ⟨only_mono hraise (by simp), congrArg unlatched (raiseF_saf code wide s), rfl, congrArg (·.state) (raiseF_saf code wide s)⟩

theorem only_latchDemand (code : Nat) (s : State) : Only demandParts s (latchDemand code s) := (latchDemand_latches code s).1

theorem isActive_latchDemand (code : Nat) (s : State) : isActive code wide (latchDemand code s) = true :=
  (isActive_of_flt (latchDemand_latches code s).2.2.1 code wide).trans (isActive_raiseF code wide s)

theorem isActive_latchDemand_of_active {c k : Nat} (code : Nat) {s : State} (h : isActive c k s = true) :
    isActive c k (latchDemand code s) = true :=
  (isActive_of_flt (latchDemand_latches code s).2.2.1 c k).trans (isActive_raiseF_of_active code wide h)

/-- The state that latching answers where the functions run. -/
theorem latchDemand_running (code : Nat) {s : State} (h : s.saf.state = .latched ∨ s.saf.state = .permitted) :
    (latchDemand code s).saf.state = .latched := by
  rw [(latchDemand_latches code s).2.2.2]
  split
  · rfl
  · next hp => exact h.resolve_right hp

theorem only_latchEach (codes : List Nat) (s : State) : Only demandParts s (forAll codes latchDemand s) :=
  only_forAll _ codes latchDemand only_latchDemand s

theorem unlatched_latchEach (codes : List Nat) (s : State) : unlatched (forAll codes latchDemand s).saf = unlatched s.saf :=
  forAll_eq (fun s => unlatched s.saf) codes latchDemand (fun code s => (latchDemand_latches code s).2.1) s

/-- Of the demands of a cycle each raises its code, and where the functions run they latch. -/
theorem latchEach_demands {code : Nat} {codes : List Nat} (hc : code ∈ codes) {s : State}
    (h : s.saf.state = .latched ∨ s.saf.state = .permitted) :
    isActive code wide (forAll codes latchDemand s) = true ∧ (forAll codes latchDemand s).saf.state = .latched :=
  forAll_establishes (I := fun s => s.saf.state = .latched ∨ s.saf.state = .permitted)
    (P := fun s => isActive code wide s = true ∧ s.saf.state = .latched) hc
    (fun c _ hs => .inl (latchDemand_running c hs))
    (fun c _ _ ⟨ha, hs⟩ => ⟨isActive_latchDemand_of_active c ha, latchDemand_running c (.inl hs)⟩)
    (fun s hs => ⟨isActive_latchDemand code s, latchDemand_running code hs⟩) h

/-- The functions run only where the state is LATCHED or PERMITTED (R216). -/
theorem state_of_safRuns {s : State} (h : safRuns s = true) : s.saf.state = .latched ∨ s.saf.state = .permitted := by
  simp only [safRuns, Bool.and_eq_true, Bool.or_eq_true, beq_iff_eq] at h
  exact h.2

end Sys2Proof.Proofs
end

section
/-! PROOFS. The safety cycle: its start, the cores' failure, the demand of SF-OV, and DI31's pulse. -/
namespace Sys2Proof.Proofs
open Sys2Proof Sys2Proof.Machine Sys2Proof.Laws

/-! ### What a cycle samples (R219, R233) -/

/-- The start of the last cycle and the samples of DI31. -/
def cycleView (x : SafetyRegs) : Option Nat × Bool × Option Nat × Option (Nat × Nat) := (x.cycleAt, x.rst, x.rstAt, x.pulse)

theorem cycleView_of_unlatched {x y : SafetyRegs} (h : unlatched x = unlatched y) : cycleView x = cycleView y :=
  (congrArg cycleView h : cycleView (unlatched x) = cycleView (unlatched y))

theorem sampleReset_eq (high : Bool) (s : State) : ∃ a b c d,
    sampleReset high s = withSaf { s.saf with rst := a, rstAt := b, rstLow := c, pulse := d } s := by
  unfold sampleReset
  extract_lets x since
  split
  · exact ⟨_, _, _, _, rfl⟩
  · split
    · exact ⟨_, _, _, _, rfl⟩
    · split
      · exact ⟨_, _, _, _, rfl⟩
      · split <;> exact ⟨_, _, _, _, rfl⟩

/-- DI31 found low after high ends a pulse: the low level before it, and its length (R233). -/
theorem sampleReset_falls {t : Nat} {s : State} (hv : vfOn s = true) (hr : s.saf.rst = true) (ht : s.saf.rstAt = some t) :
    sampleReset false s =
      withSaf { s.saf with rst := false, rstAt := some s.now, pulse := some (s.saf.rstLow, s.now - t) } s := by
  simp [sampleReset, hv, hr, ht, withSaf]

/-- The state in which the cores' part of a cycle begins. -/
def cycleStarted (di : Bool) (s : State) : State := sampleReset di (withSaf { s.saf with cycleAt := some s.now } s)

theorem cycleStarted_eq (di : Bool) (s : State) : ∃ a b c d, cycleStarted di s =
    withSaf { s.saf with cycleAt := some s.now, rst := a, rstAt := b, rstLow := c, pulse := d } s :=
  sampleReset_eq di (withSaf { s.saf with cycleAt := some s.now } s)

/-! ### The cores (R220) -/

/-- The count of consecutive cycles in which the cores differed. -/
def differed (agree : Bool) (s : State) : State := withSaf { s.saf with diffRun := if agree then 0 else s.saf.diffRun + 1 } s

theorem coresCycle_eq {s : State} (h : s.saf.state ≠ .failed) (completed agree : Bool) : coresCycle completed agree s =
    let t := differed agree s
    if !completed || t.saf.diffRun ≥ 2 then cfgFailed t else if safRuns t then evaluateSaf t else t :=
  if_pos (by simpa using h)

theorem coresCycle_failed {s : State} (h : s.saf.state = .failed) (completed agree : Bool) : coresCycle completed agree s = s :=
  if_neg (by simp [h])

theorem cfgFailed_eq (s : State) :
    cfgFailed s = withSq (heldAll fun x => { x with state := .failed }) (raiseF 0x5808 wide s) := rfl

theorem cfgFailed_fails (s : State) : Only [.saf, .dio, .flt, .link] s (cfgFailed s) ∧
    (cfgFailed s).saf = { s.saf with state := .failed } ∧ isActive 0x5808 wide (cfgFailed s) = true := by
  have hraise := only_raiseF 0x5808 wide s
  have hactive := isActive_raiseF 0x5808 wide s
  rw [cfgFailed_eq]
  generalize raiseF 0x5808 wide s = t at hraise hactive
  obtain ⟨honly, hregs⟩ := heldAll_leaves (fun x => { x with state := .failed }) t
  have hsq := only_withSq honly
  refine ⟨only_trans (only_mono hraise (by simp)) (only_mono hsq (by simp)), ?_,
    (isActive_of_flt (hsq .flt (by decide)) _ _).trans hactive⟩
  rw [withSq_saf, hregs, hraise .saf (by decide)]

/-! ### Reaction times that no longer exceed (R240) -/

/-- A demand by reaction time ends where the function's time exceeds its process safety time no more. -/
def trEnds (s : State) (d : Demand) (f : SafetyFn) : Demand := if exceedsPst f s then d else setTr f false d

/-- The demands by reaction time that stay. -/
def trKept (s : State) : Demand := safetyFns.foldl (trEnds s) s.saf.trPst

/-- A state whose demands by reaction time are d. -/
def withTr (d : Demand) (s : State) : State := withSaf { s.saf with trPst := d } s

theorem exceedsPst_withTr (f : SafetyFn) (d : Demand) (s : State) : exceedsPst f (withTr d s) = exceedsPst f s := by cases f <;> rfl

theorem exceedsPst_ov_withSaf {x : SafetyRegs} {s : State} (h : x.eff = s.saf.eff) :
    exceedsPst .ov (withSaf x s) = exceedsPst .ov s := by
  have heff (e : Entry) : safN e (withSaf x s) = safN e s := safN_of_eff h e
  simp only [exceedsPst, pstOf, reaction, trQ, heff]
  rfl

theorem dropTr_eq (s : State) : dropTr s = withTr (trKept s) s := by
  have hall (fs : List SafetyFn) (d : Demand) :
      forAll fs (fun f s => if exceedsPst f s then s else withTr (setTr f false s.saf.trPst) s) (withTr d s) =
        withTr (fs.foldl (trEnds s) d) s := by
    induction fs generalizing d with
    | nil => rfl
    | cons f fs ih =>
      have hone : (if exceedsPst f (withTr d s) then withTr d s else withTr (setTr f false d) s) = withTr (trEnds s d f) s := by
        rw [exceedsPst_withTr, trEnds]
        split <;> rfl
      exact (congrArg (forAll fs _) hone).trans (ih _)
  exact hall safetyFns s.saf.trPst

theorem trKept_ov {s : State} (h : exceedsPst .ov s = false) : (trKept s).ov = false := by
  simp [trKept, safetyFns, trEnds, setTr, h, apply_ite Demand.ov]

/-! ### The evaluation of a cycle (R213, R241) -/

/-- A sealed set that is not in effect yet takes effect. -/
def setTaken (s : State) : State := if !s.saf.applied then takeSet s else s

theorem takeSet_eq (s : State) : ∃ e w x p,
    takeSet s = withSaf { s.saf with eff := e, applied := true, wdFrom := w, wdExpired := x, permit := p } s := by
  unfold takeSet
  extract_lets en t
  split <;> exact ⟨_, _, _, _, rfl⟩

/-- Whether a sweep at the configured period has run is noted (R214). -/
def sweepNoted (s : State) : State := withSaf { s.saf with
  sweptAtPeriod := s.saf.sweptAtPeriod || (tierAtLeast .limited s && s.cells.sweepNo > 0 && s.chain.effPeriod == periodMs s) } s

/-- The reaction times and the sweep's period, before the demands are evaluated. -/
def evalTimed (s : State) : State := sweepNoted (watchTr (dropTr s))

theorem sweepNoted_eq (s : State) : ∃ sw, sweepNoted s = withSaf { s.saf with sweptAtPeriod := sw } s := ⟨_, rfl⟩

theorem watchTr_eq (s : State) : ∃ ts, watchTr s = withSaf { s.saf with trSince := ts } s := ⟨_, rfl⟩

theorem evalTimed_eq (s : State) : ∃ ts sw,
    evalTimed s = withSaf { s.saf with trPst := trKept s, trSince := ts, sweptAtPeriod := sw } s := by
  obtain ⟨ts, hwatch⟩ := watchTr_eq (withTr (trKept s) s)
  obtain ⟨sw, hnoted⟩ := sweepNoted_eq (watchTr (dropTr s))
  rw [evalTimed, hnoted, dropTr_eq, hwatch, withTr, withSaf_withSaf, withSaf_withSaf]
  exact ⟨ts, sw, rfl⟩

/-- The demands of a cycle. -/
def judged (s : State) : State := withSaf { s.saf with demand := demandsNow s } s

/-- The demands of a cycle latch. -/
def judgedLatched (s : State) : State := forAll (demandCodes (demandsNow s) (judged s)) latchDemand (judged s)

theorem evaluateSaf_eq (s : State) : evaluateSaf s =
    let u := judgedLatched (evalTimed (setTaken s))
    if levelInside u then raiseF 0x5812 wide u else u := by
  unfold evaluateSaf judgedLatched judged evalTimed sweepNoted setTaken withSaf
  rfl

/-- What an evaluation leaves of the state it judges. -/
theorem judgedLatched_leaves (s : State) : Only demandParts s (judgedLatched s) ∧
    unlatched (judgedLatched s).saf = unlatched { s.saf with demand := demandsNow s } :=
  ⟨only_trans (only_mono (only_withSaf _ s) (by simp)) (only_latchEach _ _), unlatched_latchEach _ (judged s)⟩

theorem setTaken_leaves (s : State) : ∃ x, setTaken s = withSaf x s ∧ cycleView x = cycleView s.saf := by
  unfold setTaken
  split
  · obtain ⟨e, w, x, p, htake⟩ := takeSet_eq s
    exact ⟨_, htake, rfl⟩
  · exact ⟨s.saf, rfl, rfl⟩

theorem evaluateSaf_leaves (s : State) : Only demandParts s (evaluateSaf s) ∧ cycleView (evaluateSaf s).saf = cycleView s.saf := by
  obtain ⟨x, htake, hview⟩ := setTaken_leaves s
  obtain ⟨ts, sw, htimed⟩ := evalTimed_eq (withSaf x s)
  rw [evaluateSaf_eq, htake, htimed, withSaf_withSaf]
  generalize hy : ({ (withSaf x s).saf with trPst := trKept (withSaf x s), trSince := ts, sweptAtPeriod := sw } : SafetyRegs) = y
  have hy : cycleView y = cycleView s.saf := by rw [← hview, ← hy]; rfl
  obtain ⟨hlatch, hregs⟩ := judgedLatched_leaves (withSaf y s)
  generalize judgedLatched (withSaf y s) = u at hlatch hregs
  obtain ⟨hlevel, hsaf, -⟩ := raiseIf_leaves (levelInside u = true) 0x5812 wide u
  refine ⟨only_trans (only_mono (only_withSaf y s) (by simp)) (only_trans hlatch (only_mono hlevel (by simp))), ?_⟩
  exact (congrArg cycleView hsaf).trans ((cycleView_of_unlatched hregs).trans hy)

/-- A VALID voltage above SAF_OV_LEVEL demands SF-OV, and the demand latches (R213, R221). -/
theorem judgedLatched_overvoltage {s : State} (hst : s.saf.state = .latched ∨ s.saf.state = .permitted) (htr : s.saf.trPst.ov = false)
    (hov : anyCell (fun c => c.vq.valid && decide ((c.v : Int) > safI Ent.SAF_OV_LEVEL s)) s = true) :
    let u := judgedLatched s
    u.saf.demand.ov = true ∧ isActive 0x5802 wide u = true ∧ u.saf.state = .latched ∧ u.saf.eff = s.saf.eff := by
  obtain ⟨-, hregs⟩ := judgedLatched_leaves s
  have hdemand : (demandsNow s).ov = true := Bool.or_eq_true_iff.2 (.inl hov)
  have hcode : 0x5802 ∈ demandCodes (demandsNow s) (judged s) := by simp [demandCodes, hdemand, judged, htr]
  obtain ⟨hactive, hlatched⟩ : isActive 0x5802 wide (judgedLatched s) = true ∧ (judgedLatched s).saf.state = .latched :=
    latchEach_demands hcode hst
  exact ⟨(congrArg (·.demand.ov) hregs).trans hdemand, hactive, hlatched, congrArg (·.eff) hregs⟩

theorem overvoltage_withSaf {x : SafetyRegs} {s : State} (h : x.eff = s.saf.eff) :
    anyCell (fun c => c.vq.valid && decide ((c.v : Int) > safI Ent.SAF_OV_LEVEL (withSaf x s))) (withSaf x s) =
      anyCell (fun c => c.vq.valid && decide ((c.v : Int) > safI Ent.SAF_OV_LEVEL s)) s := by
  rw [safI_of_eff (s := s) h]
  rfl

theorem evaluateSaf_overvoltage {s : State} (hrun : safRuns s = true) (happ : s.saf.applied = true) (hpst : exceedsPst .ov s = false)
    (hov : anyCell (fun c => c.vq.valid && decide ((c.v : Int) > safI Ent.SAF_OV_LEVEL s)) s = true) :
    let u := evaluateSaf s
    u.saf.demand.ov = true ∧ isActive 0x5802 wide u = true ∧ u.saf.state = .latched ∧ u.saf.eff = s.saf.eff := by
  obtain ⟨ts, sw, htimed⟩ := evalTimed_eq s
  have htaken : setTaken s = s := if_neg (by simp [happ])
  rw [evaluateSaf_eq, htaken, htimed]
  generalize hx : ({ s.saf with trPst := trKept s, trSince := ts, sweptAtPeriod := sw } : SafetyRegs) = x
  have hstate : x.state = s.saf.state := by rw [← hx]
  have htr : x.trPst.ov = false := by rw [← hx]; exact trKept_ov hpst
  have heff : x.eff = s.saf.eff := by rw [← hx]
  obtain ⟨hdemand, hactive, hlatched, hset⟩ := judgedLatched_overvoltage (s := withSaf x s) (hstate ▸ state_of_safRuns hrun) htr
    ((overvoltage_withSaf heff).trans hov)
  generalize judgedLatched (withSaf x s) = u at hdemand hactive hlatched hset
  obtain ⟨-, hsaf, hcodes⟩ := raiseIf_leaves (levelInside u = true) 0x5812 wide u
  dsimp only
  rw [hsaf]
  exact ⟨hdemand, hcodes _ _ (by simp) hactive, hlatched, hset.trans heff⟩

/-- The cores' part of a cycle leaves the cycle's start and the samples of DI31. -/
theorem coresCycle_leaves (completed agree : Bool) (s : State) : Only demandParts s (coresCycle completed agree s) ∧
    cycleView (coresCycle completed agree s).saf = cycleView s.saf := by
  by_cases hst : s.saf.state = .failed
  · rw [coresCycle_failed hst]
    exact ⟨only_refl _ s, rfl⟩
  · have hdiff : Only [.saf] s (differed agree s) := only_withSaf _ s
    have hview : cycleView (differed agree s).saf = cycleView s.saf := rfl
    rw [coresCycle_eq hst]
    generalize differed agree s = t at hdiff hview
    dsimp only
    split
    · obtain ⟨honly, hsaf, -⟩ := cfgFailed_fails t
      exact ⟨only_trans (only_mono hdiff (by simp)) (only_mono honly (by simp)), (congrArg cycleView hsaf).trans hview⟩
    · split
      · obtain ⟨honly, hkept⟩ := evaluateSaf_leaves t
        exact ⟨only_trans (only_mono hdiff (by simp)) honly, hkept.trans hview⟩
      · exact ⟨only_mono hdiff (by simp), hview⟩

/-- A cycle completed with the same results: the functions are evaluated where they run. -/
theorem coresCycle_agrees {s : State} (hst : s.saf.state ≠ .failed) (di : Bool) : ∃ x, coresCycle true true (cycleStarted di s) =
      (if safRuns s then evaluateSaf (withSaf x s) else withSaf x s) ∧
    (∃ a b c d, x = { s.saf with cycleAt := some s.now, rst := a, rstAt := b, rstLow := c, pulse := d, diffRun := 0 }) := by
  obtain ⟨a, b, c, d, hstart⟩ := cycleStarted_eq di s
  refine ⟨_, ?_, a, b, c, d, rfl⟩
  rw [hstart, coresCycle_eq (by exact hst)]
  exact if_neg (by simp [differed])

/-! ### SAFETY_CYCLE (R219) -/

section
variable {s : State} (hl : live s = true)
include hl

theorem sends_safetyCycle (h : cycleDue s = false) (completed agree di : Bool) : Sends (.safetyCycle completed agree di) s [] :=
  sends_whenLiveK (f := safetyCycle completed agree di) rfl hl
    (guardOn_false (Bool.and_eq_false_iff.2 (.inr h)) _ s.begin)

variable (hf : isFenced .s s = false) (hd : cycleDue s = true)
include hf hd

/-- A cycle that is due: the sample of DI31, then the cores' part. -/
theorem ends_safetyCycle {completed agree di : Bool} {ps : List Part} {P : State → Prop} {u : State}
    (hu : coresCycle completed agree (cycleStarted di s.begin) = u) (ho : Only ps s.begin u)
    (hp : P { s.keepQueue u with store := s.store }) : Ends (.safetyCycle completed agree di) s ps P :=
  ends_of_effect (f := safetyCycle completed agree di) rfl hl
    ((guardOn_true (Bool.and_eq_true_iff.2 ⟨by rw [isFenced_of_sup (begin_sup s), hf]; rfl, hd⟩)
      (fun s => coresCycle completed agree (cycleStarted di s)) s.begin).trans hu) ho hp

variable (hst : s.saf.state ≠ .failed)

section
include hst

theorem ends_safetyCycle_fails {completed agree : Bool} (h : completed = false ∨ (agree = false ∧ 1 ≤ s.saf.diffRun)) (di : Bool) :
    Ends (.safetyCycle completed agree di) s [.saf, .dio, .flt, .link] fun u =>
      u.saf.state = .failed ∧ isActive 0x5808 wide u = true ∧ allOpen u := by
  obtain ⟨a, b, c, d, hstart⟩ := cycleStarted_eq di s.begin
  have hcond : (!completed || decide ((differed agree (cycleStarted di s.begin)).saf.diffRun ≥ 2)) = true := by
    rw [hstart]
    rcases h with h | ⟨ha, hrun⟩
    · simp [h]
    · simp only [differed, ha, begin_saf]
      simp [hrun]
  have hcores : coresCycle completed agree (cycleStarted di s.begin) = cfgFailed (differed agree (cycleStarted di s.begin)) :=
    (coresCycle_eq (by rw [hstart]; exact hst) completed agree).trans (if_pos hcond)
  have hbefore : Only [.saf] s.begin (differed agree (cycleStarted di s.begin)) := by
    rw [hstart]
    exact only_withSaf _ s.begin
  obtain ⟨honly, hsaf, hactive⟩ := cfgFailed_fails (differed agree (cycleStarted di s.begin))
  exact ends_safetyCycle hl hf hd hcores (only_trans (only_mono hbefore (by simp)) honly)
    ⟨congrArg (·.state) hsaf, hactive, allOpen_of_failed (congrArg (·.state) hsaf)⟩

theorem ends_safetyCycle_idle (hrun : safRuns s = false) (di : Bool) : Ends (.safetyCycle true true di) s [.saf] fun u =>
    u.saf.diffRun = 0 ∧ u.saf.cycleAt = some s.now ∧ u.saf.state = s.saf.state ∧ u.saf.demand = s.saf.demand := by
  obtain ⟨_, hcores, a, b, c, d, rfl⟩ := coresCycle_agrees (s := s.begin) hst di
  exact ends_safetyCycle hl hf hd (hcores.trans (if_neg (Bool.eq_false_iff.1 hrun))) (only_withSaf _ s.begin) ⟨rfl, rfl, rfl, rfl⟩

theorem ends_safetyCycle_overvoltage (hrun : safRuns s = true) (happ : s.saf.applied = true) (hpst : exceedsPst .ov s = false)
    (hov : anyCell (fun c => c.vq.valid && decide ((c.v : Int) > safI Ent.SAF_OV_LEVEL s)) s = true) (di : Bool) :
    Ends (.safetyCycle true true di) s demandParts fun u =>
      u.saf.demand.ov = true ∧ isActive 0x5802 wide u = true ∧ u.saf.state = .latched ∧ u.saf.cycleAt = some s.now ∧
      ∀ k, k < 4 → bitOf (safN Ent.SAF_Q_MASK s) k = true → sqOn k u = false := by
  obtain ⟨x, hcores, a, b, c, d, hx⟩ := coresCycle_agrees (s := s.begin) hst di
  have heff : x.eff = s.begin.saf.eff := by rw [hx]
  have hcycle : cycleView x = (some s.now, a, b, d) := by rw [hx]; rfl
  obtain ⟨honly, hview⟩ := evaluateSaf_leaves (withSaf x s.begin)
  obtain ⟨hdemand, hactive, hlatched, hset⟩ := evaluateSaf_overvoltage (s := withSaf x s.begin) (by rw [hx]; exact hrun)
    (by rw [hx]; exact happ) ((exceedsPst_ov_withSaf heff).trans hpst) ((overvoltage_withSaf heff).trans hov)
  replace hcores := hcores.trans (if_pos hrun)
  generalize evaluateSaf (withSaf x s.begin) = u at *
  refine ends_safetyCycle hl hf hd hcores (only_trans (only_mono (only_withSaf x s.begin) (by simp)) honly)
    ⟨hdemand, hactive, hlatched, congrArg (·.1) (hview.trans hcycle), fun k _ hk => sqOn_of_latched hlatched ?_⟩
  exact (congrArg (bitOf · k) (safN_of_eff (hset.trans heff) _)).trans hk

end

theorem ends_safetyCycle_pulse {t : Nat} (hv : vfOn s = true) (hr : s.saf.rst = true) (ht : s.saf.rstAt = some t)
    (completed agree : Bool) : Ends (.safetyCycle completed agree false) s demandParts fun u =>
      u.saf.pulse = some (s.saf.rstLow, s.now - t) ∧ u.saf.rst = false ∧ u.saf.rstAt = some s.now := by
  have hstart : cycleStarted false s.begin = withSaf { s.saf with
      cycleAt := some s.now, rst := false, rstAt := some s.now, pulse := some (s.saf.rstLow, s.now - t) } s.begin :=
    sampleReset_falls (s := withSaf { s.saf with cycleAt := some s.now } s.begin) hv hr ht
  obtain ⟨honly, hview⟩ := coresCycle_leaves completed agree (cycleStarted false s.begin)
  have hbefore : Only [.saf] s.begin (cycleStarted false s.begin) := by
    rw [hstart]
    exact only_saf _ s.begin
  refine ends_safetyCycle hl hf hd rfl (only_trans (only_mono hbefore (by simp)) honly) ?_
  have hregs := hview.trans (congrArg (fun s => cycleView s.saf) hstart)
  exact ⟨congrArg (·.2.2.2) hregs, congrArg (·.2.1) hregs, congrArg (·.2.2.1) hregs⟩

end

/-- Settles O30: a cycle fails (`cfgFailed_fails`), finds an overvoltage (`evaluateSaf_overvoltage`), or demands nothing; none of these
touches the pulse that DI31's sample has ended (`coresCycle_leaves`). -/
theorem safetyCycleDemandsAndFails : Obligations.SafetyCycleDemandsAndFails := by
  unfold Obligations.SafetyCycleDemandsAndFails
  intro s di hl hf
  refine ⟨fun hd hst => ⟨fun done agree h => ?_, fun hrun => ?_, fun hrun happ hpst hov => ?_⟩,
    fun done agree t hd hv hr ht => ?_, fun done agree hd => ?_⟩
  · exact ends_safetyCycle_fails hl hf hd hst h di
  · exact ends_safetyCycle_idle hl hf hd hst hrun di
  · exact ends_safetyCycle_overvoltage hl hf hd hst hrun happ hpst hov di
  · exact ends_safetyCycle_pulse hl hf hd hv hr ht done agree
  · exact sends_safetyCycle hl hd done agree di

end Sys2Proof.Proofs
end

section
/-! PROOFS. Frames of the safety layer: pairing and acceptance of copies, the command watchdog, and the frames that the module sends. -/
namespace Sys2Proof.Proofs
open Sys2Proof Sys2Proof.Machine Sys2Proof.Laws

/-! ### Copies that stand alone (R225) -/

/-- A lone copy is counted; more than ten of a second raise 0x580E. -/
def loneCounted (h : HeldCopy) (s : State) : State :=
  let lone := ((h.at_ + 2000000) :: s.saf.lone).filter fun t => t + 1000000000 > s.now
  let t := withSaf { s.saf with single := incSat32 s.saf.single, lone := lone.take 16 } s
  if lone.length > 10 then raiseF 0x580E wide t else t

theorem loneCounted_leaves (h : HeldCopy) (s : State) : Only [.saf, .flt] s (loneCounted h s) ∧
    ∃ n l, (loneCounted h s).saf = { s.saf with single := n, lone := l } ∧ n = incSat32 s.saf.single := by
  unfold loneCounted
  extract_lets lone x t
  obtain ⟨hraise, hsaf, -⟩ := raiseIf_leaves (lone.length > 10) 0x580E wide t
  exact ⟨only_trans (only_mono (only_withSaf _ s) (by simp)) (only_mono hraise (by simp)), _, _, hsaf, rfl⟩

theorem forAll_one {α : Type} (x : α) (f : α → State → State) (s : State) : forAll [x] f s = f x s := rfl

theorem dropLone_eq {old : HeldCopy → Bool} {gone stay : List HeldCopy} {s : State} (hg : s.saf.heldCopies.filter old = gone)
    (hs : (s.saf.heldCopies.filter fun x => !old x) = stay) :
    dropLone old s = forAll (gone.filter (!·.taken)) loneCounted (withSaf { s.saf with heldCopies := stay } s) := by
  subst hg hs
  rfl

/-- Where no held copy is too old none goes. -/
theorem dropLone_none {old : HeldCopy → Bool} {s : State} (h : ∀ x ∈ s.saf.heldCopies, old x = false) : dropLone old s = s := by
  rw [dropLone_eq (List.filter_eq_nil_iff.2 fun x hx => by simp [h x hx]) (List.filter_eq_self.2 fun x hx => by simp [h x hx]),
    List.filter_nil]
  rfl

section
variable {old : HeldCopy → Bool} {h : HeldCopy} {s : State} (hh : s.saf.heldCopies = [h]) (ht : h.taken = false) (ho : old h = true)
include hh ht ho

theorem dropLone_eq_counted : dropLone old s = loneCounted h (withSaf { s.saf with heldCopies := [] } s) := by
  have hcounted : [h].filter (!·.taken) = [h] := by simp [ht]
  rw [dropLone_eq (gone := [h]) (stay := []) (by simp [hh, ho]) (by simp [hh, ho]), hcounted, forAll_one]

/-- The one held copy is too old: it is discarded, and counted where it has not been taken. -/
theorem dropLone_one : Only [.saf, .flt] s (dropLone old s) ∧ (dropLone old s).saf.heldCopies = [] ∧
    (dropLone old s).saf.single = incSat32 s.saf.single := by
  obtain ⟨honly, n, l, hsaf, hn⟩ := loneCounted_leaves h (withSaf { s.saf with heldCopies := [] } s)
  rw [dropLone_eq_counted hh ht ho, hsaf]
  exact ⟨only_trans (only_mono (only_withSaf _ s) (by simp)) honly, rfl, hn⟩

end

/-! ### A copy arrives (R224 to R226) -/

section
variable {b : List Byte} {f : SafFrame} {s : State}

theorem takeCopy_unpaired (hh : s.saf.heldCopies = []) : takeCopy b f s = firstCopy b f s := by
  have hstays : dropLone (fun h => decide (h.at_ + 2000000 < s.now)) s = s := dropLone_none (by simp [hh])
  simp [takeCopy, hstays, hh]

/-- A first good copy waits for its partner. -/
theorem takeCopy_held (hh : s.saf.heldCopies = []) (hseq : seqPlace f.seq s = .next) (hone : oneLan s = false) :
    takeCopy b f s = (withSaf { s.saf with heldCopies := [⟨copyLan f, b, s.now, false⟩] } s, false) := by
  rw [takeCopy_unpaired hh]
  simp [firstCopy, hseq, hh, hone, withSaf]

/-- In 1oo1 the first good copy is accepted, and kept for comparison. -/
theorem takeCopy_oneLan (hh : s.saf.heldCopies = []) (hseq : seqPlace f.seq s = .next) (hone : oneLan s = true) :
    takeCopy b f s = (acceptFrame f (withSaf { s.saf with heldCopies := [⟨copyLan f, b, s.now, true⟩] } s), true) := by
  rw [takeCopy_unpaired hh]
  simp [firstCopy, hseq, hh, hone, withSaf]

/-- The equal copy of the other LAN, in time, accepts the frame. -/
theorem takeCopy_pairs {h : HeldCopy} (hh : s.saf.heldCopies = [h]) (ht : h.taken = false) (hsame : fieldU h.bytes 6 2 = f.seq)
    (hlan : h.lan ≠ copyLan f) (hin : s.now ≤ h.at_ + 2000000) (hbody : copyBody h.bytes = copyBody b)
    (hseq : seqPlace f.seq s = .next) :
    takeCopy b f s = (acceptFrame f (withSaf { s.saf with heldCopies := [] } s), true) := by
  have hstays : dropLone (fun h => decide (h.at_ + 2000000 < s.now)) s = s := dropLone_none (by simpa [hh] using hin)
  have hfound : (s.saf.heldCopies.find? fun h => fieldU h.bytes 6 2 == f.seq && h.lan != copyLan f) = some h := by
    simp [hh, hsame, hlan]
  have hplace : seqPlace f.seq (withSaf { s.saf with heldCopies := [] } s) = .next := hseq
  have hsecond : takeCopy b f s = secondCopy h b f s := by simp only [takeCopy, hstays, hfound]
  have hleft : s.saf.heldCopies.filter (· != h) = [] := by simp [hh]
  rw [hsecond, secondCopy, hleft, hbody, ht]
  exact (if_pos (beq_self_eq_true _)).trans (if_neg (by simpa [withSaf] using hplace))

/-! ### A frame is received (R224) -/

theorem receiveSaf_bad {k t : Nat} (h : parseSafFrame b s = none) : receiveSaf k b t s = (countBad (atTime t s), none) := by
  have hparse : parseSafFrame b (atTime t s) = none := h
  simp only [receiveSaf, hparse]

/-- A frame of the kind expected, on its connection and well formed, is judged by its copies. -/
theorem receiveSaf_good {k t : Nat} (h : parseSafFrame b s = some f) (hk : f.kind = k) (hconn : f.conn = safN Ent.SAF_CONN_CMD s)
    (hseq : 1 ≤ f.seq) (hform : (if k = 1 then permitOk f.data else decide (4 ≤ f.data.length)) = true) :
    receiveSaf k b t s = ((takeCopy b f (atTime t s)).1, if (takeCopy b f (atTime t s)).2 then some f else none) := by
  have hparse : parseSafFrame b (atTime t s) = some f := h
  have hto : f.conn = safN Ent.SAF_CONN_CMD (atTime t s) := hconn
  simp only [receiveSaf, hparse, hk, ← hto, hseq, hform]
  rfl

end

/-! ### Frames that the module sends (R222) -/

/-- What a copy is, where its LAN passes it. -/
def safCopy (kind seq : Nat) (data : List Byte) (s : State) (l : Lan) : List Output :=
  if safetyLan l s then [.safetyFrame l (buildSafFrame kind (l == .b) seq data s)] else []

/-- The next number of the status connection. -/
def nextStat (n : Nat) : Nat := if 65535 ≤ n then 1 else n + 1

theorem sendCopy_eq (l : Lan) (b : List Byte) (s : State) :
    sendCopy l b s = { s with out := s.out ++ if safetyLan l s then [.safetyFrame l b] else [] } := by
  unfold sendCopy
  split
  · rfl
  · rw [List.append_nil]

theorem sendSafFrame_eq (kind : Nat) (data : List Byte) (s : State) : sendSafFrame kind data s =
    { s with
      saf := { s.saf with statSeq := nextStat s.saf.statSeq }
      out := s.out ++ safCopy kind (nextStat s.saf.statSeq) data s .a ++ safCopy kind (nextStat s.saf.statSeq) data s .b } := by
  unfold sendSafFrame
  rw [sendCopy_eq, sendCopy_eq]
  rfl

/-! ### The command watchdog (R227) -/

/-- The watchdog's time has passed: the connection starts anew, and SF-IS demands. -/
def watchdogLapsed (s : State) : State := withSaf { s.saf with
  wdExpired := true, lastSeq := none, heldCopies := [], wdCount := incSat32 s.saf.wdCount, demand := { s.saf.demand with is := true } } s

theorem watchdogExpiry_eq (s : State) : watchdogExpiry s = guardOn (watchdogDue s && !isFenced .s s) (fun s =>
    if safRuns (watchdogLapsed s) then latchDemand 0x580C (watchdogLapsed s) else raiseF 0x580C wide (watchdogLapsed s)) s := rfl

/-- A demand with a code: it latches where the functions run. -/
theorem demandRaised_leaves (code : Nat) (s : State) : let u := if safRuns s then latchDemand code s else raiseF code wide s
    Only demandParts s u ∧ unlatched u.saf = unlatched s.saf ∧ isActive code wide u = true ∧
    u.saf.state = if safRuns s then .latched else s.saf.state := by
  dsimp only
  split
  · next hrun =>
    obtain ⟨honly, hregs, -, -⟩ := latchDemand_latches code s
    exact ⟨honly, hregs, isActive_latchDemand code s, latchDemand_running code (state_of_safRuns hrun)⟩
  · exact ⟨only_mono (only_raiseF _ _ _) (by simp), by rw [raiseF_saf], isActive_raiseF _ _ _, by rw [raiseF_saf]⟩

theorem watchdogDue_iff {s : State} (hran : s.saf.ran = true) (hen : safN Ent.SAF_IS_EN s = 1) (hexp : s.saf.wdExpired = false) :
    watchdogDue s = true ↔ s.saf.wdFrom + watchdogMs s * 1000000 ≤ s.now := by
  simp [watchdogDue, hran, hen, hexp]

/-! ### The commands -/

section
variable {s : State} (hl : live s = true)
include hl

theorem ends_copyWindowExpiry {h : HeldCopy} (hh : s.saf.heldCopies = [h]) (ht : h.taken = false) (hlate : h.at_ + 2000000 ≤ s.now) :
    Ends .copyWindowExpiry s [.saf, .flt] fun u => u.saf.heldCopies = [] ∧ u.saf.single = incSat32 s.saf.single := by
  obtain ⟨honly, hheld, hsingle⟩ := dropLone_one (old := fun h => decide (h.at_ + 2000000 ≤ s.now)) (s := s.begin) hh ht
    (decide_eq_true hlate)
  exact ends_of_effect (f := copyWindowExpiry) rfl hl rfl honly ⟨hheld, hsingle⟩

theorem sends_copyWindowExpiry {h : HeldCopy} (hh : s.saf.heldCopies = [h]) (hin : s.now < h.at_ + 2000000) :
    Sends .copyWindowExpiry s [] :=
  sends_whenLiveK (f := copyWindowExpiry) rfl hl (dropLone_none fun x hx => by
    obtain rfl : x = h := List.mem_singleton.1 (hh ▸ hx)
    exact decide_eq_false (Nat.not_le.2 hin))

variable (hf : isFenced .s s = false)
include hf

theorem ends_safetyDataFrame (hn : isFenced .n s = false) (hen : safN Ent.SAF_IS_EN s ≠ 0) {b : List Byte} {t : Nat} {ps : List Part}
    {P : State → Prop} {u : State} {o : Option SafFrame} (hu : receiveSaf 1 b t s.begin = (u, o)) (ho : Only ps s.begin u)
    (hp : P { s.keepQueue u with store := s.store }) : Ends (.safetyDataFrame b t) s ps P := by
  have hopen : (isFenced .s s.begin || isFenced .n s.begin || decide (safN Ent.SAF_IS_EN s.begin = 0)) = false := by
    rw [isFenced_of_sup (begin_sup s), isFenced_of_sup (begin_sup s), safN_of_eff (s := s) (t := s.begin) rfl]
    simp [hf, hn, hen]
  refine ends_of_effect (f := fun s => if isFenced .s s || isFenced .n s || safN Ent.SAF_IS_EN s = 0 then s else (receiveSaf 1 b t s).1)
    rfl hl ?_ ho hp
  exact (if_neg (Bool.eq_false_iff.1 hopen)).trans (congrArg Prod.fst hu)

/-- A bad frame is counted. -/
theorem ends_safetyDataFrame_bad (hn : isFenced .n s = false) (hen : safN Ent.SAF_IS_EN s ≠ 0) {b : List Byte} (t : Nat)
    (h : parseSafFrame b s = none) : Ends (.safetyDataFrame b t) s [.now, .saf] fun u =>
      u.now = max s.now t ∧ u.saf = { s.saf with bad := incSat32 s.saf.bad } :=
  ends_safetyDataFrame hl hf hn hen (receiveSaf_bad (s := s.begin) h)
    (only_trans (only_mono (only_atTime t s.begin) (by simp)) (only_mono (only_saf _ (atTime t s.begin)) (by simp))) ⟨rfl, rfl⟩

section
variable (hn : isFenced .n s = false) (hen : safN Ent.SAF_IS_EN s ≠ 0) {b : List Byte} {f : SafFrame} (t : Nat)
  (h : parseSafFrame b s = some f) (hk : f.kind = 1) (hconn : f.conn = safN Ent.SAF_CONN_CMD s) (hseq : 1 ≤ f.seq)
  (hform : permitOk f.data = true) (hplace : seqPlace f.seq s = .next)
include hn hen h hk hconn hseq hform hplace

theorem ends_safetyDataFrame_waits (hh : s.saf.heldCopies = []) (hone : oneLan s = false) :
    Ends (.safetyDataFrame b t) s [.now, .saf] fun u =>
      u.now = max s.now t ∧ u.saf = { s.saf with heldCopies := [⟨copyLan f, b, max s.now t, false⟩] } := by
  have hheld := takeCopy_held (b := b) (s := atTime t s.begin) hh hplace hone
  have hgood := receiveSaf_good (t := t) (s := s.begin) h hk hconn hseq hform
  rw [hheld] at hgood
  exact ends_safetyDataFrame hl hf hn hen hgood
    (only_trans (only_mono (only_atTime t s.begin) (by simp)) (only_mono (only_withSaf _ (atTime t s.begin)) (by simp))) ⟨rfl, rfl⟩

theorem ends_safetyDataFrame_pairs {c : HeldCopy} (hh : s.saf.heldCopies = [c]) (ht : c.taken = false)
    (hsame : fieldU c.bytes 6 2 = f.seq) (hlan : c.lan ≠ copyLan f) (hin : max s.now t ≤ c.at_ + 2000000)
    (hbody : copyBody c.bytes = copyBody b) : Ends (.safetyDataFrame b t) s [.now, .saf] fun u =>
      u.saf.heldCopies = [] ∧ u.saf.lastSeq = some f.seq ∧ u.saf.ok = incSat32 s.saf.ok ∧ u.saf.wdExpired = false ∧
      u.saf.wdFrom = max s.now t ∧ u.saf.statDue = true ∧
      u.saf.permit = bitOf (f.data.getD 0 0).toNat 0 ∧ u.saf.bad = s.saf.bad := by
  have hpair := takeCopy_pairs (b := b) (s := atTime t s.begin) hh ht hsame hlan hin hbody hplace
  have hgood := receiveSaf_good (t := t) (s := s.begin) h hk hconn hseq hform
  rw [hpair] at hgood
  exact ends_safetyDataFrame hl hf hn hen hgood
    (only_trans (only_mono (only_atTime t s.begin) (by simp)) (only_mono (only_withSaf _ (atTime t s.begin)) (by simp)))
    ⟨rfl, rfl, rfl, rfl, rfl, rfl, if_pos hk, rfl⟩

end

theorem ends_safetyWatchdogExpiry (h : watchdogDue s = true) : Ends .safetyWatchdogExpiry s demandParts fun u =>
    u.saf.wdExpired = true ∧ u.saf.lastSeq = none ∧ u.saf.heldCopies = [] ∧ u.saf.wdCount = incSat32 s.saf.wdCount ∧
    u.saf.demand.is = true ∧ isActive 0x580C wide u = true ∧ u.saf.state = if safRuns s then .latched else s.saf.state := by
  have hact : (watchdogDue s.begin && !isFenced .s s.begin) = true :=
    Bool.and_eq_true_iff.2 ⟨h, by rw [isFenced_of_sup (begin_sup s), hf]; rfl⟩
  obtain ⟨honly, hregs, hactive, hstate⟩ := demandRaised_leaves 0x580C (watchdogLapsed s.begin)
  have hlapsed : Only [.saf] s.begin (watchdogLapsed s.begin) := only_withSaf _ s.begin
  refine ends_of_effect (f := watchdogExpiry) rfl hl ((watchdogExpiry_eq s.begin).trans (guardOn_true hact _ s.begin))
    (only_trans (only_mono hlapsed (by simp)) honly) ?_
  exact ⟨congrArg (·.wdExpired) hregs, congrArg (·.lastSeq) hregs, congrArg (·.heldCopies) hregs, congrArg (·.wdCount) hregs,
    congrArg (·.demand.is) hregs, hactive, hstate⟩

end

theorem sends_safetyWatchdogExpiry {s : State} (hl : live s = true) (h : watchdogDue s = false) : Sends .safetyWatchdogExpiry s [] :=
  sends_whenLiveK (f := watchdogExpiry) rfl hl (guardOn_false (Bool.and_eq_false_iff.2 (.inl h)) _ s.begin)

theorem ends_statusFrameSend {s : State} (hl : live s = true) (hf : isFenced .s s = false) (hc : safN Ent.SAF_CONN_STAT s ≠ 0)
    (hd : statusDue s = true) : Ends .statusFrameSend s [.saf] fun u =>
      let seq := nextStat s.saf.statSeq
      u.saf = { s.saf with statSeq := seq, statDue := false, statAt := some s.now } ∧
      u.out = safCopy 1 seq (statusData s) s .a ++ safCopy 1 seq (statusData s) s .b := by
  have hact : (decide (safN Ent.SAF_CONN_STAT s.begin ≠ 0) && !isFenced .s s.begin && statusDue s.begin) = true := by
    rw [isFenced_of_sup (begin_sup s), safN_of_eff (s := s) (t := s.begin) rfl]
    have hd' : statusDue s.begin = true := hd
    simp [hf, hc, hd']
  refine ends_of_effect (f := statusFrameSend) rfl hl ((guardOn_true hact _ s.begin).trans (sendSafFrame_eq 1 _ _)) ?_ ⟨rfl, rfl⟩
  exact only_trans (only_mono (only_saf _ s.begin) (by simp)) fun p _ => by cases p <;> rfl

theorem sends_statusFrameSend {s : State} (hl : live s = true) (hd : statusDue s = false) : Sends .statusFrameSend s [] :=
  sends_whenLiveK (f := statusFrameSend) rfl hl (guardOn_false (Bool.and_eq_false_iff.2 (.inr hd)) _ s.begin)

/-- Settles O31: copies are held, paired and discarded as `takeCopy_held`, `takeCopy_pairs` and `dropLone_one` say, the watchdog demands
by `demandRaised_leaves`, and a status frame leaves as `sendSafFrame_eq` says. -/
theorem safetyFramesArePaired : Obligations.SafetyFramesArePaired := by
  unfold Obligations.SafetyFramesArePaired
  intro s hl hf
  refine ⟨fun b t hn hen => ⟨fun hp => ?_, fun f hp hk hconn hseq hform hplace =>
      ⟨fun hh hone => ?_, fun c hh ht hsame hlan hin hbody => ?_⟩⟩,
    fun c hh ht => ⟨fun hlate => ?_, fun hin => ?_⟩, fun hran hen hexp => ⟨fun hdue => ?_, fun hearly => ?_⟩,
    fun hc => ⟨fun hd => ?_, fun hd => ?_⟩⟩
  · exact ends_safetyDataFrame_bad hl hf hn hen t hp
  · exact ends_safetyDataFrame_waits hl hf hn hen t hp hk hconn hseq hform hplace hh hone
  · exact ends_safetyDataFrame_pairs hl hf hn hen t hp hk hconn hseq hform hplace hh ht hsame hlan hin hbody
  · exact ends_copyWindowExpiry hl hh ht hlate
  · exact sends_copyWindowExpiry hl hh hin
  · exact ends_safetyWatchdogExpiry hl hf ((watchdogDue_iff hran hen hexp).2 hdue)
  · exact sends_safetyWatchdogExpiry hl (Bool.eq_false_iff.2 fun h => Nat.not_le.2 hearly ((watchdogDue_iff hran hen hexp).1 h))
  · exact ends_statusFrameSend hl hf hc hd
  · exact sends_statusFrameSend hl hd

end Sys2Proof.Proofs
end

section
/-! PROOFS. PARAM_WRITE: the seal after a write, the configuration switch, and the answer. -/
namespace Sys2Proof.Proofs
open Sys2Proof Sys2Proof.Machine Sys2Proof.Laws

/-! ### What a check of the seal touches (R231, R236) -/

theorem only_startRule (s : State) : Only demandParts s (startRule s) := by
  unfold startRule
  split
  · have hlatched (t : State) : Only [.saf, .dio] t (openMask { t with saf := { t.saf with state := .latched, cause := 0x5800 } }) :=
      only_trans (only_mono (only_saf _ t) (by simp)) (only_mono (only_openMask _) (by simp))
    exact only_trans (only_mono (only_raiseF _ _ s) (by simp)) (only_mono (only_withSq (hlatched _)) (by simp))
  · have hset (t : State) : Only [.saf] t { t with saf := { t.saf with state := .permitted } } := only_saf _ t
    extract_lets t x u
    have ht : Only [.dio, .link, .saf] s t := only_withSq (hset s)
    have hu : Only [.saf] t u := only_saf _ t
    exact only_trans (only_mono ht (by simp)) (only_trans (only_mono hu (by simp)) (only_latchEach _ u))

theorem breakSeal_eq (s : State) : breakSeal s = withSq (heldAll fun x => { x with state := .unsealed, applied := false })
    (raiseF (if s.saf.setLost then 0x5813 else 0x5809) wide s) := rfl

theorem only_breakSeal (s : State) : Only [.saf, .flt, .dio, .link] s (breakSeal s) := by
  rw [breakSeal_eq]
  exact only_trans (only_mono (only_raiseF _ _ s) (by simp)) (only_mono (only_withSq (heldAll_leaves _ _).1) (by simp))

theorem only_checkSeal (s : State) : Only demandParts s (checkSeal s) := by
  have hclear (c : Nat) (t : State) : Only demandParts t (clearF c wide t) := only_mono (only_clearF _ _ t) (by simp)
  unfold checkSeal
  refine only_ite (only_refl _ s) (only_ite (only_ite ?_ (only_refl _ s)) (only_ite ?_ ?_))
  · exact only_trans (hclear _ s) (only_trans (hclear _ _) (only_startRule _))
  · exact only_ite (only_refl _ s) (only_mono (only_raiseF _ _ s) (by simp))
  · exact only_mono (only_breakSeal s) (by simp)

theorem only_paramTaken (e : Entry) (s : State) : Only demandParts s (paramTaken e s) := by
  have hset : Only demandParts s (if isSeal e then { s with saf := { s.saf with setLost := false } } else s) :=
    only_ite (only_mono (only_saf _ s) (by simp)) (only_refl _ s)
  exact only_trans hset (only_checkSeal _)

/-! ### The frame is accepted in 1oo1 (R226) -/

/-- The state in which an accepted PARAM_WRITE is judged. -/
def paramAccepted (b : List Byte) (t : Nat) (f : SafFrame) (s : State) : State :=
  acceptFrame f (withSaf { s.saf with heldCopies := [⟨copyLan f, b, max s.now t, true⟩] } (atTime t s))

theorem only_paramAccepted (b : List Byte) (t : Nat) (f : SafFrame) (s : State) : Only [.now, .saf] s (paramAccepted b t f s) :=
  only_trans (only_mono (only_atTime t s) (by simp)) (only_mono (only_saf _ (atTime t s)) (by simp))

theorem paramMessage_accepts {b : List Byte} {t : Nat} {f : SafFrame} {s : State} (hf : isFenced .s s = false) (hn : isFenced .n s = false)
    (hp : parseSafFrame b s = some f) (hk : f.kind = 2) (hconn : f.conn = safN Ent.SAF_CONN_CMD s) (hseq : 1 ≤ f.seq)
    (hlen : 4 ≤ f.data.length) (hh : s.saf.heldCopies = []) (hplace : seqPlace f.seq s = .next) (hone : oneLan s = true) :
    paramMessage b t s =
      let x := paramWrite (fieldU f.data 0 2) (fieldU f.data 2 1) (f.data.drop 3) (paramAccepted b t f s)
      keep (sendSafFrame 3 (f.data.take 3 ++ toBytes 1 x.1)) x.2 := by
  have htake : takeCopy b f (atTime t s) = (paramAccepted b t f s, true) := takeCopy_oneLan (s := atTime t s) hh hplace hone
  have hgood := receiveSaf_good (t := t) hp hk hconn hseq (by simpa using hlen)
  rw [htake] at hgood
  have hkeep : keep (fun _ => paramAccepted b t f s) s = paramAccepted b t f s := rfl
  unfold paramMessage
  rw [hf, hn, hgood]
  simp only [hkeep]
  rfl

/-! ### The write (R228, R232) -/

/-- Without the configuration switch nothing is written. -/
theorem paramWrite_access {i sub : Nat} {v : List Byte} {s : State} (h : bitOf s.saf.dip 0 = false) :
    paramWrite i sub v s = (stAccess, s) := by
  unfold paramWrite
  split
  · rfl
  · rw [h]
    rfl

/-- With it, in PARKED, a good value of a safety parameter is taken. -/
theorem paramWrite_accepted {i sub k : Nat} {b : List Byte} {e : Entry} {v : Val} {s : State} (h : bitOf s.saf.dip 0 = true)
    (he : findEntry i sub = some (e, k)) (ha : e.access = .saf) (hpark : parked s = true) (hv : decodeVal e b = some v)
    (hok : valueOk e v = true) (hlink : safLinkOk e (setCfg e k v s) = true) :
    paramWrite i sub b s = (stAccepted, keep (paramTaken e) (setCfg e k v s)) := by
  simp [paramWrite, he, h, ha, hpark, hv, hok, hlink]

theorem only_setCfg (e : Entry) (k : Nat) (v : Val) (s : State) : Only [.store] s (setCfg e k v s) := fun p hp => by
  cases p with
  | store => exact absurd (by simp) hp
  | _ => rfl

theorem safLinkOk_of_store {s t : State} (h : t.store = s.store) (e : Entry) : safLinkOk e t = safLinkOk e s := by
  simp only [safLinkOk, cfgB, cfgN_of_store h, cfg_of_store h]

/-! ### The answer (R222, R228) -/

theorem safetyLan_congr {s t : State} (hsup : t.sup = s.sup) (hnet : t.net = s.net) (hstore : t.store = s.store) (l : Lan) :
    safetyLan l t = safetyLan l s := by
  simp only [safetyLan, isFenced_of_sup hsup, hnet, cfg_of_store hstore]

theorem buildSafFrame_congr {s t : State} (heff : t.saf.eff = s.saf.eff) (haddr : t.saf.addr = s.saf.addr) (kind : Nat) (lanB : Bool)
    (seq : Nat) (data : List Byte) : buildSafFrame kind lanB seq data t = buildSafFrame kind lanB seq data s := by
  simp only [buildSafFrame, safN_of_eff heff, haddr]

theorem only_sendSafFrame (kind : Nat) (data : List Byte) (s : State) : Only [.saf] s (sendSafFrame kind data s) := by
  rw [sendSafFrame_eq]
  exact only_trans (only_mono (only_saf _ s) (by simp)) fun p _ => by cases p <;> rfl

/-- A frame sent leaves as a copy on each LAN that passes it, as the state that sends it builds it. -/
theorem keep_sendSafFrame (kind : Nat) (data : List Byte) (s : State) : let u := keep (sendSafFrame kind data) s
    let copy (l : Lan) : List Output :=
      if safetyLan l s then [.safetyFrame l (buildSafFrame kind (l == .b) u.saf.statSeq data u)] else []
    Only [.saf] s u ∧ u.out = s.out ++ copy .a ++ copy .b := by
  extract_lets u copy
  have hu : u = sendSafFrame kind data s := keep_of_store (only_sendSafFrame kind data s .store (by decide))
  have hsaf : u.saf = { s.saf with statSeq := nextStat s.saf.statSeq } := by rw [hu, sendSafFrame_eq]
  have hcopy (l : Lan) : safCopy kind (nextStat s.saf.statSeq) data s l = copy l := by
    simp only [safCopy, copy, hsaf]
    rw [buildSafFrame_congr (s := s) (congrArg (·.eff) hsaf) (congrArg (·.addr) hsaf)]
  refine ⟨hu ▸ only_sendSafFrame kind data s, ?_⟩
  rw [hu, sendSafFrame_eq, ← hcopy, ← hcopy]

theorem mem_keep_sendSafFrame (kind : Nat) (data : List Byte) {l : Lan} {s : State} (h : safetyLan l s = true) :
    let u := keep (sendSafFrame kind data) s
    .safetyFrame l (buildSafFrame kind (l == .b) u.saf.statSeq data u) ∈ u.out := by
  extract_lets u
  rw [(keep_sendSafFrame kind data s).2]
  cases l <;> simp [h, u]

/-! ### PARAM_WRITE (R228) -/

/-- The parts that a PARAM_WRITE touches. -/
abbrev paramParts : List Part := [.now, .saf, .store, .dio, .link, .flt, .pair]

section
variable {b : List Byte} {t : Nat} {f : SafFrame} {s w : State} {i sub : Nat} (hl : live s = true) (hw : Only [.now, .saf] s.begin w)
  (hmsg : paramMessage b t s.begin =
    let x := paramWrite i sub (f.data.drop 3) w
    keep (sendSafFrame 3 (f.data.take 3 ++ toBytes 1 x.1)) x.2)
include hl hw hmsg

theorem ends_paramWrite_access (hdip : bitOf w.saf.dip 0 = false) (hout : w.out = []) : Ends (.paramWrite b t) s [.now, .saf] fun u =>
    let copy (l : Lan) : List Output := if safetyLan l s
      then [.safetyFrame l (buildSafFrame 3 (l == .b) u.saf.statSeq (f.data.take 3 ++ toBytes 1 stAccess) u)] else []
    u.out = copy .a ++ copy .b := by
  rw [paramWrite_access hdip] at hmsg
  obtain ⟨hsent, hcopies⟩ := keep_sendSafFrame 3 (f.data.take 3 ++ toBytes 1 stAccess) w
  refine ends_whenLive (f := paramMessage b t) rfl hl (hmsg ▸ only_trans hw (only_mono hsent (by simp))) ?_
  have hlan (l : Lan) : safetyLan l s = safetyLan l w :=
    (safetyLan_congr (hw .sup (by decide)) (hw .net (by decide)) (hw .store (by decide)) l).symm
  rw [hmsg]
  simp only [hlan]
  rw [hout] at hcopies
  exact hcopies

theorem ends_paramWrite_accepted {e : Entry} {k : Nat} {v : Val} (hinv : StoreInv w)
    (hacc : paramWrite i sub (f.data.drop 3) w = (stAccepted, keep (paramTaken e) (setCfg e k v w))) :
    Ends (.paramWrite b t) s paramParts fun u =>
      cfgVal e k u = v ∧ StoreInv u ∧
      ∀ l, safetyLan l u = true →
        .safetyFrame l (buildSafFrame 3 (l == .b) u.saf.statSeq (f.data.take 3 ++ toBytes 1 stAccepted) u) ∈ u.out := by
  rw [hacc] at hmsg
  have htaken : Only demandParts (setCfg e k v w) (keep (paramTaken e) (setCfg e k v w)) := only_keep (only_paramTaken e _)
  have hvalue : cfgVal e k (keep (paramTaken e) (setCfg e k v w)) = v := cfgVal_setCfg_same e k v hinv
  have hwf : StoreInv (keep (paramTaken e) (setCfg e k v w)) := setCfg_inv e k v w hinv
  generalize keep (paramTaken e) (setCfg e k v w) = q at hmsg htaken hvalue hwf
  obtain ⟨hsent, -⟩ := keep_sendSafFrame 3 (f.data.take 3 ++ toBytes 1 stAccepted) q
  have honly := only_trans (only_mono hw (qs := paramParts) (by simp)) (only_trans (only_mono (only_setCfg e k v w) (by simp))
    (only_trans (only_mono htaken (by simp)) (only_mono hsent (by simp))))
  refine ends_whenLive (f := paramMessage b t) rfl hl (hmsg ▸ honly) ?_
  rw [hmsg]
  refine ⟨hvalue, hwf, fun l hlan => ?_⟩
  have hpass : safetyLan l q = true :=
    (safetyLan_congr (hsent .sup (by decide)) (hsent .net (by decide)) (hsent .store (by decide)) l).symm.trans hlan
  exact mem_keep_sendSafFrame 3 (f.data.take 3 ++ toBytes 1 stAccepted) hpass

end

/-- Settles O32: the frame is accepted (`paramMessage_accepts`), written or refused (`paramWrite_accepted`, `paramWrite_access`), and
answered on each LAN (`keep_sendSafFrame`). -/
theorem safetyParametersAreWritten : Obligations.SafetyParametersAreWritten := by
  unfold Obligations.SafetyParametersAreWritten
  intro b t f s hl hf hn hp hk hconn hseq hlen hh hplace hone
  extract_lets index sub
  have hmsg := paramMessage_accepts (t := t) (s := s.begin) hf hn hp hk hconn hseq hlen hh hplace hone
  have honly := only_paramAccepted b t f s.begin
  have hdip : (paramAccepted b t f s.begin).saf.dip = s.saf.dip := rfl
  have hout : (paramAccepted b t f s.begin).out = [] := rfl
  generalize paramAccepted b t f s.begin = w at hmsg honly hdip hout
  refine ⟨fun hoff => ?_, fun e k v hon he ha hpark hv hok hlink hinv => ?_⟩
  · exact ends_paramWrite_access hl honly hmsg (hdip ▸ hoff) hout
  · have hstore : w.store = s.store := honly .store (by decide)
    have hwpark : parked w = true := by rw [parked, honly .sp (by decide)]; exact hpark
    have hwinv : StoreInv w := by rw [StoreInv, hstore]; exact hinv
    have hwlink : safLinkOk e (setCfg e k v w) = true :=
      (safLinkOk_of_store (s := setCfg e k v s) (congrArg (storePut _ _ v) hstore) e).trans hlink
    exact ends_paramWrite_accepted hl honly hmsg hwinv (paramWrite_accepted (hdip ▸ hon) he ha hwpark hv hok hwlink)

end Sys2Proof.Proofs
end

section
/-! PROOFS. Rotary switches, the reset pulse, the stuck input, and reaction times that exceed a process safety time. -/
namespace Sys2Proof.Proofs
open Sys2Proof Sys2Proof.Machine Sys2Proof.Laws

/-! ### The switches (R229) -/

/-- A reading outside the codes. -/
def scanBad (addr dip : Nat) : Bool := addr = 0 || addr = 255 || dip ≥ 8

theorem scanBad_iff {addr dip : Nat} : scanBad addr dip = true ↔ addr = 0 ∨ addr = 255 ∨ 8 ≤ dip := by
  simp [scanBad, or_assoc]

/-- The safety registers after a reading of the switches. -/
def scanRegs (addr dip now : Nat) (x : SafetyRegs) : SafetyRegs := { x with
  addr := addr, dip := dip, scanned := true, scanAt := now, swInvalid := scanBad addr dip
  addr0 := if !x.scanned then addr else x.addr0, lan0 := if !x.scanned then bitOf dip 1 else x.lan0 }

/-- The reading: outputs that lose their enables drop, and one outside the codes raises 0x580B. -/
def scanRead (addr dip : Nat) (s : State) : State :=
  let t := withSq (fun s => withSaf { s.saf with swInvalid := scanBad addr dip } s)
    (withSaf { scanRegs addr dip s.now s.saf with swInvalid := s.saf.swInvalid } s)
  if scanBad addr dip then raiseF 0x580B wide t else t

theorem scanRead_leaves (addr dip : Nat) (s : State) : Only [.saf, .dio, .link, .flt] s (scanRead addr dip s) ∧
    (scanRead addr dip s).saf = scanRegs addr dip s.now s.saf ∧
    (scanBad addr dip = true → isActive 0x580B wide (scanRead addr dip s) = true) := by
  unfold scanRead
  generalize hw : withSaf { scanRegs addr dip s.now s.saf with swInvalid := s.saf.swInvalid } s = w
  have honly : Only [.saf] s w := hw ▸ only_withSaf _ s
  have hsq : Only [.dio, .link, .saf] w (withSq (fun s => withSaf { s.saf with swInvalid := scanBad addr dip } s) w) :=
    only_withSq (only_withSaf _ w)
  have hregs := withSq_saf (fun s => withSaf { s.saf with swInvalid := scanBad addr dip } s) w
  generalize withSq (fun s => withSaf { s.saf with swInvalid := scanBad addr dip } s) w = t at hsq hregs
  obtain ⟨hraise, hsaf, -⟩ := raiseIf_leaves (scanBad addr dip = true) 0x580B wide t
  refine ⟨only_trans (only_mono honly (by simp)) (only_trans (only_mono hsq (by simp)) (only_mono hraise (by simp))),
    hsaf.trans (hregs.trans (by rw [← hw]; rfl)), fun hbad => ?_⟩
  dsimp only
  rw [if_pos hbad]
  exact isActive_raiseF _ _ t

/-- A reading that differs from the one at start. -/
def scanDiffers (addr dip : Nat) (x : SafetyRegs) : Bool := addr ≠ x.addr0 || bitOf dip 1 ≠ x.lan0

theorem switchScan_eq (addr dip : Nat) (s : State) : switchScan addr dip s =
    let t := scanRead addr dip s
    if scanDiffers addr dip t.saf then latchDemand 0x580A (withSaf { t.saf with swChanged := true } t) else t := by
  unfold switchScan scanRead scanDiffers withSaf
  rfl

theorem switchScan_leaves (addr dip : Nat) (s : State) : Only demandParts s (switchScan addr dip s) ∧
    (∃ c, unlatched (switchScan addr dip s).saf = unlatched { scanRegs addr dip s.now s.saf with swChanged := c }) ∧
    (scanBad addr dip = true → isActive 0x580B wide (switchScan addr dip s) = true) := by
  obtain ⟨hread, hregs, hbad⟩ := scanRead_leaves addr dip s
  rw [switchScan_eq]
  generalize scanRead addr dip s = t at hread hregs hbad
  dsimp only
  split
  · have hchanged : Only [.saf] t (withSaf { t.saf with swChanged := true } t) := only_withSaf _ t
    obtain ⟨honly, hsaf, -, -⟩ := latchDemand_latches 0x580A (withSaf { t.saf with swChanged := true } t)
    refine ⟨only_trans (only_mono hread (by simp)) (only_trans (only_mono hchanged (by simp)) honly), ⟨true, ?_⟩,
      fun h => isActive_latchDemand_of_active _ (hbad h)⟩
    rw [hsaf, withSaf_saf, hregs]
  · exact ⟨only_mono hread (by simp), ⟨s.saf.swChanged, congrArg unlatched hregs⟩, hbad⟩

/-- The first reading is the one that later ones are compared with. -/
theorem switchScan_first {s : State} (h : s.saf.scanned = false) (addr dip : Nat) :
    (switchScan addr dip s).saf = scanRegs addr dip s.now s.saf := by
  obtain ⟨-, hregs, -⟩ := scanRead_leaves addr dip s
  have hsame : scanDiffers addr dip (scanRegs addr dip s.now s.saf) = false := by simp [scanDiffers, scanRegs, h]
  rw [switchScan_eq]
  dsimp only
  rw [hregs, if_neg (Bool.eq_false_iff.1 hsame), hregs]

/-- A changed address latches with 0x580A. -/
theorem switchScan_changed {addr : Nat} {s : State} (h : s.saf.scanned = true) (hne : addr ≠ s.saf.addr0) (dip : Nat) :
    (switchScan addr dip s).saf.swChanged = true ∧ isActive 0x580A wide (switchScan addr dip s) = true ∧
    (s.saf.state = .permitted → (switchScan addr dip s).saf.state = .latched) := by
  obtain ⟨-, hregs, -⟩ := scanRead_leaves addr dip s
  have hdiffers : scanDiffers addr dip (scanRead addr dip s).saf = true := by simp [scanDiffers, hregs, scanRegs, h, hne]
  have hstate : (scanRead addr dip s).saf.state = s.saf.state := by rw [hregs]; rfl
  rw [switchScan_eq]
  dsimp only
  rw [if_pos hdiffers]
  generalize scanRead addr dip s = t at hstate
  obtain ⟨-, hsaf, -, -⟩ := latchDemand_latches 0x580A (withSaf { t.saf with swChanged := true } t)
  exact ⟨congrArg (·.swChanged) hsaf, isActive_latchDemand _ _, fun hp => latchDemand_running _ (.inr (hstate.trans hp))⟩

/-! ### The reset pulse (R233 to R235) -/

/-- The codes that a reset clears. -/
abbrev latchCodes : List Nat := [0x5800, 0x5801, 0x5802, 0x5803, 0x5804, 0x5805, 0x5806, 0x580C, 0x5811]

theorem clearEach_clears (codes : List Nat) (s : State) : Only [.flt] s (forAll codes (fun c s => clearF c wide s) s) ∧
    ∀ c ∈ codes, isActive c wide (forAll codes (fun c s => clearF c wide s) s) = false :=
  ⟨only_forAll _ codes _ (fun c s => only_clearF c wide s) s, fun c hc =>
    forAll_establishes (I := fun _ => True) (P := fun s => isActive c wide s = false) hc (fun _ _ _ => trivial)
      (fun d _ _ h => isActive_clearF_of_not d wide h) (fun s _ => isActive_clearF c wide s) trivial⟩

theorem setSaf_sets (x : SafState) (s : State) : Only [.dio, .link, .saf] s (setSaf x s) ∧
    (setSaf x s).saf = { s.saf with state := x } :=
  ⟨only_withSq (only_saf _ s), withSq_saf _ s⟩

/-- The latch ends in PERMITTED, without the codes of its demands. -/
theorem clearLatch_clears (s : State) : Only [.saf, .flt, .dio, .link] s (clearLatch s) ∧
    (clearLatch s).saf = { s.saf with state := .permitted } ∧ ∀ c ∈ latchCodes, isActive c wide (clearLatch s) = false := by
  obtain ⟨hflt, hcodes⟩ := clearEach_clears latchCodes s
  unfold clearLatch
  dsimp only
  generalize forAll latchCodes (fun c s => clearF c wide s) s = t at hflt hcodes
  obtain ⟨hset, hregs⟩ := setSaf_sets .permitted t
  refine ⟨only_trans (only_mono hflt (by simp)) (only_mono hset (by simp)), ?_, fun c hc => ?_⟩
  · rw [hregs, hflt .saf (by decide)]
  · rw [isActive_of_flt (hset .flt (by decide))]
    exact hcodes c hc

/-- A reset that clears a latch is counted. -/
def resetCounted (s : State) : State := withSaf { s.saf with resetCount := incSat32 s.saf.resetCount } s

/-- The pulse is over when it is judged. -/
def pulseTaken (s : State) : State := withSaf { s.saf with pulse := none } s.begin

section
variable {low high : Nat} {s : State}

theorem resetPulse_short (hst : s.saf.stuck = false) (hs : high < 100000000) : resetPulse low high s = putReset .short s := by
  simp [resetPulse, hst, hs]

theorem resetPulse_ignored (hst : s.saf.stuck = false) (hs : 100000000 ≤ high) (hbad : 3000000000 < high ∨ low < 100000000) :
    resetPulse low high s = s := by
  simp [resetPulse, hst, Nat.not_lt.2 hs, hbad]

theorem resetPulse_valid (hst : s.saf.stuck = false) (hs : 100000000 ≤ high) (hh : high ≤ 3000000000) (hlow : 100000000 ≤ low) :
    resetPulse low high s = validPulse s := by
  simp [resetPulse, hst, Nat.not_lt.2 hs, Nat.not_lt.2 hh, Nat.not_lt.2 hlow]

theorem resetPulse_blocked (hst : s.saf.stuck = true) (hlow : low < 1000000000) : resetPulse low high s = s := by
  simp [resetPulse, hst, Nat.not_le.2 hlow]

theorem unblock_leaves (s : State) : Only [.saf, .flt] s (unblock s) ∧ (unblock s).saf = { s.saf with stuck := false } ∧
    isActive 0x580F wide (unblock s) = false :=
  ⟨only_trans (only_mono (only_saf { s.saf with stuck := false } s) (by simp)) (only_mono (only_clearF _ _ _) (by simp)),
    clearF_saf _ _ _, isActive_clearF _ _ _⟩

theorem resetPulse_unblocks (hst : s.saf.stuck = true) (hlow : 1000000000 ≤ low) (hs : high < 100000000) :
    resetPulse low high s = putReset .short (unblock s) := by
  obtain ⟨-, hsaf, -⟩ := unblock_leaves s
  simp [resetPulse, hst, hlow, hs, hsaf]

theorem validPulse_noLatch (h : s.saf.state ≠ .latched) : validPulse s = putReset .noLatch s := by simp [validPulse, h]

theorem validPulse_refused (h : s.saf.state = .latched) (hd : demandPresent s = true) : validPulse s = putReset .refusedDemand s := by
  simp [validPulse, h, hd]

theorem validPulse_done (h : s.saf.state = .latched) (hd : demandPresent s = false) :
    validPulse s = putReset .done (clearLatch (resetCounted s)) :=
  (if_neg (by simp [h])).trans (if_neg (by simp [hd]))

end

theorem only_putReset (r : ResetLast) (s : State) : Only [.saf] s (putReset r s) := only_saf _ s

theorem rstFor_of_since {t : Nat} {s : State} (ht : s.saf.rstAt = some t) (ns : Nat) : rstFor ns s = decide (t + ns ≤ s.now) :=
  heldFor_of_since ht ns s

/-! ### Reaction times (R240) -/

theorem trDue_begin (f : SafetyFn) (s : State) : trDue f s.begin = trDue f s := by cases f <;> rfl

/-- A function slower than its process safety time demands. -/
def trDemanded (f : SafetyFn) (s : State) : State :=
  withSaf { s.saf with trPst := setTr f true s.saf.trPst, demand := setTr f true s.saf.demand } s

theorem trExceedsPst_eq (f : SafetyFn) (s : State) :
    trExceedsPst f s = guardOn (trDue f s && safRuns s) (fun s => latchDemand 0x5811 (trDemanded f s)) s := rfl

/-! ### The commands -/

section
variable {s : State} (hl : live s = true)
include hl

theorem sends_switchScan (a d : Byte) (h : scanDue s = false) : Sends (.switchScan a d) s [] :=
  sends_whenLiveK (f := guardOn (!isFenced .s s && scanDue s) (switchScan a.toNat d.toNat)) rfl hl
    (guardOn_false (Bool.and_eq_false_iff.2 (.inr h)) _ s.begin)

theorem sends_safetyResetPulse (h : s.saf.pulse = none) : Sends .safetyResetPulse s [] :=
  sends_whenLiveK (f := safetyResetPulse) rfl hl (by simp [safetyResetPulse, h])

theorem sends_stuckReset {t : Nat} (ht : s.saf.rstAt = some t) (h : s.now < t + 3000000000) : Sends .stuckReset s [] := by
  have hearly : (s.saf.rst && rstFor 3000000000 s && !s.saf.stuck && !isFenced .s s) = false := by
    have hheld : rstFor 3000000000 s = false := (rstFor_of_since ht _).trans (decide_eq_false (Nat.not_le.2 h))
    simp [hheld]
  exact sends_whenLiveK rfl hl (guardOn_false hearly _ s.begin)

theorem sends_trExceedsPst {f : SafetyFn} (h : trDue f s = false) : Sends (.trExceedsPst f) s [] :=
  sends_whenLiveK (f := trExceedsPst f) rfl hl
    ((trExceedsPst_eq f s.begin).trans (guardOn_false (Bool.and_eq_false_iff.2 (.inl ((trDue_begin f s).trans h))) _ s.begin))

theorem ends_trExceedsPst {f : SafetyFn} (h : trDue f s = true) (hrun : safRuns s = true) :
    Ends (.trExceedsPst f) s demandParts fun u => u.saf.state = .latched ∧ isActive 0x5811 wide u = true := by
  have hact : (trDue f s.begin && safRuns s.begin) = true := Bool.and_eq_true_iff.2 ⟨(trDue_begin f s).trans h, hrun⟩
  have hdemanded : Only [.saf] s.begin (trDemanded f s.begin) := only_withSaf _ s.begin
  have hlatch := latchDemand_running (s := trDemanded f s.begin) 0x5811 (state_of_safRuns hrun)
  have hactive := isActive_latchDemand 0x5811 (trDemanded f s.begin)
  have honly := only_trans (only_mono hdemanded (by simp)) (only_latchDemand 0x5811 (trDemanded f s.begin))
  exact ends_of_effect (f := trExceedsPst f) rfl hl ((trExceedsPst_eq f s.begin).trans (guardOn_true hact _ s.begin)) honly
    ⟨hlatch, hactive⟩

variable (hf : isFenced .s s = false)
include hf

theorem ends_switchScan (a d : Byte) (h : scanDue s = true) : Ends (.switchScan a d) s [.saf, .dio, .link, .flt, .pair] fun u =>
    u.saf.addr = a.toNat ∧ u.saf.dip = d.toNat ∧ u.saf.scanned = true ∧ u.saf.scanAt = s.now ∧
    ((a.toNat = 0 ∨ a.toNat = 255 ∨ 8 ≤ d.toNat) → u.saf.swInvalid = true ∧ isActive 0x580B wide u = true ∧ allOpen u) ∧
    (s.saf.scanned = false → u.saf.addr0 = a.toNat ∧ u.saf.lan0 = bitOf d.toNat 1 ∧ u.saf.state = s.saf.state) ∧
    (s.saf.scanned = true → a.toNat ≠ s.saf.addr0 → u.saf.swChanged = true ∧ isActive 0x580A wide u = true ∧
      (s.saf.state = .permitted → u.saf.state = .latched)) := by
  obtain ⟨honly, ⟨c, hregs⟩, hcode⟩ := switchScan_leaves a.toNat d.toNat s.begin
  have hfirst := fun h => switchScan_first (s := s.begin) h a.toNat d.toNat
  have hchanged := fun h hne => switchScan_changed (s := s.begin) (addr := a.toNat) h hne d.toNat
  have hact : (!isFenced .s s && scanDue s) = true := Bool.and_eq_true_iff.2 ⟨by rw [hf]; rfl, h⟩
  have heff := guardOn_true hact (switchScan a.toNat d.toNat) s.begin
  generalize switchScan a.toNat d.toNat s.begin = u at honly hregs hcode hfirst hchanged heff
  refine ends_of_effect (f := guardOn (!isFenced .s s && scanDue s) (switchScan a.toNat d.toNat)) rfl hl heff
    (only_mono honly (by simp)) ⟨congrArg (·.addr) hregs, congrArg (·.dip) hregs, congrArg (·.scanned) hregs,
      congrArg (·.scanAt) hregs, fun hbad => ?_, fun hnew => ?_, hchanged⟩
  · have hinv : u.saf.swInvalid = true := (congrArg (·.swInvalid) hregs).trans (scanBad_iff.2 hbad)
    exact ⟨hinv, hcode (scanBad_iff.2 hbad), allOpen_of_swInvalid hinv⟩
  · have hsaf := hfirst hnew
    have hstart : (!s.saf.scanned) = true := by rw [hnew]; rfl
    exact ⟨(congrArg (·.addr0) hsaf).trans (if_pos hstart), (congrArg (·.lan0) hsaf).trans (if_pos hstart), congrArg (·.state) hsaf⟩

/-- A pulse is judged once, and is then over. -/
theorem ends_safetyResetPulse {low high : Nat} (hp : s.saf.pulse = some (low, high)) {ps : List Part} {P : State → Prop} {u : State}
    (hu : resetPulse low high (pulseTaken s) = u)
    (ho : Only ps (pulseTaken s) u) (hps : .saf ∈ ps)
    (h : P { s.keepQueue u with store := s.store }) : Ends .safetyResetPulse s ps P := by
  have hact : (!isFenced .s s.begin) = true := by rw [isFenced_of_sup (begin_sup s), hf]; rfl
  have hpulse : safetyResetPulse s.begin = guardOn (!isFenced .s s.begin)
      (fun s => resetPulse low high (withSaf { s.saf with pulse := none } s)) s.begin := by
    simp only [safetyResetPulse, begin_saf, hp]
    rfl
  exact ends_of_effect (f := safetyResetPulse) rfl hl (hpulse.trans ((guardOn_true hact _ s.begin).trans hu))
    (only_trans (only_mono (only_withSaf _ s.begin) (by simpa using hps)) ho) h

/-- A pulse whose judgement writes SAF_RESET_LAST at most. -/
theorem ends_safetyResetPulse_only {low high : Nat} (hp : s.saf.pulse = some (low, high)) {x : SafetyRegs}
    (hu : resetPulse low high (pulseTaken s) = withSaf x s.begin) :
    Ends .safetyResetPulse s [.saf] fun u => u.saf = x :=
  ends_safetyResetPulse hl hf hp hu (only_withSaf x (pulseTaken s)) (by simp) rfl

theorem ends_safetyResetPulse_done {low high : Nat} (hp : s.saf.pulse = some (low, high)) (hst : s.saf.stuck = false)
    (hs : 100000000 ≤ high) (hh : high ≤ 3000000000) (hlow : 100000000 ≤ low) (hlatch : s.saf.state = .latched)
    (hd : demandPresent s = false) : Ends .safetyResetPulse s [.saf, .flt, .dio, .link] fun u =>
      u.saf = { s.saf with pulse := none, resetLast := .done, state := .permitted, resetCount := incSat32 s.saf.resetCount } ∧
      ∀ c ∈ latchCodes, isActive c wide u = false := by
  have hdone : resetPulse low high (pulseTaken s) = putReset .done (clearLatch (resetCounted (pulseTaken s))) :=
    (resetPulse_valid (s := pulseTaken s) hst hs hh hlow).trans (validPulse_done hlatch hd)
  have hcounted : Only [.saf] (pulseTaken s) (resetCounted (pulseTaken s)) := only_withSaf _ _
  obtain ⟨honly, hsaf, hcodes⟩ := clearLatch_clears (resetCounted (pulseTaken s))
  refine ends_safetyResetPulse hl hf hp hdone ?_ (by simp)
    ⟨congrArg (fun x : SafetyRegs => { x with resetLast := .done }) hsaf, hcodes⟩
  exact only_trans (only_mono hcounted (by simp)) (only_trans honly (only_mono (only_putReset .done _) (by simp)))

theorem ends_safetyResetPulse_unblocks {low high : Nat} (hp : s.saf.pulse = some (low, high)) (hst : s.saf.stuck = true)
    (hlow : 1000000000 ≤ low) (hs : high < 100000000) : Ends .safetyResetPulse s [.saf, .flt] fun u =>
      u.saf = { s.saf with pulse := none, resetLast := .short, stuck := false } ∧ isActive 0x580F wide u = false := by
  obtain ⟨honly, hsaf, hcode⟩ := unblock_leaves (pulseTaken s)
  refine ends_safetyResetPulse hl hf hp (resetPulse_unblocks hst hlow hs) ?_ (by simp)
    ⟨congrArg (fun x : SafetyRegs => { x with resetLast := .short }) hsaf, hcode⟩
  exact only_trans honly (only_mono (only_putReset .short _) (by simp))

theorem ends_stuckReset {t : Nat} (hr : s.saf.rst = true) (ht : s.saf.rstAt = some t) (hst : s.saf.stuck = false)
    (h : t + 3000000000 ≤ s.now) : Ends .stuckReset s [.saf, .flt] fun u =>
      u.saf = { s.saf with stuck := true, resetLast := .stuck } ∧ isActive 0x580F wide u = true := by
  have hact : (s.saf.rst && rstFor 3000000000 s && !s.saf.stuck && !isFenced .s s) = true := by
    have hheld : rstFor 3000000000 s = true := (rstFor_of_since ht _).trans (decide_eq_true h)
    rw [hf, hheld, hr, hst]
    rfl
  have hstuck := only_withSaf { s.saf with stuck := true, resetLast := .stuck } s.begin
  exact ends_of_effect rfl hl (guardOn_true hact _ s.begin)
    (only_trans (only_mono hstuck (by simp)) (only_mono (only_raiseF 0x580F wide _) (by simp)))
    ⟨raiseF_saf _ _ (withSaf { s.saf with stuck := true, resetLast := .stuck } s.begin), isActive_raiseF _ _ _⟩

end

/-- Settles O33: a scan is judged by `switchScan_leaves`, `switchScan_first` and `switchScan_changed`, a pulse by its lengths and the
latch (`clearLatch_clears`), and a time that exceeds latches (`latchDemand_running`). -/
theorem safetySwitchesResetAndTimes : Obligations.SafetySwitchesResetAndTimes := by
  unfold Obligations.SafetySwitchesResetAndTimes
  intro s hl hf
  refine ⟨fun a d => ⟨ends_switchScan hl hf a d, sends_switchScan hl a d⟩, fun low high hp => ?_, sends_safetyResetPulse hl,
    fun t hr ht hst => ⟨ends_stuckReset hl hf hr ht hst, sends_stuckReset hl ht⟩,
    fun f => ⟨ends_trExceedsPst hl, sends_trExceedsPst hl⟩⟩
  extract_lets put
  refine ⟨fun hst => ⟨fun hs => ?_, fun hs hbad => ?_, fun hs hh hlow =>
      ⟨fun hlatch hd => ?_, fun hlatch hd => ?_, fun hlatch => ?_⟩⟩, fun hst hlow => ?_, fun hst hlow hs => ?_⟩
  · exact ends_safetyResetPulse_only hl hf hp (resetPulse_short hst hs)
  · exact ends_safetyResetPulse_only hl hf hp (resetPulse_ignored hst hs hbad)
  · exact ends_safetyResetPulse_done hl hf hp hst hs hh hlow hlatch hd
  · exact ends_safetyResetPulse_only hl hf hp ((resetPulse_valid (s := pulseTaken s) hst hs hh hlow).trans (validPulse_refused hlatch hd))
  · exact ends_safetyResetPulse_only hl hf hp ((resetPulse_valid (s := pulseTaken s) hst hs hh hlow).trans (validPulse_noLatch hlatch))
  · exact ends_safetyResetPulse_only hl hf hp (resetPulse_blocked hst hlow)
  · exact ends_safetyResetPulse_unblocks hl hf hp hst hlow hs

end Sys2Proof.Proofs
end
section
/-! PROOFS. Requests that are answered at once: unsequenced reads, the opening of a session, requests out of their turn, and requests
that no member serves. -/
namespace Sys2Proof.Proofs
open Sys2Proof Sys2Proof.Machine Sys2Proof.Laws

/-! ### How an answer completes a request -/

/-- A request whose effect is what it sends sends that and changes nothing. -/
theorem sends_of_effect {i : Instr} {f : State → State} {s : State} {out : List Output} (he : exec i s = whenLiveK f s)
    (hl : live s = true) (hu : f s.begin = { s with out := out }) : Sends i s out :=
  he.trans ((whenLiveK_next hl).trans (by rw [hu]; rfl))

/-- A reply over UDP is one message. -/
theorem sendReply_udp {c : Reply} {a : Word32} {p : Word16} {own : Bool} (h : c.dest = .udp a p own) (s : State) :
    sendReply c s = emit (.reply c) s := by
  simp [sendReply, h]

theorem isOpen_of_op {r : Req} (h : r.op ≠ 0x30) : isOpen r = false := by simp [isOpen, h]

/-! ### Unsequenced requests of an open session (R252, R264) -/

theorem inSession_unsequenced {r : Req} {x : Session} {s : State} (hx : sessionOf r.h.ses s = some x) (hseq : r.h.seq = 0) :
    inSession r s.begin = unsequenced r (some x) (arrived x s) := by
  have hfind : sessionOf r.h.ses s.begin = some x := hx
  unfold inSession
  rw [hfind]
  exact if_pos hseq

/-- A BLOCK_READ reads of its session no more than the snapshot. -/
theorem blockAnswer_congr {x y : Session} (h : y.snap = x.snap) (r : Req) (s : State) : blockAnswer r y s = blockAnswer r x s := by
  unfold blockAnswer
  rw [h]

section
variable {i : Instr} {r : Req} {x : Session} {s : State} (hi : requestOf i = some r) (hasks : Asks r s)
  (hx : sessionOf r.h.ses s = some x)
include hi hasks hx

/-- An unsequenced request of an open session completes with one answer, given in a state t that has changed no more than sessions. -/
theorem ends_unsequenced {t : State} {st fl : Nat} {b : List Byte} (hop : opKnown r.op = true) (h30 : r.op ≠ 0x30)
    (hu : unsequenced r (some x) (arrived x s) = answer r st fl b t) (ht : Only [.ses] (arrived x s) t) (hout : t.out = []) :
    Ends i s [.ses] fun u => u.ses = t.ses ∧ u.out = [.reply (mkReply r st fl b)] := by
  have hserved := isServed_begin (isServed_of_asks hasks)
  obtain ⟨hlive, -, -, -, -, hseq, ⟨a, p, own, hvia⟩, -⟩ := hasks
  have heff : receive r s.begin = emit (.reply (mkReply r st fl b)) t := by
    rw [receive_of_isServed hserved hop, if_neg (by simp [isOpen_of_op h30]), inSession_unsequenced hx hseq, hu, answer_udp hvia]
  have hframe : Only [.ses] s.begin (emit (.reply (mkReply r st fl b)) t) :=
    only_trans (only_ses _ s.begin) (only_trans ht (only_mono (only_emit _ t) (by simp)))
  refine ends_of_effect (exec_request hi s) hlive heff hframe ⟨rfl, ?_⟩
  change t.out ++ _ = _
  rw [hout, List.nil_append]

end

/-- Settles O6: each of the four requests is one answer in the state that has noted its arrival. -/
theorem unsequencedReadsAreAnsweredAtOnce : Obligations.UnsequencedReadsAreAnsweredAtOnce := by
  unfold Obligations.UnsequencedReadsAreAnsweredAtOnce
  intro i r x s hi hasks hx u y
  refine ⟨fun hop => ?read, fun hop => ?describe, fun hop => ?block, fun hop => ?state⟩
  case read =>
    exact ends_unsequenced hi hasks hx (by rw [hop]; rfl) (by rw [hop]; decide) (by simp [unsequenced, hop, u]) (only_refl _ u) rfl
  case describe =>
    exact ends_unsequenced hi hasks hx (by rw [hop]; rfl) (by rw [hop]; decide) (by simp [unsequenced, hop, u]) (only_refl _ u) rfl
  case block =>
    rw [blockAnswer_congr (x := x) (y := y) rfl r u]
    exact ends_unsequenced hi hasks hx (by rw [hop]; rfl) (by rw [hop]; decide) (by simp [unsequenced, hop, u]) (only_ses _ u) rfl
  case state =>
    exact ends_unsequenced hi hasks hx (by rw [hop]; rfl) (by rw [hop]; decide) (by simp [unsequenced, hop, u, statePayload])
      (only_refl _ u) rfl

/-! ### SESSION_OPEN (R250) -/

section
variable {h : Hdr} {p : List Byte} {s : State}

/-- The request that SESSION_OPEN is. -/
def openReq (h : Hdr) (p : List Byte) : Req := { h := h, op := 0x30, index := 0, sub := 0, payload := p }

/-- The session that a client has among those of its kind. -/
def sessionOfClient (h : Hdr) (p : List Byte) (s : State) : Option Session :=
  s.ses.open_.find? fun x => x.client == fieldU p 0 8 && x.service == bitOf h.flags 0

/-- SESSION_OPEN comes to the rule that opens sessions. -/
theorem receive_sessionOpen (hasks : Asks (openReq h p) s) : receive (openReq h p) s.begin = openRequest (openReq h p) s.begin := by
  have hserved := isServed_begin (isServed_of_asks hasks)
  obtain ⟨-, -, -, -, -, hseq, -⟩ := hasks
  have hopen : isOpen (openReq h p) = true := by simpa [isOpen, openReq] using hseq
  rw [receive_of_isServed hserved (by rfl), if_pos hopen]

variable (hlen : p.length = 8) (hsvc : bitOf h.flags 0 = true → s.ses.svcEn = true)
include hlen hsvc

/-- A client that may ask for its kind of session is judged by the session it has. -/
theorem openRequest_eq : openRequest (openReq h p) s.begin =
    match sessionOfClient h p s with
    | some x => sendReply { mkReply (openReq h p) stDone 0 (toBytes 4 x.next) with ses := x.id } s.begin
    | none =>
      if (freeSlot (bitOf h.flags 0) s).isNone then answer (openReq h p) stLimit 0 [] s.begin
      else if isFenced .j s then answer (openReq h p) stDeferred 0 [] s.begin
      else { s.begin with ses := { s.ses with batch := s.ses.batch ++ [.request (openReq h p) (mkReply (openReq h p) stDone 0 [])] } } := by
  have hen : (bitOf h.flags 0 && !s.begin.ses.svcEn) = false := by
    cases hb : bitOf h.flags 0 with
    | false => rfl
    | true => simp [State.begin, hsvc hb]
  simp only [openRequest, openReq, hlen, hen]
  rfl

end

/-- Settles O7: by whether the client has a session, and whether a slot is free. -/
theorem sessionOpenAnswers : Obligations.SessionOpenAnswers := by
  unfold Obligations.SessionOpenAnswers
  intro h p s r service found hasks hlen hsvc
  have heff := receive_sessionOpen (h := h) (p := p) hasks
  have hreq : requestOf (.sessionOpen h p) = some (openReq h p) := rfl
  obtain ⟨hlive, -, -, -, -, -, ⟨a, q, own, hvia⟩, -⟩ := hasks
  have hanswer (st : Nat) : answer (openReq h p) st 0 [] s.begin = { s with out := [.reply (mkReply r st 0 [])] } :=
    answer_udp hvia st 0 [] s.begin
  refine ⟨fun x hx => ?known, fun hx hslot hj => ?deferred, fun hx hslot hj => ?joins, fun hx hslot => ?limit⟩
  case known =>
    refine sends_of_effect (exec_request hreq s) hlive (heff.trans ((openRequest_eq hlen hsvc).trans ?_))
    rw [show sessionOfClient h p s = some x from hx]
    exact sendReply_udp (c := { mkReply (openReq h p) stDone 0 (toBytes 4 x.next) with ses := x.id }) hvia s.begin
  case deferred =>
    refine sends_of_effect (exec_request hreq s) hlive (heff.trans ((openRequest_eq hlen hsvc).trans ?_))
    rw [show sessionOfClient h p s = none from hx]
    exact (if_neg (by simpa using Option.isSome_iff_ne_none.1 hslot)).trans ((if_pos hj).trans (hanswer _))
  case joins =>
    refine ends_of_effect (exec_request hreq s) hlive (heff.trans ((openRequest_eq hlen hsvc).trans ?_))
      (only_ses { s.ses with batch := s.ses.batch ++ [.request r (mkReply r stDone 0 [])] } s.begin) ⟨rfl, rfl⟩
    rw [show sessionOfClient h p s = none from hx]
    exact (if_neg (by simpa using Option.isSome_iff_ne_none.1 hslot)).trans (if_neg (by simp [hj]))
  case limit =>
    refine sends_of_effect (exec_request hreq s) hlive (heff.trans ((openRequest_eq hlen hsvc).trans ?_))
    rw [show sessionOfClient h p s = none from hx]
    exact (if_pos (Option.isNone_iff_eq_none.2 hslot)).trans (hanswer _)

/-! ### Requests out of their turn (R253) -/

/-- A sequenced request with room in the journal is sorted by its distance. -/
theorem inSession_sequenced {r : Req} {x : Session} {s : State} (hx : sessionOf r.h.ses s = some x) (hseq : r.h.seq ≠ 0)
    (hj : isFenced .j s = false) (hroom : 65536 ≤ journalFree s) :
    inSession r s.begin = ordered execute false r x (openOnReceipt r x (arrived x s)) := by
  have hfull : (isFenced .j (arrived x s) || decide (journalFree (arrived x s) < 65536)) = false := by
    rw [show isFenced .j (arrived x s) = false from hj, Bool.false_or]
    exact decide_eq_false (Nat.not_lt.2 hroom)
  have hfind : sessionOf r.h.ses s.begin = some x := hx
  unfold inSession
  rw [hfind]
  exact (if_neg hseq).trans (congrArg (ordered execute · r x (openOnReceipt r x (arrived x s))) hfull)

theorem openOnReceipt_of_not {r : Req} (x : Session) (s : State) (h : opensOnReceipt r = false) : openOnReceipt r x s = s :=
  if_neg (by simp [h])

theorem openOnReceipt_of_behind {r : Req} {x : Session} (s : State) (h : seqDiff r.h.seq x.next < 0) : openOnReceipt r x s = s :=
  if_neg (by simp [Int.not_le.2 h])

section
variable {r : Req} {x : Session} {s : State} (run : Req → Nat → State → State)

theorem ordered_farBehind (h : seqDiff r.h.seq x.next < -32) : ordered run false r x s = gapReply x.next r s := if_pos h

theorem ordered_behind {c : Reply} (h : -32 ≤ seqDiff r.h.seq x.next) (h0 : seqDiff r.h.seq x.next < 0)
    (hc : x.cache.find? (·.seq == r.h.seq) = some c) : ordered run false r x s = resend r c s := by
  unfold ordered
  dsimp only
  rw [if_neg (by omega), if_pos h0, hc]

theorem ordered_ahead (hheld : x.held = []) (h : 1 ≤ seqDiff r.h.seq x.next) (h16 : seqDiff r.h.seq x.next ≤ 16) :
    ordered run false r x s = modSession x.id (fun y => { y with held := y.held ++ [{ req := r, since := s.now }] }) s := by
  unfold ordered
  dsimp only
  rw [if_neg (by omega), if_neg (by omega), if_neg Bool.false_ne_true, if_neg (by omega), if_neg (by simp [hheld]), if_pos (by simp [hheld, h16])]

theorem ordered_farAhead (hheld : x.held = []) (h : 16 < seqDiff r.h.seq x.next) :
    ordered run false r x s = gapHeld x (gapReply x.next r s) := by
  unfold ordered
  dsimp only
  rw [if_neg (by omega), if_neg (by omega), if_neg Bool.false_ne_true, if_neg (by omega), if_neg (by simp [hheld]), if_neg (by simp; omega)]

end

/-- SEQ_GAP over UDP is one message, and it is counted. -/
theorem gapReply_udp {r : Req} {a : Word32} {p : Word16} {own : Bool} (h : r.h.via = .udp a p own) (next : Nat) (s : State) :
    gapReply next r s = { s with
      out := s.out ++ [.reply (mkReply r stGap 0 (toBytes 4 next))], ses := { s.ses with gaps := incSat32 s.ses.gaps } } := by
  rw [gapReply, answer_udp h]
  rfl

/-- A reply leaves again as a replay, where no rotation holds it back and no sequence runs again. -/
theorem resend_udp {r : Req} {a : Word32} {p : Word16} {own : Bool} (h : r.h.via = .udp a p own) (c : Reply) {s : State}
    (hcal : s.sys.calWait = []) (hres : s.prot.resumed = false) : resend r c s = { s with
      out := s.out ++ [.reply { c with dest := r.h.via, flags := c.flags ||| 1 }]
      ses := { s.ses with replays := incSat32 s.ses.replays } } := by
  simp [resend, hcal, hres, sendReply, h, emit, modSes]

/-- Settles O9: by the distance of the request from its session's next number. -/
theorem requestsOutOfTurn : Obligations.RequestsOutOfTurn := by
  unfold Obligations.RequestsOutOfTurn
  intro i r x s hi h30 _ hop harr hheld ⟨a, p, own, hvia⟩ d
  have hserved := isServed_begin (isServed_of_arrives harr)
  obtain ⟨hlive, -, -, -, -, -, hj, -, -, -, -, hx, hseq, hroom⟩ := harr
  have hown : sessionOf x.id s = some x := id_of_sessionOf hx ▸ hx
  have heff {u : State} (hopen : openOnReceipt r x (arrived x s) = arrived x s) (hu : ordered execute false r x (arrived x s) = u) :
      receive r s.begin = u := by
    rw [receive_of_isServed hserved hop, if_neg (by simp [isOpen_of_op h30]), inSession_sequenced hx hseq hj hroom, hopen, hu]
  have hframe {o : List Output} {q : SessionRegs} : Only [.ses] s.begin { arrived x s with out := o, ses := q } :=
    fun p hp => by
      cases p with
      | ses => exact absurd (by simp) hp
      | _ => rfl
  refine ⟨fun hopen h1 h16 => ?held, fun hopen h => ?farAhead, fun h => ?farBehind, fun c h h0 hc hcal hres => ?replay⟩
  case held =>
    refine ends_of_effect (exec_request hi s) hlive (heff (openOnReceipt_of_not x _ hopen) (ordered_ahead execute hheld h1 h16))
      (only_trans (only_ses _ s.begin) (only_ses _ _)) ⟨rfl, rfl, _, sessionOf_modSession (fun _ => rfl) (sessionOf_arrived hown), rfl, ?_⟩
    simp [hheld, arrived, modSession, modSes, State.begin]
  case farAhead =>
    have hu := (ordered_farAhead (s := arrived x s) execute hheld h).trans (congrArg (gapHeld x) (gapReply_udp hvia x.next _))
    rw [gapHeld, hheld] at hu
    exact ends_of_effect (exec_request hi s) hlive (heff (openOnReceipt_of_not x _ hopen) hu) hframe ⟨rfl, rfl, rfl⟩
  case farBehind =>
    have hu := (ordered_farBehind (s := arrived x s) execute h).trans (gapReply_udp hvia x.next _)
    exact ends_of_effect (exec_request hi s) hlive (heff (openOnReceipt_of_behind _ (by omega)) hu) hframe ⟨rfl, rfl, rfl⟩
  case replay =>
    have hu := (ordered_behind (s := arrived x s) execute h h0 hc).trans (resend_udp hvia c hcal hres)
    exact ends_of_effect (exec_request hi s) hlive (heff (openOnReceipt_of_behind _ h0) hu) hframe ⟨rfl, rfl, rfl⟩

/-! ### Requests that no member serves (R247, R248, R258) -/

/-- A member that does not act belongs to a pair whose ACTIVE member it is not. -/
theorem not_acts_iff {s : State} : acts s = false ↔ (s.pair.paired && s.pair.role != .active) = true := by
  cases h : s.pair.paired <;> simp [acts, h]

section
variable {r : Req} {s : State} (hreach : reaches r s = true)
include hreach

theorem receive_badForm (h : formOk r = false) : receive r s = modSes (fun q => { q with crcErr := incSat32 q.crcErr }) s := by
  simp [receive, hreach, h]

variable (hform : formOk r = true) (hkind : r.h.kind = 1) (hop : opKnown r.op = true)
include hform hkind hop

theorem receive_hostFenced {a : Word32} {p : Word16} {own : Bool} (hvia : r.h.via = .udp a p own) (hh : isFenced .h s = true)
    (ht : tierAtLeast .watch s = true) : receive r s = answer r stFenced 0 [] s := by
  simp [receive, hreach, hform, hkind, hop, hvia, hh, ht]

theorem receive_hostOpen (hh : isFenced .h s = false) (hresp : responderRuns s = false) (hres : s.ses.resumeIn = 0) :
    receive r s = receiveOpen r s := by
  simp [receive, hreach, hform, hkind, hop, hh, hresp, hres]

end

section
variable {r : Req} {s : State} (ht : tierAtLeast .watch s = true) (hp : plainRead r = false)
include ht hp

theorem receiveOpen_notActive (hg : s.pair.noGrant = false) (ha : acts s = false) :
    receiveOpen r s = answer r stAccess notActive [] s := by
  simp [receiveOpen, forcing, hg, ht, hp, not_acts_iff.1 ha]

theorem receiveOpen_belowLimited (ha : acts s = true) (hl : tierAtLeast .limited s = false) :
    receiveOpen r s = answer r stTier 0 [] s := by
  simp [receiveOpen, forcing_of_acts r ha, ht, hp, acts_iff.1 ha, hl]

end

/-- Settles O10: each refusal is one branch of the reception. -/
theorem requestsNotServed : Obligations.RequestsNotServed := by
  unfold Obligations.RequestsNotServed
  intro i r s a p own hi hvia hlive hreach
  have hanswer (st fl : Nat) : answer r st fl [] s.begin = { s with out := [.reply (mkReply r st fl [])] } :=
    answer_udp hvia st fl [] s.begin
  have hreach' : reaches r s.begin = true := hreach
  refine ⟨fun hbad => ?form, fun hform hkind hop =>
    ⟨fun hh ht => ?fenced, fun hh hresp hres ht hp hg => ⟨fun ha => ?notActive, fun ha hl => ?tier⟩⟩⟩
  case form =>
    exact ends_of_effect (exec_request hi s) hlive (receive_badForm hreach' hbad) (only_ses _ s.begin) ⟨rfl, rfl⟩
  case fenced =>
    exact sends_of_effect (exec_request hi s) hlive ((receive_hostFenced hreach' hform hkind hop hvia hh ht).trans (hanswer _ _))
  case notActive =>
    exact sends_of_effect (exec_request hi s) hlive ((receive_hostOpen hreach' hform hkind hop hh hresp hres).trans
      ((receiveOpen_notActive (s := s.begin) ht hp hg ha).trans (hanswer _ _)))
  case tier =>
    exact sends_of_effect (exec_request hi s) hlive ((receive_hostOpen hreach' hform hkind hop hh hresp hres).trans
      ((receiveOpen_belowLimited (s := s.begin) ht hp ha hl).trans (hanswer _ _)))

end Sys2Proof.Proofs
end
section
/-! PROOFS. The timers of a session slot, the segments of a message on CAN, and the release of the contact SVC_EN. -/
namespace Sys2Proof.Proofs
open Sys2Proof Sys2Proof.Machine Sys2Proof.Laws

/-! ### A slot (R251, R253, R264) -/

/-- SEQ_GAP to every held request over UDP: one message for each, and each is counted. -/
theorem forAll_gapReply {held : List Held} (h : ∀ g ∈ held, ∃ a p own, g.req.h.via = .udp a p own) (next : Nat) (s : State) :
    ∃ n, forAll held (fun g s => gapReply next g.req s) s = { s with
      out := s.out ++ held.map fun g => .reply (mkReply g.req stGap 0 (toBytes 4 next)), ses := { s.ses with gaps := n } } := by
  induction held generalizing s with
  | nil => exact ⟨s.ses.gaps, by simp [forAll]⟩
  | cons g gs ih =>
    obtain ⟨a, p, own, hvia⟩ := h g List.mem_cons_self
    obtain ⟨n, hn⟩ := ih (fun g' hg => h g' (List.mem_cons_of_mem _ hg)) (gapReply next g.req s)
    exact ⟨n, hn.trans (by simp [gapReply_udp hvia])⟩

theorem dropSession_eq {id : Nat} {s : State} (h : s.recd.holdSes ≠ id) :
    dropSession id s = { s with ses := { s.ses with open_ := s.ses.open_.filter fun x => x.id != id } } := by
  simp [dropSession, h, modSes]

/-- A session that holds no recorder closes with an entry in the batch. -/
theorem closeSession_eq {x : Session} {s : State} (hresp : responderRuns s = false) (h : s.recd.holdSes ≠ x.id) :
    closeSession x s = { s with ses := { s.ses with
      open_ := s.ses.open_.filter fun y => y.id != x.id
      batch := s.ses.batch ++ [.own 0x03 (sessionPayload 2 x.id x.client x.service)] } } := by
  unfold closeSession
  rw [dropSession_eq h]
  exact if_neg (Bool.eq_false_iff.1 hresp)

section
variable {k : Nat} {x : Session} {s : State} (hl : live s = true) (hx : sessionIn k s = some x)
include hl hx

theorem ends_gapTimeout (hvia : ∀ g ∈ x.held, ∃ a p own, g.req.h.via = .udp a p own)
    (hlate : (x.held.any fun g => g.since + cfgN Ent.SES_GAP_T s * 1000000 ≤ s.now) = true) :
    Ends (.gapTimeout k) s [.ses] fun t =>
      t.out = x.held.map (fun g => .reply (mkReply g.req stGap 0 (toBytes 4 x.next))) ∧
      t.ses.open_ = s.ses.open_.map fun y => if y.id == x.id then { y with held := [] } else y := by
  obtain ⟨n, hn⟩ := forAll_gapReply hvia x.next s.begin
  have heff : gapTimeout k s.begin = gapHeld x s.begin := by
    unfold gapTimeout
    rw [show sessionIn k s.begin = some x from hx]
    exact guardOn_true hlate _ _
  rw [gapHeld, hn] at heff
  refine ends_of_effect (f := gapTimeout k) rfl hl heff (fun p hp => ?_) ⟨rfl, rfl⟩
  cases p with
  | ses => exact absurd (by simp) hp
  | _ => rfl

theorem ends_sessionIdleTimeout (hacts : acts s = true) (hresp : responderRuns s = false)
    (hidle : x.last + cfgN Ent.SES_IDLE_T s * 1000000000 ≤ s.now) (hhold : s.recd.holdSes ≠ x.id) :
    Ends (.sessionIdleTimeout k) s [.ses] fun t =>
      t.out = [] ∧ t.ses.open_ = s.ses.open_.filter (·.id != x.id) ∧
      t.ses.batch = s.ses.batch ++ [.own 0x03 (sessionPayload 2 x.id x.client x.service)] := by
  have hdue : ((acts s.begin || responderRuns s.begin) && decide (x.last + cfgN Ent.SES_IDLE_T s.begin * 1000000000 ≤ s.begin.now)) = true := by
    rw [show acts s.begin = true from hacts, cfgN_of_store (s := s) (t := s.begin) rfl, begin_now, Bool.true_or, Bool.true_and]
    exact decide_eq_true hidle
  have heff : sessionIdleTimeout k s.begin = closeSession x s.begin := by
    unfold sessionIdleTimeout
    rw [show sessionIn k s.begin = some x from hx]
    exact guardOn_true hdue _ _
  rw [closeSession_eq (s := s.begin) hresp hhold] at heff
  exact ends_of_effect (f := sessionIdleTimeout k) rfl hl heff (only_ses _ s.begin) ⟨rfl, rfl, rfl⟩

theorem ends_snapshotTimeout (h : x.last + 10000000000 ≤ s.now) : Ends (.snapshotTimeout k) s [.ses] fun t =>
    t.out = [] ∧ t.ses.open_ = s.ses.open_.map fun y => if y.id == x.id then { y with snap := none } else y := by
  have heff : snapshotTimeout k s.begin = modSession x.id (fun y => { y with snap := none }) s.begin := by
    unfold snapshotTimeout
    rw [show sessionIn k s.begin = some x from hx]
    exact guardOn_true (decide_eq_true h) _ _
  exact ends_of_effect (f := snapshotTimeout k) rfl hl heff (only_ses _ s.begin) ⟨rfl, rfl⟩

end

/-! ### Segments on CAN (R249) -/

theorem fieldU_head (b : Byte) (data : List Byte) : fieldU (b :: data) 0 1 = b.toNat := by simp [fieldU, slice, ofBytes]

theorem segmentLate_begin (s : State) : segmentLate s.begin = segmentLate s := rfl

/-- What a segment that does not end its message leaves of the message: its start, its next part, or nothing. -/
def gathered (b : Byte) (data : List Byte) (s : State) : Option (List Byte × Nat × Nat) :=
  if bitOf b.toNat 7 then (if b.toNat % 64 = 0 then some (data, b.toNat % 64, s.now) else none)
  else if segmentLate s then none
  else match s.ses.canRx with
    | some (got, prev, _) => if b.toNat % 64 = (prev + 1) % 64 then some (got ++ data, b.toNat % 64, s.now) else none
    | none => none

theorem canSegment_gathers {b : Byte} {data : List Byte} {s : State} (h6 : bitOf b.toNat 6 = false) :
    canSegment (b :: data) s = { s with ses := { s.ses with canRx := gathered b data s } } := by
  unfold canSegment gathered
  simp only [fieldU_head, List.drop_succ_cons, List.drop_zero, h6, Bool.false_eq_true, if_false]
  cases h7 : bitOf b.toNat 7 with
  | true =>
    by_cases h0 : b.toNat % 64 = 0
    · cases hlate : segmentLate s <;> simp [h0, modSes]
    · cases hlate : segmentLate s <;> simp [h0, modSes]
  | false =>
    cases hlate : segmentLate s with
    | true => simp [modSes]
    | false =>
      cases hrx : s.ses.canRx with
      | none => simp [modSes, hrx]
      | some m => by_cases hn : b.toNat % 64 = (m.2.1 + 1) % 64 <;> simp [modSes, hn, hrx]

theorem gathered_first {b : Byte} (data : List Byte) (s : State) (h7 : bitOf b.toNat 7 = true) (h0 : b.toNat % 64 = 0) :
    gathered b data s = some (data, 0, s.now) := by
  simp [gathered, h7, h0]

theorem gathered_next {b : Byte} (data : List Byte) {s : State} (h7 : bitOf b.toNat 7 = false) {got : List Byte} {prev t : Nat}
    (hrx : s.ses.canRx = some (got, prev, t)) : gathered b data s =
      if s.now ≤ t + 50000000 ∧ b.toNat % 64 = (prev + 1) % 64 then some (got ++ data, b.toNat % 64, s.now) else none := by
  have hlate : segmentLate s = decide (t + 50000000 < s.now) := by
    unfold segmentLate
    rw [hrx]
  by_cases hin : s.now ≤ t + 50000000
  · simp [gathered, h7, hlate, hrx, hin]
  · simp [gathered, h7, hlate, hrx, hin]

theorem ends_canSegmentTimeout {s : State} (hl : live s = true) (h : segmentLate s = true) :
    Ends .canSegmentTimeout s [.ses] fun t => t.ses = { s.ses with canRx := none } ∧ t.out = [] := by
  have heff : guardOn (segmentLate s.begin) (modSes fun q => { q with canRx := none }) s.begin =
      modSes (fun q => { q with canRx := none }) s.begin :=
    guardOn_true ((segmentLate_begin s).trans h) _ _
  exact ends_of_effect (f := fun s => guardOn (segmentLate s) (modSes fun q => { q with canRx := none }) s) rfl hl heff
    (only_ses _ s.begin) ⟨rfl, rfl⟩

theorem sends_canSegmentTimeout {s : State} (hl : live s = true) (h : segmentLate s = false) : Sends .canSegmentTimeout s [] :=
  sends_whenLiveK (f := fun s => guardOn (segmentLate s) (modSes fun q => { q with canRx := none }) s) rfl hl
    (guardOn_false ((segmentLate_begin s).trans h) _ _)

section
variable {b : Byte} {data : List Byte} {s : State} (hl : live s = true) (hch : (sesCan s).isSome = true) (hb : isFenced .b s = false)
  (hh : isFenced .h s = false) (h6 : bitOf b.toNat 6 = false)
include hl hch hb hh h6

theorem ends_canSegment {rx : Option (List Byte × Nat × Nat)} (hrx : gathered b data s = rx) :
    Ends (.canSegment (b :: data)) s [.ses] fun t => t.out = [] ∧ t.ses = { s.ses with canRx := rx } := by
  have hguard : ((sesCan s.begin).isSome && !isFenced .b s.begin && !isFenced .h s.begin && !(b :: data).isEmpty) = true := by
    rw [show (sesCan s.begin).isSome = true from hch, show isFenced .b s.begin = false from hb, show isFenced .h s.begin = false from hh]
    rfl
  have heff := (guardOn_true hguard (canSegment (b :: data)) s.begin).trans (canSegment_gathers h6)
  rw [show gathered b data s.begin = gathered b data s from rfl, hrx] at heff
  exact ends_of_effect rfl hl heff (only_ses _ s.begin) ⟨rfl, rfl⟩

end

/-! ### SVC_EN (R250) -/

theorem ends_svcEnRelease {x : Session} {s : State} (hl : live s = true) (hresp : responderRuns s = false)
    (hsvc : s.ses.open_.filter (·.service) = [x]) (hhold : s.recd.holdSes ≠ x.id) :
    Ends .svcEnRelease s [.ses] fun t =>
      t.out = [] ∧ t.ses.svcEn = false ∧ t.ses.open_ = s.ses.open_.filter (·.id != x.id) ∧
      t.ses.batch = s.ses.batch ++ [.own 0x03 (sessionPayload 2 x.id x.client true)] := by
  have hkind : x.service = true := (List.mem_filter.1 (hsvc ▸ List.mem_singleton_self x)).2
  have heff : svcEnRelease s.begin = closeSession x (modSes (fun q => { q with svcEn := false }) s.begin) := by
    unfold svcEnRelease
    dsimp only
    rw [show (modSes (fun q => { q with svcEn := false }) s.begin).ses.open_.filter (·.service) = [x] from hsvc]
    rfl
  rw [closeSession_eq (s := modSes (fun q => { q with svcEn := false }) s.begin) hresp hhold, hkind] at heff
  exact ends_of_effect (f := svcEnRelease) rfl hl heff (only_trans (only_ses _ s.begin) (only_ses _ _)) ⟨rfl, rfl, rfl, rfl⟩

/-- Settles O11: the timers by their instants, a segment by its place in its message, and the one service session at the release. -/
theorem sessionTimers : Obligations.SessionTimers := by
  unfold Obligations.SessionTimers
  refine ⟨fun k x s hl hx => ⟨fun _ hvia hlate => ?gap, fun hacts hresp hidle hhold => ?idle, fun h => ?snapshot, fun h => ?late,
      fun h => ?inTime⟩,
    fun b data s hl hch hb hh h6 => ⟨fun h7 h0 => ?first, fun got prev t h7 hrx => ?next⟩, fun x s hl hresp hsvc hhold => ?release⟩
  case gap => exact ends_gapTimeout hl hx hvia hlate
  case idle => exact ends_sessionIdleTimeout hl hx hacts hresp hidle hhold
  case snapshot => exact ends_snapshotTimeout hl hx h
  case late => exact ends_canSegmentTimeout hl h
  case inTime => exact sends_canSegmentTimeout hl h
  case first => exact ends_canSegment hl hch hb hh h6 (gathered_first data s h7 h0)
  case next => exact ends_canSegment hl hch hb hh h6 (gathered_next data h7 hrx)
  case release => exact ends_svcEnRelease hl hresp hsvc hhold

end Sys2Proof.Proofs
end
section
/-! PROOFS. Resets: what a reset keeps, and the resets by which a shutdown or a power cycle ends. -/
namespace Sys2Proof.Proofs
open Sys2Proof Sys2Proof.Machine Sys2Proof.Laws

/-! ### What a reset keeps (R246, R344, R345) -/

/-- Raising a code touches the active list and the events of the frame, and not the log. -/
theorem raiseF_lists (c k : Nat) (s : State) : ∃ a e, raiseF c k s = { s with flt := { s.flt with active := a, events := e } } := by
  unfold raiseF raiseAt
  split
  · exact ⟨_, s.flt.events, rfl⟩
  · exact ⟨_, _, rfl⟩

/-- A reset leaves the cold state; at most a code of the firmware's is raised in it (R392). -/
theorem resetModule_eq (cause : ResetCause) (s : State) : ∃ a e, resetModule cause s =
    { coldState (recordCause cause s) with flt := { (coldState (recordCause cause s)).flt with active := a, events := e } } := by
  unfold resetModule
  dsimp only
  split
  · exact raiseF_lists _ _ _
  · exact ⟨_, _, rfl⟩

theorem allOpen_resetModule (cause : ResetCause) (s : State) : allOpen (resetModule cause s) :=
  allOpen_of_not_live (by rw [live, resetModule_phase]; rfl)

/-- The state u stands at the start of the power-up sequence with the cause of its reset, and with what s held in MRAM. -/
def KeptByReset (s : State) (cause : ResetCause) (u : State) : Prop :=
  u.pending = s.pending ∧ u.sys.phase = .off ∧ u.sys.tier = .guard_ ∧ u.sys.cause = cause ∧ u.sys.causeRec = true ∧
  u.sys.resetAt = s.now ∧ u.sys.resets = incSat32 s.sys.resets ∧ u.sys.opSec = s.sys.opSec ∧ u.sys.pcyc = s.sys.pcyc ∧
  u.store = keptStore s ∧ u.ses.journal = s.ses.journal ∧ u.ses.jseq = s.ses.jseq ∧ u.ses.idle = s.ses.idle ∧
  u.flt.log = s.flt.log ∧ u.flt.logSeq = s.flt.logSeq ∧ u.prot.tripped = s.prot.tripped ∧ u.prot.cause = s.prot.cause ∧
  u.mem.softMap = s.mem.softMap ∧ u.recd.recs = s.recd.recs ∧ u.link.faulted = s.link.faulted ∧ u.sp.mode = .parked ∧
  coilsOff u = true ∧ allOpen u

theorem keptByReset_resetModule (cause : ResetCause) (s : State) : KeptByReset s cause (s.keepQueue (resetModule cause s.begin)) := by
  have hopen : allOpen (s.keepQueue (resetModule cause s.begin)) := allOpen_resetModule cause s.begin
  obtain ⟨a, e, h⟩ := resetModule_eq cause s.begin
  rw [h] at hopen ⊢
  exact ⟨rfl, rfl, rfl, rfl, rfl, rfl, rfl, rfl, rfl, rfl, rfl, rfl, rfl, rfl, rfl, rfl, rfl, rfl, rfl, rfl, rfl, rfl, hopen⟩

theorem always_next {f : State → State} {s u : State} (h : f s.begin = u) : always f s = .next (s.keepQueue u) := by rw [always, h]

/-- A command that resets the module, whatever its power, keeps what a reset keeps. -/
theorem exec_reset {i : Instr} {f : State → State} {s : State} {cause : ResetCause} (he : exec i s = always f s)
    (hf : f s.begin = resetModule cause s.begin) : ∃ u, exec i s = .next u ∧ KeptByReset s cause u :=
  ⟨_, he.trans (always_next hf), keptByReset_resetModule cause s⟩

theorem resetPowered_of_powered (cause : ResetCause) {s : State} (hoff : s.sys.phase ≠ .off) (hlatched : s.sys.phase ≠ .latched) :
    resetPowered cause s = resetModule cause s := if_neg (by simp [hoff, hlatched])

/-! ### Shutdowns (R337, R425, R431) -/

/-- A shutdown ends with a reset; what it opens and writes before leaves the system registers and the configuration. -/
theorem finishShutdown_eq (cause : ResetCause) (s : State) :
    ∃ t, finishShutdown cause s = resetModule cause t ∧ t.sys = s.sys ∧ t.store = s.store := by
  have hopened : Only [.ses, .prot, .flt, .dio, .link, .sp] s (if acts s && !parked s then withSq uncommandedOpen s else s) :=
    only_ite (only_mono (only_withSq (uncommandedOpen_leaves s).1) (by simp)) (only_refl _ s)
  have hwritten (t : State) : Only [.est, .ident, .flt, .pair] t (if t.sup.lowWrites then t else lowWrites t) :=
    only_ite (only_refl _ t) (only_trans (only_mono (only_writeCheckpoint t) (by simp)) (recordWork_startBatch _).frame)
  exact ⟨_, rfl, (hwritten _ .sys (by decide)).trans (hopened .sys (by decide)), rfl⟩

/-- A shutdown of a module alone runs to its end at once. -/
theorem shutdownStart_alone {why : ShutdownWhy} {s : State} (hl : live s = true) (hlong : longEnough why = true)
    (hp : s.pair.paired = false) (hd : s.sys.downDue = none) : shutdownStart why s =
      finishShutdown (shutdownCause why) (modSys (fun x => { x with downDue := some (0, shutdownCause why) }) s) := by
  have hkeep : keep (handOverFirst (shutdownCause why)) s = modSys (fun x => { x with downDue := some (0, shutdownCause why) }) s := by
    simp [keep, handOverFirst, hp, modSys]
  have hgo : ¬ (!longEnough why || s.sys.downDue.any fun d => !commanded d.2) = true := by simp [hd, hlong]
  simp only [shutdownStart, show s.sys.phase = .started from beq_iff_eq.1 hl, if_neg hgo, hkeep]
  exact if_pos rfl

/-- Settles O38: every reset is `resetModule`, which keeps what `KeptByReset` lists. -/
theorem resetsKeepWhatMramHolds : Obligations.ResetsKeepWhatMramHolds := by
  unfold Obligations.ResetsKeepWhatMramHolds
  intro s kept
  refine ⟨fun cause hoff hlatched => ⟨?reset, ?tap⟩, fun why hl hlong hp hd => ?shutdown, fun why hph hcycle => ?latched,
    fun why hph hlong => ?frozen, fun why hph hcycle => ?off⟩
  case reset => exact exec_reset (i := .moduleReset cause) rfl (resetPowered_of_powered cause (s := s.begin) hoff hlatched)
  case tap => exact exec_reset (i := .tapReset) rfl (resetPowered_of_powered .tap (s := s.begin) hoff hlatched)
  case shutdown =>
    obtain ⟨t, ht, hsys, hstore⟩ := finishShutdown_eq (shutdownCause why)
      (modSys (fun x => { x with downDue := some (0, shutdownCause why) }) s.begin)
    have heff : shutdownStart why s.begin = resetModule (shutdownCause why) t := (shutdownStart_alone (s := s.begin) hl hlong hp hd).trans ht
    refine ⟨s.keepQueue (resetModule (shutdownCause why) t), always_next heff, rfl, ?_, resetModule_phase _ _,
      resetModule_cause _ _, ?_, ?_, allOpen_resetModule _ t⟩
    · rw [keepQueue_store, resetModule_store, keptStore, hstore]
      rfl
    · rw [keepQueue_sys, resetModule_resets, hsys]
      rfl
    · obtain ⟨a, e, h⟩ := resetModule_eq (shutdownCause why) t
      rw [h]
      rfl
  case latched =>
    refine exec_reset (i := .shutdownStart why) (f := shutdownStart why) rfl ?_
    simp only [shutdownStart, show s.begin.sys.phase = .latched from hph, if_pos hcycle]
  case frozen =>
    refine exec_reset (i := .shutdownStart why) (f := shutdownStart why) rfl ?_
    simp only [shutdownStart, show s.begin.sys.phase = .frozen from hph, if_pos hlong]
  case off =>
    have heff : shutdownStart why s.begin = modSys (fun x => { x with pFailed := false }) s.begin := by
      simp only [shutdownStart, show s.begin.sys.phase = .off from hph, if_pos hcycle]
    exact ⟨_, always_next heff, only_trans (only_mono (only_begin s) (by simp)) (only_sys _ s.begin), rfl⟩

end Sys2Proof.Proofs
end
section
/-! PROOFS. The reset values, and a module that is not started. -/
namespace Sys2Proof.Proofs
open Sys2Proof Sys2Proof.Machine Sys2Proof.Laws

/-- At reset nothing is stored: every entry has its default (R246). -/
theorem cfgVal_reset (e : Entry) (k : Nat) : cfgVal e k State.reset = e.dflt := rfl

theorem dqOn_of_off {s : State} (h : s.sys.phase = .off) (k : Nat) : dqOn k s = false := by simp [dqOn, live, h]

/-- The events that a module which is not started answers: of its power, its reset, its die diode, and its test access port. -/
def actsUnpowered : Instr → Bool
  | .powerGood _ | .shutdownStart _ | .moduleReset _ | .dieTempRead _ _ | .idcode | .scanSel _ | .scanData _ | .tapReset | .bypass => true
  | _ => false

/-- Every other command runs its effect on a started module only; the commands named write configuration entries. -/
theorem sends_not_live {i : Instr} {s : State} (hi : actsUnpowered i = false) (hl : live s = false) : Sends i s [] := by
  unfold Sends exec
  cases i with
  | powerGood | shutdownStart | moduleReset | dieTempRead | idcode | scanSel | scanData | tapReset | bypass => simp [actsUnpowered] at hi
  | frameTick | islandHang | trainReceive | trainDeadline | recoveryEnd | readIdReply | sampleFrame | dispatchTimeout | paramWrite
  | scrubStep | mirrorState | holdupGauge | journalAck | mirrorSilent | mirrorHeartbeat | mirrorJournal | mirrorBulk | tierLimited
  | atIdleApply => exact whenLive_dead hl
  | _ => exact whenLiveK_dead hl

/-- Settles O59: the reset values by evaluation, and `sends_not_live` for whatever reaches a module without power. -/
theorem resetValuesAndNoPower : Obligations.ResetValuesAndNoPower := by
  unfold Obligations.ResetValuesAndNoPower
  refine ⟨fun e k _ => cfgVal_reset e k, rfl, rfl, rfl, rfl, rfl, rfl, rfl, rfl, rfl, rfl, allOpen_of_not_live rfl, dqOn_of_off rfl,
    rfl, rfl, rfl, fun i s hl hpower hshutdown hreset hdie hidcode hsel hdata htap hbypass => sends_not_live ?_ hl⟩
  cases i with
  | powerGood c => exact absurd rfl (hpower c)
  | shutdownStart w => exact absurd rfl (hshutdown w)
  | moduleReset c => exact absurd rfl (hreset c)
  | dieTempRead d t => exact absurd rfl (hdie d t)
  | idcode => exact absurd rfl hidcode
  | scanSel n => exact absurd rfl (hsel n)
  | scanData n => exact absurd rfl (hdata n)
  | tapReset => exact absurd rfl htap
  | bypass => exact absurd rfl hbypass
  | _ => rfl

end Sys2Proof.Proofs
end
section
/-! PROOFS. What a standby takes from the mirror link. -/
namespace Sys2Proof.Proofs
open Sys2Proof Sys2Proof.Machine Sys2Proof.Laws

/-! ### A frame of a class -/

section
variable {cls : Nat} {l : Lane} {f : List Byte} {use : List Byte → State → State} {s t : State}

theorem mirrorValid_of_pair (h : t.pair = s.pair) : mirrorValid cls f t = mirrorValid cls f s := by simp only [mirrorValid, h]

theorem mirrorStale_of_pair (h : t.pair = s.pair) : mirrorStale f t = mirrorStale f s := by simp only [mirrorStale, h]

theorem mirrorAhead_of_pair (h : t.pair = s.pair) : mirrorAhead cls f t = mirrorAhead cls f s := by simp only [mirrorAhead, h]

theorem mirrorEnds_of_pair (h : t.pair = s.pair) : mirrorEnds cls f t = mirrorEnds cls f s := by
  simp only [mirrorEnds, mirrorValid_of_pair h, mirrorStale_of_pair h, mirrorAhead_of_pair h]

/-- The member that has heard and taken the last frame of a content. -/
def taken (cls : Nat) (l : Lane) (f : List Byte) (s : State) : State := putPart cls (fieldU f 4 2) [] (hearLane l s)

theorem only_hearLane (l : Lane) (s : State) : Only [.pair] s (hearLane l s) := only_pairOut _ _ s

theorem only_taken (cls : Nat) (l : Lane) (f : List Byte) (s : State) : Only [.pair] s (taken cls l f s) := only_pairOut _ _ s

theorem hearLane_stale : mirrorStale f (hearLane l s) = mirrorStale f s := rfl

theorem hearLane_ahead : mirrorAhead cls f (hearLane l s) = mirrorAhead cls f s := rfl

theorem hearLane_collected : collected cls f (hearLane l s) = collected cls f s := rfl

theorem mirrorTake_invalid (h : mirrorValid cls f s = false) : mirrorTake cls l f use s = s := by
  unfold mirrorTake
  rw [if_pos (by rw [h]; rfl)]

theorem mirrorTake_heard (hv : mirrorValid cls f s = true) (h : mirrorStale f s = true ∨ mirrorAhead cls f s = false) :
    mirrorTake cls l f use s = hearLane l s := by
  unfold mirrorTake
  dsimp only
  rw [if_neg (by rw [hv]; decide), hearLane_stale, hearLane_ahead,
    if_pos (by rcases h with h | h <;> rw [h]; · rfl
               · exact Bool.or_true _)]

theorem mirrorTake_ends (h : mirrorEnds cls f s = true) : mirrorTake cls l f use s = use (collected cls f s) (taken cls l f s) := by
  simp only [mirrorEnds, Bool.and_eq_true, Bool.not_eq_true', bne_iff_ne, ne_eq] at h
  obtain ⟨⟨⟨hv, hst⟩, ha⟩, hn⟩ := h
  unfold mirrorTake
  dsimp only
  rw [if_neg (by rw [hv]; decide), hearLane_stale, hearLane_ahead, if_neg (by rw [hst, ha]; decide), if_neg (by simpa using hn),
    hearLane_collected]
  rfl

theorem mirrorTake_begin (h : mirrorEnds cls f s = true) :
    mirrorTake cls l f use s.begin = use (collected cls f s) (taken cls l f s.begin) :=
  mirrorTake_ends (s := s.begin) ((mirrorEnds_of_pair rfl).trans h)

/-- With the last frame of a content, a command ends as the use of that content does. -/
theorem ends_mirrorK {i : Instr} {ps : List Part} {P : State → Prop} {u : State} (he : exec i s = whenLiveK (mirrorTake cls l f use) s)
    (hl : live s = true) (h : mirrorEnds cls f s = true) (hu : use (collected cls f s) (taken cls l f s.begin) = u)
    (ho : Only ps s.begin u) (hp : P { s.keepQueue u with store := s.store }) : Ends i s ps P :=
  ends_of_effect he hl ((mirrorTake_begin h).trans hu) ho hp

theorem ends_mirror {i : Instr} {ps : List Part} {P : State → Prop} {u : State} (he : exec i s = whenLive (mirrorTake cls l f use) s)
    (hl : live s = true) (h : mirrorEnds cls f s = true) (hu : use (collected cls f s) (taken cls l f s.begin) = u)
    (ho : Only ps s.begin u) (hp : P (s.keepQueue u)) : Ends i s ps P := by
  have ht : mirrorTake cls l f use s.begin = u := (mirrorTake_begin h).trans hu
  subst ht
  exact ends_whenLive he hl ho hp

/-- A frame that is not valid, or not taken: what a command on the mirror link does with it. -/
theorem mirror_untaken {i : Instr} (he : exec i s = whenLive (mirrorTake cls l f use) s ∨ exec i s = whenLiveK (mirrorTake cls l f use) s)
    (hl : live s = true) :
    (mirrorValid cls f s = false → Sends i s []) ∧
    (mirrorValid cls f s = true → (mirrorStale f s = true ∨ mirrorAhead cls f s = false) → Ends i s [.pair] fun u =>
      u.out = [] ∧ u.pair = (hearLane l s).pair) := by
  refine ⟨fun hv => ?_, fun hv ha => ?_⟩
  · have hu : mirrorTake cls l f use s.begin = s.begin := mirrorTake_invalid ((mirrorValid_of_pair rfl).trans hv)
    exact he.elim (sends_whenLive · hl hu) (sends_whenLiveK · hl hu)
  · have hu : mirrorTake cls l f use s.begin = hearLane l s.begin := mirrorTake_heard ((mirrorValid_of_pair rfl).trans hv)
      (ha.imp (mirrorStale_of_pair rfl).trans (mirrorAhead_of_pair rfl).trans)
    have ho : Only [.pair] s.begin (mirrorTake cls l f use s.begin) := hu ▸ only_hearLane _ _
    rcases he with he | he
    · exact ends_whenLive he hl ho ⟨congrArg (·.out) hu, congrArg (·.pair) hu⟩
    · exact ends_whenLiveK he hl ho ⟨congrArg (·.out) hu, congrArg (·.pair) hu⟩

end

/-! ### DUTY (R361) -/

theorem mirrorDuty_takes {m : DutyMirror} {s : State} (h : tracks s = true ∨ s.pair.role = .detached) :
    let u := mirrorDuty m s
    Only [.pair, .sp, .link] s u ∧ u.pair.dutyGot = true ∧ u.sp.iRef = m.iRef ∧ u.sp.dir = (if m.dirChg then .chg else .dis) ∧
      u.sp.dwell = m.dwell ∧ u.sp.tgt = m.target * 65536 ∧ u.sp.r = m.target * 65536 ∧ u.sp.en = m.en ∧
      u.sp.redist = (if m.redist = 0 then 0 else 16 - m.redist) ∧ u.link.seq = m.seq ∧ u.link.next.duty = m.duty ∧
      u.link.next.run = m.run ∧ u.link.next.act = false := by
  have hc : ¬ (!tracks s && s.pair.role != .detached) = true := by rcases h with h | h <;> simp [h]
  unfold mirrorDuty
  rw [if_neg hc]
  dsimp only
  refine ⟨fun p hp => ?_, rfl, rfl, rfl, rfl, rfl, rfl, rfl, rfl, rfl, rfl, rfl, rfl⟩
  cases p with
  | pair | sp | link => simp at hp
  | _ => rfl

/-! ### STATE (R363) -/

theorem imageCoil_coil (on : Bool) (now : Nat) (c : Contactor) : (imageCoil on now c).coil = on := by
  unfold imageCoil
  split
  · exact eq_of_beq ‹_›
  · rfl

/-- The output commands of a member. -/
def outputCmds (s : State) : Nat × Nat := (s.dio.dqCmd, s.dio.sqCmd)

theorem outputCmds_settleSq (b : Nat) (s : State) : outputCmds (settleSq b s) = outputCmds s := by
  unfold settleSq
  extract_lets after changed drops marked dio ended
  have hmarked : outputCmds marked = outputCmds s := by
    refine forAll_eq outputCmds _ _ (fun _ _ => ?_) s
    rfl
  have hended : outputCmds ended = outputCmds marked := by
    unfold ended
    split
    · split <;> rfl
    · rfl
  refine Eq.trans ?_ (hended.trans hmarked)
  split <;> rfl

theorem only_mirrorHolds (m : StateMirror) (s : State) : Only [.dio] s (mirrorHolds m s) :=
  only_forAll _ _ _ (fun _ s => only_dio _ s) s

theorem only_mirrorValues (m : StateMirror) (s : State) : Only [.store] s (mirrorValues m s) := by
  unfold mirrorValues
  refine only_trans (only_trans (only_setCfgI _ _ _ _) (only_setCfgI _ _ _ _)) (only_forAll _ _ _ (fun x s => ?_) _)
  split
  · exact only_ite (only_setCfg _ _ _ _) (only_refl _ _)
  · exact only_refl _ _

/-- The registers of the image: the output commands, the protection state, and the coils. -/
theorem mirrorRegs_takes (m : StateMirror) (s : State) :
    let u := mirrorRegs m s
    Only [.pair, .dio, .prot, .est] s u ∧ outputCmds u = (m.dq, m.sq) ∧ u.pair.imageDq = m.dq ∧ u.pair.imageSq = m.sq ∧
      u.prot.tripped = m.tripped ∧ u.prot.cause = m.cause ∧ u.prot.main.coil = bitOf m.coils 0 ∧
      u.prot.neg.coil = bitOf m.coils 1 ∧ u.prot.pre.coil = bitOf m.coils 2 := by
  refine ⟨fun p hp => ?_, rfl, rfl, rfl, rfl, rfl, imageCoil_coil _ _ _, imageCoil_coil _ _ _, imageCoil_coil _ _ _⟩
  have hholds := only_mirrorHolds m s p
  cases p with
  | pair | dio | prot | est => simp at hp
  | _ => exact hholds (by simp)

theorem mirrorState_takes {m : StateMirror} {s : State} (hp : s.pair.paired = true) (hr : s.pair.role ≠ .active) :
    let u := mirrorState m s
    Only [.store, .pair, .dio, .prot, .est, .link] s u ∧ u.dio.dqCmd = m.dq ∧ u.dio.sqCmd = m.sq ∧
      u.pair.imageDq = m.dq ∧ u.pair.imageSq = m.sq ∧ u.prot.tripped = m.tripped ∧ u.prot.cause = m.cause ∧
      u.prot.main.coil = bitOf m.coils 0 ∧ u.prot.neg.coil = bitOf m.coils 1 ∧ u.prot.pre.coil = bitOf m.coils 2 := by
  intro u
  let image (s : State) : State := keep (mirrorRegs m) (mirrorValues m s)
  have hu : u = withSq image s := guardOn_true (by simp [hp, hr]) _ _
  obtain ⟨ho, hcmds, hdq, hsq, htrip, hcause, hmain, hneg, hpre⟩ := mirrorRegs_takes m (mirrorValues m s)
  have hsettled := only_settleSq (sqMap s) (image s)
  have hpair : u.pair = (image s).pair := hu ▸ hsettled .pair (by decide)
  have hprot : u.prot = (image s).prot := hu ▸ hsettled .prot (by decide)
  have hout : outputCmds u = (m.dq, m.sq) := hu ▸ (outputCmds_settleSq _ _).trans hcmds
  have honly : Only [.store, .pair, .dio, .prot, .est] s (image s) :=
    only_trans (only_mono (only_mirrorValues m s) (by decide)) (only_mono (only_keep ho) (by decide))
  rw [hpair, hprot]
  exact ⟨hu ▸ only_mono (only_withSq honly) (by decide), congrArg Prod.fst hout, congrArg Prod.snd hout, hdq, hsq, htrip, hcause,
    hmain, hneg, hpre⟩

/-! ### CONTEXT and RECORD (R122, R360) -/

theorem ctxOfBytes_of_sys {s t : State} (h : t.sys = s.sys) (b : List Byte) : ctxOfBytes b t = ctxOfBytes b s := by
  simp only [ctxOfBytes, opNow, h]

theorem ctxAt_of_est {s t : State} (h : t.est = s.est) (n : Nat) : ctxAt n t = ctxAt n s := by simp only [ctxAt, h]

/-- What the effects of the listed elements leave, the list leaves. -/
theorem forAll_eq_of_mem {α β : Type} (g : State → β) {xs : List α} {f : α → State → State} (h : ∀ x ∈ xs, ∀ s, g (f x s) = g s)
    (s : State) : g (forAll xs f s) = g s := by
  unfold forAll
  induction xs generalizing s with
  | nil => rfl
  | cons x xs ih =>
    exact (ih (fun y hy => h y (List.mem_cons_of_mem x hy)) _).trans (h x List.mem_cons_self s)

/-- Context n as the mirror gives it. -/
def contextTaken (m : CtxMirror) (n : Nat) (s : State) : State :=
  modFl n (flagsOfBytes (m.ctx.getD n [])) (modCtx n (fun _ => ctxOfBytes (m.ctx.getD n []) s) s)

/-- The contexts that the mirror gives. -/
def contextsTaken (m : CtxMirror) (s : State) : State := forAll (List.range (min 256 m.ctx.length)) (contextTaken m) s

theorem only_contextTaken (m : CtxMirror) (n : Nat) (s : State) : Only [.est] s (contextTaken m n s) :=
  only_trans (only_modCtx _ _ _) (only_modFl _ _ _)

theorem only_contextsTaken (m : CtxMirror) (s : State) : Only [.est] s (contextsTaken m s) :=
  only_forAll _ _ _ (only_contextTaken m) s

theorem contextTaken_same (m : CtxMirror) {n : Nat} (hn : n < 256) (s : State) :
    ctxAt n (contextTaken m n s) = ctxOfBytes (m.ctx.getD n []) s :=
  getAt_modAt_same s.est.ctx (fun _ => ctxOfBytes (m.ctx.getD n []) s) hn

theorem contextTaken_other (m : CtxMirror) {k n : Nat} (h : n ≠ k) (s : State) : ctxAt n (contextTaken m k s) = ctxAt n s :=
  getAt_setAt_other s.est.ctx _ h

theorem contextsTaken_given {m : CtxMirror} {n : Nat} {c : List Byte} (hn : n < 256) (hc : m.ctx[n]? = some c) (s : State) :
    ctxAt n (contextsTaken m s) = ctxOfBytes c s := by
  obtain ⟨hlen, -⟩ := List.getElem?_eq_some_iff.1 hc
  have hget : m.ctx.getD n [] = c := by rw [List.getD_eq_getElem?_getD, hc]; rfl
  have hsys (k : Nat) {t : State} (h : t.sys = s.sys) : (contextTaken m k t).sys = s.sys :=
    (only_contextTaken m k t .sys (by decide)).trans h
  have hmake (t : State) (h : t.sys = s.sys) : ctxAt n (contextTaken m n t) = ctxOfBytes c s := by
    rw [contextTaken_same m hn, hget, ctxOfBytes_of_sys h]
  refine And.left (forAll_establishes (I := fun t => t.sys = s.sys) (P := fun t => ctxAt n t = ctxOfBytes c s ∧ t.sys = s.sys)
    (List.mem_range.2 (by omega)) (fun k t h => hsys k h) (fun k _ t h => ⟨?_, hsys k h.2⟩) (fun t h => ⟨hmake t h, hsys n h⟩) rfl)
  by_cases hk : n = k
  · exact hk ▸ hmake t h.2
  · exact (contextTaken_other m hk t).trans h.1

theorem contextsTaken_beyond {m : CtxMirror} {n : Nat} (h : m.ctx.length ≤ n) (s : State) :
    ctxAt n (contextsTaken m s) = ctxAt n s :=
  forAll_eq_of_mem (ctxAt n) (fun k hk t => contextTaken_other m (by have := List.mem_range.1 hk; omega) t) s

/-- The counters of the chain, which storing them leaves as they are. -/
theorem storeCounters_counts (s : State) : (storeCounters s).chain.sweepCtr = s.chain.sweepCtr ∧
    (storeCounters s).chain.cmdCtrA = s.chain.cmdCtrA ∧ (storeCounters s).chain.cmdCtrB = s.chain.cmdCtrB := by
  unfold storeCounters
  split <;> exact ⟨rfl, rfl, rfl⟩

/-- The chain's counters that the mirror gives, and when it came. -/
def countersTaken (m : CtxMirror) (s : State) : State :=
  { s with
    pair := { s.pair with ctxAt := some s.now }
    chain := { s.chain with sweepCtr := m.sweep, cmdCtrA := m.cmdA, cmdCtrB := m.cmdB } }

theorem only_countersTaken (m : CtxMirror) (s : State) : Only [.pair, .chain] s (countersTaken m s) := fun p hp => by
  cases p with
  | pair | chain => simp at hp
  | _ => rfl

theorem only_mirrorContext (m : CtxMirror) (s : State) : Only [.est, .pair, .chain] s (mirrorContext m s) :=
  only_guardOn _ _ (only_trans (only_mono (only_contextsTaken m s) (by decide))
    (only_trans (only_mono (only_countersTaken m _) (by decide)) (only_mono (only_storeCounters _) (by decide))))

theorem mirrorContext_takes {m : CtxMirror} {s : State} (hp : s.pair.paired = true) (hr : s.pair.role ≠ .active) :
    let u := mirrorContext m s
    u.pair.ctxAt = some s.now ∧ u.chain.sweepCtr = m.sweep ∧ u.chain.cmdCtrA = m.cmdA ∧ u.chain.cmdCtrB = m.cmdB ∧
      u.est = (contextsTaken m s).est := by
  intro u
  have hu : u = storeCounters (countersTaken m (contextsTaken m s)) := guardOn_true (by simp [hp, hr]) _ _
  have hstore := only_storeCounters (countersTaken m (contextsTaken m s))
  obtain ⟨hsweep, ha, hb⟩ := storeCounters_counts (countersTaken m (contextsTaken m s))
  have hnow : (contextsTaken m s).now = s.now := only_contextsTaken m s .now (by decide)
  have hpair : u.pair = (countersTaken m (contextsTaken m s)).pair := hu ▸ hstore .pair (by decide)
  rw [hpair, hu]
  exact ⟨congrArg some hnow, hsweep, ha, hb, hstore .est (by decide)⟩

/-- A received record is taken into the slot of R111, and into the other slot where that holds a SEQ not below its own. -/
theorem takeMirrored_eq (r : Learned) (p : LearnPos) :
    let other (x : Learned) : Learned := if r.seq ≤ x.seq then r else x
    takeMirrored r p = if writeToA p then { p with a := r, aOk := true, b := other p.b }
      else { p with b := r, bOk := true, a := other p.a } := by
  unfold takeMirrored
  dsimp only
  split <;> simp

theorem only_mirrorRecord (n : Nat) (b : List Byte) (s : State) : Only [.ident] s (mirrorRecord n b s) :=
  only_guardOn _ _ (only_modLp _ _ _)

/-! ### BULK (R376) -/

/-- The JSEQs of the journal's entries, oldest first. -/
def journalJseqs (s : State) : List Nat := s.ses.journal.map (·.jseq)

theorem journalJseqs_of_ses {s t : State} (h : t.ses = s.ses) : journalJseqs t = journalJseqs s := by simp only [journalJseqs, h]

theorem journalJseqs_markDone (j : Nat) (s : State) : journalJseqs (markDone j s) = journalJseqs s := by
  simp only [journalJseqs, markDone, List.map_map]
  refine List.map_congr_left fun e _ => ?_
  dsimp only [Function.comp]
  split <;> rfl

theorem journalJseqs_dropSession (id : Nat) (s : State) : journalJseqs (dropSession id s) = journalJseqs s := by
  unfold dropSession
  dsimp only
  split <;> rfl

theorem journalJseqs_sessionEntry (e : JMirror) (s : State) : journalJseqs (sessionEntry e s) = journalJseqs s := by
  unfold sessionEntry
  dsimp only
  split
  · rfl
  · exact journalJseqs_dropSession _ _

theorem journalJseqs_commitEffect (atIdle : Bool) (j : Nat) (set : List (Nat × Val)) (s : State) :
    journalJseqs (commitEffect atIdle j set s) = journalJseqs s := by
  unfold commitEffect
  split <;> rfl

/-- The work of a CANCEL_AT_IDLE request. -/
theorem outerEffect_cancel {r : Req} (h : r.op = 0x22) (own : Bool) (status j : Nat) (x : Session) (s : State) :
    outerEffect own r status j x s = if status == stAccepted then
      markDone (fieldU r.payload 0 8) (modSes (fun q => { q with idle := q.idle.filter fun i => i.jseq != fieldU r.payload 0 8 }) s)
    else s := by
  simp only [outerEffect, h]

theorem outerEffect_close {r : Req} (h : r.op = 0x31) (own : Bool) (status j : Nat) (x : Session) (s : State) :
    outerEffect own r status j x s = keep (dropSession x.id) s := by
  simp only [outerEffect, h]

/-- The work of a CANCEL_AT_IDLE or a SESSION_CLOSE adds no entry. -/
theorem journalJseqs_outerEffect {r : Req} (h : r.op = 0x22 ∨ r.op = 0x31) (own : Bool) (status j : Nat) (x : Session) (s : State) :
    journalJseqs (outerEffect own r status j x s) = journalJseqs s := by
  rcases h with h | h
  · rw [outerEffect_cancel h]
    split
    · exact journalJseqs_markDone _ _
    · rfl
  · rw [outerEffect_close h]
    exact journalJseqs_dropSession _ _

/-- Restoring an entry adds none. -/
theorem journalJseqs_restoreEntry (e : JMirror) (s : State) : journalJseqs (restoreEntry e s) = journalJseqs s := by
  unfold restoreEntry
  split
  · dsimp only
    split
    · rfl
    · split
      · exact journalJseqs_commitEffect _ _ _ _
      · split
        next hop => exact journalJseqs_outerEffect (by simpa using hop) _ _ _ _ _
        next => rfl
  · exact journalJseqs_sessionEntry _ _
  · rfl
  · rfl
  · exact journalJseqs_markDone _ _
  · rfl

theorem takeBulk_takes (m : BulkMirror) (s : State) :
    (takeBulk m s).pair.rejoinBulk = true ∧ journalJseqs (takeBulk m s) = m.journal.map (·.jseq) := by
  refine ⟨rfl, ?_⟩
  unfold takeBulk
  extract_lets r s1 s2 c
  have hcontext : journalJseqs (mirrorContext c s2) = journalJseqs s2 := journalJseqs_of_ses (only_mirrorContext c s2 .ses (by decide))
  have hrecords : journalJseqs s2 = journalJseqs s1 := by
    refine forAll_eq journalJseqs _ _ (fun x t => ?_) s1
    exact journalJseqs_of_ses (only_mirrorRecord x.1 x.2 t .ses (by decide))
  have hentries : journalJseqs s1 = journalJseqs r := forAll_eq journalJseqs _ _ journalJseqs_restoreEntry r
  exact hcontext.trans (hrecords.trans (hentries.trans (List.map_map ..)))

theorem mirrorBulk_takes {m : BulkMirror} {s : State} (hp : s.pair.paired = true) (hj : s.pair.rejoin.isSome = true) :
    (mirrorBulk m s).pair.rejoinBulk = true ∧ journalJseqs (mirrorBulk m s) = m.journal.map (·.jseq) := by
  unfold mirrorBulk
  dsimp only
  rw [guardOn_true (by rw [hp, hj]; rfl)]
  exact takeBulk_takes m _

end Sys2Proof.Proofs
end
section
/-! PROOFS. The journal and the heartbeat of the partner, and what a standby takes from the mirror link. -/
namespace Sys2Proof.Proofs
open Sys2Proof Sys2Proof.Machine Sys2Proof.Laws

/-! ### JOURNAL (R259) -/

/-- What a content sends on the mirror link is spelled by the member, its EPOCH and the counters of the classes. -/
theorem sendMirror_out {s t : State} (hmember : t.pair.member = s.pair.member) (hepoch : t.pair.epoch = s.pair.epoch)
    (hmseq : t.pair.mseq = s.pair.mseq) (hout : t.out = s.out) (cls : Nat) (content : List Byte) :
    (sendMirror cls content t).out = (sendMirror cls content s).out := by
  unfold sendMirror forAll
  generalize pieces (content.length / 4096 + 1) content = ps
  induction ps generalizing s t with
  | nil => exact hout
  | cons p ps ih =>
    refine ih hmember hepoch ?_ ?_
    · simp only [sendFrame, emit, hmseq]
    · simp only [sendFrame, emit, mirrorFrame, hmember, hepoch, hmseq, hout]

/-- A standby commits the entries of a message and acknowledges its last JSEQ. -/
theorem mirrorJournal_acks {s t : State} {e : JMirror} (hp : t.pair.paired = true) (hr : t.pair.role = .standby)
    (hj : isFenced .j t = false) (hentry : Only [.ses] t (replicaEntry e t)) (hsent : (replicaEntry e t).out = [])
    (hpair : t.pair.member = s.pair.member ∧ t.pair.epoch = s.pair.epoch ∧ t.pair.mseq = s.pair.mseq) :
    let u := mirrorJournal [e] t
    Only [.ses, .pair] t u ∧ u.ses.jseq = (replicaEntry e t).ses.jseq ∧ u.ses.open_ = (replicaEntry e t).ses.open_ ∧
      u.out = mirrorSent clsAck (toBytes 8 (replicaEntry e t).ses.jseq) s := by
  intro u
  obtain ⟨hmember, hepoch, hmseq⟩ := hpair
  have hu : u = keep (sendMirror clsAck (toBytes 8 (reclaim (replicaEntry e t)).ses.jseq)) (reclaim (replicaEntry e t)) :=
    guardOn_true (by rw [hp, hj, hr]; rfl) _ _
  have hack := only_keep (only_sendMirror clsAck (toBytes 8 (reclaim (replicaEntry e t)).ses.jseq) (reclaim (replicaEntry e t)))
  have hreclaim : Only [.ses] (replicaEntry e t) (reclaim (replicaEntry e t)) := only_ses _ _
  have hkept : (reclaim (replicaEntry e t)).pair = t.pair := hentry .pair (by decide)
  have hses : u.ses = (reclaim (replicaEntry e t)).ses := hu ▸ hack .ses (by decide)
  refine ⟨?_, congrArg (·.jseq) hses, congrArg (·.open_) hses, ?_⟩
  · exact hu ▸ only_trans (only_mono (only_trans hentry hreclaim) (by decide)) (only_mono hack (by decide))
  · rw [hu]
    exact sendMirror_out (t := reclaim (replicaEntry e t)) (s := { s with out := [] }) ((congrArg (·.member) hkept).trans hmember)
      ((congrArg (·.epoch) hkept).trans hepoch) ((congrArg (·.mseq) hkept).trans hmseq) hsent _ _

/-- An entry that is not the next in sequence is not taken. -/
theorem replicaEntry_gap {e : JMirror} {s : State} (h : e.jseq ≠ s.ses.jseq + 1) : replicaEntry e s = s := if_neg h

/-- The next entry, of a session that the partner opened, opens it here. -/
theorem replicaEntry_opens {e : JMirror} {s : State} (h : e.jseq = s.ses.jseq + 1) (ht : e.type = 3) (hopen : fieldU e.payload 0 1 = 1) :
    Only [.ses] s (replicaEntry e s) ∧ (replicaEntry e s).out = s.out ∧ (replicaEntry e s).ses.jseq = e.jseq ∧
      (replicaEntry e s).ses.open_ = s.ses.open_ ++ [{ id := fieldU e.payload 1 4, client := fieldU e.payload 5 8
                                                       service := fieldU e.payload 13 1 == 1, last := s.now }] := by
  have hentry (t : State) : replicaEffect e t =
      keep (openSession (fieldU e.payload 1 4) (fieldU e.payload 5 8) (fieldU e.payload 13 1 == 1)) t := by
    simp only [replicaEffect, ht, sessionEntry, keep, hopen]
  unfold replicaEntry
  rw [if_pos h]
  dsimp only
  rw [hentry]
  refine ⟨fun p hp => ?_, rfl, rfl, rfl⟩
  cases p with
  | ses => simp at hp
  | _ => rfl

/-! ### HEARTBEAT (R354, R364, R372) -/

theorem epochAbove_asymm {a b : Nat} (h : epochAbove a b = true) : epochAbove b a = false := by
  simp only [epochAbove, Bool.and_eq_true, decide_eq_true_eq, Bool.and_eq_false_iff, decide_eq_false_iff_not] at h ⊢
  omega

/-- What a HEARTBEAT of the partner puts into the pair's registers. -/
def partnerHeard (m : HbMirror) (p : PairRegs) : PairRegs :=
  { p with
    partner := some (roleOf m.hb.role), partnerReady := m.hb.ready, partnerLease := m.hb.leaseSeen, partnerReq := reqOf m.hb.request
    partnerEpoch := m.hb.epoch, partDq := m.dq, partSq := m.sq
    epoch := if m.hb.role = 0 && p.role != .active && epochAbove m.hb.epoch p.epoch then m.hb.epoch else p.epoch
    released := m.hb.role = 0 && (m.hb.request = 2 || m.hb.request = 3) && m.hb.mirrorOk }

theorem only_modPair (f : PairRegs → PairRegs) (s : State) : Only [.pair] s (modPair f s) := only_pairOut _ _ s

theorem pairUp_paired {h : Heartbeat} {s : State} (hon : (cfgB Ent.PAIR_ENABLE s && h.pair == pairId s) = true)
    (hp : s.pair.paired = true) : pairUp h s = s := by
  simp only [pairUp, hon, hp, BEq.rfl, if_true]

theorem pairUp_pairs {h : Heartbeat} {s : State} (hon : (cfgB Ent.PAIR_ENABLE s && h.pair == pairId s) = true)
    (hp : s.pair.paired = false) (ht : tierAtLeast .watch s = false) :
    pairUp h s = modPair (fun p => { p with paired := true, role := if h.role = 0 then .detached else .standby }) s := by
  simp [pairUp, hon, hp, ht]

/-- Between two members that claim ACTIVE, the claim is settled. -/
def claimSettled (m : HbMirror) (s : State) : State := if m.hb.role = 0 then settleClaim m.hb.epoch s else s

theorem mirrorHeartbeat_eq {m : HbMirror} {s t : State} (hup : pairUp m.hb s = t) : mirrorHeartbeat m s =
    if !t.pair.paired || epochAbove t.pair.epoch m.hb.epoch then t
    else
      let c := claimSettled m (modPair (partnerHeard m) t)
      if m.hb.role = 2 && c.pair.role == .active && !isActive 0x7802 wide c then detachPartner c else c := by
  subst hup
  rfl

/-- The partner's HEARTBEAT is of no EPOCH below the member's own, and leaves no ACTIVE role to a member: it detaches no partner. -/
theorem mirrorHeartbeat_settles {m : HbMirror} {s t : State} (hup : pairUp m.hb s = t) (hp : t.pair.paired = true)
    (he : epochAbove t.pair.epoch m.hb.epoch = false) (hr : (claimSettled m (modPair (partnerHeard m) t)).pair.role ≠ .active) :
    mirrorHeartbeat m s = claimSettled m (modPair (partnerHeard m) t) := by
  rw [mirrorHeartbeat_eq hup, if_neg (by rw [hp, he]; decide)]
  exact if_neg (by rw [beq_false_of_ne hr, Bool.and_false, Bool.false_and]; decide)

/-- A member that is not ACTIVE claims nothing. -/
theorem claimSettled_of_not {m : HbMirror} {s : State} (hr : s.pair.role ≠ .active) : claimSettled m s = s := by
  have hclaim : settleClaim m.hb.epoch s = s := if_pos (bne_iff_ne.2 hr)
  rw [claimSettled, hclaim, ite_self]

/-- A member that is not ACTIVE notes what the HEARTBEAT says, unless its EPOCH is below its own. -/
theorem mirrorHeartbeat_notes {m : HbMirror} {s t : State} (hup : pairUp m.hb s = t) (hp : t.pair.paired = true)
    (hr : t.pair.role ≠ .active) :
    mirrorHeartbeat m s = if epochAbove t.pair.epoch m.hb.epoch then t else modPair (partnerHeard m) t := by
  have hrole : (modPair (partnerHeard m) t).pair.role ≠ .active := hr
  have hclaim := claimSettled_of_not (m := m) hrole
  split
  next he => rw [mirrorHeartbeat_eq hup, if_pos (by rw [he, Bool.or_true])]
  next he => rw [mirrorHeartbeat_settles hup hp (Bool.eq_false_iff.2 he) (by rwa [hclaim]), hclaim]

theorem leaveActive_pair (s : State) :
    (leaveActive s).pair = { s.pair with role := .fenced, laneHeld := false, request := .none, handing := false } :=
  only_assertSelect none _ .pair (by decide)

theorem withSq_pair (f : State → State) (s : State) : (withSq f s).pair = (f s).pair := only_settleSq _ _ .pair (by decide)

theorem allOpen_of_not_drives {s : State} (h : drivesOutputs s = false) : allOpen s := by
  have hoff (k : Nat) : sqOn k s = false := by simp [sqOn, h]
  simp [allOpen, sqMap, bitMap, hoff]

/-- An ACTIVE member that hears a higher EPOCH from another leaves the role, with its code. -/
theorem claimSettled_leaves {m : HbMirror} {s : State} (hrole : m.hb.role = 0) (hr : s.pair.role = .active)
    (hreq : s.pair.request = .none) (he : epochAbove m.hb.epoch s.pair.epoch = true) :
    let u := claimSettled m s
    Only [.pair, .flt, .link, .recd, .dio] s u ∧ u.pair.role = .fenced ∧ u.pair.paired = s.pair.paired ∧ isActive 0x780A wide u = true := by
  intro u
  have hu : u = raiseF 0x780A wide (withSq leaveActive s) := by
    show claimSettled m s = _
    unfold claimSettled settleClaim
    rw [if_pos hrole, if_neg (by simp [hr]), if_pos he, hreq]
  have hpair : u.pair = (leaveActive s).pair := hu ▸ (only_raiseF _ _ _ .pair (by decide)).trans (withSq_pair _ _)
  rw [hpair, leaveActive_pair]
  exact ⟨hu ▸ only_trans (only_mono (only_withSq (only_leaveActive s)) (by decide)) (only_mono (only_raiseF _ _ _) (by decide)), rfl, rfl,
    hu ▸ isActive_raiseF _ _ _⟩

/-! ### A HEARTBEAT reaches the member -/

theorem releaseIfAlone_idle {s : State} (h : acts s = false) : releaseIfAlone s = s := if_neg (by simp [h])

/-- A HEARTBEAT that leaves a member without the ACTIVE role ends as what it notes. -/
theorem ends_mirrorHeartbeat {l : Lane} {f : List Byte} {s u : State} {h : Heartbeat} {ps : List Part} {P : State → Prop}
    (hl : live s = true) (hends : mirrorEnds clsHeartbeat f s = true) (hb : heartbeatOf (collected clsHeartbeat f s) = some h)
    (hlen : (collected clsHeartbeat f s).length = 15) (hm : h.member = 1 - s.pair.member)
    (hu : mirrorHeartbeat { hb := h, dq := fieldU (collected clsHeartbeat f s) 12 2, sq := fieldU (collected clsHeartbeat f s) 14 1 }
      (taken clsHeartbeat l f s.begin) = u)
    (hacts : acts u = false) (ho : Only ps (taken clsHeartbeat l f s.begin) u) (hps : .pair ∈ ps)
    (hp : P (s.keepQueue { u with store := s.store })) : Ends (.mirrorHeartbeat l f) s ps P := by
  have htake : mirrorTake clsHeartbeat l f takeHeartbeat s.begin = u := by
    rw [mirrorTake_begin hends, takeHeartbeat, hb]
    refine (guardOn_true ?_ _ _).trans hu
    rw [hlen, hm]
    exact beq_self_eq_true _
  have hkeep : keep (mirrorTake clsHeartbeat l f takeHeartbeat) s.begin = { u with store := s.store } := by rw [keep, htake]; rfl
  have heffect : releaseIfAlone (keep (mirrorTake clsHeartbeat l f takeHeartbeat) s.begin) = { u with store := s.store } := by
    rw [hkeep]
    exact releaseIfAlone_idle hacts
  refine ends_whenLive (f := fun s => releaseIfAlone (keep (mirrorTake clsHeartbeat l f takeHeartbeat) s)) rfl hl ?_ ?_
  · rw [heffect, ← hkeep]
    refine only_keep ?_
    rw [htake]
    exact only_trans (only_mono (only_taken clsHeartbeat l f s.begin) (by simpa using hps)) ho
  · rw [heffect]
    exact hp

/-! ### What a standby takes, class by class -/

section
variable {l : Lane} {f : List Byte} {s : State} (hl : live s = true)
include hl

theorem ends_mirrorDuty {m : DutyMirror} (h : mirrorEnds clsDuty f s = true) (hm : dutyMirrorOf (collected clsDuty f s) = some m)
    (hr : tracks s = true ∨ s.pair.role = .detached) : Ends (.mirrorDuty l f) s [.pair, .sp, .link] fun u =>
      u.pair.dutyGot = true ∧ u.sp.iRef = m.iRef ∧ u.sp.dir = (if m.dirChg then .chg else .dis) ∧ u.sp.dwell = m.dwell ∧
      u.sp.tgt = m.target * 65536 ∧ u.sp.r = m.target * 65536 ∧ u.sp.en = m.en ∧
      u.sp.redist = (if m.redist = 0 then 0 else 16 - m.redist) ∧ u.link.seq = m.seq ∧ u.link.next.duty = m.duty ∧
      u.link.next.run = m.run ∧ u.link.next.act = false := by
  have hu : takeDuty (collected clsDuty f s) (taken clsDuty l f s.begin) = mirrorDuty m (taken clsDuty l f s.begin) := by
    rw [takeDuty, hm]
  obtain ⟨ho, hp⟩ := mirrorDuty_takes (m := m) (s := taken clsDuty l f s.begin) hr
  exact ends_mirrorK (use := takeDuty) rfl hl h hu (only_trans (only_mono (only_taken clsDuty l f s.begin) (by decide)) ho) hp

theorem ends_mirrorState {m : StateMirror} (h : mirrorEnds clsState f s = true) (hm : stateMirrorOf (collected clsState f s) = some m)
    (hp : s.pair.paired = true) (hr : s.pair.role ≠ .active) (hinv : StoreInv s) :
    Ends (.mirrorState l f) s [.store, .pair, .dio, .prot, .est, .link] fun u =>
      StoreInv u ∧ u.dio.dqCmd = m.dq ∧ u.dio.sqCmd = m.sq ∧ u.pair.imageDq = m.dq ∧ u.pair.imageSq = m.sq ∧
      u.prot.tripped = m.tripped ∧ u.prot.cause = m.cause ∧ u.prot.main.coil = bitOf m.coils 0 ∧
      u.prot.neg.coil = bitOf m.coils 1 ∧ u.prot.pre.coil = bitOf m.coils 2 := by
  obtain ⟨ho, hu⟩ := mirrorState_takes (m := m) (s := taken clsState l f s.begin) hp hr
  refine ends_mirror (cls := clsState) rfl hl h (by rw [hm]) (only_trans (only_mono (only_taken clsState l f s.begin) (by decide)) ho) ⟨?_, hu⟩
  exact mirrorState_inv m _ hinv

theorem ends_mirrorContext {m : CtxMirror} (h : mirrorEnds clsContext f s = true) (hm : ctxMirrorOf (collected clsContext f s) = some m)
    (hp : s.pair.paired = true) (hr : s.pair.role ≠ .active) : Ends (.mirrorContext l f) s [.est, .pair, .chain] fun u =>
      u.pair.ctxAt = some s.now ∧ u.chain.sweepCtr = m.sweep ∧ u.chain.cmdCtrA = m.cmdA ∧ u.chain.cmdCtrB = m.cmdB ∧
      (∀ n c, n < 256 → m.ctx[n]? = some c → ctxAt n u = ctxOfBytes c s) ∧ ∀ n, m.ctx.length ≤ n → ctxAt n u = ctxAt n s := by
  obtain ⟨hat, hsweep, ha, hb, hest⟩ := mirrorContext_takes (m := m) (s := taken clsContext l f s.begin) hp hr
  have ho := only_mirrorContext m (taken clsContext l f s.begin)
  refine ends_mirrorK (cls := clsContext) rfl hl h (by rw [hm]) (only_trans (only_mono (only_taken clsContext l f s.begin) (by decide)) ho)
    ⟨hat, hsweep, ha, hb, fun n c hn hc => ?_, fun n hn => ?_⟩
  · exact (ctxAt_of_est hest n).trans ((contextsTaken_given hn hc _).trans (ctxOfBytes_of_sys rfl c))
  · exact (ctxAt_of_est hest n).trans (contextsTaken_beyond hn _)

theorem ends_mirrorRecord {n : Fin 256} (h : mirrorEnds clsRecord f s = true) (hlen : (collected clsRecord f s).length = 66)
    (hn : fieldU (collected clsRecord f s) 0 2 = n.val) (hp : s.pair.paired = true) (hr : s.pair.role ≠ .active) :
    Ends (.mirrorRecord l f) s [.ident, .pair] fun u =>
      lpAt n.val u = takeMirrored (learnedOfBytes ((collected clsRecord f s).drop 2)) (lpAt n.val s) ∧
      ∀ k : Fin 256, k ≠ n → lpAt k.val u = lpAt k.val s := by
  let r := learnedOfBytes ((collected clsRecord f s).drop 2)
  have hu : guardOn ((collected clsRecord f s).length == 66)
      (mirrorRecord (fieldU (collected clsRecord f s) 0 2) ((collected clsRecord f s).drop 2)) (taken clsRecord l f s.begin) =
      modLp n.val (takeMirrored r) (taken clsRecord l f s.begin) := by
    rw [guardOn_true (by rw [hlen]; rfl), hn]
    exact guardOn_true (by simp [taken, putPart, hearLane, State.begin, hp, hr]) _ _
  have hident := modLp_ident n.val (takeMirrored r) (taken clsRecord l f s.begin)
  refine ends_mirrorK (cls := clsRecord) rfl hl h hu
    (only_trans (only_mono (only_taken clsRecord l f s.begin) (by decide)) (only_mono (only_modLp _ _ _) (by decide))) ⟨?_, fun k hk => ?_⟩
  · exact lpAt_same hident n.isLt
  · exact lpAt_other hident (fun he => hk (Fin.ext he))

theorem exec_mirrorBulk {m : BulkMirror} (h : mirrorEnds clsBulk f s = true) (hm : bulkMirrorOf (collected clsBulk f s) = some m)
    (hp : s.pair.paired = true) (hj : s.pair.rejoin.isSome = true) : ∃ u, exec (.mirrorBulk l f) s = .next u ∧ u.pending = s.pending ∧
      u.pair.rejoinBulk = true ∧ u.ses.journal.map (·.jseq) = m.journal.map (·.jseq) := by
  have hexec : exec (.mirrorBulk l f) s = .next (s.keepQueue (mirrorBulk m (taken clsBulk l f s.begin))) := by
    refine Eq.trans rfl ((whenLive_next hl).trans ?_)
    rw [mirrorTake_begin h, hm]
  exact ⟨_, hexec, rfl, mirrorBulk_takes (s := taken clsBulk l f s.begin) hp hj⟩

/-- One entry of the partner's journal reaches a standby. -/
theorem ends_mirrorJournal {e : JMirror} (h : mirrorEnds clsJournal f s = true)
    (he : journalOf (collected clsJournal f s).length (collected clsJournal f s) = [e]) (hp : s.pair.paired = true)
    (hr : s.pair.role = .standby) (hj : isFenced .j s = false) :
    (e.jseq ≠ s.ses.jseq + 1 → Ends (.mirrorJournal l f) s [.ses, .pair] fun u =>
      u.ses.jseq = s.ses.jseq ∧ u.out = mirrorSent clsAck (toBytes 8 s.ses.jseq) s) ∧
    (e.jseq = s.ses.jseq + 1 → e.type = 3 → fieldU e.payload 0 1 = 1 → Ends (.mirrorJournal l f) s [.ses, .pair] fun u =>
      u.ses.jseq = e.jseq ∧ u.out = mirrorSent clsAck (toBytes 8 e.jseq) s ∧
      u.ses.open_ = s.ses.open_ ++ [{ id := fieldU e.payload 1 4, client := fieldU e.payload 5 8
                                      service := fieldU e.payload 13 1 == 1, last := s.now }]) := by
  let t := taken clsJournal l f s.begin
  have htaken : Only [.ses, .pair] s.begin t := only_mono (only_taken clsJournal l f s.begin) (by decide)
  have hu : mirrorJournal (journalOf (collected clsJournal f s).length (collected clsJournal f s)) t = mirrorJournal [e] t := by rw [he]
  refine ⟨fun hgap => ?_, fun hnext htype hopen => ?_⟩
  · have hsame : replicaEntry e t = t := replicaEntry_gap hgap
    obtain ⟨ho, hjseq, -, hout⟩ := mirrorJournal_acks (s := s) (t := t) (e := e) hp hr hj
      (by rw [hsame]; exact only_refl _ _) (by rw [hsame]; rfl) ⟨rfl, rfl, rfl⟩
    rw [hsame] at hjseq hout
    exact ends_mirror (cls := clsJournal) rfl hl h hu (only_trans htaken ho) ⟨hjseq, hout⟩
  · obtain ⟨hentry, hsent, hj', hopen'⟩ := replicaEntry_opens (s := t) hnext htype hopen
    obtain ⟨ho, hjseq, hsess, hout⟩ := mirrorJournal_acks (s := s) (t := t) hp hr hj hentry hsent ⟨rfl, rfl, rfl⟩
    rw [hj'] at hjseq hout
    exact ends_mirror (cls := clsJournal) rfl hl h hu (only_trans htaken ho) ⟨hjseq, hout, hsess.trans hopen'⟩

end

/-! ### The HEARTBEAT, by the roles of both members -/

theorem cfgB_of_store {s t : State} (h : t.store = s.store) (e : Entry) (k : Nat) : cfgB e t k = cfgB e s k := by
  simp only [cfgB, cfg_of_store h]

section
variable {l : Lane} {f : List Byte} {s : State} {h : Heartbeat} (hl : live s = true) (hends : mirrorEnds clsHeartbeat f s = true)
  (hb : heartbeatOf (collected clsHeartbeat f s) = some h) (hlen : (collected clsHeartbeat f s).length = 15)
  (hm : h.member = 1 - s.pair.member) (hen : cfgB Ent.PAIR_ENABLE s = true) (hid : h.pair = pairId s)

theorem taken_pairs (hen : cfgB Ent.PAIR_ENABLE s = true) (hid : h.pair = pairId s) :
    (cfgB Ent.PAIR_ENABLE (taken clsHeartbeat l f s.begin) && h.pair == pairId (taken clsHeartbeat l f s.begin)) = true := by
  rw [cfgB_of_store (s := s) (t := taken clsHeartbeat l f s.begin) rfl, hen, hid]
  exact beq_self_eq_true (pairId s)

include hl hends hb hlen hm hen hid

theorem ends_mirrorHeartbeat_standby (hp : s.pair.paired = true) (hr : s.pair.role = .standby) (hrole : h.role = 0)
    (he : epochAbove s.pair.epoch h.epoch = false) : Ends (.mirrorHeartbeat l f) s [.pair] fun u =>
      u.pair.partner = some .active ∧ u.pair.partnerReady = h.ready ∧ u.pair.partnerEpoch = h.epoch ∧
      u.pair.partDq = fieldU (collected clsHeartbeat f s) 12 2 ∧ u.pair.partSq = fieldU (collected clsHeartbeat f s) 14 1 ∧
      u.pair.role = .standby ∧ u.pair.epoch = if epochAbove h.epoch s.pair.epoch then h.epoch else s.pair.epoch := by
  let t := taken clsHeartbeat l f s.begin
  let m : HbMirror := { hb := h, dq := fieldU (collected clsHeartbeat f s) 12 2, sq := fieldU (collected clsHeartbeat f s) 14 1 }
  have hu : mirrorHeartbeat m t = modPair (partnerHeard m) t := by
    rw [mirrorHeartbeat_notes (pairUp_paired (taken_pairs hen hid) hp) hp (by rw [show t.pair.role = .standby from hr]; decide)]
    exact if_neg (by rw [show epochAbove t.pair.epoch m.hb.epoch = false from he]; decide)
  refine ends_mirrorHeartbeat hl hends hb hlen hm hu ?_ (only_modPair _ _) (by decide)
    ⟨congrArg (some ∘ roleOf) hrole, rfl, rfl, rfl, rfl, hr, ?_⟩
  · simp [acts, modPair, partnerHeard, t, taken, putPart, hearLane, State.begin, hp, hr]
  · simp [modPair, partnerHeard, t, m, taken, putPart, hearLane, State.begin, State.keepQueue, hr, hrole]

theorem ends_mirrorHeartbeat_pairs (hp : s.pair.paired = false) (ht : tierAtLeast .watch s = false) :
    Ends (.mirrorHeartbeat l f) s [.pair] fun u => u.pair.paired = true ∧ u.pair.role = if h.role = 0 then .detached else .standby := by
  let m : HbMirror := { hb := h, dq := fieldU (collected clsHeartbeat f s) 12 2, sq := fieldU (collected clsHeartbeat f s) 14 1 }
  let role : Role := if h.role = 0 then .detached else .standby
  let v := modPair (fun p => { p with paired := true, role := role }) (taken clsHeartbeat l f s.begin)
  have hrole : v.pair.role ≠ .active := by
    show role ≠ .active
    unfold role
    split <;> decide
  have hup : pairUp h (taken clsHeartbeat l f s.begin) = v := pairUp_pairs (taken_pairs hen hid) hp ht
  have hv : Only [.pair] (taken clsHeartbeat l f s.begin) v := only_modPair _ _
  have hu := mirrorHeartbeat_notes (m := m) hup rfl hrole
  refine ends_mirrorHeartbeat hl hends hb hlen hm hu ?_ ?_ (by decide) ?_
  · split <;> exact (Bool.or_eq_false_iff.2 ⟨rfl, beq_false_of_ne hrole⟩)
  · exact only_ite hv (only_trans hv (only_modPair _ _))
  · show (ite _ v (modPair (partnerHeard m) v)).pair.paired = true ∧ (ite _ v (modPair (partnerHeard m) v)).pair.role = role
    split <;> exact ⟨rfl, rfl⟩

theorem ends_mirrorHeartbeat_leaves (hp : s.pair.paired = true) (hr : s.pair.role = .active) (hreq : s.pair.request = .none)
    (hrole : h.role = 0) (he : epochAbove h.epoch s.pair.epoch = true) :
    Ends (.mirrorHeartbeat l f) s [.pair, .flt, .link, .recd, .dio] fun u =>
      u.pair.role = .fenced ∧ allOpen u ∧ isActive 0x780A wide u = true := by
  let t := taken clsHeartbeat l f s.begin
  let m : HbMirror := { hb := h, dq := fieldU (collected clsHeartbeat f s) 12 2, sq := fieldU (collected clsHeartbeat f s) 14 1 }
  let v := modPair (partnerHeard m) t
  have hepoch : v.pair.epoch = s.pair.epoch := by
    simp [v, modPair, partnerHeard, t, taken, putPart, hearLane, State.begin, hr]
  obtain ⟨ho, hfenced, hpaired, hcode⟩ := claimSettled_leaves (m := m) (s := v) hrole hr hreq (by rw [hepoch]; exact he)
  have hu : mirrorHeartbeat m t = claimSettled m v :=
    mirrorHeartbeat_settles (pairUp_paired (taken_pairs hen hid) hp) hp (epochAbove_asymm he) (by rw [hfenced]; decide)
  have hpaired' : (claimSettled m v).pair.paired = true := hpaired.trans hp
  refine ends_mirrorHeartbeat hl hends hb hlen hm hu (by simp [acts, hpaired', hfenced])
    (only_trans (only_mono (only_modPair _ _) (by decide)) ho) (by decide) ⟨hfenced, ?_, hcode⟩
  exact allOpen_of_not_drives (by simp [drivesOutputs, State.keepQueue, hpaired', hfenced])

end

/-- Settles O49: a frame that is not taken changes at most what was heard; each class is taken as its lemma says. -/
theorem pairMirrorsAreTaken : Obligations.PairMirrorsAreTaken := by
  unfold Obligations.PairMirrorsAreTaken
  intro s l f hl b
  refine ⟨fun x hx => ?_, fun m h hm hr => ends_mirrorDuty hl h hm hr, fun m h hm hp hr hinv => ends_mirrorState hl h hm hp hr hinv,
    fun m h hm hp hr => ends_mirrorContext hl h hm hp hr, fun n h hlen hn hp hr => ?_, fun m h hm hp hj => exec_mirrorBulk hl h hm hp hj,
    fun e h he hp hr hj => ends_mirrorJournal hl h he hp hr hj, fun h hends hb hlen hm hen hid =>
      ⟨ends_mirrorHeartbeat_standby hl hends hb hlen hm hen hid, ends_mirrorHeartbeat_pairs hl hends hb hlen hm hen hid,
        ends_mirrorHeartbeat_leaves hl hends hb hlen hm hen hid⟩⟩
  · simp only [List.mem_cons, List.not_mem_nil, or_false] at hx
    rcases hx with rfl | rfl | rfl | rfl | rfl | rfl | rfl
    · exact mirror_untaken (cls := clsDuty) (.inr rfl) hl
    · exact mirror_untaken (cls := clsState) (.inl rfl) hl
    · exact mirror_untaken (cls := clsContext) (.inr rfl) hl
    · exact mirror_untaken (cls := clsRecord) (.inr rfl) hl
    · exact mirror_untaken (cls := clsBulk) (.inl rfl) hl
    · exact mirror_untaken (cls := clsJournal) (.inl rfl) hl
    · exact mirror_untaken (cls := clsAck) (.inl rfl) hl
  · have h := ends_mirrorRecord (l := l) hl h hlen hn hp hr
    rw [takeMirrored_eq] at h
    exact h

end Sys2Proof.Proofs
end
section
/-! PROOFS. Work that the partner acknowledges is accepted. -/
namespace Sys2Proof.Proofs
open Sys2Proof Sys2Proof.Machine Sys2Proof.Laws

/-! ### Numbers as bytes -/

theorem foldl_toBytes (n x acc : Nat) :
    (toBytes n x).foldl (fun acc b => acc * 256 + b.toNat) acc = acc * 256 ^ n + x % 256 ^ n := by
  induction n generalizing acc with
  | zero => simp [toBytes, Nat.mod_one]
  | succ n ih =>
    have hsplit : x % (256 ^ n * 256) = x % 256 ^ n + 256 ^ n * (x / 256 ^ n % 256) := Nat.mod_mul
    rw [toBytes, List.foldl_cons, ih, BitVec.toNat_ofNat, show 2 ^ 8 = 256 from rfl, Nat.pow_succ, hsplit]
    ring

theorem ofBytes_toBytes (n x : Nat) : ofBytes (toBytes n x) = x % 256 ^ n := (foldl_toBytes n x 0).trans (by omega)

theorem length_toBytes (n x : Nat) : (toBytes n x).length = n := by
  induction n with
  | zero => rfl
  | succ n ih => exact congrArg (· + 1) ih

/-- A number that its bytes hold is read back from them. -/
theorem fieldU_toBytes {n x : Nat} (h : x < 256 ^ n) : fieldU (toBytes n x) 0 n = x := by
  have hlen := length_toBytes n x
  rw [fieldU, slice, List.drop_zero, List.take_of_length_le (by omega), ofBytes_toBytes, Nat.mod_eq_of_lt h]

/-! ### Work that is released -/

theorem settleDone_eq (j : Nat) (s : State) : ∃ x, settleDone j s = { s with ses := { s.ses with journal := x } } := by
  unfold settleDone
  split
  · exact ⟨_, rfl⟩
  · exact ⟨_, rfl⟩

/-- The session of a request whose work is accepted: its change set and block buffer go on, and the reply enters the cache. -/
def requestNoted (r : Req) (reply : Reply) (y : Session) : Session :=
  { sessionStep r reply.status y with cache := (reply :: (sessionStep r reply.status y).cache).take 32 }

/-- The work of a request of an open session: its effect, its session, and the journal's entries that it completes. -/
theorem requestEffect_eq {r : Req} {x : Session} {s : State} (hx : sessionOf r.h.ses s = some x) (own : Bool) (reply : Reply) :
    let v := outerEffect own r reply.status reply.jseq x s
    ∃ y, requestEffect own r reply s = { v with ses := { (modSession x.id (requestNoted r reply) v).ses with journal := y } } := by
  intro v
  obtain ⟨y, hy⟩ := settleDone_eq reply.jseq (modSession x.id (requestNoted r reply) v)
  refine ⟨y, Eq.trans ?_ hy⟩
  unfold requestEffect
  rw [hx]
  exact keep_of_store (f := fun t => settleDone reply.jseq (modSession x.id (requestNoted r reply) t)) (congrArg (·.store) hy)

/-- A sequenced request that waits for no rotation is answered once its work has taken effect. -/
theorem release_answered {r : Req} {reply : Reply} {s : State} {ip : Word32} {port : Word16} {own : Bool} (j : Nat) (hopen : isOpen r = false)
    (hwait : waitsForCal r reply.status s = false) (hdest : reply.dest = .udp ip port own) :
    release j (.request r reply) s = emit (.reply { reply with jseq := j }) (requestEffect true r { reply with jseq := j } s) := by
  have hsent (t : State) : sendReply { reply with jseq := j } t = emit (.reply { reply with jseq := j }) t :=
    sendReply_udp (c := { reply with jseq := j }) hdest t
  simp only [release, hopen, hwait, Bool.false_eq_true, if_false]
  exact (keep_of_store (congrArg (·.store) (hsent _))).trans (hsent _)

/-- The state that accepted work leaves: it is noted in its session, the journal's entries that it completes are marked, and it is
answered. -/
def requestAccepted (r : Req) (x : Session) (reply : Reply) (queue : List Instr) (entries : List JEntry) (s : State) : State :=
  { s with
    pending := queue, out := s.out ++ [.reply reply]
    ses := { (modSession x.id (requestNoted r reply) s).ses with journal := entries } }

theorem release_request {r : Req} {x : Session} {reply : Reply} {s : State} {ip : Word32} {port : Word16} {own : Bool} (j : Nat)
    (hopen : isOpen r = false) (hdest : reply.dest = .udp ip port own) (hst : reply.status = stAccepted) (hx : sessionOf r.h.ses s = some x) :
    let v := outerEffect true r stAccepted j x s
    ∃ y, release j (.request r reply) s = requestAccepted r x { reply with jseq := j } v.pending y v := by
  have hwait : waitsForCal r reply.status s = false := by rw [waitsForCal, hst]; simp [stAccepted, stDone]
  obtain ⟨y, hy⟩ := requestEffect_eq hx true { reply with jseq := j }
  rw [release_answered j hopen hwait hdest, hy, hst]
  exact ⟨y, rfl⟩

theorem only_requestAccepted (r : Req) (x : Session) (reply : Reply) (queue : List Instr) (entries : List JEntry) (s : State) :
    Only [.pending, .ses] s (requestAccepted r x reply queue entries s) := fun p hp => by
  cases p with
  | pending | ses => simp at hp
  | _ => rfl

/-- The session that made the request has noted it. -/
theorem sessionOf_requestAccepted {r : Req} {x : Session} {reply : Reply} {s : State} (hx : sessionOf x.id s = some x)
    (hid : ∀ y, (sessionStep r reply.status y).id = y.id) (queue : List Instr) (entries : List JEntry) :
    sessionOf x.id (requestAccepted r x reply queue entries s) = some (requestNoted r reply x) :=
  sessionOf_modSession (f := requestNoted r reply) hid hx

/-! ### The acknowledgement of the one piece of work that waits (R255) -/

/-- The member that has heard the acknowledgement, and in which no work waits. -/
def acked (l : Lane) (f : List Byte) (j : Nat) (s : State) : State :=
  { s with
    out := [], ses := { s.ses with awaiting := [] }
    pair := { (putPart clsAck (fieldU f 4 2) [] (hearLane l s)).pair with ack := max s.pair.ack j } }

theorem only_acked (l : Lane) (f : List Byte) (j : Nat) (s : State) : Only [.ses, .pair] s (acked l f j s) := fun p hp => by
  cases p with
  | ses | pair => simp at hp
  | _ => rfl

section
variable {l : Lane} {f : List Byte} {j : Nat} {r : Req} {x : Session} {reply : Reply} {s : State} {ip : Word32} {port : Word16} {own : Bool}
  (hl : live s = true) (hends : mirrorEnds clsAck f s = true) (hc : collected clsAck f s = toBytes 8 j) (hj : j < 2 ^ 64)
  (hp : s.pair.paired = true) (hr : s.pair.role = .active) (hwait : s.ses.awaiting = [(j, .request r reply)])
  (hdest : reply.dest = .udp ip port own) (hst : reply.status = stAccepted) (hx : sessionOf r.h.ses s = some x)
include hl hends hc hj hp hr hwait

/-- The work that waits is released. -/
theorem exec_journalAck :
    exec (.journalAck l f) s = .next (s.keepQueue (reclaim (release j (.request r reply) (acked l f j s)))) := by
  have hjseq : fieldU (toBytes 8 j) 0 8 = j := fieldU_toBytes (by omega)
  have hready : s.ses.awaiting.filter (·.1 ≤ j) = [(j, .request r reply)] := by simp [hwait]
  have hstays : s.ses.awaiting.filter (fun a => !(a.1 ≤ j : Bool)) = [] := by simp [hwait]
  have hack : journalAck j (taken clsAck l f s.begin) = reclaim (release j (.request r reply) (acked l f j s)) := by
    refine (guardOn_true (p := s.pair.paired && s.pair.role == .active) (by rw [hp, hr]; rfl) _ _).trans ?_
    show releaseUpTo j { taken clsAck l f s.begin with pair := (acked l f j s).pair } = _
    unfold releaseUpTo
    show reclaim (forAll (s.ses.awaiting.filter (·.1 ≤ j)) (fun a s => release a.1 a.2 s)
      { taken clsAck l f s.begin with
        pair := (acked l f j s).pair, ses := { s.ses with awaiting := s.ses.awaiting.filter fun a => !(a.1 ≤ j : Bool) } }) = _
    rw [hready, hstays]
    rfl
  refine Eq.trans rfl ((whenLive_next hl).trans ?_)
  rw [mirrorTake_begin hends, hc, guardOn_true (by rw [length_toBytes]; rfl), hjseq, hack]

include hdest hst hx

/-- The work acts, is noted in its session, and is answered with the JSEQ of its entry. -/
theorem exec_journalAck_accepts (hop : r.op ≠ 0x30) : ∃ y, exec (.journalAck l f) s =
    .next (requestAccepted r x { reply with jseq := j } s.pending y (outerEffect true r stAccepted j x (acked l f j s))) := by
  obtain ⟨y, hy⟩ := release_request (x := x) (s := acked l f j s) j (isOpen_of_op hop) hdest hst hx
  rw [exec_journalAck hl hends hc hj hp hr hwait, hy]
  exact ⟨_, rfl⟩

theorem ends_journalAck {ps : List Part} {P : State → Prop} {v : State} (hop : r.op ≠ 0x30)
    (hv : outerEffect true r stAccepted j x (acked l f j s) = v) (hps : .ses ∈ ps) (hpp : .pair ∈ ps) (ho : Only ps (acked l f j s) v)
    (hu : ∀ y, P (requestAccepted r x { reply with jseq := j } s.pending y v)) : Ends (.journalAck l f) s ps P := by
  obtain ⟨y, hy⟩ := exec_journalAck_accepts hl hends hc hj hp hr hwait hdest hst hx hop
  subst hv
  refine ⟨_, hy, fun p hq => ?_, hu y⟩
  have hkept := only_trans (only_mono (only_acked l f j s) (by simp [hps, hpp])) ho p hq
  have haccepted := only_requestAccepted r x { reply with jseq := j } s.pending y (outerEffect true r stAccepted j x (acked l f j s)) p
  cases p with
  | pending => rfl
  | ses => exact absurd hps hq
  | _ => exact (haccepted (by decide)).trans hkept

end

/-! ### What each request does -/

theorem stageValue_id (r : Req) (bs : List Byte) (x : Session) : (stageValue r bs x).id = x.id := by
  unfold stageValue
  split
  · split
    · split <;> rfl
    · rfl
  · rfl

/-- No request but a close changes who its session is. -/
theorem sessionStep_id (r : Req) (status : Nat) (x : Session) : (sessionStep r status x).id = x.id := by
  unfold sessionStep
  split
  case h_1 =>
    dsimp only
    split
    · exact stageValue_id _ _ _
    · rfl
  case h_2 =>
    split
    · rfl
    · split
      · dsimp only
        split
        · exact stageValue_id _ _ _
        · rfl
      · rfl
  case h_3 =>
    dsimp only
    split <;> rfl
  case h_4 => rfl
  case h_5 => rfl

theorem outerEffect_write {r : Req} {e : Entry} {k : Nat} (hop : r.op = 0x02) (he : reqEntry r = some (e, k)) (own : Bool) (j : Nat)
    (x : Session) (s : State) : outerEffect own r stAccepted j x s = writeEffect own r.h.ses e k r.payload j s := by
  simp [outerEffect, hop, valueEffect, he]

theorem outerEffect_commit {r : Req} {b : Byte} (hop : r.op = 0x20) (hb : r.payload = [b]) (own : Bool) (j : Nat) (x : Session) (s : State) :
    outerEffect own r stAccepted j x s = commitEffect (b.toNat == 1) j x.staged s := by
  have hkeep : keep (commitEffect (b.toNat == 1) j x.staged) s = commitEffect (b.toNat == 1) j x.staged s := by
    refine keep_of_store ?_
    unfold commitEffect
    split <;> rfl
  simp [outerEffect, hop, hb, fieldU_head, hkeep]

theorem outerEffect_discard {r : Req} (hop : r.op = 0x21) (own : Bool) (status j : Nat) (x : Session) (s : State) :
    outerEffect own r status j x s = s := by
  simp only [outerEffect, hop]

theorem sessionStep_discard {r : Req} (hop : r.op = 0x21) (status : Nat) (x : Session) : sessionStep r status x = { x with staged := [] } := by
  simp only [sessionStep, hop]

theorem sessionStep_commit {r : Req} (hop : r.op = 0x20) (x : Session) : sessionStep r stAccepted x = { x with staged := [] } := by
  simp [sessionStep, hop]

/-- An accepted RWC value enters the change set. -/
theorem sessionStep_stages {r : Req} {e : Entry} {k : Nat} {v : Val} (hop : r.op = 0x02) (he : reqEntry r = some (e, k))
    (hacc : e.access = .rwc) (hv : decodeVal e r.payload = some v) (x : Session) :
    sessionStep r stAccepted x = { x with staged := storeIns (reqAddr r) v x.staged } := by
  simp [sessionStep, hop, stageValue, he, hacc, hv]

section
variable {l : Lane} {f : List Byte} {j : Nat} {r : Req} {x : Session} {reply : Reply} {s : State} {ip : Word32} {port : Word16} {own : Bool}
  (hl : live s = true) (hends : mirrorEnds clsAck f s = true) (hc : collected clsAck f s = toBytes 8 j) (hj : j < 2 ^ 64)
  (hp : s.pair.paired = true) (hr : s.pair.role = .active) (hwait : s.ses.awaiting = [(j, .request r reply)])
  (hdest : reply.dest = .udp ip port own) (hst : reply.status = stAccepted) (hx : sessionOf r.h.ses s = some x)
include hl hends hc hj hp hr hwait hdest hst hx

theorem exec_journalAck_command {e : Entry} {k : Nat} {v : Val} (hop : r.op = 0x02) (he : reqEntry r = some (e, k))
    (hv : decodeVal e r.payload = some v) (hacc : e.access = .wo) :
    let w := commandEffect true r.h.ses e k v j (acked l f j s)
    ∃ u, exec (.journalAck l f) s = .next u ∧ u.pending = s.pending ∧ u.store = s.store ∧ Only [.pending, .store, .ses] w u ∧
      u.out = w.out ++ [.reply { reply with jseq := j }] := by
  intro w
  obtain ⟨y, hy⟩ := exec_journalAck_accepts hl hends hc hj hp hr hwait hdest hst hx (by omega)
  have heffect : outerEffect true r stAccepted j x (acked l f j s) = keep (commandEffect true r.h.ses e k v j) (acked l f j s) := by
    simp only [outerEffect_write hop he, writeEffect, hv, hacc]
  rw [heffect] at hy
  have hkeep : Only [.store] w (keep (commandEffect true r.h.ses e k v j) (acked l f j s)) := fun p hp => by
    cases p with
    | store => simp at hp
    | _ => rfl
  exact ⟨_, hy, rfl, rfl, only_trans (only_mono hkeep (by decide)) (only_mono (only_requestAccepted _ _ _ _ _ _) (by decide)), rfl⟩

theorem exec_journalAck_value {e : Entry} {k : Nat} {v : Val} (hop : r.op = 0x02) (he : reqEntry r = some (e, k))
    (hv : decodeVal e r.payload = some v) (hacc : e.access = .rw ∨ e.access = .rwi) (hlo : isEnt Ent.CELL_LEAD_R_LO e = false)
    (hhi : isEnt Ent.CELL_LEAD_R_HI e = false) (hinv : StoreInv s) :
    ∃ u, exec (.journalAck l f) s = .next u ∧ u.pending = s.pending ∧ cfgVal e k u = v ∧ StoreInv u ∧
      .reply { reply with jseq := j } ∈ u.out ∧ ∀ b, b ≠ entryAddr e k → storeGet b u.store = storeGet b s.store := by
  obtain ⟨y, hy⟩ := exec_journalAck_accepts hl hends hc hj hp hr hwait hdest hst hx (by omega)
  have heffect : outerEffect true r stAccepted j x (acked l f j s) = putValue e k v (acked l f j s) := by
    rcases hacc with hacc | hacc <;> simp only [outerEffect_write hop he, writeEffect, hv, hacc]
  rw [heffect] at hy
  have hstore : (putValue e k v (acked l f j s)).store = storePut (entryAddr e k) e.dflt v s.store := by
    rw [putValue_eq hlo hhi, keep_store, setCfg_store, only_awake e (acked l f j s) .store (by decide)]
    rfl
  refine ⟨_, hy, rfl, cfgVal_putValue hlo hhi k v (s := acked l f j s) hinv, putValue_inv e k v (acked l f j s) hinv,
    List.mem_append_right _ (List.mem_singleton_self _), fun b hb => ?_⟩
  exact (congrArg (storeGet b) hstore).trans (storeGet_storePut_other _ _ hb hinv)

theorem ends_journalAck_stages {e : Entry} {k : Nat} {v : Val} (hop : r.op = 0x02) (he : reqEntry r = some (e, k))
    (hv : decodeVal e r.payload = some v) (hacc : e.access = .rwc) : Ends (.journalAck l f) s [.ses, .pair, .est, .sys] fun u =>
      (wakesE e = false → u.est = s.est ∧ u.sys = s.sys) ∧ u.out = [.reply { reply with jseq := j }] ∧
      ∃ y, sessionOf x.id u = some y ∧ y.staged = storeIns (reqAddr r) v x.staged ∧
        y.cache = ({ reply with jseq := j } :: x.cache).take 32 := by
  have heffect : outerEffect true r stAccepted j x (acked l f j s) = awake e (acked l f j s) := by
    simp only [outerEffect_write hop he, writeEffect, hv, hacc, awake]
  have hid : x.id = r.h.ses := id_of_sessionOf hx
  have hout : (awake e (acked l f j s)).out = [] := by
    unfold awake
    split
    · unfold keep wakeE
      dsimp only
      split <;> rfl
    · rfl
  have hses : (awake e (acked l f j s)).ses = (acked l f j s).ses := only_awake e _ .ses (by decide)
  have hsession : sessionOf x.id (awake e (acked l f j s)) = some x := by
    rw [sessionOf_of_ses (congrArg (·.open_) hses), hid]
    exact hx
  have hstep : sessionStep r { reply with jseq := j }.status x = { x with staged := storeIns (reqAddr r) v x.staged } := by
    rw [← sessionStep_stages hop he hacc hv x, ← hst]
  refine ends_journalAck hl hends hc hj hp hr hwait hdest hst hx (by omega) heffect (by decide) (by decide)
    (only_mono (only_awake e _) (by decide)) fun y => ⟨fun hw => ?_, ?_, _, sessionOf_requestAccepted hsession (sessionStep_id r _) _ y, ?_⟩
  · have hasleep : awake e (acked l f j s) = acked l f j s := if_neg (by rw [hw]; decide)
    rw [hasleep]
    exact ⟨rfl, rfl⟩
  · exact congrArg (· ++ [Output.reply { reply with jseq := j }]) hout
  · simp only [requestNoted, hstep, and_self]

/-- A request that reads only its own session's change set: queued for the next boundary or for PARKED, or discarded. -/
theorem ends_journalAck_unstages {v : State} {P : State → Prop} (hop : r.op ≠ 0x30) (hv : outerEffect true r stAccepted j x (acked l f j s) = v)
    (ho : Only [.ses] (acked l f j s) v) (hout : v.out = []) (hopen : v.ses.open_ = s.ses.open_)
    (hstep : ∀ y, sessionStep r stAccepted y = { y with staged := [] })
    (hu : ∀ y, P (requestAccepted r x { reply with jseq := j } s.pending y v)) : Ends (.journalAck l f) s [.ses, .pair] fun u =>
      u.out = [.reply { reply with jseq := j }] ∧ P u ∧ ∃ y, sessionOf x.id u = some y ∧ y.staged = [] := by
  have hid : x.id = r.h.ses := id_of_sessionOf hx
  have hsession : sessionOf x.id v = some x := by rw [sessionOf_of_ses hopen, hid, hx]
  have hstatus : sessionStep r reply.status x = { x with staged := [] } := by rw [hst, hstep]
  have hstaged : (requestNoted r { reply with jseq := j } x).staged = [] := congrArg (·.staged) hstatus
  exact ends_journalAck hl hends hc hj hp hr hwait hdest hst hx hop hv (by decide) (by decide) (only_mono ho (by decide))
    fun y => ⟨congrArg (· ++ [Output.reply { reply with jseq := j }]) hout, hu y, _,
      sessionOf_requestAccepted hsession (sessionStep_id r _) _ y, hstaged⟩

theorem ends_journalAck_cancel {c : Nat} (hop : r.op = 0x22) (hcancel : fieldU r.payload 0 8 = c) :
    Ends (.journalAck l f) s [.ses, .pair] fun u =>
      u.out = [.reply { reply with jseq := j }] ∧ u.ses.idle = s.ses.idle.filter (·.jseq != c) := by
  refine ends_journalAck hl hends hc hj hp hr hwait hdest hst hx (by omega)
    ((outerEffect_cancel hop _ _ _ _ _).trans (if_pos (by decide))) (by decide) (by decide) (fun p hq => ?_)
    fun y => ⟨rfl, by rw [← hcancel]; rfl⟩
  cases p with
  | ses => simp at hq
  | _ => rfl

theorem ends_journalAck_close (hop : r.op = 0x31) (hhold : s.recd.holdSes ≠ x.id) : Ends (.journalAck l f) s [.ses, .pair] fun u =>
      u.out = [.reply { reply with jseq := j }] ∧ u.ses.open_ = s.ses.open_.filter (·.id != x.id) := by
  have hdrop : dropSession x.id (acked l f j s) =
      { acked l f j s with ses := { (acked l f j s).ses with open_ := s.ses.open_.filter fun y => y.id != x.id } } := dropSession_eq hhold
  have hv : outerEffect true r stAccepted j x (acked l f j s) = dropSession x.id (acked l f j s) := by
    rw [outerEffect_close hop]
    exact keep_of_store (by rw [hdrop])
  refine ends_journalAck hl hends hc hj hp hr hwait hdest hst hx (by omega) (hv.trans hdrop) (by decide) (by decide)
    (only_mono (only_ses _ _) (by decide)) fun y => ⟨rfl, ?_⟩
  refine (List.map_congr_left fun z hz => if_neg ?_).trans (List.map_id' _)
  simpa using (List.mem_filter.1 hz).2

end

/-- Settles O56: the acknowledgement releases the one piece of work that waits; what it does is read off its operation. -/
theorem acknowledgedWorkIsAccepted : Obligations.AcknowledgedWorkIsAccepted := by
  unfold Obligations.AcknowledgedWorkIsAccepted
  intro l f j r x reply s ip port own hl hends hc hj hp hr hwait hdest hst hx heard s0 sent
  refine ⟨fun e k v hop he hv => ⟨fun hacc => ?_, fun hacc hlo hhi hinv => ?_, fun hacc => ?_⟩, fun hop hb => ?_, fun hop hb => ?_,
    fun hop => ?_,
    fun c hop hcancel => ?_, fun hop hhold => ?_⟩
  · exact exec_journalAck_command hl hends hc hj hp hr hwait hdest hst hx hop he hv hacc
  · exact exec_journalAck_value hl hends hc hj hp hr hwait hdest hst hx hop he hv hacc hlo hhi hinv
  · exact ends_journalAck_stages hl hends hc hj hp hr hwait hdest hst hx hop he hv hacc
  · exact ends_journalAck_unstages hl hends hc hj hp hr hwait hdest hst hx (by omega) (outerEffect_commit hop hb _ _ _ _)
      (only_ses _ _) rfl rfl (sessionStep_commit hop) fun y => rfl
  · exact ends_journalAck_unstages hl hends hc hj hp hr hwait hdest hst hx (by omega) (outerEffect_commit hop hb _ _ _ _)
      (only_ses _ _) rfl rfl (sessionStep_commit hop) fun y => rfl
  · obtain ⟨u, hexec, ho, hout, -, hy⟩ := ends_journalAck_unstages (P := fun _ => True) hl hends hc hj hp hr hwait hdest hst hx (by omega)
      (outerEffect_discard hop _ _ _ _ _) (only_refl _ _) rfl rfl (sessionStep_discard hop _) fun _ => trivial
    exact ⟨u, hexec, ho, hout, hy⟩
  · exact ends_journalAck_cancel hl hends hc hj hp hr hwait hdest hst hx hop hcancel
  · exact ends_journalAck_close hl hends hc hj hp hr hwait hdest hst hx hop hhold

end Sys2Proof.Proofs
end
section
/-! PROOFS. How each sequenced WRITE in its turn is answered. -/
namespace Sys2Proof.Proofs
open Sys2Proof Sys2Proof.Machine Sys2Proof.Laws

/-! ### The entry of the emergency open -/

theorem mem_of_findIn {index sub : Nat} {es : List Entry} {x : Entry × Nat} (h : findIn index sub es = some x) : x.1 ∈ es := by
  induction es with
  | nil => simp [findIn] at h
  | cons e es ih =>
    unfold findIn at h
    split at h
    · cases h
      exact List.mem_cons_self
    · exact List.mem_cons_of_mem e (ih h)

/-- PROT_EMERGENCY_OPEN is a command. -/
theorem access_of_isEmergency : ∀ e ∈ Ent.all, isEnt Ent.PROT_EMERGENCY_OPEN e = true → e.access = .wo := by decide +kernel

/-- A WRITE to another entry opens nothing on receipt. -/
theorem opensOnReceipt_other {r : Req} {e : Entry} {k : Nat} (he : reqEntry r = some (e, k)) (h : isEnt Ent.PROT_EMERGENCY_OPEN e = false) :
    opensOnReceipt r = false := by
  simp [opensOnReceipt, namesOpen, he, h]

theorem opensOnReceipt_of_access {r : Req} {e : Entry} {k : Nat} (he : reqEntry r = some (e, k)) (h : e.access ≠ .wo) :
    opensOnReceipt r = false :=
  opensOnReceipt_other he (Bool.eq_false_iff.2 fun hopen => h (access_of_isEmergency e (mem_of_findIn he) hopen))

/-! ### A WRITE in its turn -/

/-- The session as the work before its request will leave it. -/
def sessionBefore (x : Session) (s : State) : Session := projected { x with last := s.now } (arrived x s)

/-- The work before a request leaves its session who it is. -/
theorem projected_id (x : Session) (s : State) : (projected x s).id = x.id := by
  unfold projected
  generalize s.ses.awaiting.map (·.2) ++ s.ses.batch = ws
  suffices h : ∀ y : Session, y.id = x.id → (ws.foldl (fun y w => match w with
      | .request r reply => if r.h.ses == x.id then sessionStep r reply.status y else y
      | .own _ _ => y) y).id = x.id from h x rfl
  induction ws with
  | nil => exact fun y hy => hy
  | cons w ws ih =>
    intro y hy
    refine ih _ ?_
    cases w with
    | request r reply =>
      dsimp only
      split
      · exact (sessionStep_id _ _ _).trans hy
      · exact hy
    | own t p => exact hy

/-- The request joins the batch with a status. -/
def AnsweredWith (i : Instr) (r : Req) (s : State) (st : Nat) : Prop :=
  Ends i s [.ses] fun t => t.ses.batch = s.ses.batch ++ [.request r (mkReply r st 0 [])]

section
variable {i : Instr} {r : Req} {x : Session} {s : State} (hi : requestOf i = some r) (hop : r.op = 0x02) (hready : Ready r x s)
include hi hop hready

theorem answered_write (hopen : opensOnReceipt r = false) : AnsweredWith i r s (writeAnswer r (sessionBefore x s) (arrived x s)) := by
  have hcheck : checked r x s = mkReply r (writeAnswer r (sessionBefore x s) (arrived x s)) 0 [] := by
    simp only [checked, check, hop, sessionBefore]
  obtain ⟨t, hexec, honly, hbatch, -⟩ := sequencedRequestIsCheckedAndQueued i r x s hi (by omega) (by omega) (by rw [hop]; rfl) hready hopen
    (by simp [opensAtOnce, hop])
  exact ⟨t, hexec, honly, hcheck ▸ hbatch⟩

/-- A WRITE of an entry is answered as its verdict. -/
theorem answered_entry {e : Entry} {k : Nat} {st : Nat} (he : reqEntry r = some (e, k)) (hopen : opensOnReceipt r = false)
    (hst : writeVerdict (writerOf (sessionBefore x s)) (sessionBefore x s).staged e k r.payload (arrived x s) = st) : AnsweredWith i r s st := by
  have hanswer := answered_write hi hop hready hopen
  rw [writeAnswer, he] at hanswer
  exact hst ▸ hanswer

/-- A WRITE of an entry that is not there. -/
theorem answered_noEntry (he : reqEntry r = none) : AnsweredWith i r s stAccess := by
  have hanswer := answered_write hi hop hready (by simp [opensOnReceipt, namesOpen, he])
  rwa [writeAnswer, he] at hanswer

end

/-! ### The verdict, by class of access (Table 10-2) -/

section
variable {w : Writer} {staged : List (Nat × Val)} {e : Entry} {k : Nat} {bs : List Byte} {v : Val} {s : State}

theorem checked_wrongType (h : decodeVal e bs = none) (f : Val → Nat) : writeVerdict.checked e bs f = stType := by
  simp only [writeVerdict.checked, h]

theorem checked_outOfRange (h : decodeVal e bs = some v) (hr : valueOk e v = false) (f : Val → Nat) : writeVerdict.checked e bs f = stRange := by
  simp [writeVerdict.checked, h, hr]

theorem checked_good (h : decodeVal e bs = some v) (hr : valueOk e v = true) (f : Val → Nat) : writeVerdict.checked e bs f = f v := by
  simp [writeVerdict.checked, h, hr]

/-- A setting that a host may write in the sequence. -/
def isSetting (e : Entry) : Prop :=
  e.access = .rwi ∨ e.access = .rwc ∨ (e.access = .rw ∧ (isEnt Ent.DSP_P_REQ e || isEnt Ent.DSP_I_REQ e) = false)

/-- How a setting with a valid value is answered. -/
def settingVerdict (staged : List (Nat × Val)) (e : Entry) (k : Nat) (v : Val) (s : State) : Nat :=
  match e.access with
  | .rwi => if parked s then plainVerdict e k v s else stIdle
  | .rwc => stageVerdict e k v staged
  | _ => plainVerdict e k v s

/-- A setting is judged after its type and range. -/
theorem writeVerdict_setting (h : isSetting e) :
    writeVerdict w staged e k bs s = writeVerdict.checked e bs fun v => settingVerdict staged e k v s := by
  rcases h with h | h | ⟨h, hd⟩
  · simp only [writeVerdict, settingVerdict, h]
  · simp only [writeVerdict, settingVerdict, h]
  · simp only [writeVerdict, settingVerdict, h, hd, Bool.false_eq_true, if_false]

theorem isSetting_access (h : isSetting e) : e.access ≠ .wo := by
  rcases h with h | h | ⟨h, -⟩ <;> rw [h] <;> decide

theorem isSetting_of_dispatch {r : Req} (he : reqEntry r = some (e, k))
    (h : e.access = .rwi ∨ e.access = .rwc ∨ (e.access = .rw ∧ dispatchEntry r = none)) : isSetting e := by
  refine h.imp id (Or.imp id fun ⟨hrw, hd⟩ => ⟨hrw, ?_⟩)
  rw [dispatchEntry, he] at hd
  simpa using hd

/-- A command with a valid value is answered by its owner. -/
theorem writeVerdict_command (hacc : e.access = .wo) (hdelta : isEnt Ent.FW_DELTA e = false) (hv : decodeVal e bs = some v)
    (hr : valueOk e v = true) : writeVerdict w staged e k bs s = commandVerdict w e k v s := by
  have hchecked := checked_good hv hr fun v => commandVerdict w e k v s
  simp only [writeVerdict, hacc, hdelta, Bool.false_and, Bool.false_eq_true, if_false, hchecked]

end

/-! ### A setting -/

section
variable {i : Instr} {r : Req} {x : Session} {s : State} {e : Entry} {k : Nat} (hi : requestOf i = some r) (hop : r.op = 0x02)
  (hready : Ready r x s) (he : reqEntry r = some (e, k))
include hi hop hready he

theorem answered_unwritable (h : e.access = .ro) : AnsweredWith i r s stAccess :=
  answered_entry hi hop hready he (opensOnReceipt_of_access he (by rw [h]; decide)) (by simp only [writeVerdict, h])

theorem answered_sealed (h : e.access = .saf) : AnsweredWith i r s stSafety :=
  answered_entry hi hop hready he (opensOnReceipt_of_access he (by rw [h]; decide)) (by simp only [writeVerdict, h])

theorem answered_setting {st : Nat} (h : isSetting e)
    (hst : writeVerdict.checked e r.payload (fun v => settingVerdict (sessionBefore x s).staged e k v (arrived x s)) = st) :
    AnsweredWith i r s st :=
  answered_entry hi hop hready he (opensOnReceipt_of_access he (isSetting_access h)) ((writeVerdict_setting h).trans hst)

/-- A setting of class RW, or of class RWI while PARKED, with a valid value. -/
theorem answered_plain {v : Val} (hset : isSetting e) (hv : decodeVal e r.payload = some v) (hr : valueOk e v = true)
    (h : (e.access = .rwi ∧ parked (arrived x s) = true) ∨ e.access = .rw) :
    AnsweredWith i r s (plainVerdict e k v (arrived x s)) := by
  refine answered_setting hi hop hready he hset ((checked_good hv hr _).trans ?_)
  rcases h with ⟨hacc, hp⟩ | hacc
  · simp [settingVerdict, hacc, hp]
  · simp only [settingVerdict, hacc]

end

/-! ### Commands -/

/-- A command other than PROT_EMERGENCY_OPEN and FW_DELTA. -/
def isPlainCommand (e : Entry) : Bool := e.access == .wo && !isEnt Ent.FW_DELTA e && !isEnt Ent.PROT_EMERGENCY_OPEN e

section
variable {i : Instr} {r : Req} {x : Session} {s : State} {e : Entry} (hi : requestOf i = some r) (hop : r.op = 0x02) (hready : Ready r x s)
include hi hop hready

/-- A command with a valid value is answered as its owner judges it. -/
theorem answered_command {k : Nat} {v : Val} {st : Nat} (hcmd : isPlainCommand e = true) (he : reqEntry r = some (e, k))
    (hv : decodeVal e r.payload = some v) (hr : valueOk e v = true)
    (hst : commandVerdict (writerOf (sessionBefore x s)) e k v (arrived x s) = st) : AnsweredWith i r s st := by
  simp only [isPlainCommand, Bool.and_eq_true, beq_iff_eq, Bool.not_eq_true'] at hcmd
  obtain ⟨⟨hacc, hdelta⟩, hemergency⟩ := hcmd
  exact answered_entry hi hop hready he (opensOnReceipt_other he hemergency) ((writeVerdict_command hacc hdelta hv hr).trans hst)

/-- A command with a number, whichever element of its entry it names. -/
theorem answered_number {n st : Nat} (hcmd : isPlainCommand e = true)
    (hw : ∃ k, reqEntry r = some (e, k) ∧ decodeVal e r.payload = some (.num n) ∧ valueOk e (.num n) = true)
    (hst : ∀ k, commandVerdict (writerOf (sessionBefore x s)) e k (.num n) (arrived x s) = st) : AnsweredWith i r s st := by
  obtain ⟨k, he, hv, hr⟩ := hw
  exact answered_command hi hop hready hcmd he hv hr (hst k)

end

/-! ### The mode command (Table 7-2) -/

section
variable {n : Nat} {s : State}

theorem modeVerdict_inSequence (h : seqRuns s = true) :
    modeVerdict n s = if n = 0 ∧ s.prot.seq = .precharge ∧ s.prot.abortTo = none then stAccepted else stBusy := by
  simp [modeVerdict, h, and_assoc]

theorem modeVerdict_same (h : seqRuns s = false) (hn : s.sp.mode.code = n) (hs : s.sp.toStandby = false) : modeVerdict n s = stDone := by
  simp [modeVerdict, h, hn, hs]

theorem modeVerdict_parked_run (h : seqRuns s = false) (hm : s.sp.mode = .parked) (hn : 2 ≤ n) : modeVerdict n s = stRange := by
  have h0 : 0 ≠ n := by omega
  have h1 : n ≠ 1 := by omega
  simp [modeVerdict, h, hm, Mode.code, h0, h1]

theorem modeVerdict_parked_standby (h : seqRuns s = false) (hm : s.sp.mode = .parked) :
    modeVerdict 1 s = (prechargeRefusal (!s.sys.hibernating) s).getD stAccepted := by
  simp [modeVerdict, h, hm, Mode.code]

theorem modeVerdict_standby_parked (h : seqRuns s = false) (hm : s.sp.mode = .standby) : modeVerdict 0 s = stAccepted := by
  simp [modeVerdict, h, hm, Mode.code]

theorem modeVerdict_standby_run (h : seqRuns s = false) (hm : s.sp.mode = .standby) (ht : tierAtLeast .limited s = true) (hn : 2 ≤ n) :
    modeVerdict n s = if s.prot.tripped then stBusy else if anySelected s = false ∨ runRefused s = true then stIdle else stAccepted := by
  have h0 : n ≠ 0 := by omega
  have h1 : 1 ≠ n := by omega
  simp [modeVerdict, h, hm, Mode.code, h0, h1, ht]

theorem modeVerdict_running (h : seqRuns s = false) (hm : s.sp.mode.running = true) (hn : s.sp.mode.code ≠ n) : modeVerdict n s = stAccepted := by
  unfold modeVerdict
  rw [if_neg (by simp [h]), if_neg hn]
  cases hmode : s.sp.mode with
  | parked | standby => simp [hmode, Mode.running] at hm
  | busVoltage | stringCurrent | stringPower => rfl

end

/-! ### The emergency open (R202) -/

/-- A settled state keeps a MODE OFF request. -/
theorem settleSq_offReq {s : State} (h : s.link.offReq = true) (b : Nat) : (settleSq b s).link.offReq = true := by
  unfold settleSq
  extract_lets after changed drops marked dio ended
  have hmarked : marked.link = s.link := by
    refine forAll_eq (·.link) _ _ (fun _ _ => ?_) s
    rfl
  have hended : ended.link = marked.link := by
    unfold ended
    split
    · split <;> rfl
    · rfl
  split
  · rw [hended, hmarked, h]
  · rfl

/-- The end of a sequence closes no session. -/
theorem endSeq_open (result : SeqResult) (s : State) : (endSeq result s).ses.open_ = s.ses.open_ := by
  unfold endSeq
  split
  · extract_lets s1 s2
    have h2 : s2.ses.open_ = s1.ses.open_ := by
      unfold s2
      split <;> rfl
    refine (congrArg (·.open_) (only_clearF 0x5015 wide _ .ses (by decide))).trans ?_
    exact h2
  · rfl

/-- S has opened: the coils are off, the string is PARKED, and the stage is told. -/
theorem emergencyOpen_opens (s : State) :
    let u := emergencyOpen s
    coilsOff u = true ∧ u.sp.mode = .parked ∧ u.prot.seq = .emergency ∧ u.prot.result = .complete ∧ u.link.offReq = true ∧
      u.ses.open_ = s.ses.open_ := by
  refine ⟨coilsOff_stop (endSeq .failed s), rfl, rfl, rfl, rfl, ?_⟩
  have hstop : (stopTo .parked (dropCoils (endSeq .failed s))).ses = (dropCoils (endSeq .failed s)).ses := only_stopTo _ _ .ses (by decide)
  have hdrop : (dropCoils (endSeq .failed s)).ses = (endSeq .failed s).ses := only_dropCoils _ .ses (by decide)
  exact (congrArg (·.open_) (hstop.trans hdrop)).trans (endSeq_open _ _)

theorem withSq_emergencyOpen (s : State) :
    let u := withSq emergencyOpen s
    coilsOff u = true ∧ u.sp.mode = .parked ∧ u.prot.seq = .emergency ∧ u.prot.result = .complete ∧ u.link.offReq = true ∧
      u.ses.open_ = s.ses.open_ := by
  intro u
  obtain ⟨hcoils, hmode, hseq, hresult, hoff, hopen⟩ := emergencyOpen_opens s
  have hsettled := only_settleSq (sqMap s) (emergencyOpen s)
  have hprot : u.prot = (emergencyOpen s).prot := withSq_prot _ _
  have hsp : u.sp = (emergencyOpen s).sp := hsettled .sp (by decide)
  have hses : u.ses = (emergencyOpen s).ses := hsettled .ses (by decide)
  exact ⟨(coilsOff_of_prot hprot).trans hcoils, by rw [hsp, hmode], by rw [hprot, hseq], by rw [hprot, hresult], settleSq_offReq hoff _,
    by rw [hses, hopen]⟩

/-- A WRITE of 1 to PROT_EMERGENCY_OPEN in its turn opens at once and joins the batch. -/
theorem emergency_answered {i : Instr} {r : Req} {x : Session} {s : State} (hi : requestOf i = some r) (hop : r.op = 0x02)
    (hready : Ready r x s) (he : reqEntry r = some (Ent.PROT_EMERGENCY_OPEN, 0)) (hb : r.payload = [1#8]) :
    ∃ t, exec i s = .next t ∧ t.pending = s.pending ∧ t.store = s.store ∧ coilsOff t = true ∧ t.sp.mode = .parked ∧
      t.prot.seq = .emergency ∧ t.prot.result = .complete ∧ t.link.offReq = true ∧
      ∃ pre, t.ses.batch = pre ++ [.request r (mkReply r stAccepted 0 [])] := by
  obtain ⟨harr, hturn, hheld⟩ := hready
  have hserved := isServed_of_arrives harr
  obtain ⟨hlive, -, -, -, -, -, hj, -, -, -, -, hx, hseq, hroom⟩ := harr
  have hown : sessionOf x.id s = some x := id_of_sessionOf hx ▸ hx
  let u := withSq emergencyOpen (arrived x s)
  obtain ⟨hcoils, hmode, hemergency, hresult, hoff, hopen⟩ := withSq_emergencyOpen (arrived x s)
  have hsession : sessionOf x.id u = some { x with last := s.now } := (sessionOf_of_ses hopen _).trans (sessionOf_arrived hown)
  have hnames : opensOnReceipt r = true := by simp [opensOnReceipt, namesOpen, hop, hb, he, isEnt]
  have hreceipt : openOnReceipt r x (arrived x s) = u := if_pos (by simp [hnames, hturn, seqDiff_self, hheld])
  have hatOnce (y : Session) (st : Nat) : opensAtOnce r y st = false := by simp [opensAtOnce, hop]
  have hreply (y : Session) : (check r y u).1 = mkReply r stAccepted 0 [] := by
    have hverdict : writeAnswer r y u = stAccepted := by
      rw [writeAnswer, he]
      exact writeVerdict_command (v := .num 1) rfl rfl (by rw [hb]; rfl) rfl
    simp only [check, hop, hverdict]
  obtain ⟨honly, hbatch, z, hz, -, -, hzheld⟩ := execute_queues hsession (hatOnce _ _)
  rw [hreply] at hbatch
  have heff : receive r s.begin = execute r x.id u := by
    rw [receive_of_isServed (isServed_begin hserved) (by rw [hop]; rfl), if_neg (by simp [isOpen, hop]), inSession_sequenced hx hseq hj hroom,
      hreceipt, ordered_turn execute u hturn, runHeld_none _ _ hz (hzheld.trans hheld)]
  have hprot : (execute r x.id u).prot = u.prot := honly .prot (by decide)
  have hsp : (execute r x.id u).sp = u.sp := honly .sp (by decide)
  have hlink : (execute r x.id u).link = u.link := honly .link (by decide)
  have hexec : exec i s = .next { s.keepQueue (execute r x.id u) with store := s.store } := by
    rw [exec_request hi s, whenLiveK_next hlive, heff]
  refine ⟨_, hexec, rfl, rfl, (coilsOff_of_prot hprot).trans hcoils,
    (congrArg (·.mode) hsp).trans hmode, (congrArg (·.seq) hprot).trans hemergency, (congrArg (·.result) hprot).trans hresult,
    (congrArg (·.offReq) hlink).trans hoff, _, hbatch⟩

/-! ### How each command is judged -/

section
variable (w : Writer) (k : Nat) (s : State)

theorem commandVerdict_restReq (n : Nat) :
    commandVerdict w Ent.EST_REST_REQ k (.num n) s = if (n : Int) < cfg Ent.EST_REST_TIME s then stRange else stAccepted := rfl

theorem commandVerdict_tripReset : commandVerdict w Ent.PROT_TRIP_RESET k (.num 1) s =
    if s.prot.tripped = false then stDone else if tripPresent s then stBusy else stAccepted := by
  show (if !s.prot.tripped then stDone else if tripPresent s then stBusy else stAccepted) = _
  cases s.prot.tripped <;> rfl

theorem commandVerdict_apply (h : tierAtLeast .limited s = true) :
    commandVerdict w Ent.FW_APPLY k (.num 1) s = if s.fw.state = .deltaStored then stAccepted else stAccess := by
  show (if !tierAtLeast .limited s then stTier else if s.fw.state != .deltaStored then stAccess else stAccepted) = _
  cases s.fw.state <;> simp [h]

theorem commandVerdict_abort : commandVerdict w Ent.FW_ABORT k (.num 1) s =
    if s.fw.state = .applying ∨ s.fw.state = .verifying ∨ s.fw.state = .probation then stAccepted else stAccess := by
  show (if s.fw.state == .applying || s.fw.state == .verifying || s.fw.state == .probation then stAccepted else stAccess) = _
  simp [or_assoc]

theorem commandVerdict_recover :
    commandVerdict w Ent.CAN_RECOVER k (.num 1) s = if canState k s = 3 then stAccepted else stDone := by
  show (if canState k s == 3 then stAccepted else stDone) = _
  simp

theorem commandVerdict_canTx (bs : List Byte) : commandVerdict w Ent.CAN_TX k (.bytes bs) s =
    if txBufOk k (fieldU bs 0 1) s = false then stRange else if cfg Ent.CAN_ENABLE s k = 2 then stAccess
      else if txBusy k (fieldU bs 0 1) s then stDeferred else stAccepted := by
  show (if !txBufOk k (fieldU bs 0 1) s then stRange else if cfg Ent.CAN_ENABLE s k == 2 then stAccess
      else if txBusy k (fieldU bs 0 1) s then stDeferred else stAccepted) = _
  simp

theorem commandVerdict_hold (n : Nat) : commandVerdict w Ent.REC_HOLD k (.num n) s = (holdRefusal w.ses n s).getD stAccepted := rfl

end

theorem stageVerdict_eq (e : Entry) (k : Nat) (v : Val) (staged : List (Nat × Val)) : stageVerdict e k v staged =
    if (storeIns (entryAddr e k) v staged).length ≤ 512 ∧ setBytes (storeIns (entryAddr e k) v staged) ≤ 65536 then stAccepted
    else stRange := by
  simp only [stageVerdict, Bool.and_eq_true, decide_eq_true_eq]

/-- Settles O55: by the class of access, and for a command by its owner's verdict. -/
theorem commandsAreJudged : Obligations.CommandsAreJudged := by
  unfold Obligations.CommandsAreJudged
  intro i r x s hi hop hready a answered
  have hlimited : tierAtLeast .limited a = true := by
    obtain ⟨⟨-, -, -, -, -, -, -, -, -, -, ht, -⟩, -⟩ := hready
    exact ht
  refine ⟨fun he => answered_noEntry hi hop hready he, fun e k he => ?settings, fun n => ?numbers, fun bs he hv hr => ?packKey,
    fun bs k he hv hr => ?canTx, fun he hb => emergency_answered hi hop hready he hb⟩
  case settings =>
    refine ⟨fun h => answered_unwritable hi hop hready he h, fun h => answered_sealed hi hop hready he h, fun h hv => ?_, fun v h hv hr => ?_,
      fun v hv hr => ⟨fun hacc hp => ?_, fun h => ?_, fun hacc => ?_⟩⟩
    · exact answered_setting hi hop hready he (isSetting_of_dispatch he h) (checked_wrongType hv _)
    · exact answered_setting hi hop hready he (isSetting_of_dispatch he h) (checked_outOfRange hv hr _)
    · exact answered_setting hi hop hready he (.inl hacc) ((checked_good hv hr _).trans (by simp [settingVerdict, hacc, hp, a]))
    · have hplain := answered_plain hi hop hready he
        (isSetting_of_dispatch he (h.elim (fun h => .inl h.1) fun h => .inr (.inr h))) hv hr (h.imp id And.left)
      refine ⟨fun hb => ?_, fun hb hf => ?_, fun hb hf => ?_⟩
      · rwa [plainVerdict, if_pos hb] at hplain
      · rwa [plainVerdict, if_neg (by simp [hb, a]), if_pos hf] at hplain
      · rwa [plainVerdict, if_neg (by simp [hb, a]), if_neg (by simp [hf, a])] at hplain
    · exact answered_setting hi hop hready he (.inr (.inl hacc))
        ((checked_good hv hr _).trans (by simp only [settingVerdict, hacc, stageVerdict_eq]; rfl))
  case numbers =>
    intro writes
    have number {e : Entry} {st : Nat} (hcmd : isPlainCommand e = true) (hw : writes e)
        (hst : ∀ k, commandVerdict (writerOf (sessionBefore x s)) e k (.num n) a = st) : answered st :=
      answered_number hi hop hready hcmd hw hst
    have numberIs {e : Entry} {st m : Nat} (hcmd : isPlainCommand e = true) (hw : writes e) (hn : n = m)
        (hst : ∀ k, commandVerdict (writerOf (sessionBefore x s)) e k (.num m) a = st) : answered st := by
      subst hn
      exact number hcmd hw hst
    refine ⟨?enumerate, ?keyNode, ?restReq, ?idAck, ?idAckAll, ?phaseRestore, ?restGrant, ?dqRetry, ?tripReset, ?mode, ?reset, ?selftest,
      ?handover, ?apply, ?abort, ?activate, ?hold, ?recover, ?sleep⟩
    case enumerate | idAck | idAckAll | reset | handover => exact fun hw hn => numberIs rfl hw hn fun _ => rfl
    case keyNode | phaseRestore | restGrant | dqRetry | sleep => exact fun hw => number rfl hw fun _ => rfl
    case restReq => exact fun hw => number rfl hw fun k => commandVerdict_restReq _ k a n
    case tripReset => exact fun hw hn => numberIs rfl hw hn fun k => commandVerdict_tripReset _ k a
    case mode =>
      intro hw
      have judged {st : Nat} (hst : modeVerdict n a = st) : answered st := number rfl hw fun _ => hst
      exact ⟨fun hq => judged (modeVerdict_inSequence hq), fun hq => ⟨fun hm hs => judged (modeVerdict_same hq hm hs),
        fun hm hn => judged (modeVerdict_parked_run hq hm hn), fun hm hn => judged (hn ▸ modeVerdict_parked_standby hq hm),
        fun hm hn => judged (hn ▸ modeVerdict_standby_parked hq hm), fun hm hn => judged (modeVerdict_standby_run hq hm hlimited hn),
        fun hm hn => judged (modeVerdict_running hq hm hn)⟩⟩
    case selftest => exact fun hw => ⟨fun hn => numberIs rfl hw hn fun _ => rfl, fun hn => numberIs rfl hw hn fun _ => rfl,
        fun hn => numberIs rfl hw hn fun _ => rfl⟩
    case activate => exact fun hw => ⟨fun hn => numberIs rfl hw hn fun _ => rfl, fun hn => numberIs rfl hw hn fun _ => rfl⟩
    case apply => exact fun hw hn => numberIs rfl hw hn fun k => commandVerdict_apply _ k a hlimited
    case abort => exact fun hw hn => numberIs rfl hw hn fun k => commandVerdict_abort _ k a
    case hold =>
      have hwriter : (writerOf (sessionBefore x s)).ses = x.id := projected_id _ _
      exact fun hw => number rfl hw fun k => (commandVerdict_hold _ k a n).trans (by rw [hwriter])
    case recover => exact fun k he hv => answered_command hi hop hready rfl he hv rfl (commandVerdict_recover _ k a)
  case packKey => exact answered_command hi hop hready rfl he hv hr rfl
  case canTx => exact answered_command hi hop hready rfl he hv hr (commandVerdict_canTx _ _ _ _)

end Sys2Proof.Proofs
end

section
/-! PROOFS. The plant network: its ports, what sending a frame leaves, and what a frame received leaves. -/
namespace Sys2Proof.Proofs
open Sys2Proof Sys2Proof.Machine Sys2Proof.Laws

theorem only_net (x : NetRegs) (s : State) : Only [.net] s { s with net := x } := fun p hp => by
  cases p with
  | net => exact absurd (by simp) hp
  | _ => rfl

theorem only_modPort (p : Nat) (f : EthPort → EthPort) (s : State) : Only [.net] s (modPort p f s) := only_net _ s

/-! ### Ports -/

theorem portNo_lt (port : Port) : portNo port < 4 := by cases port <;> decide

@[simp] theorem portOf_portNo (port : Port) : portOf (portNo port) = port := by cases port <;> rfl

theorem port_modPort_same {p : Nat} (hp : p < 4) (f : EthPort → EthPort) (s : State) :
    getAt (modPort p f s).net.ports p = f (getAt s.net.ports p) := getAt_modAt_same _ f hp

theorem port_modPort_other {p q : Nat} (h : q ≠ p) (f : EthPort → EthPort) (s : State) :
    getAt (modPort p f s).net.ports q = getAt s.net.ports q := getAt_setAt_other _ _ h

theorem portUp_congr {p : Nat} {s t : State} (hlink : (getAt t.net.ports p).link = (getAt s.net.ports p).link) (hsup : t.sup = s.sup)
    (ha : t.net.fenceA = s.net.fenceA) (hb : t.net.fenceB = s.net.fenceB) : portUp p t = portUp p s := by
  simp only [portUp, lanStopped, isFenced, hlink, hsup, ha, hb]

theorem link_of_portUp {p : Nat} {s : State} (h : portUp p s = true) : (getAt s.net.ports p).link = true :=
  (Bool.and_eq_true_iff.1 h).1

theorem portIdle_congr {p : Nat} {s t : State} (hqueue : (getAt t.net.ports p).queue = (getAt s.net.ports p).queue)
    (hused : (getAt t.net.ports p).used = (getAt s.net.ports p).used) (bytes : List Byte) : portIdle p bytes t = portIdle p bytes s := by
  simp only [portIdle, hqueue, hused]

/-- What a change of one port leaves in it, it leaves in all. -/
theorem port_modPort_kept {β : Type} {g : EthPort → β} {f : EthPort → EthPort} (h : ∀ x, g (f x) = g x) (p q : Nat) (s : State) :
    g (getAt (modPort p f s).net.ports q) = g (getAt s.net.ports q) := by
  by_cases hq : q = p
  · subst hq
    rcases Nat.lt_or_ge q 4 with hlt | hge
    · rw [port_modPort_same hlt, h]
    · rw [getAt_beyond _ hge, getAt_beyond _ hge]
  · rw [port_modPort_other hq]

theorem portUp_modPort {f : EthPort → EthPort} (h : ∀ x, (f x).link = x.link) (p q : Nat) (s : State) :
    portUp q (modPort p f s) = portUp q s :=
  portUp_congr (port_modPort_kept (g := (·.link)) h p q s) rfl rfl rfl

theorem portIdle_modPort {f : EthPort → EthPort} (hqueue : ∀ x, (f x).queue = x.queue) (hused : ∀ x, (f x).used = x.used) (p q : Nat)
    (bytes : List Byte) (s : State) : portIdle q bytes (modPort p f s) = portIdle q bytes s :=
  portIdle_congr (port_modPort_kept (g := (·.queue)) hqueue p q s) (port_modPort_kept (g := (·.used)) hused p q s) bytes

/-! ### What sending leaves (R270, R271) -/

/-- A port without the registers that sending works on. -/
def unsentPort (x : EthPort) : EthPort := { x with tx := 0, drops := 0, queue := [], used := 0 }

/-- The network's registers without those that sending works on. -/
def unsent (n : NetRegs) : NetRegs := { n with ports := n.ports.map unsentPort, frameNo := 0, dropNoBuf := 0, dropAt := [] }

/-- Frames have been sent, stored or dropped: nothing else has changed, and no code has ended. -/
structure FramesSent (s t : State) : Prop where
  only : Only [.net, .flt] s t
  net : unsent t.net = unsent s.net
  active : ∀ c k, isActive c k s = true → isActive c k t = true

theorem map_modAt {α β : Type} {n : Nat} [Inhabited α] (v : Vector α n) (i : Nat) {f : α → α} {g : α → β}
    (h : ∀ x, g (f x) = g x) :
    (modAt v i f).map g = v.map g := by
  ext k hk
  simp only [modAt, setAt, getAt, Vector.getElem_map, Vector.getElem_setIfInBounds]
  split
  · subst_vars
    simp [h, hk]
  · rfl

theorem unsentPort_of_unsent {m n : NetRegs} (h : unsent m = unsent n) (p : Nat) :
    unsentPort (getAt m.ports p) = unsentPort (getAt n.ports p) := by
  have hports := congrArg NetRegs.ports h
  have hmap (v : Vector EthPort 4) : getAt (v.map unsentPort) p = unsentPort (getAt v p) := by
    rcases Nat.lt_or_ge p 4 with hp | hp
    · simp [getAt, hp]
    · rw [getAt_beyond _ hp, getAt_beyond _ hp]
      rfl
  rw [← hmap, ← hmap]
  exact congrArg (getAt · p) hports

theorem framesSent_refl (s : State) : FramesSent s s := ⟨only_refl _ s, rfl, fun _ _ h => h⟩

theorem framesSent_trans {s t u : State} (h : FramesSent s t) (k : FramesSent t u) : FramesSent s u :=
  ⟨only_trans h.only k.only, k.net.trans h.net, fun c i hi => k.active c i (h.active c i hi)⟩

theorem framesSent_forAll {α : Type} {f : α → State → State} (h : ∀ x s, FramesSent s (f x s)) (xs : List α) (s : State) :
    FramesSent s (forAll xs f s) :=
  List.foldlRecOn xs _ (motive := FramesSent s) (framesSent_refl s) fun t ht x _ => framesSent_trans ht (h x t)

theorem framesSent_of_net {x : NetRegs} {s : State} (h : unsent x = unsent s.net) : FramesSent s { s with net := x } :=
  ⟨only_mono (only_net x s) (by simp), h, fun _ _ h => h⟩

theorem framesSent_modPort (p : Nat) {f : EthPort → EthPort} (h : ∀ x, unsentPort (f x) = unsentPort x) (s : State) :
    FramesSent s (modPort p f s) :=
  framesSent_of_net (congrArg (fun v => { unsent s.net with ports := v }) (map_modAt s.net.ports p h))

theorem framesSent_raiseF (c k : Nat) (s : State) : FramesSent s (raiseF c k s) :=
  ⟨only_mono (only_raiseF c k s) (by simp), congrArg unsent (only_raiseF c k s .net (by decide)),
    fun _ _ h => isActive_raiseF_of_active c k h⟩

theorem framesSent_dropFrame (p : Nat) (s : State) : FramesSent s (dropFrame p s) := by
  unfold dropFrame
  extract_lets ts counted net noted
  have hnoted : FramesSent s noted :=
    framesSent_trans (framesSent_modPort p (f := fun x => { x with drops := wrapU 32 (x.drops + 1) }) (fun _ => rfl) s)
      (framesSent_of_net rfl)
  split
  · exact framesSent_trans hnoted (framesSent_raiseF _ _ _)
  · exact hnoted

theorem framesSent_leave (p : Nat) (bad : Bool) (bytes : List Byte) (s : State) : FramesSent s (leave p bad bytes s) := by
  have hport := framesSent_modPort p (f := fun x => { x with tx := wrapU 32 (x.tx + 1), used := x.used + wireCost bytes }) (fun _ => rfl) s
  exact framesSent_trans hport ⟨only_mono (only_emit _ _) (by simp), rfl, fun _ _ h => h⟩

theorem framesSent_sendPort (no prio : Nat) (bad : Bool) (bytes : List Byte) (p : Nat) (s : State) :
    FramesSent s (sendPort no prio bad bytes p s) := by
  unfold sendPort
  extract_lets q all fits own
  split
  case isTrue => exact framesSent_refl s
  split
  case isTrue => exact framesSent_leave p bad bytes s
  split
  case isTrue => exact framesSent_refl s
  split
  · exact framesSent_modPort p (f := fun x => { x with queue := x.queue ++ [q] }) (fun _ => rfl) s
  · exact framesSent_dropFrame p s

theorem framesSent_sendPorts (ports : List Nat) (prio : Nat) (bad : Bool) (bytes : List Byte) (s : State) :
    FramesSent s (sendPorts ports prio bad bytes s) :=
  framesSent_trans (t := { s with net := { s.net with frameNo := s.net.frameNo + 1 } }) (framesSent_of_net rfl)
    (framesSent_forAll (fun _ _ => framesSent_sendPort _ _ _ _ _ _) ports _)

theorem framesSent_sendSvc (dst : List Byte) (et : Nat) (payload : List Byte) (s : State) : FramesSent s (sendSvc dst et payload s) :=
  framesSent_trans (framesSent_sendPorts _ _ _ _ s) (framesSent_sendPorts _ _ _ _ _)

section
variable {s t : State} (h : FramesSent s t)
include h

theorem FramesSent.sup : t.sup = s.sup := h.only .sup (by decide)
theorem FramesSent.store : t.store = s.store := h.only .store (by decide)
theorem FramesSent.now : t.now = s.now := h.only .now (by decide)

/-- A register that sending does not work on stays. -/
theorem FramesSent.reg {β : Type} {g : NetRegs → β} (hg : ∀ n, g (unsent n) = g n) : g t.net = g s.net := by
  rw [← hg, h.net, hg]

theorem FramesSent.port {β : Type} {g : EthPort → β} (hg : ∀ x, g (unsentPort x) = g x) (p : Nat) :
    g (getAt t.net.ports p) = g (getAt s.net.ports p) := by
  rw [← hg, unsentPort_of_unsent h.net p, hg]

theorem FramesSent.portUp (p : Nat) : portUp p t = portUp p s :=
  portUp_congr (h.port (g := (·.link)) (fun _ => rfl) p) h.sup (h.reg (g := (·.fenceA)) fun _ => rfl)
    (h.reg (g := (·.fenceB)) fun _ => rfl)

end

/-! ### A frame that leaves at once -/

theorem endFcs_good (bytes : List Byte) : endFcs false bytes = fcsOf bytes := by simp [endFcs]

theorem only_leave (p : Nat) (bad : Bool) (bytes : List Byte) (s : State) : Only [.net] s (leave p bad bytes s) :=
  only_trans (only_modPort p _ s) (only_mono (only_emit _ _) (by simp))

/-- A frame on a port that is up and idle leaves at once. -/
theorem sendPorts_idle {p : Nat} {bytes : List Byte} {s : State} (hup : portUp p s = true) (hidle : portIdle p bytes s = true)
    (prio : Nat) (bad : Bool) :
    sendPorts [p] prio bad bytes s = leave p bad bytes { s with net := { s.net with frameNo := s.net.frameNo + 1 } } := by
  have hup' : portUp p { s with net := { s.net with frameNo := s.net.frameNo + 1 } } = true := hup
  have hidle' : portIdle p bytes { s with net := { s.net with frameNo := s.net.frameNo + 1 } } = true := hidle
  simp [sendPorts, forAll, sendPort, hup', hidle']

theorem sendPorts_idle_out {p : Nat} {bytes : List Byte} {s : State} (hup : portUp p s = true) (hidle : portIdle p bytes s = true)
    (prio : Nat) : (sendPorts [p] prio false bytes s).out = s.out ++ [.eth (portOf p) (bytes ++ fcsOf bytes)] := by
  rw [sendPorts_idle hup hidle, ← endFcs_good]
  rfl

/-! ### A frame received and counted (R269, R270, R273) -/

theorem lanHeard_eq (l : Lan) (s : State) :
    ∃ a b ha hb, lanHeard l s = { s with net := { s.net with rxA := a, rxB := b, heardA := ha, heardB := hb } } := by
  cases l <;> exact ⟨_, _, _, _, rfl⟩

theorem learn_eq (p : Nat) (mac : List Byte) (s : State) :
    ∃ a b, learn p mac s = { s with net := { s.net with fdbA := a, fdbB := b } } := by
  unfold learn
  extract_lets l rest
  split
  · exact ⟨_, _, rfl⟩
  · cases l <;> exact ⟨_, _, rfl⟩

/-- A frame has been counted at port p and its source noted. -/
structure FrameCounted (p : Nat) (s t : State) : Prop where
  only : Only [.net] s t
  out : t.out = s.out
  ports : t.net.ports = modAt s.net.ports p fun x => { x with rx := wrapU 32 (x.rx + 1) }
  fenceA : t.net.fenceA = s.net.fenceA
  fenceB : t.net.fenceB = s.net.fenceB

theorem frameCounted_learn (p : Nat) (mac : List Byte) (l : Lan) (s : State) :
    FrameCounted p s (learn p mac (lanHeard l (modPort p (fun x => { x with rx := wrapU 32 (x.rx + 1) }) s))) := by
  obtain ⟨a, b, ha, hb, hheard⟩ := lanHeard_eq l (modPort p (fun x => { x with rx := wrapU 32 (x.rx + 1) }) s)
  obtain ⟨fa, fb, hlearn⟩ := learn_eq p mac (lanHeard l (modPort p (fun x => { x with rx := wrapU 32 (x.rx + 1) }) s))
  rw [hlearn, hheard]
  exact ⟨only_net _ s, rfl, rfl, rfl, rfl⟩

section
variable {p : Nat} {s t : State} (h : FrameCounted p s t)
include h

theorem FrameCounted.port_same (hp : p < 4) :
    getAt t.net.ports p = { getAt s.net.ports p with rx := wrapU 32 ((getAt s.net.ports p).rx + 1) } := by
  rw [h.ports, getAt_modAt_same _ _ hp]

/-- All but the count of the port's frames stays. -/
theorem FrameCounted.port {β : Type} {g : EthPort → β} (hg : ∀ (x : EthPort) n, g { x with rx := n } = g x) (q : Nat) :
    g (getAt t.net.ports q) = g (getAt s.net.ports q) := by
  rw [h.ports]
  exact port_modPort_kept (g := g) (fun x => hg x _) p q s

theorem FrameCounted.portUp (q : Nat) : portUp q t = portUp q s :=
  portUp_congr (h.port (g := (·.link)) (fun _ _ => rfl) q) (h.only .sup (by decide)) h.fenceA h.fenceB

theorem FrameCounted.portIdle (q : Nat) (bytes : List Byte) : portIdle q bytes t = portIdle q bytes s :=
  portIdle_congr (h.port (g := (·.queue)) (fun _ _ => rfl) q) (h.port (g := (·.used)) (fun _ _ => rfl) q) bytes

end

end Sys2Proof.Proofs
end

section
/-! PROOFS. Frames of the plant network that are counted, forwarded and learned. -/
namespace Sys2Proof.Proofs
open Sys2Proof Sys2Proof.Machine Sys2Proof.Laws

/-! ### The filtering database (R269) -/

theorem fdb_setFdb (l : Lan) (x : List FdbEntry) (s : State) : fdb l (setFdb l x s) = x := by cases l <;> rfl

theorem fdb_setFdb_other {l k : Lan} (h : k ≠ l) (x : List FdbEntry) (s : State) : fdb k (setFdb l x s) = fdb k s := by
  cases l with
  | a => cases k with
    | a => exact absurd rfl h
    | b => rfl
  | b => cases k with
    | a => rfl
    | b => exact absurd rfl h

theorem fdb_lanHeard (l k : Lan) (s : State) : fdb l (lanHeard k s) = fdb l s := by cases l <;> cases k <;> rfl

theorem learnedOn_of_fdb {l : Lan} {s t : State} (h : fdb l t = fdb l s) (mac : List Byte) : learnedOn l mac t = learnedOn l mac s := by
  simp only [learnedOn, h]

/-- A station's address is learned on the port it was seen on. -/
theorem learnedOn_learn_same {p : Nat} {mac : List Byte} {s : State} (hgroup : isGroup mac = false)
    (hroom : ((fdb (lanOf p) s).filter (·.mac != mac)).length < 1024) : learnedOn (lanOf p) mac (learn p mac s) = some p := by
  have hlearn : ¬ (isGroup mac || decide (1024 ≤ ((fdb (lanOf p) s).filter (·.mac != mac)).length)) = true := by
    simp only [hgroup, Bool.false_or, decide_eq_true_eq]
    omega
  rw [learn, if_neg hlearn, learnedOn, fdb_setFdb]
  simp

/-- What is known of other stations stays. -/
theorem learnedOn_learn_other {p : Nat} {mac dst : List Byte} (h : mac ≠ dst) (l : Lan) (s : State) :
    learnedOn l dst (learn p mac s) = learnedOn l dst s := by
  unfold learn
  extract_lets k rest
  split
  · rfl
  by_cases hk : l = k
  · subst hk
    have hother (e : FdbEntry) (he : (e.mac == dst) = true) : (e.mac != mac) = true := by
      rw [eq_of_beq he]
      simpa using h.symm
    have hfind : rest.find? (·.mac == dst) = (fdb k s).find? (·.mac == dst) := by
      rw [List.find?_filter]
      refine congrArg (List.find? · _) (funext fun e => ?_)
      cases he : e.mac == dst
      · simp
      · simp [hother e he]
    rw [learnedOn, fdb_setFdb, List.find?_cons_of_neg (by simpa using h), hfind]
    rfl
  · exact learnedOn_of_fdb (fdb_setFdb_other hk _ s) dst

/-! ### Where a frame goes (R269, R277) -/

theorem body_append_fcs {f : List Byte} (h : fcsOk f = true) : bodyOf f ++ fcsOf (bodyOf f) = f := by
  rw [← eq_of_beq h]
  exact List.take_append_drop _ f

/-- Without a service address the endpoint has its own address and the groups. -/
theorem forEndpoint_of_noSvc {s : State} (h : cfg Ent.NET_SVC_IP s = 0) (dst : List Byte) :
    forEndpoint dst s = (dst == Config.mac || isGroup dst) := by
  simp [forEndpoint, ownsSvc, h]

/-- A frame for another station goes to the other port, but for one that sits where the frame came from. -/
theorem forwardPorts_onward {p : Nat} {dst : List Byte} {s : State}
    (hon : bitOf (cfgN Ent.NET_FWD_EN s) (match lanOf p with | .a => 0 | .b => 1) = true) (hlocal : isLinkLocal dst = false)
    (hown : (dst == Config.mac) = false) (hsvc : cfg Ent.NET_SVC_IP s = 0) (hsame : learnedOn (lanOf p) dst s ≠ some p) :
    forwardPorts p dst s = [otherPort p] := by
  unfold forwardPorts
  extract_lets l on
  have hforwards : on = true := hon
  have howned : ownsSvc s = false := by simp [ownsSvc, hsvc]
  have hmoves : (learnedOn l dst s == some p) = false := by simpa using hsame
  simp [hforwards, hlocal, hown, howned, hmoves]

/-! ### A frame that arrives (R269, R270) -/

/-- The state once a good frame has been counted at its port. -/
def frameHeard (p : Nat) (s : State) : State := lanHeard (lanOf p) (modPort p (fun x => { x with rx := wrapU 32 (x.rx + 1) }) s)

theorem fdb_frameHeard (l : Lan) (p : Nat) (s : State) : fdb l (frameHeard p s) = fdb l s := by
  rw [frameHeard, fdb_lanHeard]
  cases l <;> rfl

/-- The state once its source has been learned too. -/
def frameTaken (p : Nat) (f : List Byte) (s : State) : State := learn p (srcOf (bodyOf f)) (frameHeard p s)

section
variable {p : Nat} {f : List Byte} {s : State} (hup : portUp p s = true)
include hup

theorem ethReceive_badLength (h : f.length < 64 ∨ 1528 < f.length) :
    ethReceive p f s = modPort p (fun x => { x with drops := wrapU 32 (x.drops + 1) })
      (modPort p (fun x => { x with rx := wrapU 32 (x.rx + 1) }) s) := by
  have hbad : (decide (f.length < 64) || decide (1528 < f.length)) = true := by simpa using h
  simp only [ethReceive, hup, Bool.not_true, Bool.false_eq_true, if_false, hbad, if_true]

theorem ethReceive_badFcs (hmin : 64 ≤ f.length) (hmax : f.length ≤ 1528) (h : fcsOk f = false) :
    FramesSent (modPort p (fun x => { x with fcs := wrapU 32 (x.fcs + 1) }) (modPort p (fun x => { x with rx := wrapU 32 (x.rx + 1) }) s))
      (ethReceive p f s) := by
  have hgood : ¬ (decide (f.length < 64) || decide (1528 < f.length)) = true := by simp; omega
  simp only [ethReceive, hup, Bool.not_true, Bool.false_eq_true, if_false, hgood, h, Bool.not_false, if_true]
  exact framesSent_sendPorts _ _ _ _ _

/-- A good frame that is not for the endpoint is only forwarded. -/
theorem ethReceive_onward (hmin : 64 ≤ f.length) (hmax : f.length ≤ 1528) (h : fcsOk f = true) (hsvc : cfg Ent.NET_SVC_IP s = 0)
    (hpause : etOf (bodyOf f) ≠ 0x8808) (hptp : ownPtp (bodyOf f) = false) (hend : forEndpoint (dstOf (bodyOf f)) s = false) :
    ethReceive p f s = sendPorts (forwardPorts p (dstOf (bodyOf f)) (frameTaken p f s)) (queueOf false (bodyOf f)) false (bodyOf f)
      (frameTaken p f s) := by
  have hgood : ¬ (decide (f.length < 64) || decide (1528 < f.length)) = true := by simp; omega
  have hcounted : FrameCounted p s (frameTaken p f s) := frameCounted_learn p _ _ s
  have hsvc' : cfg Ent.NET_SVC_IP (frameTaken p f s) = 0 := (cfg_of_store (hcounted.only .store (by decide)) _ _).trans hsvc
  have hend' (u : State) (hu : FramesSent (frameTaken p f s) u) : forEndpoint (dstOf (bodyOf f)) u = false := by
    rw [forEndpoint_of_noSvc ((cfg_of_store hu.store _ _).trans hsvc'), ← forEndpoint_of_noSvc hsvc, hend]
  unfold frameTaken frameHeard at *
  simp only [ethReceive, hup, Bool.not_true, Bool.false_eq_true, if_false, hgood, h, hsvc', bne_self_eq_false, Bool.false_and, hpause,
    hptp, Bool.or_false, beq_iff_eq, hend' _ (framesSent_sendPorts _ _ _ _ _)]

end

/-! ### The statement -/

theorem ends_badLength {port : Port} {f : List Byte} {s : State} (hl : live s = true) (hup : portUp (portNo port) s = true)
    (h : f.length < 64 ∨ 1528 < f.length) :
    Ends (.ethFrameReceive port f) s [.net] fun u =>
      (getAt u.net.ports (portNo port)).rx = wrapU 32 ((getAt s.net.ports (portNo port)).rx + 1) ∧
      (getAt u.net.ports (portNo port)).drops = wrapU 32 ((getAt s.net.ports (portNo port)).drops + 1) ∧ u.out = [] := by
  refine ends_of_effect rfl hl (ethReceive_badLength (s := s.begin) hup h) (only_trans (only_modPort _ _ _) (only_modPort _ _ _)) ?_
  dsimp only [State.keepQueue]
  rw [port_modPort_same (portNo_lt port), port_modPort_same (portNo_lt port)]
  exact ⟨rfl, rfl, rfl⟩

theorem ends_badFcs {port : Port} {f : List Byte} {s : State} (hl : live s = true) (hup : portUp (portNo port) s = true)
    (hmin : 64 ≤ f.length) (hmax : f.length ≤ 1528) (h : fcsOk f = false) :
    Ends (.ethFrameReceive port f) s [.net, .flt] fun u =>
      (getAt u.net.ports (portNo port)).rx = wrapU 32 ((getAt s.net.ports (portNo port)).rx + 1) ∧
      (getAt u.net.ports (portNo port)).fcs = wrapU 32 ((getAt s.net.ports (portNo port)).fcs + 1) ∧
      u.net.fdbA = s.net.fdbA ∧ u.net.fdbB = s.net.fdbB := by
  have hsent := ethReceive_badFcs (s := s.begin) hup hmin hmax h
  have hcounted := only_trans (only_modPort (portNo port) (fun x => { x with rx := wrapU 32 (x.rx + 1) }) s.begin)
    (only_modPort (portNo port) (fun x => { x with fcs := wrapU 32 (x.fcs + 1) }) _)
  refine ends_whenLiveK rfl hl (only_trans (only_mono hcounted (by simp)) hsent.only) ⟨?_, ?_, ?_, ?_⟩
  · refine (hsent.port (g := (·.rx)) (fun _ => rfl) _).trans ?_
    rw [port_modPort_same (portNo_lt port), port_modPort_same (portNo_lt port)]
    rfl
  · refine (hsent.port (g := (·.fcs)) (fun _ => rfl) _).trans ?_
    rw [port_modPort_same (portNo_lt port), port_modPort_same (portNo_lt port)]
    rfl
  · exact hsent.reg (g := (·.fdbA)) fun _ => rfl
  · exact hsent.reg (g := (·.fdbB)) fun _ => rfl

/-- Settles O42: the frame is counted at its own port, which sending on the other one leaves, and it leaves there with the FCS it had. -/
theorem framesAreForwarded : Obligations.FramesAreForwarded := by
  intro port f s hl hup p body
  refine ⟨ends_badLength hl hup, ends_badFcs hl hup, fun hmin hmax hfcs hend hlocal hpause hptp hsvc hon hsrc hsame hother hidle => ?_⟩
  have hcounted : FrameCounted p s.begin (frameTaken p f s.begin) := frameCounted_learn p _ _ _
  have hstore := hcounted.only .store (by decide)
  have hown : (dstOf body == Config.mac) = false := by
    have hparts : (dstOf body == Config.mac || isGroup (dstOf body)) = false := forEndpoint_of_noSvc hsvc _ ▸ hend
    exact (Bool.or_eq_false_iff.1 hparts).1
  have hknown : learnedOn (lanOf p) (dstOf body) (frameTaken p f s.begin) = learnedOn (lanOf p) (dstOf body) s :=
    (learnedOn_learn_other hsrc _ (frameHeard p s.begin)).trans (learnedOn_of_fdb (fdb_frameHeard _ _ _) _)
  have hports : forwardPorts p (dstOf body) (frameTaken p f s.begin) = [otherPort p] :=
    forwardPorts_onward (by rw [cfgN_of_store hstore]; exact hon) hlocal hown ((cfg_of_store hstore _ _).trans hsvc) (hknown ▸ hsame)
  have heffect := ethReceive_onward (s := s.begin) hup hmin hmax hfcs hsvc hpause hptp hend
  rw [hports, sendPorts_idle ((hcounted.portUp _).trans hother) ((hcounted.portIdle _ _).trans hidle)] at heffect
  refine ends_of_effect rfl hl heffect (only_trans (only_trans hcounted.only (only_net _ _)) (only_leave _ _ _ _)) ⟨?_, ?_⟩
  · show (frameTaken p f s.begin).out ++ [.eth (portOf (otherPort p)) (body ++ endFcs false body)] = _
    rw [hcounted.out, endFcs_good, body_append_fcs hfcs]
    rfl
  · intro hgroup hroom
    exact learnedOn_learn_same (s := frameHeard p s.begin) hgroup (by rw [fdb_frameHeard]; exact hroom)

end Sys2Proof.Proofs
end

section
/-! PROOFS. The timed work of the endpoint of the plant network: links, ageing, supervision, silence, addresses and announcements. -/
namespace Sys2Proof.Proofs
open Sys2Proof Sys2Proof.Machine Sys2Proof.Laws

/-! ### Links (R268) -/

/-- A port whose link comes or goes. -/
def linkedPort (up : Bool) (x : EthPort) : EthPort :=
  if up then { x with link := true }
  else { x with link := false, queue := [], capable := false, okRun := 0, failRun := 0, pdOut := false }

/-- The change of a link raises codes, and that of a port that loses it is among them. -/
theorem linkChange_leaves (p : Nat) (up : Bool) (s : State) :
    Only [.flt] (modPort p (linkedPort up) s) (linkChange p up s) ∧
      (up = false → isActive (linkCode p) wide (linkChange p up s) = true) := by
  unfold linkChange
  extract_lets linked lost
  have hlost : Only [.flt] linked lost ∧ (up = false → isActive (linkCode p) wide lost = true) := by
    cases up with
    | true => exact ⟨only_refl _ _, nofun⟩
    | false => exact ⟨only_raiseF _ _ _, fun _ => isActive_raiseF _ _ _⟩
  split
  · exact ⟨only_trans hlost.1 (only_raiseF _ _ _), fun h => isActive_raiseF_of_active _ _ (hlost.2 h)⟩
  · exact hlost

theorem ends_ethLinkChange (port : Port) (up : Bool) {s : State} (hl : live s = true) :
    Ends (.ethLinkChange port up) s [.net, .ptp, .locked, .flt] fun u =>
      (getAt u.net.ports (portNo port)).link = up ∧
      (up = false → isActive (0x7001 + portNo port) wide u = true ∧ (getAt u.net.ports (portNo port)).capable = false ∧
        (getAt u.net.ports (portNo port)).queue = []) := by
  obtain ⟨honly, hcode⟩ := linkChange_leaves (portNo port) up s.begin
  obtain ⟨hclock, hactive⟩ := clockOnly_chooseRef (linkChange (portNo port) up s.begin)
  have hlinked : Only [.net] s.begin (modPort (portNo port) (linkedPort up) s.begin) := only_modPort _ _ _
  have hport : getAt (chooseRef (linkChange (portNo port) up s.begin)).net.ports (portNo port) =
      linkedPort up (getAt s.net.ports (portNo port)) := by
    rw [hclock .net (by decide), honly .net (by decide)]
    exact port_modPort_same (portNo_lt port) _ _
  generalize hu : chooseRef (linkChange (portNo port) up s.begin) = u at *
  refine ends_of_effect (f := fun s => chooseRef (linkChange (portNo port) up s)) rfl hl hu (only_trans (only_mono hlinked (by simp))
    (only_trans (only_mono honly (by simp)) (only_mono hclock (by simp)))) ⟨?_, fun hdown => ⟨?_, ?_, ?_⟩⟩
  · refine (congrArg EthPort.link hport).trans ?_
    cases up <;> rfl
  · have hp := portNo_lt port
    exact hactive (linkCode (portNo port)) wide (by unfold linkCode; omega) (by unfold linkCode; omega) (hcode hdown)
  · subst hdown
    exact congrArg EthPort.capable hport
  · subst hdown
    exact congrArg EthPort.queue hport

/-! ### Ageing (R269) -/

theorem only_setFdb (l : Lan) (x : List FdbEntry) (s : State) : Only [.net] s (setFdb l x s) := by
  cases l <;> exact only_net _ s

/-- The addresses of a LAN without one that has aged. -/
def agedOut (l : Lan) (mac : List Byte) (s : State) : State :=
  setFdb l ((fdb l s).filter fun e => e.mac != mac || !decide (e.at_ + cfgN Ent.NET_FDB_AGE s * 1000000000 ≤ s.now)) s

theorem ends_fdbAgeOut (l : Lan) (mac : List Byte) {s : State} (hl : live s = true) :
    let age := cfgN Ent.NET_FDB_AGE s * 1000000000
    Ends (.fdbAgeOut l mac) s [.net] fun u =>
      fdb l u = (fdb l s).filter (fun e => e.mac != mac || decide (s.now < e.at_ + age)) ∧
      ((∀ e ∈ fdb l s, e.mac = mac → e.at_ + age ≤ s.now) → learnedOn l mac u = none) := by
  intro age
  have honly : Only [.net] s.begin (agedOut l mac s.begin) := only_setFdb _ _ _
  have hkept : fdb l (agedOut l mac s.begin) = (fdb l s).filter fun e => e.mac != mac || decide (s.now < e.at_ + age) :=
    (fdb_setFdb _ _ _).trans (List.filter_congr fun e _ => by simp only [← decide_not, Nat.not_le]; rfl)
  generalize hu : agedOut l mac s.begin = u at *
  refine ends_of_effect (f := agedOut l mac) rfl hl hu honly ⟨hkept, fun hold => ?_⟩
  refine (learnedOn_of_fdb (s := u) rfl mac).trans ?_
  rw [learnedOn, hkept, Option.map_eq_none_iff, List.find?_eq_none]
  intro e he
  obtain ⟨hmem, hstays⟩ := List.mem_filter.1 he
  by_contra hmac
  have haged := hold e hmem (eq_of_beq hmac)
  simp only [eq_of_beq hmac, bne_self_eq_false, Bool.false_or, decide_eq_true_eq] at hstays
  omega

/-! ### An event that changes the network's registers and raises or clears a code -/

section
variable {i : Instr} {f : State → State} {s : State} {c : Nat} {x : NetRegs} (he : exec i s = whenLiveK f s) (hl : live s = true)
include he hl

theorem ends_netCode {u : State} {b : Bool} (hf : f s.begin = u) (hu : Only [.flt] { s.begin with net := x } u)
    (hactive : isActive c wide u = b) : Ends i s [.net, .flt] fun u => isActive c wide u = b ∧ u.net = x :=
  ends_of_effect he hl hf (only_trans (only_mono (only_net x s.begin) (by simp)) (only_mono hu (by simp)))
    ⟨hactive, hu .net (by decide)⟩

theorem ends_netRaises (hf : f s.begin = raiseF c wide { s.begin with net := x }) :
    Ends i s [.net, .flt] fun u => isActive c wide u = true ∧ u.net = x :=
  ends_netCode he hl hf (only_raiseF _ _ _) (isActive_raiseF _ _ _)

theorem ends_netClears (hf : f s.begin = clearF c wide { s.begin with net := x }) :
    Ends i s [.net, .flt] fun u => isActive c wide u = false ∧ u.net = x :=
  ends_netCode he hl hf (only_clearF _ _ _) (isActive_clearF _ _ _)

end

/-! ### What the endpoint sends (R272) -/

/-- The network's registers without those that a frame of the endpoint works on. -/
def unnumbered (n : NetRegs) : NetRegs := { unsent n with prpSeq := 0, sentA := 0, sentB := 0 }

/-- A frame of the endpoint has left on both LANs under the next sequence number, and it is counted on each LAN with a port that is up. -/
structure EndpointSent (s t : State) : Prop where
  only : Only [.net, .flt] s t
  net : unnumbered t.net = unnumbered s.net
  seq : t.net.prpSeq = (s.net.prpSeq + 1) % 65536
  sentA : t.net.sentA = wrapU 32 (s.net.sentA + b2n (portUp 0 s || portUp 1 s))
  sentB : t.net.sentB = wrapU 32 (s.net.sentB + b2n (portUp 2 s || portUp 3 s))

theorem sendPrp_sends (dst : List Byte) (et pcp : Nat) (payload : List Byte) (s : State) :
    EndpointSent s (sendPrp dst et pcp payload s) := by
  unfold sendPrp
  extract_lets body head seq one sent t
  have hone (l : Lan) (s : State) : FramesSent s (one l s) := framesSent_sendPorts _ _ _ _ s
  have ht : FramesSent s t := framesSent_trans (hone .a s) (hone .b _)
  have hA : t.net.sentA = s.net.sentA := ht.reg (g := (·.sentA)) fun _ => rfl
  have hB : t.net.sentB = s.net.sentB := ht.reg (g := (·.sentB)) fun _ => rfl
  refine ⟨only_trans ht.only (only_mono (only_net _ t) (by simp)), ?_, rfl, ?_, ?_⟩
  · exact congrArg (fun n : NetRegs => { n with prpSeq := 0, sentA := 0, sentB := 0 }) ht.net
  · simp [hA, sent, portsOf]
  · simp [hB, sent, portsOf]

section
variable {s t : State} (h : EndpointSent s t)
include h

/-- A register that a frame of the endpoint does not work on stays. -/
theorem EndpointSent.reg {β : Type} {g : NetRegs → β} (hg : ∀ n, g (unnumbered n) = g n) : g t.net = g s.net := by
  rw [← hg, h.net, hg]

end

/-- An announcement goes out where the service address is owned, and one fewer is left. -/
theorem gratuitous_sends {s : State} (h : s.net.garpLeft ≠ 0) :
    FramesSent { s with net := { s.net with garpLeft := s.net.garpLeft - 1, garpAt := some s.now } } (gratuitous s) := by
  unfold gratuitous
  extract_lets ip net announced
  rw [if_neg (by simpa using h)]
  split
  · exact framesSent_sendSvc _ _ _ announced
  · exact framesSent_refl announced

/-! ### The probe of an address (R275) -/

/-- An address is under probe, and the time of the probe has passed. -/
def probeOver (s : State) : Bool := s.net.probe != 0 && !isFenced .n s && decide (s.net.probeAt + 4000000000 ≤ s.now)

theorem probeEnd_clean {s : State} (h : probeOver s = true) (hhit : s.net.probeHit = false) :
    probeEnd s = clearF 0x7009 wide { s with net := { s.net with ip := s.net.probe, probe := 0 } } := by
  unfold probeEnd
  extract_lets c
  rw [guardOn_true (by exact h), if_neg (by simp [hhit])]

theorem probeEnd_hit {s : State} (h : probeOver s = true) (hhit : s.net.probeHit = true) :
    probeEnd s = raiseF 0x7009 wide (startProbe s.net.probe s) := by
  unfold probeEnd
  extract_lets c
  rw [guardOn_true (by exact h), if_pos hhit]

theorem probeEnd_notOver {s : State} (h : probeOver s = false) : probeEnd s = s := by
  unfold probeEnd
  extract_lets c
  rw [guardOn_false (by exact h)]

section
variable {s : State} (hl : live s = true)
include hl

/-! ### Supervision (R272) -/

theorem ends_prpSupervisionSend (hn : isFenced .n s = false) (hdue : due s.net.supAt 2000000000 s = true) :
    Ends .prpSupervisionSend s [.net, .flt] fun u =>
      u.net.supSeq = (s.net.supSeq + 1) % 65536 ∧ u.net.supAt = some s.now ∧ u.net.prpSeq = (s.net.prpSeq + 1) % 65536 ∧
      u.net.sentA = wrapU 32 (s.net.sentA + b2n (portUp 0 s || portUp 1 s)) ∧
      u.net.sentB = wrapU 32 (s.net.sentB + b2n (portUp 2 s || portUp 3 s)) := by
  have hguard : (!isFenced .n s && due s.net.supAt 2000000000 s) = true := by simp [hn, hdue]
  have hsent : EndpointSent { s.begin with net := { s.net with supSeq := (s.net.supSeq + 1) % 65536, supAt := some s.now } }
    (supervision s.begin) := sendPrp_sends _ _ _ _ _
  exact ends_of_effect rfl hl (guardOn_true (s := s.begin) hguard supervision)
    (only_trans (only_mono (only_net _ _) (by simp)) hsent.only)
    ⟨hsent.reg (g := (·.supSeq)) fun _ => rfl, hsent.reg (g := (·.supAt)) fun _ => rfl, hsent.seq, hsent.sentA, hsent.sentB⟩

theorem sends_prpSupervisionSend (h : isFenced .n s = true ∨ due s.net.supAt 2000000000 s = false) : Sends .prpSupervisionSend s [] := by
  have hguard : (!isFenced .n s && due s.net.supAt 2000000000 s) = false := by
    rcases h with h | h <;> simp [h]
  exact sends_whenLiveK rfl hl (guardOn_false (s := s.begin) hguard supervision)

/-! ### Silence (R273) -/

theorem ends_lanSilent (l : Lan) (h : lanSilent l s = true) : Ends (.lanSilent l) s [.net, .flt] fun u =>
    isActive (match (generalizing := false) l with | .a => 0x7005 | .b => 0x7006) wide u = true ∧
    u.net = match (generalizing := false) l with | .a => { s.net with rxA := false } | .b => { s.net with rxB := false } := by
  cases l with
  | a => exact ends_netRaises (x := { s.net with rxA := false }) rfl hl (guardOn_true (s := s.begin) h _)
  | b => exact ends_netRaises (x := { s.net with rxB := false }) rfl hl (guardOn_true (s := s.begin) h _)

theorem sends_lanSilent (l : Lan) (h : lanSilent l s = false) : Sends (.lanSilent l) s [] :=
  sends_whenLiveK rfl hl (guardOn_false (s := s.begin) h _)

/-! ### Addresses (R275) -/

theorem ends_addressProbeEnd_clean (h : probeOver s = true) (hhit : s.net.probeHit = false) :
    Ends .addressProbeEnd s [.net, .flt] fun u =>
      u.net = { s.net with ip := s.net.probe, probe := 0 } ∧ isActive 0x7009 wide u = false := by
  obtain ⟨u, hexec, honly, hactive, hnet⟩ := ends_netClears (i := .addressProbeEnd) rfl hl (probeEnd_clean (s := s.begin) h hhit)
  exact ⟨u, hexec, honly, hnet, hactive⟩

theorem ends_addressProbeEnd_hit (h : probeOver s = true) (hhit : s.net.probeHit = true) :
    Ends .addressProbeEnd s [.net, .flt] fun u =>
      u.net.ip = 0 ∧ u.net.probe = s.net.probe ∧ u.net.probeAt = s.now ∧ u.net.probeHit = false ∧
      isActive 0x7009 wide u = true := by
  have hsent : EndpointSent { s.begin with net := { s.net with ip := 0, probe := s.net.probe, probeAt := s.now, probeHit := false } }
    (startProbe s.net.probe s.begin) := sendPrp_sends _ _ _ _ _
  have hprobed : Only [.net, .flt] s.begin (startProbe s.net.probe s.begin) :=
    only_trans (only_mono (only_net _ _) (by simp)) hsent.only
  have heffect := probeEnd_hit (s := s.begin) h hhit
  have hraised := only_raiseF 0x7009 wide (startProbe s.net.probe s.begin)
  have hnet := hraised .net (by decide)
  have hactive := isActive_raiseF 0x7009 wide (startProbe s.net.probe s.begin)
  change _ = raiseF 0x7009 wide (startProbe s.net.probe s.begin) at heffect
  generalize raiseF 0x7009 wide (startProbe s.net.probe s.begin) = u at *
  refine ends_of_effect rfl hl heffect (only_trans hprobed (only_mono hraised (by simp))) ⟨?_, ?_, ?_, ?_, hactive⟩
  · exact (congrArg (·.ip) hnet).trans (hsent.reg (g := (·.ip)) fun _ => rfl)
  · exact (congrArg (·.probe) hnet).trans (hsent.reg (g := (·.probe)) fun _ => rfl)
  · exact (congrArg (·.probeAt) hnet).trans (hsent.reg (g := (·.probeAt)) fun _ => rfl)
  · exact (congrArg (·.probeHit) hnet).trans (hsent.reg (g := (·.probeHit)) fun _ => rfl)

theorem sends_addressProbeEnd (h : s.net.probe = 0 ∨ s.now < s.net.probeAt + 4000000000) : Sends .addressProbeEnd s [] := by
  have hnot : probeOver s = false := by
    rcases h with h | h
    · simp [probeOver, h]
    · simp [probeOver, Nat.not_le.2 h]
  exact sends_whenLiveK rfl hl (probeEnd_notOver (s := s.begin) hnot)

theorem ends_dhcpLeaseExpiry {t : Nat} (hmode : cfg Ent.NET_IP_MODE s = 2) (hlease : s.net.leaseEnd = some t) (ht : t ≤ s.now) :
    Ends .dhcpLeaseExpiry s [.net, .flt] fun u => u.net = { s.net with leaseEnd := none } ∧ isActive 0x700A wide u = true := by
  have hguard : (cfg Ent.NET_IP_MODE s == 2 && heldFor s.net.leaseEnd 0 s) = true := by simp [hmode, heldFor_of_since hlease, ht]
  obtain ⟨u, hexec, honly, hactive, hnet⟩ := ends_netRaises (i := .dhcpLeaseExpiry) rfl hl (guardOn_true (s := s.begin) hguard _)
  exact ⟨u, hexec, honly, hnet, hactive⟩

theorem sends_dhcpLeaseExpiry {t : Nat} (hlease : s.net.leaseEnd = some t) (ht : s.now < t) : Sends .dhcpLeaseExpiry s [] := by
  have hguard : (cfg Ent.NET_IP_MODE s == 2 && heldFor s.net.leaseEnd 0 s) = false := by simp [heldFor_of_since hlease, ht]
  exact sends_whenLiveK rfl hl (guardOn_false (s := s.begin) hguard _)

/-! ### Announcements (R277) -/

theorem ends_gratuitousArp (hn : isFenced .n s = false) (hleft : s.net.garpLeft ≠ 0) (hdue : due s.net.garpAt 1000000 s = true) :
    Ends .gratuitousArp s [.net, .flt] fun u => u.net.garpLeft = s.net.garpLeft - 1 ∧ u.net.garpAt = some s.now := by
  have hguard : (!isFenced .n s && due s.net.garpAt 1000000 s) = true := by simp [hn, hdue]
  have hsent := gratuitous_sends (s := s.begin) hleft
  exact ends_of_effect rfl hl (guardOn_true (s := s.begin) hguard gratuitous) (only_trans (only_mono (only_net _ _) (by simp)) hsent.only)
    ⟨hsent.reg (g := (·.garpLeft)) fun _ => rfl, hsent.reg (g := (·.garpAt)) fun _ => rfl⟩

theorem sends_gratuitousArp (hdue : due s.net.garpAt 1000000 s = false) : Sends .gratuitousArp s [] := by
  have hguard : (!isFenced .n s && due s.net.garpAt 1000000 s) = false := by simp [hdue]
  exact sends_whenLiveK rfl hl (guardOn_false (s := s.begin) hguard gratuitous)

end

/-! ### The statement -/

/-- Settles O43: each event has its effect when it is due, and what it sends leaves the registers that it has set. -/
theorem networkEvents : Obligations.NetworkEvents := by
  intro s hl
  refine ⟨fun port up => ends_ethLinkChange port up hl, fun l mac => ends_fdbAgeOut l mac hl, ends_prpSupervisionSend hl,
    sends_prpSupervisionSend hl, fun l => ?silence, fun hn hp ht => ?probe, sends_addressProbeEnd hl,
    fun t hmode hlease => ⟨ends_dhcpLeaseExpiry hl hmode hlease, sends_dhcpLeaseExpiry hl hlease⟩, ends_gratuitousArp hl,
    sends_gratuitousArp hl⟩
  case silence =>
    intro heard ms
    refine ⟨fun hn ht => ends_lanSilent hl l ?_, fun ht => sends_lanSilent hl l ?_⟩
    · exact Bool.and_eq_true_iff.2 ⟨by rw [hn]; rfl, decide_eq_true ht⟩
    · exact Bool.and_eq_false_iff.2 (.inr (decide_eq_false (Nat.not_le.2 ht)))
  case probe =>
    have hover : probeOver s = true := by simp [probeOver, hn, hp, ht]
    exact ⟨ends_addressProbeEnd_clean hl hover, ends_addressProbeEnd_hit hl hover⟩

end Sys2Proof.Proofs
end

section
/-! PROOFS. The clock of plant time: its four slave-only PTP receivers (slaves below), the state it is put in, and the
choice of its reference. -/
namespace Sys2Proof.Proofs
open Sys2Proof Sys2Proof.Machine Sys2Proof.Laws

theorem only_ptp (x : PtpRegs) (s : State) : Only [.ptp] s { s with ptp := x } := fun p hp => by
  cases p with
  | ptp => exact absurd (by simp) hp
  | _ => rfl

theorem only_modInst (i : Nat) (f : PtpInst → PtpInst) (s : State) : Only [.ptp] s (modInst i f s) := only_ptp _ s

theorem clearF_eq (c k : Nat) (s : State) : ∃ f, clearF c k s = { s with flt := f } := by
  unfold clearF
  split
  · exact ⟨_, rfl⟩
  · exact ⟨_, rfl⟩

/-! ### Slaves -/

theorem inst_modInst_same {i : Nat} (hi : i < 4) (f : PtpInst → PtpInst) (s : State) : inst i (modInst i f s) = f (inst i s) :=
  getAt_modAt_same _ f hi

theorem inst_modInst_other {i k : Nat} (h : k ≠ i) (f : PtpInst → PtpInst) (s : State) : inst k (modInst i f s) = inst k s :=
  getAt_setAt_other _ _ h

/-- What a change of one slave leaves in it, it leaves in all. -/
theorem inst_modInst_kept {β : Type} {g : PtpInst → β} {f : PtpInst → PtpInst} {i : Nat} {s : State}
    (h : g (f (inst i s)) = g (inst i s)) (k : Nat) : g (inst k (modInst i f s)) = g (inst k s) := by
  by_cases hk : k = i
  · subst hk
    rcases Nat.lt_or_ge k 4 with hlt | hge
    · rw [inst_modInst_same hlt, h]
    · rw [inst, inst, getAt_beyond _ hge, getAt_beyond _ hge]
  · rw [inst_modInst_other hk]

/-- A slave without the instant since which it is usable. -/
def untracked (x : PtpInst) : PtpInst := { x with usableSince := none }

/-- A register other than the instant since which a slave is usable. -/
theorem reg_of_untracked {β : Type} {g : PtpInst → β} (hg : ∀ x, g (untracked x) = g x) {x y : PtpInst}
    (h : untracked x = untracked y) : g x = g y := by
  rw [← hg, h, hg]

/-! ### What the choice of a reference leaves (R283 to R285) -/

/-- The slaves hear as before, the same Syncs wait, and nothing has been sent. -/
structure InstancesKept (s t : State) : Prop where
  inst : ∀ k, untracked (inst k t) = untracked (inst k s)
  pend : t.ptp.pend = s.ptp.pend
  out : t.out = s.out

theorem instancesKept_refl (s : State) : InstancesKept s s := ⟨fun _ => rfl, rfl, rfl⟩

theorem instancesKept_trans {s t u : State} (h : InstancesKept s t) (k : InstancesKept t u) : InstancesKept s u :=
  ⟨fun i => (k.inst i).trans (h.inst i), k.pend.trans h.pend, k.out.trans h.out⟩

theorem instancesKept_of_inst {s t : State} (hinst : t.ptp.inst = s.ptp.inst) (hpend : t.ptp.pend = s.ptp.pend) (hout : t.out = s.out) :
    InstancesKept s t :=
  ⟨fun k => congrArg untracked (congrArg (getAt · k) hinst), hpend, hout⟩

/-- A register of a slave other than the instant since which it is usable stays. -/
theorem InstancesKept.reg {β : Type} {g : PtpInst → β} {s t : State} (h : InstancesKept s t)
    (hg : ∀ x, g (untracked x) = g x) (k : Nat) :
    g (Machine.inst k t) = g (Machine.inst k s) := reg_of_untracked hg (h.inst k)

theorem instancesKept_modInst {f : PtpInst → PtpInst} (h : ∀ x, untracked (f x) = untracked x) (i : Nat) (s : State) :
    InstancesKept s (modInst i f s) := ⟨inst_modInst_kept (h _), rfl, rfl⟩

theorem instancesKept_forAll {α : Type} {f : α → State → State} (h : ∀ x s, InstancesKept s (f x s)) (xs : List α) (s : State) :
    InstancesKept s (forAll xs f s) :=
  List.foldlRecOn xs _ (motive := InstancesKept s) (instancesKept_refl s) fun t ht x _ => instancesKept_trans ht (h x t)

theorem instancesKept_trackUsable (s : State) : InstancesKept s (trackUsable s) :=
  instancesKept_forAll (fun i s => instancesKept_modInst
    (f := fun x => { x with usableSince := sinceNow (usable i s) x.usableSince s }) (fun _ => rfl) i s) _ s

/-- The clock is put in a state: the module is locked in LOCKED and SLEWING, and what names the reference stays (R284). -/
structure StatePut (x : PtpState) (s t : State) : Prop where
  state : t.ptp.state = x
  locked : t.locked = (x == .locked || x == .slewing)
  ref : t.ptp.ref = s.ptp.ref
  changes : t.ptp.changes = s.ptp.changes
  kept : InstancesKept s t

theorem setPtp_puts (x : PtpState) (s : State) : StatePut x s (setPtp x s) := by
  cases x with
  | free => exact ⟨rfl, rfl, rfl, rfl, instancesKept_of_inst rfl rfl rfl⟩
  | locked =>
    unfold setPtp
    extract_lets began p t
    obtain ⟨f, h⟩ := clearF_eq 0x7013 wide t
    dsimp only
    rw [h]
    exact ⟨rfl, rfl, rfl, rfl, instancesKept_of_inst rfl rfl rfl⟩
  | holdover =>
    unfold setPtp
    extract_lets began p t
    obtain ⟨f, h⟩ := raiseF_eq 0x7010 wide { t with ptp := { t.ptp with holdMs := 0, freq := heldFreq t } }
    dsimp only
    rw [h]
    exact ⟨rfl, rfl, rfl, rfl, instancesKept_of_inst rfl rfl rfl⟩
  | slewing =>
    unfold setPtp
    extract_lets began p t
    dsimp only
    split <;> exact ⟨rfl, rfl, rfl, rfl, instancesKept_of_inst rfl rfl rfl⟩

/-- A slave has been taken as the reference. -/
structure RefTaken (i : Nat) (s t : State) : Prop where
  ref : t.ptp.ref = some i
  state : t.ptp.state = .slewing
  locked : t.locked = true
  changes : t.ptp.changes = if s.ptp.lastRef.isSome && s.ptp.lastRef != some i then incSat32 s.ptp.changes else s.ptp.changes
  kept : InstancesKept s t
  primary : i < 2 → isActive 0x7011 wide t = false

/-- Slewing raises and clears no code. -/
theorem setPtp_slewing_flt (s : State) : (setPtp .slewing s).flt = s.flt := by
  unfold setPtp
  dsimp only
  split <;> rfl

theorem takeRef_takes (i : Nat) (s : State) : RefTaken i s (takeRef i s) := by
  unfold takeRef
  extract_lets off p t coded
  have hcoded : ∃ f, coded = { t with flt := f } := by
    unfold coded
    split
    · exact raiseF_eq _ _ _
    · exact clearF_eq _ _ _
  have hput := setPtp_puts .slewing coded
  have hprimary (hi : i < 2) : isActive 0x7011 wide (setPtp .slewing coded) = false := by
    rw [isActive_of_flt (setPtp_slewing_flt coded)]
    unfold coded
    rw [if_neg (by omega)]
    exact isActive_clearF _ _ _
  obtain ⟨f, hf⟩ := hcoded
  rw [hf] at hput hprimary ⊢
  have hkept : InstancesKept s { t with flt := f } := instancesKept_of_inst rfl rfl rfl
  exact ⟨hput.ref, hput.state, hput.locked, hput.changes, instancesKept_trans hkept hput.kept, hprimary⟩

/-- Where no slave stays in use and none is usable, the clock has no reference and holds over. -/
def refLost (s : State) : State :=
  let t := { s with ptp := { s.ptp with ref := none } }
  if t.ptp.state == .locked || t.ptp.state == .slewing then setPtp .holdover t else t

theorem refLost_leaves (s : State) : (refLost s).ptp.ref = none ∧ InstancesKept s (refLost s) := by
  unfold refLost
  extract_lets p t
  have ht : InstancesKept s t := instancesKept_of_inst rfl rfl rfl
  split
  · exact ⟨(setPtp_puts .holdover t).ref, instancesKept_trans ht (setPtp_puts .holdover t).kept⟩
  · exact ⟨rfl, ht⟩

/-- What the choice of the reference comes to (R283, rules 1 and 2). -/
theorem chooseRef_cases (s : State) :
    (chooseRef s = trackUsable s ∧ ∃ i, (trackUsable s).ptp.ref = some i ∧ usable i (trackUsable s) = true) ∨
    (∃ i, usable i (trackUsable s) = true ∧ chooseRef s = takeRef i (trackUsable s)) ∨
    chooseRef s = refLost (trackUsable s) := by
  unfold chooseRef
  extract_lets t stays lost
  by_cases hstays : stays = true
  · refine .inl ⟨if_pos hstays, ?_⟩
    unfold stays at hstays
    split at hstays
    next i hi => exact ⟨i, hi, hstays⟩
    next => exact absurd hstays (by decide)
  rw [if_neg hstays]
  split
  next i hi => exact .inr (.inl ⟨i, List.find?_some (p := fun i => usable i t) hi, rfl⟩)
  next => exact .inr (.inr rfl)

theorem instancesKept_chooseRef (s : State) : InstancesKept s (chooseRef s) := by
  refine instancesKept_trans (instancesKept_trackUsable s) ?_
  rcases chooseRef_cases s with ⟨h, -⟩ | ⟨i, -, h⟩ | h <;> rw [h]
  · exact instancesKept_refl _
  · exact (takeRef_takes i _).kept
  · exact (refLost_leaves _).2

theorem usable_congr {s t : State} (hclock : ClockOnly s t) (hkept : InstancesKept s t) (i : Nat) : usable i t = usable i s := by
  have hmaster : (inst i t).master = (inst i s).master := hkept.reg (g := (·.master)) (fun _ => rfl) i
  have hsync : (inst i t).sync = (inst i s).sync := hkept.reg (g := (·.sync)) (fun _ => rfl) i
  have hqual : (inst i t).qual = (inst i s).qual := hkept.reg (g := (·.qual)) (fun _ => rfl) i
  have hport : (inst i t).port = (inst i s).port := hkept.reg (g := (·.port)) (fun _ => rfl) i
  have hstore : t.store = s.store := hclock.1 .store (by decide)
  have hnet : t.net = s.net := hclock.1 .net (by decide)
  simp only [usable, hmaster, hsync, hqual, hport, cfgB_of_store hstore, cfgN_of_store hstore, hnet,
    isFenced_of_sup (hclock.1 .sup (by decide))]

/-- A slave that is the reference once it has been chosen is usable. -/
theorem usable_of_chooseRef {k : Nat} {s : State} (h : (chooseRef s).ptp.ref = some k) : usable k (chooseRef s) = true := by
  rcases chooseRef_cases s with ⟨heq, i, hi, husable⟩ | ⟨i, husable, heq⟩ | heq
  · rw [heq, hi] at h
    cases h
    rwa [heq]
  · have htaken := takeRef_takes i (trackUsable s)
    rw [heq, htaken.ref] at h
    cases h
    rw [heq, usable_congr (clockOnly_takeRef _ _) htaken.kept, husable]
  · rw [heq, (refLost_leaves _).1] at h
    cases h

/-- A usable slave has had its Syncs (R282). -/
theorem sync_of_usable {i : Nat} {s : State} (h : usable i s = true) : (inst i s).sync = true := by
  unfold usable at h
  split at h
  next => cases h
  next =>
    simp only [Bool.and_eq_true] at h
    exact h.1.1.1.1.2

end Sys2Proof.Proofs
end

section
/-! PROOFS. Messages of plant time at their port, and the exchanges of peer delay. -/
namespace Sys2Proof.Proofs
open Sys2Proof Sys2Proof.Machine Sys2Proof.Laws

/-! ### A message that arrives (R270, R278) -/

theorem frameCounted_ptpCount (p : Nat) (f : List Byte) (s : State) : FrameCounted p s (ptpCount p f s) := frameCounted_learn p _ _ s

theorem portUp_of_ptpArrives {type p : Nat} {f : List Byte} {s : State} (h : ptpArrives type p f s = true) : portUp p s = true := by
  simp only [ptpArrives, Bool.and_eq_true] at h
  exact h.1.1.1.1.1.1

theorem ptpArrives_congr {p : Nat} {s t : State} (h : portUp p t = portUp p s) (type : Nat) (f : List Byte) :
    ptpArrives type p f t = ptpArrives type p f s := by
  simp only [ptpArrives, h]

/-- A message in a good frame of a supported version is counted and used. -/
theorem ptpTake_arrives {type p : Nat} {f : List Byte} {s : State} (h : ptpArrives type p f s = true) (use : State → State) :
    ptpTake type p f use s = use (ptpCount p f s) := by
  simp only [ptpArrives, Bool.and_eq_true, beq_iff_eq, decide_eq_true_eq] at h
  obtain ⟨⟨⟨⟨⟨⟨hup, het⟩, htype⟩, hmin⟩, hmax⟩, hfcs⟩, hversion⟩ := h
  simp [ptpTake, hup, het, htype, hfcs, hversion, Nat.not_lt.2 hmin, Nat.not_lt.2 hmax]

/-! ### The end of an exchange (R280) -/

/-- A port whose exchange has ended. -/
def exchangeEnded (delay : Nat) (ok : Bool) (x : EthPort) : EthPort :=
  let okRun := if ok then min (x.okRun + 1) 3 else 0
  let failRun := if ok then 0 else min (x.failRun + 1) 3
  { x with delay := if ok then delay else x.delay
           okRun := okRun
           failRun := failRun
           capable := if 3 ≤ okRun then true else if 3 ≤ failRun then false else x.capable }

/-- Three successes in a row make a port capable. -/
theorem capable_exchangeEnded_good (delay : Nat) (x : EthPort) :
    (exchangeEnded delay true x).capable = (x.capable || decide (2 ≤ x.okRun)) := by
  by_cases h : 2 ≤ x.okRun
  · simp [exchangeEnded, h]
  · have h3 : ¬ 3 ≤ min (x.okRun + 1) 3 := by omega
    simp [exchangeEnded, h, h3]

/-- Three failures in a row end that. -/
theorem capable_exchangeEnded_bad (delay : Nat) (x : EthPort) :
    (exchangeEnded delay false x).capable = (x.capable && decide (x.failRun < 2)) := by
  by_cases h : x.failRun < 2
  · have h3 : ¬ 3 ≤ min (x.failRun + 1) 3 := by omega
    simp [exchangeEnded, h, h3]
  · have h3 : 3 ≤ min (x.failRun + 1) 3 := by omega
    simp [exchangeEnded, h, h3]

/-- The exchange of port p has ended: only its port and the clock have changed, and a linked port that is not capable is reported. -/
structure ExchangeEnds (p delay : Nat) (ok : Bool) (s t : State) : Prop where
  only : Only [.net, .ptp, .locked, .flt] s t
  net : t.net = (modPort p (exchangeEnded delay ok) s).net
  out : t.out = s.out
  code : (getAt t.net.ports p).link = true → (getAt t.net.ports p).capable = false → isActive 0x7014 wide t = true

theorem pdelayEnd_ends (p delay : Nat) (answered : Bool) (s : State) :
    ExchangeEnds p delay (answered && decide (delay ≤ cfgN Ent.PTP_LINK_DELAY_MAX s)) s (pdelayEnd p delay answered s) := by
  unfold pdelayEnd
  extract_lets ok t u
  have hu : Only [.flt] t u ∧ u.out = t.out := by
    unfold u
    split
    · obtain ⟨f, hf⟩ := raiseF_eq 0x7014 wide t
      exact ⟨only_raiseF _ _ _, by rw [hf]⟩
    · exact ⟨only_refl _ _, rfl⟩
  have hclock := clockOnly_chooseRef u
  have hnet : (chooseRef u).net = t.net := (hclock.1 .net (by decide)).trans (hu.1 .net (by decide))
  have ht : Only [.net] s t := only_modPort _ _ _
  refine ⟨only_trans (only_mono ht (by simp)) (only_trans (only_mono hu.1 (by simp)) (only_mono hclock.1 (by simp))), hnet,
    (instancesKept_chooseRef u).out.trans hu.2, fun hlink hcapable => hclock.2 _ _ (by decide) (by decide) ?_⟩
  rw [hnet] at hlink hcapable
  unfold u
  rw [if_pos (by rw [hlink, hcapable]; rfl)]
  exact isActive_raiseF _ _ _

/-! ### A request (R280) -/

/-- A port whose request has left. -/
def requested (now : Nat) (x : EthPort) : EthPort := { x with pdSeq := (x.pdSeq + 1) % 65536, pdAt := some now, pdOut := true }

/-- The next request of a port. -/
def requestOfPort (p : Nat) (s : State) : List Byte :=
  pdelayFrame 2 p (cfgN Ent.PTP_DOMAIN_P s) 0 (((getAt s.net.ports p).pdSeq + 1) % 65536) (List.replicate 20 0#8)

/-- A port sends its next request. -/
def sendRequest (p : Nat) (s : State) : State := sendPorts [p] 3 false (requestOfPort p s) (modPort p (requested s.now) s)

theorem pdelaySend_due {p : Nat} {s : State} (hup : portUp p s = true) (hdue : due (getAt s.net.ports p).pdAt 1000000000 s = true) :
    pdelaySend p s = sendRequest p (if (getAt s.net.ports p).pdOut then pdelayEnd p 0 false s else s) := by
  unfold pdelaySend
  rw [guardOn_true (by simp [hup, hdue])]
  rfl

theorem pdelaySend_notDue {p : Nat} {s : State} (hdue : due (getAt s.net.ports p).pdAt 1000000000 s = false) : pdelaySend p s = s :=
  guardOn_false (by simp [hdue]) _ s

theorem sendRequest_sends (p : Nat) (s : State) : FramesSent (modPort p (requested s.now) s) (sendRequest p s) :=
  framesSent_sendPorts _ _ _ _ _

/-- The state that a request leaves, as the statement has it. -/
def RequestLeft (port : Port) (t : Nat) (s u : State) : Prop :=
  let y := getAt u.net.ports (portNo port)
  y.pdSeq = ((getAt s.net.ports (portNo port)).pdSeq + 1) % 65536 ∧ y.pdAt = some t ∧ y.pdOut = true ∧ u.net.prpSeq = s.net.prpSeq ∧
  (portIdle (portNo port) (requestOfPort (portNo port) s) s = true →
    u.out = [.eth port (requestOfPort (portNo port) s ++ fcsOf (requestOfPort (portNo port) s))])

/-- A request leaves as it does from any state that agrees in the port's queue and its numbers. -/
theorem requestLeft_of_agree {port : Port} {s v : State}
    (hseq : (getAt v.net.ports (portNo port)).pdSeq = (getAt s.net.ports (portNo port)).pdSeq) (hprp : v.net.prpSeq = s.net.prpSeq)
    (hstore : v.store = s.store) (hout : v.out = []) (hup : portUp (portNo port) v = true)
    (hidle : ∀ bytes, portIdle (portNo port) bytes v = portIdle (portNo port) bytes s) :
    RequestLeft port v.now s (sendRequest (portNo port) v) := by
  have hsent := sendRequest_sends (portNo port) v
  have hport := port_modPort_same (portNo_lt port) (requested v.now) v
  have hbytes : requestOfPort (portNo port) v = requestOfPort (portNo port) s := by
    rw [requestOfPort, requestOfPort, hseq, cfgN_of_store hstore]
  refine ⟨?_, ?_, ?_, ?_, fun h => ?_⟩
  · rw [hsent.port (g := (·.pdSeq)) fun _ => rfl, hport, ← hseq]
    rfl
  · rw [hsent.port (g := (·.pdAt)) fun _ => rfl, hport]
    rfl
  · rw [hsent.port (g := (·.pdOut)) fun _ => rfl, hport]
    rfl
  · exact (hsent.reg (g := (·.prpSeq)) fun _ => rfl).trans hprp
  · have hup' := (portUp_modPort (f := requested v.now) (fun _ => rfl) (portNo port) (portNo port) v).trans hup
    have hidle' := (portIdle_modPort (f := requested v.now) (fun _ => rfl) (fun _ => rfl) (portNo port) (portNo port) _ v).trans
      ((hidle _).trans h)
    rw [sendRequest, hbytes, sendPorts_idle_out hup' hidle', modPort_out, hout, portOf_portNo]
    rfl

section
variable {port : Port} {t : Nat} {s : State} (hl : live s = true) (hup : portUp (portNo port) s = true)
  (hdue : due (getAt s.net.ports (portNo port)).pdAt 1000000000 (atTime t s) = true)
include hl hup hdue

theorem ends_pdelayReqSend (hout : (getAt s.net.ports (portNo port)).pdOut = false) :
    Ends (.pdelayReqSend port t) s [.now, .net, .flt] (RequestLeft port (max s.now t) s) := by
  have heffect := pdelaySend_due (p := portNo port) (s := atTime t s.begin) hup hdue
  rw [if_neg (by rw [show (getAt (atTime t s.begin).net.ports (portNo port)).pdOut = false from hout]; decide)] at heffect
  have hsent := (sendRequest_sends (portNo port) (atTime t s.begin)).only
  have hport := only_modPort (portNo port) (requested (max s.now t)) (atTime t s.begin)
  have hleft : RequestLeft port (max s.now t) s (sendRequest (portNo port) (atTime t s.begin)) :=
    requestLeft_of_agree (v := atTime t s.begin) rfl rfl rfl rfl hup fun _ => rfl
  generalize sendRequest (portNo port) (atTime t s.begin) = u at *
  exact ends_of_effect (f := fun s => pdelaySend (portNo port) (atTime t s)) rfl hl heffect
    (only_trans (only_mono (only_atTime t s.begin) (by simp)) (only_trans (only_mono hport (by simp)) (only_mono hsent (by simp)))) hleft

/-- The request before it has drawn no answer: a failed exchange. -/
theorem ends_pdelayReqSend_unanswered (hout : (getAt s.net.ports (portNo port)).pdOut = true) :
    let x := getAt s.net.ports (portNo port)
    Ends (.pdelayReqSend port t) s [.now, .net, .ptp, .locked, .flt] fun u =>
      RequestLeft port (max s.now t) s u ∧ (getAt u.net.ports (portNo port)).okRun = 0 ∧
      (getAt u.net.ports (portNo port)).failRun = min (x.failRun + 1) 3 ∧
      (getAt u.net.ports (portNo port)).capable = (x.capable && decide (x.failRun < 2)) ∧
      (2 ≤ x.failRun → isActive 0x7014 wide u = true) := by
  intro x
  have hp := portNo_lt port
  have heffect := pdelaySend_due (p := portNo port) (s := atTime t s.begin) hup hdue
  rw [if_pos (show (getAt (atTime t s.begin).net.ports (portNo port)).pdOut = true from hout)] at heffect
  have hend : ExchangeEnds (portNo port) 0 false (atTime t s.begin) _ := pdelayEnd_ends (portNo port) 0 false (atTime t s.begin)
  generalize pdelayEnd (portNo port) 0 false (atTime t s.begin) = v at *
  have hx : getAt v.net.ports (portNo port) = exchangeEnded 0 false x := by
    rw [hend.net]
    exact port_modPort_same hp _ _
  have hsup : portUp (portNo port) v = true :=
    (portUp_congr (by rw [hx]; rfl) (hend.only .sup (by decide)) (by rw [hend.net]; rfl) (by rw [hend.net]; rfl)).trans hup
  have hnow : v.now = max s.now t := hend.only .now (by decide)
  have hleft : RequestLeft port v.now s (sendRequest (portNo port) v) :=
    requestLeft_of_agree (by rw [hx]; rfl) (by rw [hend.net]; rfl) (hend.only .store (by decide)) hend.out hsup
      fun _ => portIdle_congr (by rw [hx]; rfl) (by rw [hx]; rfl) _
  have hsent := sendRequest_sends (portNo port) v
  have hport := port_modPort_same hp (requested v.now) v
  have hcapable : (exchangeEnded 0 false x).capable = (x.capable && decide (x.failRun < 2)) := capable_exchangeEnded_bad 0 x
  have hrun := only_modPort (portNo port) (requested v.now) v
  generalize sendRequest (portNo port) v = u at *
  refine ends_of_effect (f := fun s => pdelaySend (portNo port) (atTime t s)) rfl hl heffect
    (only_trans (only_mono (only_atTime t s.begin) (by simp)) (only_trans (only_mono hend.only (by simp))
      (only_trans (only_mono hrun (by simp)) (only_mono hsent.only (by simp))))) ⟨hnow ▸ hleft, ?_, ?_, ?_, fun hfail => ?_⟩
  · exact (hsent.port (g := (·.okRun)) (fun _ => rfl) _).trans (by rw [hport, hx]; rfl)
  · exact (hsent.port (g := (·.failRun)) (fun _ => rfl) _).trans (by rw [hport, hx]; rfl)
  · exact (hsent.port (g := (·.capable)) (fun _ => rfl) _).trans (by rw [hport, hx, ← hcapable]; rfl)
  · refine hsent.active _ _ (hend.code (link_of_portUp hsup) ?_)
    rw [hx, hcapable, decide_eq_false (by omega), Bool.and_false]

end

theorem ends_pdelayReqSend_notDue {port : Port} {t : Nat} {s : State} (hl : live s = true)
    (hdue : due (getAt s.net.ports (portNo port)).pdAt 1000000000 (atTime t s) = false) :
    Ends (.pdelayReqSend port t) s [.now] fun u => u.now = max s.now t :=
  ends_of_effect (f := fun s => pdelaySend (portNo port) (atTime t s)) rfl hl (pdelaySend_notDue (s := atTime t s.begin) hdue)
    (only_atTime t s.begin) rfl

/-! ### An answer (R280) -/

theorem ends_pdelayReqAnswer {port : Port} {m : List Byte} (t1 t2 : Nat) {s : State} (hl : live s = true)
    (h : ptpArrives 2 (portNo port) m s = true) :
    Ends (.pdelayReqAnswer port m t1 t2) s [.now, .net, .flt] fun u =>
      let q := payloadOf (bodyOf m)
      let bytes := pdelayFrame 3 (portNo port) (ptpDomain q) (wrapS 64 (ptpCorr q + ((t2 : Int) - t1) * 65536)) (ptpSeq q)
        (List.replicate 10 0#8 ++ slice q 20 10)
      (getAt u.net.ports (portNo port)).rx = wrapU 32 ((getAt s.net.ports (portNo port)).rx + 1) ∧
      (portIdle (portNo port) bytes s = true → u.out = [.eth port (bytes ++ fcsOf bytes)]) := by
  have hup := portUp_of_ptpArrives h
  have heffect := ptpTake_arrives (s := atTime t2 s.begin) h fun s =>
    let q := payloadOf (bodyOf m)
    sendPorts [portNo port] 3 false (pdelayFrame 3 (portNo port) (ptpDomain q) (wrapS 64 (ptpCorr q + ((t2 : Int) - t1) * 65536))
      (ptpSeq q) (List.replicate 10 0#8 ++ slice q 20 10)) s
  have hcounted := frameCounted_ptpCount (portNo port) m (atTime t2 s.begin)
  generalize ptpCount (portNo port) m (atTime t2 s.begin) = v at *
  have hupv : portUp (portNo port) v = true := (hcounted.portUp _).trans hup
  refine ends_of_effect (f := fun s => pdelayAnswer (portNo port) m t1 t2 (atTime t2 s)) rfl hl heffect
    (only_trans (only_mono (only_atTime t2 s.begin) (by simp)) (only_trans (only_mono hcounted.only (by simp))
      (only_mono (framesSent_sendPorts _ _ _ _ v).only (by simp)))) ⟨?_, fun hidle => ?_⟩
  · refine ((framesSent_sendPorts _ _ _ _ v).port (g := (·.rx)) (fun _ => rfl) _).trans ?_
    rw [hcounted.port_same (portNo_lt port)]
    rfl
  · refine (sendPorts_idle_out hupv ((hcounted.portIdle _ _).trans hidle) 3).trans ?_
    rw [hcounted.out, portOf_portNo]
    rfl

/-! ### A response (R280) -/

theorem answers_ptpCount (p : Nat) (m f : List Byte) (s : State) : answers p m (ptpCount p f s) = answers p m s := by
  have hcounted := frameCounted_ptpCount p f s
  have hseq := hcounted.port (g := (·.pdSeq)) (fun _ _ => rfl) p
  simp only [answers, hseq, cfgN_of_store (hcounted.only .store (by decide))]

/-- The response to a port's request has been counted, with its follow-up where it is two-step, and the port waits no more. -/
structure ResponseTaken (p : Nat) (s v : State) : Prop where
  only : Only [.net] s v
  port : ∃ n, getAt v.net.ports p = { getAt s.net.ports p with rx := n, pdOut := false }

section
variable {p : Nat} {resp follow : List Byte} {t t1 : Nat} {s : State} (hp : p < 4) (h : ptpArrives 3 p resp s = true)
include h

/-- A response that answers no request is counted only. -/
theorem pdelayResponse_unasked (hnot : (getAt s.net.ports p).pdOut = false ∨ answers p (payloadOf (bodyOf resp)) s = false) :
    pdelayResponse p resp follow t s = ptpCount p resp s := by
  have hpdOut : (getAt (ptpCount p resp s).net.ports p).pdOut = (getAt s.net.ports p).pdOut :=
    (frameCounted_ptpCount p resp s).port (g := (·.pdOut)) (fun _ _ => rfl) p
  unfold pdelayResponse
  dsimp only
  rw [ptpTake_arrives h, if_pos]
  rw [hpdOut, answers_ptpCount]
  rcases hnot with hnot | hnot <;> simp [hnot]

include hp

/-- One that answers the port's request ends its exchange. -/
theorem pdelayResponse_ends (hout : (getAt s.net.ports p).pdOut = true) (hanswers : answers p (payloadOf (bodyOf resp)) s = true)
    (hat : (getAt s.net.ports p).pdAt = some t1)
    (htwo : ptpTwoStep (payloadOf (bodyOf resp)) = true → ptpArrives 10 p follow s = true ∧
      answers p (payloadOf (bodyOf follow)) s = true ∧ ptpSrc (payloadOf (bodyOf follow)) = ptpSrc (payloadOf (bodyOf resp))) :
    ∃ v, ResponseTaken p s v ∧ pdelayResponse p resp follow t s =
      pdelayEnd p (linkDelay t1 t (payloadOf (bodyOf resp)) (payloadOf (bodyOf follow))) true v := by
  have hcounted := frameCounted_ptpCount p resp s
  have hport := hcounted.port_same hp
  have hasked : (!(getAt (ptpCount p resp s).net.ports p).pdOut || !answers p (payloadOf (bodyOf resp)) (ptpCount p resp s)) = false := by
    rw [hport, answers_ptpCount, hanswers]
    simp [hout]
  have htake := ptpTake_arrives h
  have hdone {u : State} {n : Nat} (honly : Only [.net] s u) (hu : getAt u.net.ports p = { getAt s.net.ports p with rx := n }) :
      ResponseTaken p s (modPort p (fun x => { x with pdOut := false }) u) :=
    ⟨only_trans honly (only_modPort _ _ _), n, by rw [port_modPort_same hp, hu]⟩
  cases hstep : ptpTwoStep (payloadOf (bodyOf resp)) with
  | false =>
    refine ⟨_, hdone hcounted.only hport, ?_⟩
    unfold pdelayResponse
    dsimp only
    rw [htake, if_neg (by rw [hasked]; decide), if_pos (by rw [hstep]; rfl), hport, hat]
  | true =>
    obtain ⟨hfollow, hanswers2, hsrc⟩ := htwo hstep
    have hcounted2 := frameCounted_ptpCount p follow (ptpCount p resp s)
    have hport2 := hcounted2.port_same hp
    rw [hport] at hport2
    refine ⟨_, hdone (only_trans hcounted.only hcounted2.only) hport2, ?_⟩
    unfold pdelayResponse
    dsimp only
    rw [htake, if_neg (by rw [hasked]; decide), if_neg (by rw [hstep]; decide),
      ptpTake_arrives ((ptpArrives_congr (hcounted.portUp p) 10 follow).trans hfollow), guardOn_true, hport2, hat]
    rw [answers_ptpCount, hanswers2, hsrc, beq_self_eq_true, Bool.and_true]

end

section
variable {port : Port} {resp follow : List Byte} {t t1 : Nat} {s : State} (hl : live s = true)
  (h : ptpArrives 3 (portNo port) resp s = true)
include hl h

theorem ends_pdelayResp_unasked (hnot : (getAt s.net.ports (portNo port)).pdOut = false ∨
      answers (portNo port) (payloadOf (bodyOf resp)) s = false) :
    Ends (.pdelayResp port resp follow t) s [.now, .net] fun u =>
      getAt u.net.ports (portNo port) =
        { getAt s.net.ports (portNo port) with rx := wrapU 32 ((getAt s.net.ports (portNo port)).rx + 1) } ∧ u.out = [] := by
  have hcounted := frameCounted_ptpCount (portNo port) resp (atTime t s.begin)
  have heffect := pdelayResponse_unasked (follow := follow) (t := t) (s := atTime t s.begin) h hnot
  generalize ptpCount (portNo port) resp (atTime t s.begin) = u at *
  exact ends_of_effect (f := fun s => pdelayResponse (portNo port) resp follow t (atTime t s)) rfl hl heffect
    (only_trans (only_mono (only_atTime t s.begin) (by simp)) (only_mono hcounted.only (by simp)))
    ⟨hcounted.port_same (portNo_lt port), hcounted.out⟩

/-- The answered exchange is judged by its delay. -/
theorem ends_pdelayResp (hout : (getAt s.net.ports (portNo port)).pdOut = true)
    (hanswers : answers (portNo port) (payloadOf (bodyOf resp)) s = true) (hat : (getAt s.net.ports (portNo port)).pdAt = some t1)
    (htwo : ptpTwoStep (payloadOf (bodyOf resp)) = true → ptpArrives 10 (portNo port) follow s = true ∧
      answers (portNo port) (payloadOf (bodyOf follow)) s = true ∧ ptpSrc (payloadOf (bodyOf follow)) = ptpSrc (payloadOf (bodyOf resp)))
    {delay : Nat} {ok : Bool} (hdelay : linkDelay t1 t (payloadOf (bodyOf resp)) (payloadOf (bodyOf follow)) = delay)
    (hok : decide (delay ≤ cfgN Ent.PTP_LINK_DELAY_MAX s) = ok) :
    Ends (.pdelayResp port resp follow t) s [.now, .net, .ptp, .locked, .flt] fun u =>
      (∃ n, getAt u.net.ports (portNo port) =
        exchangeEnded delay ok { getAt s.net.ports (portNo port) with rx := n, pdOut := false }) ∧
      ((exchangeEnded delay ok (getAt s.net.ports (portNo port))).capable = false → isActive 0x7014 wide u = true) := by
  have hp := portNo_lt port
  obtain ⟨v, ⟨htaken, n, hv⟩, heffect⟩ :=
    pdelayResponse_ends (t := t) (s := atTime t s.begin) hp h hout hanswers hat htwo
  have hends := pdelayEnd_ends (portNo port) delay true v
  rw [Bool.true_and, cfgN_of_store (s := s) (htaken .store (by decide)), hok] at hends
  rw [hdelay] at heffect
  have hy : getAt (pdelayEnd (portNo port) delay true v).net.ports (portNo port) =
      exchangeEnded delay ok { getAt s.net.ports (portNo port) with rx := n, pdOut := false } := by
    rw [hends.net, port_modPort_same hp, hv]
    rfl
  generalize pdelayEnd (portNo port) delay true v = u at *
  refine ends_of_effect (f := fun s => pdelayResponse (portNo port) resp follow t (atTime t s)) rfl hl heffect
    (only_trans (only_mono (only_atTime t s.begin) (by simp)) (only_trans (only_mono htaken (by simp))
      (only_mono hends.only (by simp)))) ⟨⟨n, hy⟩, fun hcapable => hends.code ?_ ?_⟩
  · rw [hy]
    exact link_of_portUp (portUp_of_ptpArrives h)
  · rw [hy]
    exact hcapable

end

/-! ### The statement -/

/-- Settles O44: a port's register of successes and failures is worked on only by the end of an exchange. -/
theorem peerDelayMakesPortsCapable : Obligations.PeerDelayMakesPortsCapable := by
  intro port s hl p x
  refine ⟨fun t hup => ⟨fun hdue => ⟨ends_pdelayReqSend hl hup hdue, ends_pdelayReqSend_unanswered hl hup hdue⟩,
    ends_pdelayReqSend_notDue hl⟩, fun m t1 t2 h => ends_pdelayReqAnswer t1 t2 hl h, fun resp follow t t1 h => ?_⟩
  refine ⟨fun hout hanswers hat htwo => ⟨fun hgood => ?good, fun hbad => ?bad⟩, ends_pdelayResp_unasked hl h⟩
  case good =>
    obtain ⟨u, hexec, honly, ⟨n, hy⟩, -⟩ := ends_pdelayResp hl h hout hanswers hat htwo rfl (decide_eq_true hgood)
    refine ⟨u, hexec, honly, ?_⟩
    beta_reduce
    rw [show getAt u.net.ports p = _ from hy]
    exact ⟨rfl, rfl, rfl, rfl, capable_exchangeEnded_good _ _⟩
  case bad =>
    obtain ⟨u, hexec, honly, ⟨n, hy⟩, hcode⟩ :=
      ends_pdelayResp hl h hout hanswers hat htwo rfl (decide_eq_false (Nat.not_le.2 hbad))
    have hcapable := capable_exchangeEnded_bad (linkDelay t1 t (payloadOf (bodyOf resp)) (payloadOf (bodyOf follow))) x
    refine ⟨u, hexec, honly, ?_⟩
    beta_reduce
    rw [show getAt u.net.ports p = _ from hy]
    refine ⟨rfl, rfl, rfl, rfl, capable_exchangeEnded_bad _ _, fun hfail => hcode ?_⟩
    rw [show getAt s.net.ports (portNo port) = x from rfl, hcapable, decide_eq_false (by omega), Bool.and_false]

end Sys2Proof.Proofs
end

section
/-! PROOFS. Announce messages: how they reach the slaves of plant time. -/
namespace Sys2Proof.Proofs
open Sys2Proof Sys2Proof.Machine Sys2Proof.Laws

/-! ### The slaves of a port -/

theorem instDomain_of_store {s t : State} (h : t.store = s.store) (i : Nat) : instDomain i t = instDomain i s := by
  simp only [instDomain, cfgN_of_store h]

theorem mem_instancesOf {p domain i : Nat} {s : State} :
    i ∈ instancesOf p domain s ↔ i < 4 ∧ instLan i = lanOf p ∧ instDomain i s = domain := by
  simp [instancesOf]

theorem instancesOf_nodup (p domain : Nat) (s : State) : (instancesOf p domain s).Nodup := List.nodup_range.filter _

/-! ### A message counted and forwarded (R281) -/

/-- The state once a message has been counted at its port and forwarded. -/
def forwarded (p : Nat) (f : List Byte) (s : State) : State := ptpForward p (bodyOf f) (ptpCount p f s)

theorem only_ptpForward (p : Nat) (body : List Byte) (s : State) : Only [.net, .flt] s (ptpForward p body s) :=
  (framesSent_sendPorts _ _ _ _ s).only

theorem only_forwarded (p : Nat) (f : List Byte) (s : State) : Only [.net, .flt] s (forwarded p f s) :=
  only_trans (only_mono (frameCounted_ptpCount p f s).only (by simp)) (only_ptpForward _ _ _)

theorem cfgBytes_of_store {s t : State} (h : t.store = s.store) (e : Entry) (k : Nat) : cfgBytes e t k = cfgBytes e s k := by
  rw [cfgBytes, cfgBytes, cfgVal, cfgVal, h]

theorem capable_ptpCount (p : Nat) (f : List Byte) (s : State) :
    (getAt (ptpCount p f s).net.ports p).capable = (getAt s.net.ports p).capable :=
  (frameCounted_ptpCount p f s).port (g := (·.capable)) (fun _ _ => rfl) p

theorem ingressCorr_congr {p : Nat} {s t : State} (hdelay : (getAt t.net.ports p).delay = (getAt s.net.ports p).delay)
    (hstore : t.store = s.store) : ingressCorr p t = ingressCorr p s := by
  simp only [ingressCorr, asym, hdelay, cfgBytes_of_store hstore]

theorem ingressCorr_ptpCount (p : Nat) (f : List Byte) (s : State) : ingressCorr p (ptpCount p f s) = ingressCorr p s :=
  have hcounted := frameCounted_ptpCount p f s
  ingressCorr_congr (hcounted.port (g := (·.delay)) (fun _ _ => rfl) p) (hcounted.only .store (by decide))

theorem ingressCorr_ptpForward (p q : Nat) (body : List Byte) (s : State) : ingressCorr p (ptpForward q body s) = ingressCorr p s :=
  have hsent : FramesSent s (ptpForward q body s) := framesSent_sendPorts _ _ _ _ s
  ingressCorr_congr (hsent.port (g := (·.delay)) (fun _ => rfl) p) hsent.store

/-! ### Masters (R282) -/

/-- A slave selects the best of the masters that it has heard. -/
theorem selectMaster_selects {i : Nat} (hi : i < 4) (s : State) :
    (inst i (selectMaster i s)).masters = (inst i s).masters ∧ (inst i (selectMaster i s)).master = bestMaster (inst i s).masters := by
  rw [selectMaster, inst_modInst_same hi]
  exact ⟨rfl, rfl⟩

theorem only_hearMaster (d : Master) (i : Nat) (s : State) : Only [.ptp] s (hearMaster d i s) :=
  only_trans (only_modInst _ _ s) (only_modInst _ _ _)

/-- A slave has heard of a master, and its own is the best it has heard of. -/
def HasHeard (d : Master) (i : Nat) (s : State) : Prop := d ∈ (inst i s).masters ∧ (inst i s).master = bestMaster (inst i s).masters

theorem hasHeard_hearMaster (d : Master) {i : Nat} (hi : i < 4) (s : State) : HasHeard d i (hearMaster d i s) := by
  obtain ⟨hmasters, hmaster⟩ :=
    selectMaster_selects hi (modInst i (fun x => { x with masters := x.masters.filter (·.src != d.src) ++ [d] }) s)
  refine ⟨?_, hmaster.trans (congrArg bestMaster hmasters.symm)⟩
  rw [hearMaster, hmasters, inst_modInst_same hi]
  exact List.mem_append_right _ List.mem_cons_self

theorem inst_hearMaster_other {i k : Nat} (h : k ≠ i) (d : Master) (s : State) : inst k (hearMaster d i s) = inst k s :=
  (inst_modInst_other h _ _).trans (inst_modInst_other h _ s)

/-- What all the slaves of a list hear, each of them has heard. -/
theorem hasHeard_of_mem {d : Master} {i : Nat} (hi : i < 4) {is : List Nat} (hmem : i ∈ is) (s : State) :
    HasHeard d i (forAll is (hearMaster d) s) := by
  refine forAll_establishes (I := fun _ => True) hmem (fun _ _ _ => trivial) (fun k _ u hu => ?_)
    (fun u _ => hasHeard_hearMaster d hi u) trivial
  by_cases hk : i = k
  · subst hk
    exact hasHeard_hearMaster d hi u
  · rwa [HasHeard, inst_hearMaster_other hk]

/-- An Announce of an accepted interval is heard by the slaves of its LAN and domain. -/
theorem announce_heard {p every : Nat} {f : List Byte} {s : State} (h : ptpArrives 11 p f s = true) (hon : cfgB Ent.PTP_ENABLE s = true)
    (hevery : ptpEvery 0 1 (payloadOf (bodyOf f)) = some every) :
    announce p f s = chooseRef (forAll (instancesOf p (ptpDomain (payloadOf (bodyOf f))) (forwarded p f s))
      (hearMaster { masterOf (payloadOf (bodyOf f)) with at_ := s.now, every := every }) (forwarded p f s)) := by
  have honly := only_forwarded p f s
  have hon' : cfgB Ent.PTP_ENABLE (forwarded p f s) = true := by rw [cfgB_of_store (honly .store (by decide)), hon]
  have hnow : (forwarded p f s).now = s.now := honly .now (by decide)
  rw [← hnow]
  unfold announce
  dsimp only
  rw [ptpTake_arrives h, hevery]
  exact if_pos hon'

theorem announce_unused {p : Nat} {f : List Byte} {s : State} (h : ptpArrives 11 p f s = true)
    (hevery : ptpEvery 0 1 (payloadOf (bodyOf f)) = none) : announce p f s = forwarded p f s := by
  unfold announce
  dsimp only
  rw [ptpTake_arrives h, hevery]
  rfl

section
variable {port : Port} {f : List Byte} {t : Nat} {s : State} (hl : live s = true) (h : ptpArrives 11 (portNo port) f s = true)
include hl h

theorem ends_announce {every : Nat} (hon : cfgB Ent.PTP_ENABLE s = true) (hevery : ptpEvery 0 1 (payloadOf (bodyOf f)) = some every) :
    Ends (.announce port f t) s [.now, .net, .ptp, .locked, .flt] fun u =>
      ∀ i, i < 4 → instLan i = lanOf (portNo port) → instDomain i s = ptpDomain (payloadOf (bodyOf f)) →
        HasHeard { masterOf (payloadOf (bodyOf f)) with at_ := max s.now t, every := every } i u := by
  have hforwarded := only_forwarded (portNo port) f (atTime t s.begin)
  have heffect := announce_heard (s := atTime t s.begin) h hon hevery
  generalize forwarded (portNo port) f (atTime t s.begin) = v at *
  have hstore : v.store = s.store := hforwarded .store (by decide)
  generalize hd : { masterOf (payloadOf (bodyOf f)) with at_ := (atTime t s.begin).now, every := every : Master } = d at heffect
  have hmem (i : Nat) (hi : i < 4) (hlan : instLan i = lanOf (portNo port)) (hdomain : instDomain i s = ptpDomain (payloadOf (bodyOf f))) :=
    hasHeard_of_mem (d := d) hi (mem_instancesOf.2 ⟨hi, hlan, (instDomain_of_store hstore i).trans hdomain⟩) v
  have hheard := only_forAll [.ptp] (instancesOf (portNo port) (ptpDomain (payloadOf (bodyOf f))) v) _ (only_hearMaster d) v
  generalize forAll (instancesOf (portNo port) (ptpDomain (payloadOf (bodyOf f))) v) (hearMaster d) v = w at *
  have hclock := (clockOnly_chooseRef w).1
  have hkept := instancesKept_chooseRef w
  generalize chooseRef w = u at *
  refine ends_of_effect (f := fun s => announce (portNo port) f (atTime t s)) rfl hl heffect
    (only_trans (only_mono (only_atTime t s.begin) (by simp)) (only_trans (only_mono hforwarded (by simp))
      (only_trans (only_mono hheard (by simp)) (only_mono hclock (by simp))))) fun i hi hlan hdomain => ?_
  rw [show ({ masterOf (payloadOf (bodyOf f)) with at_ := max s.now t, every := every } : Master) = d from hd]
  show HasHeard d i u
  rw [HasHeard, hkept.reg (g := (·.masters)) (fun _ => rfl), hkept.reg (g := (·.master)) (fun _ => rfl)]
  exact hmem i hi hlan hdomain

/-- An Announce of an interval that is not accepted is forwarded only. -/
theorem ends_announce_unused (hevery : ptpEvery 0 1 (payloadOf (bodyOf f)) = none) :
    Ends (.announce port f t) s [.now, .net, .flt] fun u => u.now = max s.now t := by
  have hforwarded := only_forwarded (portNo port) f (atTime t s.begin)
  exact ends_of_effect (f := fun s => announce (portNo port) f (atTime t s)) rfl hl (announce_unused (s := atTime t s.begin) h hevery)
    (only_trans (only_mono (only_atTime t s.begin) (by simp)) (only_mono hforwarded (by simp))) (hforwarded .now (by decide))

end

end Sys2Proof.Proofs
end

section
/-! PROOFS. Sync and Follow_Up messages: how they reach the slaves of plant time. -/
namespace Sys2Proof.Proofs
open Sys2Proof Sys2Proof.Machine Sys2Proof.Laws

/-! ### The servo (R284) -/

/-- The clock with an offset of its reference taken, and the free correction that follows. -/
def offsetTaken (off : Int) (run : Nat) (s : State) : State :=
  logFreq (satS 32 (Config.freeValue s.freeNo))
    { s with freeNo := s.freeNo + 1, ptp := { s.ptp with offset := satS 32 off, outRun := min run 4 } }

/-- The servo takes the offset, and may put the clock in another state. -/
theorem servo_cases (off : Int) (s : State) :
    ∃ run, servo off s = offsetTaken off run s ∨ ∃ x, servo off s = setPtp x (offsetTaken off run s) := by
  unfold servo
  extract_lets within run
  refine ⟨run, ?_⟩
  unfold drawFree
  dsimp only
  split
  · exact .inr ⟨_, rfl⟩
  split
  · exact .inr ⟨_, rfl⟩
  · exact .inl rfl

/-- The parts of a clock that takes an offset. -/
def clockParts : List Part := [.ptp, .locked, .flt, .freeNo]

/-- The servo works on the local clock alone. -/
theorem servo_leaves (off : Int) (s : State) : Only clockParts s (servo off s) ∧ InstancesKept s (servo off s) := by
  obtain ⟨run, hcases⟩ := servo_cases off s
  have htaken : Only clockParts s (offsetTaken off run s) := fun p hp => by
    cases p with
    | ptp | freeNo => exact absurd (by decide) hp
    | _ => rfl
  have hkept : InstancesKept s (offsetTaken off run s) := instancesKept_of_inst rfl rfl rfl
  rcases hcases with h | ⟨x, h⟩ <;> rw [h]
  · exact ⟨htaken, hkept⟩
  · exact ⟨only_trans htaken (only_mono (clockOnly_setPtp x _).1 (by decide)), instancesKept_trans hkept (setPtp_puts x _).kept⟩

/-! ### A Sync that a slave takes (R282) -/

/-- A slave takes a Sync of its master. -/
def takeSync (p src every : Nat) (off : Int) (i : Nat) (s : State) : State :=
  if (inst i s).master.map (·.src) == some src then
    let s := chooseRef (modInst i (fun x => { x with sync := true, syncAt := s.now, every := every, port := p, offset := off }) s)
    if s.ptp.ref == some i then servo off s else s
  else s

/-- A Sync of an accepted interval is taken by the slaves of its port and domain. -/
theorem acceptSync_some (p src domain every : Nat) (off : Int) (s : State) :
    acceptSync p src domain (some every) off s = forAll (instancesOf p domain s) (takeSync p src every off) s := rfl

/-- The slave with the Sync noted, before the reference is chosen. -/
def syncNoted (p every : Nat) (off : Int) (i : Nat) (s : State) : State :=
  modInst i (fun x => { x with sync := true, syncAt := s.now, every := every, port := p, offset := off }) s

/-- A Sync of its master is noted in the slave; what follows leaves the slaves. -/
theorem takeSync_notes {src i : Nat} {s : State} (hmaster : ((inst i s).master.map (·.src) == some src) = true)
    (p every : Nat) (off : Int) :
    Only clockParts (syncNoted p every off i s) (takeSync p src every off i s) ∧
      InstancesKept (syncNoted p every off i s) (takeSync p src every off i s) := by
  have hclock := only_mono (clockOnly_chooseRef (syncNoted p every off i s)).1 (qs := clockParts) (by decide)
  have hkept := instancesKept_chooseRef (syncNoted p every off i s)
  have hservo := servo_leaves off (chooseRef (syncNoted p every off i s))
  rw [takeSync, if_pos hmaster]
  dsimp only
  split
  · exact ⟨only_trans hclock hservo.1, instancesKept_trans hkept hservo.2⟩
  · exact ⟨hclock, hkept⟩

/-- A Sync of another master changes nothing. -/
theorem takeSync_cases (p src every : Nat) (off : Int) (i : Nat) (s : State) :
    takeSync p src every off i s = s ∨ (Only clockParts (syncNoted p every off i s) (takeSync p src every off i s) ∧
      InstancesKept (syncNoted p every off i s) (takeSync p src every off i s)) := by
  by_cases hmaster : ((inst i s).master.map (·.src) == some src) = true
  · exact .inr (takeSync_notes hmaster p every off)
  · exact .inl (if_neg hmaster)

theorem only_takeSync (p src every : Nat) (off : Int) (i : Nat) (s : State) : Only clockParts s (takeSync p src every off i s) := by
  rcases takeSync_cases p src every off i s with h | ⟨h, -⟩
  · rw [h]
    exact only_refl _ s
  · exact only_trans (only_mono (only_modInst _ _ s) (by decide)) h

theorem pend_takeSync (p src every : Nat) (off : Int) (i : Nat) (s : State) : (takeSync p src every off i s).ptp.pend = s.ptp.pend := by
  rcases takeSync_cases p src every off i s with h | ⟨-, h⟩
  · rw [h]
  · exact h.pend

/-- A Sync of another slave leaves what a slave has. -/
theorem takeSync_other {β : Type} {g : PtpInst → β} (hg : ∀ x, g (untracked x) = g x) {i k : Nat} (hk : k ≠ i) (p src every : Nat)
    (off : Int) (s : State) : g (inst k (takeSync p src every off i s)) = g (inst k s) := by
  rcases takeSync_cases p src every off i s with h | ⟨-, h⟩
  · rw [h]
  · rw [h.reg hg, syncNoted, inst_modInst_other hk]

/-- A slave has taken a Sync at an instant, with its port and offset. -/
def SyncTaken (now p : Nat) (off : Int) (i : Nat) (s : State) : Prop :=
  (inst i s).sync = true ∧ (inst i s).syncAt = now ∧ (inst i s).port = p ∧ (inst i s).offset = off

theorem takeSync_takes {p src i : Nat} {s : State} (hi : i < 4) (hmaster : (inst i s).master.map (·.src) = some src) (every : Nat)
    (off : Int) : SyncTaken s.now p off i (takeSync p src every off i s) := by
  obtain ⟨-, hkept⟩ := takeSync_notes (beq_iff_eq.2 hmaster) p every off
  have hnoted : inst i (syncNoted p every off i s) = _ := inst_modInst_same hi _ s
  refine ⟨?_, ?_, ?_, ?_⟩
  · rw [hkept.reg (g := (·.sync)) (fun _ => rfl), hnoted]
  · rw [hkept.reg (g := (·.syncAt)) (fun _ => rfl), hnoted]
  · rw [hkept.reg (g := (·.port)) (fun _ => rfl), hnoted]
  · rw [hkept.reg (g := (·.offset)) (fun _ => rfl), hnoted]

/-- A Sync of an accepted interval reaches the slaves of its port and domain whose master sent it, and leaves the waiting ones. -/
theorem acceptSync_reaches (p src domain every : Nat) (off : Int) (s : State) :
    Only clockParts s (acceptSync p src domain (some every) off s) ∧
    (acceptSync p src domain (some every) off s).ptp.pend = s.ptp.pend ∧
    ∀ i, i < 4 → instLan i = lanOf p → instDomain i s = domain → (inst i s).master.map (·.src) = some src →
      SyncTaken s.now p off i (acceptSync p src domain (some every) off s) := by
  rw [acceptSync_some]
  refine ⟨only_forAll _ _ _ (only_takeSync p src every off) s, forAll_eq (·.ptp.pend) _ _ (pend_takeSync p src every off) s,
    fun i hi hlan hdomain hmaster => ?_⟩
  refine forAll_once (P := fun t => t.now = s.now ∧ (inst i t).master.map (·.src) = some src) (instancesOf_nodup _ _ _)
    (mem_instancesOf.2 ⟨hi, hlan, hdomain⟩) (fun k t hk ht => ⟨?_, ?_⟩) (fun k t hk ht => ?_) (fun t ht => ?_) ⟨rfl, hmaster⟩
  · exact (only_takeSync p src every off k t .now (by decide)).trans ht.1
  · rw [takeSync_other (g := (·.master)) (fun _ => rfl) hk.symm, ht.2]
  · rwa [SyncTaken, takeSync_other (g := (·.sync)) (fun _ => rfl) hk.symm, takeSync_other (g := (·.syncAt)) (fun _ => rfl) hk.symm,
      takeSync_other (g := (·.port)) (fun _ => rfl) hk.symm, takeSync_other (g := (·.offset)) (fun _ => rfl) hk.symm]
  · exact ht.1 ▸ takeSync_takes hi ht.2 every off

/-- What an operation changes it changes whatever the registers of plant time hold. -/
theorem only_withPtp {ps : List Part} {s t : State} (h : Only ps s t) (x : PtpRegs) : Only ps { s with ptp := x } { t with ptp := x } :=
  fun p hp => by
  cases p with
  | ptp => rfl
  | _ => exact h _ hp

/-- A command that counts and forwards a message at its instant and gives its Sync to the slaves. -/
theorem ends_of_accepted {c : Instr} {f : State → State} {s v : State} {p src domain every t : Nat} {off : Int} {pend : List PendSync}
    (he : exec c s = whenLiveK f s) (hl : live s = true)
    (hf : f s.begin = acceptSync p src domain (some every) off v)
    (hv : Only [.net, .flt] { atTime t s.begin with ptp := { s.ptp with pend := pend } } v) :
    Ends c s [.now, .net, .ptp, .locked, .flt, .freeNo] fun u => u.ptp.pend = pend ∧
      ∀ i, i < 4 → instLan i = lanOf p → instDomain i s = domain → (inst i s).master.map (·.src) = some src →
        SyncTaken (max s.now t) p off i u := by
  obtain ⟨honly, hpend, htaken⟩ := acceptSync_reaches p src domain every off v
  have hstore : v.store = s.store := hv .store (by decide)
  have hptp : v.ptp = { s.ptp with pend := pend } := hv .ptp (by decide)
  have hnow : v.now = max s.now t := hv .now (by decide)
  have hinst (i : Nat) : inst i v = inst i s := by rw [inst, hptp]; rfl
  rw [hnow] at htaken
  generalize acceptSync p src domain (some every) off v = u at *
  refine ends_of_effect he hl hf
    (only_trans (only_mono (only_atTime t s.begin) (by simp)) (only_trans (only_mono (only_ptp _ _) (by simp))
      (only_trans (only_mono hv (by simp)) (only_mono honly (by decide))))) ⟨hpend.trans (congrArg (·.pend) hptp), ?_⟩
  exact fun i hi hlan hdomain hmaster => htaken i hi hlan ((instDomain_of_store hstore i).trans hdomain) (by rw [hinst, hmaster])

/-! ### A Sync that arrives (R281) -/

section
variable {p : Nat} {f : List Byte} {t out : Nat} {s : State} (h : ptpArrives 0 p f s = true)
include h

/-- A Sync of a port that is not capable is counted only. -/
theorem syncMessage_uncapable (hcap : (getAt s.net.ports p).capable = false) : syncMessage p f t out s = ptpCount p f s := by
  unfold syncMessage
  dsimp only
  rw [ptpTake_arrives h, guardOn_false hcap]

/-- A two-step Sync, as it waits for its Follow_Up. -/
def waitingSync (p : Nat) (m : List Byte) (t out : Nat) (s : State) : PendSync :=
  { port := p, src := ptpSrc m, seq := ptpSeq m, domain := ptpDomain m, t := t, add := ((out : Int) - t) * 65536 + ingressCorr p s,
    corr := ptpCorr m, every := ptpEvery (-4) 1 m }

theorem syncMessage_twoStep (hcap : (getAt s.net.ports p).capable = true) (hstep : ptpTwoStep (payloadOf (bodyOf f)) = true) :
    ∃ x, x.inst = s.ptp.inst ∧ x.pend.head? = some (waitingSync p (payloadOf (bodyOf f)) t out s) ∧
      syncMessage p f t out s = ptpForward p (bodyOf f) { ptpCount p f s with ptp := x } := by
  have hptp : (ptpCount p f s).ptp = s.ptp := (frameCounted_ptpCount p f s).only .ptp (by decide)
  unfold syncMessage
  dsimp only
  rw [ptpTake_arrives h, guardOn_true hcap, if_pos hstep]
  exact ⟨_, by rw [hptp], by rw [ingressCorr_ptpCount]; rfl, rfl⟩

theorem syncMessage_oneStep (hcap : (getAt s.net.ports p).capable = true) (hstep : ptpTwoStep (payloadOf (bodyOf f)) = false) :
    ∃ body, syncMessage p f t out s = acceptSync p (ptpSrc (payloadOf (bodyOf f))) (ptpDomain (payloadOf (bodyOf f)))
      (ptpEvery (-4) 1 (payloadOf (bodyOf f)))
      ((t : Int) - ptpStamp (payloadOf (bodyOf f)) - Int.fdiv (ptpCorr (payloadOf (bodyOf f)) + ingressCorr p s) 65536)
      (ptpForward p body (ptpCount p f s)) := by
  unfold syncMessage
  dsimp only
  rw [ptpTake_arrives h, guardOn_true hcap, if_neg (by rw [hstep]; decide)]
  exact ⟨_, by rw [ingressCorr_ptpCount]⟩

end

section
variable {port : Port} {f : List Byte} {t out : Nat} {s : State} (hl : live s = true) (h : ptpArrives 0 (portNo port) f s = true)
include hl h

theorem ends_syncMessage_uncapable (hcap : (getAt s.net.ports (portNo port)).capable = false) :
    Ends (.syncMessage port f t out) s [.now, .net] fun u => u.now = max s.now t ∧ u.out = [] := by
  have hcounted := frameCounted_ptpCount (portNo port) f (atTime t s.begin)
  exact ends_of_effect (f := fun s => syncMessage (portNo port) f t out (atTime t s)) rfl hl
    (syncMessage_uncapable (s := atTime t s.begin) h hcap)
    (only_trans (only_mono (only_atTime t s.begin) (by simp)) (only_mono hcounted.only (by simp)))
    ⟨hcounted.only .now (by decide), hcounted.out⟩

theorem ends_syncMessage_twoStep (hcap : (getAt s.net.ports (portNo port)).capable = true)
    (hstep : ptpTwoStep (payloadOf (bodyOf f)) = true) :
    Ends (.syncMessage port f t out) s [.now, .net, .ptp, .flt] fun u =>
      u.ptp.inst = s.ptp.inst ∧ u.ptp.pend.head? = some (waitingSync (portNo port) (payloadOf (bodyOf f)) t out s) := by
  obtain ⟨x, hinst, hpend, heffect⟩ := syncMessage_twoStep (t := t) (out := out) (s := atTime t s.begin) h hcap hstep
  have hcounted := (frameCounted_ptpCount (portNo port) f (atTime t s.begin)).only
  generalize ptpCount (portNo port) f (atTime t s.begin) = v at *
  have hforwarded := only_ptpForward (portNo port) (bodyOf f) { v with ptp := x }
  generalize ptpForward (portNo port) (bodyOf f) { v with ptp := x } = u at *
  have hptp : u.ptp = x := hforwarded .ptp (by decide)
  exact ends_of_effect (f := fun s => syncMessage (portNo port) f t out (atTime t s)) rfl hl heffect
    (only_trans (only_mono (only_atTime t s.begin) (by simp)) (only_trans (only_mono hcounted (by simp))
      (only_trans (only_mono (only_ptp x v) (by simp)) (only_mono hforwarded (by simp)))))
    ⟨(congrArg (·.inst) hptp).trans hinst, (congrArg (·.pend.head?) hptp).trans hpend⟩

/-- A one-step Sync gives its offset to the slaves whose master sent it. -/
theorem ends_syncMessage_oneStep (hcap : (getAt s.net.ports (portNo port)).capable = true)
    (hstep : ptpTwoStep (payloadOf (bodyOf f)) = false) (hevery : (ptpEvery (-4) 1 (payloadOf (bodyOf f))).isSome = true) :
    Ends (.syncMessage port f t out) s [.now, .net, .ptp, .locked, .flt, .freeNo] fun u =>
      ∀ i, i < 4 → instLan i = lanOf (portNo port) → instDomain i s = ptpDomain (payloadOf (bodyOf f)) →
        (inst i s).master.map (·.src) = some (ptpSrc (payloadOf (bodyOf f))) →
        SyncTaken (max s.now t) (portNo port) ((t : Int) - ptpStamp (payloadOf (bodyOf f)) -
          Int.fdiv (ptpCorr (payloadOf (bodyOf f)) + ingressCorr (portNo port) s) 65536) i u := by
  obtain ⟨every, hevery⟩ := Option.isSome_iff_exists.1 hevery
  obtain ⟨body, heffect⟩ := syncMessage_oneStep (t := t) (out := out) (s := atTime t s.begin) h hcap hstep
  rw [hevery] at heffect
  obtain ⟨u, hexec, honly, -, htaken⟩ := ends_of_accepted (c := .syncMessage port f t out)
    (f := fun s => syncMessage (portNo port) f t out (atTime t s)) (t := t) rfl hl heffect
    (pend := s.ptp.pend) (only_trans (only_mono (frameCounted_ptpCount (portNo port) f _).only (by simp)) (only_ptpForward _ _ _))
  exact ⟨u, hexec, honly, htaken⟩

end

/-! ### A Follow_Up (R281) -/

section
variable {p : Nat} {f : List Byte} {t : Nat} {s : State} (h : ptpArrives 8 p f s = true)
include h

/-- A Follow_Up of no Sync that waits is counted only. -/
theorem followUp_alone (hpend : s.ptp.pend = []) : followUp p f t s = ptpCount p f s := by
  have hptp : (ptpCount p f s).ptp = s.ptp := (frameCounted_ptpCount p f s).only .ptp (by decide)
  unfold followUp
  dsimp only
  rw [ptpTake_arrives h, hptp, hpend]
  rfl

/-- A Follow_Up within 100 ms of its Sync completes it. -/
theorem followUp_completes {x : PendSync} (hpend : s.ptp.pend = [x]) (hfollows : follows p (payloadOf (bodyOf f)) x = true)
    (htime : t ≤ x.t + 100000000) (hcap : (getAt s.net.ports p).capable = true) :
    ∃ body, followUp p f t s = acceptSync p x.src x.domain x.every
      ((x.t : Int) - ptpStamp (payloadOf (bodyOf f)) - Int.fdiv (x.corr + ptpCorr (payloadOf (bodyOf f)) + ingressCorr p s) 65536)
      (ptpForward p body { ptpCount p f s with ptp := { s.ptp with pend := [] } }) := by
  have hptp : (ptpCount p f s).ptp = s.ptp := (frameCounted_ptpCount p f s).only .ptp (by decide)
  have hnone : s.ptp.pend.filter (fun y => !follows p (payloadOf (bodyOf f)) y) = [] := by simp [hpend, hfollows]
  have hfound : s.ptp.pend.find? (follows p (payloadOf (bodyOf f))) = some x := by simp [hpend, hfollows]
  have huse : (decide (x.t + 100000000 < t) || !(getAt (ptpCount p f s).net.ports p).capable) = false := by
    rw [capable_ptpCount, hcap, decide_eq_false (by omega)]
    rfl
  have hcorr (body : List Byte) :
      ingressCorr p (ptpForward p body { ptpCount p f s with ptp := { s.ptp with pend := [] } }) = ingressCorr p s :=
    (ingressCorr_ptpForward _ _ _ _).trans ((ingressCorr_congr rfl rfl).trans (ingressCorr_ptpCount p f s))
  unfold followUp
  dsimp only
  rw [ptpTake_arrives h, hptp, hfound]
  dsimp only
  rw [hnone, if_neg (by rw [huse]; decide), hcorr]
  exact ⟨_, rfl⟩

end

section
variable {port : Port} {f : List Byte} {t : Nat} {s : State} (hl : live s = true) (h : ptpArrives 8 (portNo port) f s = true)
include hl h

theorem ends_followUp_alone (hpend : s.ptp.pend = []) :
    Ends (.followUp port f t) s [.now, .net] fun u => u.now = max s.now t ∧ u.out = [] := by
  have hcounted := frameCounted_ptpCount (portNo port) f (atTime t s.begin)
  exact ends_of_effect (f := fun s => followUp (portNo port) f t (atTime t s)) rfl hl (followUp_alone (s := atTime t s.begin) h hpend)
    (only_trans (only_mono (only_atTime t s.begin) (by simp)) (only_mono hcounted.only (by simp)))
    ⟨hcounted.only .now (by decide), hcounted.out⟩

/-- A Follow_Up gives the offset of its Sync to the slaves whose master sent it. -/
theorem ends_followUp {x : PendSync} (hpend : s.ptp.pend = [x]) (hfollows : follows (portNo port) (payloadOf (bodyOf f)) x = true)
    (hevery : x.every.isSome = true) (htime : t ≤ x.t + 100000000) (hcap : (getAt s.net.ports (portNo port)).capable = true) :
    Ends (.followUp port f t) s [.now, .net, .ptp, .locked, .flt, .freeNo] fun u => u.ptp.pend = [] ∧
      ∀ i, i < 4 → instLan i = lanOf (portNo port) → instDomain i s = x.domain → (inst i s).master.map (·.src) = some x.src →
        SyncTaken (max s.now t) (portNo port) ((x.t : Int) - ptpStamp (payloadOf (bodyOf f)) -
          Int.fdiv (x.corr + ptpCorr (payloadOf (bodyOf f)) + ingressCorr (portNo port) s) 65536) i u := by
  obtain ⟨every, hevery⟩ := Option.isSome_iff_exists.1 hevery
  obtain ⟨body, heffect⟩ := followUp_completes (s := atTime t s.begin) h hpend hfollows htime hcap
  rw [hevery] at heffect
  have hcounted := only_withPtp (frameCounted_ptpCount (portNo port) f (atTime t s.begin)).only { s.ptp with pend := [] }
  exact ends_of_accepted (c := .followUp port f t) (f := fun s => followUp (portNo port) f t (atTime t s)) (t := t) rfl hl heffect
    (pend := []) (only_trans (only_mono hcounted (by simp)) (only_ptpForward _ _ _))

end

/-! ### The statement -/

/-- Settles O45: what chooses the reference leaves the slaves as the message has made them. -/
theorem ptpMessagesReachTheirInstances : Obligations.PtpMessagesReachTheirInstances := by
  intro port f t out s hl p m cap takes
  refine ⟨fun h => ⟨fun every hon hevery => ends_announce hl h hon hevery, ends_announce_unused hl h⟩,
    fun h => ⟨ends_syncMessage_uncapable hl h, ends_syncMessage_twoStep hl h, fun hcap hstep hevery => ?oneStep⟩,
    fun h => ⟨fun x hpend hport hsrc hseq hdomain hevery htime hcap => ?followUp, ends_followUp_alone hl h⟩⟩
  case oneStep =>
    obtain ⟨u, hexec, honly, htaken⟩ := ends_syncMessage_oneStep (t := t) (out := out) hl h hcap hstep hevery
    exact ⟨u, hexec, honly, fun i ⟨hi, hlan, hdomain, hmaster⟩ => htaken i hi hlan hdomain hmaster⟩
  case followUp =>
    have hfollows : follows p m x = true := by simp [follows, hport, hsrc, hseq, hdomain]
    obtain ⟨u, hexec, honly, hpending, htaken⟩ := ends_followUp hl h hpend hfollows hevery htime hcap
    refine ⟨u, hexec, honly, hpending, fun i ⟨hi, hlan, hdomain, hmaster⟩ => ?_⟩
    obtain ⟨hsync, -, htakenPort, hoffset⟩ := htaken i hi hlan hdomain hmaster
    exact ⟨hsync, htakenPort, hoffset⟩

end Sys2Proof.Proofs
end

section
/-! PROOFS. The timers of plant time: masters, qualification, Syncs, the return to the primary domain, holdover, the stored clock, and
the comparisons. -/
namespace Sys2Proof.Proofs
open Sys2Proof Sys2Proof.Machine Sys2Proof.Laws

/-- A slave whose grandmaster may have qualified. -/
def qualified (ns now : Nat) (x : PtpInst) : PtpInst := { x with qual := x.qual || (x.master.isSome && decide (x.gmSince + ns ≤ now)) }

theorem gmQualified_eq (i : Nat) (s : State) :
    gmQualified i s = chooseRef (modInst i (qualified (cfgN Ent.PTP_GM_QUAL_T s * 1000000000) s.now) s) := rfl

section
variable {c : Instr} {s : State} (hl : live s = true)
include hl

/-- A timer that works on a slave and then has the reference chosen: the slave is as it was made, and the reference has Syncs. -/
theorem ends_chooseRef {f : State → State} {v : State} (he : exec c s = whenLiveK f s) (hf : f s.begin = chooseRef v)
    (hv : Only [.ptp] s.begin v) : Ends c s [.ptp, .locked, .flt] fun u =>
      (∀ k, untracked (inst k u) = untracked (inst k v)) ∧ ∀ k, u.ptp.ref = some k → (inst k u).sync = true := by
  have hclock := (clockOnly_chooseRef v).1
  have hkept := (instancesKept_chooseRef v).inst
  have hsync (k : Nat) (h : (chooseRef v).ptp.ref = some k) : (inst k (chooseRef v)).sync = true :=
    sync_of_usable (usable_of_chooseRef h)
  generalize chooseRef v = u at *
  exact ends_of_effect he hl hf (only_trans (only_mono hv (by simp)) (only_mono hclock (by simp))) ⟨hkept, hsync⟩

/-! ### Masters, their qualification, and Syncs (R278, R282) -/

theorem ends_announceReceiptTimeout (i : Fin 4) : Ends (.announceReceiptTimeout i) s [.ptp, .locked, .flt] fun u =>
    (inst i.val u).masters = (inst i.val s).masters.filter (fun m => decide (s.now < m.at_ + 3 * m.every)) ∧
    (inst i.val u).master = bestMaster (inst i.val u).masters := by
  obtain ⟨u, hexec, honly, hinst, -⟩ := ends_chooseRef hl (c := .announceReceiptTimeout i) (f := announceTimeout i.val) rfl rfl
    (only_trans (only_modInst _ _ _) (only_modInst _ _ _))
  obtain ⟨hmasters, hmaster⟩ := selectMaster_selects i.isLt
    (modInst i.val (fun x => { x with masters := x.masters.filter fun m => s.now < m.at_ + 3 * m.every }) s.begin)
  rw [inst_modInst_same i.isLt] at hmasters hmaster
  have hkept := (reg_of_untracked (g := (·.masters)) (fun _ => rfl) (hinst i.val)).trans hmasters
  exact ⟨u, hexec, honly, hkept,
    ((reg_of_untracked (g := (·.master)) (fun _ => rfl) (hinst i.val)).trans hmaster).trans (congrArg bestMaster hkept.symm)⟩

theorem ends_gmQualTExpiry (i : Fin 4) : Ends (.gmQualTExpiry i) s [.ptp, .locked, .flt] fun u =>
    (inst i.val u).qual = ((inst i.val s).qual || ((inst i.val s).master.isSome &&
      decide ((inst i.val s).gmSince + cfgN Ent.PTP_GM_QUAL_T s * 1000000000 ≤ s.now))) ∧
    (inst i.val u).master = (inst i.val s).master := by
  obtain ⟨u, hexec, honly, hinst, -⟩ := ends_chooseRef hl (c := .gmQualTExpiry i) rfl (gmQualified_eq i.val s.begin)
    (only_modInst _ _ _)
  have hi := (hinst i.val).trans (congrArg untracked (inst_modInst_same i.isLt _ s.begin))
  exact ⟨u, hexec, honly, reg_of_untracked (g := (·.qual)) (fun _ => rfl) hi,
    (reg_of_untracked (g := (·.master)) (fun _ => rfl) hi).trans rfl⟩

theorem ends_syncReceiptTimeout (i : Fin 4) : Ends (.syncReceiptTimeout i) s [.ptp, .locked, .flt] fun u =>
    (inst i.val u).sync = ((inst i.val s).sync && decide (s.now < (inst i.val s).syncAt + 3 * (inst i.val s).every)) ∧
    ((inst i.val u).sync = false → u.ptp.ref ≠ some i.val) := by
  obtain ⟨u, hexec, honly, hinst, hsync⟩ := ends_chooseRef hl (c := .syncReceiptTimeout i) (f := syncTimeout i.val) rfl rfl
    (only_modInst _ _ _)
  have hi := hinst i.val
  rw [inst_modInst_same i.isLt] at hi
  exact ⟨u, hexec, honly, reg_of_untracked (g := (·.sync)) (fun _ => rfl) hi,
    fun hlost href => Bool.false_ne_true (hlost.symm.trans (hsync i.val href))⟩

end

/-! ### The return to the primary domain (R283) -/

section
variable {k : Nat} {s : State} (href : s.ptp.ref = some k) (hk : 2 ≤ k)
include href hk

theorem revert_takes {i : Nat} (ht : cfg Ent.PTP_REVERT_T s ≠ 0) (hto : revertTo s = some i) : revert s = takeRef i s := by
  simp [revert, href, hk, ht, hto]

theorem revert_stays (hto : revertTo s = none) : revert s = s := by
  simp [revert, href, hk, hto]

end

/-- The domain returned to is the primary one. -/
theorem revertTo_primary {i : Nat} {s : State} (h : revertTo s = some i) : i < 2 := by
  have hmem := List.mem_of_find?_eq_some h
  simp only [List.mem_cons, List.not_mem_nil, or_false] at hmem
  omega

section
variable {s : State} (hl : live s = true)
include hl

theorem ends_revertTimer {k i : Nat} (href : s.ptp.ref = some k) (hk : 2 ≤ k) (ht : cfg Ent.PTP_REVERT_T s ≠ 0)
    (hto : revertTo s = some i) :
    Ends .revertTimer s [.ptp, .locked, .flt] fun u =>
      u.ptp.ref = some i ∧ u.ptp.state = .slewing ∧ u.locked = true ∧ isActive 0x7011 wide u = false ∧
      (s.ptp.lastRef = some k → u.ptp.changes = incSat32 s.ptp.changes) := by
  have hprimary := revertTo_primary hto
  have heffect := revert_takes (s := s.begin) href hk ht hto
  have honly := (clockOnly_takeRef i s.begin).1
  have htaken := takeRef_takes i s.begin
  generalize takeRef i s.begin = u at *
  refine ends_of_effect rfl hl heffect (only_mono honly (by simp))
    ⟨htaken.ref, htaken.state, htaken.locked, htaken.primary hprimary, fun hlast => htaken.changes.trans (if_pos ?_)⟩
  have hother : k ≠ i := by omega
  simp [hlast, hother]

theorem sends_revertTimer {k : Nat} (href : s.ptp.ref = some k) (hk : 2 ≤ k) (hto : revertTo s = none) : Sends .revertTimer s [] :=
  sends_whenLiveK rfl hl (revert_stays (s := s.begin) href hk hto)

/-! ### Holdover and the stored clock (R282, R284) -/

theorem ends_holdoverExpiry (hstate : s.ptp.state = .holdover) (ht : cfgN Ent.PTP_HOLDOVER_T s * 1000 ≤ s.ptp.holdMs) :
    Ends .holdoverExpiry s [.ptp, .locked, .flt] fun u =>
      u.ptp = { s.ptp with state := .free, freq := s.ptp.storedFreq } ∧ u.locked = false ∧ isActive 0x7013 wide u = true := by
  have hguard : (s.ptp.state == .holdover && decide (cfgN Ent.PTP_HOLDOVER_T s * 1000 ≤ s.ptp.holdMs)) = true := by simp [hstate, ht]
  have heffect : holdoverExpiry s.begin = raiseF 0x7013 wide (setPtp .free s.begin) := guardOn_true (s := s.begin) hguard _
  have hclock := (clockOnly_setPtp .free s.begin).1
  have hraised := only_raiseF 0x7013 wide (setPtp .free s.begin)
  have hactive := isActive_raiseF 0x7013 wide (setPtp .free s.begin)
  generalize raiseF 0x7013 wide (setPtp .free s.begin) = u at *
  exact ends_of_effect rfl hl heffect (only_trans (only_mono hclock (by simp)) (only_mono hraised (by simp)))
    ⟨hraised .ptp (by decide), hraised .locked (by decide), hactive⟩

theorem sends_holdoverExpiry (ht : s.ptp.holdMs < cfgN Ent.PTP_HOLDOVER_T s * 1000) : Sends .holdoverExpiry s [] := by
  have hguard : (s.ptp.state == .holdover && decide (cfgN Ent.PTP_HOLDOVER_T s * 1000 ≤ s.ptp.holdMs)) = false := by simp [ht]
  exact sends_whenLiveK rfl hl (guardOn_false (s := s.begin) hguard _)

theorem ends_clockStore (hdue : due s.ptp.storeAt 1000000000 s = true) : Ends .clockStore s [.ptp] fun u =>
    u.ptp = { s.ptp with stored := s.now, storedFreq := s.ptp.freq, storeAt := some s.now } :=
  ends_of_effect rfl hl (guardOn_true (s := s.begin) hdue _) (only_ptp _ _) rfl

theorem sends_clockStore (hdue : due s.ptp.storeAt 1000000000 s = false) : Sends .clockStore s [] :=
  sends_whenLiveK rfl hl (guardOn_false (s := s.begin) hdue _)

/-! ### A disagreement (R286) -/

theorem ends_domainDisagree {lans : Bool} {c : Nat} (h : domainDisagree lans s.begin = raiseF c wide s.begin) :
    Ends (.domainDisagree lans) s [.flt] fun u => isActive c wide u = true := by
  have honly := only_raiseF c wide s.begin
  have hactive := isActive_raiseF c wide s.begin
  generalize raiseF c wide s.begin = u at *
  exact ends_of_effect rfl hl h honly hactive

end

/-- How long a difference has been beyond its limit. -/
theorem sinceNow_beyond {d : Option Int} {x : Int} (h : d = some x) (lim : Nat) (old : Option Nat) (s : State) :
    sinceNow (d.any fun x => decide (lim < x.natAbs)) old s = if lim < x.natAbs then some (old.getD s.now) else none := by
  simp [sinceNow, h]

/-! ### The statement -/

/-- Settles O46: each timer has its effect when its time has come, and what chooses the reference leaves the slaves. -/
theorem ptpTimers : Obligations.PtpTimers := by
  intro s hl
  refine ⟨ends_announceReceiptTimeout hl, ends_gmQualTExpiry hl, ends_syncReceiptTimeout hl, fun k href hk ht =>
      ⟨fun i hto => ends_revertTimer hl href hk ht hto, sends_revertTimer hl href hk⟩,
    fun hstate => ⟨ends_holdoverExpiry hl hstate, sends_holdoverExpiry hl⟩, ends_clockStore hl, sends_clockStore hl,
    fun d hd => sinceNow_beyond hd _ _ s, fun d hd => sinceNow_beyond hd _ _ s, fun t ht => ⟨fun hheld => ?_, fun hnot => ?_⟩,
    fun t ht => ⟨fun hheld => ?_, fun hnot => ?_⟩⟩
  · exact ends_domainDisagree hl (guardOn_true ((heldFor_of_since ht _ s.begin).trans (decide_eq_true hheld)) _ _)
  · exact sends_whenLiveK rfl hl (guardOn_false ((heldFor_of_since ht _ s.begin).trans (decide_eq_false (Nat.not_le.2 hnot))) _ _)
  · exact ends_domainDisagree hl (guardOn_true ((heldFor_of_since ht _ s.begin).trans (decide_eq_true hheld)) _ _)
  · exact sends_whenLiveK rfl hl (guardOn_false ((heldFor_of_since ht _ s.begin).trans (decide_eq_false (Nat.not_le.2 hnot))) _ _)

end Sys2Proof.Proofs
end
